-- ==== Sys2Proof/Word.lean ====
section
/-! DEFINITION. The byte and the 32-bit register word. -/
namespace Sys2Proof

/-- One byte of a frame, a value or a memory. -/
abbrev Byte := BitVec 8

/-- One 32-bit register or instruction word (R50, R282). -/
abbrev Word := BitVec 32

end Sys2Proof
end

