-- ==== Sys2Proof/Machine/Bytes.lean ====
section
/-! DEFINITION. Byte order, bit fields and two's complement: values are carried little-endian (R36), KMP headers and
frames in network order (R45). -/
namespace Sys2Proof.Machine

/-- A natural number as a byte (its low eight bits). -/
def byte (n : Nat) : Byte := BitVec.ofNat 8 n

/-- Little-endian bytes as a number. -/
def leNat : List Byte → Nat
  | [] => 0
  | b :: t => b.toNat + 256 * leNat t

/-- The low `n` bytes of a number, little-endian. -/
def leBytes : Nat → Nat → List Byte
  | 0, _ => []
  | n + 1, x => byte x :: leBytes n (x / 256)

/-- Big-endian bytes as a number, onto an accumulator. -/
def beNatFrom (acc : Nat) : List Byte → Nat
  | [] => acc
  | b :: t => beNatFrom (acc * 256 + b.toNat) t

/-- Big-endian (network order) bytes as a number. -/
def beNat (bs : List Byte) : Nat := beNatFrom 0 bs

/-- The low `n` bytes of a number, big-endian. -/
def beBytes (n x : Nat) : List Byte := (leBytes n x).reverse

/-- `n` bytes from offset `a`; fewer where the list ends. -/
def slice (bs : List Byte) (a n : Nat) : List Byte := (bs.drop a).take n

/-- `n` little-endian bytes at an offset, as a number. -/
def leAt (bs : List Byte) (a n : Nat) : Nat := leNat (slice bs a n)

/-- `n` network-order bytes at an offset, as a number. -/
def beAt (bs : List Byte) (a n : Nat) : Nat := beNat (slice bs a n)

/-- Byte at an offset, zero beyond the end. -/
def byteAt (bs : List Byte) (a : Nat) : Nat := (bs.getD a 0).toNat

/-- `n` zero bytes. -/
def zeros (n : Nat) : List Byte := List.replicate n 0

/-- The first `n` bytes, zero-extended to exactly `n`. -/
def padTo (n : Nat) (bs : List Byte) : List Byte := bs.take n ++ zeros (n - bs.length)

/-- Bits `lo` up to `lo + w - 1` of a number. -/
def bits (x lo w : Nat) : Nat := (x >>> lo) % 2 ^ w

/-- Bit `i` of a number. -/
def bit (x i : Nat) : Bool := x.testBit i

/-- Set or clear bit `i`. -/
def setBit (x i : Nat) (b : Bool) : Nat :=
  if b then x ||| 2 ^ i else if x.testBit i then x - 2 ^ i else x

/-- Clear the bits of `x` that are set in `m` (a write of one to W1C bits, R51). -/
def clearBits (x m : Nat) : Nat := x - (x &&& m)

/-- A bool as 0 or 1. -/
def b2n (b : Bool) : Nat := if b then 1 else 0

/-- The two's complement value of a `w`-bit number. -/
def toInt (w x : Nat) : Int := if x % 2 ^ w < 2 ^ (w - 1) then (x % 2 ^ w : Nat) else (x % 2 ^ w : Nat) - (2 ^ w : Nat)

/-- The `w`-bit two's complement encoding of an integer. -/
def ofInt (w : Nat) (x : Int) : Nat := (x % (2 ^ w : Nat)).toNat

/-- Replace the bytes from offset `a` on by `new`, keeping what lies before and beyond (R36). -/
def splice (old : List Byte) (a : Nat) (new : List Byte) : List Byte :=
  old.take a ++ new ++ old.drop (a + new.length)

/-- One step of a reflected CRC over one bit. -/
def crcBit (poly crc : Nat) : Nat := if crc % 2 = 1 then (crc / 2) ^^^ poly else crc / 2

/-- One byte of a reflected CRC. -/
def crcByte (poly crc : Nat) (b : Byte) : Nat :=
  crcBit poly (crcBit poly (crcBit poly (crcBit poly (crcBit poly (crcBit poly (crcBit poly (crcBit poly
    (crc ^^^ b.toNat))))))))

/-- A reflected CRC over bytes. -/
def crcRefl (poly init : Nat) (bs : List Byte) : Nat := bs.foldl (crcByte poly) init

/-- One bit of an unreflected 16-bit CRC. -/
def crc16Bit (poly crc : Nat) : Nat :=
  if crc ≥ 0x8000 then ((crc * 2) % 0x10000) ^^^ poly else crc * 2

/-- One byte of an unreflected 16-bit CRC. -/
def crc16Byte (poly crc : Nat) (b : Byte) : Nat :=
  crc16Bit poly (crc16Bit poly (crc16Bit poly (crc16Bit poly (crc16Bit poly (crc16Bit poly (crc16Bit poly (crc16Bit poly
    (crc ^^^ (b.toNat * 256)))))))))

/-- An unreflected 16-bit CRC over bytes. -/
def crc16 (poly init : Nat) (bs : List Byte) : Nat := bs.foldl (crc16Byte poly) init

/-- CRC-32 of IEEE 802.3 over bytes. -/
def crc32 (bs : List Byte) : Nat := crcRefl 0xEDB88320 0xFFFFFFFF bs ^^^ 0xFFFFFFFF

/-- The absolute value of an integer, as a number. -/
def absInt (x : Int) : Nat := x.natAbs

/-- The larger of two integers. -/
def maxInt (a b : Int) : Int := if a < b then b else a

/-- The smaller of two integers. -/
def minInt (a b : Int) : Int := if a < b then a else b

/-- Integer square root by bits, from the highest bit tried. -/
def isqrtFrom (x : Nat) : Nat → Nat → Nat
  | 0, r => r
  | b + 1, r => let c := r + 2 ^ b; isqrtFrom x b (if c * c ≤ x then c else r)

/-- The largest number whose square is at most `x`. -/
def isqrt (x : Nat) : Nat := isqrtFrom x (Nat.log2 x / 2 + 1) 0

end Sys2Proof.Machine
end

