-- ==== Sys2Proof/Machine/Tab.lean ====
section
/-! DEFINITION. Sparse tables of plain data: pairs of a key and a value, keys strictly rising, and no pair whose value is
what an unlisted key reads as. Every addressed store of the model (objects, registers by number, memories) is one. -/
namespace Sys2Proof.Machine

/-- A sparse table from numbers to values. -/
abbrev Tab (α : Type) := List (Nat × α)

/-- The value at key `n`; `d` is what an unlisted key reads as. -/
def tget {α : Type} (d : α) : Tab α → Nat → α
  | [], _ => d
  | (k, v) :: t, n => if n = k then v else tget d t n

/-- List key `n` with a value, in its place in the order. -/
def tins {α : Type} : Tab α → Nat → α → Tab α
  | [], n, x => [(n, x)]
  | (k, v) :: t, n, x => if n < k then (n, x) :: (k, v) :: t else if n = k then (n, x) :: t else (k, v) :: tins t n x

/-- Write key `n`, keeping the canonical form: writing `d` removes the pair. -/
def tput {α : Type} [DecidableEq α] (d : α) (t : Tab α) (n : Nat) (x : α) : Tab α :=
  if x = d then t.filter (fun p => decide (p.1 ≠ n)) else tins t n x

/-- Keys strictly rising from a bound. -/
def trising {α : Type} : Nat → Tab α → Bool
  | _, [] => true
  | lo, (k, _) :: t => decide (lo ≤ k) && trising (k + 1) t

/-- The canonical form: keys strictly rising, and no pair holds its key's unlisted value. -/
def tabWf {α : Type} [DecidableEq α] (d : Nat → α) (t : Tab α) : Bool :=
  trising 0 t && t.all (fun p => decide (p.2 ≠ d p.1))

/-- Change every listed value, dropping the pairs that become the unlisted value. -/
def tmap {α : Type} [DecidableEq α] (d : α) (f : α → α) (t : Tab α) : Tab α :=
  (t.map (fun p => (p.1, f p.2))).filter (fun p => decide (p.2 ≠ d))

/-- Remove every key the test names. -/
def tdrop {α : Type} (p : Nat → Bool) (t : Tab α) : Tab α := t.filter (fun x => !p x.1)

/-- Write `n` consecutive keys from `a` with the values of a list. -/
def tputAll {α : Type} [DecidableEq α] (d : α) : Tab α → Nat → List α → Tab α
  | t, _, [] => t
  | t, a, x :: xs => tputAll d (tput d t a x) (a + 1) xs

/-- Read `n` consecutive keys from `a`. -/
def tgetAll {α : Type} (d : α) (t : Tab α) (a : Nat) : Nat → List α
  | 0 => []
  | n + 1 => tget d t a :: tgetAll d t (a + 1) n

/-- Replace element `n` of a list; a position outside the list changes nothing. -/
def lset {α : Type} (l : List α) (n : Nat) (x : α) : List α := l.set n x

/-- Element `n` of a list, or `d` outside it. -/
def lget {α : Type} (d : α) (l : List α) (n : Nat) : α := l.getD n d

end Sys2Proof.Machine
end

