-- ==== Sys2Proof/Machine/Types.lean ====
section
/-! DEFINITION. The words the object dictionary is described in (R34 to R40), and the requests and responses that
travel on the access paths (R42). -/
namespace Sys2Proof.Machine

/-- Object types (R36). -/
inductive Ty where
  | bool | u8 | u16 | u32 | u64 | i8 | i16 | i32 | i64 | f32 | f64 | ts64 | ktime | octets | vstring
deriving DecidableEq, Repr

/-- The type's code (R36). -/
def Ty.code : Ty → Nat
  | .bool => 0x01 | .u8 => 0x02 | .u16 => 0x03 | .u32 => 0x04 | .u64 => 0x05 | .i8 => 0x06 | .i16 => 0x07
  | .i32 => 0x08 | .i64 => 0x09 | .f32 => 0x0A | .f64 => 0x0B | .ts64 => 0x0C | .ktime => 0x0D | .octets => 0x0E
  | .vstring => 0x0F

/-- The type's size in bytes; zero for the two types of varying length (R36). -/
def Ty.size : Ty → Nat
  | .bool => 1 | .u8 => 1 | .u16 => 2 | .u32 => 4 | .u64 => 8 | .i8 => 1 | .i16 => 2 | .i32 => 4 | .i64 => 8
  | .f32 => 4 | .f64 => 8 | .ts64 => 8 | .ktime => 12 | .octets => 0 | .vstring => 0

/-- Does the type hold bytes of varying length? -/
def Ty.isBytes : Ty → Bool
  | .octets => true
  | .vstring => true
  | _ => false

/-- Is the type a two's complement integer? -/
def Ty.signed : Ty → Bool
  | .i8 => true | .i16 => true | .i32 => true | .i64 => true
  | _ => false

/-- Access types (R39), coded as in a description (R38). -/
inductive Access where
  | const | ro | rw | wo | rws
deriving DecidableEq, Repr

/-- The access code of a description (R38). -/
def Access.code : Access → Nat
  | .const => 0 | .ro => 1 | .rw => 2 | .wo => 3 | .rws => 4

/-- Roles, ordered observer < operator < engineer < maintainer (R40). -/
inductive Role where
  | observer | operator | engineer | maintainer
deriving DecidableEq, Repr

/-- A role's number (R38, R45). -/
def Role.num : Role → Nat
  | .observer => 0 | .operator => 1 | .engineer => 2 | .maintainer => 3

/-- The role of a number 0 to 3; larger numbers read as maintainer and are never offered. -/
def Role.ofNum : Nat → Role
  | 0 => .observer | 1 => .operator | 2 => .engineer | _ => .maintainer

/-- A numeric object's limits: none beyond its type; a range (0x0401 below, 0x0402 above); an enumerated set (0x0403);
or a range and one value that means "none" (R37). -/
inductive Limit where
  | any
  | range (lo hi : Int)
  | oneOf (l : List Int)
  | rangeOr (lo hi none : Int)
deriving DecidableEq, Repr

/-- One object of the catalogue. Its number is index times 256 plus subindex. A default of bytes is `zeroLen` zero
bytes. -/
structure Obj where
  num : Nat
  ty : Ty
  access : Access
  role : Role
  dflt : Nat
  limit : Limit
  maxLen : Nat
  zeroLen : Nat
deriving DecidableEq, Repr

/-- A numeric catalogue row. -/
def num (o : Nat) (ty : Ty) (a : Access) (r : Role) (d : Nat) (l : Limit) : Obj := ⟨o, ty, a, r, d, l, ty.size, 0⟩

/-- An OCTETS catalogue row. -/
def oct (o : Nat) (a : Access) (r : Role) (maxLen zeroLen : Nat) : Obj := ⟨o, .octets, a, r, 0, .any, maxLen, zeroLen⟩

/-- A VSTRING catalogue row. -/
def vstr (o : Nat) (a : Access) (r : Role) (maxLen zeroLen : Nat) : Obj := ⟨o, .vstring, a, r, 0, .any, maxLen, zeroLen⟩

/-- An object element: its number (index times 256 plus subindex) and its element. -/
structure Key where
  o : Nat
  e : Nat
deriving DecidableEq, Repr

/-- The five access paths (R42), with the client each identifies itself by. -/
inductive Path where
  /-- BAR0 object mailbox `m`. -/
  | mailbox (m : Fin 16)
  /-- A hot register of BAR0. -/
  | hot
  /-- KMP over UDP: source address, source port, the role of the key that verified the tag, the port it came in on
  (0 to 15 for P0 to P15, 16 for MGT). -/
  | kmp (ip port : Nat) (role : Role) (via : Fin 17)
  /-- The mailbox of ring `r`, from a node. -/
  | ring (r : Fin 2) (node : Nat)
  /-- The sideband SPI. -/
  | spi
deriving DecidableEq, Repr

/-- One object command as it stands on its path: command code, options, address and data (R45, R53, R54). The offset is
in bytes. `txn` is the path's staged transaction field, `txid` the replay-cache ID (zero: not cached). `len` is the
length field as written, `data` the bytes it covers. `typ` is a type code where the path carries one (none does in this
manual, so zero: not stated). -/
structure Req where
  cmd : Nat
  idx : Nat
  sub : Nat
  elem : Nat
  len : Nat
  data : List Byte
  offset : Nat
  txn : Nat
  txid : Nat
  boundary : Nat
  shadow : Bool
  typ : Nat
deriving DecidableEq, Repr

/-- The outcome of a command: abort code, response data, and the transaction ID an OPEN gives back. -/
structure Resp where
  abort : Nat
  data : List Byte
  txn : Nat
deriving DecidableEq, Repr

/-- A boundary kind, coded as `MBX_CTRL.BOUNDARY` (R54). -/
abbrev BKind := Nat

/-- Where a transaction applies: an epoch boundary, a port or ring cycle, or a TAI instant (R62). -/
inductive Boundary where
  | epoch (t : Nat)
  | portCycle (p : Nat) (cycle : Nat) (t : Nat)
  | ringCycle (r : Nat) (cycle : Nat) (t : Nat)
  | tai (t : Nat)
deriving DecidableEq, Repr

/-- The instant of a boundary, in units of 2^-16 ns. -/
def Boundary.time : Boundary → Nat
  | .epoch t => t
  | .portCycle _ _ t => t
  | .ringCycle _ _ t => t
  | .tai t => t

/-- A timekeeper. -/
inductive TkId where
  | a | b
deriving DecidableEq, Repr

/-- The element of object 0x2001 of a timekeeper. -/
def TkId.num : TkId → Nat
  | .a => 0
  | .b => 1

/-- The other timekeeper. -/
def TkId.other : TkId → TkId
  | .a => .b
  | .b => .a

/-- One detection on its way to the fault collector (R452, R456): source, unit, code, detail (64 bits), the time at the
detector, and whether injection caused it (R472). -/
structure Detection where
  src : Nat
  unit : Nat
  code : Nat
  detail : Nat
  time : Nat
  injected : Bool
deriving DecidableEq, Repr

/-- A frame at a port: its bytes from the destination address up to but without the FCS. [DESIGN CHOICE: log 168] -/
abbrev Frame := List Byte

end Sys2Proof.Machine
end

