-- ==== Sys2Proof/Machine/Operand.lean ====
section
/-! DEFINITION. The operands of the commands that are events: what an external format or a detector hands the device. -/
namespace Sys2Proof.Machine

/-- An event source and the instance that detected it (R452). -/
structure SourceUnit where
  src : Nat
  unit : Nat
deriving DecidableEq, Repr

/-- The IEEE 1344 control functions of an IRIG-B frame (R102): the year, the local offset in half-hours, the time
quality code, and a pending leap second. -/
structure Irig1344 where
  year : Nat
  offsetHalfHours : Int
  quality : Nat
  leapPending : Bool
  leapNegative : Bool
  utcOffset : Int
deriving DecidableEq, Repr

/-- A decoded IRIG-B frame (R102): the code found (0 to 7 for B000 to B007), whether its parity is right, the second of
the frame time counted from 1970-01-01 in the frame's own (local) time and in the year it names, whether the BCD year
field is present, the control functions, and the capture of the reference marker. -/
structure IrigFrame where
  code : Nat
  parityOk : Bool
  second : Nat
  bcdYear : Bool
  ctrl : Option Irig1344
  time : Nat
deriving DecidableEq, Repr

/-- What an HBM word holds (R470): a slot, or the header, of a signal record; a window entry by its index; a queue context; the
master copy of a schedule bank; a ring mode image; an image store entry; a wavefront sample; nothing. [DESIGN CHOICE: log 97] -/
inductive HbmWord where
  | slot (sig : BitVec 25) (k : Fin 4)
  | header (sig : BitVec 25) (readable : Bool)
  | window (channel index : Nat)
  | queue (q : BitVec 18)
  | bank (e : Fin 64)
  | ringImage (e : Fin 8)
  | image (i : Fin 64)
  | sample (channel : Fin 512) (grid : Nat)
  | free
deriving DecidableEq, Repr

/-- What the checker of an HBM word finds (R469): no error, one bad bit, an uncorrectable error. -/
inductive EccCheck where
  | good
  | corrected
  | uncorrectable
deriving DecidableEq, Repr

/-- What a port receives (R111, R163): a whole frame without its FCS and whether the FCS is good; one fragment of a preemptable
frame with its frame and fragment count, whether it is the first and the last, and whether its mCRC or FCS is good; a verify or
a respond mPacket. -/
inductive RxUnit where
  | frame (bytes : List Byte) (fcsGood : Bool)
  | fragment (frame count : Fin 4) (first last good : Bool) (bytes : List Byte)
  | verify
  | respond
deriving DecidableEq, Repr

/-- How a read completes: with data, as an unsupported request, as a completer abort, or poisoned (R407). -/
inductive CplStatus where
  | success (bytes : List Byte)
  | unsupported
  | abort_
  | poisoned
deriving DecidableEq, Repr

/-- An error that the endpoint detects, by its bit in the AER status registers (R402). -/
inductive AerError where
  | uncorrectable (b : Fin 32)
  | correctable (b : Fin 32)
deriving DecidableEq, Repr

/-- A source and its instance as the collector keys them. -/
def SourceUnit.pair (x : SourceUnit) : Nat × Nat := (x.src, x.unit)

end Sys2Proof.Machine
end

