-- ==== Sys2Proof/Machine/StEclipse.lean ====
section
/-! DEFINITION. The Eclipse's shared state store and the generation functions (R175, R182, R188, R193). -/
namespace Sys2Proof.Machine

/-- A sequence history (R182): the last number taken, the history bits, take_any, and when its reset timer expires. -/
structure Hist where
  recov : Nat
  bits : Nat
  takeAny : Bool
  deadline : Option Nat
deriving DecidableEq, Repr

/-- A sequence recovery function (R182, R186, R191): its history, the counts of the latent test period, when that period
and the latent reset period began, the latent resets counted, and the end of a single-path take. -/
structure RecFn where
  hist : Hist
  passed : Nat
  discarded : Nat
  testFrom : Nat
  resetFrom : Nat
  latentResets : Nat
  single : Option Nat
deriving DecidableEq, Repr

/-- A node table entry (R188): source, pair, type, its three histories, when it was last heard on each port, the last
sequence number, and the end of a single-path take. -/
structure Node where
  mac : List Byte
  pair : Nat
  kind : Nat
  delivery : Hist
  forwardAB : Hist
  forwardBA : Hist
  lastA : Nat
  lastB : Nat
  seq : Nat
  single : Option Nat
deriving DecidableEq, Repr

/-- A port pair (R191, R192): the end of a single-path take, the last valid trailer heard on each port, the sequence
numbers of its supervision frames and of their trailers, and when the last one was sent. -/
structure Pair where
  single : Option Nat
  trailerA : Nat
  trailerB : Nat
  supSeq : Nat
  seq : Nat
  supAt : Nat
deriving DecidableEq, Repr

/-- The store, the restart silences of the generation functions (end of each), and the sources handled by single-path take
because the table is full. -/
structure EclSt where
  fns : Tab RecFn
  nodes : Tab Node
  pairs : Tab Pair
  silence : Tab Nat
  full : List (List Byte)
deriving DecidableEq, Repr

/-- What a single-path take is for (R191). -/
inductive SingleScope where
  | function (h : BitVec 16)
  | node (n : BitVec 14)
  | pair (k : Fin 8)
deriving DecidableEq, Repr

end Sys2Proof.Machine
end

