-- ==== Sys2Proof/Syntax.lean ====
section
/-! DEFINITION. The commands of the device: one constructor for each row of the opcode table, in its order, with the
operands the rules give it. The rows carry no bit fields, so no word spells a command. -/
namespace Sys2Proof
open Sys2Proof.Machine

/-- A command, an event of the outside world, or an event of the device's own clocks. -/
inductive Instr where
  /-- ALIGNMENT_PULSE (R23): At each whole microsecond of KTIME96 the lease holder emits an alignment pulse, preceded by
  a boundary message carrying the time status. -/
  | alignmentPulse
  /-- PULSE_ARRIVAL (R25): A replica receives an alignment pulse, echoes it, computes its replica error and trims, slews
  or steps. -/
  | pulseArrival (r : Fin 25) (roundTrip : Nat) (diff tether : Int)
  /-- REPLICA_PULSE_MISSED (R25): No pulse has arrived 50 ns after the expected boundary, so the replica counts the pulse
  as missed. -/
  | replicaPulseMissed (r : Fin 25)
  /-- FLIT_CRC_ERROR (R29): A die-to-die receiver finds a bad flit CRC and requests a replay from the sender's replay
  buffer. -/
  | flitCrcError (l : Fin 3) (k : Fin 2)
  /-- LANE_FAILURE (R31): A die-to-die lane fails and is replaced by a spare within 2 µs. -/
  | laneFailure (l : Fin 3) (k : Fin 2)
  /-- DIE_RESET (R486): A write to object 0x9010:07 resets die C0 or C1, with both regions and the link endpoints of that
  die. -/
  | dieReset (p : Path) (txid : Word) (die : Byte)
  /-- READ (R36): The READ command returns an object value, or one segment of it, on any access path. -/
  | read (p : Path) (q : Req)
  /-- WRITE (R37): The WRITE command checks a value and writes an object, staging it in the shadow copy for an RWS
  object. -/
  | write (p : Path) (q : Req)
  /-- DESCRIBE (R38): The DESCRIBE command returns the 48-byte description of an object. -/
  | describe (p : Path) (q : Req)
  /-- OPEN (R59): The OPEN command assigns a transaction slot and an ID. -/
  | open_ (p : Path) (q : Req)
  /-- COMMIT (R62): The COMMIT command resolves the boundary and starts validation in every participant. -/
  | commit (p : Path) (q : Req)
  /-- ABORT (R59): The ABORT command ends an OPEN, VALIDATING or READY transaction before the all-ready sample. -/
  | abort_ (p : Path) (q : Req)
  /-- STATUS (R67): The STATUS command returns a transaction's status and frees an ended slot. -/
  | status (p : Path) (q : Req)
  /-- COMMAND_COMPLETE (R56): An object command completes, and the path reports its abort code and data, with the
  responses for held repeats. -/
  | commandComplete (p : Path)
  /-- KMP_REQUEST (R46): A KMP datagram is received, authenticated, checked against the replay cache and passed to the
  object arbiter. -/
  | kmpRequest (ip : Word) (udp : BitVec 16) (via : Fin 17) (bytes : List Byte)
  /-- REPLAY_CACHE_EXPIRY (R47): A replay cache entry expires 10 s after its response was sent. -/
  | replayCacheExpiry (p : Path) (txid : Word)
  /-- PARTICIPANT_REPORT (R61): A transaction participant reports valid or invalid after validation, moving the
  transaction to READY or FAILED. -/
  | participantReport (slot : Fin 32) (part : Fin 5)
  /-- ALL_READY_SAMPLE (R64): 1 µs before the boundary the all-ready signal is sampled, and the transaction aborts with
  0x0603 if any participant is not ready. -/
  | allReadySample (slot : Fin 32)
  /-- TRANSACTION_APPLY (R65): At the boundary every participant applies the new bank. -/
  | transactionApply (slot : Fin 32)
  /-- TRANSACTION_TIMEOUT (R59): An OPEN transaction with no COMMIT accepted 60 s after the OPEN ends ABORTED with
  0x0608. -/
  | transactionTimeout (slot : Fin 32)
  /-- TRANSACTION_SLOT_RELEASE (R59): An ended transaction's slot is freed 60 s after the transaction ended. -/
  | transactionSlotRelease (slot : Fin 32)
  /-- HOT_REGISTER_WRITE (R42): A write to a BAR0 hot register writes its object through the object arbiter. -/
  | hotRegisterWrite (obj : BitVec 24) (elem : Word) (value : BitVec 64)
  /-- REGISTER_WRITE (R51): A write to a register that has no row of its own acts according to its fields' access codes.
  -/
  | registerWrite (bar4 : Bool) (off : BitVec 26) (wide : Bool) (value : BitVec 64)
  /-- REGISTER_LOW_HALF_READ (R50): A 32-bit read of the low half of a 64-bit register latches the high half. -/
  | registerLowHalfRead (bar4 : Bool) (off : BitVec 26) (wide : Bool)
  /-- OSCILLATOR_CHECK (R77): Every 10 µs the oscillator monitor checks each TKOSC's frequency. -/
  | oscillatorCheck (k : TkId) (ppb : Int)
  /-- OSCILLATOR_LOST (R77): No TKOSC edge has arrived for 1 µs, so its timekeeper is demoted as oscillator lost. -/
  | oscillatorLost (k : TkId)
  /-- OSCILLATOR_NOT_FITTED (R77): TKOSC_B shows no edge in the first 10 ms after Ballast power-on reset, so TK-B is
  demoted. -/
  | oscillatorNotFitted
  /-- REFERENCE_TIMEOUT (R81): A PPS or IRIG_IN reference becomes invalid 1.5 s after its last accepted event. -/
  | referenceTimeout (r : Fin 3)
  /-- LEASE_RENEWAL (R86): The holder renews its lease at each 10 µs boundary of its own time. -/
  | leaseRenewal
  /-- LEASE_RENEWAL_MISSED (R95): A 10 µs boundary passes without a renewal, and a W-class event is raised. -/
  | leaseRenewalMissed
  /-- LEASE_EXPIRY (R86): A lease expires 50 µs after its last renewal, or is revoked. -/
  | leaseExpiry
  /-- HOLDER_PULSE_MISSING (R86): The holder's pulse is missing at two consecutive boundaries, so its lease is revoked.
  -/
  | holderPulseMissing
  /-- ARBITRATION_DECISION (R91): Within 200 ns of the third disagreement, arbitration demotes the timekeeper further
  from the estimate or ends undecided. -/
  | arbitrationDecision (elapsed : Nat)
  /-- REVERT_CHECK (R97): At H − 1 µs the revert conditions are checked. -/
  | revertCheck
  /-- REVERT (R97): At H TK-B emits the pulse and releases the lease for TK-A. -/
  | revert
  /-- HOLDOVER_LIMIT_PASSED (R84): The holdover estimate exceeds the limit, so TRACEABLE clears and a W-class event is
  raised. -/
  | holdoverLimitPassed
  /-- LEAP_SECOND (R85): At the end of the UTC day a pending leap changes the TAI − UTC offset. -/
  | leapSecond
  /-- TK_TIME_READ (R99): A read of TK_TIME0 latches the holder's KTIME96 into TK_TIME0–3. -/
  | tkTimeRead (i : Fin 4) (wide : Bool)
  /-- PPS_EDGE (R100): A PPS_IN edge is captured, filtered, labelled and used as a reference event. -/
  | ppsEdge (n : Fin 2) (falling : Bool) (t width : Nat)
  /-- TOD_MESSAGE (R101): A ZDA or binary message received on TOD_RX supplies a seconds label and an offset. -/
  | todMessage (bytes : List Byte) (t : Nat)
  /-- IRIG_FRAME (R102): An IRIG_IN frame is decoded and its reference marker edge is captured. -/
  | irigFrame (f : IrigFrame)
  /-- TRIG_EDGE (R103): A TRIG_IN edge is captured into its 16-entry queue. -/
  | trigEdge (n : Fin 8) (falling : Bool) (t width : Nat)
  /-- TRIG_QUEUE_READ (R103): A read of object 0x2070:05 returns and removes up to 16 capture entries. -/
  | trigQueueRead (p : Path) (txid : Word) (n : Fin 8)
  /-- PPS_OUT_PULSE (R104): A PPS_OUT emits a pulse at a whole multiple of its period. -/
  | ppsOutPulse (n : Fin 4)
  /-- IRIG_OUT_FRAME (R105): IRIG_OUT emits a frame for each TAI second. -/
  | irigOutFrame
  /-- ARM (R107): An ARM command starts a TRIG_OUT pulse plan. -/
  | arm (p : Path) (txid : Word) (n : Fin 8)
  /-- DISARM (R107): A DISARM command stops a TRIG_OUT plan after any pulse in progress. -/
  | disarm (p : Path) (txid : Word) (n : Fin 8)
  /-- TRIG_OUT_PULSE (R107): TRIG_OUT emits a planned pulse at its programmed instant. -/
  | trigOutPulse (n : Fin 8)
  /-- SET_COUNTERS (R109): A write of object 0x2000:09 sets both timekeeper counters while both are in FREERUN. -/
  | setCounters (p : Path) (txid : Word) (t : BitVec 96)
  /-- FRAME_RECEIVE (R111): A frame received on a port is timestamped, decided by the Eclipse, classified and forwarded,
  delivered or dropped. -/
  | frameReceive (p : Fin 17) (u : RxUnit) (t : Nat)
  /-- CUT_THROUGH_HEADER (R164): Once a frame's header has accumulated, the frame is decided and may be cut through to
  its egress port. -/
  | cutThroughHeader (p : Fin 17) (bytes : List Byte) (t : Nat)
  /-- PTP_MESSAGE_RECEIVE (R117): A PTP message is received and handled by its instance or by the transparent clock. -/
  | ptpMessageReceive (p : Fin 17) (m : List Byte) (t : Nat)
  /-- PTP_MESSAGE_SEND (R119): A PTP message interval elapses, and the instance sends its message. -/
  | ptpMessageSend (i : Fin 8) (p : Fin 17) (kind : Fin 16) (t : Nat)
  /-- ANNOUNCE_RECEIPT_TIMEOUT (R124): announceReceiptTimeout expires on a slave port, making the PTP reference invalid.
  -/
  | announceReceiptTimeout (i : Fin 4) (p : Fin 17)
  /-- SYNC_INTERVALS_MISSED (R123): Three Sync intervals pass without a complete measurement, so the PTP reference
  becomes invalid. -/
  | syncIntervalsMissed (i : Fin 4) (p : Fin 17)
  /-- TC_MATCH_EXPIRY (R126): A two-step matching entry expires after 100 ms. -/
  | tcMatchExpiry (q : Fin 17)
  /-- TSQ_ENTRY_READ (R129): A read of TSQ_ENTRY0 removes the oldest transmit timestamp entry and latches its words. -/
  | tsqEntryRead (p : Fin 16) (wide : Bool)
  /-- LINK_UP (R159): A port's link comes up. -/
  | linkUp (p : Fin 17) (mode : Fin 16) (fec : Fin 4)
  /-- LINK_DOWN (R454): A port's link goes down, and source 64 is raised. -/
  | linkDown (p : Fin 17)
  /-- GATE_ENTRY_START (R144): A gate-list entry, or a new cycle, starts and sets the gate states of the port. -/
  | gateEntryStart (p : Fin 16)
  /-- TRANSMISSION_SELECTION (R139): A free port chooses the highest eligible class and starts a frame. -/
  | transmissionSelection (p : Fin 17) (delay : Nat)
  /-- TRANSMIT_COMPLETE (R427): A frame's last bit leaves its port, which finishes its transmit entry and timestamp
  entry. -/
  | transmitComplete (p : Fin 17)
  /-- HOLD_REQUEST (R161): The hold request is issued at the start of an OP 0x1 entry minus holdAdvance. -/
  | holdRequest (p : Fin 16)
  /-- RELEASE_REQUEST (R161): The release is issued at the start of an OP 0x2 entry minus releaseAdvance. -/
  | releaseRequest (p : Fin 16)
  /-- BANK_SWITCH (R153): The new bank becomes active at S, its first cycle start at or after the boundary. -/
  | bankSwitch (p : Fin 16)
  /-- ORRERY_SRAM_ERROR (R154): An uncorrectable error in the Orrery's SRAM copy raises an F-class event for the port. -/
  | orrerySramError (p : Fin 16)
  /-- PREEMPTION_VERIFY_TIMER (R163): verifyTime elapses in the IEEE 802.3br verification procedure. -/
  | preemptionVerifyTimer (p : Fin 16)
  /-- ORRERY_POLL (R169): The Orrery issues a bound queue's poll at the gate open minus the poll lead. -/
  | orreryPoll (b : BitVec 12)
  /-- SYZYGY_START (R158): Writing 1 to object 0x3400:08 starts a coordinator session. -/
  | syzygyStart (p : Path) (txid : Word) (k : Fin 4)
  /-- SYZYGY_STOP (R158): Writing 2 to object 0x3400:08 stops a session before its confirm deadline. -/
  | syzygyStop (p : Path) (txid : Word) (k : Fin 4)
  /-- SYZYGY_PREPARE_LEAD (R158): At T minus the prepare lead the session sends its first PREPARE. -/
  | syzygyPrepareLead (k : Fin 4)
  /-- PREPARE (R156): A participant receives PREPARE and answers CONFIRM or REFUSE. -/
  | prepare (ip : Word) (udp : BitVec 16) (role : Role) (via : Fin 17) (txid : Word) (bytes : List Byte)
  /-- CONFIRM (R157): The coordinator receives a CONFIRM from a participant. -/
  | confirm (ip : Word) (udp : BitVec 16) (role : Role) (via : Fin 17) (txid : Word) (bytes : List Byte)
  /-- REFUSE (R157): The coordinator receives a REFUSE from a participant. -/
  | refuse (ip : Word) (udp : BitVec 16) (role : Role) (via : Fin 17) (txid : Word) (bytes : List Byte)
  /-- SYZYGY_ABORT (R156): A participant receives ABORT and aborts, or answers too late. -/
  | syzygyAbort (ip : Word) (udp : BitVec 16) (role : Role) (via : Fin 17) (txid : Word) (bytes : List Byte)
  /-- ABORT_ACK (R157): The coordinator receives ABORT_ACK from a participant. -/
  | abortAck (ip : Word) (udp : BitVec 16) (role : Role) (via : Fin 17) (txid : Word) (bytes : List Byte)
  /-- SYZYGY_RETRY (R157): The retry interval elapses, and PREPARE or ABORT is repeated to the participants that have not
  answered. -/
  | syzygyRetry (k : Fin 4)
  /-- CONFIRM_DEADLINE (R157): At T − 2G the coordinator decides to commit or abort. -/
  | confirmDeadline (k : Fin 4)
  /-- GUARD_DEADLINE (R156): At T − G an unconfirmed participant aborts, and the coordinator marks unacknowledged
  participants uncertain. -/
  | guardDeadline (id : Word)
  /-- RECOVERY_RESET_TIMEOUT (R183): A recovery function's reset timer expires and sets take_any. -/
  | recoveryResetTimeout (h : BitVec 16)
  /-- RECOVERY_RESET (R183): A reset command in object 0x3110:0E resets a recovery function. -/
  | recoveryReset (p : Path) (txid : Word) (h : BitVec 16)
  /-- LATENT_TEST_PERIOD (R186): At the end of a latent test period the difference is checked against the limit. -/
  | latentTestPeriod (h : BitVec 16)
  /-- LATENT_RESET_PERIOD (R186): At the end of a latent reset period the period counts restart. -/
  | latentResetPeriod (h : BitVec 16)
  /-- NODE_FORGET (R188): A node entry not heard for the node forget time is removed. -/
  | nodeForget (i : BitVec 14)
  /-- SUPERVISION_FRAME_SEND (R187): A PRP or HSR pair sends its supervision frame. -/
  | supervisionFrameSend (k : Fin 8)
  /-- LIFE_CHECK (R192): Three LifeCheckIntervals pass with one LAN silent, raising LAN A silent or LAN B silent. -/
  | lifeCheck (k : Fin 8) (lan : Fin 2)
  /-- GENERATION_RESET (R195): A reset of a generation function through object 0x3120:09 starts its restart silence. -/
  | generationReset (p : Path) (txid : Word) (g : BitVec 13)
  /-- RESTART_SILENCE_END (R195): The restart silence passes, and the generated stream resumes sending. -/
  | restartSilenceEnd (g : BitVec 13)
  /-- SINGLE_PATH_END (R191): The duration of a single-path take ends. -/
  | singlePathEnd (scope : SingleScope)
  /-- RING_CYCLE_ORIGINATE (R211): A leader builds and sends both copies of the ring frame at the cycle start. -/
  | ringCycleOriginate (r : Fin 2) (edge : Nat)
  /-- RING_COPY_RECEIVE (R214): A ring copy arrives at a node, which forwards it, writes its slot, takes slots or absorbs
  the copy. -/
  | ringCopyReceive (r p : Fin 2) (bytes : List Byte) (good : Bool) (rx tx : Nat)
  /-- RING_SLOT_POLL (R218): The own slot's transmit queue is polled at W minus the poll lead. -/
  | ringSlotPoll (r : Fin 2)
  /-- RING_SILENCE_TIMEOUT (R228): A silence timeout in the start-up logic expires and returns the node to listen or
  starts a candidate waiting. -/
  | ringSilenceTimeout (r : Fin 2)
  /-- COLD_START_WAIT (R228): A waiting candidate's node ID × step elapses, and it enters cold start. -/
  | coldStartWait (r : Fin 2)
  /-- RING_MODE_SWITCH (R235): At C_t the nodes switch to the target mode or stay in the old one. -/
  | ringModeSwitch (r : Fin 2)
  /-- RING_MAILBOX_MESSAGE (R238): A node takes a mailbox message addressed to it. -/
  | ringMailboxMessage (r : Fin 2) (cycle : Nat) (box : List Byte)
  /-- RING_MESSAGE_SEND (R239): Host software queues a ring mailbox message through object 0x4050:01. -/
  | ringMessageSend (p : Path) (txid : Word) (r : Fin 2) (bytes : List Byte)
  /-- RING_RESPONSE_READ (R239): A read of object 0x4050:02 removes the oldest ring response. -/
  | ringResponseRead (p : Path) (txid : Word) (r : Fin 2)
  /-- RING_INSERT (R240): An enabled ring in RUN powers its ports and drives RINGr_BYP_N low. -/
  | ringInsert (r : Fin 2)
  /-- RING_REMOVE (R240): A ring is disabled, or the device leaves RUN, so the device releases the bypass pin. -/
  | ringRemove (r : Fin 2)
  /-- RELAY_SETTLE (R240): The relay settle time ends, and the ring enters listen or powers down. -/
  | relaySettle (r : Fin 2)
  /-- WINDOW_ENTRY_COMMIT (R258): Sample entries become present in a window and in the input rings. -/
  | windowEntryCommit
  /-- INGEST_CUTOFF (R262): At an epoch's ingest cutoff, absent grid points are counted missing and epoch activations are
  raised. -/
  | ingestCutoff
  /-- STREAM_SILENT (R244): A stream has been silent for 3 frame intervals. -/
  | streamSilent (kind : Fin 3) (n : BitVec 16)
  /-- TIMER_TRIGGER (R285): A timer binding raises an activation at its TAI instant. -/
  | timerTrigger (b : BitVec 16)
  /-- ACTIVATION_DISPATCH (R288): An idle engine's scheduler selects the earliest-deadline activation and dispatches it.
  -/
  | activationDispatch (e : Fin 128)
  /-- NOP (R282): The engine executes NOP. -/
  | nop (e : Fin 128)
  /-- ADD (R282): The engine executes ADD. -/
  | add (e : Fin 128)
  /-- SUB (R282): The engine executes SUB. -/
  | sub (e : Fin 128)
  /-- MUL (R282): The engine executes MUL. -/
  | mul (e : Fin 128)
  /-- AND (R282): The engine executes AND. -/
  | and_ (e : Fin 128)
  /-- OR (R282): The engine executes OR. -/
  | or_ (e : Fin 128)
  /-- XOR (R282): The engine executes XOR. -/
  | xor_ (e : Fin 128)
  /-- SHL (R282): The engine executes SHL. -/
  | shl (e : Fin 128)
  /-- SHR (R282): The engine executes SHR. -/
  | shr (e : Fin 128)
  /-- SRA (R282): The engine executes SRA. -/
  | sra (e : Fin 128)
  /-- ADDI (R282): The engine executes ADDI. -/
  | addi (e : Fin 128)
  /-- ORI (R282): The engine executes ORI. -/
  | ori (e : Fin 128)
  /-- LUI (R282): The engine executes LUI. -/
  | lui (e : Fin 128)
  /-- FADD (R282): The engine executes FADD. -/
  | fadd (e : Fin 128)
  /-- FSUB (R282): The engine executes FSUB. -/
  | fsub (e : Fin 128)
  /-- FMUL (R282): The engine executes FMUL. -/
  | fmul (e : Fin 128)
  /-- FMA (R282): The engine executes FMA. -/
  | fma (e : Fin 128)
  /-- FDIV (R282): The engine executes FDIV. -/
  | fdiv (e : Fin 128)
  /-- FSQRT (R282): The engine executes FSQRT. -/
  | fsqrt (e : Fin 128)
  /-- FMAX (R282): The engine executes FMAX. -/
  | fmax (e : Fin 128)
  /-- FMIN (R282): The engine executes FMIN. -/
  | fmin (e : Fin 128)
  /-- FABS (R282): The engine executes FABS. -/
  | fabs (e : Fin 128)
  /-- FCMP (R282): The engine executes FCMP. -/
  | fcmp (e : Fin 128)
  /-- FCVT (R283): The engine executes FCVT with the conversion chosen by FN. -/
  | fcvt (e : Fin 128)
  /-- VSEL (R282): The engine executes VSEL. -/
  | vsel (e : Fin 128)
  /-- VBCAST (R282): The engine executes VBCAST. -/
  | vbcast (e : Fin 128)
  /-- VEXT (R282): The engine executes VEXT. -/
  | vext (e : Fin 128)
  /-- VSUM (R282): The engine executes VSUM. -/
  | vsum (e : Fin 128)
  /-- LD (R276): The engine executes LD, with its address checked. -/
  | ld (e : Fin 128)
  /-- ST (R276): The engine executes ST, with its address checked. -/
  | st (e : Fin 128)
  /-- VLD (R276): The engine executes VLD. -/
  | vld (e : Fin 128)
  /-- VST (R276): The engine executes VST. -/
  | vst (e : Fin 128)
  /-- XFER (R279): The engine issues XFER between data memory and its shared blocks. -/
  | xfer (e : Fin 128)
  /-- XFER_COMPLETE (R279): An outstanding XFER completes. -/
  | xferComplete (e : Fin 128) (early : Nat)
  /-- XWAIT (R282): The engine waits until every XFER and SGET of the activation is complete. -/
  | xwait (e : Fin 128)
  /-- SGET (R282): The engine issues SGET to read a resolved view of a signal. -/
  | sget (e : Fin 128)
  /-- SGET_COMPLETE (R282): An outstanding SGET completes. -/
  | sgetComplete (e : Fin 128) (early : Nat)
  /-- BEQ (R282): The engine executes BEQ. -/
  | beq (e : Fin 128)
  /-- BNE (R282): The engine executes BNE. -/
  | bne (e : Fin 128)
  /-- BLT (R282): The engine executes BLT. -/
  | blt (e : Fin 128)
  /-- BGE (R282): The engine executes BGE. -/
  | bge (e : Fin 128)
  /-- TIME (R283): The engine reads a cluster time tap field. -/
  | time (e : Fin 128)
  /-- SPUT (R292): The engine posts a 32-byte record to its update buffer. -/
  | sput (e : Fin 128)
  /-- KEVT (R295): The engine raises a kernel event. -/
  | kevt (e : Fin 128)
  /-- END (R292): The engine ends the activation and commits its update records as one unit. -/
  | end_ (e : Fin 128)
  /-- UPDATE_ACCEPT (R347): A unit of updates reaches its region's update port and is written, held, late or rejected. -/
  | updateAccept (g : Fin 4)
  /-- WATCHDOG (R304): An activation reaches WCET + 1 cycles without END, and its slot is stopped. -/
  | watchdog (e : Fin 128)
  /-- ENGINE_HARDWARE_FAULT (R306): A hardware fault contains the engine, resets it and starts re-homing to the spare. -/
  | engineHardwareFault (e : Fin 128) (kind : Fin 4)
  /-- REHOME_COMPLETE (R308): Re-homing completes, and activations are raised again with RECOMPUTE. -/
  | rehomeComplete (g : Fin 4)
  /-- SELF_TEST_COMPLETE (R306): A failed engine's self-test ends, and the engine becomes the spare or is left failed. -/
  | selfTestComplete (e : Fin 128) (pass : Bool)
  /-- SLOT_RESTART (R305): Writing 1 to object 0x5100:07 restarts a stopped slot. -/
  | slotRestart (p : Path) (txid : Word) (k : Fin 2048)
  /-- FORCE_REHOME (R309): Writing 1 to object 0x5000:0C forces a re-home of a healthy engine. -/
  | forceRehome (p : Path) (txid : Word) (e : Fin 128)
  /-- ENGINE_UNIT_RESET (R309): Writing 2 to object 0x5000:0C resets the engine unit. -/
  | engineUnitReset (p : Path) (txid : Word) (e : Fin 128)
  /-- IMAGE_VERIFY (R299): Writing 1 to object 0x5020:02 starts verification of a kernel image. -/
  | imageVerify (p : Path) (txid : Word) (i : Fin 64)
  /-- IMAGE_VERIFY_COMPLETE (R299): Kernel image verification ends valid or invalid with a reason. -/
  | imageVerifyComplete (i : Fin 64)
  /-- IMAGE_ERASE (R299): Writing 2 to object 0x5020:02 erases an image store entry. -/
  | imageErase (p : Path) (txid : Word) (i : Fin 64)
  /-- PMU_FRAME_BUILD (R334): At t_k + wait a C37.118.2 output frame is built and handed to its egress path. -/
  | pmuFrameBuild (stream : Fin 256)
  /-- EPOCH_START (R350): Epochs start at the first boundary at least 200 µs after all regions are up. -/
  | epochStart
  /-- EPOCH_CLOSE (R348): Each region closes epoch N at t_N + period + h. -/
  | epochClose
  /-- REGION_CLOSE_REPORT (R348): A region's CLOSED report and ledger totals reach die H. -/
  | regionCloseReport (g : Fin 4)
  /-- EPOCH_PUBLISH (R348): Die H publishes epoch N, writes the epoch record and releases held updates. -/
  | epochPublish
  /-- BAR2_READ (R358): A BAR2 read resolves signal views for the published, previous or pinned epoch. -/
  | bar2Read (off : BitVec 30) (len : BitVec 13)
  /-- BAR2_WRITE (R358): A BAR2 write is discarded and counted. -/
  | bar2Write
  /-- PIN_P (R360): PIN_CTRL command 1 pins the published epoch P. -/
  | pinP
  /-- PIN_P_MINUS_1 (R360): PIN_CTRL command 2 pins the epoch P−1. -/
  | pinPMinus1
  /-- PIN_RELEASE (R360): PIN_CTRL command 3 releases the pin. -/
  | pinRelease
  /-- PIN_LAPSE (R360): A pin lapses one period after it was taken. -/
  | pinLapse
  /-- SCRUB_READ (R469): The patrol scrubber reads and corrects a word at its paced instant. -/
  | scrubRead (stack : Fin 2) (addr : BitVec 34) (v : EccCheck) (w : HbmWord)
  /-- HBM_UNCORRECTABLE (R470): A demand access finds an uncorrectable HBM error, which is handled by what the word
  holds. -/
  | hbmUncorrectable (stack : Fin 2) (addr : BitVec 34) (w : HbmWord)
  /-- FRONT_REARM (R376): A channel re-arms after |d| has stayed below half the threshold for the re-arm time. -/
  | frontRearm (c : Fin 512)
  /-- CAPTURE_COMPLETE (R379): At window end plus grace an event completes, and absent samples are marked. -/
  | captureComplete (e : Fin 64)
  /-- CAPTURE_RELEASE (R380): Writing 1 to object 0xA021:03 releases an event. -/
  | captureRelease (p : Path) (txid : Word) (e : Fin 64)
  /-- CAPTURE_EXPORT (R381): Writing a queue to object 0xA021:02 exports a complete event as one block. -/
  | captureExport (p : Path) (txid : Word) (e : Fin 64) (q : Word)
  /-- SNIPPET_COMPLETE (R382): A 64-sample snippet completes and is written into the front kernel's shared blocks. -/
  | snippetComplete (g : Fin 4)
  /-- ARRIVAL_HANDOFF (R384): A committed arrival is handed to die H as an arrival record. -/
  | arrivalHandoff (g : Fin 4)
  /-- ARRIVALS_SEND (R387): The records of a line event are sent in ARRIVALS messages to the remote peer. -/
  | arrivalsSend (l : Fin 64)
  /-- ARRIVALS_REPEAT (R387): An unacknowledged ARRIVALS message is repeated every 10 ms. -/
  | arrivalsRepeat (txid : Word)
  /-- ARRIVALS (R386): An ARRIVALS request is received and its records are entered as remote records. -/
  | arrivals (ip : Word) (udp : BitVec 16) (role : Role) (via : Fin 17) (txid : Word) (bytes : List Byte)
  /-- ARRIVALS_ACK (R386): An ARRIVALS_ACK response is received. -/
  | arrivalsAck (ip : Word) (udp : BitVec 16) (role : Role) (via : Fin 17) (txid : Word)
  /-- QUERY (R386): A QUERY request is received and answered with QUERY_REPLY. -/
  | query (ip : Word) (udp : BitVec 16) (role : Role) (via : Fin 17) (txid : Word) (bytes : List Byte)
  /-- QUERY_REPLY (R386): A QUERY_REPLY response is received. -/
  | queryReply (ip : Word) (udp : BitVec 16) (role : Role) (via : Fin 17) (bytes : List Byte)
  /-- REMOTE_WAIT_TIMEOUT (R389): No remote FIRST record arrives within the remote wait, so only a single-ended result is
  formed. -/
  | remoteWaitTimeout (l : Fin 64)
  /-- SINGLE_ENDED_LOCATION (R390): At 2τ + tolerance after the FIRST arrival the single-ended location is formed. -/
  | singleEndedLocation (l : Fin 64)
  /-- LINK_TRAINED (R394): The PCIe link trains to its speed and width. -/
  | linkTrained (speed : Fin 6) (width : Fin 17)
  /-- L0S_ENTRY (R395): The transmitter has been idle for 1 µs and enters L0s. -/
  | l0sEntry
  /-- L1_ENTRY (R395): Both directions have been idle for 32 µs, and the link enters L1. -/
  | l1Entry
  /-- CONFIG_REQUEST (R396): A configuration read or write is served by the endpoint. -/
  | configRequest (write : Bool) (off : BitVec 12) (value : Word) (be : BitVec 4)
  /-- UNSUPPORTED_REQUEST (R410): A request the endpoint does not support completes with UR, or is discarded and logged.
  -/
  | unsupportedRequest (memory : Bool)
  /-- READ_COMPLETION (R407): A completion arrives for a read that the endpoint issued. -/
  | readCompletion (tag : BitVec 10) (c : CplStatus)
  /-- COMPLETION_TIMEOUT (R402): An outstanding read's completion timeout expires, and the request fails. -/
  | completionTimeout (tag : BitVec 10)
  /-- MODERATION_INTERVAL_END (R413): A vector's moderation interval ends, and the merged message is sent. -/
  | moderationIntervalEnd (v : BitVec 11)
  /-- INTX_PEND_CLEAR (R412): A W1C write to INTX_PENDk clears bits and deasserts INTA when all are clear. -/
  | intxPendClear (k : Fin 64) (mask : Word)
  /-- VECTOR_UNMASK (R412): Unmasking an MSI or MSI-X vector sends its pending message. -/
  | vectorUnmask (v : BitVec 11)
  /-- PERST_N_ASSERT (R449): Assertion of PERST_N resets the endpoint and detaches every queue. -/
  | perstNAssert
  /-- PERST_N_RELEASE (R414): Release of PERST_N starts link training. -/
  | perstNRelease
  /-- ENDPOINT_READY (R414): The endpoint becomes ready for configuration requests. -/
  | endpointReady
  /-- DL_DOWN (R415): The data link layer reports DL_Down, and the port freezes. -/
  | dlDown
  /-- HOT_RESET (R415): A hot reset is received, and the port freezes. -/
  | hotReset
  /-- ENDPOINT_INTERNAL_ERROR (R415): An uncorrectable internal error or an unmasked fatal error freezes the port. -/
  | endpointInternalError (e : AerError)
  /-- TEST_FREEZE (R403): Writing CONT_CTRL.FREEZE freezes the port with cause 5. -/
  | testFreeze
  /-- CONT_RELEASE (R417): Writing CONT_CTRL.RELEASE while release-ready ends the freeze. -/
  | contRelease
  /-- TAG_QUARANTINE_END (R415): A quarantined tag becomes usable once the completion timeout has passed. -/
  | tagQuarantineEnd
  /-- QUEUE_ATTACH (R439): The ATTACH command activates a queue or is refused. -/
  | queueAttach (q : BitVec 18)
  /-- QUEUE_DETACH (R438): The DETACH command moves an active queue to STOPPING. -/
  | queueDetach (q : BitVec 18)
  /-- QUEUE_RESET (R441): The RESET command abandons fetched entries and detaches the queue. -/
  | queueReset (q : BitVec 18)
  /-- QUEUE_DETACH_COMPLETE (R438): A STOPPING queue issues its final head-index write and becomes DETACHED. -/
  | queueDetachComplete (q : BitVec 18)
  /-- POLL_DUE (R442): A queue's interval poll falls due. -/
  | pollDue (q : BitVec 18)
  /-- POLL_SERVE (R444): The device serves the due poll with the earliest deadline within the budget and tags. -/
  | pollServe
  /-- COALESCING_TIMEOUT (R446): The coalescing time passes, and the head mirror is written. -/
  | coalescingTimeout (q : BitVec 18)
  /-- RECEIVE_HOLD_TIMEOUT (R431): A frame waiting for a receive entry passes its hold time and is dropped whole. -/
  | receiveHoldTimeout (q : BitVec 18)
  /-- FAULT_DETECTION (R452): A detection reaches the fault collector and is recorded and reacted to. -/
  | faultDetection (ds : List Detection) (began ended : List SourceUnit)
  /-- SAFE_STATE_RELEASE (R460): Writing 1 to object 0x8020:03 releases a scope from the safe state. -/
  | safeStateRelease (p : Path) (txid : Word) (scope : Fin 20)
  /-- FIRST_ERROR_CLEAR (R457): The CLEAR command clears VALID, OVERFLOW and INJECTED of the first-error record. -/
  | firstErrorClear (p : Path) (txid : Word)
  /-- STICKY_CLEAR (R457): A W1C write to FLT_STICKYk clears sticky bits. -/
  | stickyClear (k : Fin 16) (mask : Word)
  /-- ESCALATION_ACKNOWLEDGE (R461): A write to object 0x8000:06 acknowledges an escalation and ends its reaction. -/
  | escalationAcknowledge (p : Path) (txid : Word) (src : BitVec 16) (unit : Word)
  /-- SOFTWARE_WINDOW_END (R461): A software window ends unhandled, and the device takes the next step of the escalation
  ladder. -/
  | softwareWindowEnd (src : Fin 512) (unit : Word)
  /-- RESET_COMPLETE (R461): A unit, cluster or region reset completes, and the watch window starts. -/
  | resetComplete (src : Fin 512) (unit : Word)
  /-- WATCH_WINDOW_END (R461): A watch window ends without a primary detection, and the reaction ends. -/
  | watchWindowEnd (src : Fin 512) (unit : Word)
  /-- INJECTION_ARM (R472): Writing 1 to object 0x8200:05 arms an injection slot. -/
  | injectionArm (p : Path) (txid : Word) (slot : Fin 16)
  /-- INJECTION_DISARM (R472): Writing 2 to object 0x8200:05 disarms an injection slot. -/
  | injectionDisarm (p : Path) (txid : Word) (slot : Fin 16)
  /-- RAIL_OUT_OF_RANGE (R476): A main rail has been out of range but above 80 % for 1 µs, leading to the device safe
  state. -/
  | railOutOfRange (r : Fin 9) (mv : Nat)
  /-- RAIL_UNDERVOLTAGE (R476): A main rail has been below 80 % for 1 µs, so main power-on reset is asserted. -/
  | railUndervoltage (r : Fin 9) (mv : Nat)
  /-- MAIN_POR_RELEASE (R476): Every main rail has been in range for 10 ms, so main power-on reset is released. -/
  | mainPorRelease (mv : List Nat)
  /-- SYSCLK_LOSS (R511): SYSCLK stops or strays beyond 1,000 ppm, leading to the device safe state. -/
  | sysclkLoss
  /-- VBAL_A_LOSS (R478): VBAL_A falls through 2.90 V, and the Ballast domain switches over to VBAL_B. -/
  | vbalALoss (mv : Nat)
  /-- VBAL_SWITCH_BACK (R478): VBAL_A has stayed above 3.00 V for 10 ms, and the domain returns to it. -/
  | vbalSwitchBack (mv : Nat)
  /-- VBAL_B_LOSS (R478): VBAL_B is lost while VBAL_A is in use, raising source 448. -/
  | vbalBLoss (mv : Nat)
  /-- BALLAST_POR_ASSERT (R480): CBAL falls below 2.60 V, and Ballast power-on reset is asserted. -/
  | ballastPorAssert
  /-- BALLAST_POR_RELEASE (R480): Ballast power-on reset is released 5 ms after CBAL rises above 2.90 V. -/
  | ballastPorRelease (sel : Fin 4) (a b : Nat)
  /-- RAILS_ABSENT_TIMEOUT (R482): The main rails are not in range within 100 ms of Ballast release, so the device enters
  DOZE. -/
  | railsAbsentTimeout
  /-- ENTER_DOZE (R483): Command 1 of object 0x9000:02 starts the entry to DOZE. -/
  | enterDoze (p : Path) (txid : Word)
  /-- DOZE_ENTRY_STAGE (R483): A timed stage of the DOZE entry sequence takes effect. -/
  | dozeEntryStage
  /-- WAKE (R484): Command 2 of object 0x9000:02 wakes the device from DOZE. -/
  | wake (p : Path) (txid : Word)
  /-- ENTER_LANTERN (R482): Command 3 of object 0x9000:02 enters LANTERN. -/
  | enterLantern (p : Path) (txid : Word)
  /-- RESTART (R501): Command 4 of object 0x9000:02 sets FAILS to 0 and starts an attempt. -/
  | restart (p : Path) (txid : Word)
  /-- WAKE_N (R484): A low level on WAKE_N lasting 1 µs wakes the device. -/
  | wakeN (low : Bool)
  /-- WAKE_TIMEOUT (R484): The main rails are not in range within 1 s of a wake, so the device stays in DOZE. -/
  | wakeTimeout
  /-- JUNCTION_SENSOR_READ (R528): A die's junction sensor is read every 1 ms, raising source 450 or 451 as needed. -/
  | junctionSensorRead (die : Fin 3) (t : Int)
  /-- THERMAL_SHUTDOWN (R482): The junction temperature has been at or above 115 °C for 1 ms, so the device enters DOZE.
  -/
  | thermalShutdown
  /-- RST_N_RECOGNISED (R487): RST_N has been low for 1 µs and the internal reset is asserted. -/
  | rstNRecognised
  /-- RST_N_PULSE_IGNORED (R487): A low pulse on RST_N shorter than 1 µs is ignored and counted. -/
  | rstNPulseIgnored
  /-- RST_N_RELEASE (R487): RST_N rises and the internal reset ends after at least 10 µs. -/
  | rstNRelease
  /-- RESET_HELD (R488): RST_N stays low for 5 s, and the device enters reset held. -/
  | resetHeld
  /-- START_ATTEMPT (R497): A start attempt begins, is recorded, and loads its image or enters LANTERN. -/
  | startAttempt (sel : Fin 4)
  /-- FIRMWARE_VERIFY_COMPLETE (R493): Firmware image verification ends with a pass or a reason code. -/
  | firmwareVerifyComplete (readOk : Bool)
  /-- BOOT_GO (R494): Writing BOOT_CTRL.GO starts verification of the host-delivered image. -/
  | bootGo
  /-- HOST_IMAGE_TIMEOUT (R494): The host image wait ends without GO, and the attempt fails with 0x13. -/
  | hostImageTimeout
  /-- START_SELF_TEST_COMPLETE (R495): The start self-test ends, and the image runs or the attempt fails. -/
  | startSelfTestComplete (detail : Fin 9) (failed : List SourceUnit)
  /-- START_CONFIRMATION (R496): A write to object 0x1301:01 confirms the start attempt. -/
  | startConfirmation (p : Path) (txid : Word) (v : Word)
  /-- CONFIRMATION_DEADLINE (R496): 30 s pass without confirmation, and the attempt fails with 0x30. -/
  | confirmationDeadline
  /-- MIRROR_PROGRAM_COMPLETE (R499): A mirror log record finishes programming, and the next flash read may start. -/
  | mirrorProgramComplete
  /-- SLOT_BLOCK_WRITE (R501): A write of object 0x1310 erases and programs a flash block of a slot. -/
  | slotBlockWrite (p : Path) (txid : Word) (b : Fin 1024) (off : BitVec 15) (bytes : List Byte)
  /-- SLOT_VERIFY (R501): Writing 1 to object 0x1311:01 verifies a flash slot. -/
  | slotVerify (p : Path) (txid : Word) (slot : Fin 2)
  /-- SLOT_ERASE (R501): Writing 2 to object 0x1311:01 erases a flash slot. -/
  | slotErase (p : Path) (txid : Word) (slot : Fin 2)
  /-- SLOT_VERIFY_COMPLETE (R501): Flash slot verification ends with its status and reason. -/
  | slotVerifyComplete (slot : Fin 2) (readOk : Bool)
  /-- SPI_REQUEST (R522): A committed REQUEST frame on the sideband SPI is handled as a mailbox command. -/
  | spiRequest (words : List Word) (edges : Nat)
  /-- SPI_FETCH (R523): A FETCH frame clocks out the held response. -/
  | spiFetch (words : List Word) (edges : Nat)
  /-- SPI_CLEAR (R521): A CLEAR frame clears the selected SB_STATUS flags. -/
  | spiClear (words : List Word) (edges : Nat)
  /-- TOD_RX_NOT_CURRENT (R85): 1.5 s pass without an accepted binary TOD_RX message with FLAGS bit 0 set, so TOD_RX
  stops supplying the offset and leap indication, and the next current source takes over. -/
  | todRxNotCurrent
  /-- RING_RECEIVE_SIDE_DOWN (R202): A ring port's PCS loses code-group synchronisation, so its receive side goes down,
  which drives wrapping under R219 and the LINKS bits. -/
  | ringReceiveSideDown (r p : Fin 2)
  /-- RING_RECEIVE_SIDE_UP (R202): A ring port's PCS gains code-group synchronisation, so its receive side comes up again
  and wrapping stops. -/
  | ringReceiveSideUp (r p : Fin 2)
  /-- TEST_EN_CHANGE (R508): The TEST_EN strap changes level, asserting main power-on reset while it is high and
  releasing that hold when it goes low. -/
  | testEnChange (high : Bool)
  /-- DIE_RESET_COMPLETE (R486): A die C0 or C1 reset completes 5 ms after it began, its link credits are re-initialised
  and its regions come back. -/
  | dieResetComplete (c : Fin 2)
  /-- ENTRY_FORGET_TIME_EXPIRY (R188): A node entry's history goes unheard for the entry forget time, which acts as its
  reset timeout and sets take_any for that history. -/
  | entryForgetTimeExpiry (i : BitVec 14) (k : Fin 3)
deriving DecidableEq, Repr

end Sys2Proof
end

