-- ==== Sys2Proof/Decode.lean ====
section
/-! DEFINITION. The decoder of the table's words. No row of the opcode table has bit fields: a command reaches the device as a
bus transaction, a frame, a pin event or an instant of its own clocks, each with the operands of its constructor. So no word
spells a command. -/
namespace Sys2Proof

/-- The command that a word spells by the table's bits: none does. -/
def decodeTableWord (_nbits _w : Nat) : Option Instr := none

end Sys2Proof
end

