-- ==== Sys2Proof/Machine/Crypto.lean ====
section
/-! DEFINITION. The cryptography that the rules name: SHA-256 with HMAC (R45), SHA-384 and ECDSA over P-384 (R297, R493).
The algorithms are those of FIPS 180-4, FIPS 198-1 and FIPS 186-5 (PRESUMED, log 43). -/
namespace Sys2Proof.Machine

/-- Round constants of SHA-256, part 1. -/
def k2560 : List Nat :=
  [0x428A2F98, 0x71374491, 0xB5C0FBCF, 0xE9B5DBA5, 0x3956C25B, 0x59F111F1, 0x923F82A4, 0xAB1C5ED5,
   0xD807AA98, 0x12835B01, 0x243185BE, 0x550C7DC3, 0x72BE5D74, 0x80DEB1FE, 0x9BDC06A7, 0xC19BF174,
   0xE49B69C1, 0xEFBE4786, 0x0FC19DC6, 0x240CA1CC, 0x2DE92C6F, 0x4A7484AA, 0x5CB0A9DC, 0x76F988DA,
   0x983E5152, 0xA831C66D, 0xB00327C8, 0xBF597FC7, 0xC6E00BF3, 0xD5A79147, 0x06CA6351, 0x14292967]

/-- Round constants of SHA-256, part 2. -/
def k2561 : List Nat :=
  [0x27B70A85, 0x2E1B2138, 0x4D2C6DFC, 0x53380D13, 0x650A7354, 0x766A0ABB, 0x81C2C92E, 0x92722C85,
   0xA2BFE8A1, 0xA81A664B, 0xC24B8B70, 0xC76C51A3, 0xD192E819, 0xD6990624, 0xF40E3585, 0x106AA070,
   0x19A4C116, 0x1E376C08, 0x2748774C, 0x34B0BCB5, 0x391C0CB3, 0x4ED8AA4A, 0x5B9CCA4F, 0x682E6FF3,
   0x748F82EE, 0x78A5636F, 0x84C87814, 0x8CC70208, 0x90BEFFFA, 0xA4506CEB, 0xBEF9A3F7, 0xC67178F2]

/-- Round constants of SHA-256. -/
def k256 : List Nat := k2560 ++ k2561

/-- Round constants of SHA-384, part 1. -/
def k5120 : List Nat :=
  [0x428A2F98D728AE22, 0x7137449123EF65CD, 0xB5C0FBCFEC4D3B2F, 0xE9B5DBA58189DBBC,
   0x3956C25BF348B538, 0x59F111F1B605D019, 0x923F82A4AF194F9B, 0xAB1C5ED5DA6D8118,
   0xD807AA98A3030242, 0x12835B0145706FBE, 0x243185BE4EE4B28C, 0x550C7DC3D5FFB4E2,
   0x72BE5D74F27B896F, 0x80DEB1FE3B1696B1, 0x9BDC06A725C71235, 0xC19BF174CF692694]

/-- Round constants of SHA-384, part 2. -/
def k5121 : List Nat :=
  [0xE49B69C19EF14AD2, 0xEFBE4786384F25E3, 0x0FC19DC68B8CD5B5, 0x240CA1CC77AC9C65,
   0x2DE92C6F592B0275, 0x4A7484AA6EA6E483, 0x5CB0A9DCBD41FBD4, 0x76F988DA831153B5,
   0x983E5152EE66DFAB, 0xA831C66D2DB43210, 0xB00327C898FB213F, 0xBF597FC7BEEF0EE4,
   0xC6E00BF33DA88FC2, 0xD5A79147930AA725, 0x06CA6351E003826F, 0x142929670A0E6E70]

/-- Round constants of SHA-384, part 3. -/
def k5122 : List Nat :=
  [0x27B70A8546D22FFC, 0x2E1B21385C26C926, 0x4D2C6DFC5AC42AED, 0x53380D139D95B3DF,
   0x650A73548BAF63DE, 0x766A0ABB3C77B2A8, 0x81C2C92E47EDAEE6, 0x92722C851482353B,
   0xA2BFE8A14CF10364, 0xA81A664BBC423001, 0xC24B8B70D0F89791, 0xC76C51A30654BE30,
   0xD192E819D6EF5218, 0xD69906245565A910, 0xF40E35855771202A, 0x106AA07032BBD1B8]

/-- Round constants of SHA-384, part 4. -/
def k5123 : List Nat :=
  [0x19A4C116B8D2D0C8, 0x1E376C085141AB53, 0x2748774CDF8EEB99, 0x34B0BCB5E19B48A8,
   0x391C0CB3C5C95A63, 0x4ED8AA4AE3418ACB, 0x5B9CCA4F7763E373, 0x682E6FF3D6B2B8A3,
   0x748F82EE5DEFB2FC, 0x78A5636F43172F60, 0x84C87814A1F0AB72, 0x8CC702081A6439EC,
   0x90BEFFFA23631E28, 0xA4506CEBDE82BDE9, 0xBEF9A3F7B2C67915, 0xC67178F2E372532B]

/-- Round constants of SHA-384, part 5. -/
def k5124 : List Nat :=
  [0xCA273ECEEA26619C, 0xD186B8C721C0C207, 0xEADA7DD6CDE0EB1E, 0xF57D4F7FEE6ED178,
   0x06F067AA72176FBA, 0x0A637DC5A2C898A6, 0x113F9804BEF90DAE, 0x1B710B35131C471B,
   0x28DB77F523047D84, 0x32CAAB7B40C72493, 0x3C9EBE0A15C9BEBC, 0x431D67C49C100D4C,
   0x4CC5D4BECB3E42B6, 0x597F299CFC657E2A, 0x5FCB6FAB3AD6FAEC, 0x6C44198C4A475817]

/-- Round constants of SHA-384. -/
def k512 : List Nat := k5120 ++ k5121 ++ k5122 ++ k5123 ++ k5124

/-- Initial hash values. -/
def h256 : List Nat :=
  [0x6A09E667, 0xBB67AE85, 0x3C6EF372, 0xA54FF53A, 0x510E527F, 0x9B05688C, 0x1F83D9AB, 0x5BE0CD19]
def h384 : List Nat :=
  [0xCBBB9D5DC1059ED8, 0x629A292A367CD507, 0x9159015A3070DD17, 0x152FECD8F70E5939,
   0x67332667FFC00B31, 0x8EB44A8768581511, 0xDB0C2E0D64F98FA7, 0x47B5481DBEFA4FA4]

/-- Rotate a `w`-bit word right. -/
def rotr (w n x : Nat) : Nat := (x >>> n) ||| (x <<< (w - n)) % 2 ^ w

/-- The parameters of a SHA-2 function: word size and the rotations of its four sigma functions (the last of each of the
small ones is a shift). -/
structure Sha where
  w : Nat
  b0 : Nat × Nat × Nat
  b1 : Nat × Nat × Nat
  s0 : Nat × Nat × Nat
  s1 : Nat × Nat × Nat
  k : List Nat
deriving DecidableEq, Repr

def sha256p : Sha := ⟨32, (2, 13, 22), (6, 11, 25), (7, 18, 3), (17, 19, 10), k256⟩
def sha384p : Sha := ⟨64, (28, 34, 39), (14, 18, 41), (1, 8, 7), (19, 61, 6), k512⟩

/-- A large sigma: three rotations. -/
def Sha.big (p : Sha) (r : Nat × Nat × Nat) (x : Nat) : Nat := rotr p.w r.1 x ^^^ rotr p.w r.2.1 x ^^^ rotr p.w r.2.2 x

/-- A small sigma: two rotations and a shift. -/
def Sha.small (p : Sha) (r : Nat × Nat × Nat) (x : Nat) : Nat := rotr p.w r.1 x ^^^ rotr p.w r.2.1 x ^^^ (x >>> r.2.2)

/-- The message schedule, newest word first, extended by `n` words. -/
def Sha.extend (p : Sha) : Nat → List Nat → List Nat
  | 0, ws => ws
  | n + 1, ws =>
    let x := p.small p.s1 (ws.getD 1 0) + ws.getD 6 0 + p.small p.s0 (ws.getD 14 0) + ws.getD 15 0
    p.extend n (x % 2 ^ p.w :: ws)

/-- One round over the eight working words. -/
def Sha.round (p : Sha) (v : List Nat) (kw : Nat × Nat) : List Nat :=
  match v with
  | [a, b, c, d, e, f, g, h] =>
    let ch := (e &&& f) ^^^ ((2 ^ p.w - 1 - e) &&& g)
    let maj := (a &&& b) ^^^ (a &&& c) ^^^ (b &&& c)
    let t1 := h + p.big p.b1 e + ch + kw.1 + kw.2
    let t2 := p.big p.b0 a + maj
    [(t1 + t2) % 2 ^ p.w, a, b, c, (d + t1) % 2 ^ p.w, e, f, g]
  | l => l

/-- Compress one block. -/
def Sha.block (p : Sha) (hs : List Nat) (bs : List Byte) : List Nat :=
  let m := (List.range 16).map (fun i => beAt bs (i * (p.w / 8)) (p.w / 8))
  let ws := (p.extend (p.k.length - 16) m.reverse).reverse
  let v := (p.k.zip ws).foldl p.round hs
  (hs.zip v).map (fun x => (x.1 + x.2) % 2 ^ p.w)

/-- Compress `n` blocks. -/
def Sha.blocks (p : Sha) : Nat → List Nat → List Byte → List Nat
  | 0, hs, _ => hs
  | n + 1, hs, bs => p.blocks n (p.block hs (bs.take (2 * p.w))) (bs.drop (2 * p.w))

/-- The padded message. -/
def Sha.pad (p : Sha) (bs : List Byte) : List Byte :=
  let blk := 2 * p.w
  let lenBytes := p.w / 4
  let r := (bs.length + 1 + lenBytes) % blk
  bs ++ [0x80] ++ zeros (if r = 0 then 0 else blk - r) ++ beBytes lenBytes (8 * bs.length)

/-- The hash, as bytes. -/
def Sha.hash (p : Sha) (init : List Nat) (bs : List Byte) : List Byte :=
  let m := p.pad bs
  (p.blocks (m.length / (2 * p.w)) init m).flatMap (beBytes (p.w / 8))

/-- SHA-256. [PRESUMED: log 43] -/
def sha256 (bs : List Byte) : List Byte := sha256p.hash h256 bs

/-- SHA-384. -/
def sha384 (bs : List Byte) : List Byte := (sha384p.hash h384 bs).take 48

/-- HMAC with SHA-256. -/
def hmac256 (key msg : List Byte) : List Byte :=
  let k := padTo 64 (if key.length > 64 then sha256 key else key)
  sha256 (k.map (· ^^^ 0x5C) ++ sha256 (k.map (· ^^^ 0x36) ++ msg))

/-! ### P-384 -/

/-- The field prime, the group order, the coefficient b and the base point of P-384. -/
def p384 : Nat := 2 ^ 384 - 2 ^ 128 - 2 ^ 96 + 2 ^ 32 - 1
def n384 : Nat := 0xFFFFFFFFFFFFFFFFFFFFFFFFFFFFFFFFFFFFFFFFFFFFFFFFC7634D81F4372DDF581A0DB248B0A77AECEC196ACCC52973
def b384 : Nat := 0xB3312FA7E23EE7E4988E056BE3F82D19181D9C6EFE8141120314088F5013875AC656398D8A2ED19D2A85C8EDD3EC2AEF
def gx384 : Nat := 0xAA87CA22BE8B05378EB1C71EF320AD746E1D3B628BA79B9859F741E082542A385502F25DBF55296C3A545E3872760AB7
def gy384 : Nat := 0x3617DE4A96262C6F5D9E98BF9292DC29F8F41DBD289A147CE9DA3113B5F0B8C00A60B1CE1D7E819D7A431D7C90EA0E5F

/-- x^e mod m over the lowest `n` bits of e, by squaring. -/
def powModFrom (m e : Nat) : Nat → Nat → Nat → Nat
  | 0, _, acc => acc
  | n + 1, x, acc => powModFrom m (e / 2) n (x * x % m) (if e % 2 = 1 then acc * x % m else acc)

/-- The inverse modulo a 384-bit prime (Fermat). -/
def invMod (m x : Nat) : Nat := powModFrom m (m - 2) 384 (x % m) 1

/-- A point in Jacobian coordinates; z = 0 is the point at infinity. -/
structure JPoint where
  x : Nat
  y : Nat
  z : Nat
deriving DecidableEq, Repr

/-- Subtraction in the field. -/
def fsub (a b : Nat) : Nat := (a + (p384 - b % p384)) % p384

/-- Double a point. -/
def JPoint.dbl (p : JPoint) : JPoint :=
  if p.z = 0 ∨ p.y = 0 then ⟨1, 1, 0⟩ else
  let zz := p.z * p.z % p384
  let m := 3 * (fsub p.x zz * (p.x + zz) % p384) % p384
  let yy := p.y * p.y % p384
  let s := 4 * p.x * yy % p384
  let x := fsub (m * m % p384) (2 * s)
  ⟨x, fsub (m * fsub s x % p384) (8 * yy * yy), 2 * p.y * p.z % p384⟩

/-- Add two points. -/
def JPoint.add (p q : JPoint) : JPoint :=
  if p.z = 0 then q else if q.z = 0 then p else
  let z1 := p.z * p.z % p384
  let z2 := q.z * q.z % p384
  let u1 := p.x * z2 % p384
  let u2 := q.x * z1 % p384
  let s1 := p.y * z2 % p384 * q.z % p384
  let s2 := q.y * z1 % p384 * p.z % p384
  if u1 = u2 then (if s1 = s2 then p.dbl else ⟨1, 1, 0⟩)
  else
    let h := fsub u2 u1
    let r := fsub s2 s1
    let hh := h * h % p384
    let hhh := h * hh % p384
    let v := u1 * hh % p384
    let x := fsub (fsub (r * r % p384) hhh) (2 * v)
    ⟨x, fsub (r * fsub v x % p384) (s1 * hhh), h * p.z % p384 * q.z % p384⟩

/-- The multiple of a point by the lowest `n` bits of k, highest bit first. -/
def JPoint.mulFrom (p : JPoint) (k : Nat) : Nat → JPoint → JPoint
  | 0, acc => acc
  | n + 1, acc =>
    let acc := acc.dbl
    p.mulFrom k n (if k.testBit n then acc.add p else acc)

/-- Is a point given by its coordinates on the curve? -/
def onCurve (x y : Nat) : Bool :=
  decide (x < p384 ∧ y < p384) && (y * y % p384 == fsub (x * x % p384 * x + b384) (3 * x))

/-- Does (r, s) sign a digest under the uncompressed public key of 97 bytes? -/
def ecdsaVerify (key digest : List Byte) (r s : Nat) : Bool :=
  let qx := beAt key 1 48
  let qy := beAt key 49 48
  if key.length ≠ 97 ∨ byteAt key 0 ≠ 4 then false
  else if !onCurve qx qy || decide (r = 0 ∨ n384 ≤ r ∨ s = 0 ∨ n384 ≤ s) then false
  else
    let w := invMod n384 s
    let u := beNat digest * w % n384
    let v := r * w % n384
    let a := (JPoint.mk gx384 gy384 1).mulFrom u 384 ⟨1, 1, 0⟩
    let b := (JPoint.mk qx qy 1).mulFrom v 384 ⟨1, 1, 0⟩
    let q := a.add b
    if q.z = 0 then false
    else
      let zi := invMod p384 q.z
      q.x * (zi * zi % p384) % p384 % n384 == r

end Sys2Proof.Machine
end

