-- ==== Sys2Proof/Config.lean ====
section
/-! DEFINITION. What an implementation fixes and the spec does not state, as constants without a body, and the free
values: nothing in Lean can say what they are. -/
namespace Sys2Proof.Config

/-- A free value: the n-th value that the spec leaves open in a run (assumption log 3). -/
opaque freeValue : Nat → Nat

/-- The BAR0 offset of an object's hot register, none where it has no such register (R38, R42). -/
opaque hotOffset : Nat → Option Nat

/-- Garoster's kernel-signing public key, the default of object 0x5010:01 element 0 (R297). -/
opaque garosterKey : List Byte

/-- The fused hash of the firmware-signing key, object 0x1302:0A (R493). -/
opaque fusedHash : List Byte

/-- The device's PTP clock identity, object 0x2100:01 (R138). -/
opaque clockIdentity : List Byte

/-- The device's own MAC address of a port: 0 to 15 for P0 to P15, 16 for MGT (R432). -/
opaque portMac : Nat → List Byte

/-- The device's own IPv4 address on a port (R42, R45). -/
opaque portIp : Nat → Nat

/-- The per-path asymmetry calibration of a replica, in 2^-16 ns (R24). -/
opaque replicaCalibration : Nat → Int

/-- The completion timeout of a Device Control 2 range other than 0000, in 2^-16 ns (R401). -/
opaque completionTimeout : Nat → Nat

end Sys2Proof.Config
end

