-- ==== Sys2Proof/Machine/Catalog.lean ====
section
/-! DEFINITION. The object dictionary's catalogue (R34 to R44): every object of every chapter, with its type, access,
least role, default and limits, in the order of the chapters' object tables. -/
namespace Sys2Proof.Machine

/-- Communication and transaction objects (R44, R67). -/
def objsConfig : List Obj := [
  num 0x110001 .u16 .rws .maintainer 50321 (.range 1024 65535),
  num 0x110002 .bool .rws .maintainer 1 .any,
  num 0x110003 .u16 .rws .maintainer 0 .any,
  num 0x110004 .u8 .rws .maintainer 1 (.range 0 3),
  num 0x110005 .u16 .const .observer 10 .any,
  num 0x110006 .u16 .const .observer 256 .any,
  num 0x110007 .u32 .ro .observer 0 .any,
  oct 0x118001 .wo .maintainer 32 32,
  num 0x120001 .u8 .ro .observer 0 .any,
  num 0x120002 .u32 .ro .observer 0 .any,
  num 0x120003 .u16 .ro .observer 0 .any,
  num 0x120004 .ktime .ro .observer 0 .any,
  num 0x120005 .u16 .ro .observer 0 .any,
  num 0x120006 .u8 .ro .observer 0 .any,
  num 0x120007 .u32 .ro .observer 0 .any]

/-- Timekeeper and time input/output objects (R109). -/
def objsTime : List Obj := [
  num 0x200001 .u8 .rws .engineer 1 (.oneOf [1, 2, 3]),
  num 0x200002 .u16 .rws .engineer 20 (.range 5 1000),
  num 0x200003 .u32 .rws .engineer 60 (.range 0 86400),
  num 0x200004 .u16 .rws .engineer 10 (.range 1 100),
  num 0x200005 .u32 .rws .engineer 1000 (.range 100 1000000000),
  num 0x200006 .bool .rws .engineer 1 .any,
  num 0x200007 .u32 .rws .engineer 1000 (.range 50 1000000),
  num 0x200008 .i16 .rws .engineer 37 .any,
  num 0x200009 .ktime .wo .maintainer 0 .any,
  num 0x200101 .u8 .ro .observer 0 .any,
  num 0x200102 .u8 .ro .observer 0 .any,
  num 0x200103 .i64 .ro .observer 0 .any,
  num 0x200104 .i32 .ro .observer 0 .any,
  num 0x200105 .i32 .ro .observer 0 .any,
  num 0x200106 .u8 .ro .observer 0 .any,
  num 0x200107 .u32 .ro .observer 0 .any,
  num 0x200108 .u32 .ro .observer 0 .any,
  num 0x200201 .u16 .rws .engineer 50 (.range 10 1000),
  num 0x200202 .u8 .rws .engineer 8 (.range 2 64),
  num 0x200203 .u16 .rws .engineer 200 (.range 20 10000),
  num 0x200204 .u16 .rws .engineer 50 (.range 10 1000),
  num 0x200205 .u32 .rws .engineer 10000 (.range 100 200000),
  num 0x201001 .u8 .rws .engineer 0 (.oneOf [0, 1, 2, 3, 4]),
  num 0x201101 .u8 .ro .observer 0 .any,
  num 0x202001 .u8 .rws .engineer 0 (.oneOf [0, 1]),
  num 0x202002 .i32 .rws .engineer 0 (.range (-1000000) 1000000),
  num 0x202003 .u8 .rws .engineer 1 (.oneOf [1, 2, 3]),
  num 0x202004 .u8 .ro .observer 0 .any,
  num 0x202005 .u32 .ro .observer 0 .any,
  num 0x203001 .u8 .rws .engineer 1 (.oneOf [1, 2]),
  num 0x203002 .u32 .rws .engineer 9600 (.oneOf [4800, 9600, 19200, 38400, 57600, 115200]),
  num 0x203003 .u8 .rws .engineer 0 (.oneOf [0, 1]),
  num 0x203004 .u32 .ro .observer 0 .any,
  num 0x204001 .u8 .rws .engineer 3 (.range 0 15),
  num 0x204002 .i32 .rws .engineer 0 (.range (-1000000) 1000000),
  num 0x204003 .u8 .ro .observer 255 .any,
  num 0x204004 .u8 .ro .observer 0 .any,
  num 0x204005 .u32 .ro .observer 0 .any,
  num 0x204101 .u8 .rws .engineer 4 (.range 0 7),
  num 0x204102 .bool .rws .engineer 1 .any,
  num 0x204103 .i8 .rws .engineer 0 (.range (-32) 32),
  num 0x204104 .bool .rws .engineer 0 .any,
  num 0x205001 .bool .rws .engineer 0 .any,
  num 0x205002 .u32 .rws .engineer 0xf4240 (.range 1000 1000000),
  num 0x205003 .u32 .rws .engineer 0x186a0 .any,
  num 0x205004 .i32 .rws .engineer 0 (.range (-1000000) 1000000),
  num 0x205005 .u8 .rws .engineer 0 (.oneOf [0, 1]),
  num 0x206001 .bool .rws .engineer 0 .any,
  num 0x206002 .u8 .rws .engineer 0 (.oneOf [0, 1]),
  num 0x207001 .u8 .rws .engineer 0 (.oneOf [0, 1, 2]),
  num 0x207002 .u16 .rws .engineer 20 (.range 0 1000),
  num 0x207003 .bool .rws .engineer 1 .any,
  num 0x207004 .u32 .ro .observer 0 .any,
  oct 0x207005 .ro .operator 256 0,
  num 0x208001 .ktime .rw .operator 0 .any,
  num 0x208002 .u32 .rw .operator 1000 (.range 10 1000000000),
  num 0x208003 .u64 .rw .operator 0 .any,
  num 0x208004 .u32 .rw .operator 1 .any,
  num 0x208005 .u8 .wo .operator 0 (.oneOf [1, 2]),
  num 0x208006 .u8 .ro .observer 0 .any,
  num 0x208007 .u32 .ro .observer 0 .any]

/-- Network time objects (R138). -/
def objsPtp : List Obj := [
  oct 0x210001 .ro .observer 8 0,
  num 0x210002 .u8 .rws .engineer 0 (.range 0 3),
  num 0x210003 .u8 .rws .engineer 160 .any,
  num 0x210004 .u32 .ro .observer 0 .any,
  num 0x211001 .bool .rws .engineer 0 .any,
  num 0x211002 .u8 .rws .engineer 3 (.oneOf [1, 2, 3, 4, 5]),
  num 0x211003 .u8 .rws .engineer 0 .any,
  num 0x211004 .u16 .rws .engineer 0 (.range 0 4095),
  num 0x211005 .u8 .rws .engineer 128 .any,
  num 0x211006 .u8 .rws .engineer 128 .any,
  num 0x211007 .bool .rws .engineer 0 .any,
  num 0x211008 .u8 .rws .engineer 1 (.oneOf [1, 2]),
  num 0x211009 .u8 .rws .engineer 7 .any,
  num 0x21100A .u8 .ro .observer 248 .any,
  num 0x21100B .i64 .ro .observer 0 .any,
  num 0x21100C .u8 .ro .observer 0 .any,
  num 0x212001 .bool .rws .engineer 0 .any,
  num 0x212002 .i8 .rws .engineer 0 (.range (-7) 4),
  num 0x212003 .i8 .rws .engineer 0 (.range (-3) 4),
  num 0x212004 .i8 .rws .engineer 0 (.range (-4) 5),
  num 0x212005 .u8 .rws .engineer 3 (.range 2 10),
  num 0x212006 .bool .rws .engineer 0 .any,
  num 0x212007 .i32 .rws .engineer 0 (.range (-1000000) 1000000),
  num 0x212008 .u8 .ro .observer 0 .any,
  num 0x212009 .i64 .ro .observer 0 .any,
  num 0x213001 .i32 .rws .engineer 0 (.range (-100000) 100000),
  num 0x213002 .i32 .rws .engineer 0 (.range (-100000) 100000),
  num 0x214001 .u16 .rws .engineer 65535 (.rangeOr 0 255 0xffff),
  num 0x214002 .u32 .ro .observer 0 .any,
  num 0x214003 .u32 .ro .observer 0 .any,
  num 0x215001 .u8 .rws .engineer 1 (.oneOf [1, 2]),
  num 0x215002 .u8 .rws .engineer 2 (.oneOf [2, 3])]

/-- Port, gate, binding and syzygy objects (R174). -/
def objsPort : List Obj := [
  num 0x300001 .bool .rws .engineer 0 .any,
  num 0x300002 .u8 .rws .engineer 1 (.range 1 4),
  num 0x300003 .u8 .rws .engineer 2 (.oneOf [0, 1, 2]),
  num 0x300004 .u32 .rws .engineer 0xfac688 .any,
  num 0x300005 .u8 .rws .engineer 0 (.range 0 7),
  num 0x300006 .u8 .rws .engineer 0 .any,
  num 0x300007 .u8 .rws .engineer 0 .any,
  num 0x300008 .bool .rws .engineer 0 .any,
  num 0x301001 .u16 .rws .engineer 1522 (.range 64 9216),
  num 0x301002 .bool .rws .engineer 0 .any,
  num 0x301003 .u64 .ro .observer 0 .any,
  num 0x301004 .u64 .ro .observer 0 .any,
  num 0x301005 .u64 .ro .observer 0 .any,
  num 0x301006 .u64 .ro .observer 0 .any,
  num 0x302001 .u8 .ro .observer 0 .any,
  num 0x302002 .u8 .rws .engineer 0 (.range 0 3),
  num 0x302003 .bool .rws .engineer 0 .any,
  num 0x302004 .u8 .rws .engineer 255 .any,
  num 0x302005 .u64 .ro .observer 0 .any,
  num 0x302006 .u16 .ro .observer 0 .any,
  num 0x302007 .u32 .ro .observer 0 .any,
  num 0x303001 .ktime .rws .engineer 0 .any,
  num 0x303002 .u32 .rws .engineer 0xf4240 .any,
  num 0x303003 .u32 .rws .engineer 0 .any,
  num 0x303004 .u32 .rws .engineer 0 .any,
  num 0x303005 .u8 .rws .engineer 0 (.range 0 60),
  num 0x303006 .u16 .rws .engineer 1 (.range 1 1024),
  num 0x303007 .u8 .ro .observer 0 .any,
  oct 0x303008 .rws .engineer 8192 0,
  num 0x304001 .bool .rws .engineer 0 .any,
  num 0x304002 .bool .rws .engineer 0 .any,
  num 0x304003 .u8 .rws .engineer 10 (.range 1 128),
  num 0x304004 .u8 .rws .engineer 0 (.range 0 3),
  num 0x304005 .u32 .rws .engineer 64 (.range 0 100000),
  num 0x304006 .u32 .rws .engineer 0 (.range 0 100000),
  num 0x304007 .u8 .ro .observer 0 .any,
  num 0x304008 .u64 .ro .observer 0 .any,
  num 0x304009 .u64 .ro .observer 0 .any,
  num 0x305001 .u8 .rws .engineer 8 (.range 0 100),
  num 0x305002 .u32 .ro .observer 0 .any,
  num 0x305003 .bool .ro .observer 0 .any,
  num 0x306001 .u32 .rws .engineer 0 (.range 0 262143),
  num 0x306002 .u8 .rws .engineer 255 (.rangeOr 0 15 0xff),
  num 0x306003 .u8 .rws .engineer 0 (.range 0 7),
  num 0x306004 .u16 .rws .engineer 0 .any,
  num 0x306005 .u32 .rws .engineer 4000 (.range 3000 100000),
  num 0x306006 .u8 .rws .engineer 0 (.oneOf [0, 1]),
  num 0x306007 .u32 .ro .observer 0 .any,
  num 0x306008 .u32 .ro .observer 0 .any,
  num 0x306009 .u8 .rws .engineer 1 (.range 1 8),
  num 0x340001 .u32 .rw .engineer 0 (.range 1 4294967295),
  num 0x340002 .ktime .rw .engineer 0 .any,
  num 0x340003 .u32 .rw .engineer 0x186a0 (.range 20000 10000000),
  num 0x340004 .u32 .rw .engineer 20000 (.range 10000 10000000),
  num 0x340005 .u32 .rw .engineer 10000 (.range 1000 10000000),
  num 0x340006 .u8 .ro .observer 0 .any,
  num 0x340007 .u32 .ro .observer 0 .any,
  num 0x340008 .u8 .wo .engineer 0 (.oneOf [1, 2]),
  oct 0x340101 .rw .engineer 512 0,
  num 0x340102 .u64 .ro .observer 0 .any,
  num 0x340103 .u64 .ro .observer 0 .any]

/-- Redundancy objects (R199). -/
def objsRedundancy : List Obj := [
  num 0x310001 .u8 .rws .engineer 0 (.oneOf [0, 1, 2, 3]),
  oct 0x310002 .rws .engineer 6 6,
  num 0x310003 .u16 .rws .engineer 4096 (.rangeOr 0 4094 0x1000),
  oct 0x310004 .rws .engineer 4 4,
  oct 0x310005 .rws .engineer 4 4,
  num 0x310006 .u8 .rws .engineer 255 (.rangeOr 0 63 0xff),
  num 0x310007 .u8 .rws .engineer 255 .any,
  num 0x310008 .u16 .rws .engineer 0 .any,
  num 0x310009 .u16 .rws .engineer 0 .any,
  num 0x31000A .u16 .rws .engineer 0 .any,
  num 0x311001 .bool .rws .engineer 0 .any,
  num 0x311002 .u8 .rws .engineer 1 (.oneOf [1, 2]),
  num 0x311003 .u8 .rws .engineer 32 (.range 2 128),
  num 0x311004 .u16 .rws .engineer 1000 (.range 1 10000),
  num 0x311005 .bool .rws .engineer 0 .any,
  num 0x311006 .bool .rws .engineer 0 .any,
  num 0x311007 .u32 .rws .engineer 8 (.range 1 65535),
  num 0x311008 .u32 .rws .engineer 2000 (.range 100 600000),
  num 0x311009 .u64 .ro .observer 0 .any,
  num 0x31100A .u64 .ro .observer 0 .any,
  num 0x31100B .u64 .ro .observer 0 .any,
  num 0x31100C .u64 .ro .observer 0 .any,
  num 0x31100D .u64 .ro .observer 0 .any,
  num 0x31100E .u8 .wo .operator 0 (.oneOf [1]),
  num 0x31100F .bool .rws .engineer 0 .any,
  num 0x311010 .u64 .ro .observer 0 .any,
  num 0x311011 .u32 .rws .engineer 30000 (.range 1000 3600000),
  num 0x312001 .u16 .rws .engineer 0 .any,
  num 0x312002 .bool .rws .engineer 0 .any,
  num 0x312003 .u16 .rws .engineer 0 .any,
  num 0x312004 .u16 .rws .engineer 0 (.range 0 10000),
  num 0x312005 .u8 .rws .engineer 0 (.oneOf [0, 1]),
  num 0x312006 .u16 .ro .observer 0 .any,
  num 0x312007 .u64 .ro .observer 0 .any,
  num 0x312008 .u8 .rws .engineer 1 (.oneOf [1, 2, 3]),
  num 0x312009 .u8 .wo .operator 0 (.oneOf [1]),
  num 0x320001 .u8 .rws .engineer 0 (.oneOf [0, 1, 2]),
  num 0x320002 .u8 .rws .engineer 1 (.oneOf [1, 2]),
  num 0x320003 .u8 .rws .engineer 32 (.range 2 128),
  num 0x320004 .u16 .rws .engineer 400 (.range 10 10000),
  num 0x320005 .u16 .rws .engineer 60 (.range 1 3600),
  num 0x320006 .u16 .rws .engineer 2000 (.range 100 10000),
  num 0x320007 .u8 .rws .engineer 0 .any,
  num 0x320008 .u64 .ro .observer 0 .any,
  num 0x320009 .u64 .ro .observer 0 .any,
  num 0x32000A .u16 .ro .observer 0 .any,
  num 0x32000B .u64 .ro .observer 0 .any,
  num 0x32000C .u64 .ro .observer 0 .any,
  num 0x32000D .u64 .ro .observer 0 .any,
  num 0x32000E .u64 .ro .observer 0 .any,
  num 0x32000F .u64 .ro .observer 0 .any,
  num 0x320010 .u64 .ro .observer 0 .any,
  num 0x320011 .bool .rws .engineer 0 .any,
  oct 0x321001 .ro .observer 32 32]

/-- Ring objects (R242). -/
def objsRing : List Obj := [
  num 0x400001 .bool .rws .engineer 0 .any,
  num 0x400002 .u8 .rws .engineer 2 (.oneOf [1, 2]),
  num 0x400003 .u8 .rws .engineer 1 (.range 1 254),
  num 0x400004 .u8 .rws .engineer 1 (.oneOf [0, 1]),
  num 0x400005 .u8 .rws .engineer 0 .any,
  num 0x400006 .u32 .rws .engineer 0x3d090 (.range 10000 1000000),
  num 0x400007 .u32 .rws .engineer 0 .any,
  num 0x400008 .ktime .rws .engineer 0 .any,
  num 0x400009 .u8 .rws .engineer 1 (.range 0 60),
  num 0x40000A .u16 .rws .engineer 100 (.range 10 1000),
  num 0x40000B .u32 .rws .engineer 0x186a0 (.range 10000 1000000),
  num 0x40000C .u8 .rws .engineer 0 (.range 0 3),
  num 0x40000D .u8 .rws .maintainer 0 (.range 0 3),
  num 0x40000E .u16 .rws .engineer 10 (.range 1 100),
  num 0x40000F .u32 .rws .engineer 4000 (.range 3000 100000),
  num 0x400010 .u32 .rws .engineer 0xffffffff (.rangeOr 0 262143 0xffffffff),
  num 0x400101 .u8 .ro .observer 0 .any,
  num 0x400102 .u8 .ro .observer 0 .any,
  num 0x400103 .u8 .ro .observer 0 .any,
  num 0x400104 .u64 .ro .observer 0 .any,
  num 0x400105 .i64 .ro .observer 0 .any,
  num 0x400106 .u32 .ro .observer 0 .any,
  num 0x400107 .u8 .ro .observer 0 .any,
  num 0x400108 .u8 .ro .observer 0 .any,
  num 0x400109 .u32 .ro .observer 0 .any,
  num 0x40010A .u16 .ro .observer 0 .any,
  num 0x40010B .bool .ro .observer 0 .any,
  num 0x400201 .u64 .ro .observer 0 .any,
  num 0x400202 .u64 .ro .observer 0 .any,
  num 0x400203 .u64 .ro .observer 0 .any,
  num 0x400204 .u64 .ro .observer 0 .any,
  num 0x400205 .u64 .ro .observer 0 .any,
  num 0x400206 .u64 .ro .observer 0 .any,
  num 0x400207 .u64 .ro .observer 0 .any,
  num 0x400208 .u64 .ro .observer 0 .any,
  num 0x400209 .u32 .ro .observer 0 .any,
  num 0x40020A .u32 .ro .observer 0xffffffff .any,
  num 0x400301 .u64 .ro .observer 0 .any,
  num 0x400302 .u64 .ro .observer 0 .any,
  num 0x400303 .u64 .ro .observer 0 .any,
  num 0x400304 .u64 .ro .observer 0 .any,
  num 0x400305 .u64 .ro .observer 0 .any,
  num 0x400306 .u64 .ro .observer 0 .any,
  num 0x400307 .u64 .ro .observer 0 .any,
  num 0x400308 .u64 .ro .observer 0 .any,
  oct 0x401001 .rws .engineer 1312 0,
  num 0x401002 .u32 .ro .observer 0 .any,
  num 0x401003 .u8 .ro .observer 1 .any,
  oct 0x402001 .ro .observer 2032 0,
  oct 0x405001 .wo .operator 1020 0,
  oct 0x405002 .ro .operator 1024 0,
  num 0x405003 .u8 .ro .observer 0 .any]

/-- Ingest objects (R269). -/
def objsIngest : List Obj := [
  num 0x610001 .bool .rws .engineer 0 .any,
  num 0x610002 .u16 .rws .engineer 0 .any,
  oct 0x610003 .rws .engineer 6 6,
  num 0x610004 .u16 .rws .engineer 16384 .any,
  vstr 0x610005 .rws .engineer 64 0,
  num 0x610006 .u32 .rws .engineer 1 .any,
  num 0x610007 .u32 .rws .engineer 4800 (.range 4000 96000),
  num 0x610008 .u8 .rws .engineer 1 (.range 1 8),
  num 0x610009 .u8 .rws .engineer 8 (.range 1 32),
  num 0x61000A .u8 .rws .engineer 0 (.range 0 3),
  num 0x61000B .u32 .rws .engineer 0 .any,
  num 0x61000C .u8 .rws .engineer 0 (.oneOf [0, 1]),
  num 0x61000D .u32 .rws .engineer 0 (.range 0 1000000),
  oct 0x61000E .rws .engineer 8 8,
  num 0x61000F .u32 .rws .engineer 0xffffffff (.rangeOr 0 262143 0xffffffff),
  num 0x610010 .u64 .ro .observer 0 .any,
  num 0x610011 .u64 .ro .observer 0 .any,
  num 0x610012 .u64 .ro .observer 0 .any,
  num 0x610013 .u64 .ro .observer 0 .any,
  num 0x610014 .u64 .ro .observer 0 .any,
  num 0x610015 .u64 .ro .observer 0 .any,
  num 0x610016 .u64 .ro .observer 0 .any,
  num 0x610017 .u8 .ro .observer 0 .any,
  num 0x611001 .bool .rws .engineer 0 .any,
  oct 0x611002 .rws .engineer 4 4,
  num 0x611003 .u16 .rws .engineer 4713 .any,
  num 0x611004 .u16 .rws .engineer 0 .any,
  num 0x611005 .u8 .rws .engineer 0 (.range 0 3),
  num 0x611006 .u32 .rws .engineer 0 (.range 0 33554431),
  oct 0x611007 .rws .engineer 65535 0,
  num 0x611008 .u32 .rws .engineer 0xffffffff (.rangeOr 0 262143 0xffffffff),
  num 0x611009 .u32 .rws .engineer 0xffffffff (.rangeOr 0 262143 0xffffffff),
  num 0x61100A .u64 .ro .observer 0 .any,
  num 0x61100B .u64 .ro .observer 0 .any,
  num 0x61100C .u64 .ro .observer 0 .any,
  num 0x61100D .u64 .ro .observer 0 .any,
  num 0x61100E .u32 .rws .engineer 0xffffffff (.rangeOr 0 262143 0xffffffff),
  num 0x612001 .bool .rws .engineer 0 .any,
  num 0x612002 .u8 .rws .engineer 0 (.range 0 1),
  num 0x612003 .u8 .rws .engineer 1 (.range 1 254),
  num 0x612004 .u8 .rws .engineer 1 (.range 1 8),
  num 0x612005 .u8 .rws .engineer 8 (.range 1 32),
  num 0x612006 .u8 .rws .engineer 0 (.range 0 3),
  num 0x612007 .u32 .rws .engineer 0 .any,
  num 0x612008 .u32 .rws .engineer 0xffffffff (.rangeOr 0 262143 0xffffffff),
  num 0x612009 .u64 .ro .observer 0 .any,
  num 0x61200A .u64 .ro .observer 0 .any,
  num 0x61200B .u64 .ro .observer 0 .any,
  num 0x61200C .u64 .ro .observer 0 .any,
  num 0x613001 .f32 .rws .engineer 0x3a83126f .any,
  num 0x613002 .u32 .rws .engineer 1024 (.range 64 1048576),
  num 0x613003 .u32 .ro .observer 0xffffffff .any,
  num 0x613004 .u64 .ro .observer 0 .any,
  num 0x614001 .u32 .rws .engineer 5000 (.range 2000 1000000),
  num 0x614002 .u32 .rws .engineer 0xffffffff (.rangeOr 0 262143 0xffffffff),
  num 0x614003 .u64 .ro .observer 0 .any,
  num 0x614004 .u32 .ro .observer 0 .any,
  num 0x614101 .u64 .ro .observer 0 .any,
  num 0x614102 .u64 .const .observer 0x80000000 .any,
  num 0x614201 .u32 .rws .engineer 2048 (.range 2048 65536),
  num 0x614202 .u64 .ro .observer 0 .any,
  num 0x614203 .u32 .ro .observer 0 .any]

/-- Engine and kernel objects (R311); parameters 0x5200 follow the image, see schemaObj. -/
def objsEngine : List Obj := [
  num 0x500001 .u8 .ro .observer 0 .any,
  num 0x500002 .u16 .ro .observer 0 .any,
  num 0x500003 .u8 .ro .observer 0 .any,
  num 0x500004 .u64 .ro .observer 0 .any,
  num 0x500005 .u64 .ro .observer 0 .any,
  num 0x500006 .u64 .ro .observer 0 .any,
  num 0x500007 .u64 .ro .observer 0 .any,
  num 0x500008 .u8 .ro .observer 0 .any,
  num 0x500009 .u64 .ro .observer 0 .any,
  num 0x50000A .u64 .ro .observer 0 .any,
  num 0x50000B .u8 .ro .observer 0 .any,
  num 0x50000C .u8 .wo .maintainer 0 (.oneOf [1, 2]),
  num 0x500101 .u8 .rws .engineer 255 (.rangeOr 0 127 0xff),
  num 0x500102 .u8 .ro .observer 255 .any,
  num 0x500103 .u32 .ro .observer 0 .any,
  num 0x500104 .u8 .ro .observer 2 .any,
  oct 0x501001 .rw .maintainer 97 97,
  num 0x501002 .bool .rw .maintainer 0 .any,
  oct 0x502001 .rw .engineer 65535 0,
  num 0x502002 .u8 .wo .engineer 0 (.oneOf [1, 2]),
  num 0x502003 .u8 .ro .observer 0 .any,
  num 0x502004 .u8 .ro .observer 0 .any,
  num 0x502005 .u32 .ro .observer 0 .any,
  num 0x502006 .u32 .ro .observer 0 .any,
  num 0x502007 .u32 .ro .observer 0 .any,
  num 0x502008 .u8 .ro .observer 0 .any,
  num 0x510001 .u8 .rws .engineer 255 (.rangeOr 0 63 0xff),
  num 0x510002 .u8 .ro .observer 0 .any,
  num 0x510003 .u16 .ro .observer 0 .any,
  num 0x510004 .u16 .ro .observer 0 .any,
  num 0x510005 .u32 .ro .observer 0 .any,
  num 0x510006 .u8 .ro .observer 0 .any,
  num 0x510007 .u8 .wo .operator 0 (.oneOf [1]),
  num 0x530001 .u16 .rws .engineer 65535 (.rangeOr 0 2047 0xffff),
  num 0x530002 .u8 .rws .engineer 0 (.range 0 4),
  oct 0x530003 .rws .engineer 128 0,
  num 0x530004 .u32 .rws .engineer 96 (.range 1 65536),
  num 0x530005 .u32 .rws .engineer 0 .any,
  num 0x530006 .u32 .rws .engineer 520 (.range 100 4000000000),
  num 0x530007 .u32 .rws .engineer 20000 (.range 10 10000000),
  num 0x530008 .u32 .rws .engineer 0 .any,
  num 0x530009 .u64 .ro .observer 0 .any,
  num 0x53000A .u64 .ro .observer 0 .any,
  num 0x53000B .u64 .ro .observer 0 .any,
  num 0x53000C .u64 .ro .observer 0 .any]

/-- Derived channel and output stream objects (R338). -/
def objsPhasor : List Obj := [
  num 0x540001 .u32 .rws .engineer 0xffffffff (.rangeOr 0 262143 0xffffffff),
  num 0x540002 .u32 .rws .engineer 50 (.range 1 96000),
  num 0x540003 .u8 .rws .engineer 0 (.range 0 3),
  num 0x650001 .bool .rws .engineer 0 .any,
  oct 0x650002 .rws .engineer 65535 0,
  oct 0x650003 .rws .engineer 4096 0,
  num 0x650004 .u16 .rws .engineer 65535 (.rangeOr 0 8191 0xffff),
  num 0x650005 .u8 .rws .engineer 0 (.range 0 15),
  oct 0x650006 .rws .engineer 6 6,
  oct 0x650007 .rws .engineer 4 4,
  num 0x650008 .u16 .rws .engineer 4713 .any,
  oct 0x650009 .rws .engineer 4 4,
  num 0x65000A .u16 .rws .engineer 4712 .any,
  num 0x65000B .u16 .rws .engineer 4096 .any,
  num 0x65000C .u8 .rws .engineer 6 (.range 0 7),
  num 0x65000D .u32 .rws .engineer 50000 (.range 10 1000000),
  num 0x65000E .u32 .rws .engineer 0xffffffff (.rangeOr 0 262143 0xffffffff),
  num 0x65000F .u64 .ro .observer 0 .any,
  num 0x650010 .u64 .ro .observer 0 .any]

/-- Signal table, epoch and export objects (R370). -/
def objsTable : List Obj := [
  num 0x600001 .u16 .rws .engineer 50 (.range 1 480),
  num 0x600002 .u8 .rws .engineer 1 (.range 1 10),
  num 0x600003 .u32 .rws .engineer 2000 (.range 0 10000000),
  num 0x600004 .u64 .ro .observer 0 .any,
  num 0x600005 .u32 .rws .engineer 0xffffffff (.rangeOr 0 262143 0xffffffff),
  num 0x600006 .u64 .ro .observer 0 .any,
  num 0x600101 .u64 .ro .observer 0 .any,
  num 0x600102 .u64 .ro .observer 0 .any,
  num 0x600103 .u64 .ro .observer 0 .any,
  num 0x600104 .u64 .ro .observer 0 .any,
  num 0x600105 .u64 .ro .observer 0 .any,
  num 0x600106 .u64 .ro .observer 0 .any,
  num 0x600107 .u32 .ro .observer 0 .any,
  num 0x600108 .u32 .ro .observer 0 .any,
  num 0x600109 .u16 .ro .observer 0 .any,
  num 0x60010A .u32 .ro .observer 0 .any,
  oct 0x600201 .ro .observer 64 64,
  num 0x601001 .u8 .rws .engineer 0 (.oneOf [0, 1, 2]),
  num 0x601002 .u8 .rws .engineer 255 .any,
  num 0x601003 .u32 .rws .engineer 0 .any,
  num 0x620001 .bool .rws .engineer 0 .any,
  num 0x620002 .u32 .rws .engineer 0 (.range 0 1048576),
  num 0x620003 .u32 .rws .engineer 0xffffffff (.rangeOr 0 262143 0xffffffff),
  num 0x620004 .u64 .ro .observer 0 .any,
  num 0x620005 .u64 .ro .observer 0 .any,
  num 0x620006 .u64 .ro .observer 0 .any,
  oct 0x621001 .rws .engineer 4096 0]

/-- Wavefront objects (R393). -/
def objsWave : List Obj := [
  num 0xA00001 .bool .rws .engineer 0 .any,
  num 0xA00002 .u16 .rws .engineer 0 .any,
  oct 0xA00003 .rws .engineer 6 6,
  num 0xA00004 .u16 .rws .engineer 0 .any,
  num 0xA00005 .u8 .rws .engineer 1 (.range 1 8),
  num 0xA00006 .u16 .rws .engineer 0 (.range 0 511),
  num 0xA00007 .u8 .rws .engineer 0 (.range 0 3),
  num 0xA00008 .u16 .rws .engineer 200 (.range 200 1000),
  num 0xA00009 .u64 .ro .observer 0 .any,
  num 0xA0000A .u64 .ro .observer 0 .any,
  num 0xA0000B .u64 .ro .observer 0 .any,
  num 0xA0000C .u64 .ro .observer 0 .any,
  num 0xA0000D .u64 .ro .observer 0 .any,
  num 0xA00101 .u32 .rws .engineer 50 (.range 1 1000),
  num 0xA00102 .u64 .ro .observer 0 .any,
  num 0xA00103 .u64 .ro .observer 0 .any,
  num 0xA00104 .u64 .ro .observer 0 .any,
  num 0xA00105 .u32 .ro .observer 0 .any,
  num 0xA01001 .f32 .rws .engineer 0x3f800000 .any,
  num 0xA01002 .u8 .rws .engineer 255 (.rangeOr 0 63 0xff),
  num 0xA01003 .u8 .rws .engineer 2 (.range 1 8),
  num 0xA01004 .u16 .rws .engineer 2000 (.range 1 65535),
  num 0xA01005 .u32 .rws .engineer 1000 (.range 1000 100000),
  num 0xA01006 .u32 .rws .engineer 0 (.range 0 33554431),
  num 0xA01007 .u64 .ro .observer 0 .any,
  num 0xA01008 .bool .rws .engineer 0 .any,
  num 0xA01009 .u64 .ro .observer 0 .any,
  num 0xA02001 .u16 .rws .engineer 1000 (.range 0 1000),
  num 0xA02002 .u16 .rws .engineer 500 (.range 0 1000),
  num 0xA02003 .u32 .rws .engineer 1000 (.range 100 100000),
  num 0xA02004 .u8 .ro .observer 0 .any,
  num 0xA02005 .u64 .ro .observer 0 .any,
  num 0xA02006 .u64 .const .observer 0x100000000 .any,
  oct 0xA02101 .ro .observer 64 64,
  num 0xA02102 .u32 .wo .operator 0 (.range 0 262143),
  num 0xA02103 .u8 .wo .operator 0 (.oneOf [1]),
  num 0xA02104 .u8 .ro .observer 0 .any,
  num 0xA03001 .u16 .rws .engineer 65535 (.rangeOr 0 2047 0xffff),
  num 0xA03002 .u64 .ro .observer 0 .any,
  num 0xA03003 .u64 .ro .observer 0 .any,
  oct 0xA04001 .ro .observer 32 32,
  num 0xA10001 .bool .rws .engineer 0 .any,
  oct 0xA10002 .rws .engineer 128 0,
  oct 0xA10003 .rws .engineer 64 0,
  num 0xA10004 .u8 .rws .engineer 3 (.range 0 3),
  num 0xA10005 .u8 .rws .engineer 0 (.oneOf [0, 1]),
  num 0xA10006 .f64 .ro .observer 0 .any,
  oct 0xA10007 .rws .engineer 4 4,
  num 0xA10008 .u16 .rws .engineer 50321 .any,
  num 0xA10009 .u8 .rws .engineer 0 .any,
  num 0xA1000A .u8 .rws .engineer 1 (.range 1 3),
  num 0xA1000B .u32 .rws .engineer 100 (.range 10 10000),
  num 0xA1000C .u16 .rws .engineer 32768 .any,
  num 0xA1000D .u32 .rws .engineer 50 .any,
  num 0xA1000E .u32 .rws .engineer 1000 (.range 1 60000),
  num 0xA1000F .u64 .ro .observer 0 .any,
  num 0xA10010 .f32 .rws .engineer 0x41700000 .any,
  oct 0xA11001 .ro .observer 48 48]

/-- Endpoint objects (R420). -/
def objsPcie : List Obj := [
  num 0x700001 .u16 .rws .maintainer 7994 .any,
  num 0x700002 .u16 .rws .maintainer 1 .any,
  num 0x700003 .u16 .rws .engineer 512 (.range 32 768),
  num 0x700004 .u8 .rws .engineer 64 (.range 0 128),
  num 0x700005 .u16 .ro .observer 0 .any,
  num 0x700006 .u8 .ro .observer 0 .any,
  num 0x700007 .u32 .ro .observer 0 .any,
  num 0x700008 .u64 .ro .observer 0 .any,
  num 0x700009 .u16 .ro .observer 0 .any,
  num 0x700101 .u32 .rws .engineer 0 (.range 0 1000000),
  num 0x700102 .u64 .ro .observer 0 .any,
  num 0x700103 .u64 .ro .observer 0 .any]

/-- Queue objects (R451). -/
def objsQueue : List Obj := [
  num 0x700201 .u64 .ro .observer 0 .any,
  num 0x700202 .u64 .ro .observer 0 .any,
  num 0x700203 .u32 .const .observer 0x5b8d800 .any,
  num 0x700204 .u64 .ro .observer 0 .any,
  num 0x710001 .u8 .rws .engineer 0 (.oneOf [0, 1, 2, 3, 4]),
  num 0x710002 .u32 .rws .engineer 100 (.range 1 1048576),
  num 0x710003 .u32 .rws .engineer 0 .any,
  num 0x710004 .u8 .rws .engineer 4 (.range 1 16),
  num 0x710005 .u16 .rws .engineer 1 (.range 1 65535),
  num 0x710006 .u32 .rws .engineer 0 (.range 0 1000000),
  num 0x710007 .u16 .rws .engineer 65535 (.rangeOr 0 2047 0xffff),
  num 0x710008 .bool .rws .engineer 0 .any,
  num 0x710009 .u16 .rws .engineer 1522 (.range 64 9216),
  num 0x71000A .u32 .rws .engineer 24 .any,
  num 0x71000B .u32 .rws .engineer 1000 (.range 1 1000000),
  num 0x711001 .u8 .wo .operator 0 (.oneOf [1]),
  num 0x711002 .u8 .ro .observer 0 .any,
  num 0x711003 .u32 .ro .observer 0 .any,
  num 0x711004 .u8 .ro .observer 0 .any,
  num 0x711005 .u64 .ro .observer 0 .any,
  num 0x711006 .u64 .ro .observer 0 .any,
  num 0x711007 .u64 .ro .observer 0 .any,
  num 0x711008 .u64 .ro .observer 0 .any,
  num 0x712001 .u32 .rws .engineer 0xffffffff (.rangeOr 0 262143 0xffffffff),
  num 0x713001 .u32 .rws .engineer 0xffffffff (.rangeOr 0 262143 0xffffffff),
  num 0x713002 .u8 .rws .engineer 0 (.range 0 2)]

/-- Fault, ledger, injection and scrubber objects (R473). -/
def objsFault : List Obj := [
  num 0x800001 .u32 .rws .engineer 10000 (.range 100 1000000),
  oct 0x800002 .ro .observer 32 32,
  num 0x800003 .u8 .wo .operator 0 (.oneOf [1]),
  num 0x800004 .u16 .ro .observer 0 .any,
  num 0x800005 .u64 .ro .observer 0 .any,
  oct 0x800006 .wo .operator 8 0,
  num 0x801001 .u8 .const .observer 0 .any,
  num 0x801002 .u8 .const .observer 0 .any,
  num 0x801003 .u8 .rws .engineer 0 .any,
  num 0x801004 .u64 .ro .observer 0 .any,
  num 0x801005 .u64 .ro .observer 0 .any,
  num 0x801006 .bool .ro .observer 0 .any,
  num 0x802001 .bool .ro .observer 0 .any,
  num 0x802002 .u16 .ro .observer 65535 .any,
  num 0x802003 .u8 .wo .operator 0 (.oneOf [1]),
  oct 0x810001 .ro .observer 32 32,
  num 0x810002 .u64 .ro .observer 0 .any,
  num 0x820001 .u8 .rw .maintainer 0 .any,
  num 0x820002 .u32 .rw .maintainer 0 .any,
  num 0x820003 .u8 .rw .maintainer 1 (.range 1 255),
  num 0x820004 .u16 .rw .maintainer 1 (.range 1 65535),
  num 0x820005 .u8 .wo .maintainer 0 (.oneOf [1, 2]),
  num 0x820006 .u8 .ro .observer 0 .any,
  num 0x820007 .u64 .rw .maintainer 0 .any,
  num 0x830001 .u32 .rws .engineer 600 (.range 60 86400),
  num 0x830002 .bool .rws .maintainer 1 .any,
  num 0x830003 .u64 .ro .observer 0 .any,
  num 0x830004 .u64 .ro .observer 0 .any,
  num 0x830005 .u64 .ro .observer 0 .any]

/-- Start, power and thermal objects (R502). -/
def objsPower : List Obj := [
  oct 0x130001 .ro .observer 24 24,
  num 0x130101 .u32 .wo .operator 0 .any,
  num 0x130201 .u8 .ro .observer 0 .any,
  num 0x130202 .u8 .rw .maintainer 0 (.oneOf [0, 1]),
  num 0x130203 .u8 .rw .maintainer 3 (.range 1 7),
  num 0x130204 .u32 .ro .observer 0 .any,
  num 0x130205 .u8 .ro .observer 0 .any,
  num 0x130206 .u32 .rw .maintainer 120 (.range 1 600),
  num 0x130207 .u32 .ro .observer 0 .any,
  num 0x130208 .u8 .ro .observer 0 .any,
  num 0x130209 .u32 .ro .observer 0 .any,
  oct 0x13020A .const .observer 48 0,
  oct 0x131001 .wo .maintainer 32768 0,
  num 0x131101 .u8 .wo .maintainer 0 (.oneOf [1, 2]),
  num 0x131102 .u8 .ro .observer 0 .any,
  num 0x131103 .u8 .ro .observer 0 .any,
  num 0x900001 .u8 .ro .observer 1 .any,
  num 0x900002 .u8 .wo .maintainer 0 (.oneOf [1, 2, 3, 4]),
  num 0x900003 .u8 .ro .observer 8 .any,
  num 0x900004 .u32 .ro .observer 0 .any,
  num 0x900101 .u8 .ro .observer 0 .any,
  num 0x900102 .u8 .ro .observer 0 .any,
  num 0x900103 .u32 .ro .observer 0 .any,
  num 0x900104 .u16 .ro .observer 0 .any,
  num 0x900105 .u16 .ro .observer 0 .any,
  num 0x900106 .u16 .ro .observer 0 .any,
  num 0x900201 .u16 .ro .observer 0 .any,
  num 0x900202 .u32 .ro .observer 0 .any,
  num 0x901001 .u8 .ro .observer 1 .any,
  num 0x901002 .u32 .ro .observer 0 .any,
  num 0x901003 .bool .ro .observer 0 .any,
  num 0x901004 .u32 .ro .observer 0 .any,
  num 0x901005 .u32 .ro .observer 0 .any,
  num 0x901006 .u32 .ro .observer 0 .any,
  num 0x901007 .u8 .wo .maintainer 0 (.oneOf [1, 2]),
  num 0x902001 .i16 .ro .observer 0 .any]

end Sys2Proof.Machine
end

