-- ==== Sys2Proof/Machine/StCore.lean ====
section
/-! DEFINITION. The parts of State of the chapters on architecture, objects, timekeeping and faults: what the spec gives
the machine beside the objects themselves. Times are counts of 2^-16 ns since the KTIME96 epoch (R70). -/
namespace Sys2Proof.Machine

/-- The object dictionary's two banks (R39): the active copy of every object and the shadow copy of every RWS object,
numbers apart from byte values. Keys are `okey`; an unlisted key reads as the object's default. -/
structure Dict where
  num : Tab Nat
  oct : Tab (List Byte)
  shNum : Tab Nat
  shOct : Tab (List Byte)
deriving DecidableEq, Repr

/-- A check that failed while a COMMIT was validated (R69): abort code, participant, object element. -/
structure CheckFail where
  code : Nat
  part : Nat
  key : Key
deriving DecidableEq, Repr

/-- What a transaction slot holds beside object 0x1200 (R58 to R66): `applied` once an epoch boundary has switched its banks and the
close of the epoch before it is awaited. -/
structure Slot where
  staged : List Key
  kind : BKind
  boundary : Option Boundary
  openedAt : Nat
  endedAt : Nat
  committed : Bool
  seq : Nat
  parts : List Nat
  waiting : List Nat
  fails : List CheckFail
  unready : List Nat
  sampled : Option Bool
  syzygy : Nat
  confirmed : Bool
  applied : Bool
  implicit : Bool
deriving DecidableEq, Repr

/-- A value of the old bank that still governs data before an epoch boundary (R65). -/
structure OldBank where
  key : Key
  num : Nat
  bytes : List Byte
  boundary : Nat
deriving DecidableEq, Repr

/-- One object mailbox (R53 to R55); `irqNow` is IRQ_EN as it stood at GO (R56). -/
structure Mailbox where
  go : Bool
  cmd : Nat
  boundary : Nat
  shadow : Bool
  irqEn : Bool
  busy : Bool
  done : Bool
  err : Bool
  replay : Bool
  idx : Nat
  sub : Nat
  elem : Nat
  len : Nat
  offset : Nat
  txn : Nat
  abort : Nat
  rtxid : Nat
  data : Tab Byte
  irqNow : Bool
deriving DecidableEq, Repr

/-- A command between its arrival and its completion: the response once it is known, the transaction slot whose
validation it waits for, how many equal repeats are held, and whether it comes from the replay cache (R47, R58). -/
structure Flight where
  path : Path
  req : Req
  resp : Option Resp
  slot : Option Nat
  held : Nat
  replay : Bool
deriving DecidableEq, Repr

/-- One replay-cache entry of a client (R47); `sentAt` counts once the response has been sent. -/
structure CacheEntry where
  client : List Nat
  txid : Nat
  req : Req
  resp : Option Resp
  sentAt : Option Nat
deriving DecidableEq, Repr

/-- Objects, transactions and access paths (R34 to R69). -/
structure ObjSt where
  dict : Dict
  slots : Tab Slot
  old : List OldBank
  boxes : Tab Mailbox
  flights : List Flight
  cache : List CacheEntry
  commits : Nat
  latch : Tab Nat
deriving DecidableEq, Repr

/-- One timekeeper (R74, R82 to R92): its counter in units of 2^-32 ns, its frequency estimate and adjustment in parts
per 10^18, the estimates of the last 64 updates (newest first), and its runs and dates. Role and servo state are object
0x2001. -/
structure Tk where
  count : Nat
  adjust : Int
  freqEst : Int
  hist : List Int
  lastUpd : Option Nat
  lockRun : Nat
  unlockRun : Nat
  oscOk : Bool
  stepBy : Option Int
  offset : Int
  hoSince : Option Nat
  eligSince : Option Nat
  trackSince : Option Nat
deriving DecidableEq, Repr

/-- A phase reference's run (R81): validity, the time and label of the last accepted event, and the new run of consistent events
that an inconsistent one starts. -/
structure RefRun where
  valid : Bool
  last : Option Nat
  lastLabel : Nat
  run : Nat
  runLast : Option Nat
  runLabel : Nat
  lastOffset : Int
  estTime : Nat
  estAt : Nat
deriving DecidableEq, Repr

/-- A PPS input's edge bookkeeping (R100): last accepted edge, an edge whose seconds label is still to come. -/
structure PpsIn where
  lastEdge : Option Nat
  waiting : Option Nat
deriving DecidableEq, Repr

/-- What a source supplies of TAI − UTC and leap seconds (R85), and since when. -/
structure UtcSrc where
  offset : Int
  leap61 : Bool
  leap59 : Bool
  at_ : Nat
deriving DecidableEq, Repr

/-- One captured TRIG_IN edge (R103). -/
structure TrigCap where
  time : Nat
  falling : Bool
deriving DecidableEq, Repr

/-- A TRIG_IN unit's queue and last captured edge (R103). -/
structure TrigIn where
  queue : List TrigCap
  lastEdge : Option Nat
deriving DecidableEq, Repr

/-- A TRIG_OUT plan in force (R107): the next planned instant (2^-16 ns), its period and width, the pulses still to
come (none: until disarmed), and the end of a pulse in progress. -/
structure TrigOut where
  next : Nat
  period : Nat
  width : Nat
  left : Option Nat
  active : Bool
  until_ : Nat
deriving DecidableEq, Repr

/-- A PPS_OUT's period and width in force (R104), both in ns, and the end of a pulse in progress. -/
structure PpsOut where
  period : Nat
  width : Nat
  last : Nat
  until_ : Nat
deriving DecidableEq, Repr

/-- Arbitration (R91): not running, started at an instant, or undecided. -/
inductive Arb where
  | idle
  | started (at_ : Nat)
  | undecided
deriving DecidableEq, Repr

/-- Both timekeepers, the lease, the comparison, the references, the UTC offset and the time inputs and outputs
(R70 to R110); `leapAt` and `leapDown` are the last leap second's instant and direction, `stepFrom` and `stepTo` are the ends of the last forward step of device time. -/
structure TimeSt where
  a : Tk
  b : Tk
  holder : Option TkId
  drive : TkId
  hOffset : Int
  renewedAt : Nat
  missedRenewal : Bool
  lastPulse : Nat
  pulsesMissing : Nat
  skip : Nat
  disagree : Nat
  diff : Int
  arb : Arb
  revertAt : Option Nat
  revertOk : Bool
  confirmed : Bool
  lastSlew : Nat
  refs : Tab RefRun
  ppsIn : Tab PpsIn
  todNext : Option (Nat × Nat)
  todLabel : Option (Nat × Nat)
  utcPtp : Option UtcSrc
  utcTod : Option UtcSrc
  utcIrig : Option UtcSrc
  utcOff : Int
  leap61 : Bool
  leap59 : Bool
  leapAt : Option Nat
  leapDown : Bool
  stepFrom : Nat
  stepTo : Nat
  hoLimit : Bool
  latch : List Nat
  trigIn : Tab TrigIn
  trigOut : Tab TrigOut
  ppsOut : Tab PpsOut
  irigLast : Nat
deriving DecidableEq, Repr

/-- A time replica (R23 to R26): error at the last pulse, in 2^-16 ns, the run of pulses within ±0.5 ns, pulses missed in
a row, the crossing latencies of the last 64 pulses (newest first), the trim in force, a step due at the next pulse, and the
pulses still to come of a new latency measurement (R31). -/
structure Replica where
  sync : Bool
  loaded : Bool
  err : Int
  trim : Int
  slewing : Bool
  stepNext : Bool
  good : Nat
  missed : Nat
  lats : List Nat
  remeasure : Nat
deriving DecidableEq, Repr

/-- Tether's copy of a port's or ring's replica (R168, R227): disagreements and agreements in a row, and blocking. -/
structure TetherRep where
  err : Int
  disagree : Nat
  agree : Nat
  blocked : Bool
deriving DecidableEq, Repr

/-- A die-to-die link (R29 to R31). -/
structure D2d where
  up : Bool
  spares : Nat
deriving DecidableEq, Repr

/-- Credits of one virtual channel in one direction of a link (R15, R30). -/
structure Credits where
  issued : Nat
  returned : Nat
  held : Nat
deriving DecidableEq, Repr

/-- Replicas (0 to 15 ports, 16 MGT, 17 to 20 ring ports, 21 to 24 regions), Tether's replicas (0 to 15 ports, 16 to 19
ring ports) and the three links (0 H–C0, 1 H–C1, 2 C0–C1). -/
structure ArchSt where
  reps : Tab Replica
  tether : Tab TetherRep
  links : Tab D2d
  credits : Tab Credits
deriving DecidableEq, Repr

/-- A scope of a reset, a safe state or a containment (R16, R17, R458, R463). -/
inductive Scope where
  | engine (e : Nat)
  | queue (q : Nat)
  | port (n : Nat)
  | ringPort (i : Nat)
  | tsUnit (n : Nat)
  | cluster (k : Nat)
  | region (g : Nat)
  | die (d : Nat)
  | ring (r : Nat)
  | time
  | endpoint
  | device
deriving DecidableEq, Repr

/-- Where an ESCALATE reaction stands (R461): its window open until an instant, in a reset, or watching after it. -/
inductive ReactPhase where
  | window (until_ : Nat)
  | resetting
  | watch (from_ until_ : Nat)
deriving DecidableEq, Repr

/-- An ESCALATE reaction in progress (R461, R462): its cause, the ladder's next step and the scope reset last. -/
structure Reaction where
  src : Nat
  unit : Nat
  step : Nat
  phase : ReactPhase
  scope : Option Scope
deriving DecidableEq, Repr

/-- A reset in progress, or ended less than 10 µs ago (R463). -/
structure ResetRun where
  scope : Scope
  started : Nat
  ended : Option Nat
deriving DecidableEq, Repr

/-- A source and unit that put a safe-state scope there (R460). -/
structure SafeCause where
  scope : Nat
  src : Nat
  unit : Nat
deriving DecidableEq, Repr

/-- The fault collector, its registers and the scrubber (R452 to R473). `flying` holds the detections on their way to
the collector; `passEnded` the stacks whose patrol pass is through. -/
structure FaultSt where
  flying : List Detection
  sticky : Nat
  feValid : Bool
  feOverflow : Bool
  feInjected : Bool
  feClass : Nat
  feSource : Nat
  feUnit : Nat
  feNs : Nat
  feSec : Nat
  feSynd : Nat
  reactions : List Reaction
  resets : List ResetRun
  causes : List SafeCause
  live : List (Nat × Nat)
  injLeft : Tab Nat
  imbNext : Nat
  passStart : Nat
  passEnded : List Nat
deriving DecidableEq, Repr

/-- What leaves the device, in order: the model's own transcript. [DESIGN CHOICE: log 2, 162] -/
inductive Out where
  | response (p : Path) (txid : Nat) (abort : Nat) (flags : Nat) (data : List Byte)
  | frame (port : Nat) (bytes : List Byte) (time : Nat)
  | ringCopy (ring port : Nat) (bytes : List Byte) (fcsGood : Bool) (time : Nat)
  | badFrame (port : Nat) (bytes : List Byte) (time : Nat)
  | datagram (port : Nat) (ip src udp : Nat) (bytes : List Byte)
  | pulse (boundary : Nat) (status : Nat)
  | pin (name : String) (index : Nat) (level : Bool) (time : Nat)
  | irig (code : Nat) (second : Nat) (quality : Nat)
  | regRead (offset : Nat) (size : Nat) (value : Nat)
  | hostWrite (addr : Nat) (bytes : List Byte)
  | hostRead (addr len tag : Nat)
  | interrupt (vector addr data : Nat)
  | intx (level : Bool)
  | config (value : Nat)
  | completion (status : Nat) (bytes : List Byte)
  | message (name : String) (bytes : List Byte)
  | miso (words : List Nat)
deriving DecidableEq, Repr

end Sys2Proof.Machine
end

