-- ==== Sys2Proof/Machine/StEngine.lean ====
section
/-! DEFINITION. The parts of State of the signal engines (R270 to R311). -/
namespace Sys2Proof.Machine

/-- A kernel image placed in a slot (R275, R278, R279): its bytes, code words by instruction index, data region and shared
blocks by 32-bit word, the parameter bank in force with the instant it governs from, and where the loader put it. -/
structure Loaded where
  image : List Byte
  code : Tab Nat
  data : Tab Nat
  shared : Tab Nat
  bank : Nat
  bankFrom : Nat
  codeBase : Nat
  dataBase : Nat
deriving DecidableEq, Repr

/-- A kernel slot (key 16 × logical engine + slot): the image in force, the image that governs trigger times before an
instant, and the fault that stopped the slot (0 none). -/
structure KSlot where
  cur : Option Loaded
  old : Option Loaded
  oldUntil : Nat
  stopped : Nat
deriving DecidableEq, Repr

/-- An activation (R285 to R288): binding, slot, trigger code and time, the second and grid index within it, raise and
deadline instants, epoch, and the context's flags (bit 0 RECOMPUTE, bit 1 WARMUP, bit 2 INCOMPLETE). -/
structure Act where
  binding : Nat
  slot : Nat
  kind : Nat
  time : Nat
  second : Nat
  point : Nat
  raised : Nat
  deadline : Nat
  epoch : Nat
  flags : Nat
deriving DecidableEq, Repr

/-- An outstanding XFER or SGET (R279, R282): the cycle it completes by, its kind, and its operands. -/
inductive Move where
  | xfer (by_ : Nat) (dataAddr sharedAddr len : Nat) (fromShared : Bool)
  | sget (by_ : Nat) (dataAddr sig fn : Nat)
deriving DecidableEq, Repr

/-- A physical engine. `sAt` and `vAt` say at which cycle a register is ready; `cyc` is the cycle at which the next
instruction may issue; `moved` that of the last completed
move; `start` the instant of cycle 0; `token` counts are ledger 6. -/
structure Engine where
  s : Tab Nat
  v : Tab Nat
  sAt : Tab Nat
  vAt : Tab Nat
  pc : Nat
  cyc : Nat
  act : Option Act
  useOld : Bool
  flags : Nat
  upd : List (List Byte)
  kevts : Nat
  moves : List Move
  moved : Nat
  latchSec : Nat
  latchFrac : Nat
  start : Nat
  pending : List Act
  state : Nat
  got : Nat
  done : Nat
  lost : Nat
  issued : Nat
  deepest : Nat
deriving DecidableEq, Repr

/-- A re-home in progress (R308): the logical engine, the physical engine it leaves, the spare it moves to, when it
completes, and the activations to be raised again. -/
structure Rehome where
  logical : Nat
  from_ : Nat
  to_ : Nat
  done : Nat
  again : List Act
deriving DecidableEq, Repr

/-- A binding's bookkeeping (R285, R286, R294): the first grid point for which no completion was raised, the newest grid
point whose arrival was raised, the next timer instant's index, the latest activation raised and the trigger time of the
last committed one. -/
structure BindRun where
  next : Nat
  latest : Option Act
  committed : Option Nat
  timerAt : Nat
deriving DecidableEq, Repr

/-- Slots, physical engines, re-homes by region, bindings, and images under verification. -/
structure EngSt where
  slots : Tab KSlot
  engines : Tab Engine
  rehomes : Tab Rehome
  binds : Tab BindRun
  verifying : List Nat
deriving DecidableEq, Repr

end Sys2Proof.Machine
end

