-- ==== Sys2Proof/Machine/StHost.lean ====
section
/-! DEFINITION. The parts of State of the endpoint (R394 to R420), the queues (R421 to R451) and the hub buffer (R266). -/
namespace Sys2Proof.Machine

/-- What a read that the endpoint issued is for: descriptors of a queue from an index on, or the data of one entry. -/
inductive ReadFor where
  | desc (q idx n : Nat)
  | data (q idx : Nat)
deriving DecidableEq, Repr

/-- One read request on the link, a part of a whole split under R407: its tag, address, length and offset in the whole, and whether
an Orrery poll issued it. -/
structure HostRead where
  tag : Nat
  req : Nat
  addr : Nat
  len : Nat
  off : Nat
  orrery : Bool
deriving DecidableEq, Repr

/-- A whole read: what it is for, its address and length, the parts already returned, and whether a freeze lost it. -/
structure ReadReq where
  id : Nat
  what : ReadFor
  addr : Nat
  len : Nat
  got : List (Nat × List Byte)
  lost : Bool
deriving DecidableEq, Repr

/-- A vector's moderation (R413): the interval's end and whether a merged message waits. -/
structure Moderation where
  until_ : Nat
  merged : Bool
deriving DecidableEq, Repr

/-- The endpoint. Configuration registers hold their software-visible bits; `msixTab` holds the MSI-X table by dword;
`intxPend` the bits of `INTX_PENDk`; `waiting` the parts of reads that wait for a tag. -/
structure PcieSt where
  linkUp : Bool
  speed : Nat
  width : Nat
  l0s : Bool
  l1 : Bool
  perst : Bool
  ready : Bool
  command : Nat
  statusErr : Nat
  cacheLine : Nat
  bar0 : Nat
  bar2 : Nat
  bar4 : Nat
  subVendor : Nat
  subId : Nat
  intLine : Nat
  pmState : Nat
  msiCtl : Nat
  msiAddr : Nat
  msiData : Nat
  msiMask : Nat
  msiPend : Nat
  msixCtl : Nat
  msixTab : Tab Nat
  pba : Nat
  devCtl : Nat
  devSta : Nat
  linkCtl : Nat
  devCtl2 : Nat
  linkCtl2 : Nat
  uncSta : Nat
  uncMask : Nat
  uncSev : Nat
  corSta : Nat
  corMask : Nat
  aerCtl : Nat
  hdrLog : List Nat
  frozen : Bool
  cause : Nat
  freezes : Nat
  refused : Nat
  frNs : Nat
  frSec : Nat
  frLatch : Nat
  intx : Bool
  intxPend : Nat
  mods : Tab Moderation
  held : List Nat
  reads : List HostRead
  waiting : List HostRead
  reqs : List ReadReq
  quarantine : List (Nat × Nat)
  nextReq : Nat
  ur : Nat
  polls : List Nat
deriving DecidableEq, Repr

/-- How far a fetched entry has come: in stock, waiting for its data, with a frame on its way to ports, done, or
written back. -/
inductive EntryPhase where
  | stock
  | fetching
  | busy
  | done
  | written
deriving DecidableEq, Repr

/-- A fetched entry of a queue: its index, its 32 bytes, its phase, and for a transmit entry the outcomes on PORT and
PORT2 (none while open). -/
structure QEntry where
  idx : Nat
  raw : List Byte
  phase : EntryPhase
  res1 : Option Nat
  res2 : Option Nat
deriving DecidableEq, Repr

/-- A frame or record that waits for a receive entry (R431, R416): its bytes, the fields of its write-back, since when. -/
structure RxWait where
  bytes : List Byte
  flags : Nat
  stream : Nat
  time : Nat
  frac : Nat
  slot : Nat
  since : Nat
  cells : Nat
deriving DecidableEq, Repr

/-- An event record held on die H (R434). -/
structure EvWait where
  src : Nat
  unit : Nat
  code : Nat
  detail : Nat
  time : Nat
  unsync : Bool
  conseq : Bool
deriving DecidableEq, Repr

/-- A block that waits for export buffers (R435): kind 0 epoch export or 1 capture event, list or event number, epoch or
sequence number, and its header and body bytes. -/
structure Block where
  kind : Nat
  source : Nat
  number : Nat
  header : List Byte
  body : List Byte
  count : Nat
deriving DecidableEq, Repr

/-- One queue (R423 to R449). `fin` counts the entries finished in ring order, `head` what the mirror was last
told, `lateIdx` the entries that a late poll of a binding fetched. -/
structure Queue where
  state : Nat
  cmd : Nat
  base : Nat
  mirror : Nat
  log2 : Nat
  start : Nat
  head : Nat
  fin : Nat
  next : Nat
  latch : Nat
  cfgRefused : Bool
  attRefused : Bool
  err : Nat
  late : Nat
  drops : Nat
  done : Nat
  entries : List QEntry
  unann : Nat
  oldest : Option Nat
  due : Option Nat
  deadline : Nat
  orrery : Option Nat
  served : Nat
  rx : List RxWait
  ev : List EvWait
  gap : Nat
  lost : Bool
  seq : Nat
  fetched : Nat
  finished : Nat
  abandoned : Nat
  blocks : List Block
  lateIdx : List Nat
deriving DecidableEq, Repr

/-- The endpoint, the queues, and the hub buffer's cells in use by owner (0 to 15 P-ports, 16 to 19 ring ports, 20 MGT,
99 DMA staging, 1,000 + q the copies of queue q). -/
structure HostSt where
  pcie : PcieSt
  queues : Tab Queue
  cells : Tab Nat
  oversub : Bool
deriving DecidableEq, Repr

end Sys2Proof.Machine
end

