-- ==== Sys2Proof/Machine/StIngest.lean ====
section
/-! DEFINITION. The parts of State of sample ingest (R243 to R269): windows, decoded sets on their way to them, streams
and their ledgers. -/
namespace Sys2Proof.Machine

/-- One window index (R256): the grid point it was written for, counted from the KTIME96 epoch at the channel's rate, and
the 64-bit entry. -/
structure WinEntry where
  grid : Nat
  word : Nat
deriving DecidableEq, Repr

/-- A decoded sample set on its way to its windows (R258): region, rate, grid point, measurement time, and each channel's
entry. -/
structure Landing where
  region : Nat
  rate : Nat
  grid : Nat
  time : Nat
  entries : List (Nat × Nat)
deriving DecidableEq, Repr

/-- A stream's counts in the current epoch (ledgers 12 and 13, R268). -/
structure StreamLedger where
  classified : Nat
  accepted : Nat
  malformed : Nat
  confRev : Nat
  nonData : Nat
  sets : Nat
  written : Nat
  late : Nat
  repeated : Nat
  future : Nat
  bankChange : Nat
  mismatch : Nat
  noData : Nat
deriving DecidableEq, Repr

/-- A stream (key 65,536 × kind + number; kind 0 sampled values, 1 ring slot, 2 C37.118.2): its last frame, since when its
entry is in force, whether confRev mismatch was raised in this epoch, and its counts. -/
structure StreamRun where
  last : Option Nat
  since : Nat
  confRevSeen : Bool
  ledger : StreamLedger
deriving DecidableEq, Repr

/-- A synchrophasor output stream (R334, R336): the reporting instant of the last frame built, counted from the KTIME96 epoch
at its DATA_RATE, and when its CFG-2 frame was applied. -/
structure PmuRun where
  last : Option Nat
  cfgAt : Option Nat
deriving DecidableEq, Repr

/-- Sample ingest: windows by channel and index, sets on their way, streams; and the synchrophasor output streams. -/
structure IngestSt where
  windows : Tab (Tab WinEntry)
  landing : List Landing
  streams : Tab StreamRun
  pmus : Tab PmuRun
deriving DecidableEq, Repr

end Sys2Proof.Machine
end

