-- ==== Sys2Proof/Machine/StNet.lean ====
section
/-! DEFINITION. The parts of State of network time (R111 to R138): PTP ports, the reference's qualification, the
transparent clock's match tables, the transmit timestamp queues and the links. -/
namespace Sys2Proof.Machine

/-- The dataset of an Announce message, as the best master comparison uses it, and what it says of time: its flags,
currentUtcOffset and timeSource. -/
structure PtpDs where
  prio1 : Nat
  cls : Nat
  accuracy : Nat
  variance : Nat
  prio2 : Nat
  gm : Nat
  steps : Nat
  sender : Nat
  senderPort : Nat
  flags : Nat
  utc : Int
  source : Nat
deriving DecidableEq, Repr

/-- A message half received: sequence number, source, the time taken with it and its correction. -/
structure PtpHalf where
  seq : Nat
  src : Nat
  time : Nat
  corr : Int
  aux : Nat
deriving DecidableEq, Repr

/-- A request that waits to be answered: kind of the answer, sequence number, requesting port identity, receive time,
correction. -/
structure PtpAsk where
  kind : Nat
  seq : Nat
  who : Nat
  time : Nat
  corr : Int
deriving DecidableEq, Repr

/-- One port of one PTP instance (R116 to R124): the best foreign master heard, a Sync waiting for its Follow_Up, the
requests sent, answers half received, requests to answer, the last Sync interval's endpoints and the sequence numbers;
`link` is the link delay that the transparent clock has measured in a listed domain (R125). -/
structure PtpPort where
  foreign : Option PtpDs
  sync : Option PtpHalf
  askSent : Option PtpHalf
  answer : Option PtpHalf
  asks : List PtpAsk
  lastSync : Option (Int × Nat)
  seqSync : Nat
  seqAnn : Nat
  seqAsk : Nat
  followUp : Option PtpHalf
  link : Int
deriving DecidableEq, Repr

/-- A two-step match entry of the transparent clock (R126): sequence number, source port identity, domain, kind, the
correction to add and the instant the entry dies. -/
structure TcEntry where
  seq : Nat
  src : Nat
  domain : Nat
  kind : Nat
  corr : Int
  until_ : Nat
deriving DecidableEq, Repr

/-- A transmit timestamp entry (R127). -/
structure TsqEntry where
  notSent : Bool
  tag : Nat
  time : Nat
deriving DecidableEq, Repr

/-- A port's transmit timestamp queue (R127 to R133) and the epoch's counts of ledger 5. -/
structure Tsq where
  entries : List TsqEntry
  latch : List Nat
  overflow : Bool
  drops : Nat
  captured : Nat
  read : Nat
  dropped : Nat
  heldAt : Nat
deriving DecidableEq, Repr

/-- A port's link (R131): up, mode and FEC in use. -/
structure NetLink where
  up : Bool
  mode : Nat
  fec : Nat
deriving DecidableEq, Repr

/-- Network time. `offsets` are the last consecutive Sync measurements of the reference instance, `delaySeen` whether a
link delay has come since the port entered SLAVE, `slave` that port. -/
structure NetSt where
  ptp : Tab PtpPort
  offsets : List Int
  delaySeen : Bool
  slave : Option Nat
  tc : Tab (List TcEntry)
  tsq : Tab Tsq
  links : Tab NetLink
deriving DecidableEq, Repr

end Sys2Proof.Machine
end

