-- ==== Sys2Proof/Machine/StPort.lean ====
section
/-! DEFINITION. The parts of State of the P-ports: frames held, class queues, gates, Orrery and Tether bank copies,
pre-emption, port ledgers and syzygy sessions (R139 to R174, R465). -/
namespace Sys2Proof.Machine

/-- One gate list with its cycle timing (R142): base time in 2^-16 ns, cycle time in ns and 2^-32 ns, cycle extension in
ns, anchor period in s, entry count, entries. -/
structure Bank where
  base : Nat
  whole : Nat
  frac : Nat
  ext : Nat
  anchor : Nat
  count : Nat
  entries : List Byte
deriving DecidableEq, Repr

/-- Where a frame that waits to leave comes from: a received frame held in the hub buffer, an entry of a transmit queue
(on its second port or not), or the device itself. -/
inductive FrSrc where
  | hub (id : Nat)
  | entry (q idx : Nat) (second : Bool)
  | own
deriving DecidableEq, Repr

/-- A frame waiting to leave a port (R139, R140): bytes without FCS, class, source, the tag of a requested transmit
timestamp, whether it is cut through and whether its FCS then proved bad, the binding whose late poll fetched it, and the
instant before which it is held (R170). -/
structure QFrame where
  bytes : List Byte
  cls : Nat
  src : FrSrc
  tag : Option Nat
  cut : Bool
  bad : Bool
  late : Option Nat
  notBefore : Nat
  cells : Nat
deriving DecidableEq, Repr

/-- A frame in transmission: when its message timestamp point crossed the ball, when the fragment now being sent began
and ends, the bytes sent in earlier fragments and in this one, and whether it was started as an express frame (R160). -/
structure TxNow where
  frame : QFrame
  start : Nat
  fragStart : Nat
  end_ : Nat
  sent : Nat
  frag : Nat
  express : Bool
deriving DecidableEq, Repr

/-- A bank switch that waits for its instant S (R153): the bank, S, and the copies that Orrery and Tether hold of it. -/
structure Switch where
  bank : Nat
  at_ : Nat
  orrery : Bank
  tether : Bank
deriving DecidableEq, Repr

/-- A frame that is being reassembled from fragments (R163): frame count, the next fragment's count, bytes so far, and when its
first fragment began. -/
structure RxFrag where
  frame : Nat
  next : Nat
  bytes : List Byte
  time : Nat
deriving DecidableEq, Repr

/-- One port's part of the port frame ledger in the current epoch (R15, R465); `drops` is keyed by reason. -/
structure PortLedger where
  received : Nat
  delivered : Nat
  forwarded : Nat
  eliminated : Nat
  drops : Tab Nat
  heldAt : Nat
deriving DecidableEq, Repr

/-- One port: 0 to 15 for P0 to P15, 16 for MGT. -/
structure PortSt where
  waiting : List QFrame
  now : Option TxNow
  held : Option TxNow
  gates : Nat
  op : Nat
  orrery : Bank
  tether : Bank
  sramBad : Bool
  switch : Option Switch
  entryAt : Nat
  hold : Bool
  verifyTries : Nat
  paused : Nat
  freeAt : Nat
  rxFrag : Option RxFrag
  ledger : PortLedger
deriving DecidableEq, Repr

/-- A received frame whose outcome is still open (R465): its port, cells, the egress copies not yet settled, whether one
left, whether it was handed to the classifier or a queue, and the reason of the last drop. -/
structure HubFrame where
  port : Nat
  cells : Nat
  copies : Nat
  sent : Bool
  delivered : Bool
  reason : Nat
  rxTime : Nat
deriving DecidableEq, Repr

/-- A frame that was decided on its header and is still being received (R164, R176): its port, number in the hub buffer, bytes
and receive time, whether it was taken for delivery, the copies that wait for its FCS (port and bytes), and the takes to
withdraw should the FCS prove bad (R177): a recovery function, and histories of its node. -/
structure CutRx where
  port : Nat
  id : Nat
  bytes : List Byte
  rx : Nat
  deliver : Bool
  rest : List (Nat × List Byte)
  fn : Option Nat
  node : List (Fin 3)
deriving DecidableEq, Repr

/-- A coordinator's session (R157, R158): participants that acknowledged ABORT, those that refused, the transaction IDs of
its PREPARE and ABORT messages, and the instant of the last one sent. -/
structure Session where
  acked : Nat
  refused : Nat
  answered : Nat
  txid : Nat
  abortTxid : Nat
  lastSent : Nat
deriving DecidableEq, Repr

/-- Ports, frames held in the hub buffer, frames being cut through, sessions, and the gate open that each binding was last polled for. -/
structure LanSt where
  ports : Tab PortSt
  hub : Tab HubFrame
  nextHub : Nat
  cutting : List CutRx
  sessions : Tab Session
  polled : Tab Nat
deriving DecidableEq, Repr

end Sys2Proof.Machine
end

