-- ==== Sys2Proof/Machine/StPower.lean ====
section
/-! DEFINITION. The parts of State of supplies, power states, resets, start-up and the boot flash (R474 to R502), and of the
sideband SPI target (R519 to R526). -/
namespace Sys2Proof.Machine

/-- One record of the mirror log (R499). -/
structure MirrorRec where
  seq : Nat
  fails : Nat
  next : Nat
  n : Nat
  attempt : Nat
  isOpen : Bool
deriving DecidableEq, Repr

/-- The QSPI flash (R491): the blocks of 32 KiB of the two slots by 512 × slot + block, an unlisted one erased, and the two
sectors of the mirror log, the one in use and the other. -/
structure Flash where
  blocks : Tab (List Byte)
  log : List MirrorRec
  other : List MirrorRec
deriving DecidableEq, Repr

/-- Power controller, resets and start-up. Pins and resets: `mainPor` asserted; `rst` the instant RST_N was
recognised; `tkfSel` the straps TKF_SEL as sampled; `testEn`, `wakeN` (low) and `enLow` (PWR_MAIN_EN driven low) the levels of pins. Power states: `offSince` the
release of Ballast power-on reset until the main rails are in range; `dozeAt` and `dozeStage` the entry sequence of R483;
`railLoss` that DOZE was entered by rail loss; `waking` since when a wake waits for the rails; `wakeCause` the cause of a wake not
yet served. Start-up: `phase`, `reason` and `len` are `BOOT_STATUS` and `BOOT_LEN`; `due` the instant the next attempt may
begin, `cause` its start cause; `source` and `isOpen` of the attempt; `waitFrom` the start of the host image wait; `deadline` of the
confirmation; `window` the boot window; `programming` a mirror record under way and `restart` that a start reset follows it;
`lost` that no valid record was found; `failedSlots` the slots that failed verification in consecutive attempts; `verifying` the slots under verification; `broken` the units that the self-test left
failed. -/
structure PowerSt where
  mainPor : Bool
  rst : Option Nat
  tkfSel : Nat
  testEn : Bool
  wakeN : Bool
  enLow : Bool
  offSince : Option Nat
  dozeAt : Nat
  dozeStage : Nat
  railLoss : Bool
  waking : Option Nat
  wakeCause : Option Nat
  phase : Nat
  reason : Nat
  len : Nat
  due : Option Nat
  cause : Nat
  source : Nat
  isOpen : Bool
  waitFrom : Option Nat
  deadline : Option Nat
  window : Tab Byte
  programming : Bool
  restart : Bool
  lost : Bool
  failedSlots : List Nat
  verifying : List Nat
  broken : List (Nat × Nat)
  flash : Flash
deriving DecidableEq, Repr

/-- The sideband SPI target (R523 to R525): its flags, bit k being bit 24 + k of `SB_STATUS`, DISCARDS, the TXID of the request in
progress or answered, and the response held: abort code, whether it came from the replay cache, and its bytes. -/
structure SpiSt where
  flags : Nat
  discards : Nat
  busy : Bool
  txid : Nat
  valid : Bool
  abort : Nat
  replay : Bool
  data : List Byte
deriving DecidableEq, Repr

end Sys2Proof.Machine
end

