-- ==== Sys2Proof/Machine/StRing.lean ====
section
/-! DEFINITION. The parts of State of the Stalon rings (R200 to R242). -/
namespace Sys2Proof.Machine

/-- A copy of a cycle as a node holds it: the leader's CYCLE_START and the receive times of the two unwrapped copies, the
forwarding delays measured, LOOP and whether it was valid, which copies returned to the leader, whether a wrapped copy
was seen, whether the clock has used the cycle, and whether its first valid copy has been counted. -/
structure RingCycle where
  cycle : Nat
  start : Nat
  a : Option Nat
  b : Option Nat
  fa : Nat
  fb : Nat
  loop : Nat
  loopValid : Bool
  retB : Bool
  retA : Bool
  wrapped : Bool
  clocked : Bool
  counted : Bool
deriving DecidableEq, Repr

/-- The last accepted copy (R229): leader, cycle, cycle start. -/
structure RingPrev where
  leader : Nat
  cycle : Nat
  start : Nat
deriving DecidableEq, Repr

/-- A proposal (R232 to R235): target mode, commit and target cycles, the image's CRC, whether this node acknowledged, and
the decision: 0 none, 2 commit, 3 lapse. -/
structure RingProposal where
  target : Nat
  commit : Nat
  cycle : Nat
  crc : Nat
  acked : Bool
  decision : Nat
deriving DecidableEq, Repr

/-- The slots of one cycle as a leader took them: which nodes acknowledged, when the last one was complete, whether all
came. -/
structure RingAcks where
  cycle : Nat
  nodes : List Nat
  at_ : Nat
  whole : Bool
deriving DecidableEq, Repr

/-- What the own slot and the mailbox carry in a cycle: queue and entry of the payload, its bytes, whether data is valid,
and the mailbox's bytes. -/
structure RingOut where
  cycle : Nat
  entry : Option (Nat × Nat)
  data : List Byte
  valid : Bool
  box : Option (List Byte)
  copies : Nat
deriving DecidableEq, Repr

/-- A ring's bypass relay (R240): released, inserting or removing until an instant, inserted. -/
inductive Relay where
  | released
  | inserting (until_ : Nat)
  | inserted
  | removing (until_ : Nat)
deriving DecidableEq, Repr

/-- Tether's copies of a ring's objects and mode images (R227). -/
structure RingGuard where
  node : Nat
  whole : Nat
  frac : Nat
  base : Nat
  anchor : Nat
  tol : Nat
  images : Tab (List Byte)
  prevA : Option Nat
  prevB : Option Nat
deriving DecidableEq, Repr

/-- One ring. State, leader ID, active mode, cycle, offset, LOOP, proposal state and the clock's synchronisation are
object 0x4001. -/
structure Ring where
  candidate : Bool
  leaderSa : List Byte
  good : Nat
  sent : Nat
  t0 : Nat
  lastValid : Nat
  prev : Option RingPrev
  cyc : Option RingCycle
  lastStart : Nat
  xA : Option Int
  xB : Option Int
  offsets : List Int
  loops : List (Nat × Nat)
  bothRun : Nat
  prop : Option RingProposal
  acks : List RingAcks
  taken : List Nat
  takenAck : List Nat
  lastTake : Nat
  silent : Tab Nat
  wraps : Tab (Nat × Nat)
  ready : Option (Nat × Nat × List Byte)
  out : Option RingOut
  mbxCycle : Option Nat
  responses : List (Nat × List Byte)
  sendQ : List (Nat × List Byte)
  received : List (Nat × List Byte)
  relay : Relay
  upA : Bool
  upB : Bool
  busyA : Nat
  busyB : Nat
  differ : Nat
  babble : Nat
  babbled : Bool
  guard_ : RingGuard
  expected : Nat
  slotsTaken : Nat
  slotsMissing : Nat
  received4 : Tab Nat
deriving DecidableEq, Repr

/-- A slot taken (R217): ring, node, CYCLE and CYCLE_START, the copy's receive timestamp and its flag, the slot's offset and
bytes. -/
structure TakenSlot where
  ring : Nat
  node : Nat
  cycle : Nat
  start : Nat
  rx : Nat
  port : Nat
  offset : Nat
  bytes : List Byte
deriving DecidableEq, Repr

end Sys2Proof.Machine
end

