-- ==== Sys2Proof/Machine/StTable.lean ====
section
/-! DEFINITION. The parts of State of the signal table and the epochs (R339 to R370). -/
namespace Sys2Proof.Machine

/-- An anchor (R344): the number and start of an epoch, and the period (epochs per second, seconds per epoch) and horizon
in µs in force from it on. -/
structure Seg where
  n : Nat
  start : Nat
  perSec : Nat
  secs : Nat
  horizon : Nat
deriving DecidableEq, Repr

/-- A value slot of a record (R342): full measurement time, value, stored quality word, tag, and whether it holds an
uncorrectable word. -/
structure ValSlot where
  time : Nat
  value : List Byte
  quality : Nat
  tag : Nat
  damaged : Bool
deriving DecidableEq, Repr

/-- A signal's record (R340, R341): the writer of the newest update, EVER, and the used slots by number. TYPE, CARRY and
META are read from object 0x6010. -/
structure SigRec where
  source : Nat
  ever : Bool
  slots : List (Nat × ValSlot)
deriving DecidableEq, Repr

/-- A unit of updates on its way to a region (R347): SOURCE word of its writer, and its records of 32 bytes. -/
structure Unit_ where
  source : Nat
  records : List (List Byte)
deriving DecidableEq, Repr

/-- A signal update held until publication (R347). -/
structure HeldUpd where
  source : Nat
  epoch : Nat
  record : List Byte
deriving DecidableEq, Repr

/-- A poison entry (R366). -/
structure Poison where
  sig : Nat
  q : Nat
deriving DecidableEq, Repr

/-- Counts of a region between two closes (ledger 8). -/
structure RegionLedger where
  accepted : Nat
  written : Nat
  late : Nat
  rejected : Nat
deriving DecidableEq, Repr

/-- One region: up or in reset, the epochs it is absent from because of a reset (up to a number), units on
their way, held updates, the journal's fill and when it was so, poison entries, counts, and the writers whose rejection
was reported in this epoch. -/
structure Region where
  up : Bool
  absentTo : Nat
  units : List Unit_
  held : List HeldUpd
  fill : Nat
  fillAt : Nat
  poison : List Poison
  ledger : RegionLedger
  rejectSeen : List Nat
deriving DecidableEq, Repr

/-- A ledger equation's two sides (R464, R466). -/
structure Sides where
  id : Nat
  inst : Nat
  left : Int
  right : Int
deriving DecidableEq, Repr

/-- A region's totals in its CLOSED report: updates written, late, rejected. -/
structure Totals where
  region : Nat
  written : Nat
  late : Nat
  rejected : Nat
deriving DecidableEq, Repr

/-- An epoch between its close and its publication (R348): the close instant, regions that report, regions reported, the
regions' totals, the ledger equations that did not balance in the close's snapshot, and whether a step of
time passed it. -/
structure Closing where
  n : Nat
  at_ : Nat
  able : Nat
  reported : Nat
  totals : List Totals
  sides : List Sides
  step : Bool
deriving DecidableEq, Repr

/-- A readable epoch (R351): number, regions present, whether its ledgers balanced. -/
structure PubEpoch where
  n : Nat
  present : Nat
  ledgerOk : Bool
deriving DecidableEq, Repr

/-- The pin (R360): epoch, whether it was pinned as P−1, when it lapses. -/
structure Pin where
  epoch : Nat
  which : Bool
  until_ : Nat
deriving DecidableEq, Repr

/-- The signal table and the epochs. `segs` holds the anchors that open or readable epochs need, oldest first; `closed` the
newest closed epoch; `cut` the newest epoch whose ingest cutoff has been taken; `pub` and `prev` the epochs P and P−1;
`pinCmd` the field `PIN_CTRL.CMD`, `pinLapsed` the bit LAPSED, `pinStale`
that reads return the published epoch with SELECT 3. -/
structure TableSt where
  segs : List Seg
  running : Bool
  upSince : Option Nat
  first : Bool
  closed : Nat
  cut : Nat
  closing : List Closing
  pub : Option PubEpoch
  prev : Option PubEpoch
  lastPub : Nat
  recs : Tab SigRec
  regions : Tab Region
  pin : Option Pin
  pinLapsed : Bool
  pinStale : Bool
  pinEpoch : Nat
  pinWhich : Bool
  pinCmd : Nat
  pinLapses : Nat
  exportSeq : Tab Nat
deriving DecidableEq, Repr

end Sys2Proof.Machine
end

