-- ==== Sys2Proof/Machine/StWave.lean ====
section
/-! DEFINITION. The parts of State of travelling-wave capture and fault location (R371 to R393). -/
namespace Sys2Proof.Machine

/-- A stored wavefront sample: its grid point counted from the KTIME96 epoch, its 16-bit value, whether it is UNSYNC. -/
structure WSample where
  grid : Nat
  value : Nat
  unsync : Bool
deriving DecidableEq, Repr

/-- A WSF channel: pre-trigger ring by index, whether it is armed, since when |d| stays below half the threshold while it
is not, and the newest grid point screened. -/
structure WChan where
  ring : Tab WSample
  disarmed : Bool
  belowSince : Option Nat
  screened : Option Nat
deriving DecidableEq, Repr

/-- A capture event (R377 to R381): joined lines, T_e, window start, the channels captured, their samples by channel and
grid point, the count of events opened, whether a reset left gaps. State is object 0xA021:04. -/
structure Capture where
  lines : Nat
  te : Nat
  start : Nat
  chans : List Nat
  samples : Tab (Tab WSample)
  seq : Nat
  gaps : Bool
deriving DecidableEq, Repr

/-- A snippet under way (R382): channel, grid point of the trigger, instant of the trigger. -/
structure Snippet where
  chan : Nat
  grid : Nat
  at_ : Nat
deriving DecidableEq, Repr

/-- A sensor's sequence and its counts in the current epoch (R373, R374). -/
structure Sensor where
  seq : Option Nat
  classified : Nat
  accepted : Nat
  malformed : Nat
  samples : Nat
  written : Nat
  repeated : Nat
  late : Nat
deriving DecidableEq, Repr

/-- A line event (R385, R387): the local FIRST record, the later confident ones, records not yet sent, the remote FIRST
record once held, whether the remote wait is over, whether each location is formed. -/
structure LineEv where
  first : List Byte
  later : List (List Byte)
  unsent : List (List Byte)
  remote : Option (List Byte)
  waitOver : Bool
  double : Bool
  single : Bool
  heard : Nat
deriving DecidableEq, Repr

/-- A line: its newest line event, and a remote FIRST record that came before a local one. -/
structure Line where
  ev : Option LineEv
  early : Option (Nat × List Byte)
deriving DecidableEq, Repr

/-- An ARRIVALS message that waits for its acknowledgement (R387): line, transaction ID, DATA, times sent, last sent. -/
structure WMsg where
  line : Nat
  txid : Nat
  data : List Byte
  sent : Nat
  last : Nat
deriving DecidableEq, Repr

/-- Travelling waves. `senders` holds the sending device, its address plus one, of each remote record in the log. `handoff` holds committed arrivals on their way to die H with the capture event's number then. -/
structure WaveSt where
  chans : Tab WChan
  events : Tab Capture
  opened : Nat
  snippets : List Snippet
  sensors : Tab Sensor
  handoff : List (Nat × List Byte)
  logNext : Nat
  locNext : Nat
  located : Nat
  lines : Tab Line
  msgs : List WMsg
  senders : Tab Nat
deriving DecidableEq, Repr

end Sys2Proof.Machine
end

