-- ==== Sys2Proof/Machine/Dev.lean ====
section
/-! DEFINITION. The device: all that the spec gives the machine, beside the queue of waiting commands. -/
namespace Sys2Proof.Machine

/-- The whole device. `fresh` counts the free values taken (the model's own), `out` is the model's transcript of what
left the device. -/
structure Dev where
  fresh : Nat
  out : List Out
  obj : ObjSt
  tim : TimeSt
  arch : ArchSt
  flt : FaultSt
  net : NetSt
  host : HostSt
  lan : LanSt
  ecl : EclSt
  rings : Tab Ring
  ing : IngestSt
  tab : TableSt
  eng : EngSt
  wave : WaveSt
  pow : PowerSt
  spi : SpiSt
deriving DecidableEq, Repr

end Sys2Proof.Machine
end

