-- ==== Sys2Proof/Machine/Flags.lean ====
section
/-! DEFINITION. Event sources (R452 to R455): class, allowed reactions and default reaction of every source ID, and
small code tables shared by the chapters. -/
namespace Sys2Proof.Machine

/-- Class codes of R452. -/
def clsI : Nat := 0
def clsW : Nat := 1
def clsC : Nat := 2
def clsE : Nat := 3
def clsF : Nat := 4

/-- The class of a source: the named sources of R454, the engine faults of R304 (sources 208 to 221 in the order of its
rows), and class I for every reserved ID (R453). -/
def srcClass (src : Nat) : Nat :=
  if src ∈ [0, 3, 21, 67, 68, 145, 146, 449, 451] then clsF
  else if src ∈ [2, 208, 323, 384, 385, 387] then clsC
  else if src ∈ [17, 19, 20, 22, 48, 64, 112, 115, 116, 147, 149, 176, 217, 218, 222, 258, 260, 290, 292, 321, 353,
      448, 450] then clsW
  else if src ∈ [16, 18, 23, 65, 66, 69, 70, 71, 72, 113, 114, 144, 148, 150, 177, 209, 210, 211, 212, 213, 214, 215,
      216, 220, 221, 225, 226, 256, 257, 259, 261, 262, 320, 322, 352, 386, 388] then clsE
  else if 416 ≤ src ∧ src ≤ 429 then clsE
  else clsI

/-- The allowed reactions of a source as a list, the default first (R454): codes 0 NOTE, 1 CONTAIN, 2 ESCALATE,
3 SAFE (R455). -/
def srcReactions (src : Nat) : List Nat :=
  if src ∈ [66, 144] then [1, 3]
  else if src = 72 then [2, 1, 3]
  else if src ∈ [150, 225] then [2, 1]
  else if src ∈ [226, 261, 262] then [2]
  else if src = 352 then [1, 2]
  else if srcClass src = clsF then [3]
  else if srcClass src = clsE then [1]
  else [0]

/-- The allowed reactions as a bit mask, bit k for code k (object 0x8010:02). -/
def srcMask (src : Nat) : Nat := (srcReactions src).foldl (fun m k => m ||| 2 ^ k) 0

/-- Is the ID one the manual names (R453, R454)? A reserved ID is never raised. -/
def srcNamed (src : Nat) : Bool :=
  decide (src ∈ [0, 1, 2, 3, 4, 16, 17, 18, 19, 20, 21, 22, 23, 24, 48, 64, 65, 66, 67, 68, 69, 70, 71, 72,
    112, 113, 114, 115, 116, 117, 144, 145, 146, 147, 148, 149, 150, 176, 177, 208, 209, 210, 211, 212, 213, 214, 215,
    216, 217, 218, 219, 220, 221, 222, 223, 224, 225, 226, 256, 257, 258, 259, 260, 261, 262, 288, 289, 290, 291, 292,
    320, 321, 322, 323, 352, 353, 384, 385, 386, 387, 388, 389, 448, 449, 450, 451, 464])
  || (decide (416 ≤ src) && decide (src ≤ 429))

end Sys2Proof.Machine
end

