-- ==== Sys2Proof/Machine/Levels.lean ====
section
/-! DEFINITION. Which scopes hold which: the nesting of units, clusters, regions, dies, ports, rings and time (R7, R8, R17, R463). -/
namespace Sys2Proof.Machine

/-- The scopes that hold a physical engine, smallest first (R8). -/
def engineScopes (f : Nat) : List Scope := [.engine f, .cluster (f / 8), .region (f / 32), .die (f / 64 + 1), .device]
/-- The scopes that hold a cluster. -/
def clusterScopes (k : Nat) : List Scope := [.cluster k, .region (k / 4), .die (k / 8 + 1), .device]
/-- The scopes that hold a region. -/
def regionScopes (g : Nat) : List Scope := [.region g, .die (g / 2 + 1), .device]
/-- The scopes that hold a P-port. -/
def portScopes (p : Nat) : List Scope := [.port p, .device]
/-- The scopes that hold a ring port. -/
def ringPortScopes (i : Nat) : List Scope := [.ringPort i, .ring (i / 2), .device]
/-- The scopes that hold a queue; PERST_N resets every queue with the endpoint (R17). -/
def queueScopes (q : Nat) : List Scope := [.queue q, .endpoint, .device]

/-- The scopes that hold replica `r` (R463): its port's or region's, and the time scope. -/
def replicaScopes (r : Nat) : List Scope :=
  (if r < 16 then portScopes r else if r < 17 then [.device]
   else if r < 21 then ringPortScopes (r - 17) else regionScopes (r - 21)) ++ [.time]

/-- The scopes that hold the instance of a ledger (R464). -/
def ledgerScopes (id inst : Nat) : List Scope :=
  if id = 1 ∨ id = 5 then (if inst < 16 then portScopes inst else [.device])
  else if id = 2 then ringPortScopes inst
  else if id = 3 then [.ring inst, .device]
  else if id = 4 then queueScopes inst
  else if id = 6 then engineScopes inst
  else if id = 7 then clusterScopes inst
  else if id = 8 ∨ id = 9 then regionScopes inst
  else if id = 10 then
    (if inst / 8 = 0 then [.die 1, .device] else if inst / 8 = 1 then [.die 2, .device] else [.die 1, .die 2, .device])
  else [.device]

/-- The scopes that hold a scope, itself among them: a reset of one of them covers it (R17, R18). -/
def Scope.within : Scope → List Scope
  | .engine f => engineScopes f
  | .queue q => queueScopes q
  | .port p => portScopes p
  | .ringPort i => ringPortScopes i
  | .tsUnit n =>
    if n < 16 then .tsUnit n :: portScopes n else if n < 20 then .tsUnit n :: ringPortScopes (n - 16) else [.tsUnit n, .device]
  | .cluster k => clusterScopes k
  | .region g => regionScopes g
  | .die c => [.die c, .device]
  | .ring r => [.ring r, .device]
  | .time => [.time, .device]
  | .endpoint => [.endpoint, .device]
  | .device => [.device]

/-- The scope of an element of object 0x8020: 0 to 15 ports, 16 and 17 rings, 18 time, 19 device (R473). -/
def scopeOfElem (e : Nat) : Scope := if e < 16 then .port e else if e < 18 then .ring (e - 16) else if e = 18 then .time else .device

end Sys2Proof.Machine
end

