-- ==== Sys2Proof/Machine/Ops.lean ====
section
/-! DEFINITION. The named operations over the device: object lookup, reads and writes of the dictionary's two banks,
device time, raising a detection, and what leaves the device. -/
namespace Sys2Proof.Machine

/-! ### Time -/

/-- Nanoseconds in units of 2^-16 ns (R70). -/
def ns (n : Nat) : Nat := n * 65536
/-- Microseconds in units of 2^-16 ns. -/
def us (n : Nat) : Nat := n * 65536000
/-- Milliseconds in units of 2^-16 ns. -/
def ms (n : Nat) : Nat := n * 65536000000
/-- Seconds in units of 2^-16 ns. -/
def sec (n : Nat) : Nat := n * 65536000000000

/-- A KTIME96 value (R70) of a time. -/
def ktimeOf (t : Nat) : Nat :=
  (t / 65536000000000 % 2 ^ 48) * 2 ^ 48 + (t / 65536 % 1000000000) * 65536 + t % 65536

/-- The time of a KTIME96 value (R70). -/
def timeOfKtime (k : Nat) : Nat := sec (bits k 48 48) + ns (bits k 16 32) + bits k 0 16

/-- A TS64 value (R71, R72): the fraction is dropped, the seconds keep their low 32 bits. -/
def ts64Of (t : Nat) : Nat := (t / 65536000000000 % 2 ^ 32) * 2 ^ 32 + t / 65536 % 1000000000

/-- The time of a TS64 value, its upper 16 seconds bits chosen nearest the current time (R72): from 2^31 s before it,
included, to 2^31 s after it, excluded. -/
def timeOfTs64 (now k : Nat) : Nat :=
  let c := sec (now / 65536000000000 / 4294967296 * 4294967296 + bits k 32 32) + ns (bits k 0 32)
  if now + sec 2147483648 ≤ c ∧ sec 4294967296 ≤ c then c - sec 4294967296
  else if c + sec 2147483648 < now then c + sec 4294967296
  else c

/-- The first multiple of `step` at or after `t`. -/
def ceilTo (t step : Nat) : Nat := if step = 0 then t else (t + step - 1) / step * step

/-- The timekeeper named. -/
def TimeSt.tk (t : TimeSt) : TkId → Tk
  | .a => t.a
  | .b => t.b

/-- Replace a timekeeper. -/
def TimeSt.setTk (t : TimeSt) (k : TkId) (x : Tk) : TimeSt :=
  match k with
  | .a => { t with a := x }
  | .b => { t with b := x }

/-- A timekeeper's own time in units of 2^-16 ns. -/
def Tk.time (k : Tk) : Nat := k.count / 65536

/-- A timekeeper's increment at each 250 MHz tick in units of 2^-32 ns: 4 ns and the adjustment (R74). -/
def Tk.incr (k : Tk) : Nat := (17179869184 + 17179869184 * k.adjust / 1000000000000000000).toNat

/-- Distributed time (R89, R90): the driving timekeeper's own time plus the handover offset not yet removed. -/
def TimeSt.now (t : TimeSt) : Nat := (((t.tk t.drive).time : Int) + t.hOffset).toNat

/-- Device time. -/
def Dev.now (d : Dev) : Nat := d.tim.now

/-- Bring device time forward to an instant; the other timekeeper advances at the ratio of the two increments. An
instant not ahead changes nothing. -/
def TimeSt.advance (t : TimeSt) (at_ : Nat) : TimeSt :=
  if at_ ≤ t.now then t else
  let dt := (at_ - t.now) * 65536
  let drv := t.tk t.drive
  let oth := t.tk t.drive.other
  let dOth := dt * oth.incr / drv.incr
  (t.setTk t.drive { drv with count := drv.count + dt }).setTk t.drive.other { oth with count := oth.count + dOth }

/-- Bring the device's time forward to an instant. [DESIGN CHOICE: log 4] -/
def Dev.at_ (d : Dev) (t : Nat) : Dev := { d with tim := d.tim.advance t }

/-! ### Objects -/

/-- An object's element as one key of the dictionary. -/
def okey (o e : Nat) : Nat := o * 4294967296 + e

/-- The catalogue piece an index lies in. -/
def objsOf (idx : Nat) : List Obj :=
  if idx < 0x1300 then objsConfig
  else if idx < 0x2000 then objsPower
  else if idx < 0x2100 then objsTime
  else if idx < 0x3000 then objsPtp
  else if idx < 0x3100 then objsPort
  else if idx < 0x3400 then objsRedundancy
  else if idx < 0x4000 then objsPort
  else if idx < 0x5000 then objsRing
  else if idx < 0x5400 then objsEngine
  else if idx < 0x6000 then objsPhasor
  else if idx < 0x6100 then objsTable
  else if idx < 0x6200 then objsIngest
  else if idx < 0x6500 then objsTable
  else if idx < 0x7000 then objsPhasor
  else if idx < 0x7002 then objsPcie
  else if idx < 0x8000 then objsQueue
  else if idx < 0x9000 then objsFault
  else if idx < 0xA000 then objsPower
  else objsWave

/-- Find an object by number in a catalogue piece. -/
def findObj (o : Nat) : List Obj → Option Obj
  | [] => none
  | x :: t => if x.num = o then some x else findObj o t

/-- The highest subindex a record holds, zero where the record is absent. -/
def highSub (idx : Nat) (l : List Obj) : Nat :=
  l.foldl (fun m x => if x.num / 256 = idx ∧ m < x.num % 256 then x.num % 256 else m) 0

/-- Is the index assigned (R35)? -/
def idxPresent (idx : Nat) : Bool := highSub idx (objsOf idx) != 0

/-- An object of the catalogue by its number; subindex zero of a record is a constant U8 (R34). -/
def objOf (o : Nat) : Option Obj :=
  if o % 256 = 0 then
    (if idxPresent (o / 256) then
      some (num o .u8 .const .observer (highSub (o / 256) (objsOf (o / 256))) .any)
     else none)
  else findObj o (objsOf (o / 256))

/-- How many elements a record has; 1 where it is no array (the chapters' element lists). -/
def elemsOf (idx : Nat) : Nat :=
  if idx = 0x1180 then 4 else if idx = 0x1200 then 32
  else if idx = 0x2001 then 2 else if idx = 0x2010 then 4 else if idx = 0x2020 then 2 else if idx = 0x2050 then 4
  else if idx = 0x2070 then 8 else if idx = 0x2080 then 8 else if idx = 0x2110 then 4 else if idx = 0x2120 then 68
  else if idx = 0x2130 then 17 else if idx = 0x2140 then 4
  else if idx = 0x3000 then 16 else if idx = 0x3010 then 128 else if idx = 0x3020 then 16 else if idx = 0x3030 then 64
  else if idx = 0x3040 then 16 else if idx = 0x3050 then 16 else if idx = 0x3060 then 4096
  else if idx = 0x3400 then 4 else if idx = 0x3401 then 4
  else if idx = 0x3100 then 65536 else if idx = 0x3110 then 65536 else if idx = 0x3120 then 8192
  else if idx = 0x3200 then 8 else if idx = 0x3210 then 16384
  else if idx = 0x4000 then 2 else if idx = 0x4001 then 2 else if idx = 0x4002 then 4 else if idx = 0x4003 then 2
  else if idx = 0x4010 then 8 else if idx = 0x4020 then 2 else if idx = 0x4050 then 2
  else if idx = 0x6100 then 4096 else if idx = 0x6110 then 65536 else if idx = 0x6120 then 512
  else if idx = 0x6130 then 262144 else if idx = 0x6141 then 4 else if idx = 0x6142 then 21
  else if idx = 0x5000 then 128 else if idx = 0x5001 then 4 else if idx = 0x5010 then 4 else if idx = 0x5020 then 64
  else if idx = 0x5100 then 2048 else if idx = 0x5200 then 2048 else if idx = 0x5300 then 65536
  else if idx = 0x5400 then 16384 else if idx = 0x6500 then 256
  else if idx = 0x6001 then 4 else if idx = 0x6002 then 2 else if idx = 0x6010 then 33554432
  else if idx = 0x6200 then 1024 else if idx = 0x6210 then 1048576
  else if idx = 0xA000 then 256 else if idx = 0xA010 then 512 else if idx = 0xA021 then 64 else if idx = 0xA030 then 4
  else if idx = 0xA040 then 4096 else if idx = 0xA100 then 64 else if idx = 0xA110 then 256
  else if idx = 0x7001 then 2048 else if idx = 0x7100 then 262144 else if idx = 0x7110 then 262144
  else if idx = 0x7120 then 512 else if idx = 0x7130 then 21
  else if idx = 0x8010 then 512 else if idx = 0x8020 then 20 else if idx = 0x8100 then 64 else if idx = 0x8200 then 16
  else if idx = 0x1300 then 8 else if idx = 0x1310 then 1024 else if idx = 0x1311 then 2
  else if idx = 0x9002 then 9 else if idx = 0x9020 then 3 else 1

/-- Is the object's element Ballast-resident (R41, R44, R109, R138, R420, R473, R502)? -/
def ballastObj (o e : Nat) : Bool :=
  let i := o / 256
  if i = 0x1100 || i = 0x1180 then true
  else if decide (0x2000 ≤ i) && decide (i < 0x2100) then true
  else if i = 0x2100 || i = 0x2110 || i = 0x2150 then true
  else if i = 0x2120 then e = 16 || e = 33 || e = 50 || e = 67
  else if i = 0x2130 then e = 16
  else if o = 0x700001 || o = 0x700002 then true
  else if i = 0x8000 || i = 0x8020 then true
  else if i = 0x8010 then decide (3 ≤ o % 256)
  else i = 0x1300 || i = 0x1301 || i = 0x1302 || i = 0x9000 || i = 0x9001 || i = 0x9010

/-- The boundary kinds an RWS object allows, its default first (R44, R109, R152, R174, R231, R242, R346). [DEDUCED: log 19] -/
def kindsOf (o : Nat) : List BKind :=
  let i := o / 256
  if i = 0x1100 then [4]
  else if i = 0x3000 || i = 0x3010 || i = 0x3040 || i = 0x3050 || i = 0x3060 then [2, 1, 4]
  else if i = 0x3030 || i = 0x3020 then [2, 4]
  else if o = 0x40000C || i = 0x4010 then [3, 4]
  else [1, 4]

/-- A numeric object's default, by element where it depends on it. -/
def dfltNum (o e : Nat) : Nat :=
  if o = 0x201001 then e + 1
  else if o = 0x801001 then srcClass e
  else if o = 0x801002 then srcMask e
  else if o = 0x801003 then (srcReactions e).headD 0
  else if o = 0x500003 then e
  else if o = 0x501002 then b2n (e = 0)
  else match objOf o with
    | some x => x.dflt
    | none => 0

/-- A byte object's default. -/
def dfltOct (o e : Nat) : List Byte :=
  if o = 0x501001 && e == 0 then padTo 97 Config.garosterKey
  else if o = 0x13020A then padTo 48 Config.fusedHash
  else if o = 0x210001 then padTo 8 Config.clockIdentity
  else if o = 0x303008 then [0x40, 0x42, 0x0F, 0, 0, 0, 0, 0xFF]
  else match objOf o with
    | some x => zeros x.zeroLen
    | none => []

/-- A numeric object's active value. -/
def Dev.get (d : Dev) (o e : Nat) : Nat := tget (dfltNum o e) d.obj.dict.num (okey o e)

/-- A byte object's active value. -/
def Dev.getB (d : Dev) (o e : Nat) : List Byte := tget (dfltOct o e) d.obj.dict.oct (okey o e)

/-- A numeric object's shadow copy. -/
def Dev.getSh (d : Dev) (o e : Nat) : Nat := tget (dfltNum o e) d.obj.dict.shNum (okey o e)

/-- A byte object's shadow copy. -/
def Dev.getShB (d : Dev) (o e : Nat) : List Byte := tget (dfltOct o e) d.obj.dict.shOct (okey o e)

/-- Replace the dictionary. -/
def Dev.setDict (d : Dev) (x : Dict) : Dev := { d with obj := { d.obj with dict := x } }

/-- Set a numeric object's active value. -/
def Dev.put (d : Dev) (o e v : Nat) : Dev :=
  d.setDict { d.obj.dict with num := tput (dfltNum o e) d.obj.dict.num (okey o e) v }

/-- Set a byte object's active value. -/
def Dev.putB (d : Dev) (o e : Nat) (v : List Byte) : Dev :=
  d.setDict { d.obj.dict with oct := tput (dfltOct o e) d.obj.dict.oct (okey o e) v }

/-- Set a numeric object's shadow copy. -/
def Dev.putSh (d : Dev) (o e v : Nat) : Dev :=
  d.setDict { d.obj.dict with shNum := tput (dfltNum o e) d.obj.dict.shNum (okey o e) v }

/-- Set a byte object's shadow copy. -/
def Dev.putShB (d : Dev) (o e : Nat) (v : List Byte) : Dev :=
  d.setDict { d.obj.dict with shOct := tput (dfltOct o e) d.obj.dict.shOct (okey o e) v }

/-- The number of bits of an object's value. -/
def objBits (o : Nat) : Nat :=
  match objOf o with
  | some x => 8 * x.ty.size
  | none => 64

/-- A counter advances; counters wrap to 0. -/
def Dev.add (d : Dev) (o e n : Nat) : Dev := d.put o e ((d.get o e + n) % 2 ^ objBits o)

/-- A counter advances by one. -/
def Dev.inc (d : Dev) (o e : Nat) : Dev := d.add o e 1

/-- A signed object's active value. -/
def Dev.geti (d : Dev) (o e : Nat) : Int := toInt (objBits o) (d.get o e)

/-- Set a signed object's active value, saturating at the type's range. -/
def Dev.puti (d : Dev) (o e : Nat) (v : Int) : Dev :=
  let w := objBits o
  let hi : Int := (2 ^ (w - 1) : Nat) - 1
  let lo : Int := - (2 ^ (w - 1) : Nat)
  d.put o e (ofInt w (maxInt lo (minInt hi v)))

/-- The elements of a numeric object whose value differs from the default. -/
def Dev.listed (d : Dev) (o : Nat) : List Nat :=
  d.obj.dict.num.filterMap (fun p => if p.1 / 4294967296 = o then some (p.1 % 4294967296) else none)

/-- A BOOL object's active value. -/
def Dev.on (d : Dev) (o e : Nat) : Bool := d.get o e != 0

/-! ### Detections, transcript, free values -/

/-- A detection at a given time is raised: it sets out for the fault collector (R452, R456). -/
def Dev.raiseAt (d : Dev) (t src unit code detail : Nat) : Dev :=
  { d with flt := { d.flt with flying := d.flt.flying ++ [⟨src, unit, code, detail, t, false⟩] } }

/-- A detection is raised now. -/
def Dev.raise (d : Dev) (src unit code detail : Nat) : Dev := d.raiseAt d.now src unit code detail

/-- The instances of a source whose condition persists. [DEDUCED: log 101] -/
def Dev.setLive (d : Dev) (src unit : Nat) (b : Bool) : Dev :=
  let l := d.flt.live.filter (fun x => x ≠ (src, unit))
  let l' := if b then l ++ [(src, unit)] else l
  ({ d with flt := { d.flt with live := l' } } : Dev).put 0x801006 src (b2n (l'.any (fun x => x.1 = src)))

/-- Something leaves the device. -/
def Dev.emit (d : Dev) (o : Out) : Dev := { d with out := d.out ++ [o] }

/-- Take the next free value: its number is spent, and the value is what the open constant gives it. [DESIGN CHOICE: log 3] -/
def Dev.takeFree (d : Dev) : Nat × Dev := (Config.freeValue d.fresh, { d with fresh := d.fresh + 1 })

/-- The device's own MAC address of a port: 0 to 15 for P0 to P15, 16 for MGT, 17 and 18 for the rings. -/
def macOf (p : Nat) : List Byte := padTo 6 (Config.portMac p)

/-! ### Power state and scopes -/

/-- The power state, object 0x9000:01 (R482, R502): 1 starting, 2 RUN, 3 DOZE, 4 LANTERN, 5 reset held, 6 entering
DOZE. [DEDUCED: log 89] -/
def Dev.power (d : Dev) : Nat := d.get 0x900001 0

/-- A reset of one of the scopes is under way. -/
def Dev.inReset (d : Dev) (l : List Scope) : Bool := d.flt.resets.any (fun r => r.ended.isNone && l.contains r.scope)

/-- Is a source's instance contained (R16, R455): its condition persists, or its reaction is in the software window or in a
reset? [DEDUCED: log 92] -/
def Dev.containedBy (d : Dev) (src unit : Nat) : Bool :=
  d.flt.live.contains (src, unit) || d.flt.reactions.any (fun r => r.src == src && r.unit == unit && (match r.phase with
    | .watch _ _ => false
    | _ => true))

/-- Are a scope's outputs in the safe state: by object 0x8020:01, or because its port or a port of its ring is contained (R16,
R458)? -/
def Dev.safe (d : Dev) (scope : Nat) : Bool :=
  d.on 0x802001 scope
  || (if scope < 16 then d.containedBy 72 scope
      else if scope < 18 then d.containedBy 150 (2 * (scope - 16)) || d.containedBy 150 (2 * (scope - 16) + 1)
      else false)

/-- Do a cluster's activations stop, for containment or a reset (R16)? -/
def Dev.clusterStopped (d : Dev) (k : Nat) : Bool :=
  d.containedBy 225 k || d.containedBy 226 k || d.inReset (clusterScopes k)

end Sys2Proof.Machine
end

