-- ==== Sys2Proof/Machine/Timekeeping.lean ====
section
/-! DEFINITION. The timekeepers: servo, holdover, UTC offset, lease, comparison, arbitration, takeover and revert
(R74 to R99). -/
namespace Sys2Proof.Machine

/-- Replace the timekeeping part. -/
def Dev.setTim (d : Dev) (t : TimeSt) : Dev := { d with tim := t }

/-- Change one timekeeper. -/
def Dev.updTk (d : Dev) (k : TkId) (f : Tk → Tk) : Dev := d.setTim (d.tim.setTk k (f (d.tim.tk k)))

/-- A timekeeper's role: 0 active, 1 standby, 2 demoted (object 0x2001:01). -/
def Dev.role (d : Dev) (k : TkId) : Nat := d.get 0x200101 k.num

/-- A timekeeper's servo state: 0 FREERUN, 1 ACQUIRING, 2 LOCKED, 3 HOLDOVER (object 0x2001:02). -/
def Dev.servo (d : Dev) (k : TkId) : Nat := d.get 0x200102 k.num

/-- A reference's bookkeeping before any event. -/
def refRun0 : RefRun := ⟨false, none, 0, 0, none, 0, 0, 0, 0⟩

/-- The bookkeeping of reference `r`: 1 PTP, 2 PPS_IN0, 3 PPS_IN1, 4 IRIG_IN. -/
def Dev.ref (d : Dev) (r : Nat) : RefRun := tget refRun0 d.tim.refs r

/-- Replace a reference's bookkeeping. -/
def Dev.setRef (d : Dev) (r : Nat) (x : RefRun) : Dev := d.setTim { d.tim with refs := tput refRun0 d.tim.refs r x }

/-! ### Holdover (R84) -/

/-- The holdover estimate E(t) in units of 2^-16 ns, `dt` after an entry with offset `off` (R84). -/
def holdoverErr (off dt : Nat) : Nat :=
  off + 11 * dt / 100000000000 + 5787 * dt * dt / (65536 * 10 ^ 28)

/-- How long after entry E(t) first exceeds `lim` (R84), solved from its quadratic. [DESIGN CHOICE: log 15] -/
def holdoverDue (off lim : Nat) : Nat :=
  if lim < off then 0 else
  let b := 11 * 65536 * 10 ^ 17
  let c := (lim - off) * (65536 * 10 ^ 28)
  (isqrt (b * b + 4 * 5787 * c) - b) / (2 * 5787) + 1

/-- A timekeeper's holdover estimate now, zero outside HOLDOVER. -/
def Dev.holdoverNow (d : Dev) (k : TkId) : Nat :=
  if d.servo k = 3 then
    match (d.tim.tk k).hoSince with
    | some t => holdoverErr (absInt (d.tim.tk k).offset) (d.now - t)
    | none => 0
  else 0

/-- Report E(t) in ns in object 0x2001:08. -/
def Dev.reportHoldover (d : Dev) (k : TkId) : Dev :=
  d.put 0x200108 k.num ((d.holdoverNow k / 65536) % 2 ^ 32)

/-! ### Time status (R98, R99) -/

/-- TRACEABLE: the holder is LOCKED, or in HOLDOVER within the limit (R98). -/
def Dev.traceable (d : Dev) : Bool :=
  match d.tim.holder with
  | some k => d.servo k == 2 || (d.servo k == 3 && !d.tim.hoLimit)
  | none => false

/-- The lease holder's code: 0 none, 1 TK-A, 2 TK-B. -/
def Dev.holderCode (d : Dev) : Nat :=
  match d.tim.holder with
  | some .a => 1
  | some .b => 2
  | none => 0

/-- `TK_STATUS`, field by field (R98). -/
def Dev.tkStatus (d : Dev) : Nat :=
  d.holderCode * 2 ^ 30 + d.role .a * 2 ^ 28 + d.role .b * 2 ^ 26 + d.servo .a * 2 ^ 23 + d.servo .b * 2 ^ 20
  + b2n (d.tim.arb == .undecided) * 2 ^ 19 + b2n d.tim.leap61 * 2 ^ 18 + b2n d.tim.leap59 * 2 ^ 17
  + b2n d.tim.hoLimit * 2 ^ 16 + (ofInt 8 d.tim.utcOff) * 2 ^ 8 + b2n d.traceable

/-- The four words of `TK_TIME0` to `TK_TIME3` for a time (R99). -/
def tkTimeWords (t : Nat) : List Nat :=
  let k := ktimeOf t
  [bits k 16 32, bits k 0 16, bits k 48 32, bits k 80 16]

/-! ### UTC offset and leap seconds (R85) -/

/-- The reference that IRIG_IN is. -/
def refIrig : Nat := 4

/-- Is the TOD_RX source current: an accepted binary message in the last 1.5 s (R85)? -/
def Dev.todCurrent (d : Dev) : Bool :=
  match d.tim.utcTod with
  | some u => decide (d.now ≤ u.at_ + ms 1500)
  | none => false

/-- The first current source of the offset and the leap indication (R85). -/
def Dev.utcSource (d : Dev) : UtcSrc :=
  match d.tim.utcPtp with
  | some u => u
  | none =>
    match d.tim.utcTod with
    | some u =>
      if d.todCurrent then u else
      (match d.tim.utcIrig with
       | some v => if (d.ref refIrig).valid then v else ⟨d.geti 0x200008 0, false, false, 0⟩
       | none => ⟨d.geti 0x200008 0, false, false, 0⟩)
    | none =>
      match d.tim.utcIrig with
      | some v => if (d.ref refIrig).valid then v else ⟨d.geti 0x200008 0, false, false, 0⟩
      | none => ⟨d.geti 0x200008 0, false, false, 0⟩

/-- Take the offset and the leap indication from the first current source (R85). -/
def Dev.resolveUtc (d : Dev) : Dev :=
  let u := d.utcSource
  d.setTim { d.tim with utcOff := u.offset, leap61 := u.leap61, leap59 := u.leap59 }

/-- The pending leap as a change of the offset: plus one, minus one, or none. -/
def TimeSt.leapStep (t : TimeSt) : Int := if t.leap61 then 1 else if t.leap59 then -1 else 0

/-- A source whose pending leap has taken effect. -/
def UtcSrc.afterLeap (u : UtcSrc) : UtcSrc :=
  if u.leap61 then { u with offset := u.offset + 1, leap61 := false, leap59 := false }
  else if u.leap59 then { u with offset := u.offset - 1, leap61 := false, leap59 := false } else u

/-- The TAI instant at which the current UTC day ends, the pending leap counted (R85). -/
def Dev.leapInstant (d : Dev) : Nat :=
  let off := d.tim.utcOff + d.tim.leapStep
  let utc : Int := (d.now / sec 1 : Nat) - d.tim.utcOff
  let midnight : Int := (utc / 86400 + 1) * 86400
  sec (midnight + off).toNat

/-- A pending leap takes effect at the end of the UTC day (R85). -/
def leapSecond (d : Dev) : Dev :=
  if d.tim.leap61 || d.tim.leap59 then
    let d := d.at_ d.leapInstant
    (d.setTim { d.tim with
      leapAt := some d.now, leapDown := d.tim.leap59, utcPtp := d.tim.utcPtp.map UtcSrc.afterLeap, utcTod := d.tim.utcTod.map UtcSrc.afterLeap,
      utcIrig := d.tim.utcIrig.map UtcSrc.afterLeap }).resolveUtc
  else d

/-! ### Demotion, lease and takeover (R77, R86 to R95) -/

/-- Is a timekeeper eligible to acquire an expired lease (R88)? -/
def Dev.eligible (d : Dev) (k : TkId) : Bool := d.role k != 2 && (d.tim.tk k).oscOk && d.servo k != 0

/-- Demote a timekeeper for a reason; its lease is revoked if it holds one (R77, R86, R91, R94, R95). One already
demoted keeps its reason. -/
def Dev.demote (d : Dev) (k : TkId) (reason : Nat) : Dev :=
  if d.role k = 2 then d else
  let d := ((d.put 0x200101 k.num 2).put 0x200106 k.num reason).inc 0x200107 k.num
  let d := d.updTk k fun x => { x with eligSince := none, trackSince := none }
  let d := if d.tim.holder = some k then d.setTim { d.tim with holder := none } else d
  d.raise 16 k.num reason 0

/-- A timekeeper acquires the lease and loads its handover offset (R89): distributed time goes on from the last
comparison's difference; the three comparisons that follow are not counted (R90). -/
def Dev.acquire (d : Dev) (k : TkId) (off : Int) : Dev :=
  let d := d.setTim { d.tim with
    holder := some k, drive := k, hOffset := off, renewedAt := (d.tim.tk k).time,
    missedRenewal := false, pulsesMissing := 0, skip := 3, disagree := 0, revertAt := none, revertOk := false,
    lastSlew := d.now }
  let d := d.put 0x200101 k.num 0
  let d := if d.role k.other = 2 then d else d.put 0x200101 k.other.num 1
  (d.updTk k fun x => { x with eligSince := none }).setLive 21 0 false

/-- After an expiry or a revocation: the eligible standby acquires; with none eligible, time is lost (R86, R93). -/
def Dev.passLease (d : Dev) : Dev :=
  let k := d.tim.drive.other
  if d.eligible k then d.acquire k d.tim.diff
  else if d.eligible d.tim.drive then d.acquire d.tim.drive d.tim.hOffset
  else (d.raise 21 0 0 0).setLive 21 0 true

/-- A lease expires 50 µs after its last renewal, or has been revoked; the standby acquires it (R86, R93, R95). -/
def leaseExpiry (d : Dev) : Dev :=
  match d.tim.holder with
  | some k =>
    let due := d.tim.renewedAt + us 50 - (d.tim.tk k).time
    let d := d.at_ (d.now + due)
    (d.demote k 4).passLease
  | none => d.passLease

/-- The holder renews its lease at a 10 µs boundary of its own time (R86). -/
def leaseRenewal (d : Dev) : Dev :=
  match d.tim.holder with
  | some k =>
    let own := (d.tim.tk k).time
    let due := ceilTo own (us 10)
    let d := d.at_ (d.now + (due - own))
    d.setTim { d.tim with renewedAt := due, missedRenewal := false }
  | none => d

/-- A renewal is missed: 10 µs have passed since the last (R95). -/
def leaseRenewalMissed (d : Dev) : Dev :=
  match d.tim.holder with
  | some k =>
    let due := d.tim.renewedAt + us 10 - (d.tim.tk k).time
    let d := d.at_ (d.now + due)
    if d.tim.missedRenewal then d
    else (d.setTim { d.tim with missedRenewal := true }).raise 17 k.num 0 0
  | none => d

/-- The holder's pulse is missing at a microsecond boundary, judged by the standby; at the second in a row the holder is
demoted with the reason "pulses missing" and its lease is revoked (R86, R94). -/
def holderPulseMissing (d : Dev) : Dev :=
  match d.tim.holder with
  | some k =>
    if d.role k.other = 1 then
      let d := d.at_ (ceilTo (d.tim.lastPulse + 1 + us d.tim.pulsesMissing) (us 1) + ns 50)
      let d := d.setTim { d.tim with pulsesMissing := d.tim.pulsesMissing + 1 }
      if d.tim.pulsesMissing ≥ 2 then d.demote k 3 else d
    else d
  | none => d

/-! ### The oscillator monitor (R77) -/

/-- The monitor's check every 10 µs: beyond 200 ppm of its nominal frequency a timekeeper is demoted (R77). -/
def oscillatorCheck (k : TkId) (ppb : Int) (d : Dev) : Dev :=
  if absInt ppb > 200000 then (d.updTk k fun x => { x with oscOk := false }).demote k 2
  else d.updTk k fun x => { x with oscOk := true }

/-- No edge of a TKOSC for 1 µs (R77). -/
def oscillatorLost (k : TkId) (d : Dev) : Dev := (d.updTk k fun x => { x with oscOk := false }).demote k 1

/-- TKOSC_B shows no edge in the first 10 ms after Ballast power-on reset (R77). -/
def oscillatorNotFitted (d : Dev) : Dev := (d.updTk .b fun x => { x with oscOk := false }).demote .b 6

/-! ### Servo (R82, R83) -/

/-- The natural frequency of the loop in units of 10^-18 per second, for a bandwidth in mHz: 2π × bandwidth ÷ 2.058
(R82). [DESIGN CHOICE: log 10] -/
def servoOmega (mHz : Nat) : Int := (6283185307179586 * mHz * 1000 / 2058 : Nat)

/-- Clamp an integer to ± a bound. -/
def clampInt (x bound : Int) : Int := maxInt (-bound) (minInt bound x)

/-- kp × θ in parts per 10^18, θ in units of 2^-16 ns: kp = 2 × 0.707 × ωn (R82). -/
def servoP (mHz : Nat) (theta : Int) : Int :=
  1414 * servoOmega mHz * theta / (1000 * 65536000000000)

/-- ki × θ × Δ in parts per 10^18: ki = ωn² (R82). -/
def servoI (mHz : Nat) (theta : Int) (delta : Nat) : Int :=
  servoOmega mHz * servoOmega mHz * theta * delta / (1000000000000000000 * 65536000000000 * 65536000000000)

/-- The mean of the kept frequency estimates, the last 64 updates (R82). -/
def meanInt (l : List Int) : Int := if l.isEmpty then 0 else l.foldl (· + ·) 0 / l.length

/-- One servo update of the frequency and the adjustment (R82). -/
def Tk.update (x : Tk) (mHz limPpb : Nat) (theta : Int) (at_ : Nat) : Tk :=
  let delta := match x.lastUpd with
    | some t => at_ - t
    | none => 0
  let f := clampInt (x.freqEst + servoI mHz theta delta) 200000000000000
  let a := f + clampInt (servoP mHz theta) (limPpb * 1000000000)
  { x with freqEst := f, adjust := a, hist := (f :: x.hist).take 64, lastUpd := some at_, offset := theta }

/-- Report a timekeeper's offset and adjustment (objects 0x2001:03, :04). -/
def Dev.reportServo (d : Dev) (k : TkId) : Dev :=
  (d.puti 0x200103 k.num (d.tim.tk k).offset).puti 0x200104 k.num ((d.tim.tk k).adjust / 1000000)

/-- A reference update at time `at_` with the timekeeper's offset θ (reference minus timekeeper, in 2^-16 ns): the
servo's state machine (R82) and the step condition (R83). -/
def Dev.servoUpdate (d : Dev) (k : TkId) (theta : Int) (at_ : Nat) : Dev :=
  let bw := d.get 0x200204 0
  let lim := d.get 0x200205 0
  let small := decide (absInt theta ≤ ns (d.get 0x200201 0))
  let big := decide (absInt theta > ns (d.get 0x200203 0))
  let x := d.tim.tk k
  let st := d.servo k
  let mayStep := decide (absInt theta > ns (d.get 0x200005 0)) && (!d.on 0x200006 0 || !d.tim.confirmed)
  if st = 0 then
    ((d.updTk k fun _ => { x with
        stepBy := some theta, lastUpd := some at_, offset := theta, lockRun := 0,
        unlockRun := 0 }).put 0x200102 k.num 1).reportServo k
  else
    let y := x.update bw lim theta at_
    let y := { y with
          lockRun := if small then x.lockRun + 1 else 0, unlockRun := if big then x.unlockRun + 1 else 0,
                      hoSince := none, stepBy := if mayStep then some theta else x.stepBy }
    let st1 := if st = 3 then 1 else st
    let st2 := if st1 = 1 ∧ y.lockRun ≥ d.get 0x200202 0 then 2
      else if st1 = 2 ∧ y.unlockRun ≥ 3 then 1 else st1
    let y := if st2 = 1 ∧ st1 = 2 then { y with lockRun := 0, unlockRun := 0 } else y
    ((d.updTk k fun _ => y).put 0x200102 k.num st2).reportServo k

/-- Enter HOLDOVER: the frequency held is the mean of the last 64 estimates (R82). -/
def Dev.enterHoldover (d : Dev) (k : TkId) : Dev :=
  if d.servo k = 1 ∨ d.servo k = 2 then
    let now := d.now
    (d.updTk k fun x => { x with
      adjust := meanInt x.hist, hoSince := some now, lastUpd := none, lockRun := 0,
      unlockRun := 0 }).put 0x200102 k.num 3
  else d

/-- A reference has become valid: a timekeeper in HOLDOVER acquires again (R82). -/
def Dev.leaveHoldover (d : Dev) (k : TkId) : Dev :=
  if d.servo k = 3 then
    (d.updTk k fun x => { x with hoSince := none }).put 0x200102 k.num 1
  else d

/-- Clear the holdover limit flag while the holder is not in HOLDOVER (R84, R98). -/
def Dev.refreshLimit (d : Dev) : Dev :=
  match d.tim.holder with
  | some k => if d.servo k = 3 then d else
      if d.tim.hoLimit then (d.setTim { d.tim with hoLimit := false }).setLive 20 k.num false else d
  | none => d

/-- The estimate has passed the holdover limit (R84): the flag is set, TRACEABLE clears, and source 20 is raised. Time is
brought to the instant at which E(t) first exceeds the limit. -/
def holdoverLimitPassed (d : Dev) : Dev :=
  match d.tim.holder with
  | some k =>
    if d.servo k = 3 && !d.tim.hoLimit then
      match (d.tim.tk k).hoSince with
      | some t0 =>
        let d := d.at_ (t0 + holdoverDue (absInt (d.tim.tk k).offset) (ns (d.get 0x200007 0)))
        ((d.setTim { d.tim with hoLimit := true }).raise 20 k.num 0 0).setLive 20 k.num true
      | none => d
    else d
  | none => d

/-! ### Arbitration (R91) -/

/-- A timekeeper's time in the comparison: the holder's is distributed time, the other's its own count (R90). -/
def Dev.compared (d : Dev) (k : TkId) : Nat := if d.tim.drive = k then d.now else (d.tim.tk k).time

/-- The reference that arbitration uses, from object 0x2000:01: 1 PTP, 2 PPS_IN0, 3 PPS_IN1. -/
def Dev.arbRef (d : Dev) : RefRun := d.ref (d.get 0x200001 0)

/-- Leave the arbitration undecided: the first time, source 18 is raised (R91). -/
def Dev.arbUndecided (d : Dev) : Dev :=
  if d.tim.arb = .undecided then d
  else ((d.setTim { d.tim with arb := .undecided }).raise 18 0 0 0).setLive 18 0 true

/-- Decide an arbitration, `elapsed` after the reference's last accepted event by the hub fabric clock (R91). -/
def Dev.arbitrate (d : Dev) (elapsed : Nat) : Dev :=
  match d.arbRef.last with
  | none => d.arbUndecided
  | some _ =>
    if elapsed > sec 2 || d.power = 3 then d.arbUndecided else
    let est := d.arbRef.estTime + elapsed
    let da := absInt ((est : Int) - d.compared .a)
    let db := absInt ((est : Int) - d.compared .b)
    let thr := ns (d.get 0x200002 0)
    let idle := fun d : Dev => (d.setTim { d.tim with arb := .idle, disagree := 0 }).setLive 18 0 false
    if da > thr && db ≤ thr then (idle d).demote .a 5
    else if db > thr && da ≤ thr then (idle d).demote .b 5
    else d.arbUndecided

/-- The decision of a started arbitration. -/
def arbitrationDecision (elapsed : Nat) (d : Dev) : Dev :=
  match d.tim.arb with
  | .idle => d
  | _ => d.arbitrate elapsed

/-! ### References (R78 to R81) -/

/-- Is a reference valid and eligible (R78): a PPS input only while the source of its seconds label is valid? -/
def Dev.refUsable (d : Dev) (r : Nat) : Bool :=
  (d.ref r).valid &&
  (if r = 2 ∨ r = 3 then
    let src := d.get 0x202003 (r - 2)
    if src = 2 then (d.ref 1).valid else if src = 3 then (d.ref 4).valid else true
   else true)

/-- The reference of highest rank that is valid, 0 for none (R79). -/
def Dev.bestRef (d : Dev) : Nat :=
  match [0, 1, 2, 3].find? (fun i => let r := d.get 0x201001 i; r != 0 && d.refUsable r) with
  | some i => d.get 0x201001 i
  | none => 0

/-- Show a reference's state: 0 absent, 1 qualifying, 2 valid (objects 0x2020:04, 0x2040:04). -/
def Dev.showRef (d : Dev) (r : Nat) : Dev :=
  let x := d.ref r
  let st := if x.valid then 2 else if x.run > 0 then 1 else 0
  if r = 2 then d.put 0x202004 0 st else if r = 3 then d.put 0x202004 1 st
  else if r = 4 then d.put 0x204004 0 st else d

/-- With no reference valid, timekeepers in ACQUIRING or LOCKED enter HOLDOVER (R82). -/
def Dev.checkHoldover (d : Dev) : Dev :=
  if [1, 2, 3, 4].any (fun r => d.refUsable r && [0, 1, 2, 3].any (fun i => d.get 0x201001 i = r)) then d
  else (d.enterHoldover .a).enterHoldover .b

/-- A reference event that is accepted (R80, R81): θ is the reference's time minus distributed time at the event. The
selection moves to the valid reference of highest rank (R79); if this is it, both servos are updated (R80). An undecided
arbitration is repeated at an event of its reference (R91). -/
def Dev.refEvent (d : Dev) (r : Nat) (theta : Int) (at_ refTime : Nat) : Dev :=
  let x := d.ref r
  let d := d.setRef r { x with lastOffset := theta, estTime := refTime, estAt := at_ }
  let best := d.bestRef
  let d := d.put 0x201101 0 best
  let d := if best = r then
      let act := d.tim.drive
      let d := d.servoUpdate act theta at_
      let d := d.servoUpdate act.other (theta + d.tim.diff) at_
      d.refreshLimit
    else d
  if d.tim.arb = .undecided ∧ d.get 0x200001 0 = r then d.arbitrate (d.now - at_) else d

/-- Are two events of a PPS or IRIG_IN reference consistent (R81): edges 1 s ± 10 µs apart, frames of consecutive
seconds? -/
def refConsistent (r : Nat) (t0 l0 t1 l1 : Nat) : Bool :=
  if r = 4 then l1 == l0 + 1
  else decide (sec 1 ≤ t1 - t0 + us 10) && decide (t1 - t0 ≤ sec 1 + us 10)

/-- A labelled event of a PPS or IRIG_IN reference, at time `t` with its TAI second: qualification, acceptance or a new
run (R81), then the servo (R80, R82). -/
def Dev.refInput (d : Dev) (r t label : Nat) : Dev :=
  let x := d.ref r
  let theta : Int := (sec label : Int) - t
  let runs := match x.runLast with
    | some u => if refConsistent r u x.runLabel t label then x.run + 1 else 1
    | none => 1
  let okLast := match x.last with
    | some u => refConsistent r u x.lastLabel t label
    | none => false
  if x.valid then
    if okLast then
      ((d.setRef r { x with last := some t, lastLabel := label, run := 0, runLast := none }).refEvent r theta t
        (sec label)).showRef r
    else d.setRef r { x with run := runs, runLast := some t, runLabel := label }
  else if runs ≥ 3 then
    let d := d.setRef r { x with valid := true, last := some t, lastLabel := label, run := 0, runLast := none }
    (((d.leaveHoldover .a).leaveHoldover .b).refEvent r theta t (sec label)).showRef r
  else (d.setRef r { x with run := runs, runLast := some t, runLabel := label }).showRef r

/-- A PPS or IRIG_IN reference becomes invalid 1.5 s after its last accepted event; the run it has begun counts on
(R81). -/
def referenceTimeout (r : Nat) (d : Dev) : Dev :=
  let x := d.ref r
  match x.last with
  | some t =>
    if x.valid then
      let d := d.at_ (t + ms 1500)
      let d := (d.setRef r { x with valid := false, last := none }).showRef r
      (d.checkHoldover).resolveUtc
    else d
  | none => d

/-! ### The alignment pulse (R23, R83, R88 to R92, R97) -/

/-- A pending step of a timekeeper is applied (R83): its count moves by the offset, and source 19 is raised. The trigger
plans whose instant a forward step of the driving timekeeper passes are skipped (R107). -/
def Dev.skipPlans (d : Dev) (old : Nat) : Dev :=
  [0, 1, 2, 3, 4, 5, 6, 7].foldl (fun d i =>
    let p := tget ⟨0, 0, 0, none, false, 0⟩ d.tim.trigOut i
    if p.active && decide (old ≤ p.next) && decide (p.next < d.now) then
      let n := if p.period = 0 then 1 else (d.now - p.next + p.period - 1) / p.period
      let n := match p.left with
        | some m => if m < n then m else n
        | none => n
      let left := p.left.map (· - n)
      let past := left == some 0 || p.period == 0
      let q := { p with next := p.next + n * p.period, left := left, active := !past }
      let d := d.setTim { d.tim with trigOut := tput ⟨0, 0, 0, none, false, 0⟩ d.tim.trigOut i q }
      let d := d.add 0x208007 i n
      if past then d.put 0x208006 i 3 else d
    else d) d

/-- Apply a timekeeper's pending step (R83). [DEDUCED: log 17] -/
def Dev.applyStep (d : Dev) (k : TkId) : Dev :=
  match (d.tim.tk k).stepBy with
  | some th =>
    let old := d.now
    let d := d.updTk k fun x => { x with count := ((x.count : Int) + th * 65536).toNat, stepBy := none, offset := 0 }
    let d := d.raise 19 k.num 0 0
    if d.tim.drive = k then
      let d := d.skipPlans old
      if old < d.now then d.setTim { d.tim with stepFrom := old, stepTo := d.now } else d
    else d
  | none => d

/-- Slew the handover offset out at the rate of object 0x2000:04, ns per ms (R89). [DEDUCED: log 16] -/
def Dev.slewHandover (d : Dev) : Dev :=
  let dt := d.now - d.tim.lastSlew
  let room : Int := (d.get 0x200004 0 * dt / 1000000 : Nat)
  let off := d.tim.hOffset
  let off' := if off > 0 then maxInt 0 (off - room) else minInt 0 (off + room)
  d.setTim { d.tim with hOffset := off', lastSlew := d.now }

/-- The revert instant: the next 1 ms boundary at least 100 µs ahead (R97). -/
def Dev.planRevert (d : Dev) : Dev := d.setTim { d.tim with revertAt := some (ceilTo (d.now + us 100) (ms 1)) }

/-- The standby's side of a comparison (R88, R92): a standby corrects toward the holder by at most 1 ns per ms; a demoted
timekeeper that is LOCKED and has tracked within ±2 ns for the hold-off becomes standby, and TK-A then reverts if
automatic revert is enabled. -/
def Dev.trackOther (d : Dev) (k : TkId) : Dev :=
  let df := d.tim.diff
  let near := decide (absInt df ≤ ns 2)
  let hold := sec (d.get 0x200003 0)
  let now := d.now
  if d.role k = 2 then
    let d := d.updTk k fun x => { x with trackSince := if near then some (x.trackSince.getD now) else none }
    match (d.tim.tk k).trackSince with
    | some t0 =>
      if (d.tim.tk k).oscOk && d.servo k == 2 && decide (t0 + hold ≤ now) then
        let d := (d.put 0x200101 k.num 1).updTk k fun x => { x with eligSince := some now }
        if k = .a ∧ d.get 0x200003 0 ≠ 0 then d.planRevert else d
      else d
    | none => d
  else
    let d := d.updTk k fun x => { x with count := ((x.count : Int) + clampInt (df * 65536) 4294967).toNat }
    let d := d.updTk k fun x => { x with eligSince := if d.eligible k then some (x.eligSince.getD now) else none }
    match (d.tim.tk k).eligSince with
    | some t0 =>
      if k = .a ∧ d.get 0x200003 0 ≠ 0 ∧ d.tim.revertAt = none ∧ t0 + hold ≤ now then d.planRevert else d
    | none => d

/-- The comparison at an alignment pulse (R90): three disagreements in a row start arbitration (R91). -/
def Dev.compare (d : Dev) (hold : TkId) : Dev :=
  let k := hold.other
  let df : Int := (d.now : Int) - (d.tim.tk k).time
  let d := d.setTim { d.tim with diff := df }
  let d := (d.puti 0x200105 k.num (-df)).puti 0x200105 hold.num df
  let d := if d.role k = 2 ∨ d.role hold = 2 then d
    else if d.tim.skip > 0 then d.setTim { d.tim with skip := d.tim.skip - 1 }
    else if absInt df > ns (d.get 0x200002 0) then
      let n := d.tim.disagree + 1
      let d := d.setTim { d.tim with disagree := n }
      if n ≥ 3 ∧ d.tim.arb = .idle then d.setTim { d.tim with arb := .started d.now } else d
    else
      let d := d.setTim { d.tim with disagree := 0, arb := .idle }
      d.setLive 18 0 false
  d.trackOther k

/-- At a whole microsecond of device time the lease holder emits an alignment pulse with the boundary and the time status
(R23, R98); pending steps are applied (R83) and the timekeepers compared (R90). -/
def alignmentPulse (d : Dev) : Dev :=
  match d.tim.holder with
  | none => d
  | some k =>
    let from_ := if d.tim.lastPulse = d.now then d.now + 1 else d.now
    let d := d.at_ (ceilTo from_ (us 1))
    let d := (d.applyStep k).applyStep k.other
    let d := d.slewHandover
    let d := d.setTim { d.tim with lastPulse := d.now, pulsesMissing := 0 }
    let d := d.emit (.pulse (ktimeOf d.now) d.tkStatus)
    let d := (d.reportHoldover .a).reportHoldover .b
    d.compare k

/-- The revert is checked 1 µs before its boundary (R97); refused, it is tried at the next 1 ms boundary. -/
def revertCheck (d : Dev) : Dev :=
  match d.tim.revertAt with
  | some h =>
    let d := d.at_ (h - us 1)
    if d.tim.holder = some .b && decide (absInt d.tim.diff ≤ ns 2) && d.tim.arb = .idle && d.eligible .a then
      d.setTim { d.tim with revertOk := true }
    else d.setTim { d.tim with revertAt := some (h + ms 1), revertOk := false }
  | none => d

/-- At its boundary TK-B emits its pulse and releases the lease, and TK-A acquires it with the difference at that instant
(R97). -/
def revert (d : Dev) : Dev :=
  match d.tim.revertAt with
  | some h =>
    if d.tim.revertOk then
      let d := d.at_ h
      let d := d.emit (.pulse (ktimeOf d.now) d.tkStatus)
      let d := d.setTim { d.tim with lastPulse := d.now }
      let df : Int := (d.now : Int) - (d.tim.tk .a).time
      d.acquire .a df
    else d
  | none => d

end Sys2Proof.Machine
end

