-- ==== Sys2Proof/Machine/Arch.lean ====
section
/-! DEFINITION. Time replicas (R23 to R27) and die-to-die links (R29 to R31). -/
namespace Sys2Proof.Machine

/-- A replica whose reset has just been released (R26). -/
def replica0 : Replica := ⟨false, false, 0, 0, false, false, 0, 0, [], 0⟩

/-- Replica `r`: 0 to 15 ports, 16 MGT, 17 to 20 ring ports, 21 to 24 regions. -/
def Dev.rep (d : Dev) (r : Nat) : Replica := tget replica0 d.arch.reps r

/-- Replace a replica. -/
def Dev.setRep (d : Dev) (r : Nat) (x : Replica) : Dev :=
  { d with arch := { d.arch with reps := tput replica0 d.arch.reps r x } }

/-- Tether's copy of a replica before any pulse. -/
def tetherRep0 : TetherRep := ⟨0, 0, 0, false⟩

/-- Tether's replica `i`: 0 to 15 ports, 16 to 19 ring ports. -/
def Dev.tether (d : Dev) (i : Nat) : TetherRep := tget tetherRep0 d.arch.tether i

/-- Replace Tether's replica. -/
def Dev.setTether (d : Dev) (i : Nat) (x : TetherRep) : Dev :=
  { d with arch := { d.arch with tether := tput tetherRep0 d.arch.tether i x } }

/-- Is a reading of a replica flagged time-unsynchronised (R14)? -/
def Dev.unsync (d : Dev) (r : Nat) : Bool := !(d.rep r).sync

/-- A replica's reading: distributed time plus its error (R13, R27). [DEDUCED: log 169] -/
def Dev.repTime (d : Dev) (r : Nat) : Nat := ((d.now : Int) + (d.rep r).err).toNat

/-- The crossing latency: half the mean round trip of the last 64 pulses, and the path's calibration (R24). -/
def crossing (lats : List Nat) (cal : Int) : Int :=
  (if lats.isEmpty then 0 else (lats.foldl (· + ·) 0 / lats.length : Nat)) + cal

/-- A replica becomes unsynchronised and steps at the next pulse (R25). -/
def Dev.loseSync (d : Dev) (r : Nat) (x : Replica) : Dev :=
  let d := d.setRep r { x with sync := false, stepNext := true, slewing := false, good := 0 }
  (d.raise 23 r 0 0).setLive 23 r true

/-- A replica has seen a pulse within ±0.5 ns; the second in a row synchronises it (R25, R26). -/
def Dev.goodPulse (d : Dev) (r : Nat) (x : Replica) : Dev :=
  let n := x.good + 1
  let d' := d.setRep r { x with good := n, sync := x.sync || decide (n ≥ 2), slewing := false }
  if n ≥ 2 then d'.setLive 23 r false else d'

/-- Half a ns and four ns in units of 2^-16 ns. -/
def halfNs : Nat := 32768

/-- An alignment pulse reaches replica `r` (R24 to R26): its round trip and its count relative to the boundary value,
both in 2^-16 ns. [DEDUCED: log 8] -/
def replicaPulse (r : Nat) (roundTrip : Nat) (diff : Int) (d : Dev) : Dev :=
  let x := d.rep r
  let lats := (roundTrip / 2 :: x.lats).take 64
  let err := diff - crossing lats (Config.replicaCalibration r)
  let x := { x with lats := lats, missed := 0, remeasure := x.remeasure - 1 }
  if x.remeasure > 0 then d.setRep r { x with sync := false, loaded := false, good := 0 }
  else if !x.loaded then d.setRep r { x with loaded := true, err := 0, trim := 0, good := 1, stepNext := false }
  else if x.stepNext then d.setRep r { x with err := 0, trim := 0, good := 1, stepNext := false }
  else if absInt err ≤ halfNs then d.goodPulse r { x with err := err, trim := -err }
  else if absInt err ≤ ns 4 then
    let d' := d.setRep r { x with err := err, trim := -(clampInt err (ns 1)), good := 0, slewing := x.sync }
    if x.sync && !x.slewing then d'.raise 22 r 0 0 else d'
  else if x.sync then d.loseSync r { x with err := err }
  else d.setRep r { x with err := err, stepNext := true, good := 0 }

/-- No pulse 50 ns after the expected boundary (R25): the third in a row unsynchronises the replica. -/
def replicaPulseMissed (r : Nat) (d : Dev) : Dev :=
  let x := d.rep r
  if !x.loaded then d else
  let x := { x with missed := x.missed + 1, good := 0 }
  if x.missed = 3 ∧ x.sync then d.loseSync r x
  else if x.missed ≥ 3 then d.setRep r { x with stepNext := true }
  else d.setRep r x

/-- A link with its two spare lanes (R31). -/
def d2d0 : D2d := ⟨true, 2⟩

/-- Link `l`: 0 H–C0, 1 H–C1, 2 C0–C1. -/
def Dev.link (d : Dev) (l : Nat) : D2d := tget d2d0 d.arch.links l

/-- Replace a link. -/
def Dev.setLink (d : Dev) (l : Nat) (x : D2d) : Dev :=
  { d with arch := { d.arch with links := tput d2d0 d.arch.links l x } }

/-- A receiver finds a bad flit CRC and asks for a replay: source 384 (R29). [DEDUCED: log 121] -/
def flitCrcError (l k : Nat) (d : Dev) : Dev := d.raise 384 (2 * l + k) 0 0

/-- A region replica measures its crossing latency anew over 64 pulses (R31). [DEDUCED: log 9] -/
def Dev.remeasure (d : Dev) (r : Nat) : Dev :=
  let x := d.rep r
  let d' := d.setRep r { x with sync := false, loaded := false, good := 0, lats := [], remeasure := 64 }
  if x.sync then (d'.raise 23 r 0 0).setLive 23 r true else d'

/-- A lane fails: a spare replaces it, or the link is down and its traffic goes through the third die; the region
replicas of a die cut off from H take their pulses over the remaining path (R31). [DESIGN CHOICE: log 14] -/
def laneFailure (l k : Nat) (d : Dev) : Dev :=
  let x := d.link l
  if !x.up then d
  else if x.spares > 0 then (d.setLink l { x with spares := x.spares - 1 }).raise 385 (2 * l + k) 0 0
  else
    let d := ((d.setLink l { x with up := false }).raise 386 l 0 0).setLive 386 l true
    if l = 0 then (d.remeasure 21).remeasure 22
    else if l = 1 then (d.remeasure 23).remeasure 24 else d

end Sys2Proof.Machine
end

