-- ==== Sys2Proof/Machine/Reset.lean ====
section
/-! DEFINITION. The device at reset: Ballast power-on reset asserted and every part at its reset value (R17, R437, R480). -/
namespace Sys2Proof.Machine

/-- The endpoint after its reset (R396 to R403, R414), with its subsystem IDs loaded from object 0x7000. -/
def pcieReset (subVendor subId : Nat) (perst : Bool) : PcieSt :=
  { linkUp := false, speed := 0, width := 0, l0s := false, l1 := false, perst := perst, ready := false, command := 0,
    statusErr := 0, cacheLine := 0, bar0 := 0, bar2 := 0, bar4 := 0, subVendor := subVendor, subId := subId, intLine := 0,
    pmState := 0, msiCtl := 0, msiAddr := 0, msiData := 0, msiMask := 0, msiPend := 0, msixCtl := 0, msixTab := [],
    pba := 0, devCtl := 0x2910, devSta := 0, linkCtl := 0, devCtl2 := 0, linkCtl2 := 5, uncSta := 0,
    uncMask := 0x400000, uncSev := 0x462010, corSta := 0, corMask := 0x2000, aerCtl := 0xA0, hdrLog := [0, 0, 0, 0],
    frozen := false, cause := 0, freezes := 0, refused := 0, frNs := 0, frSec := 0, frLatch := 0, intx := false, intxPend := 0,
    mods := [], held := [], reads := [], waiting := [], reqs := [], quarantine := [], nextReq := 0, ur := 0, polls := [] }

/-- A timekeeper at Ballast power-on reset: its counter at zero, FREERUN (R74, R82). -/
def tkReset : Tk :=
  { count := 0, adjust := 0, freqEst := 0, hist := [], lastUpd := none, lockRun := 0, unlockRun := 0, oscOk := true,
    stepBy := none, offset := 0, hoSince := none, eligSince := none, trackSince := none }

/-- Timekeeping at Ballast power-on reset. -/
def timReset : TimeSt :=
  { a := tkReset, b := tkReset, holder := none, drive := .a, hOffset := 0, renewedAt := 0, missedRenewal := false,
    lastPulse := 0, pulsesMissing := 0, skip := 0, disagree := 0, diff := 0, arb := .idle, revertAt := none,
    revertOk := false, confirmed := false, lastSlew := 0, refs := [], ppsIn := [], todNext := none, todLabel := none,
    utcPtp := none, utcTod := none, utcIrig := none, utcOff := 0, leap61 := false, leap59 := false, leapAt := none,
    leapDown := false, stepFrom := 0, stepTo := 0, hoLimit := false, latch := [0, 0, 0, 0], trigIn := [], trigOut := [],
    ppsOut := [], irigLast := 0 }

/-- The fault part after its reset. -/
def fltReset : FaultSt :=
  { flying := [], sticky := 0, feValid := false, feOverflow := false, feInjected := false, feClass := 0, feSource := 0,
    feUnit := 0, feNs := 0, feSec := 0, feSynd := 0, reactions := [], resets := [], causes := [], live := [], injLeft := [],
    imbNext := 0, passStart := 0, passEnded := [] }

/-- The signal table at reset. -/
def tabReset : TableSt :=
  { segs := [], running := false, upSince := none, first := false, closed := 0, cut := 0, closing := [], pub := none,
    prev := none, lastPub := 0, recs := [], regions := [], pin := none, pinLapsed := false, pinStale := false, pinEpoch := 0,
    pinWhich := false, pinCmd := 0, pinLapses := 0, exportSeq := [] }

/-- Travelling waves at reset. -/
def waveReset : WaveSt :=
  { chans := [], events := [], opened := 0, snippets := [], sensors := [], handoff := [], logNext := 0, locNext := 0,
    located := 0, lines := [], msgs := [], senders := [] }

/-- Power controller and start-up at Ballast power-on reset; the flash is empty and every record lost. -/
def powReset : PowerSt :=
  { mainPor := true, rst := none, tkfSel := 0, testEn := false, wakeN := false, enLow := false,
    offSince := none, dozeAt := 0, dozeStage := 0, railLoss := false, waking := none, wakeCause := none, phase := 0, reason := 0,
    len := 0, due := none, cause := 1, source := 0, isOpen := false, waitFrom := none, deadline := none, window := [],
    programming := false, restart := false, lost := false, failedSlots := [], verifying := [], broken := [],
    flash := ⟨[], [], []⟩ }

/-- The device while Ballast power-on reset is asserted, nothing written: every object at its default. [DESIGN CHOICE: log 171] -/
def dev0 : Dev :=
  { fresh := 0, out := [], obj := ⟨⟨[], [], [], []⟩, [], [], [], [], [], 0, []⟩, tim := timReset, arch := ⟨[], [], [], []⟩,
    flt := fltReset, net := ⟨[], [], false, none, [], [], []⟩, host := ⟨pcieReset 0x1F3A 1 false, [], [], false⟩,
    lan := ⟨[], [], 0, [], [], []⟩, ecl := ⟨[], [], [], [], []⟩, rings := [], ing := ⟨[], [], [], []⟩, tab := tabReset,
    eng := ⟨[], [], [], [], []⟩, wave := waveReset, pow := powReset, spi := ⟨0, 0, false, 0, false, 0, false, []⟩ }

/-- The device while Ballast power-on reset is asserted (R480): all of it cleared but the flash. The levels of the pins PERST_N,
TEST_EN and WAKE_N come from outside; the transcript and the count of free values are the model's own. [DEDUCED: log 11] -/
def Dev.off (d : Dev) : Dev :=
  { dev0 with
    fresh := d.fresh, out := d.out, host := { dev0.host with pcie := pcieReset 0x1F3A 1 d.host.pcie.perst },
    pow := { powReset with flash := d.pow.flash, testEn := d.pow.testEn, wakeN := d.pow.wakeN } }

end Sys2Proof.Machine
end

