-- ==== Sys2Proof/Machine/Pcie.lean ====
section
/-! DEFINITION. The PCI Express endpoint: configuration space, errors, interrupts, reads and writes it issues, reset and
containment (R394 to R420). Register offsets and bit places that the manual leaves to the PCI Express base specification
are taken from it (PRESUMED, log 166). -/
namespace Sys2Proof.Machine

/-- Replace the endpoint. -/
def Dev.setPcie (d : Dev) (x : PcieSt) : Dev := { d with host := { d.host with pcie := x } }

/-- The default dword of the MSI-X table: the mask bit of each vector control is set. -/
def msixDflt (i : Nat) : Nat := if i % 4 = 3 then 1 else 0

/-- A dword of the MSI-X table. -/
def PcieSt.msix (x : PcieSt) (i : Nat) : Nat := tget (msixDflt i) x.msixTab i

/-- Does the endpoint issue requests: link up, not frozen, Bus Master Enable, D0, no PERST_N (R409, R415, R418)? -/
def Dev.hostUp (d : Dev) : Bool :=
  let x := d.host.pcie
  x.linkUp && !x.frozen && bit x.command 2 && x.pmState == 0 && !x.perst
    && (d.power == 2 || d.power == 4 || d.power == 6)

/-- Does a memory request reach the BARs (R410)? -/
def Dev.memOk (d : Dev) : Bool :=
  let x := d.host.pcie
  x.linkUp && !x.frozen && bit x.command 1 && x.pmState == 0 && !x.perst

/-- The time to report object 0x7000:06: 0 running, 1 frozen, 2 D3hot, 3 PERST_N asserted, 4 link down (R420). -/
def Dev.showEndpoint (d : Dev) : Dev :=
  let x := d.host.pcie
  let st := if x.perst then 3 else if x.frozen then 1 else if x.pmState = 3 then 2 else if !x.linkUp then 4 else 0
  let lim := if bit x.devCtl2 12 then 768 else if bit x.devCtl 8 then 256 else 32
  let lim := if d.get 0x700003 0 < lim then d.get 0x700003 0 else lim
  ((d.put 0x700006 0 st).put 0x700005 0 lim).put 0x700009 0 (x.speed * 256 + x.width)

/-! ### Errors (R402) -/

/-- Is the bit set in the severity register and clear in the mask (R402, R415)? -/
def PcieSt.fatalBit (x : PcieSt) (b : Nat) : Bool := bit x.uncSev b && !bit x.uncMask b

/-- The completion timeout in force (R401): 10 ms for the value 0000; the other ranges leave the value open. -/
def PcieSt.cplTimeout (x : PcieSt) : Nat :=
  if x.devCtl2 % 16 = 0 then ms 10 else Config.completionTimeout (x.devCtl2 % 16)

/-- The port freezes (R415): CAUSE and the time are latched, the freeze is counted, completions of outstanding reads will
be discarded and their tags are quarantined for the completion timeout, and source 320 is raised. A cause while frozen
changes nothing. [DEDUCED: log 138] -/
def Dev.freeze (d : Dev) (cause : Nat) : Dev :=
  let x := d.host.pcie
  if x.frozen || x.perst then d else
  let t := ts64Of d.now
  let quar := x.reads.map (fun r => (r.tag, d.now + x.cplTimeout))
  let d := d.setPcie { x with
    frozen := true, cause := cause, freezes := (x.freezes + 1) % 2 ^ 32, frNs := bits t 0 32, frSec := bits t 32 32,
    reads := [], waiting := [], quarantine := x.quarantine ++ quar, reqs := x.reqs.map (fun r => { r with lost := true, got := [] }) }
  let d := (d.raise 320 0 cause 0).setLive 320 0 true
  (d.put 0x700007 0 d.host.pcie.freezes).showEndpoint

/-- An uncorrectable error is logged (R402): its status bit, source 322, and a freeze where it is fatal and not
masked; an internal error freezes whether masked or not (R415). -/
def Dev.logUnc (d : Dev) (b : Nat) : Dev :=
  let x := d.host.pcie
  let d := d.setPcie { x with uncSta := x.uncSta ||| 2 ^ b, devSta := x.devSta ||| (if bit x.uncSev b then 4 else 2) }
  let d := d.raise 322 0 b 0
  if b = 22 then d.freeze 4 else if x.fatalBit b then d.freeze 3 else d

/-- An Unsupported Request is sent or logged (R410): `HIF_UR`, object 0x7000:08, and while frozen `CONT_REFUSED`. -/
def unsupportedRequest (memory : Bool) (d : Dev) : Dev :=
  let x := d.host.pcie
  let d := d.setPcie { x with
    ur := (x.ur + 1) % 2 ^ 32, refused := if x.frozen && memory then (x.refused + 1) % 2 ^ 32 else x.refused }
  (d.inc 0x700008 0).logUnc 20

/-- An uncorrectable ECC error in the endpoint's own buffers (R402, R415). -/
def endpointInternalError (b : Nat) (d : Dev) : Dev := d.logUnc b

/-- A correctable error (R402): its status bit and source 323. -/
def Dev.logCor (d : Dev) (b : Nat) : Dev :=
  let x := d.host.pcie
  (d.setPcie { x with corSta := x.corSta ||| 2 ^ b, devSta := x.devSta ||| 1 }).raise 323 0 b 0

/-! ### Link (R394, R395) -/

/-- The ASPM inhibition of R395: an express receive queue enabled, or a binding that names a port. -/
def Dev.aspmInhibit (d : Dev) : Bool :=
  d.host.queues.any (fun p => p.2.state == 1 && d.get 0x710001 p.1 == 2 && d.on 0x710008 p.1)
  || (d.listed 0x306002).any (fun b => d.get 0x306002 b != 0xFF)

/-- The link trains to a speed code (1 2.5, 2 5.0, 3 8.0, 4 16.0, 5 32.0 GT/s) and a width; below x16 or at 2.5 or
5.0 GT/s source 321 is raised (R394). A width under x4 does not leave Detect. -/
def linkTrained (speed width : Nat) (d : Dev) : Dev :=
  let x := d.host.pcie
  if x.perst || !(width == 16 || width == 8 || width == 4) || !(decide (1 ≤ speed) && decide (speed ≤ 5)) then d else
  let d := d.setPcie { x with linkUp := true, speed := speed, width := width, l0s := false, l1 := false }
  let slow := decide (speed ≤ 2) || width != 16
  let d := if slow then d.raise 321 0 0 0 else d
  (d.setLive 321 0 slow).showEndpoint

/-- The transmitter idle for 1 µs enters L0s where Link Control enables it and nothing inhibits it (R395). [DESIGN CHOICE: log 180] -/
def l0sEntry (d : Dev) : Dev :=
  let x := d.host.pcie
  if x.linkUp && bit x.linkCtl 0 && !d.aspmInhibit then d.setPcie { x with l0s := true } else d

/-- Both directions idle for 32 µs with nothing outstanding: the link enters L1 (R395, R418). -/
def l1Entry (d : Dev) : Dev :=
  let x := d.host.pcie
  if x.linkUp && ((bit x.linkCtl 1 && !d.aspmInhibit && x.reads.isEmpty && x.held.isEmpty) || x.pmState == 3) then
    d.setPcie { x with l1 := true } else d

/-! ### Interrupts (R412, R413) -/

/-- The interrupt mode: 0 none, 1 INTx, 2 MSI, 3 MSI-X (R412). -/
def PcieSt.intMode (x : PcieSt) : Nat :=
  if bit x.msixCtl 15 then 3 else if bit x.msiCtl 0 then 2 else if !bit x.command 10 then 1 else 0

/-- The MSI message of a vector: v mod 2^m (R412). [DEDUCED: log 157] -/
def PcieSt.msiNumber (x : PcieSt) (v : Nat) : Nat := v % 2 ^ bits x.msiCtl 4 3

/-- INTA follows the pending bits in the INTx mode, while the endpoint sends messages (R412, R415). -/
def Dev.driveIntx (d : Dev) : Dev :=
  let x := d.host.pcie
  let want := x.intMode == 1 && x.intxPend != 0
  if want == x.intx || !d.hostUp then d else (d.setPcie { x with intx := want }).emit (.intx want)

/-- A message on a vector is sent, or kept pending: held while the endpoint issues nothing, in the PBA or the Pending
Bits while masked, in `INTX_PEND` under INTx or mode none (R412, R415). -/
def Dev.sendMessage (d : Dev) (v : Nat) : Dev :=
  let x := d.host.pcie
  let count := fun (d : Dev) (addr data : Nat) => (d.inc 0x700102 v).emit (.interrupt v addr data)
  if x.intMode = 3 then
    if bit x.msixCtl 14 || bit (x.msix (4 * v + 3)) 0 then d.setPcie { x with pba := x.pba ||| 2 ^ v }
    else if !d.hostUp then d.setPcie { x with held := if v ∈ x.held then x.held else x.held ++ [v] }
    else count d (x.msix (4 * v) + x.msix (4 * v + 1) * 2 ^ 32) (x.msix (4 * v + 2))
  else if x.intMode = 2 then
    let m := x.msiNumber v
    if bit x.msiMask m then d.setPcie { x with msiPend := x.msiPend ||| 2 ^ m }
    else if !d.hostUp then d.setPcie { x with held := if v ∈ x.held then x.held else x.held ++ [v] }
    else count d x.msiAddr (x.msiData / 2 ^ bits x.msiCtl 4 3 * 2 ^ bits x.msiCtl 4 3 + m)
  else (d.setPcie { x with intxPend := x.intxPend ||| 2 ^ v }).driveIntx

/-- A vector's moderation before any message. -/
def moderation0 : Moderation := ⟨0, false⟩

/-- A queue requests an interrupt on a vector: within the moderation interval of the last message it merges (R413). -/
def Dev.requestInt (d : Dev) (v : Nat) : Dev :=
  if v = 0xFFFF then d else
  let m := tget moderation0 d.host.pcie.mods v
  let iv := ns (d.get 0x700101 v)
  if d.now < m.until_ ∧ iv > 0 then
    (d.setPcie { d.host.pcie with
      mods := tput moderation0 d.host.pcie.mods v { m with merged := true } }).inc 0x700103 v
  else
    (d.setPcie { d.host.pcie with
      mods := tput moderation0 d.host.pcie.mods v ⟨if iv > 0 then d.now + iv else 0, false⟩ }).sendMessage v

/-- A vector's moderation interval ends: the merged message is sent (R413). -/
def moderationEnd (v : Nat) (d : Dev) : Dev :=
  let m := tget moderation0 d.host.pcie.mods v
  let d := if m.until_ > 0 then d.at_ m.until_ else d
  if m.merged then
    (d.setPcie { d.host.pcie with
      mods := tput moderation0 d.host.pcie.mods v ⟨d.now + ns (d.get 0x700101 v), false⟩ }).sendMessage v
  else d.setPcie { d.host.pcie with mods := tput moderation0 d.host.pcie.mods v moderation0 }

/-- Send the messages whose vectors are pending and no longer masked (R412). -/
def Dev.flushPending (d : Dev) : Dev :=
  let x := d.host.pcie
  if !d.hostUp then d else
  let d := d.driveIntx
  if x.intMode = 3 then
    if bit x.msixCtl 14 then d else
    (List.range 2048).foldl (fun d v =>
      if bit d.host.pcie.pba v && !bit (d.host.pcie.msix (4 * v + 3)) 0 then
        (d.setPcie { d.host.pcie with pba := setBit d.host.pcie.pba v false }).sendMessage v
      else d) d
  else if x.intMode = 2 then
    (List.range 32).foldl (fun d m =>
      if bit d.host.pcie.msiPend m && !bit d.host.pcie.msiMask m then
        (d.setPcie { d.host.pcie with msiPend := setBit d.host.pcie.msiPend m false }).sendMessage m
      else d) d
  else d

/-- The messages held while the endpoint could issue nothing are sent (R417). -/
def Dev.releaseHeld (d : Dev) : Dev :=
  if d.hostUp then
    d.host.pcie.held.foldl (fun d v => d.sendMessage v) (d.setPcie { d.host.pcie with held := [] })
  else d

/-- A W1C write of `INTX_PENDk` (R412, R419). -/
def intxPendClear (k mask : Nat) (d : Dev) : Dev :=
  let x := d.host.pcie
  (d.setPcie { x with intxPend := clearBits x.intxPend ((mask % 2 ^ 32) * 2 ^ (32 * (k % 64))) }).driveIntx

/-- Unmask an MSI or MSI-X vector: its pending message is sent (R412). -/
def vectorUnmask (v : Nat) (d : Dev) : Dev :=
  let x := d.host.pcie
  let d := if x.intMode = 3 then
      d.setPcie { x with msixTab := tput (msixDflt (4 * v + 3)) x.msixTab (4 * v + 3) (setBit (x.msix (4 * v + 3)) 0 false) }
    else if x.intMode = 2 then d.setPcie { x with msiMask := setBit x.msiMask (v % 32) false } else d
  d.flushPending

/-! ### Requests the endpoint issues (R406 to R408) -/

/-- Split a range at a maximum length and at every 4 KiB boundary (R407): offsets and lengths; `fuel` bounds the parts. -/
def splitRange (addr max : Nat) : Nat → Nat → Nat → List (Nat × Nat)
  | 0, _, _ => []
  | fuel + 1, off, left =>
    if left = 0 then [] else
    let a := addr + off
    let page := 4096 - a % 4096
    let n := if left < max then left else max
    let n := if page < n then page else n
    let n := if n = 0 then left else n
    (off, n) :: splitRange addr max fuel (off + n) (left - n)

/-- Max_Payload_Size and Max_Read_Request_Size in force, in bytes (R401). -/
def PcieSt.mps (x : PcieSt) : Nat := let c := bits x.devCtl 5 3; if c ≤ 2 then 128 * 2 ^ c else 512
def PcieSt.mrrs (x : PcieSt) : Nat := let c := bits x.devCtl 12 3; if c ≤ 5 then 128 * 2 ^ c else 4096

/-- The endpoint writes host memory (R407, R408). -/
def Dev.hostWrite (d : Dev) (addr : Nat) (bs : List Byte) : Dev :=
  (splitRange addr d.host.pcie.mps (bs.length + 1) 0 bs.length).foldl
    (fun d p => d.emit (.hostWrite (addr + p.1) (slice bs p.1 p.2))) d

/-- The outstanding read limit in force (R406). [DEDUCED: log 136] -/
def Dev.tagLimit (d : Dev) : Nat :=
  let x := d.host.pcie
  let host := if bit x.devCtl2 12 then 768 else if bit x.devCtl 8 then 256 else 32
  if d.get 0x700003 0 < host then d.get 0x700003 0 else host

/-- The tags in use or quarantined. -/
def PcieSt.busyTags (x : PcieSt) : List Nat := x.reads.map (·.tag) ++ x.quarantine.map (·.1)

/-- How many more reads may be outstanding for an Orrery poll or another read (R406): the reservation is kept for the
Orrery where the limit is above it. -/
def Dev.tagRoom (d : Dev) (orrery : Bool) : Nat :=
  let x := d.host.pcie
  let lim := d.tagLimit
  let keep := d.get 0x700004 0
  let used := x.busyTags.length
  let others := used - (x.reads.filter (·.orrery)).length
  if orrery || decide (lim ≤ keep) || decide (keep ≤ used - others) then lim - used else lim - keep - others

/-- The first free tag of the tags that the host enabled (R406). -/
def PcieSt.freeTag (x : PcieSt) : Nat :=
  let base := if bit x.devCtl2 12 then 256 else 0
  let busy := x.busyTags
  match (List.range 768).find? (fun i => !busy.contains (base + i)) with
  | some i => base + i
  | none => base

/-- Issue the parts that wait, while the endpoint may issue requests and tags are free; parts of a request that is gone are
dropped. `fuel` bounds them (R406, R409). -/
def Dev.issueParts : Nat → Dev → Dev
  | 0, d => d
  | n + 1, d =>
    let x := d.host.pcie
    let x := { x with waiting := x.waiting.filter (fun r => x.reqs.any (fun q => q.id == r.req)) }
    match if d.hostUp then x.waiting.find? (fun r => decide (0 < d.tagRoom r.orrery)) else none with
    | none => d.setPcie x
    | some r =>
      let t := x.freeTag
      Dev.issueParts n ((d.setPcie { x with waiting := x.waiting.erase r, reads := x.reads ++ [{ r with tag := t }] }).emit
        (.hostRead r.addr r.len t))

/-- Issue every part that may go. -/
def Dev.issueReads (d : Dev) : Dev := d.issueParts d.host.pcie.waiting.length

/-- One whole read, split into parts, each with a tag of its own; parts that find no tag wait (R406, R407). -/
def Dev.hostRead (d : Dev) (what : ReadFor) (addr len : Nat) (orrery : Bool) : Dev :=
  let x := d.host.pcie
  let id := x.nextReq
  let parts := (splitRange addr x.mrrs (len + 1) 0 len).map (fun p => ⟨0, id, addr + p.1, p.2, p.1, orrery⟩)
  (d.setPcie { x with
    nextReq := id + 1, reqs := x.reqs ++ [⟨id, what, addr, len, [], false⟩], waiting := x.waiting ++ parts }).issueReads

/-- Issue again the reads that a freeze lost (R417). -/
def Dev.reissue (d : Dev) : Dev :=
  let lost := d.host.pcie.reqs.filter (·.lost)
  let d := d.setPcie { d.host.pcie with reqs := d.host.pcie.reqs.filter (fun r => !r.lost) }
  lost.foldl (fun d r => d.hostRead r.what r.addr r.len false) d

/-- A quarantined tag may be used again (R415); time is brought to the end of its quarantine. -/
def tagQuarantineEnd (d : Dev) : Dev :=
  match d.host.pcie.quarantine with
  | [] => d
  | (_, t) :: _ =>
    let d := d.at_ t
    let now := d.now
    (d.setPcie { d.host.pcie with quarantine := d.host.pcie.quarantine.filter (fun x => decide (now < x.2)) }).issueReads

/-- RELEASE_READY (R417). -/
def Dev.releaseReady (d : Dev) : Bool :=
  let x := d.host.pcie
  x.frozen && x.linkUp && bit x.command 1 && bit x.command 2 && (x.uncSta &&& x.uncSev &&& (0xFFFFFFFF ^^^ x.uncMask)) == 0

/-- A release ends the freeze: reads not completed are issued again, pending messages follow (R417). -/
def contRelease (d : Dev) : Dev :=
  if d.releaseReady then
    let d := (d.setPcie { d.host.pcie with frozen := false }).setLive 320 0 false
    ((d.showEndpoint).reissue).releaseHeld.flushPending
  else d

/-- The data link layer reports DL_Down: link status follows, and the port freezes with cause 1 (R415). -/
def dlDown (d : Dev) : Dev :=
  let d := d.freeze 1
  (d.setPcie { d.host.pcie with linkUp := false, l0s := false, l1 := false }).showEndpoint

/-- A hot reset freezes the port with cause 2 and resets nothing (R415). -/
def hotReset (d : Dev) : Dev := d.freeze 2

/-- `CONT_CTRL.FREEZE` freezes the port with cause 5 (R403). -/
def testFreeze (d : Dev) : Dev := d.freeze 5

/-- `CONT_STATUS` (R403). -/
def Dev.contStatus (d : Dev) : Nat :=
  let x := d.host.pcie
  let q := if x.quarantine.length < 255 then x.quarantine.length else 255
  b2n x.frozen * 2 ^ 31 + b2n d.releaseReady * 2 ^ 30 + x.cause * 2 ^ 24 + q * 2 ^ 16

/-- `HIF_STATE` (R419). -/
def Dev.hifState (d : Dev) : Nat :=
  let x := d.host.pcie
  b2n (d.power == 4) * 2 ^ 31 + x.speed * 2 ^ 27 + x.width * 2 ^ 22 + b2n d.aspmInhibit * 2 ^ 21 + x.intMode * 2 ^ 19

/-! ### Configuration space (R396 to R403) -/

/-- A configuration register's dword by its offset. [PRESUMED: log 166] -/
def Dev.cfgRead (d : Dev) (off : Nat) : Nat :=
  let x := d.host.pcie
  if off = 0x00 then 0x51201F3A
  else if off = 0x04 then x.command + (x.statusErr + 0x10 + (if x.intx then 8 else 0)) * 65536
  else if off = 0x08 then 0x02800011
  else if off = 0x0C then x.cacheLine
  else if off = 0x10 then bits x.bar0 0 32 + 4
  else if off = 0x14 then bits x.bar0 32 32
  else if off = 0x18 then bits x.bar2 0 32 + 0xC
  else if off = 0x1C then bits x.bar2 32 32
  else if off = 0x20 then bits x.bar4 0 32 + 4
  else if off = 0x24 then bits x.bar4 32 32
  else if off = 0x2C then x.subVendor + x.subId * 65536
  else if off = 0x34 then 0x40
  else if off = 0x3C then x.intLine + 0x100
  else if off = 0x40 then 0x00035001
  else if off = 0x44 then x.pmState + 8
  else if off = 0x50 then 0x05 + 0x7000 + (0x018A + x.msiCtl) * 65536
  else if off = 0x54 then bits x.msiAddr 0 32
  else if off = 0x58 then bits x.msiAddr 32 32
  else if off = 0x5C then x.msiData
  else if off = 0x60 then x.msiMask
  else if off = 0x64 then x.msiPend
  else if off = 0x70 then 0x11 + 0x8000 + (0x7FF + x.msixCtl) * 65536
  else if off = 0x74 then 4
  else if off = 0x78 then 0x8004
  else if off = 0x80 then 0x00020010
  else if off = 0x84 then 2 + 0x20 + 4 * 64 + 3 * 512 + 0x8000
  else if off = 0x88 then x.devCtl + x.devSta * 65536
  else if off = 0x8C then 5 + 16 * 16 + 3 * 1024 + 3 * 4096 + 3 * 32768 + 0x400000
  else if off = 0x90 then x.linkCtl + (x.speed + x.width * 16 + 0x1000) * 65536
  else if off = 0xA4 then 0x0F + 0x10 + 0x10000 + 0x20000
  else if off = 0xA8 then x.devCtl2
  else if off = 0xAC then 0x3E
  else if off = 0xB0 then x.linkCtl2
  else if off = 0x100 then 0x0001 + 0x20000 + 0x148 * 0x100000
  else if off = 0x104 then x.uncSta
  else if off = 0x108 then x.uncMask
  else if off = 0x10C then x.uncSev
  else if off = 0x110 then x.corSta
  else if off = 0x114 then x.corMask
  else if off = 0x118 then x.aerCtl
  else if 0x11C ≤ off ∧ off < 0x12C ∧ off % 4 = 0 then x.hdrLog.getD ((off - 0x11C) / 4) 0
  else if off = 0x148 then 0x0019 + 0x10000 + 0x178 * 0x100000
  else if off = 0x178 then 0x0026 + 0x10000 + 0x1A8 * 0x100000
  else if off = 0x1A8 then 0x002A + 0x10000 + 0x1D8 * 0x100000
  else if off = 0x1D8 then 0x0027 + 0x10000 + 0x220 * 0x100000
  else if off = 0x220 then 0x000B + 0x10000
  else if off = 0x224 then 0x0001 + 0x10000 + 0x020 * 0x100000
  else if off = 0x228 then d.contStatus
  else if off = 0x230 then x.freezes
  else if off = 0x234 then x.refused
  else if off = 0x238 then x.frNs
  else if off = 0x23C then x.frLatch
  else 0

/-- Merge written bytes into a dword under its four byte enables. -/
def mergeBe (old new be : Nat) : Nat :=
  (List.range 4).foldl (fun a i => a + (if bit be i then bits new (8 * i) 8 else bits old (8 * i) 8) * 2 ^ (8 * i)) 0

/-- A write of PMCSR: D0 or D3hot; other values are ignored; the return to D0 resumes without a release (R398, R418). -/
def Dev.writePm (d : Dev) (v : Nat) : Dev :=
  let s := v % 4
  if s = 0 then (d.setPcie { d.host.pcie with pmState := 0 }).showEndpoint.releaseHeld.flushPending
  else if s = 3 then (d.setPcie { d.host.pcie with pmState := 3 }).showEndpoint
  else d

/-- A configuration write of one dword, byte enables applied (R396 to R403). -/
def Dev.cfgWrite (d : Dev) (off v0 be : Nat) : Dev :=
  let x := d.host.pcie
  let v := mergeBe (d.cfgRead off) v0 be
  let w := mergeBe 0 v0 be
  if off = 0x04 then
    let d := d.setPcie { x with command := v &&& 0x0546, statusErr := clearBits x.statusErr (w / 65536) }
    d.driveIntx.releaseHeld.flushPending
  else if off = 0x0C then d.setPcie { x with cacheLine := v % 256 }
  else if off = 0x10 then d.setPcie { x with bar0 := bits x.bar0 32 32 * 2 ^ 32 + (bits v 26 6) * 2 ^ 26 }
  else if off = 0x14 then d.setPcie { x with bar0 := bits x.bar0 0 32 + v * 2 ^ 32 }
  else if off = 0x18 then d.setPcie { x with bar2 := bits x.bar2 32 32 * 2 ^ 32 + (bits v 30 2) * 2 ^ 30 }
  else if off = 0x1C then d.setPcie { x with bar2 := bits x.bar2 0 32 + v * 2 ^ 32 }
  else if off = 0x20 then d.setPcie { x with bar4 := bits x.bar4 32 32 * 2 ^ 32 + (bits v 16 16) * 2 ^ 16 }
  else if off = 0x24 then d.setPcie { x with bar4 := bits x.bar4 0 32 + v * 2 ^ 32 }
  else if off = 0x3C then d.setPcie { x with intLine := v % 256 }
  else if off = 0x44 then (if bit be 0 then d.writePm v else d)
  else if off = 0x50 then (d.setPcie { x with msiCtl := (v / 65536) &&& 0x71 }).driveIntx.flushPending
  else if off = 0x54 then d.setPcie { x with msiAddr := bits x.msiAddr 32 32 * 2 ^ 32 + v / 4 * 4 }
  else if off = 0x58 then d.setPcie { x with msiAddr := bits x.msiAddr 0 32 + v * 2 ^ 32 }
  else if off = 0x5C then d.setPcie { x with msiData := v % 65536 }
  else if off = 0x60 then (d.setPcie { x with msiMask := v }).flushPending
  else if off = 0x70 then (d.setPcie { x with msixCtl := (v / 65536) &&& 0xC000 }).driveIntx.flushPending
  else if off = 0x88 then
    let p := bits v 5 3
    let r := bits v 12 3
    let ctl := (v &&& 0x091F) + (if p ≤ 2 then p else bits x.devCtl 5 3) * 32 + (if r ≤ 5 then r else bits x.devCtl 12 3) * 4096
    (d.setPcie { x with devCtl := ctl, devSta := clearBits x.devSta (w / 65536 &&& 15) }).showEndpoint
  else if off = 0x90 then d.setPcie { x with linkCtl := v &&& 0x4B }
  else if off = 0xA8 then (d.setPcie { x with devCtl2 := v &&& 0x101F }).showEndpoint
  else if off = 0xB0 then d.setPcie { x with linkCtl2 := v &&& 0x0F }
  else if off = 0x104 then d.setPcie { x with uncSta := clearBits x.uncSta w }
  else if off = 0x108 then d.setPcie { x with uncMask := v &&& 0x7FF030 }
  else if off = 0x10C then d.setPcie { x with uncSev := v &&& 0x7FF030 }
  else if off = 0x110 then d.setPcie { x with corSta := clearBits x.corSta w }
  else if off = 0x114 then d.setPcie { x with corMask := v &&& 0xF1C1 }
  else if off = 0x118 then d.setPcie { x with aerCtl := 0xA0 + (v &&& 0x140) }
  else if off = 0x22C then
    (if bit w 30 then (let d := if bit w 31 then contRelease d else d; testFreeze d)
     else if bit w 31 then contRelease d else d)
  else if off = 0x230 then (d.setPcie { x with freezes := v }).put 0x700007 0 v
  else if off = 0x234 then d.setPcie { x with refused := v }
  else d

/-- A configuration request (R396, R414): while the endpoint is not ready it completes with Configuration Request Retry
Status; a read's dword, or a write's effect, otherwise. -/
def configRequest (write : Bool) (off value be : Nat) (d : Dev) : Dev :=
  let x := d.host.pcie
  if x.perst || !x.linkUp then d
  else if !x.ready then d.emit (.completion 2 [])
  else if write then (d.cfgWrite (off / 4 * 4) value be).emit (.completion 0 [])
  else
    let d := if off / 4 * 4 = 0x238 then d.setPcie { x with frLatch := x.frSec } else d
    d.emit (.config (d.cfgRead (off / 4 * 4)))

/-- A read completion's part is taken out of the outstanding reads: the part, or none for an unexpected completion. -/
def Dev.takePart (d : Dev) (tag : Nat) : Option HostRead := d.host.pcie.reads.find? (fun r => r.tag == tag)

/-- The bytes of a whole read once every part has come, in order of offset. -/
def ReadReq.whole (r : ReadReq) : Option (List Byte) :=
  let n := r.got.foldl (fun a p => a + p.2.length) 0
  if n < r.len then none
  else some (r.got.foldl (fun (a : List Byte) p => splice (padTo r.len a) p.1 p.2) [] |>.take r.len)

end Sys2Proof.Machine
end

