-- ==== Sys2Proof/Machine/Queues.lean ====
section
/-! DEFINITION. Descriptor rings: states, polls, entries, completion, receive delivery, event records, export blocks, and
the hub buffer's cells (R266, R267, R421 to R449). -/
namespace Sys2Proof.Machine

/-- Replace the host part. -/
def Dev.setHost (d : Dev) (x : HostSt) : Dev := { d with host := x }

/-- A queue at reset (R437). -/
def queue0 : Queue :=
  { state := 0, cmd := 0, base := 0, mirror := 0, log2 := 0, start := 0, head := 0, fin := 0, next := 0, latch := 0,
    cfgRefused := false, attRefused := false, err := 0, late := 0, drops := 0, done := 0, entries := [], unann := 0,
    oldest := none, due := none, deadline := 0, orrery := none, served := 0, rx := [], ev := [], gap := 0, lost := false,
    seq := 0, fetched := 0, finished := 0, abandoned := 0, blocks := [], lateIdx := [] }

/-- Queue `q`. -/
def Dev.queue (d : Dev) (q : Nat) : Queue := tget queue0 d.host.queues q

/-- Replace queue `q`; its state, latched index and error code show in object 0x7110. -/
def Dev.setQueue (d : Dev) (q : Nat) (x : Queue) : Dev :=
  ((d.setHost { d.host with queues := tput queue0 d.host.queues q x }).put 0x711002 q x.state
    |>.put 0x711003 q (x.latch % 2 ^ 32)).put 0x711004 q x.err

/-- A queue's class: 0 none, 1 transmit, 2 receive, 3 event, 4 export (R421). -/
def Dev.qClass (d : Dev) (q : Nat) : Nat := d.get 0x710001 q

/-- Queue states (R437). -/
def qDetached : Nat := 0
def qActive : Nat := 1
def qStopping : Nat := 2
def qError : Nat := 3

/-- Is the queue named as an own-slot queue of object 0x4000:10? -/
def Dev.ownSlotOf (d : Dev) (q : Nat) : Option Nat := [0, 1].find? (fun r => d.get 0x400010 r == q)

/-- The binding of object 0x3060 that names the queue, if any. -/
def Dev.bindingOf (d : Dev) (q : Nat) : Option Nat :=
  (d.listed 0x306002).find? (fun b => d.get 0x306002 b != 0xFF && d.get 0x306001 b == q)

/-- Is the queue polled by the Orrery or by the ring instead of by its interval (R169, R218)? -/
def Dev.polledElsewhere (d : Dev) (q : Nat) : Bool := (d.bindingOf q).isSome || (d.ownSlotOf q).isSome

/-- Does the queue have the express property (R450)? -/
def Dev.express (d : Dev) (q : Nat) : Bool := d.qClass q == 2 && d.on 0x710008 q

/-! ### Hub buffer cells (R266, R267) -/

/-- The cells of 128 bytes that a length takes. -/
def cellsFor (len : Nat) : Nat := if len = 0 then 1 else (len + 127) / 128

/-- The owner number of DMA staging, and of queue `q`'s copies. -/
def ownerStaging : Nat := 99
def ownerQueue (q : Nat) : Nat := 1000 + q

/-- An owner's reservation (R266). -/
def Dev.reservation (d : Dev) (owner : Nat) : Nat :=
  if owner < 21 then d.get 0x614201 owner
  else if owner = ownerStaging then 65536
  else d.get 0x71000A (owner - 1000)

/-- The sum of all reservations in force: every port's, and every enabled receive queue's (R266). -/
def Dev.reservedSum (d : Dev) : Nat :=
  (List.range 21).foldl (fun a p => a + d.get 0x614201 p) 0
  + d.host.queues.foldl (fun a p => if p.2.state ≠ 0 ∧ d.qClass p.1 = 2 then a + d.get 0x71000A p.1 else a) 0

/-- The cells in use beyond their owners' reservations: the shared pool's use. -/
def Dev.sharedUsed (d : Dev) : Nat :=
  d.host.cells.foldl (fun a p => if p.1 = ownerStaging then a else a + (p.2 - d.reservation p.1)) 0

/-- All cells in use (ledger 11). -/
def Dev.cellsUsed (d : Dev) : Nat := d.host.cells.foldl (fun a p => a + p.2) 0

/-- Take cells for an owner, from its reservation first, then from the shared pool; none where neither has them (R267). -/
def Dev.takeCells (d : Dev) (owner n : Nat) : Option Dev :=
  let used := tget 0 d.host.cells owner
  let res := d.reservation owner
  let d' := d.setHost { d.host with cells := tput 0 d.host.cells owner (used + n) }
  if owner = ownerStaging then (if used + n ≤ res then some d' else none)
  else
    let extra := (used + n - res) - (used - res)
    if extra = 0 ∨ d.sharedUsed + extra + d.reservedSum ≤ 458752 then some d' else none

/-- Free an owner's cells. -/
def Dev.freeCells (d : Dev) (owner n : Nat) : Dev :=
  d.setHost { d.host with cells := tput 0 d.host.cells owner (tget 0 d.host.cells owner - n) }

/-! ### Completion (R424, R425, R446) -/

/-- A drop for the queue is counted (R431, R434, R437). -/
def Dev.countDrop (d : Dev) (q : Nat) : Dev :=
  let x := d.queue q
  (d.setQueue q { x with
    drops := (x.drops + 1) % 2 ^ 32, gap := if x.gap < 0xFFFFFFFF then x.gap + 1 else x.gap, lost := true }).inc 0x711006 q

/-- The address of an entry: base + 32 × (k mod 2^n) (R423). -/
def Queue.entryAddr (x : Queue) (k : Nat) : Nat := x.base + 32 * (k % 2 ^ x.log2)

/-- Write the head mirror and request the interrupt (R425, R446). -/
def Dev.announce (d : Dev) (q : Nat) : Dev :=
  let x := d.queue q
  if x.unann = 0 || !d.hostUp then d else
  let d := d.hostWrite x.mirror (leBytes 4 x.fin)
  (d.setQueue q { x with head := x.fin % 2 ^ 32, unann := 0, oldest := none }).requestInt (d.get 0x710007 q)

/-- Count the finished entries at the front of the ring into the head index, in ring order (R425). -/
def popDone (now : Nat) : Queue → List QEntry → Queue
  | x, [] => { x with entries := [] }
  | x, e :: t =>
    if e.phase = .written then
      popDone now { x with
        fin := (x.fin + 1) % 2 ^ 32, done := (x.done + 1) % 2 ^ 32, unann := x.unann + 1, finished := x.finished + 1,
        oldest := some (x.oldest.getD now) } t
    else { x with entries := e :: t }

/-- Advance the head index over the entries written back, and announce when the coalescing rule says so (R446). -/
def Dev.advanceHead (d : Dev) (q : Nat) : Dev :=
  let x := d.queue q
  let y := popDone d.now x x.entries
  let d := (d.setQueue q y).add 0x711007 q (y.finished - x.finished)
  if d.express q || decide (y.unann ≥ d.get 0x710005 q) || d.get 0x710006 q == 0
      || (y.state == qStopping && y.entries.isEmpty) then d.announce q else d

/-- Mark the entry of an index. -/
def markEntry (idx : Nat) (f : QEntry → QEntry) (l : List QEntry) : List QEntry :=
  l.map (fun e => if e.idx = idx then f e else e)

/-- Write entry `idx` back with 32 bytes: it is written in one write, OWN clear (R424). -/
def Dev.writeBack (d : Dev) (q idx : Nat) (bs : List Byte) : Dev :=
  let x := d.queue q
  let d := d.hostWrite (x.entryAddr idx) bs
  (d.setQueue q { x with entries := markEntry idx (fun e => { e with phase := .written }) x.entries }).advanceHead q

/-- A transmit entry's write-back: OWN clear and RESULT (R426). -/
def txBack (e : QEntry) : List Byte :=
  let dw := leAt e.raw 0 4
  splice (leBytes 4 (setBit dw 31 false) ++ e.raw.drop 4) 28
    (leBytes 4 (e.res1.getD 0 + (if bit dw 29 then e.res2.getD 0 else 0xFF) * 256))

/-- Write back every transmit entry whose outcome is known, while the endpoint issues requests (R416, R427). -/
def Dev.settleTx (d : Dev) (q : Nat) : Dev :=
  if d.hostUp then
    (d.queue q).entries.foldl (fun d e => if e.phase = .done then d.writeBack q e.idx (txBack e) else d) d
  else d

/-- A transmit entry's outcome on PORT (`second` false) or PORT2 (R427); with all its ports settled it finishes. -/
def Dev.txOutcome (d : Dev) (q idx : Nat) (second : Bool) (code : Nat) : Dev :=
  let x := d.queue q
  let upd := fun (e : QEntry) =>
    let e := if second then { e with res2 := some (e.res2.getD code) } else { e with res1 := some (e.res1.getD code) }
    let dual := bit (leAt e.raw 0 4) 29
    if e.res1.isSome && (!dual || e.res2.isSome) && e.phase != .written then { e with phase := .done } else e
  (d.setQueue q { x with entries := markEntry idx upd x.entries }).settleTx q

/-! ### Receive delivery (R429 to R431) -/

/-- The first entry in stock. -/
def Queue.stockEntry (x : Queue) : Option QEntry := x.entries.find? (fun e => e.phase == .stock)

/-- The entries in stock. -/
def Queue.stock (x : Queue) : Nat := (x.entries.filter (fun e => e.phase == .stock)).length

/-- A receive entry's write-back (R429). -/
def rxBack (e : QEntry) (w : RxWait) (gap : Nat) : List Byte :=
  leBytes 4 (w.flags + w.bytes.length) ++ leBytes 4 w.stream ++ slice e.raw 8 8 ++ leBytes 8 (ts64Of w.time)
    ++ leBytes 2 w.frac ++ leBytes 2 w.slot ++ leBytes 4 gap

/-- Write one waiting frame into a stocked entry: its data, then the write-back (R408, R431). -/
def Dev.rxWrite (d : Dev) (q : Nat) (e : QEntry) (w : RxWait) : Dev :=
  let d := d.hostWrite (leAt e.raw 8 8) w.bytes
  let gap := (d.queue q).gap
  let d := d.setQueue q { d.queue q with gap := 0 }
  (d.writeBack q e.idx (rxBack e w gap)).freeCells (ownerQueue q) w.cells

/-- Deliver the frames that wait while entries are in stock; `fuel` bounds the frames. -/
def Dev.serveRx (q : Nat) : Nat → Dev → Dev
  | 0, d => d
  | n + 1, d =>
    let x := d.queue q
    if !d.hostUp then d else
    match x.rx, x.stockEntry with
    | w :: t, some e => Dev.serveRx q n ((d.setQueue q { x with rx := t }).rxWrite q e w)
    | _, _ => d

/-- The queue's pending poll is brought forward: it falls due at once (R443). -/
def Dev.pollNow (d : Dev) (q : Nat) : Dev :=
  let x := d.queue q
  let dl := d.now + us (d.get 0x710002 q)
  let dl := if x.due.isSome ∧ x.deadline < dl then x.deadline else dl
  if x.state = qActive && !d.polledElsewhere q then d.setQueue q { x with due := some d.now, deadline := dl } else d

/-- A frame, slot or record reaches a receive queue (R431): dropped whole when the queue is not ACTIVE, when it is longer
than the maximum, or when its copy cannot be charged (R267); written at once into a stocked entry; otherwise it waits and
the poll is brought forward. [DEDUCED: log 140] -/
def Dev.rxDeliver (d : Dev) (q : Nat) (bytes : List Byte) (flags stream time slot : Nat) : Dev :=
  if q ≥ 262144 then d else
  let x := d.queue q
  if x.state ≠ qActive || decide (bytes.length > d.get 0x710009 q) then d.countDrop q else
  let n := cellsFor bytes.length
  match d.takeCells (ownerQueue q) n with
  | none => d.countDrop q
  | some d =>
    let w : RxWait := ⟨bytes, flags, stream, time, time % 65536, slot, d.now, n⟩
    let d := Dev.serveRx q (x.rx.length + 1) (d.setQueue q { d.queue q with rx := x.rx ++ [w] })
    if (d.queue q).rx.isEmpty then d else d.pollNow q

/-- A frame still waiting when its hold time passes is dropped whole and counted (R431); not while frozen (R416). -/
def rxHoldTimeout (q : Nat) (d : Dev) : Dev :=
  let x := d.queue q
  match x.rx with
  | [] => d
  | w :: t =>
    if d.host.pcie.frozen then d else
    let d := d.at_ (w.since + us (d.get 0x71000B q))
    ((d.setQueue q { d.queue q with rx := t }).freeCells (ownerQueue q) w.cells).countDrop q

/-! ### Event records (R433, R434) -/

/-- The 32-byte event record (R433). -/
def eventBytes (e : EvWait) (lost : Bool) (seq : Nat) : List Byte :=
  leBytes 4 (b2n e.unsync * 2 ^ 30 + b2n e.conseq * 2 ^ 29 + b2n lost * 2 ^ 28 + srcClass e.src * 2 ^ 25 + e.src % 512)
    ++ leBytes 4 e.unit ++ leBytes 2 e.code ++ leBytes 2 e.time ++ leBytes 8 (ts64Of e.time) ++ leBytes 8 e.detail
    ++ leBytes 4 seq

/-- Write the held records while entries are in stock; `fuel` bounds the records. -/
def Dev.serveEv (q : Nat) : Nat → Dev → Dev
  | 0, d => d
  | n + 1, d =>
    let x := d.queue q
    if !d.hostUp then d else
    match x.ev, x.stockEntry with
    | e :: t, some s =>
      let seq := (x.seq + 1) % 2 ^ 32
      Dev.serveEv q n ((d.setQueue q { x with ev := t, seq := seq, lost := false }).writeBack q s.idx
        (eventBytes e x.lost seq))
    | _, _ => d

/-- A record goes to the event queue named for its source in object 0x7120 (R434). [DEDUCED: log 141] -/
def Dev.eventDeliver (d : Dev) (e : EvWait) : Dev :=
  let q := d.get 0x712001 e.src
  if q ≥ 262144 then d else
  let x := d.queue q
  if x.state ≠ qActive then d.countDrop q
  else if x.ev.length ≥ 64 then d.countDrop q
  else
    let d := Dev.serveEv q (x.ev.length + 1) (d.setQueue q { x with ev := x.ev ++ [e] })
    if (d.queue q).ev.isEmpty then d else d.pollNow q

/-! ### Export blocks (R435, R436) -/

/-- The buffer length of an export entry. -/
def exportLen (e : QEntry) : Nat := leAt e.raw 4 4

/-- The stocked entries that a block of `len` bytes takes, in ring order, and whether they suffice. -/
def takeBuffers (len : Nat) : List QEntry → List QEntry × Bool
  | [] => ([], decide (len = 0))
  | e :: t =>
    if len = 0 then ([], true)
    else if e.phase = .stock then
      let r := takeBuffers (len - exportLen e) t
      (e :: r.1, r.2)
    else takeBuffers len t

/-- The write-back of one entry of a block (R435). -/
def exportBack (e : QEntry) (b : Block) (first last : Bool) (overrun : Bool) (used : Nat) : List Byte :=
  leBytes 4 (b2n first * 2 ^ 30 + b2n last * 2 ^ 29 + b2n (overrun && last) * 2 ^ 28 + b.kind * 2 ^ 26) ++ slice e.raw 4 12
    ++ leBytes 4 used ++ leBytes 4 b.source ++ leBytes 8 b.number

/-- Write a block's bytes over its buffers: the body, then the header, then every write-back (R435). -/
def Dev.writeBlock (d : Dev) (q : Nat) (b : Block) (overrun : Bool) (bufs : List QEntry) : Dev :=
  let all := b.header ++ b.body
  let place := bufs.foldl (fun (acc : Nat × List (QEntry × Nat × Nat)) e =>
    let n := if all.length - acc.1 < exportLen e then all.length - acc.1 else exportLen e
    (acc.1 + n, acc.2 ++ [(e, acc.1, n)])) (0, [])
  let d := place.2.foldl (fun d p =>
    let skip := if p.2.1 = 0 then b.header.length else 0
    d.hostWrite (leAt p.1.raw 8 8 + skip) ((slice all p.2.1 p.2.2).drop skip)) d
  let d := match bufs with
    | e :: _ => d.hostWrite (leAt e.raw 8 8) b.header
    | [] => d
  let n := bufs.length
  let r := place.2.foldl (fun (acc : Nat × Dev) p =>
    let x := acc.2.queue q
    let d := acc.2.hostWrite (x.entryAddr p.1.idx) (exportBack p.1 b (acc.1 == 0) (acc.1 + 1 == n) overrun p.2.2)
    (acc.1 + 1, d.setQueue q { x with entries := markEntry p.1.idx (fun e => { e with phase := .written }) x.entries }))
    (0, d)
  let x := r.2.queue q
  let y := popDone r.2.now x x.entries
  ((r.2.setQueue q y).add 0x711007 q (y.finished - x.finished)).announce q

/-- Give the front block its buffers when enough are in stock (R435). Says whether a block was written. -/
def Dev.serveBlock (d : Dev) (q : Nat) : Option Block × Dev :=
  let x := d.queue q
  match x.blocks with
  | [] => (none, d)
  | b :: t =>
    if !d.hostUp then (none, d) else
    let r := takeBuffers (b.header.length + b.body.length) x.entries
    if r.2 then (some b, (d.setQueue q { x with blocks := t }).writeBlock q b false r.1) else (none, d)

/-- Serve waiting blocks in order; a block that is done advances its list's count (object 0x6200:04) or gives its capture
event back as complete (R381). `fuel` bounds the blocks. -/
def Dev.serveBlocks (q : Nat) : Nat → Dev → Dev
  | 0, d => d
  | n + 1, d =>
    match d.serveBlock q with
    | (some b, d) => Dev.serveBlocks q n (if b.kind = 0 then d.inc 0x620004 b.source else d.put 0xA02104 b.source 2)
    | (none, d) => d

/-- A block is abandoned (R363, R436): an epoch export is counted as skipped and raises source 260, a capture event reads
complete again. -/
def Dev.abandonBlock (d : Dev) (b : Block) : Dev :=
  if b.kind = 0 then (d.inc 0x620006 b.source).raise 260 b.source 0 0 else d.put 0xA02104 b.source 2

/-- Every block of a queue is abandoned. -/
def Dev.abandonBlocks (d : Dev) (q : Nat) : Dev :=
  let x := d.queue q
  let d := d.setQueue q { x with blocks := [] }
  x.blocks.foldl Dev.abandonBlock d

/-! ### Queue errors (R440) -/

/-- The write-back that returns an unused entry: a receive entry RETURNED, an event entry of zeros, an export entry with
USED 0 (R438). -/
def returnBack (cls : Nat) (e : QEntry) (gap : Nat) : List Byte :=
  if cls = 2 then leBytes 4 (2 ^ 28) ++ zeros 4 ++ slice e.raw 8 8 ++ zeros 12 ++ leBytes 4 gap
  else if cls = 3 then zeros 32
  else leBytes 4 0 ++ slice e.raw 4 12 ++ zeros 16

/-- Return every unused entry in stock (R438, R440). [DEDUCED: log 142] -/
def Dev.returnStock (d : Dev) (q : Nat) : Dev :=
  let cls := d.qClass q
  if d.hostUp then
    (d.queue q).entries.foldl (fun d e => if e.phase = .stock then d.writeBack q e.idx (returnBack cls e 0) else d) d
  else d

/-- Frames and records that wait for a queue that stops are dropped and counted. -/
def Dev.dropWaiting (d : Dev) (q : Nat) : Dev :=
  let x := d.queue q
  let d := x.rx.foldl (fun d w => (d.freeCells (ownerQueue q) w.cells).countDrop q) d
  let d := x.ev.foldl (fun d _ => d.countDrop q) d
  d.setQueue q { d.queue q with rx := [], ev := [] }

/-- A queue enters ERROR (R440): the index is latched, source 352 is raised, and what was fetched before goes on. A read
already out is not used. -/
def Dev.queueError (d : Dev) (q idx code : Nat) : Dev :=
  let x := d.queue q
  if x.state = qError ∨ x.state = qDetached then d else
  let keep := x.entries.filter (fun e => e.idx != idx)
  let d := (d.setQueue q { x with
    state := qError, latch := idx % 2 ^ 32, err := code, due := none, orrery := none, entries := keep }).abandonBlocks q
  let d := (d.raise 352 q code (idx % 2 ^ 32)).setLive 352 q true
  (d.dropWaiting q).returnStock q

/-- What is wrong with a transmit entry, 0 for nothing (R426, R428, R440). -/
def Dev.txFault (d : Dev) (q : Nat) (e : List Byte) : Nat :=
  let dw := leAt e 0 4
  let own := d.ownSlotOf q
  let len := bits dw 0 14
  let dual := bit dw 29
  let port := bits dw 20 4
  let port2 := bits dw 16 4
  if bits dw 27 2 ≠ 0 ∨ bits dw 14 2 ≠ 0 ∨ leAt e 6 2 ≠ 0 ∨ leAt e 16 12 ≠ 0 ∨ leAt e 28 4 ≠ 0 then 1
  else if (own.isNone && (decide (len < 60) || decide (len > 9212))) || (own.isSome && decide (len > 2048)) then 2
  else if (dual && port2 == port) || (!dual && port2 != 0) then 3
  else match own with
    | some _ => if port ≠ 0 ∨ port2 ≠ 0 ∨ bits dw 24 3 ≠ 0 ∨ dual ∨ bit dw 30 then 4 else 0
    | none =>
      match d.bindingOf q with
      | some b => if port ≠ d.get 0x306002 b ∨ bits dw 24 3 ≠ d.get 0x306003 b ∨ dual then 4 else 0
      | none => 0

/-- What is wrong with an entry of a class (R426, R429, R435, R440). -/
def Dev.entryFault (d : Dev) (q : Nat) (e : List Byte) : Nat :=
  let dw := leAt e 0 4
  match d.qClass q with
  | 1 => d.txFault q e
  | 2 =>
    if bits dw 14 17 ≠ 0 ∨ leAt e 4 4 ≠ 0 ∨ leAt e 16 16 ≠ 0 then 1
    else if bits dw 0 14 % 64 ≠ 0 ∨ bits dw 0 14 < d.get 0x710009 q ∨ leAt e 8 8 % 64 ≠ 0 then 2 else 0
  | 4 =>
    if bits dw 0 31 ≠ 0 ∨ leAt e 16 16 ≠ 0 then 1
    else if leAt e 4 4 % 4096 ≠ 0 ∨ leAt e 4 4 < 4096 ∨ leAt e 4 4 > 16777216 ∨ leAt e 8 8 % 4096 ≠ 0 then 2 else 0
  | _ => 0

/-- Serve what waits for entries: receive frames, event records, blocks, finished transmit entries, the announcement. -/
def Dev.serveQueue (d : Dev) (q : Nat) : Dev :=
  let x := d.queue q
  let d := Dev.serveRx q x.rx.length d
  let d := Dev.serveEv q x.ev.length d
  let d := d.settleTx q
  let d := Dev.serveBlocks q x.blocks.length d
  d.advanceHead q

/-- A block for a queue (R435): it waits for buffers; a queue that is not ACTIVE abandons it at once. -/
def Dev.pushBlock (d : Dev) (q : Nat) (b : Block) : Dev :=
  if q ≥ 262144 then d.abandonBlock b else
  let x := d.queue q
  if x.state ≠ qActive then d.abandonBlock b
  else Dev.serveBlocks q (x.blocks.length + 1) (d.setQueue q { x with blocks := x.blocks ++ [b] })

/-- Take the fetched entries of one descriptor read in order (R424, R443): the first with OWN = 0 ends it; a malformed
one puts the queue in ERROR; a transmit entry's data is read. `fuel` bounds the entries. -/
def Dev.takeEntries (q : Nat) : Nat → Nat → List Byte → Dev → Dev
  | 0, _, _, d => d
  | n + 1, idx, bs, d =>
    let e := bs.take 32
    let x := d.queue q
    if e.length < 32 || !bit (leAt e 0 4) 31 || x.state != qActive then d else
    let f := d.entryFault q e
    if f ≠ 0 then d.queueError q idx f else
    let tx := d.qClass q == 1
    let len := bits (leAt e 0 4) 0 14
    let ph : EntryPhase := if tx then .fetching else .stock
    let d := d.setQueue q { x with
      entries := x.entries ++ [⟨idx % 2 ^ 32, e, ph, none, none⟩], next := (idx + 1) % 2 ^ 32, fetched := x.fetched + 1 }
    let d := if tx && decide (len > 0) then d.hostRead (.data q (idx % 2 ^ 32)) (leAt e 8 8) len false else d
    Dev.takeEntries q n (idx + 1) (bs.drop 32) d

/-- The descriptors that a poll read have come (R443). A bound queue that finds no entry owned by the device lets its
window pass (R170). -/
def Dev.descriptors (d : Dev) (q idx : Nat) (bs : List Byte) : Dev :=
  let d := match d.bindingOf q with
    | some b => if bit (leAt bs 0 4) 31 then d else d.inc 0x306008 b
    | none => d
  (Dev.takeEntries q (bs.length / 32) idx bs d).serveQueue q

/-! ### Commands (R438, R439, R441, R449) -/

/-- Why an ATTACH is refused, 0 for not (R439). -/
def Dev.attachFault (d : Dev) (q : Nat) : Nat :=
  let x := d.queue q
  if d.qClass q = 0 then 0x10
  else if x.log2 < 3 ∨ x.log2 > 16 then 0x11
  else if d.qClass q = 2 ∧ d.reservedSum + d.get 0x71000A q > 458752 then 0x12
  else 0

/-- The poll demand in polls per second (R444): ACTIVE queues polled by interval, and every binding at its port's cycle. -/
def Dev.pollDemand (d : Dev) : Nat :=
  let a := d.host.queues.foldl (fun a p =>
    let c := d.qClass p.1
    if p.2.state = qActive ∧ c ≠ 4 ∧ c ≠ 0 && !d.polledElsewhere p.1 then a + 10 ^ 15 / d.get 0x710002 p.1 else a) 0
  let b := (d.listed 0x306002).foldl (fun a b =>
    let p := d.get 0x306002 b
    if p = 0xFF then a else
    let bank := 4 * p + d.get 0x302001 p
    a + 10 ^ 18 / d.get 0x303002 bank) 0
  (a + b) / 10 ^ 9

/-- Report the demand; above the budget source 353 is raised, once at each rise (R444). -/
def Dev.showDemand (d : Dev) : Dev :=
  let n := d.pollDemand
  let past := decide (n > 96000000)
  let was := d.host.oversub
  let d := (d.put 0x700201 0 n).setHost { d.host with oversub := past }
  let d := (d.put 0x700201 0 n)
  let d := if past && !was then d.raise 353 0 0 0 else d
  if past == was then d else d.setLive 353 0 past

/-- ATTACH (R438, R439): refused, the queue stays DETACHED; accepted, HEAD := NEXT := START. -/
def queueAttach (q : Nat) (d : Dev) : Dev :=
  let x := d.queue q
  if x.state ≠ qDetached then d else
  let f := d.attachFault q
  if f ≠ 0 then d.setQueue q { x with attRefused := true, err := f }
  else
    (d.setQueue q { x with
      state := qActive, head := x.start, fin := x.start, next := x.start, latch := 0, err := 0, entries := [], unann := 0,
      oldest := none, due := none, orrery := none, served := 0, rx := [], ev := [], gap := 0, lost := false, seq := 0,
      fetched := 0, finished := 0, abandoned := 0, blocks := [], lateIdx := [] }).showDemand

/-- A STOPPING queue with nothing left writes its final head index and is DETACHED (R438). -/
def queueDetachComplete (q : Nat) (d : Dev) : Dev :=
  let x := d.queue q
  if x.state = qStopping ∧ x.entries = [] then
    let d := d.announce q
    (d.setQueue q { d.queue q with state := qDetached, due := none, orrery := none }).showDemand
  else d

/-- DETACH of an ACTIVE queue (R438): waiting traffic is dropped, unused entries are returned, a block in progress is
abandoned (R436). -/
def Dev.detachCore (d : Dev) (q : Nat) : Dev :=
  let x := d.queue q
  if x.state ≠ qActive then d else
  let d := (d.setQueue q { x with state := qStopping, due := none, orrery := none }).abandonBlocks q
  ((d.dropWaiting q).returnStock q).showDemand

/-- The reset of a queue (R441): fetched, unfinished entries are abandoned and counted, waiting frames dropped, the state
is DETACHED; LATCH and ERR_CODE keep their values. -/
def Dev.resetCore (d : Dev) (q : Nat) : Dev :=
  let x := d.queue q
  if x.state = qDetached then d else
  let n := x.entries.length
  let d := (d.dropWaiting q).abandonBlocks q
  let y := d.queue q
  let d := (d.setQueue q { y with
    state := qDetached, entries := [], unann := 0, oldest := none, due := none, orrery := none, blocks := [],
    abandoned := y.abandoned + n }).add 0x711008 q n
  let d := d.setPcie { d.host.pcie with
    reqs := d.host.pcie.reqs.filter (fun r => match r.what with
      | .desc k _ _ => k != q
      | .data k _ => k != q) }
  (d.setLive 352 q false).showDemand

/-- PERST_N for every queue (R437, R449): DETACHED at once, every unfinished entry abandoned, the registers at their reset
values; the counters of object 0x7110 stay. -/
def Dev.detachAll (d : Dev) : Dev :=
  let qs := d.host.queues.map (·.1)
  let d := qs.foldl (fun d q => d.resetCore q) d
  (qs.foldl (fun d q => d.setQueue q queue0) d).showDemand

/-! ### Polls (R442 to R445) -/

/-- The first instant k × I + φ of TAI time at or after `t` (R442). [DEDUCED: log 143] -/
def pollInstant (i phi t : Nat) : Nat :=
  if i = 0 then t else if t ≤ us phi then us phi else us phi + ceilTo (t - us phi) (us i)

/-- May an interval poll of the queue fall due (R442, R443)? -/
def Dev.pollWanted (d : Dev) (q : Nat) : Bool :=
  let x := d.queue q
  let c := d.qClass q
  x.state == qActive && !d.polledElsewhere q && x.due.isNone &&
    (c == 1 || ((c == 2 || c == 3) && decide (x.stock < 16)) || (c == 4 && !x.blocks.isEmpty))

/-- An interval poll falls due (R442): time is brought to its due instant, the first after the last service. -/
def pollDue (q : Nat) (d : Dev) : Dev :=
  if d.pollWanted q then
    let x := d.queue q
    let from_ := if x.served = d.now ∧ x.served > 0 then d.now + 1 else d.now
    let t := pollInstant (d.get 0x710002 q) (d.get 0x710003 q) from_
    (d.at_ t).setQueue q { x with due := some t, deadline := t + us (d.get 0x710002 q) }
  else d

/-- Is a descriptor read of the queue outstanding? -/
def Dev.descOut (d : Dev) (q : Nat) : Bool :=
  d.host.pcie.reqs.any (fun r => match r.what with
    | .desc k _ _ => k == q
    | .data _ _ => false)

/-- The due poll with the earliest deadline, the lower queue number first (R444). -/
def Dev.nextPoll (d : Dev) : Option Nat :=
  let best := d.host.queues.foldl (fun (acc : Option (Nat × Nat)) p =>
    match p.2.due with
    | some t =>
      if t ≤ d.now && !d.descOut p.1 then
        (match acc with
         | some (dl, _) => if p.2.deadline < dl then some (p.2.deadline, p.1) else acc
         | none => some (p.2.deadline, p.1))
      else acc
    | none => acc) none
  best.map (·.2)

/-- A poll tied to a gate that is served late is counted in the binding's object 0x3060:07. -/
def Dev.countLate (d : Dev) (q : Nat) : Dev :=
  match d.bindingOf q with
  | some b => d.inc 0x306007 b
  | none => d

/-- The device serves the due poll with the earliest deadline, within the budget of 96 polls in any 1 µs and the read
tags (R406, R444); deferred while the endpoint issues nothing (R409, R416). A late poll is counted. -/
def pollServe (d : Dev) : Dev :=
  if !d.hostUp then d else
  match d.nextPoll with
  | none => d
  | some q =>
    let full := match d.host.pcie.polls[95]? with
      | some t => if d.now < t + us 1 then t + us 1 else d.now
      | none => d.now
    let d := d.at_ full
    let x := d.queue q
    if d.tagRoom x.orrery.isSome = 0 then d else
    let late := decide (d.now > x.deadline)
    let want := match x.orrery with
      | some n => n
      | none => if d.qClass q = 1 ∨ d.qClass q = 4 then d.get 0x710004 q
        else if d.get 0x710004 q < 16 - x.stock then d.get 0x710004 q else 16 - x.stock
    let room := 2 ^ x.log2 - x.next % 2 ^ x.log2
    let free := 2 ^ x.log2 - x.entries.length
    let n := if want < room then want else room
    let n := if n < free then n else free
    let d := d.setQueue q { x with
      due := none, orrery := none, served := d.now, late := if late then (x.late + 1) % 2 ^ 32 else x.late,
      lateIdx := if late && x.orrery.isSome then (List.range n).map (fun i => (x.next + i) % 2 ^ 32) else [] }
    let d := if late then (d.inc 0x711005 q).inc 0x700202 0 else d
    let d := if late && x.orrery.isSome then d.countLate q else d
    let d := d.inc 0x700204 0
    let d := d.setPcie { d.host.pcie with polls := (d.now :: d.host.pcie.polls).take 96 }
    if n = 0 then d else d.hostRead (.desc q x.next n) (x.entryAddr x.next) (32 * n) x.orrery.isSome

/-- The coalescing time passes since the oldest entry not yet announced finished (R446). -/
def coalescingTimeout (q : Nat) (d : Dev) : Dev :=
  match (d.queue q).oldest with
  | some t => (d.at_ (t + ns (d.get 0x710006 q))).announce q
  | none => d

/-- After a release or the return of Bus Master Enable every queue resumes from its held state (R409, R417). -/
def Dev.resumeQueues (d : Dev) : Dev := d.host.queues.foldl (fun d p => d.serveQueue p.1) d

/-! ### Registers (R437) -/

/-- `Q_STATUS` (R437). -/
def Queue.status (x : Queue) : Nat :=
  x.state * 2 ^ 30 + b2n x.cfgRefused * 2 ^ 29 + b2n x.attRefused * 2 ^ 28 + x.err * 2 ^ 16
  + (if x.entries.length < 255 then x.entries.length else 255)

/-- A 32-bit register of a queue's block. -/
def Queue.reg (x : Queue) (off : Nat) : Nat :=
  match off with
  | 0x00 => x.cmd * 2 ^ 28
  | 0x04 => x.status
  | 0x08 => bits x.base 0 32
  | 0x0C => bits x.base 32 32
  | 0x10 => bits x.mirror 0 32
  | 0x14 => bits x.mirror 32 32
  | 0x18 => x.log2
  | 0x1C => x.start
  | 0x20 => x.head
  | 0x24 => x.next
  | 0x28 => x.latch
  | 0x2C => x.late
  | 0x30 => x.drops
  | 0x34 => x.done
  | _ => 0

/-- A write of one of the fields that define the ring: discarded unless the queue is DETACHED (R423). -/
def Dev.writeRing (d : Dev) (q : Nat) (f : Queue → Queue) : Dev :=
  let x := d.queue q
  if x.state = qDetached then d.setQueue q (f x) else d.setQueue q { x with cfgRefused := true }

/-! ### COMMIT checks (R266, R422, R447, R451) -/

/-- A queue reference needs a class; the reference "none" needs nothing (R422). -/
def Dev.refOk (d : Dev) (q cls : Nat) : Bool := decide (q ≥ 262144) || d.qClass q == cls

/-- As `refOk` for a receive queue that must also be express (R422). -/
def Dev.refExpress (d : Dev) (q : Nat) : Bool := decide (q ≥ 262144) || (d.qClass q == 2 && d.on 0x710008 q)

/-- The number of pinned contexts (R447). -/
def Dev.pinned (d : Dev) : Nat :=
  ((d.listed 0x710008).filter (fun q => d.express q)).length
  + ((d.listed 0x306002).filter (fun b => d.get 0x306002 b != 0xFF)).length
  + ([0, 1].filter (fun r => decide (d.get 0x400010 r < 262144))).length

/-- The queue objects' COMMIT checks, on the values a transaction would make active; 0 for none. -/
def Dev.checkQueue (d : Dev) (o e : Nat) : Nat :=
  let i := o / 256
  if i = 0x7100 then
    (if d.get 0x710003 e ≥ d.get 0x710002 e then 0x0404
     else if d.on 0x710008 e && d.qClass e != 2 then 0x0404
     else if d.qClass e = 2 ∧ d.get 0x71000A e < (2 * d.get 0x710009 e + 127) / 128 then 0x0404
     else if d.reservedSum > 458752 then 0x0404
     else if d.pinned > 8192 then 0x0404
     else 0)
  else if o = 0x306001 ∨ o = 0x306002 then
    (if d.get 0x306002 e ≠ 0xFF && !d.refOk (d.get 0x306001 e) 1 then 0x0404
     else if d.pinned > 8192 then 0x0404 else 0)
  else if o = 0x400010 then (if d.refOk (d.get o e) 1 then 0 else 0x0404)
  else if o = 0x61000F ∨ o = 0x611009 ∨ o = 0x612008 then (if d.refExpress (d.get o e) then 0 else 0x0404)
  else if o = 0x600005 ∨ o = 0x61100E ∨ o = 0x614002 ∨ o = 0x65000E ∨ o = 0x713001 then
    (if d.refOk (d.get o e) 2 then 0 else 0x0404)
  else if o = 0x712001 then (if d.refOk (d.get o e) 3 then 0 else 0x0404)
  else if o = 0x620003 then (if d.refOk (d.get o e) 4 then 0 else 0x0404)
  else if o = 0x614201 then (if d.reservedSum > 458752 then 0x0404 else 0)
  else if o = 0x700003 ∨ o = 0x700004 then (if d.get 0x700004 0 < d.get 0x700003 0 then 0 else 0x0404)
  else 0

end Sys2Proof.Machine
end

