-- ==== Sys2Proof/Machine/Table.lean ====
section
/-! DEFINITION. Epoch arithmetic (R344 to R348), signal records, the write rule, views, and poisoning (R339 to R343, R352
to R357, R365 to R367). -/
namespace Sys2Proof.Machine

/-- Replace the signal table's part. -/
def Dev.setTab (d : Dev) (x : TableSt) : Dev := { d with tab := x }

/-! ### Objects that govern data of a given time (R65) -/

/-- A numeric object's value that governs data of time `t`: the old bank's before its boundary, else the active one. -/
def Dev.getAt (d : Dev) (t o e : Nat) : Nat :=
  match d.obj.old.find? (fun x => decide (x.key = ⟨o, e⟩) && decide (t < x.boundary)) with
  | some x => x.num
  | none => d.get o e

/-- A byte object's value that governs data of time `t`. -/
def Dev.getBAt (d : Dev) (t o e : Nat) : List Byte :=
  match d.obj.old.find? (fun x => decide (x.key = ⟨o, e⟩) && decide (t < x.boundary)) with
  | some x => x.bytes
  | none => d.getB o e

/-! ### Epochs -/

/-- No anchor. -/
def seg0 : Seg := ⟨0, 0, 50, 1, 2000⟩

/-- One period in units of 2^-16 ns, times epochs per second. -/
def Seg.len (s : Seg) : Nat := s.secs * sec 1

/-- The start of epoch N under an anchor, its lower bits dropped (R344, R72). -/
def Seg.startOf (s : Seg) (n : Nat) : Nat :=
  if n ≥ s.n then s.start + (n - s.n) * s.len / s.perSec else s.start - ((s.n - n) * s.len + s.perSec - 1) / s.perSec

/-- The first unit of time at or after the start of epoch N: times compare exactly with it (R345). -/
def Seg.bound (s : Seg) (n : Nat) : Nat :=
  if n ≥ s.n then s.start + ((n - s.n) * s.len + s.perSec - 1) / s.perSec else s.start - (s.n - n) * s.len / s.perSec

/-- The number of the epoch that holds a time (R345). -/
def Seg.epochOf (s : Seg) (t : Nat) : Nat :=
  if s.len = 0 then s.n
  else if t ≥ s.start then s.n + (t - s.start) * s.perSec / s.len
  else s.n - ((s.start - t) * s.perSec + s.len - 1) / s.len

/-- The anchor that governs a time: the last that starts at or before it, else the first. -/
def segAt (t : Nat) : List Seg → Seg
  | [] => seg0
  | s :: l => l.foldl (fun a x => if x.start ≤ t then x else a) s

/-- The anchor that governs an epoch number. -/
def segOf (n : Nat) : List Seg → Seg
  | [] => seg0
  | s :: l => l.foldl (fun a x => if x.n ≤ n then x else a) s

/-- The epoch that holds a time. -/
def Dev.epochOf (d : Dev) (t : Nat) : Nat := (segAt t d.tab.segs).epochOf t

/-- The start of epoch N, lower bits dropped. -/
def Dev.epochStart (d : Dev) (n : Nat) : Nat := (segOf n d.tab.segs).startOf n

/-- The end of epoch N as a bound for exact comparison. -/
def Dev.epochEnd (d : Dev) (n : Nat) : Nat := (segOf n d.tab.segs).bound (n + 1)

/-- The close instant X = t_N + period + h of epoch N (R348). -/
def Dev.closeAt (d : Dev) (n : Nat) : Nat := d.epochEnd n + us (segOf n d.tab.segs).horizon

/-- The ingest cutoff of epoch N (R260). -/
def Dev.cutoffAt (d : Dev) (n : Nat) : Nat := d.closeAt n - ns (d.get 0x614001 0)

/-- The period in force now, in units of 2^-16 ns (rounded down). -/
def Dev.periodNow (d : Dev) : Nat := let s := segAt d.now d.tab.segs; s.len / s.perSec

/-- The published epoch's number; before the first publication the epoch before the first. [DEDUCED: log 57] -/
def Dev.pubN (d : Dev) : Nat :=
  match d.tab.pub with
  | some p => p.n
  | none => d.tab.closed - d.tab.closing.length

/-! ### Regions -/

/-- A region after its reset. -/
def region0 : Region := ⟨true, 0, [], [], 0, 0, [], ⟨0, 0, 0, 0⟩, []⟩

/-- Region `g`. -/
def Dev.region (d : Dev) (g : Nat) : Region := tget region0 d.tab.regions g

/-- Replace region `g`. -/
def Dev.setRegion (d : Dev) (g : Nat) (x : Region) : Dev := d.setTab { d.tab with regions := tput region0 d.tab.regions g x }

/-- Does the region run: not in reset, not contained? -/
def Dev.regionRuns (d : Dev) (g : Nat) : Bool := (d.region g).up && !d.containedBy 261 g && !d.containedBy 262 g

/-- The time a region's replica reads. -/
def Dev.regionTime (d : Dev) (g : Nat) : Nat := d.repTime (21 + g)

/-- The region that holds a signal's record (R339). -/
def regionOfSig (i : Nat) : Nat := i / 8388608 % 4

/-! ### Records -/

/-- A record that was never written. -/
def sigRec0 : SigRec := ⟨0, false, []⟩

/-- The record of signal `i`. -/
def Dev.rec_ (d : Dev) (i : Nat) : SigRec := tget sigRec0 d.tab.recs i

/-- Replace a record. -/
def Dev.setRec (d : Dev) (i : Nat) (x : SigRec) : Dev := d.setTab { d.tab with recs := tput sigRec0 d.tab.recs i x }

/-- A header field copied from object 0x6010: the old bank's value until that bank retires (R341, R343). -/
def Dev.headerField (d : Dev) (o i : Nat) : Nat :=
  match d.obj.old.find? (fun x => decide (x.key = ⟨o, i⟩)) with
  | some x => x.num
  | none => d.get o i

/-- TYPE and CARRY of a record. -/
def Dev.sigType (d : Dev) (i : Nat) : Nat := d.headerField 0x601001 i
def Dev.sigCarry (d : Dev) (i : Nat) : Nat := d.headerField 0x601002 i

/-- The difference of two tags as a signed 32-bit number (R352). -/
def tagDiff (a b : Nat) : Int := toInt 32 (a + 2 ^ 32 - b % 2 ^ 32)

/-- The used slot that a comparison of tags prefers among those that a test picks. -/
def pickSlot (better : Nat → Nat → Bool) (ok : Nat → Bool) (l : List (Nat × ValSlot)) : Option (Nat × ValSlot) :=
  l.foldl (fun (a : Option (Nat × ValSlot)) x =>
    if !ok x.2.tag then a
    else match a with
      | none => some x
      | some y => if better x.2.tag y.2.tag then some x else a) none

/-- The slot that rule R352 gives epoch `e` while `p` is published: the slot of that tag, an unused slot, or the victim. [DEDUCED: log 147] -/
def SigRec.choose (r : SigRec) (e p : Nat) : Nat × Option ValSlot :=
  match r.slots.find? (fun x => x.2.tag == e % 2 ^ 32) with
  | some x => (x.1, some x.2)
  | none =>
    match [0, 1, 2, 3].find? (fun k => !r.slots.any (fun x => x.1 == k)) with
    | some k => (k, none)
    | none =>
      let keep := pickSlot (fun a b => decide (tagDiff a b > 0)) (fun t => decide (tagDiff t p ≤ -1)) r.slots
      let others := r.slots.filter (fun x => match keep with
        | some k => x.1 != k.1
        | none => true)
      match pickSlot (fun a b => decide (tagDiff a b < 0)) (fun t => decide (tagDiff t p < 0)) others with
      | some x => (x.1, none)
      | none => (0, none)

/-- Put a value into slot `k`. -/
def SigRec.put (r : SigRec) (k : Nat) (v : ValSlot) : SigRec :=
  { r with slots := r.slots.filter (fun x => x.1 != k) ++ [(k, v)] }

/-- An update's record of 32 bytes (R292): measurement time, value, and the quality word stored with it (R342). -/
def updTime (now : Nat) (b : List Byte) : Nat := timeOfTs64 now (leAt b 8 8) + leAt b 28 2
def updQuality (b : List Byte) : Nat := leAt b 28 2 * 65536 + leAt b 4 4 % 65536

/-- The write rule R352: says whether the update stood or was superseded. -/
def SigRec.write (r : SigRec) (e p source : Nat) (t : Nat) (b : List Byte) : SigRec × Bool :=
  let c := r.choose e p
  let stands := match c.2 with
    | some v => decide (t ≥ v.time)
    | none => true
  let dam := match c.2 with
    | some v => v.damaged
    | none => false
  if stands then
    ({ r.put c.1 ⟨t, slice b 16 12, updQuality b, e % 2 ^ 32, dam⟩ with source := source, ever := true }, true)
  else (r, false)

/-- Apply an update of epoch `e` to its record, superseded updates counted. -/
def Dev.writeUpd (d : Dev) (source e : Nat) (b : List Byte) : Dev :=
  let i := leAt b 0 4 % 2 ^ 25
  let w := (d.rec_ i).write e d.pubN source (updTime d.now b) b
  let d := d.setRec i w.1
  if w.2 then d else d.inc 0x600105 (regionOfSig i)

/-! ### Views (R353, R355 to R357, R365) -/

/-- Is the writer of a record lost (R353)? -/
def Dev.sourceLost (d : Dev) (src : Nat) : Bool :=
  let n := src % 2 ^ 30
  if src / 2 ^ 30 = 1 then d.get 0x510002 n == 0 || 2 ≤ d.get 0x510002 n || d.get 0x500001 (n / 16) == 3
    || d.get 0x500001 (n / 16) == 5 || d.clusterStopped (d.get 0x500003 (n / 16) / 8)
  else if src / 2 ^ 30 = 2 then !d.on 0x611001 n
  else false

/-- A resolved view: the slot, if one is resolved, and the reason. -/
structure Resolved where
  slot : Option ValSlot
  reason : Nat
  age : Nat
  carried : Bool
deriving DecidableEq, Repr

/-- The poison entry of a signal. -/
def Dev.poisonOf (d : Dev) (i : Nat) : Option Poison := (d.region (regionOfSig i)).poison.find? (fun x => x.sig == i)

/-- Resolution of signal `i` for a readable epoch (R353). [DEDUCED: log 146] -/
def Dev.resolve (d : Dev) (i : Nat) (p : PubEpoch) : Resolved :=
  let r := d.rec_ i
  let e := p.n
  if d.sigType i = 0 then ⟨none, 1, 0, false⟩
  else if !bit p.present (regionOfSig i) then ⟨none, 4, 0, false⟩
  else
    let s := (pickSlot (fun a b => decide (tagDiff a b > 0)) (fun t => decide (tagDiff t e ≤ 0)) r.slots).map (·.2)
    let poisoned := match d.poisonOf i with
      | some x => decide (x.q ≤ e) && (match s with
        | some v => decide (tagDiff v.tag x.q < 0)
        | none => true)
      | none => false
    if poisoned then ⟨none, 5, 0, false⟩
    else match s with
      | none => ⟨none, if r.ever then 3 else 2, 0, false⟩
      | some v =>
        if v.damaged then ⟨none, 5, 0, false⟩ else
        let age := (tagDiff e v.tag).toNat
        if age > d.sigCarry i then ⟨some v, 3, age, false⟩
        else if age > 0 && d.sourceLost r.source then ⟨some v, 6, age, false⟩
        else ⟨some v, 0, age, decide (age > 0)⟩

/-- The invalid pattern of a TYPE (R315). [DEDUCED: log 56] -/
def invalidValue (ty : Nat) : List Byte :=
  if ty = 1 then leBytes 4 0x7FC00000 ++ leBytes 4 0x7FC00000 ++ leBytes 4 0x7FC00000
  else if ty = 2 then leBytes 8 0x7FF8000000000000 ++ zeros 4 else zeros 12

/-- The IEC quality of a view (R365) from the stored one. -/
def viewIec (reason : Nat) (carried : Bool) (iec : Nat) : Nat :=
  let inv := iec / 4 * 4 + 1
  if reason = 0 then
    (if carried then (if iec % 4 = 0 then iec + 3 else iec) ||| 128 else iec)
  else if reason = 3 ∨ reason = 6 then inv ||| 128
  else if reason = 4 ∨ reason = 5 then inv ||| 64
  else inv

/-- The view quality word (R356). -/
def Resolved.quality (r : Resolved) : Nat :=
  let stored := match r.slot with
    | some v => v.quality % 32768
    | none => 0
  let age := match r.slot with
    | some _ => if r.age < 255 then r.age else 255
    | none => 0
  age * 2 ^ 24 + r.reason * 2 ^ 20 + b2n r.carried * 2 ^ 15 + stored / 16384 * 16384 + viewIec r.reason r.carried (stored % 16384)

/-- The 32 bytes of a view (R355, R357); no readable epoch gives EPOCH 0 and REASON 4 (R358). -/
def Dev.view (d : Dev) (i : Nat) (p : Option PubEpoch) (select : Nat) : List Byte :=
  let ty := d.sigType i
  let r := match p with
    | some p => d.resolve i p
    | none => ⟨none, 4, 0, false⟩
  let e := match p with
    | some p => p.n
    | none => 0
  let t := match r.slot with
    | some v => ts64Of v.time
    | none => 0
  let val := match r.slot with
    | some v => if r.reason = 0 then v.value else invalidValue ty
    | none => invalidValue ty
  leBytes 8 t ++ val ++ leBytes 4 r.quality ++ leBytes 4 e
    ++ leBytes 4 (select * 2 ^ 30 + ty * 2 ^ 28 + b2n (d.poisonOf i).isSome * 2 ^ 27 + i % 2 ^ 25)

/-! ### Poisoning (R366) -/

/-- Every poisoning enters the region's table with a first readable epoch `q`, the later one standing, and raises source
256; a full table empties the record instead and raises source 257. -/
def Dev.poisonSig (d : Dev) (i q : Nat) : Dev :=
  let g := regionOfSig i
  let x := d.region g
  let mine := x.poison.find? (fun y => y.sig == i)
  let rest := x.poison.filter (fun y => y.sig != i)
  let q' := match mine with
    | some y => if y.q > q then y.q else q
    | none => q
  if mine.isNone && decide (rest.length ≥ 4096) then
    (((d.setRec i { d.rec_ i with slots := [], ever := false, source := 0 }).inc 0x60010A g).raise 257 g 0 0)
  else
    ((d.setRegion g { x with poison := rest ++ [⟨i, q'⟩] }).put 0x600109 g (rest.length + 1)).raise 256 i 0 0

/-- An uncorrectable error in value slot `k` of a record: q = P + 1, and the slot is damaged. -/
def Dev.slotError (d : Dev) (i k : Nat) : Dev :=
  let r := d.rec_ i
  let d := d.setRec i { r with slots := r.slots.map (fun x => if x.1 = k then (x.1, { x.2 with damaged := true }) else x) }
  d.poisonSig i (d.pubN + 1)

/-- An uncorrectable error in a record's header: SOURCE zero, USED and EVER kept where readable, else cleared; q = P − 1. -/
def Dev.headerError (d : Dev) (i : Nat) (readable : Bool) : Dev :=
  let r := d.rec_ i
  let d := d.setRec i (if readable then { r with source := 0 } else sigRec0)
  d.poisonSig i (d.pubN - 1)

/-- A poison entry is freed once an epoch of at least q that holds an update of the signal has become P−1. [DEDUCED: log 55] -/
def Dev.freePoison (d : Dev) (g : Nat) : Dev :=
  match d.tab.prev with
  | none => d
  | some p =>
    let x := d.region g
    let rest := x.poison.filter (fun y =>
      !((d.rec_ y.sig).slots.any (fun s => decide (tagDiff s.2.tag y.q ≥ 0) && decide (tagDiff s.2.tag p.n ≤ 0))))
    (d.setRegion g { x with poison := rest }).put 0x600109 g rest.length

/-- The patrol scrubber's visit of a record (R367): slots 2^24 epochs old or more are cleared. -/
def Dev.scrubRecord (d : Dev) (i : Nat) : Dev :=
  let r := d.rec_ i
  let keep := r.slots.filter (fun x => decide (tagDiff d.pubN x.2.tag < 16777216))
  if keep.length = r.slots.length then d else d.setRec i { r with slots := keep }

end Sys2Proof.Machine
end

