-- ==== Sys2Proof/Machine/Image.lean ====
section
/-! DEFINITION. Ikigus images: the instruction word's fields and its legality (R280, R281), header and schema (R296 to
R298), verification (R299), and placing an image in a slot (R275, R279, R300, R301). -/
namespace Sys2Proof.Machine

/-! ### The instruction word -/

/-- The fields of a word in all three forms (R280). A branch's `a` and `b` are `d` and `a` of the other forms. -/
structure Ins where
  op : Nat
  d : Nat
  a : Nat
  b : Nat
  v : Bool
  p : Bool
  fn : Nat
  c : Nat
  low : Nat
  imm : Nat
deriving DecidableEq, Repr

/-- Take a word apart (R280). -/
def insOf (w : Nat) : Ins :=
  ⟨bits w 26 6, bits w 21 5, bits w 16 5, bits w 11 5, bit w 10, bit w 9, bits w 6 3, bits w 1 5, bits w 0 1, bits w 0 16⟩

/-- IMM16 and OFF16 as signed numbers. -/
def Ins.simm (i : Ins) : Int := toInt 16 i.imm

/-- A word of the register form that uses the fields named: every other field zero, scalar fields at most 15. -/
def Ins.rg (i : Ins) (d a b c : Bool) (fns : List Nat) : Bool :=
  let reg := fun (used : Bool) (x : Nat) => if used then i.v || decide (x ≤ 15) else x == 0
  reg d i.d && reg a i.a && reg b i.b && reg c i.c && fns.contains i.fn && i.low == 0

/-- Is the word legal (R281)? V and P stand only where R280 and the table allow them. -/
def legal (w : Nat) : Bool :=
  let i := insOf w
  let sOnly := !i.v && !i.p
  if w ≥ 2 ^ 32 then false
  else if i.op = 0x00 then w == 0
  else if i.op = 0x3B then w % 2 ^ 26 == 0
  else if 0x01 ≤ i.op ∧ i.op ≤ 0x09 then i.rg true true true false [0] && (!i.p || i.v)
  else if i.op = 0x0A ∨ i.op = 0x0B then decide (i.d ≤ 15 ∧ i.a ≤ 15)
  else if i.op = 0x0C then decide (i.d ≤ 15) && i.a == 0
  else if 0x10 ≤ i.op ∧ i.op ≤ 0x12 then i.rg true true true false [0] && !i.p
  else if i.op = 0x13 then i.rg true true true true [0] && !i.p
  else if i.op = 0x14 ∨ i.op = 0x16 ∨ i.op = 0x17 then i.rg true true true false [0] && !i.p
  else if i.op = 0x15 ∨ i.op = 0x18 then i.rg true true false false [0] && !i.p
  else if i.op = 0x19 then i.rg true true true false [0, 1, 2, 3] && !i.p
  else if i.op = 0x1A then
    !i.p && (i.rg true true false false [0, 1, 2] || (i.v && i.rg true true false false [3, 4])
      || (i.v && i.rg true true true false [5]))
  else if i.op = 0x20 then i.v && !i.p && i.rg true true true true [0]
  else if i.op = 0x21 then sOnly && decide (i.a ≤ 15) && i.b == 0 && i.c == 0 && i.fn == 0 && i.low == 0
  else if i.op = 0x22 then sOnly && decide (i.d ≤ 15) && i.b == 0 && i.c == 0 && i.low == 0
  else if i.op = 0x23 then sOnly && decide (i.d ≤ 15) && i.b == 0 && i.c == 0 && i.fn == 0 && i.low == 0
  else if i.op = 0x28 ∨ i.op = 0x29 then decide (i.d ≤ 15 ∧ i.a ≤ 15)
  else if i.op = 0x2A ∨ i.op = 0x2B then decide (i.a ≤ 15)
  else if i.op = 0x2C then sOnly && i.rg false true true true [0, 1]
  else if i.op = 0x2D then sOnly && i.rg false false false false [0]
  else if i.op = 0x2E then sOnly && i.rg false true true false [0, 1]
  else if 0x30 ≤ i.op ∧ i.op ≤ 0x33 then decide (i.d ≤ 15 ∧ i.a ≤ 15)
  else if i.op = 0x38 then sOnly && i.rg true false false false [0, 1, 2]
  else if i.op = 0x39 then sOnly && i.rg false true false false [0]
  else if i.op = 0x3A then i.d == 0 && decide (i.a ≤ 15)
  else false

/-- Is the word a branch? -/
def isBranch (w : Nat) : Bool := decide (0x30 ≤ bits w 26 6 ∧ bits w 26 6 ≤ 0x33)

/-- Where a branch at instruction `pc` goes. -/
def branchTo (pc w : Nat) : Int := (pc : Int) + 1 + (insOf w).simm

/-! ### The header (R296) -/

def ikLen (b : List Byte) : Nat := leAt b 8 4
def ikKernel (b : List Byte) : Nat := leAt b 12 4
def ikVersion (b : List Byte) : Nat := leAt b 16 4
def ikWarmup (b : List Byte) : Bool := bit (byteAt b 21) 0
def ikTriggers (b : List Byte) : Nat := leAt b 22 2
def ikCodeLen (b : List Byte) : Nat := leAt b 28 4
def ikEntry (b : List Byte) : Nat := leAt b 32 4
def ikTableOff (b : List Byte) : Nat := leAt b 36 4
def ikTableLen (b : List Byte) : Nat := leAt b 40 4
def ikSchemaOff (b : List Byte) : Nat := leAt b 44 4
def ikSchemaCount (b : List Byte) : Nat := leAt b 48 2
def ikParamLen (b : List Byte) : Nat := leAt b 50 2
def ikInputs (b : List Byte) : Nat := leAt b 52 2
def ikDepth (b : List Byte) : Nat := leAt b 56 4
def ikWindow (b : List Byte) : Nat := leAt b 60 4
def ikWorkLen (b : List Byte) : Nat := leAt b 64 4
def ikShared (b : List Byte) : Nat := leAt b 68 4
def ikWcet (b : List Byte) : Nat := leAt b 72 4
def ikMaxUpd (b : List Byte) : Nat := leAt b 76 4
def ikSigOff (b : List Byte) : Nat := leAt b 80 4

/-- Offsets of the data region's parts (R275, R277). -/
def ikBank (b : List Byte) (k : Nat) : Nat := 64 + k * ikParamLen b
def ikValues (b : List Byte) (k : Nat) : Nat := 64 + 2 * ikParamLen b + 8 * k * ikDepth b
def ikFlags (b : List Byte) (k : Nat) : Nat := ikValues b k + 4 * ikDepth b
def ikWork (b : List Byte) : Nat := 64 + 2 * ikParamLen b + 8 * ikInputs b * ikDepth b
def ikRegion (b : List Byte) : Nat := ikWork b + ikWorkLen b

/-- Is a number a power of two? -/
def isPow2 (n : Nat) : Bool := decide (n > 0) && 2 ^ Nat.log2 n == n

/-- Code word `i`. -/
def ikWord (b : List Byte) (i : Nat) : Nat := leAt b (128 + 4 * i) 4

/-- All code words. -/
def ikWords (b : List Byte) : List Nat := (List.range (ikCodeLen b / 4)).map (ikWord b)

/-! ### The schema (R298) -/

/-- One parameter. -/
structure Param where
  off : Nat
  ty : Ty
  role : Nat
  count : Nat
  min : Nat
  max : Nat
  dflt : Nat
deriving DecidableEq, Repr

/-- A numeric type of a code. -/
def tyOfCode (c : Nat) : Option Ty :=
  [Ty.bool, .u8, .u16, .u32, .u64, .i8, .i16, .i32, .i64, .f32, .f64, .ts64].find? (fun t => t.code == c)

/-- Schema entry `i`. -/
def ikParam (b : List Byte) (i : Nat) : Option Param :=
  let e := slice b (ikSchemaOff b + 32 * i) 32
  (tyOfCode (byteAt e 2)).map (fun t => ⟨leAt e 0 2, t, byteAt e 3, leAt e 4 2, leAt e 8 8, leAt e 16 8, leAt e 24 8⟩)

/-- A parameter's size in the block. -/
def Param.size (p : Param) : Nat := p.count * p.ty.size

/-- All parameters. -/
def ikParams (b : List Byte) : List Param := (List.range (ikSchemaCount b)).filterMap (ikParam b)

/-- Do any two ranges of a list overlap? -/
def overlapFree : List (Nat × Nat) → Bool
  | [] => true
  | (a, n) :: l => l.all (fun x => decide (a + n ≤ x.1 ∨ x.1 + x.2 ≤ a)) && overlapFree l

/-- Are the schema entries within their rule? -/
def schemaOk (b : List Byte) : Bool :=
  let ps := ikParams b
  ps.length == ikSchemaCount b
    && (List.range (ikSchemaCount b)).all (fun i => leAt b (ikSchemaOff b + 32 * i + 6) 2 == 0)
    && ps.all (fun p => decide (p.off % p.ty.size = 0) && decide (p.role ≤ 3) && decide (1 ≤ p.count ∧ p.count ≤ 1024)
        && decide (p.off + p.size ≤ ikParamLen b))
    && overlapFree (ps.map (fun p => (p.off, p.size)))

/-! ### Verification (R299) -/

/-- Every other header field within its rule. -/
def headerOk (b : List Byte) : Bool :=
  decide (byteAt b 21 ≤ 1) && ikTriggers b &&& 0xFFE1 == 0
    && decide (ikCodeLen b % 4 = 0 ∧ 4 ≤ ikCodeLen b ∧ ikCodeLen b ≤ 32768) && decide (ikEntry b < ikCodeLen b / 4)
    && decide (ikTableLen b % 128 = 0 ∧ ikTableLen b ≤ 128 * ikShared b) && decide (ikSchemaCount b ≤ 254)
    && decide (ikParamLen b % 32 = 0 ∧ ikParamLen b ≤ 8192) && decide (ikInputs b ≤ 32) && leAt b 54 2 == 0
    && (if ikInputs b = 0 then ikDepth b == 0
        else isPow2 (ikDepth b) && decide (16 ≤ ikDepth b ∧ ikDepth b ≤ 8192 ∧ 2 * ikWindow b ≤ ikDepth b))
    && decide (ikWorkLen b % 32 = 0) && decide (ikShared b ≤ 8192) && decide (1 ≤ ikWcet b ∧ ikWcet b ≤ 100000000)
    && decide (1 ≤ ikMaxUpd b ∧ ikMaxUpd b ≤ 64) && (slice b 84 44).all (· == 0) && decide (ikRegion b ≤ 65536)

/-- Do the sections lie as R296 lays them down, in an image of the written length? -/
def sectionsOk (b : List Byte) : Bool :=
  ikLen b == b.length && leAt b 24 4 == 128 && ikTableOff b == 128 + ikCodeLen b
    && ikSchemaOff b == ikTableOff b + ikTableLen b && ikSigOff b == ikSchemaOff b + 32 * ikSchemaCount b
    && ikSigOff b + 104 == b.length

/-- The reason an image fails verification, 0 for none: the first failure in the order of R299. [DEDUCED: log 46] -/
def Dev.imageReason (d : Dev) (b : List Byte) : Nat :=
  let key := byteAt b (ikSigOff b)
  if slice b 0 4 ≠ [0x49, 0x4B, 0x47, 0x53] ∨ leAt b 4 2 ≠ 1 ∨ leAt b 6 2 ≠ 128 then 1
  else if !sectionsOk b then 2
  else if decide (key > 3) || !d.on 0x501002 key then 3
  else if !((slice b (ikSigOff b + 1) 7).all (· == 0)
      && ecdsaVerify (d.getB 0x501001 key) (sha384 (b.take (ikSigOff b))) (beAt b (ikSigOff b + 8) 48)
        (beAt b (ikSigOff b + 56) 48)) then 4
  else if byteAt b 20 > 0x11 then 5
  else if !headerOk b then 6
  else if !(ikWords b).all legal then 7
  else if !(List.range (ikCodeLen b / 4)).all (fun i => !isBranch (ikWord b i)
      || decide (0 ≤ branchTo i (ikWord b i) ∧ branchTo i (ikWord b i) < (ikCodeLen b / 4 : Nat))) then 8
  else if !schemaOk b then 9
  else 0

/-! ### Slots and their images -/

/-- Replace the engines' part. -/
def Dev.setEng (d : Dev) (x : EngSt) : Dev := { d with eng := x }

/-- An empty slot. -/
def kslot0 : KSlot := ⟨none, none, 0, 0⟩

/-- Slot `k` (16 × logical engine + slot). -/
def Dev.kslot (d : Dev) (k : Nat) : KSlot := tget kslot0 d.eng.slots k

/-- Replace a slot. -/
def Dev.setKslot (d : Dev) (k : Nat) (x : KSlot) : Dev := d.setEng { d.eng with slots := tput kslot0 d.eng.slots k x }

/-- The image that object 0x5100:01 would give a slot: its bytes, empty for none. -/
def Dev.slotImage (d : Dev) (k : Nat) : List Byte :=
  let i := d.get 0x510001 k
  if i < 64 then d.getB 0x502001 i else []

/-- Write 32-bit words of little-endian bytes from a word-aligned offset; `n` words. -/
def putWords (t : Tab Nat) (addr : Nat) (bs : List Byte) : Nat → Tab Nat
  | 0 => t
  | n + 1 => putWords (tput 0 t (addr / 4) (leAt bs 0 4)) (addr + 4) (bs.drop 4) n

/-- The bytes of `n` words from a word-aligned offset. -/
def getWords (t : Tab Nat) (addr : Nat) : Nat → List Byte
  | 0 => []
  | n + 1 => leBytes 4 (tget 0 t (addr / 4)) ++ getWords t (addr + 4) n

/-- The object number of parameter `i` of any slot. -/
def paramObj (i : Nat) : Nat := 0x520000 + i + 1

/-- A parameter block built from values: numbers and byte strings of the slot's parameters. -/
def paramBlock (b : List Byte) (num : Nat → Nat) (oct : Nat → List Byte) : List Byte :=
  (List.range (ikSchemaCount b)).foldl (fun acc i =>
    match ikParam b i with
    | some p => splice acc p.off (if p.count = 1 then leBytes p.ty.size (num i) else padTo p.size (oct i))
    | none => acc) (zeros (ikParamLen b))

/-- The parameters' defaults become the active and the shadow values of object 0x5200 of a slot. [DEDUCED: log 45] -/
def Dev.paramDefaults (d : Dev) (k : Nat) (b : List Byte) : Dev :=
  (List.range (ikSchemaCount b)).foldl (fun d i =>
    match ikParam b i with
    | some p =>
      if p.count = 1 then (d.put (paramObj i) k (p.dflt % 2 ^ (8 * p.ty.size))).putSh (paramObj i) k (p.dflt % 2 ^ (8 * p.ty.size))
      else (d.putB (paramObj i) k (zeros p.size)).putShB (paramObj i) k (zeros p.size)
    | none => d) d

/-- The shared blocks as the loader initialises them: the TABLE section, the rest zero (R279). -/
def sharedInit (b : List Byte) : Tab Nat := putWords [] 0 (slice b (ikTableOff b) (ikTableLen b)) (ikTableLen b / 4)

/-- The loader places an image (R278, R300): code, TABLE, parameter defaults in both banks; where in the memories it
stands is the loader's own choice, a free value within the memory and its alignment. [DESIGN CHOICE: log 44] -/
def Dev.place (d : Dev) (k : Nat) (b : List Byte) : Loaded × Dev :=
  let d := d.paramDefaults k b
  let blk := paramBlock b (fun i => d.get (paramObj i) k) (fun i => d.getB (paramObj i) k)
  let data := putWords (putWords [] (ikBank b 0) blk (ikParamLen b / 4)) (ikBank b 1) blk (ikParamLen b / 4)
  let f := d.takeFree
  let g := f.2.takeFree
  let room := (8192 - ikCodeLen b / 4) + 1
  let droom := (65536 - ikRegion b) / 32 + 1
  (⟨b, putWords [] 0 (slice b 128 (ikCodeLen b)) (ikCodeLen b / 4), data, sharedInit b, 0, 0, f.1 % room, 32 * (g.1 % droom)⟩,
    g.2)

/-- Report a slot in its objects: state 0 empty, 1 loaded, 2 stopped. -/
def Dev.showSlot (d : Dev) (k : Nat) : Dev :=
  let x := d.kslot k
  let st := match x.cur with
    | none => 0
    | some _ => if x.stopped = 0 then 1 else 2
  let l := k / 16
  let d := (d.put 0x510002 k st).put 0x510006 k x.stopped
  let d := match x.cur with
    | some i => ((d.put 0x510003 k i.codeBase).put 0x510004 k (i.dataBase % 65536)).put 0x510005 k (ikRegion i.image)
    | none => ((d.put 0x510003 k 0).put 0x510004 k 0).put 0x510005 k 0
  d.put 0x500002 l (setBit (d.get 0x500002 l) (k % 16) (st != 0))

/-- Object 0x5100:01 of a slot applied at a boundary: the new image governs trigger times from it on, the old one those
before it until the epoch before it closes (R300). -/
def Dev.applySlot (d : Dev) (k t : Nat) : Dev :=
  let b := d.slotImage k
  let x := d.kslot k
  if b.isEmpty then (d.setKslot k ⟨none, x.cur, t, 0⟩).showSlot k
  else
    let r := d.place k b
    (r.2.setKslot k ⟨some r.1, x.cur, t, 0⟩).showSlot k

/-- The old image's memory is freed (R300). -/
def Dev.retireImages (d : Dev) : Dev :=
  d.eng.slots.foldl (fun d p =>
    match p.2.old with
    | some _ => if p.2.oldUntil ≤ d.epochStart (d.tab.closed + 1) then d.setKslot p.1 { d.kslot p.1 with old := none } else d
    | none => d) d

/-- A parameter write stages the slot's inactive bank from the shadow values (R301). -/
def Dev.stageParams (d : Dev) (k : Nat) : Dev :=
  let x := d.kslot k
  match x.cur with
  | none => d
  | some l =>
    let blk := paramBlock l.image (fun i => d.getSh (paramObj i) k) (fun i => d.getShB (paramObj i) k)
    d.setKslot k { x with cur := some { l with
      data := putWords l.data (ikBank l.image (1 - l.bank)) blk (ikParamLen l.image / 4) } }

/-- Parameters applied at a boundary: the other bank governs trigger times from it on (R301). -/
def Dev.applyParams (d : Dev) (k t : Nat) : Dev :=
  let x := d.kslot k
  match x.cur with
  | none => d
  | some l =>
    let blk := paramBlock l.image (fun i => d.get (paramObj i) k) (fun i => d.getB (paramObj i) k)
    d.setKslot k { x with cur := some { l with
      data := putWords l.data (ikBank l.image (1 - l.bank)) blk (ikParamLen l.image / 4), bank := 1 - l.bank, bankFrom := t } }

/-- The offset of the parameter bank that governs a trigger time. -/
def Loaded.bankAt (l : Loaded) (t : Nat) : Nat := ikBank l.image (if t < l.bankFrom then 1 - l.bank else l.bank)

/-! ### The image store (R299) -/

/-- Does the image store entry name an active or staged slot? -/
def Dev.imageInUse (d : Dev) (i : Nat) : Bool :=
  (d.listed 0x510001).any (fun k => d.get 0x510001 k == i)
    || d.obj.dict.shNum.any (fun p => p.1 / 4294967296 == 0x510001 && p.2 == i)
    || d.eng.slots.any (fun p => match p.2.old with
        | some l => l.image == d.getB 0x502001 i
        | none => false)

/-- The image bytes were written: status 1, no reason, header fields not reported (R299). -/
def Dev.imageWritten (d : Dev) (i : Nat) : Dev :=
  let st := if (d.getB 0x502001 i).isEmpty then 0 else 1
  [0x502004, 0x502005, 0x502006, 0x502007, 0x502008].foldl (fun d o => d.put o i 0) (d.put 0x502003 i st)

/-- Verification starts: status 2. -/
def Dev.imageVerify (d : Dev) (i : Nat) : Dev :=
  if d.get 0x502003 i = 0 then d
  else (d.put 0x502003 i 2).setEng { d.eng with verifying := d.eng.verifying.filter (· != i) ++ [i] }

/-- Verification ends within 5 ms: status 3, or 4 and the reason. -/
def imageVerifyComplete (i : Nat) (d : Dev) : Dev :=
  if d.get 0x502003 i ≠ 2 then d else
  let b := d.getB 0x502001 i
  let r := d.imageReason b
  let d := d.setEng { d.eng with verifying := d.eng.verifying.filter (· != i) }
  let d := (d.put 0x502003 i (if r = 0 then 3 else 4)).put 0x502004 i r
  if r = 0 then
    (((d.put 0x502005 i (ikKernel b)).put 0x502006 i (ikVersion b)).put 0x502007 i (ikWcet b)).put 0x502008 i
      (byteAt b (ikSigOff b))
  else d

/-- The entry is erased: bytes, status and fields at their defaults. -/
def Dev.imageErase (d : Dev) (i : Nat) : Dev :=
  let d := d.setEng { d.eng with verifying := d.eng.verifying.filter (· != i) }
  (d.putB 0x502001 i []).imageWritten i

end Sys2Proof.Machine
end

