-- ==== Sys2Proof/Machine/Frames.lean ====
section
/-! DEFINITION. Reading the fields of an Ethernet frame: addresses, VLAN tags, R-TAG, HSR tag and PRP trailer, IPv4 and
UDP (R112, R140, R181, R187, R245). A frame's bytes start at its destination address and leave out the FCS. -/
namespace Sys2Proof.Machine

/-- Where the EtherType after up to two VLAN tags lies. -/
def vlanEnd (b : List Byte) : Nat :=
  let isTag := fun o => beAt b o 2 = 0x8100 ∨ beAt b o 2 = 0x88A8
  if isTag 12 then (if isTag 16 then 20 else 16) else 12

/-- The first VLAN tag's control word, where the frame is tagged. -/
def vlanTci (b : List Byte) : Option Nat := if vlanEnd b = 12 then none else some (beAt b 14 2)

/-- The VID, or 0x1000 for an untagged or priority-tagged frame (object 0x3100:03). -/
def frameVid (b : List Byte) : Nat :=
  match vlanTci b with
  | some t => if t % 4096 = 0 then 0x1000 else t % 4096
  | none => 0x1000

/-- The sequence number of an R-TAG (EtherType 0xF1C1). -/
def rTag (b : List Byte) : Option Nat := if beAt b (vlanEnd b) 2 = 0xF1C1 then some (beAt b (vlanEnd b + 4) 2) else none

/-- The sequence number of an HSR tag (EtherType 0x892F). -/
def hsrTag (b : List Byte) : Option Nat := if beAt b (vlanEnd b) 2 = 0x892F then some (beAt b (vlanEnd b + 4) 2) else none

/-- Where the EtherType proper lies, behind VLAN tags and a redundancy tag. -/
def typeAt (b : List Byte) : Nat := if (rTag b).isSome || (hsrTag b).isSome then vlanEnd b + 6 else vlanEnd b

/-- The EtherType. -/
def frameType (b : List Byte) : Nat := beAt b (typeAt b) 2

/-- The payload behind the EtherType. -/
def payload (b : List Byte) : List Byte := b.drop (typeAt b + 2)

/-- A PRP trailer (R187): sequence number and LanId, where its suffix is 0x88FB and its size equals the LSDU's length. -/
def prpTrailer (b : List Byte) : Option (Nat × Nat) :=
  let n := b.length
  if n < 20 ∨ beAt b (n - 2) 2 ≠ 0x88FB then none
  else if beAt b (n - 4) 2 % 4096 = n - (vlanEnd b + 2) then some (beAt b (n - 6) 2, beAt b (n - 4) 2 / 4096) else none

/-- Destination and source address. -/
def dstMac (b : List Byte) : List Byte := b.take 6
def srcMac (b : List Byte) : List Byte := slice b 6 6

/-- Is the destination a group address? -/
def isGroup (b : List Byte) : Bool := byteAt b 0 % 2 == 1

/-- Is the destination the broadcast address? -/
def isBroadcast (b : List Byte) : Bool := dstMac b == List.replicate 6 0xFF

/-- An IPv4 and UDP datagram: addresses, DSCP, ports, and its data. -/
structure Udp where
  src : Nat
  dst : Nat
  dscp : Nat
  sport : Nat
  dport : Nat
  data : List Byte
deriving DecidableEq, Repr

/-- Length of the IPv4 header in a payload. -/
def ipHeader (p : List Byte) : Nat := 4 * (byteAt p 0 % 16)

/-- The UDP datagram a frame carries, if it carries one whole. -/
def frameUdp (b : List Byte) : Option Udp :=
  let p := payload b
  let h := ipHeader p
  if frameType b = 0x0800 ∧ byteAt p 0 / 16 = 4 ∧ byteAt p 9 = 17 ∧ beAt p 6 2 % 0x4000 = 0 ∧ 20 ≤ h ∧ h + 8 ≤ p.length then
    some ⟨beAt p 12 4, beAt p 16 4, byteAt p 1 / 4, beAt p h 2, beAt p (h + 2) 2, slice p (h + 8) (beAt p (h + 4) 2 - 8)⟩
  else none

/-- Where a PTP message lies in a frame: EtherType 0x88F7, or UDP port 319 or 320 (R116). -/
def ptpAt (b : List Byte) : Option Nat :=
  if frameType b = 0x88F7 then some (typeAt b + 2)
  else match frameUdp b with
    | some u => if u.dport = 319 ∨ u.dport = 320 then some (typeAt b + 2 + ipHeader (payload b) + 8) else none
    | none => none

end Sys2Proof.Machine
end

