-- ==== Sys2Proof/Machine/TimeIo.lean ====
section
/-! DEFINITION. Time inputs and outputs: PPS_IN, TOD_RX, IRIG_IN, TRIG_IN, PPS_OUT, IRIG_OUT and TRIG_OUT
(R100 to R108, R516). -/
namespace Sys2Proof.Machine

/-- Picoseconds in units of 2^-16 ns, rounded toward minus infinity. -/
def psTime (ps : Int) : Int := ps * 65536 / 1000

/-- A time moved by a signed amount. -/
def shiftTime (t : Nat) (x : Int) : Nat := ((t : Int) + x).toNat

/-- The interpolator's 62.5 ps steps: 4,096 units of 2^-16 ns. -/
def quantise (t : Nat) : Nat := t / 4096 * 4096

/-- Are the time inputs and outputs powered? They are off in DOZE and LANTERN. -/
def Dev.timePins (d : Dev) : Bool := d.power == 2

/-! ### PPS_IN (R100) -/

/-- A PPS input before any edge. -/
def ppsIn0 : PpsIn := ⟨none, none⟩

/-- The second nearest to a time. -/
def nearestSecond (t : Nat) : Nat := (t + ms 500) / sec 1

/-- The seconds label of an edge at `t` that another reference supplies: the whole second nearest to that reference's
time (R100). -/
def Dev.refLabel (d : Dev) (r t : Nat) : Option Nat :=
  if (d.ref r).valid then some (nearestSecond (shiftTime t (d.ref r).lastOffset)) else none

/-- An accepted edge meets its label, or waits for one (R100, R101). -/
def Dev.labelEdge (d : Dev) (n t : Nat) : Dev :=
  let src := d.get 0x202003 n
  if src = 2 then
    match d.refLabel 1 t with
    | some l => d.refInput (2 + n) t l
    | none => d
  else if src = 3 then
    match d.refLabel 4 t with
    | some l => d.refInput (2 + n) t l
    | none => d
  else
    match d.tim.todNext with
    | some (l, at_) =>
      if at_ + ms 100 ≤ t ∧ t ≤ at_ + ms 900 then d.refInput (2 + n) t l
      else (d.inc 0x203004 0).setTim { d.tim with ppsIn := tput ppsIn0 d.tim.ppsIn n { tget ppsIn0 d.tim.ppsIn n with waiting := some t } }
    | none => d.setTim { d.tim with ppsIn := tput ppsIn0 d.tim.ppsIn n { tget ppsIn0 d.tim.ppsIn n with waiting := some t } }

/-- A PPS_IN edge captured at `t` with a pulse width in ns (R100): the edge chosen, at least 50 ns wide, less the cable
delay; within 0.5 s of the last accepted edge, or inconsistent under R81, it is counted; otherwise it raises source 24
and is used under its label. [DEDUCED: log 12] -/
def ppsEdge (n : Fin 2) (falling : Bool) (t width : Nat) (d : Dev) : Dev :=
  let d := d.at_ t
  if !d.timePins || falling != (d.get 0x202001 n == 1) || decide (width < 50) then d else
  let t1 := shiftTime (quantise t) (- psTime (d.geti 0x202002 n))
  let x := tget ppsIn0 d.tim.ppsIn n
  let close := match x.lastEdge with
    | some u => decide (t1 < u + ms 500)
    | none => false
  if close then d.inc 0x202005 n else
  let r := d.ref (2 + n)
  let bad := match r.last with
    | some u => r.valid && !refConsistent (2 + n) u 0 t1 0
    | none => false
  let d := d.setTim { d.tim with ppsIn := tput ppsIn0 d.tim.ppsIn n ⟨if bad then x.lastEdge else some t1, none⟩ }
  let d := if bad then d.inc 0x202005 n else d.raiseAt t1 24 (8 + n) 0 0
  d.labelEdge n t1

/-! ### TOD_RX (R101, R516) -/

/-- The value of an ASCII digit. -/
def digit (b : Byte) : Option Nat := if 48 ≤ b.toNat ∧ b.toNat ≤ 57 then some (b.toNat - 48) else none

/-- A decimal field of ASCII digits; none where another character stands in it or it is empty. -/
def decField (bs : List Byte) : Option Nat :=
  if bs.isEmpty then none else bs.foldl (fun a b =>
    match a, digit b with
    | some n, some k => some (n * 10 + k)
    | _, _ => none) (some 0)

/-- The value of an ASCII hexadecimal digit. -/
def hexDigit (b : Byte) : Option Nat :=
  let x := b.toNat
  if 48 ≤ x ∧ x ≤ 57 then some (x - 48) else if 65 ≤ x ∧ x ≤ 70 then some (x - 55)
  else if 97 ≤ x ∧ x ≤ 102 then some (x - 87) else none

/-- Split bytes at a separator. -/
def splitAt_ (sep : Byte) : List Byte → List (List Byte)
  | [] => [[]]
  | b :: t =>
    if b = sep then [] :: splitAt_ sep t
    else match splitAt_ sep t with
      | x :: xs => (b :: x) :: xs
      | [] => [[b]]

/-- Days from 1970-01-01 to a civil date. -/
def civilDays (y m dd : Nat) : Int :=
  let y' : Int := if m ≤ 2 then (y : Int) - 1 else y
  let era := y' / 400
  let yoe := y' - era * 400
  let mp : Int := if m > 2 then (m : Int) - 3 else (m : Int) + 9
  let doy := (153 * mp + 2) / 5 + dd - 1
  era * 146097 + (yoe * 365 + yoe / 4 - yoe / 100 + doy) - 719468

/-- The UTC second of a ZDA sentence (R101): any talker, a right checksum, a fractional part absent or zero. -/
def zdaSecond (bs : List Byte) : Option Int :=
  let body := (bs.drop 1).takeWhile (fun b => b != 42)
  let tail := (bs.drop 1).dropWhile (fun b => b != 42)
  let sum := body.foldl (fun a b => a ^^^ b.toNat) 0
  let chk := match tail with
    | _ :: h :: l :: _ => (match hexDigit h, hexDigit l with
      | some x, some y => some (16 * x + y)
      | _, _ => none)
    | _ => none
  let f := splitAt_ 44 body
  let head := f.getD 0 []
  let time := f.getD 1 []
  let frac := time.drop 6
  let fracOk := frac.isEmpty || (frac.headD 0 == 46 && (frac.drop 1).all (fun b => b == 48))
  if bs.headD 0 == 36 && chk == some sum && head.length == 5 && head.drop 2 == [90, 68, 65] && fracOk then
    match decField (slice time 0 2), decField (slice time 2 2), decField (slice time 4 2), decField (f.getD 2 []),
        decField (f.getD 3 []), decField (f.getD 4 []) with
    | some h, some mi, some s, some dd, some mo, some y =>
      if h < 24 ∧ mi < 60 ∧ s ≤ 60 ∧ 1 ≤ dd ∧ dd ≤ 31 ∧ 1 ≤ mo ∧ mo ≤ 12 then
        some (civilDays y mo dd * 86400 + h * 3600 + mi * 60 + s)
      else none
    | _, _, _, _, _, _ => none
  else none

/-- A TOD_RX message read (R101): the TAI second it labels if it labels one, whether it labels the next edge, and the
offset and leap indication it supplies. -/
structure TodRead where
  label : Option Nat
  next : Bool
  utc : Option UtcSrc
deriving DecidableEq, Repr

/-- Read a TOD_RX message in the format of object 0x2030:01 (R101); none where it is malformed. -/
def Dev.readTod (d : Dev) (bs : List Byte) (t : Nat) : Option TodRead :=
  let nextObj := d.get 0x203003 0 == 1
  if d.get 0x203001 0 = 1 then
    match zdaSecond bs with
    | some u => some ⟨some (u + d.tim.utcOff).toNat, nextObj, none⟩
    | none => none
  else if bs.length = 16 ∧ byteAt bs 0 = 0x4B ∧ byteAt bs 1 = 0x54 ∧ byteAt bs 2 = 1 ∧ beAt bs 12 2 = 0 ∧
      crc16 0x1021 0xFFFF (bs.take 14) = beAt bs 14 2 then
    let fl := byteAt bs 3
    let next := nextObj || bit fl 3
    if bit fl 0 then
      some ⟨some (beAt bs 4 6), next, some ⟨toInt 16 (beAt bs 10 2), bit fl 1, bit fl 2, t⟩⟩
    else some ⟨none, next, none⟩
  else none

/-- Label the edges that wait for a TOD_RX label, 0 to 900 ms after the edge; says whether any was labelled (R101). -/
def Dev.todPreceding (d : Dev) (l t : Nat) : Bool × Dev :=
  [0, 1].foldl (fun (acc : Bool × Dev) n =>
    let d := acc.2
    match (tget ppsIn0 d.tim.ppsIn n).waiting with
    | some te =>
      if d.get 0x202003 n = 1 ∧ te ≤ t ∧ t ≤ te + ms 900 then
        let last := (tget ppsIn0 d.tim.ppsIn n).lastEdge
        (true, (d.setTim { d.tim with ppsIn := tput ppsIn0 d.tim.ppsIn n ⟨last, none⟩ }).refInput (2 + n) te l)
      else acc
    | none => acc) (false, d)

/-- A TOD_RX message is complete at `t` (R101). -/
def todMessage (bs : List Byte) (t : Nat) (d : Dev) : Dev :=
  let d := d.at_ t
  if !d.timePins then d else
  match d.readTod bs t with
  | none => d.inc 0x203004 0
  | some m =>
    let d := match m.utc with
      | some u => (d.setTim { d.tim with utcTod := some u }).resolveUtc
      | none => d
    match m.label with
    | none => d
    | some l =>
      if m.next then d.setTim { d.tim with todNext := some (l, t) }
      else
        let r := d.todPreceding l t
        if r.1 then r.2 else r.2.inc 0x203004 0

/-- 1.5 s have passed since the last accepted binary message: TOD_RX stops being current (R85). -/
def todNotCurrent (d : Dev) : Dev :=
  match d.tim.utcTod with
  | some u =>
    let d := d.at_ (u.at_ + ms 1500 + 1)
    (d.setTim { d.tim with utcTod := none }).resolveUtc
  | none => d

/-! ### IRIG_IN (R102) -/

/-- An IRIG-B frame whose reference marker was captured at `f.time` (R102): discarded and counted with bad parity, with
no year, or with a time quality worse than object 0x2040:01; otherwise it labels the marker's edge. [PRESUMED: log 7] -/
def irigFrame (f : IrigFrame) (d : Dev) : Dev :=
  let d := d.at_ f.time
  if !d.timePins then d else
  let d := d.put 0x204003 0 (f.code % 8)
  let qBad := match f.ctrl with
    | some c => decide (c.quality > d.get 0x204001 0)
    | none => false
  if !f.parityOk || (!f.bcdYear && f.ctrl.isNone) || qBad then d.inc 0x204005 0 else
  let utc : Int := match f.ctrl with
    | some c => (f.second : Int) + c.offsetHalfHours * 1800
    | none => f.second
  let d := match f.ctrl with
    | some c =>
      (d.setTim { d.tim with utcIrig := some ⟨c.utcOffset, c.leapPending && !c.leapNegative,
        c.leapPending && c.leapNegative, f.time⟩ })
    | none => d.setTim { d.tim with utcIrig := none }
  let d := d.resolveUtc
  let t1 := shiftTime (quantise f.time) (- psTime (d.geti 0x204002 0))
  (d.refInput 4 t1 (utc + d.tim.utcOff).toNat).resolveUtc

/-! ### TRIG_IN (R103) -/

/-- A TRIG_IN unit before any edge. -/
def trigIn0 : TrigIn := ⟨[], none⟩

/-- A TRIG_IN edge at `t` ends or begins a pulse of `width` ns (R103). -/
def trigEdge (n : Fin 8) (falling : Bool) (t width : Nat) (d : Dev) : Dev :=
  let d := d.at_ t
  let mode := d.get 0x207001 n
  let chosen := mode == 2 || (mode == 0 && !falling) || (mode == 1 && falling)
  if !d.timePins || !chosen || decide (width < d.get 0x207002 n) then d else
  let x := tget trigIn0 d.tim.trigIn n
  let t1 := quantise t
  let close := match x.lastEdge with
    | some u => decide (t1 < u + ns 100)
    | none => false
  if close || decide (x.queue.length ≥ 16) then d.inc 0x207004 n else
  let d := d.setTim { d.tim with trigIn := tput trigIn0 d.tim.trigIn n ⟨x.queue ++ [⟨t1, falling⟩], some t1⟩ }
  if d.on 0x207003 n then d.raiseAt t1 24 n 0 0 else d

/-- The 12 bytes of a KTIME96 value: FRAC, NS, SECONDS (R70). -/
def ktimeBytes (t : Nat) : List Byte := leBytes 12 (ktimeOf t)

/-- One 16-byte entry of a capture queue (R103). -/
def trigBytes (c : TrigCap) : List Byte := ktimeBytes c.time ++ [byte (b2n c.falling), 0, 0, 0]

/-- A read of object 0x2070:05 returns and removes up to 16 entries, oldest first (R103). -/
def Dev.takeTrig (d : Dev) (n : Nat) : List Byte × Dev :=
  let x := tget trigIn0 d.tim.trigIn n
  ((x.queue.take 16).flatMap trigBytes,
    d.setTim { d.tim with trigIn := tput trigIn0 d.tim.trigIn n { x with queue := x.queue.drop 16 } })

/-! ### Outputs (R104 to R108) -/

/-- Is the time scope in the safe state, on its own or with the device scope (R108, R458)? -/
def Dev.timeSafe (d : Dev) : Bool := d.safe 18 || d.safe 19

/-- A PPS_OUT before its first second boundary. -/
def ppsOut0 : PpsOut := ⟨1000000000, 100000, 0, 0⟩

/-- A PPS_OUT's next rising edge: the first whole multiple of its period after now; at a second boundary the period and
width of the objects take effect (R104). -/
def Dev.nextPps (d : Dev) (n : Nat) : PpsOut :=
  let x := tget ppsOut0 d.tim.ppsOut n
  let sb := ceilTo (d.now + 1) (sec 1)
  let t := ceilTo (d.now + 1) (ns x.period)
  if t ≥ sb then ⟨d.get 0x205002 n * 1000, d.get 0x205003 n, sb, 0⟩ else { x with last := t }

/-- PPS_OUTn emits a pulse at the next whole multiple of its period, less the phase advance, unless it is disabled, held
low without traceable time, or driven low in the safe state (R104, R108). -/
def ppsOutPulse (n : Fin 4) (d : Dev) : Dev :=
  if !d.timePins then d else
  let x := d.nextPps n
  let d := d.at_ x.last
  let t := shiftTime x.last (- psTime (d.geti 0x205004 n))
  let live := d.on 0x205001 n && !d.timeSafe && (d.traceable || d.get 0x205005 n == 1)
  let d := d.setTim { d.tim with
    ppsOut := tput ppsOut0 d.tim.ppsOut n { x with until_ := if live then t + ns x.width else 0 } }
  if live then (d.emit (.pin "PPS_OUT" n true t)).emit (.pin "PPS_OUT" n false (t + ns x.width)) else d

/-- The bound in ns that an IEEE 1344 time quality code states; code 0 states no error. -/
def qualityBound (c : Nat) : Nat := if c = 0 then 0 else 10 ^ (c - 1)

/-- The smallest IEEE 1344 code whose bound is at least an error in 2^-16 ns; 0xF beyond them (R105). -/
def qualityOf (e : Nat) : Nat :=
  match [1, 2, 3, 4, 5, 6, 7, 8, 9, 10, 11].find? (fun c => decide (e ≤ ns (qualityBound c))) with
  | some c => c
  | none => 15

/-- The IEEE 1344 time quality of IRIG_OUT (R105, R108). -/
def Dev.irigQuality (d : Dev) : Nat :=
  if d.timeSafe || !d.traceable then 15 else
  match d.tim.holder with
  | some k => if d.servo k = 2 then 0 else qualityOf (d.holdoverNow k)
  | none => 15

/-- IRIG_OUT begins the frame of the next TAI second (R105): the code set, the UTC second it labels in the local offset
of object 0x2041:03, and the time quality. -/
def irigOutFrame (d : Dev) : Dev :=
  if !d.timePins || !d.on 0x204104 0 then d else
  let t := ceilTo (d.now + 1) (sec 1)
  let d := d.at_ t
  let d := d.setTim { d.tim with irigLast := t }
  let utc : Int := (t / sec 1 : Nat) - d.tim.utcOff + d.geti 0x204103 0 * 1800
  d.emit (.irig (d.get 0x204101 0) utc.toNat (if d.on 0x204102 0 then d.irigQuality else 0))

/-- A TRIG_OUT without a plan. -/
def trigOut0 : TrigOut := ⟨0, 0, 0, none, false, 0⟩

/-- The period of a TRIG_OUT plan in units of 2^-16 ns: object 0x2080:03 holds ns in bits 63:16 and the fraction below,
which is that unit (R107). -/
def Dev.trigPeriod (d : Dev) (n : Nat) : Nat := d.get 0x208003 n

/-- The refusal of an ARM, 0 for none (R107), the lowest code first (R69). -/
def Dev.armCode (d : Dev) (n : Nat) : Nat :=
  let st := d.get 0x208006 n
  if d.trigPeriod n ≠ 0 ∧ ns (d.get 0x208002 n) ≥ d.trigPeriod n then 0x0404
  else if st = 1 ∨ st = 2 then 0x0502
  else if timeOfKtime (d.get 0x208001 n) < d.now + us 2 then 0x0504
  else 0

/-- ARM takes the plan of the objects (R107). -/
def Dev.armTrig (d : Dev) (n : Nat) : Dev :=
  let c := d.get 0x208004 n
  (d.setTim { d.tim with
    trigOut := tput trigOut0 d.tim.trigOut n
      ⟨timeOfKtime (d.get 0x208001 n), d.trigPeriod n, ns (d.get 0x208002 n), if c = 0 then none else some c, true, 0⟩ }).put
    0x208006 n 1

/-- DISARM lets a pulse in progress finish, and no further pulse starts (R107). -/
def Dev.disarmTrig (d : Dev) (n : Nat) : Dev :=
  let x := tget trigOut0 d.tim.trigOut n
  let st := d.get 0x208006 n
  let d := d.setTim { d.tim with trigOut := tput trigOut0 d.tim.trigOut n { x with active := false } }
  if st = 1 ∨ st = 2 then d.put 0x208006 n 0 else d

/-- TRIG_OUTn starts the next planned pulse at its instant (R107); in the time scope's safe state the pin stays low
while the plan runs on (R108). [DEDUCED: log 13] -/
def trigOutPulse (n : Fin 8) (d : Dev) : Dev :=
  let x := tget trigOut0 d.tim.trigOut n
  if !x.active || !d.timePins then d else
  let d := d.at_ x.next
  let left := x.left.map (· - 1)
  let past := left == some 0 || x.period == 0
  let safe := d.timeSafe
  let y : TrigOut := ⟨x.next + x.period, x.period, x.width, left, !past, if safe then 0 else x.next + x.width⟩
  let d := (d.setTim { d.tim with trigOut := tput trigOut0 d.tim.trigOut n y }).put 0x208006 n (if past then 3 else 2)
  if safe then d
  else (d.emit (.pin "TRIG_OUT" n true x.next)).emit (.pin "TRIG_OUT" n false (x.next + x.width))

/-- In the time scope's safe state every pulse in progress is cut short (R108, R458). -/
def Dev.cutPulses (d : Dev) : Dev :=
  let now := d.now
  let d := d.setTim { d.tim with
    ppsOut := tmap ppsOut0 (fun p => { p with until_ := 0 }) d.tim.ppsOut,
    trigOut := tmap trigOut0 (fun p => { p with until_ := 0 }) d.tim.trigOut }
  d.emit (.pin "TIME_OUTPUTS" 0 false now)

/-- TKCLK_OUT runs while it is enabled, powered, not in the safe state, and traceable unless object 0x2060:02 says emit
(R106, R108). -/
def Dev.tkclkRuns (d : Dev) : Bool :=
  d.timePins && d.on 0x206001 0 && !d.timeSafe && (d.traceable || d.get 0x206002 0 == 1)

/-- Set both counters to a KTIME96 time (object 0x2000:09, R109). -/
def Dev.setCounters (d : Dev) (k : Nat) : Dev :=
  let c := timeOfKtime k * 65536
  let old := d.now
  let d := (d.updTk .a fun x => { x with count := c }).updTk .b fun x => { x with count := c }
  (d.setTim { d.tim with hOffset := 0 }).skipPlans old

/-- The refusal of a write of object 0x2000:09: both timekeepers must be in FREERUN (R109). -/
def Dev.setCountersCode (d : Dev) : Nat := if d.servo .a = 0 ∧ d.servo .b = 0 then 0 else 0x0502

/-! ### COMMIT checks (R104, R109) -/

/-- What a COMMIT checks of the objects of this chapter, on the values a transaction would make active; 0 for none. -/
def Dev.checkTime (d : Dev) (o e : Nat) : Nat :=
  let i := o / 256
  let bad := fun (ok : Bool) => if ok then 0 else 0x0404
  if o = 0x200201 ∨ o = 0x200203 then bad (decide (d.get 0x200201 0 < d.get 0x200203 0))
  else if i = 0x2010 then
    bad ([0, 1, 2, 3].all (fun k => k == e || d.get o k == 0 || d.get o k != d.get o e))
  else if o = 0x205002 ∨ o = 0x205003 then bad (decide (d.get 0x205003 e < 1000 * d.get 0x205002 e))
  else 0

end Sys2Proof.Machine
end

