-- ==== Sys2Proof/Machine/Ptp.lean ====
section
/-! DEFINITION. PTP instances and ports, the PTP reference, the transparent clock, transmit timestamp queues and links
(R111 to R136). Message fields lie where IEEE 1588-2019 puts them (PRESUMED, log 21). -/
namespace Sys2Proof.Machine

/-- Replace the network time part. -/
def Dev.setNet (d : Dev) (x : NetSt) : Dev := { d with net := x }

/-- A PTP port before any message. -/
def ptpPort0 : PtpPort := ⟨none, none, none, none, [], none, 0, 0, 0, none, 0⟩

/-- The element of object 0x2120 of an instance's port (R138). -/
def ptpElem (i p : Nat) : Nat := 17 * i + p

/-- A PTP port's bookkeeping. -/
def Dev.ptp (d : Dev) (i p : Nat) : PtpPort := tget ptpPort0 d.net.ptp (ptpElem i p)

/-- Replace a PTP port's bookkeeping. -/
def Dev.setPtp (d : Dev) (i p : Nat) (x : PtpPort) : Dev :=
  d.setNet { d.net with ptp := tput ptpPort0 d.net.ptp (ptpElem i p) x }

/-- A port's link before it comes up. -/
def netLink0 : NetLink := ⟨false, 0, 0⟩

/-- A port's link: 0 to 15 for P0 to P15, 16 for MGT. -/
def Dev.netLink (d : Dev) (p : Nat) : NetLink := tget netLink0 d.net.links p

/-! ### Port timestamps (R111 to R113) -/

/-- A receive timestamp with the ingress adjustment subtracted (R113). -/
def Dev.rxStamp (d : Dev) (p t : Nat) : Nat := shiftTime t (- psTime (d.geti 0x213001 p))

/-- A transmit timestamp with the egress adjustment added (R113). -/
def Dev.txStamp (d : Dev) (p t : Nat) : Nat := shiftTime t (psTime (d.geti 0x213002 p))

/-! ### Message fields -/

/-- Message kind: 0 Sync, 1 Delay_Req, 2 Pdelay_Req, 3 Pdelay_Resp, 8 Follow_Up, 9 Delay_Resp, 10
Pdelay_Resp_Follow_Up, 11 Announce, 13 Management. -/
def ptpKind (m : List Byte) : Nat := byteAt m 0 % 16
/-- sdoId: majorSdoId and minorSdoId. -/
def ptpSdo (m : List Byte) : Nat := byteAt m 0 / 16 * 256 + byteAt m 5
/-- domainNumber. -/
def ptpDomain (m : List Byte) : Nat := byteAt m 4
/-- twoStepFlag. -/
def ptpTwoStep (m : List Byte) : Bool := bit (byteAt m 6) 1
/-- correctionField in 2^-16 ns. -/
def ptpCorr (m : List Byte) : Int := toInt 64 (beAt m 8 8)
/-- sourcePortIdentity as one number. -/
def ptpSrc (m : List Byte) : Nat := beAt m 20 10
/-- sequenceId. -/
def ptpSeq (m : List Byte) : Nat := beAt m 30 2
/-- The timestamp that follows the header. -/
def ptpStamp (m : List Byte) : Nat := sec (beAt m 34 6) + ns (beAt m 40 4)
/-- requestingPortIdentity of an answer. -/
def ptpAsker (m : List Byte) : Nat := beAt m 44 10
/-- Is it an event message? -/
def ptpEvent (m : List Byte) : Bool := decide (ptpKind m ≤ 3)

/-- The dataset of an Announce message. -/
def ptpDs (m : List Byte) : PtpDs :=
  ⟨byteAt m 47, byteAt m 48, byteAt m 49, beAt m 50 2, byteAt m 52, beAt m 53 8, beAt m 61 2, beAt m 20 8, beAt m 28 2,
    byteAt m 7, toInt 16 (beAt m 44 2), byteAt m 63⟩

/-- A message with its correctionField changed by an amount. -/
def ptpAddCorr (m : List Byte) (x : Int) : List Byte := splice m 8 (beBytes 8 (ofInt 64 (ptpCorr m + x)))

/-- The ten bytes of a PTP timestamp. -/
def ptpStampBytes (t : Nat) : List Byte := beBytes 6 (t / sec 1) ++ beBytes 4 (t / 65536 % 1000000000)

/-- The device's own port identity: clockIdentity and portNumber (R120). -/
def Dev.ptpSelf (d : Dev) (p : Nat) : Nat := beNat (d.getB 0x210001 0) * 65536 + (p + 1)

/-! ### Instances (R116 to R122) -/

/-- Is an instance enabled on a port? In DOZE and LANTERN only MGT takes part (R136). -/
def Dev.ptpOn (d : Dev) (i p : Nat) : Bool :=
  d.on 0x211001 i && d.on 0x212001 (ptpElem i p) && (d.power == 2 || p == 16)

/-- Is a domain corrected as a transparent clock (object 0x2140), and at which element? -/
def Dev.tcDomain (d : Dev) (dom : Nat) : Option Nat := [0, 1, 2, 3].find? (fun k => d.get 0x214001 k == dom)

/-- Is it a message of the peer delay exchange, which no device forwards? -/
def ptpPeer (m : List Byte) : Bool := ptpKind m == 2 || ptpKind m == 3 || ptpKind m == 10

/-- Does instance 4 + k run on a port: the transparent clock's own peer delay exchange in the domain that element k of object
0x2140 lists (R125, R136)? -/
def Dev.tcOn (d : Dev) (i p : Nat) : Bool :=
  decide (4 ≤ i) && d.get 0x214001 (i - 4) != 0xFFFF && decide (p < 16) && d.power == 2

/-- The instance that terminates a message on a port, if any; 4 + k for a peer delay message of a listed domain. -/
def Dev.ptpInst (d : Dev) (p : Nat) (m : List Byte) : Option Nat :=
  match [0, 1, 2, 3].find? (fun i => d.ptpOn i p && d.get 0x211003 i == ptpDomain m && d.get 0x211004 i == ptpSdo m) with
  | some i => some i
  | none => if ptpPeer m && decide (p < 16) && d.power == 2 then (d.tcDomain (ptpDomain m)).map (· + 4) else none

/-- domainNumber and sdoId that an instance sends with. -/
def Dev.ptpDom (d : Dev) (i : Nat) : Nat := if i < 4 then d.get 0x211003 i else d.get 0x214001 (i - 4)
/-- The sdoId that an instance sends with; 0 in a listed domain. -/
def Dev.ptpSdoOf (d : Dev) (i : Nat) : Nat := if i < 4 then d.get 0x211004 i else 0

/-- Does the instance measure the delay end to end (R116)? -/
def Dev.ptpE2e (d : Dev) (i : Nat) : Bool := decide (i < 4) && d.get 0x211002 i == 1

/-- A PTP port's state (object 0x2120:08): 0 not enabled, 3 DISABLED, 4 LISTENING, 6 MASTER, 7 PASSIVE, 8 UNCALIBRATED,
9 SLAVE. -/
def Dev.ptpState (d : Dev) (i p : Nat) : Nat := d.get 0x212008 (ptpElem i p)

/-- The parent of the reference instance: the dataset heard on its slave port. -/
def Dev.ptpParent (d : Dev) : Option PtpDs :=
  match d.net.slave with
  | some p => (d.ptp (d.get 0x210002 0) p).foreign
  | none => none

/-- Is PTP the selected reference (R79), and valid? -/
def Dev.ptpSelected (d : Dev) : Bool := d.get 0x201101 0 == 1 && (d.ref 1).valid

/-- The device's own clockClass (R122); 248 while it takes its time from PTP. [DEDUCED: log 175] -/
def Dev.ownClass (d : Dev) : Nat :=
  if d.ptpSelected then 248 else
  match d.tim.holder with
  | some k => if d.servo k = 2 then 6 else if d.servo k = 3 then (if d.tim.hoLimit then 52 else 7) else 248
  | none => 248

/-- The device's own dataset of an instance (R122). -/
def Dev.ownDs (d : Dev) (i : Nat) : PtpDs :=
  ⟨d.get 0x211005 i, d.ownClass, 0x21, 0x4E5D, d.get 0x211006 i, beNat (d.getB 0x210001 0), 0,
    beNat (d.getB 0x210001 0), 0, b2n d.tim.leap61 + 2 * b2n d.tim.leap59 + 4 + 8 + 16 * b2n d.traceable + 32 * b2n d.traceable,
    d.tim.utcOff, d.get 0x210003 0⟩

/-- The grandmaster dataset announced (R122): the parent's with one step more while PTP is the selected reference, else
the device itself. -/
def Dev.announced (d : Dev) (i : Nat) : PtpDs :=
  match if d.ptpSelected then d.ptpParent else none with
  | some f => { f with steps := f.steps + 1 }
  | none => d.ownDs i

/-- The clockClass announced (R122). -/
def Dev.clockClass (d : Dev) : Nat := (d.announced (d.get 0x210002 0)).cls

/-- Report the clockClass in use (object 0x2110:0A). -/
def Dev.showClass (d : Dev) : Dev := [0, 1, 2, 3].foldl (fun d i => d.put 0x21100A i d.clockClass) d

/-- The rank of a dataset, smaller is better: the IEEE 1588 dataset comparison on one number, grandmaster fields first,
then the steps removed and the sender. [PRESUMED: log 21] -/
def PtpDs.rank (x : PtpDs) : Nat :=
  ((((((((x.prio1 * 256 + x.cls) * 256 + x.accuracy) * 65536 + x.variance) * 256 + x.prio2) * 2 ^ 64 + x.gm) * 65536
    + x.steps) * 2 ^ 64 + x.sender) * 65536 + x.senderPort)

/-- The best foreign dataset of an instance and its port. -/
def Dev.bestForeign (d : Dev) (i : Nat) : Option (Nat × PtpDs) :=
  (List.range 17).foldl (fun acc p =>
    if d.ptpOn i p then
      match (d.ptp i p).foreign, acc with
      | some f, some (q, g) => if f.rank < g.rank then some (p, f) else some (q, g)
      | some f, none => some (p, f)
      | none, a => a
    else acc) none

/-- The state the best master comparison gives a port (R121): a port that has just come up listens until a dataset or its
announceReceiptTimeout comes. -/
def Dev.bmcaState (d : Dev) (i p : Nat) : Nat :=
  if !d.ptpOn i p then 0
  else if !(d.netLink p).up then 3
  else
    let own := d.ownDs i
    let slaveOnly := d.on 0x211007 i
    match d.bestForeign i with
    | none => if slaveOnly || d.ptpState i p == 0 || d.ptpState i p == 3 || d.ptpState i p == 4 then 4 else 6
    | some (q, best) =>
      if !slaveOnly && decide (own.rank ≤ best.rank) then 6
      else if q = p then 9
      else if slaveOnly then 4
      else if own.cls < 128 then
        (match (d.ptp i p).foreign with
         | some f => if own.rank ≤ f.rank then 6 else 7
         | none => 6)
      else match (d.ptp i p).foreign with
        | some f => if f.gm = best.gm ∧ f.steps ≤ best.steps + 1 then 7 else 6
        | none => 6

/-! ### The PTP reference (R123) -/

/-- Show the reference state: 0 absent, 1 qualifying, 2 valid (object 0x2110:0C). -/
def Dev.showPtpRef (d : Dev) : Dev :=
  let i := d.get 0x210002 0
  d.put 0x21100C i (if (d.ref 1).valid then 2 else if d.net.slave.isSome then 1 else 0)

/-- The reference becomes invalid: qualification begins anew, source 48 is raised when a valid one is lost, and the
offset it supplied is no longer current (R85, R123). -/
def Dev.ptpInvalid (d : Dev) : Dev :=
  let was := (d.ref 1).valid
  let x := d.ref 1
  let d := d.setRef 1 { x with valid := false, last := none, run := 0 }
  let d := d.setNet { d.net with offsets := [] }
  let d := if was then d.raise 48 (d.get 0x210002 0) 0 0 else d
  let d := d.setTim { d.tim with utcPtp := none }
  (d.checkHoldover.resolveUtc).showPtpRef

/-- Run the best master comparison of an instance: new port states; a change of the reference instance's slave port makes
the reference qualify anew (R121, R123). -/
def Dev.bmca (d : Dev) (i : Nat) : Dev :=
  let d := (List.range 17).foldl (fun d p => d.put 0x212008 (ptpElem i p) (d.bmcaState i p)) d
  let slave := (List.range 17).find? (fun p => d.ptpState i p == 9)
  if i = d.get 0x210002 0 ∧ slave ≠ d.net.slave then
    let d := d.ptpInvalid
    (d.setNet { d.net with slave := slave, delaySeen := false }).showPtpRef
  else d

/-- The parent's clockClass is within object 0x2110:09 (R123). -/
def Dev.parentOk (d : Dev) (i p : Nat) : Bool :=
  match (d.ptp i p).foreign with
  | some f => decide (f.cls ≤ d.get 0x211009 i)
  | none => false

/-- Are all offsets within 1 µs of each other? -/
def withinUs (l : List Int) : Bool := l.all (fun a => l.all (fun b => decide (absInt (a - b) ≤ us 1)))

/-- The offset and leap indication of the parent, while the reference is valid (R85). -/
def Dev.ptpUtc (d : Dev) : Dev :=
  let u := if (d.ref 1).valid then
      (match d.ptpParent with
       | some f => if bit f.flags 2 then some ⟨f.utc, bit f.flags 0, bit f.flags 1, d.now⟩ else none
       | none => none)
    else none
  (d.setTim { d.tim with utcPtp := u }).resolveUtc

/-- delayAsymmetry of a port and instance in 2^-16 ns (R114); none is set for the transparent clock's own exchange. -/
def Dev.ptpAsym (d : Dev) (i p : Nat) : Int := if i < 4 then psTime (d.geti 0x212007 (ptpElem i p)) else 0

/-- A complete Sync measurement on a slave port: master time `m` (origin and correction) against receive time `t`
(R114, R121, R123): the offset is reported; for the reference instance it qualifies the reference and drives the servo. -/
def Dev.ptpMeasure (d : Dev) (i p : Nat) (m : Int) (t : Nat) : Dev :=
  let m := m + d.ptpAsym i p
  let master : Int := m + d.geti 0x212009 (ptpElem i p)
  let theta := master - t
  let d := (d.puti 0x21100B i (-theta)).setPtp i p { d.ptp i p with lastSync := some (m, t) }
  if i ≠ d.get 0x210002 0 then d else
  let offs := (theta :: d.net.offsets).take 3
  let d := d.setNet { d.net with offsets := offs }
  let x := d.ref 1
  if x.valid then
    (d.setRef 1 { x with last := some t }).refEvent 1 theta t master.toNat
  else if offs.length = 3 && withinUs offs && d.net.delaySeen && d.parentOk i p then
    let d := d.setRef 1 { x with valid := true, last := some t }
    (((((d.leaveHoldover .a).leaveHoldover .b).refEvent 1 theta t master.toNat).showPtpRef).ptpUtc).showClass
  else d.showPtpRef

/-- A link delay has been measured on a port. -/
def Dev.ptpDelay (d : Dev) (i p : Nat) (delay : Int) : Dev :=
  if 4 ≤ i then d.setPtp i p { d.ptp i p with link := delay } else
  let d := d.puti 0x212009 (ptpElem i p) delay
  if i = d.get 0x210002 0 ∧ d.net.slave = some p then d.setNet { d.net with delaySeen := true } else d

/-! ### Receiving (R114 to R117, R121 to R124) -/

/-- An Announce message: the port keeps the better of the foreign datasets, the same sender's newest; the best master
comparison runs (R121); a parent beyond the clockClass limit makes the reference invalid (R123). The device's own messages
and those of 255 steps do not qualify. -/
def Dev.ptpAnnounce (d : Dev) (i p : Nat) (m : List Byte) : Dev :=
  let f := ptpDs m
  if f.sender = beNat (d.getB 0x210001 0) ∨ 255 ≤ f.steps then d else
  let x := d.ptp i p
  let f' := match x.foreign with
    | some g => if g.sender = f.sender ∧ g.senderPort = f.senderPort then f else if f.rank < g.rank then f else g
    | none => f
  let d := (d.setPtp i p { x with foreign := some f' }).bmca i
  if i = d.get 0x210002 0 && d.net.slave == some p then
    let d := if (d.ref 1).valid && !d.parentOk i p then d.ptpInvalid else d
    (d.ptpUtc).showClass
  else d.showClass

/-- Does a message come from the port's parent: the sender of the dataset it keeps? -/
def Dev.fromParent (d : Dev) (i p : Nat) (m : List Byte) : Bool :=
  match (d.ptp i p).foreign with
  | some f => ptpSrc m == f.sender * 65536 + f.senderPort
  | none => false

/-- An end-to-end path delay from the last Sync interval and an answered Delay_Req. -/
def e2eDelay (s : Int × Nat) (t3 : Nat) (t4 : Int) : Int := (((s.2 : Int) - s.1) + (t4 - t3)) / 2

/-- A message that an instance terminates on a port, received at the adjusted time `t` (R114 to R123). -/
def Dev.ptpTerminate (d : Dev) (i p : Nat) (m : List Byte) (t : Nat) : Dev :=
  let x := d.ptp i p
  let slave := d.ptpState i p == 9
  match ptpKind m with
  | 0 =>
    if !slave || !d.fromParent i p m then d
    else if ptpTwoStep m then d.setPtp i p { x with sync := some ⟨ptpSeq m, ptpSrc m, t, ptpCorr m, 0⟩ }
    else d.ptpMeasure i p (ptpStamp m + ptpCorr m) t
  | 8 =>
    (match x.sync with
     | some h =>
       if slave && h.seq == ptpSeq m && h.src == ptpSrc m then
         (d.setPtp i p { x with sync := none }).ptpMeasure i p (ptpStamp m + ptpCorr m + h.corr) h.time
       else d
     | none => d)
  | 1 =>
    if d.ptpState i p = 6 then
      d.setPtp i p { x with asks := x.asks ++ [⟨9, ptpSeq m, ptpSrc m, t, ptpCorr m⟩] } else d
  | 2 => d.setPtp i p { x with asks := x.asks ++ [⟨3, ptpSeq m, ptpSrc m, t, ptpCorr m⟩] }
  | 3 =>
    (match x.askSent with
     | some h =>
       if h.seq = ptpSeq m ∧ ptpAsker m = d.ptpSelf p then
         if ptpTwoStep m then
           d.setPtp i p { x with answer := some ⟨ptpSeq m, ptpSrc m, t, ptpCorr m, ptpStamp m⟩ }
         else d.ptpDelay i p (((t : Int) - h.time - ptpCorr m - d.ptpAsym i p) / 2)
       else d
     | none => d)
  | 10 =>
    (match x.askSent, x.answer with
     | some h, some a =>
       if a.seq = ptpSeq m ∧ a.src = ptpSrc m ∧ ptpAsker m = d.ptpSelf p then
         (d.setPtp i p { x with answer := none }).ptpDelay i p
           ((((a.time : Int) - h.time) - ((ptpStamp m : Int) - a.aux) - a.corr - ptpCorr m - d.ptpAsym i p) / 2)
       else d
     | _, _ => d)
  | 9 =>
    (match x.askSent, x.lastSync with
     | some h, some s =>
       if h.seq = ptpSeq m ∧ ptpAsker m = d.ptpSelf p ∧ d.fromParent i p m then
         d.ptpDelay i p (e2eDelay s h.time ((ptpStamp m : Int) - ptpCorr m))
       else d
     | _, _ => d)
  | 11 => d.ptpAnnounce i p m
  | _ => d

/-- A PTP message received on a port at `t` (R111 to R124): management messages are discarded and counted; while the
port's replica is unsynchronised the event messages are discarded. -/
def ptpReceive (p : Nat) (m : List Byte) (t : Nat) (d : Dev) : Dev :=
  let d := d.at_ t
  if ptpKind m = 13 then d.inc 0x210004 0 else
  match d.ptpInst p m with
  | none => d
  | some i => if ptpEvent m && d.unsync p then d else d.ptpTerminate i p m (d.rxStamp p t)

/-- announceReceiptTimeout expires on a port: its foreign master is forgotten, a port that listened becomes master unless the
instance is slaveOnly, and the best master comparison runs; on the reference's slave port the reference becomes invalid
(R123, R124). -/
def announceTimeout (i p : Nat) (d : Dev) : Dev :=
  let x := d.ptp i p
  let was := i == d.get 0x210002 0 && d.net.slave == some p
  let d := d.setPtp i p { x with foreign := none, sync := none }
  let d := if was then d.ptpInvalid else d
  let d := if d.ptpState i p = 4 ∧ !d.on 0x211007 i then d.put 0x212008 (ptpElem i p) 6 else d
  (d.bmca i).showClass

/-- Three Sync intervals pass with no complete measurement on a port (R123). -/
def syncMissed (i p : Nat) (d : Dev) : Dev :=
  let x := d.ptp i p
  let d := d.setPtp i p { x with sync := none }
  if i = d.get 0x210002 0 ∧ d.net.slave = some p then d.ptpInvalid else d

/-! ### Sending (R115, R116, R118, R119, R122) -/

/-- A PTP header of 34 bytes. -/
def ptpHeader (kind sdo len dom flags : Nat) (corr : Int) (src seq ctl log : Nat) : List Byte :=
  [byte (sdo / 256 * 16 + kind), 0x12] ++ beBytes 2 len ++ [byte dom, byte sdo] ++ beBytes 2 flags
  ++ beBytes 8 (ofInt 64 corr) ++ zeros 4 ++ beBytes 10 src ++ beBytes 2 seq ++ [byte ctl, byte log]

/-- The IEEE_C37_238 TLV of profile 4: totalTimeInaccuracy is E(t) in HOLDOVER and 100 ns otherwise (R122). -/
def Dev.powerTlv (d : Dev) (i : Nat) : List Byte :=
  if d.get 0x211002 i = 4 then
    let e := match d.tim.holder with
      | some k => if d.servo k = 3 then d.holdoverNow k / 65536 else 100
      | none => 100
    beBytes 2 3 ++ beBytes 2 18 ++ [0x1C, 0x12, 0x9D, 0, 0, 2] ++ zeros 4 ++ beBytes 4 e ++ zeros 4
  else []

/-- An Announce message of an instance's port. -/
def Dev.announceBytes (d : Dev) (i p : Nat) : List Byte :=
  let x := d.announced i
  let tlv := d.powerTlv i
  ptpHeader 11 (d.get 0x211004 i) (64 + tlv.length) (d.get 0x211003 i) (x.flags % 64) 0 (d.ptpSelf p)
      (d.ptp i p).seqAnn 5 (d.get 0x212003 (ptpElem i p))
    ++ zeros 10 ++ beBytes 2 (ofInt 16 x.utc) ++ [0, byte x.prio1, byte x.cls, byte x.accuracy]
    ++ beBytes 2 x.variance ++ [byte x.prio2] ++ beBytes 8 x.gm ++ beBytes 2 x.steps
    ++ [byte x.source] ++ tlv

/-- Does a port send one-step (R118)? MGT sends two-step only. -/
def Dev.oneStep (d : Dev) (i p : Nat) : Bool := p != 16 && d.on 0x212006 (ptpElem i p)

/-- A PTP message leaves a port: over Layer 2 with its group address, or over UDP/IPv4 (R116). [PRESUMED: log 24] -/
def Dev.ptpEmit (d : Dev) (i p kind : Nat) (m : List Byte) (t : Nat) : Dev :=
  if d.get 0x211008 i = 2 ∧ d.get 0x211002 i ≤ 2 then
    d.emit (.datagram p (if kind = 2 ∨ kind = 3 ∨ kind = 10 then 0xE000006B else 0xE0000181)
      (if kind ≤ 3 then 319 else 320) (if kind ≤ 3 then 319 else 320) m)
  else
    let dst : List Byte := if kind = 2 ∨ kind = 3 ∨ kind = 10 ∨ d.get 0x211002 i = 5 then [0x01, 0x80, 0xC2, 0, 0, 0x0E]
      else [0x01, 0x1B, 0x19, 0, 0, 0]
    d.emit (.frame p (dst ++ macOf p ++ [0x88, 0xF7] ++ m) t)

/-- Send one PTP message of a kind on a port, its timestamp point leaving at `t` (R115, R118, R119, R121). A kind the
port's state does not send, an answer with nothing to answer, and an event message while the replica is unsynchronised
send nothing. -/
def ptpSend (i p kind t : Nat) (d : Dev) : Dev :=
  let d := d.at_ t
  if !(if i < 4 then d.ptpOn i p else d.tcOn i p) || !(d.netLink p).up || (decide (kind ≤ 3) && d.unsync p) then d else
  let x := d.ptp i p
  let e := ptpElem i p
  let st := d.ptpState i p
  let ts := d.txStamp p t
  let sdo := d.ptpSdoOf i
  let dom := d.ptpDom i
  let self := d.ptpSelf p
  let asym := d.ptpAsym i p
  match kind with
  | 0 =>
    if st ≠ 6 then d else
    let one := d.oneStep i p
    let m := ptpHeader 0 sdo 44 dom (if one then 0 else 0x200) 0 self x.seqSync 0 (d.get 0x212002 e)
      ++ (if one then ptpStampBytes ts else zeros 10)
    let m := if one then ptpAddCorr m (ts % 65536 : Nat) else m
    let fu := if one then none else some ⟨x.seqSync, self, ts, 0, 0⟩
    (d.setPtp i p { x with seqSync := (x.seqSync + 1) % 65536, followUp := fu }).ptpEmit i p 0 m t
  | 8 =>
    (match x.followUp with
     | some h =>
       let m := ptpHeader 8 sdo 44 dom 0 (h.time % 65536 : Nat) self h.seq 2 (d.get 0x212002 e) ++ ptpStampBytes h.time
       (d.setPtp i p { x with followUp := none }).ptpEmit i p 8 m t
     | none => d)
  | 1 =>
    if st ≠ 9 || !d.ptpE2e i then d else
    let m := ptpHeader 1 sdo 44 dom 0 (-asym) self x.seqAsk 1 0x7F ++ zeros 10
    (d.setPtp i p { x with askSent := some ⟨x.seqAsk, self, ts, 0, 0⟩, seqAsk := (x.seqAsk + 1) % 65536 }).ptpEmit i p 1 m t
  | 2 =>
    if d.ptpE2e i then d else
    let m := ptpHeader 2 sdo 54 dom 0 (-asym) self x.seqAsk 5 0x7F ++ zeros 20
    (d.setPtp i p { x with askSent := some ⟨x.seqAsk, self, ts, 0, 0⟩, seqAsk := (x.seqAsk + 1) % 65536 }).ptpEmit i p 2 m t
  | 3 =>
    (match x.asks.find? (fun a => a.kind == 3) with
     | some a =>
       let rest := x.asks.erase a
       if d.oneStep i p then
         let m := ptpHeader 3 sdo 54 dom 0 (a.corr + ts - a.time) self a.seq 5 0x7F ++ zeros 10 ++ beBytes 10 a.who
         (d.setPtp i p { x with asks := rest }).ptpEmit i p 3 m t
       else
         let m := ptpHeader 3 sdo 54 dom 0x200 (- (a.time % 65536 : Nat)) self a.seq 5 0x7F ++ ptpStampBytes a.time
           ++ beBytes 10 a.who
         (d.setPtp i p { x with asks := rest ++ [⟨10, a.seq, a.who, ts, a.corr⟩] }).ptpEmit i p 3 m t
     | none => d)
  | 10 =>
    (match x.asks.find? (fun a => a.kind == 10) with
     | some a =>
       let m := ptpHeader 10 sdo 54 dom 0 (a.corr + (a.time % 65536 : Nat)) self a.seq 5 0x7F ++ ptpStampBytes a.time
         ++ beBytes 10 a.who
       (d.setPtp i p { x with asks := x.asks.erase a }).ptpEmit i p 10 m t
     | none => d)
  | 9 =>
    (match x.asks.find? (fun a => a.kind == 9) with
     | some a =>
       let m := ptpHeader 9 sdo 54 dom 0 (a.corr - (a.time % 65536 : Nat)) self a.seq 3 (d.get 0x212004 e)
         ++ ptpStampBytes a.time ++ beBytes 10 a.who
       (d.setPtp i p { x with asks := x.asks.erase a }).ptpEmit i p 9 m t
     | none => d)
  | 11 =>
    if st ≠ 6 then d else
    (d.setPtp i p { x with seqAnn := (x.seqAnn + 1) % 65536 }).ptpEmit i p 11 (d.announceBytes i p) t
  | _ => d

/-! ### Transparent clock (R125, R126) -/

/-- The message kind of the event message that a general message follows. -/
def tcEventOf (kind : Nat) : Nat := if kind = 8 then 0 else if kind = 9 then 1 else 3

/-- Add an entry to an egress port's match table; the table full, its oldest entry is discarded and counted (R126). -/
def Dev.tcAdd (d : Dev) (q k : Nat) (x : TcEntry) : Dev :=
  let l := tget [] d.net.tc q
  let d := if l.length ≥ 256 then d.inc 0x214002 k else d
  d.setNet { d.net with tc := tput [] d.net.tc q ((if l.length ≥ 256 then l.drop 1 else l) ++ [x]) }

/-- Correct a forwarded PTP message of a listed domain as it leaves port `q` at `tx`, received on port `p` at `rx`
(R115, R125, R126). Gives the message sent. [DEDUCED: log 23] -/
def Dev.tcCorrect (d : Dev) (p q rx tx : Nat) (m : List Byte) : List Byte × Dev :=
  match d.tcDomain (ptpDomain m) with
  | none => (m, d)
  | some k =>
    let kind := ptpKind m
    if ptpEvent m then
      if d.unsync p || d.unsync q then (m, d.inc 0x214003 k) else
      let link : Int := (d.ptp (4 + k) p).link
      let corr : Int := ((d.txStamp q tx : Nat) : Int) - (d.rxStamp p rx : Nat) + link
      if ptpTwoStep m || kind == 1 || kind == 2 then
        (m, d.tcAdd q k ⟨ptpSeq m, ptpSrc m, ptpDomain m, kind, corr, tx + ms 100⟩)
      else (ptpAddCorr m corr, d)
    else if kind = 8 ∨ kind = 9 ∨ kind = 10 then
      let who := if kind = 8 then ptpSrc m else if kind = 9 then ptpAsker m else ptpSrc m
      let port := if kind = 9 then p else q
      let l := tget [] d.net.tc port
      match l.find? (fun x => x.seq == ptpSeq m && x.src == who && x.domain == ptpDomain m && x.kind == tcEventOf kind
          && decide (tx ≤ x.until_)) with
      | some x =>
        (ptpAddCorr m x.corr, d.setNet { d.net with tc := tput [] d.net.tc port (l.erase x) })
      | none => (m, d.inc 0x214002 k)
    else (m, d)

/-- The entries of an egress port's match table that have lived 100 ms are removed (R126); time is brought to the oldest
entry's end. -/
def tcExpire (q : Nat) (d : Dev) : Dev :=
  match (tget [] d.net.tc q).head? with
  | none => d
  | some x =>
    let d := d.at_ x.until_
    let now := d.now
    d.setNet { d.net with tc := tput [] d.net.tc q ((tget [] d.net.tc q).filter (fun y => decide (now < y.until_))) }

/-! ### Transmit timestamp queues (R127 to R133) -/

/-- An empty transmit timestamp queue. -/
def tsq0 : Tsq := ⟨[], [0, 0, 0, 0], false, 0, 0, 0, 0, 0⟩

/-- A port's transmit timestamp queue. -/
def Dev.tsq (d : Dev) (p : Nat) : Tsq := tget tsq0 d.net.tsq p

/-- Replace a port's transmit timestamp queue. -/
def Dev.setTsq (d : Dev) (p : Nat) (x : Tsq) : Dev := d.setNet { d.net with tsq := tput tsq0 d.net.tsq p x }

/-- Write an entry, or drop it where 64 are held (R127, R128). -/
def Dev.tsqPush (d : Dev) (p : Nat) (e : TsqEntry) : Dev :=
  let x := d.tsq p
  if x.entries.length ≥ 64 then
    d.setTsq p { x with
      overflow := true, drops := (x.drops + 1) % 2 ^ 32, captured := x.captured + 1, dropped := x.dropped + 1 }
  else d.setTsq p { x with entries := x.entries ++ [e], captured := x.captured + 1 }

/-- The four words of an entry (R133). -/
def tsqWords (e : TsqEntry) : List Nat :=
  let t := ts64Of e.time
  [2 ^ 31 + b2n e.notSent * 2 ^ 30 + e.tag % 65536, bits t 0 32, bits t 32 32, e.time % 65536]

/-- A read of `TSQ_ENTRY0` removes the oldest entry and latches its words; of an empty queue, zeros (R129). -/
def Dev.tsqRead (d : Dev) (p : Nat) : Dev :=
  let x := d.tsq p
  match x.entries with
  | e :: t => d.setTsq p { x with entries := t, latch := tsqWords e, read := x.read + 1 }
  | [] => d.setTsq p { x with latch := [0, 0, 0, 0] }

/-- Empty a queue: its entries count as dropped, OVERFLOW clears, `TSQ_DROP` stays (R129). -/
def Dev.tsqFlush (d : Dev) (p : Nat) : Dev :=
  let x := d.tsq p
  d.setTsq p { x with entries := [], overflow := false, dropped := x.dropped + x.entries.length }

/-- `TSQ_STATUS` (R133). -/
def Tsq.status (x : Tsq) : Nat := b2n x.overflow * 2 ^ 31 + x.entries.length % 128

/-! ### Port registers (R131, R132) -/

/-- `PORT_STATUS` (R131). -/
def Dev.portStatus (d : Dev) (p : Nat) : Nat :=
  let l := d.netLink p
  b2n l.up * 2 ^ 31 + b2n (!d.unsync p) * 2 ^ 30 + (l.mode % 16) * 2 ^ 26 + (l.fec % 4) * 2 ^ 24

/-- `PORT_PTP` (R132). -/
def Dev.portPtp (d : Dev) (p : Nat) : Nat :=
  d.ptpState 3 p * 2 ^ 24 + d.ptpState 2 p * 2 ^ 16 + d.ptpState 1 p * 2 ^ 8 + d.ptpState 0 p

/-- A link comes up in a mode and FEC (R131, R135). -/
def Dev.linkOn (d : Dev) (p mode fec : Nat) : Dev :=
  let d := d.setNet { d.net with links := tput netLink0 d.net.links p ⟨true, mode, fec⟩ }
  let d := d.setLive 64 p false
  [0, 1, 2, 3].foldl (fun d i => if d.ptpOn i p then d.bmca i else d) d

/-- A link is gone: PTP loses the port (R123, R135). -/
def Dev.linkGone (d : Dev) (p : Nat) : Dev :=
  let l := d.netLink p
  if !l.up then d else
  let d := d.setNet { d.net with links := tput netLink0 d.net.links p { l with up := false } }
  [0, 1, 2, 3].foldl (fun d i =>
    if d.on 0x211001 i && d.on 0x212001 (ptpElem i p) then
      let was := i == d.get 0x210002 0 && d.net.slave == some p
      let d := d.setPtp i p { d.ptp i p with foreign := none, sync := none }
      let d := if was then d.ptpInvalid else d
      d.bmca i
    else d) d

/-- A link goes down: source 64 for a P-port or MGT, and PTP loses the port (R123, R135). -/
def Dev.linkOff (d : Dev) (p : Nat) : Dev :=
  if !(d.netLink p).up then d else ((d.raise 64 p 0 0).setLive 64 p true).linkGone p

/-- The MGT mode of a power state: 5 1000 Mb/s, 6 100 Mb/s, 7 10 Mb/s (R131, R135). -/
def Dev.mgtMode (d : Dev) (doze : Bool) : Nat := 4 + (if doze then d.get 0x215002 0 else d.get 0x215001 0)

/-- A change of power state alters MGT's speed: the link renegotiates, and the PTP reference on MGT is lost; with equal
speeds nothing happens (R135). -/
def Dev.mgtSpeed (d : Dev) (doze : Bool) : Dev :=
  let l := d.netLink 16
  if l.up && l.mode != d.mgtMode doze then d.linkOff 16 else d

/-! ### Applying (R121, R123, R125) -/

/-- The ports of an instance begin anew: what they heard is forgotten and they listen. -/
def Dev.ptpRestart (d : Dev) (i : Nat) (l : List Nat) : Dev :=
  (l.foldl (fun d p => (d.setPtp i p { d.ptp i p with foreign := none, sync := none, askSent := none, answer := none, asks := [], lastSync := none }).put
    0x212008 (ptpElem i p) 0) d).bmca i

/-- What applying an object of network time does beside the object: an instance or a port that is enabled, disabled or given
another domain begins anew; other options run the best master comparison; another reference instance qualifies anew. [DEDUCED: log 176] -/
def Dev.ptpApplied (d : Dev) (o e : Nat) : Dev :=
  let d :=
    if d.get o e = d.getSh o e then d
    else if 0x211001 ≤ o ∧ o ≤ 0x211004 then d.ptpRestart e (List.range 17)
    else if o / 256 = 0x2110 then
      let d := d.bmca e
      (match d.net.slave with
       | some p => if e = d.get 0x210002 0 ∧ (d.ref 1).valid ∧ !d.parentOk e p then d.ptpInvalid else d
       | none => d)
    else if o = 0x212001 then d.ptpRestart (e / 17) [e % 17]
    else if o = 0x210002 then
      let d := d.ptpInvalid
      let d := [0, 1, 2, 3].foldl (fun d i => d.put 0x21100C i 0) d
      let s := (List.range 17).find? (fun p => d.ptpState (d.get 0x210002 0) p == 9)
      (d.setNet { d.net with slave := s, delaySeen := false }).showPtpRef
    else if o = 0x214001 then (List.range 16).foldl (fun d p => d.setPtp (4 + e) p ptpPort0) d
    else d
  if o / 256 = 0x2110 ∨ o / 256 = 0x2120 ∨ o / 256 = 0x2100 then d.showClass else d

/-! ### COMMIT checks (R118 to R120, R125) -/

/-- A log interval within the instance's profile (R119): the power profiles 3 and 4 run at one message per second. -/
def Dev.intervalOk (d : Dev) (i e : Nat) : Bool :=
  let pr := d.get 0x211002 i
  if pr = 3 ∨ pr = 4 then d.geti 0x212002 e == 0 && d.geti 0x212003 e == 0 && d.geti 0x212004 e == 0 else true

/-- Messages per 16 s of a log interval of at least −7, at most 5, in sixteenths of a message per second. -/
def perSec16 (x : Int) : Nat := if x ≤ 0 then 16 * 2 ^ (-x).toNat else 16 / 2 ^ x.toNat

/-- The device-wide sum of event messages sent and expected, in sixteenths per second (R119). [DEDUCED: log 22] -/
def Dev.eventRate (d : Dev) : Nat :=
  (List.range 68).foldl (fun a e =>
    let i := e / 17
    if d.on 0x211001 i && d.on 0x212001 e then
      a + perSec16 (d.geti 0x212002 e) + (if d.ptpE2e i then 1 else 4) * perSec16 (d.geti 0x212004 e)
    else a) 0

/-- The COMMIT checks of the network time objects, on the values a transaction would make active; 0 for none. -/
def Dev.checkPtp (d : Dev) (o e : Nat) : Nat :=
  let i := o / 256
  let dup := [0, 1, 2, 3].any (fun a => [0, 1, 2, 3].any (fun b => a != b && d.on 0x211001 a && d.on 0x211001 b &&
    d.get 0x211003 a == d.get 0x211003 b && d.get 0x211004 a == d.get 0x211004 b))
  let tcClash := [0, 1, 2, 3].any (fun k => [0, 1, 2, 3].any (fun a => d.on 0x211001 a &&
    d.get 0x214001 k == d.get 0x211003 a))
  if i = 0x2110 then
    (if dup || tcClash || decide (d.eventRate > 320000) then 0x0404
     else if (List.range 17).any (fun p => d.on 0x212001 (ptpElem e p) && !d.intervalOk e (ptpElem e p)) then 0x0404
     else 0)
  else if i = 0x2140 then (if tcClash then 0x0404 else 0)
  else if i = 0x2120 then
    (if o = 0x212006 ∧ e % 17 = 16 ∧ d.on 0x212006 e then 0x0404
     else if d.on 0x212001 e && !d.intervalOk (e / 17) e then 0x0404
     else if d.eventRate > 320000 then 0x0404 else 0)
  else 0

end Sys2Proof.Machine
end

