-- ==== Sys2Proof/Machine/Schedule.lean ====
section
/-! DEFINITION. Cycles and gate lists (R143 to R147, R149, R153): exact cycle starts in units of 2^-32 ns, the entry in
force at an instant, the next change, and the closing instant of a class. -/
namespace Sys2Proof.Machine

/-- A cycle's start and length in units of 2^-32 ns, for a base time, whole and fractional cycle time and anchor period:
what the gate lists and the rings share (R146, R147). -/
structure Cycle where
  base : Int
  len : Nat
  anchor : Nat
deriving DecidableEq, Repr

/-- The cycle time W + F × 2^-32 ns. -/
def cycleLen (whole frac : Nat) : Nat := whole * 4294967296 + frac

/-- An anchor period in units of 2^-32 ns. -/
def anchorLen (s : Nat) : Nat := s * 4294967296000000000

/-- M = round(A ÷ T_c) (R147). -/
def Cycle.m (c : Cycle) : Nat := if c.len = 0 then 0 else (2 * anchorLen c.anchor + c.len) / (2 * c.len)

/-- Is an anchored cycle time A ÷ M rounded to the nearest 2^-32 ns (R147)? -/
def Cycle.anchorOk (c : Cycle) : Bool :=
  c.anchor == 0 || decide (2 * absInt ((c.m * c.len : Nat) - (anchorLen c.anchor : Int)) ≤ c.m)

/-- C_n in units of 2^-32 ns (R146, R147); n may be negative. -/
def Cycle.start (c : Cycle) (n : Int) : Int :=
  if c.anchor = 0 ∨ c.m = 0 then c.base + n * c.len
  else c.base + n / (c.m : Int) * anchorLen c.anchor + n % (c.m : Int) * c.len

/-- A time in 2^-16 ns from one in 2^-32 ns, the lower bits dropped. -/
def dropBits (x : Int) : Int := x / 65536

/-- The number of the cycle in force at a time in 2^-16 ns: the last n whose start, lower bits dropped, is not after it. -/
def Cycle.at_ (c : Cycle) (t : Int) : Int :=
  let x := t * 65536 + 65535 - c.base
  if c.len = 0 then 0
  else if c.anchor = 0 ∨ c.m = 0 then x / (c.len : Int)
  else
    let a : Int := anchorLen c.anchor
    let k := x / a
    let i := (x - k * a) / (c.len : Int)
    k * c.m + (if i < c.m then i else c.m - 1)

/-- The start of a cycle in 2^-16 ns. -/
def Cycle.startAt (c : Cycle) (n : Int) : Int := dropBits (c.start n)

/-- The first cycle that starts at or after a time. -/
def Cycle.firstFrom (c : Cycle) (t : Int) : Int :=
  let n := c.at_ t
  if c.startAt n = t then n else n + 1

/-- A bank's cycle. -/
def Bank.cycle (b : Bank) : Cycle := ⟨(b.base : Int) * 65536, cycleLen b.whole b.frac, b.anchor⟩

/-- Entry i of a bank (R143). -/
def Bank.entry (b : Bank) (i : Nat) : Nat := leAt b.entries (8 * i) 8

/-- Gate states, operation and interval of an entry (R143). -/
def entryGates (e : Nat) : Nat := bits e 56 8
def entryOp (e : Nat) : Nat := bits e 52 4
def entryInterval (e : Nat) : Nat := bits e 0 32

/-- Walk a gate list: the entry in force `off` (2^-16 ns) after the cycle's start, and the offset at which the next one
starts, none in the last entry (R144). `i` is the entry whose start is `acc`; `fuel` bounds the entries. -/
def Bank.walk (b : Bank) (off : Nat) : Nat → Nat → Nat → Nat × Nat × Option Nat
  | 0, i, acc => (i, acc, none)
  | n + 1, i, acc =>
    let next := acc + ns (entryInterval (b.entry i))
    if i + 1 ≥ b.count then (i, acc, none)
    else if off < next then (i, acc, some next)
    else b.walk off n (i + 1) next

/-- What a schedule says at an instant: entry, gates, operation, when it began, when it next changes. -/
structure Point where
  entry : Nat
  gates : Nat
  op : Nat
  began : Int
  next : Int
  cycle : Int
deriving DecidableEq, Repr

/-- A bank at an instant (R144). -/
def Bank.point (b : Bank) (t : Int) : Point :=
  let c := b.cycle
  let n := c.at_ t
  let s := c.startAt n
  let e := c.startAt (n + 1)
  let w := b.walk (t - s).toNat b.count 0 0
  let nx : Int := match w.2.2 with
    | some o => if s + o < e then s + o else e
    | none => e
  ⟨w.1, entryGates (b.entry w.1), entryOp (b.entry w.1), s + w.2.1, nx, n⟩

/-- A schedule: the bank in force, and the bank that takes over at an instant S, if a switch waits (R153). -/
structure Sched where
  bank : Bank
  next : Option (Bank × Nat)
deriving DecidableEq, Repr

/-- The first cycle start of the old bank that falls within its cycle extension before S: from there to S its last entry
persists (R153). -/
def Bank.cutFrom (b : Bank) (s : Nat) : Int :=
  let n := b.cycle.at_ ((s : Int) - ns b.ext)
  let c := b.cycle.startAt (n + 1)
  if c < s then c else s

/-- A schedule at an instant. -/
def Sched.point (x : Sched) (t : Int) : Point :=
  match x.next with
  | none => x.bank.point t
  | some (b, s) =>
    if t ≥ s then b.point t
    else
      let cut := x.bank.cutFrom s
      if t ≥ cut then { x.bank.point (cut - 1) with next := s }
      else
        let p := x.bank.point t
        if p.next ≥ cut then { p with next := if cut < s then s else cut } else p

/-- Is the gate of a class open at an instant? -/
def Sched.isOpen (x : Sched) (c : Nat) (t : Int) : Bool := bit (x.point t).gates c

/-- Look ahead for the instant at which the gate of class `c`, open now, next closes, and the operation of the entry it
closes at; none while it never closes. `fuel` bounds the changes looked at (R149). -/
def Sched.closing (x : Sched) (c : Nat) : Nat → Int → Option (Int × Nat)
  | 0, _ => none
  | n + 1, t =>
    let p := x.point t
    if bit p.gates c then x.closing c n p.next else some (t, p.op)

/-- The changes to look at: two cycles of each bank. -/
def Sched.fuel (x : Sched) : Nat :=
  2 * x.bank.count + 4 + (match x.next with
    | some (b, _) => 2 * b.count + 4
    | none => 0)

/-- When class `c`, open at `t`, next closes. -/
def Sched.closes (x : Sched) (c : Nat) (t : Int) : Option (Int × Nat) := x.closing c x.fuel t

/-- The changes of a schedule from `t` up to `u`; `fuel` bounds them. -/
def Sched.changes (x : Sched) (u : Int) : Nat → Int → List Int
  | 0, _ => []
  | n + 1, t =>
    let e := (x.point t).next
    if e ≤ u then e :: x.changes u n e else []

/-! ### Validation (R145) -/

/-- The durations of a bank's counted entries within its cycle, in 2^-32 ns, with their gates: entries beyond the cycle
time are left out, the last one lasts to the end (R144). -/
def Bank.spans (b : Bank) : List (Nat × Nat) :=
  let len := cycleLen b.whole b.frac
  let es := (List.range b.count).map (fun i => b.entry i)
  let r := es.foldl (fun (acc : Nat × List (Nat × Nat)) e =>
    if acc.1 ≥ len then acc else
    let d := entryInterval e * 4294967296
    let d := if acc.1 + d > len then len - acc.1 else d
    (acc.1 + d, acc.2 ++ [(d, entryGates e)])) (0, [])
  match r.2.reverse with
  | (d, g) :: t => ((d + (len - r.1), g) :: t).reverse
  | [] => []

/-- The open runs of a class in a list of spans that begins at a closed one, in 2^-32 ns. -/
def openRuns (c : Nat) : Nat → List (Nat × Nat) → List Nat
  | cur, [] => if cur = 0 then [] else [cur]
  | cur, (d, g) :: t =>
    if bit g c then openRuns c (cur + d) t
    else if cur = 0 then openRuns c 0 t else cur :: openRuns c 0 t

/-- The shortest open run of a class, runs going on across the cycle's end; none where the gate never opens or never
closes. -/
def Bank.shortestRun (b : Bank) (c : Nat) : Option Nat :=
  let s := b.spans
  match s.findIdx? (fun p => !bit p.2 c) with
  | none => none
  | some k =>
    let runs := openRuns c 0 (s.drop k ++ s.take k)
    runs.foldl (fun m r => match m with
      | none => some r
      | some x => some (if r < x then r else x)) none

/-- Is every counted entry well formed: a valid OP, reserved bits zero, an interval of at least 40 ns, and an OP other
than SetGateStates only with pre-emption (R145)? -/
def Bank.entriesOk (b : Bank) (preempt : Bool) : Bool :=
  decide (8 * b.count ≤ b.entries.length) && (List.range b.count).all (fun i =>
    let e := b.entry i
    decide (entryOp e ≤ 2) && bits e 32 20 == 0 && decide (40 ≤ entryInterval e) && (preempt || entryOp e == 0))

end Sys2Proof.Machine
end

