-- ==== Sys2Proof/Machine/Ports.lean ====
section
/-! DEFINITION. P-ports: class queues, transmission selection, gates and bank switches, the Orrery's polls, pre-emption,
Tether, and the port frame ledger (R139 to R174, R465). -/
namespace Sys2Proof.Machine

/-- Replace the ports' part. -/
def Dev.setLan (d : Dev) (x : LanSt) : Dev := { d with lan := x }

/-- The default gate list: one entry, all gates open for 1,000,000 ns (R174). -/
def bank0 : Bank := ⟨0, 1000000, 0, 0, 0, 1, [0x40, 0x42, 0x0F, 0, 0, 0, 0, 0xFF]⟩

/-- An empty port ledger. -/
def portLedger0 : PortLedger := ⟨0, 0, 0, 0, [], 0⟩

/-- A port after reset. -/
def port0 : PortSt :=
  { waiting := [], now := none, held := none, gates := 0xFF, op := 0, orrery := bank0, tether := bank0, sramBad := false,
    switch := none, entryAt := 0, hold := false, verifyTries := 0, paused := 0, freeAt := 0, rxFrag := none,
    ledger := portLedger0 }

/-- Port `p`. -/
def Dev.port (d : Dev) (p : Nat) : PortSt := tget port0 d.lan.ports p

/-- Replace port `p`. -/
def Dev.setPort (d : Dev) (p : Nat) (x : PortSt) : Dev := d.setLan { d.lan with ports := tput port0 d.lan.ports p x }

/-! ### Drop reasons and the port ledger (R465) -/

/-- Reasons of a drop in the port ledger. -/
def reasonGuard : Nat := 1
def reasonLate : Nat := 2
def reasonOversize : Nat := 3
def reasonLink : Nat := 4
def reasonNoBuffer : Nat := 5
def reasonSafe : Nat := 6
def reasonReset : Nat := 7
def reasonReassembly : Nat := 8
def reasonInvalid : Nat := 9
def reasonRogue : Nat := 10
def reasonTagless : Nat := 11
def reasonSinglePath : Nat := 12
def reasonHsrUntagged : Nat := 13
def reasonSilence : Nat := 14
def reasonPause : Nat := 16

/-- The RESULT code of a drop reason (R427). [DEDUCED: log 26] -/
def resultOf (reason : Nat) : Nat :=
  if reason = 1 then 0x10 else if reason = 2 then 0x11 else if reason = 3 then 0x12 else if reason = 4 then 0x13
  else if reason = 5 then 0x14 else if reason = 6 then 0x15 else 0x16

/-- Change a port's ledger. -/
def Dev.updLedger (d : Dev) (p : Nat) (f : PortLedger → PortLedger) : Dev :=
  let x := d.port p
  d.setPort p { x with ledger := f x.ledger }

/-- A received frame's drop is counted by reason. -/
def Dev.countPortDrop (d : Dev) (p reason : Nat) : Dev :=
  d.updLedger p (fun l => { l with drops := tput 0 l.drops reason (tget 0 l.drops reason + 1) })

/-! ### Frames held in the hub buffer -/

/-- A hub frame that is not held. -/
def hubFrame0 : HubFrame := ⟨0, 0, 0, false, false, 0, 0⟩

/-- A held frame. -/
def Dev.hubFrame (d : Dev) (id : Nat) : HubFrame := tget hubFrame0 d.lan.hub id

/-- Hold a received frame of `cells` cells with a number of egress copies to come. Gives its number. -/
def Dev.hubNew (d : Dev) (x : HubFrame) : Nat × Dev :=
  (d.lan.nextHub, d.setLan { d.lan with
    hub := tput hubFrame0 d.lan.hub d.lan.nextHub x, nextHub := d.lan.nextHub + 1 })

/-- The frame has its outcome when no copy is open: it counts in exactly one term, and its cells are freed (R465). -/
def Dev.hubSettle (d : Dev) (id : Nat) : Dev :=
  let x := d.hubFrame id
  if x.copies > 0 then d else
  let d := d.setLan { d.lan with hub := tput hubFrame0 d.lan.hub id hubFrame0 }
  let d := d.freeCells (if x.port = 16 then 20 else x.port) x.cells
  if x.sent then d.updLedger x.port (fun l => { l with forwarded := l.forwarded + 1 })
  else if x.delivered then d.updLedger x.port (fun l => { l with delivered := l.delivered + 1 })
  else d.countPortDrop x.port x.reason

/-- One egress copy of a held frame left (`reason` 0) or was dropped. -/
def Dev.hubCopy (d : Dev) (id reason : Nat) : Dev :=
  let x := d.hubFrame id
  if x.copies = 0 then d else
  let y := { x with copies := x.copies - 1, sent := x.sent || reason == 0, reason := reason }
  (d.setLan { d.lan with hub := tput hubFrame0 d.lan.hub id y }).hubSettle id

/-- The frames of a port that are held. -/
def Dev.framesHeld (d : Dev) (p : Nat) : Nat := (d.lan.hub.filter (fun x => x.2.port == p)).length

/-! ### Links and speeds -/

/-- The port's mode: the link's while it is up, else the object's. -/
def Dev.portMode (d : Dev) (p : Nat) : Nat :=
  let l := d.netLink p
  if l.up then l.mode else if p = 16 then 5 else d.get 0x300002 p

/-- The time of a number of bytes in 2^-16 ns, rounded up (R148, R149): 0.32 ns a byte at 25G, 0.8 ns at 10G, 8 ns at
1000 Mb/s, 80 ns and 800 ns on a slower MGT. -/
def byteTime (mode n : Nat) : Nat :=
  if mode = 1 then (n * 32 * 65536 + 99) / 100
  else if mode = 2 then (n * 8 * 65536 + 9) / 10
  else if mode = 6 then ns (80 * n)
  else if mode = 7 then ns (800 * n)
  else ns (8 * n)

/-- One transmit clock period in 2^-16 ns: 2.56 ns, 6.4 ns or 8 ns (R148). -/
def clockPeriod (mode : Nat) : Nat := if mode = 1 then 167773 else if mode = 2 then 419431 else 524288

/-- Is the port enabled and its link up? -/
def Dev.portUp (d : Dev) (p : Nat) : Bool := (d.netLink p).up && (p == 16 || (d.on 0x300001 p && !d.inReset (portScopes p)))

/-- The instant that the port's replica reads. -/
def Dev.portNow (d : Dev) (p : Nat) : Nat := d.repTime p

/-- Bring device time to the instant at which the port's replica reads `t`. -/
def Dev.atPort (d : Dev) (p t : Nat) : Dev := d.at_ (shiftTime t (- (d.rep p).err))

/-! ### Classes (R139 to R141) -/

/-- Is a class scheduled on a port (object 0x3000:06)? -/
def Dev.scheduled (d : Dev) (p c : Nat) : Bool := p != 16 && bit (d.get 0x300006 p) c

/-- The class of a forwarded frame (R140). -/
def Dev.fwdClass (d : Dev) (p : Nat) (b : List Byte) : Nat :=
  if p = 16 then 0 else
  match vlanTci b with
  | some t => bits (d.get 0x300004 p) (3 * (t / 8192)) 3
  | none => d.get 0x300005 p

/-- A class's element in object 0x3010. -/
def clsElem (p c : Nat) : Nat := 8 * p + c

/-- A class's maximum frame length, FCS included; MGT has none. -/
def Dev.maxLen (d : Dev) (p c : Nat) : Nat := if p = 16 then 16384 else d.get 0x301001 (clsElem p c)

/-- Is pre-emption active on a port (R159)? -/
def Dev.preActive (d : Dev) (p : Nat) : Bool :=
  p != 16 && d.on 0x304001 p && (d.on 0x304002 p || d.get 0x304007 p == 3) && (d.netLink p).up

/-- Is a class preemptable while pre-emption is active? -/
def Dev.preemptable (d : Dev) (p c : Nat) : Bool := d.preActive p && d.on 0x301002 (clsElem p c)

/-! ### Banks and schedules -/

/-- A bank as its objects hold it (R142): element 4 × port + bank of object 0x3030. -/
def Dev.bankOf (d : Dev) (e : Nat) : Bank :=
  ⟨timeOfKtime (d.get 0x303001 e), d.get 0x303002 e, d.get 0x303003 e, d.get 0x303004 e, d.get 0x303005 e,
    d.get 0x303006 e, d.getB 0x303008 e⟩

/-- The bytes over which a bank copy's CRC-32 is taken: its objects in order of subindex, as they are carried. [DEDUCED: log 27] -/
def Bank.bytes (b : Bank) : List Byte :=
  leBytes 12 (ktimeOf b.base) ++ leBytes 4 b.whole ++ leBytes 4 b.frac ++ leBytes 4 b.ext ++ [byte b.anchor]
    ++ leBytes 2 b.count ++ b.entries

/-- The Orrery's schedule, and Tether's own. -/
def PortSt.sched (x : PortSt) : Sched := ⟨x.orrery, x.switch.map (fun s => (s.orrery, s.at_))⟩
def PortSt.tetherSched (x : PortSt) : Sched := ⟨x.tether, x.switch.map (fun s => (s.tether, s.at_))⟩

/-- Do the port's gates run from the active bank (R151)? -/
def Dev.gatesRun (d : Dev) (p : Nat) : Bool := p != 16 && d.on 0x302003 p

/-- The gate states in effect: the bank's or the fixed ones (R151), the scheduled classes closed while the replica is
unsynchronised (R26), while the SRAM copy is bad (R154) and in the safe state (R458). -/
def Dev.gatesOf (d : Dev) (p : Nat) : Nat :=
  if p = 16 then 0xFF else
  let x := d.port p
  let g := if d.gatesRun p then x.gates else d.get 0x302004 p
  if d.unsync p || x.sramBad || d.safe p then clearBits g (d.get 0x300006 p) else g

/-! ### Dropping a frame that waits to leave -/

/-- A frame that waits to leave a port is dropped whole before its first bit, for a reason (R127, R427, R465). -/
def Dev.dropTx (d : Dev) (p : Nat) (f : QFrame) (reason : Nat) : Dev :=
  let d := match f.tag with
    | some tag => if p < 16 then d.tsqPush p ⟨true, tag, d.now⟩ else d
    | none => d
  match f.src with
  | .hub id => d.hubCopy id reason
  | .entry q idx second => (d.freeCells ownerStaging f.cells).txOutcome q idx second (resultOf reason)
  | .own => d

/-- Drop the waiting frames that a test picks. -/
def Dev.dropWaitingTx (d : Dev) (p reason : Nat) (pick : QFrame → Bool) : Dev :=
  let x := d.port p
  let d := d.setPort p { x with waiting := x.waiting.filter (fun f => !pick f) }
  (x.waiting.filter pick).foldl (fun d f => d.dropTx p f reason) d

/-- The safe state of a port drops its scheduled-class frames; one in transmission finishes (R458). -/
def Dev.portSafe (d : Dev) (p : Nat) : Dev := d.dropWaitingTx p reasonSafe (fun f => d.scheduled p f.cls)

/-! ### Guard band (R149) and late polls (R170) -/

/-- A frame's length with FCS, or the class's maximum for one being cut through. -/
def Dev.frameLen (d : Dev) (p : Nat) (f : QFrame) : Nat :=
  if f.cut then d.maxLen p f.cls else f.bytes.length + 4

/-- May a frame start at an instant of the port's replica (R149)? -/
def Dev.guardOk (d : Dev) (p : Nat) (f : QFrame) (t : Nat) : Bool :=
  if !d.gatesRun p then true else
  match (d.port p).sched.closes f.cls t with
  | none => true
  | some (e, op) =>
    let n := if d.preemptable p f.cls && op == 1 then 64 * (1 + d.get 0x304004 p) else d.frameLen p f
    decide ((t : Int) + byteTime (d.portMode p) (n + 20) ≤ e)

/-- The start of entry `i` in cycle n of a bank, where the cycle reaches it. -/
def Bank.entryStart (b : Bank) (n : Int) (i : Nat) : Option Int :=
  let off := (List.range i).foldl (fun a k => a + ns (entryInterval (b.entry k))) 0
  let s := b.cycle.startAt n + off
  if i < b.count ∧ s < b.cycle.startAt (n + 1) then some s else none

/-- The first start of entry `i` of a bank at or after an instant. -/
def Bank.entryFrom (b : Bank) (i : Nat) (u : Int) : Option Int :=
  let n := b.cycle.at_ u
  match b.entryStart n i with
  | some s => if s ≥ u then some s else b.entryStart (n + 1) i
  | none => b.entryStart (n + 1) i

/-- The first gate open of a binding at or after an instant, under the old bank before a switch's instant and under the
new one from it on (R169, R171). -/
def Dev.gateOpen (d : Dev) (b : Nat) (u : Nat) : Option Nat :=
  let x := d.port (d.get 0x306002 b)
  let i := d.get 0x306004 b
  let old := x.orrery.entryFrom i u
  let r := match x.switch with
    | none => old
    | some s =>
      (match old with
       | some g => if g < x.orrery.cutFrom s.at_ then some g
                   else s.orrery.entryFrom i (if u < s.at_ then (s.at_ : Int) else u)
       | none => s.orrery.entryFrom i (if u < s.at_ then (s.at_ : Int) else u))
  r.map Int.toNat

/-- A frame fetched by a late poll whose window can no longer take it: the binding's late action drops it or holds it for
the next window (R170). -/
def Dev.lateSweep (d : Dev) (p : Nat) : Dev :=
  let t := d.portNow p
  let gates := d.gatesOf p
  let missed := fun (f : QFrame) =>
    f.late.isSome && decide (f.notBefore ≤ t) && !(bit gates f.cls && d.guardOk p f t)
  let x := d.port p
  let hold := fun (f : QFrame) =>
    match f.late with
    | some b =>
      if missed f && d.get 0x306006 b == 1 then { f with late := none, notBefore := (d.gateOpen b (t + 1)).getD t } else f
    | none => f
  let d := d.setPort p { x with waiting := x.waiting.map hold }
  d.dropWaitingTx p reasonLate missed

/-- A frame is held for a port, behind the frames of its class (R139): dropped where the link is down or the port
disabled, where its class is scheduled and the port in the safe state, or where a fetched frame finds no buffer (R427). -/
def Dev.enqueue (d : Dev) (p : Nat) (f : QFrame) : Dev :=
  if !d.portUp p then d.dropTx p f reasonLink
  else if d.scheduled p f.cls && d.safe p then d.dropTx p f reasonSafe
  else
    match f.src with
    | .entry _ _ _ =>
      let n := cellsFor (f.bytes.length + 4)
      (match d.takeCells ownerStaging n with
       | some d =>
         let x := d.port p
         (d.setPort p { x with waiting := x.waiting ++ [{ f with cells := n }] }).lateSweep p
       | none => d.dropTx p f reasonNoBuffer)
    | _ =>
      let x := d.port p
      d.setPort p { x with waiting := x.waiting ++ [f] }

/-! ### Tether (R166 to R168) -/

/-- May a frame of a scheduled class start at `s` by Tether's own copy and replica (R166)? -/
def Dev.tetherAllows (d : Dev) (p : Nat) (f : QFrame) (t : Nat) : Bool :=
  let x := d.port p
  if !d.gatesRun p || !d.on 0x305003 p || (d.tether p).blocked then false else
  let sch := x.tetherSched
  let s : Int := (t : Int) - (d.rep p).err + (d.tether p).err
  let tol : Int := ns (d.get 0x305001 p)
  let dur : Int := byteTime (d.portMode p) (d.frameLen p f + 20)
  let tries := s :: (s - tol) :: sch.changes (s + tol) 8 (s - tol)
  tries.any (fun u => sch.isOpen f.cls u && (match sch.closes f.cls u with
    | none => true
    | some (e, _) => decide (s + dur ≤ e + tol)))

/-- Tether's replica takes a pulse: its own error against the boundary. More than 4 ns apart from the port replica at
three pulses in a row, it blocks every scheduled class and source 67 (146 for a ring port) is raised (R168, R227). [DEDUCED: log 28] -/
def Dev.tetherPulse (d : Dev) (i : Nat) (err : Int) : Dev :=
  let x := d.tether i
  let r := if i < 16 then i else i + 1
  let apart := decide (absInt (err - (d.rep r).err) > ns 4)
  let dis := if apart then x.disagree + 1 else 0
  let agree := if absInt err ≤ halfNs then x.agree + 1 else if absInt err ≤ ns 4 ∧ x.agree ≥ 2 then x.agree else 0
  let blocked := decide (dis ≥ 3)
  let src := if i < 16 then 67 else 146
  let unit := if i < 16 then i else (i - 16) / 2
  let d := d.setTether i ⟨err, dis, agree, blocked⟩
  let d := if i < 16 then d.put 0x305003 i (b2n (decide (agree ≥ 2) && dis == 0)) else d
  if blocked && !x.blocked then (d.raise src unit 0 0).setLive src unit true
  else if !blocked && x.blocked then d.setLive src unit false
  else d

/-! ### Transmission (R139, R148 to R150, R160, R161, R166) -/

/-- The fragment of a preemptable frame in progress is ended at the next allowed point, where at least one more fragment
of 64 bytes remains (R160, R161). -/
def Dev.interrupt (d : Dev) (p : Nat) : Dev :=
  let x := d.port p
  match x.now with
  | none => d
  | some n =>
    let total := n.frame.bytes.length + 4
    let least := 64 * (1 + d.get 0x304004 p)
    let bt := byteTime (d.portMode p) 1
    let gone := if bt = 0 then 0 else (d.portNow p - n.fragStart) / bt
    let cut := if gone < least then least else gone
    if n.express || decide (n.sent + cut + 64 > total) then d
    else d.setPort p { x with now := some { n with
      frag := cut, end_ := n.fragStart + byteTime (d.portMode p) cut } }

/-- Put a frame, or the rest of one, on the wire at an instant of the port's replica. -/
def Dev.startTx (d : Dev) (p : Nat) (n : TxNow) (t : Nat) : Dev :=
  let rest := n.frame.bytes.length + 4 - n.sent
  let x := d.port p
  let mode := d.portMode p
  d.setPort p { x with
    now := some { n with fragStart := t, frag := rest, end_ := t + byteTime mode rest }
    freeAt := t + byteTime mode (rest + 20) }

/-- A frame is taken from the waiting frames and started: Tether first has its say over a scheduled class (R166). A
forwarded PTP message is corrected as a transparent clock (R125); over UDP its checksum is then 0 (R116). -/
def Dev.launch (d : Dev) (p : Nat) (f : QFrame) (t : Nat) : Dev :=
  let x := d.port p
  let d := d.setPort p { x with waiting := x.waiting.erase f }
  if d.scheduled p f.cls && !d.tetherAllows p f t then
    ((d.dropTx p f reasonGuard).inc 0x301004 (clsElem p f.cls)).raise 66 p 0 0
  else
    let r := match f.src, ptpAt f.bytes with
      | .hub id, some o =>
        let h := d.hubFrame id
        let c := d.tcCorrect h.port p h.rxTime t (f.bytes.drop o)
        let b := f.bytes.take o ++ c.1
        ({ f with bytes := if c.1 != f.bytes.drop o && frameType b == 0x0800 then splice b (o - 2) [0, 0] else b }, c.2)
      | _, _ => (f, d)
    r.2.startTx p ⟨r.1, t, t, t, 0, 0, !d.preemptable p f.cls⟩ t

/-- Drop the oversize frames at the head of a class (R150). -/
def Dev.dropOversize (d : Dev) (p c : Nat) : Dev :=
  let big := (d.port p).waiting.filter (fun f =>
    f.cls == c && !f.cut && decide (f.bytes.length + 4 > d.maxLen p c) && decide (f.notBefore ≤ d.portNow p))
  let d := if p = 16 then d else d.add 0x301005 (clsElem p c) big.length
  d.dropWaitingTx p reasonOversize (fun f => big.contains f)

/-- The frame that class `c` offers at an instant, if its gate is open and it passes the guard band; not while the class
is paused, nor a preemptable class while the port is held (R139, R141, R160). -/
def Dev.offer (d : Dev) (p : Nat) (t : Nat) (c : Nat) : Option QFrame :=
  let x := d.port p
  if !bit (d.gatesOf p) c then none
  else if decide (t < x.paused) && !d.scheduled p c then none
  else if x.hold && d.preemptable p c then none
  else match x.waiting.find? (fun f => f.cls == c && decide (f.notBefore ≤ t)) with
    | some f => if d.guardOk p f t then some f else none
    | none => none

/-- A free port chooses the highest eligible class and starts a frame within one transmit clock period (R139, R148); a
port that sends a preemptable frame is interrupted for an express one (R160). -/
def transmissionSelection (p : Nat) (delay : Nat) (d : Dev) : Dev :=
  if !d.portUp p then d else
  let t0 := d.portNow p + delay % clockPeriod (d.portMode p)
  let t := if t0 < (d.port p).freeAt then (d.port p).freeAt else t0
  let classes := [7, 6, 5, 4, 3, 2, 1, 0]
  let d := classes.foldl (fun d c => if bit (d.gatesOf p) c then d.dropOversize p c else d) d
  let x := d.port p
  match x.now with
  | some n =>
    if !n.express && classes.any (fun c => !d.preemptable p c && (d.offer p t0 c).isSome) then d.interrupt p else d
  | none =>
    let d := d.atPort p t
    match classes.findSome? (fun c => d.offer p t c), x.held with
    | some f, none => d.launch p f t
    | some f, some h =>
      if d.preemptable p f.cls then (d.setPort p { d.port p with held := none }).startTx p h t else d.launch p f t
    | none, some h =>
      if x.hold && d.preActive p then d else (d.setPort p { d.port p with held := none }).startTx p h t
    | none, none => d

/-- A frame's last bit leaves its port (R427): its transmit timestamp entry is written, its transmit entry or hub frame
settled. A fragment that is not the last leaves the rest held (R160, R161). -/
def transmitComplete (p : Nat) (d : Dev) : Dev :=
  match (d.port p).now with
  | none => d
  | some n =>
    let d := d.atPort p n.end_
    let x := d.port p
    let total := n.frame.bytes.length + 4
    let split := decide (n.sent > 0) || decide (n.sent + n.frag < total)
    let d := if split then d.inc 0x304008 p else d
    if n.sent + n.frag < total then
      d.setPort p { x with
        now := none, held := some { n with sent := n.sent + n.frag }
        freeAt := n.end_ + byteTime (d.portMode p) 24 }
    else
      let f := n.frame
      let d := d.setPort p { d.port p with now := none }
      let past := f.cut && decide (total > d.maxLen p f.cls)
      let d := if past && p != 16 then d.inc 0x301005 (clsElem p f.cls) else d
      let d := if f.bad then (d.inc 0x301006 (clsElem p f.cls)).emit (.badFrame p f.bytes n.start)
        else d.emit (.frame p f.bytes n.start)
      let d := match f.tag with
        | some tag => if p < 16 then d.tsqPush p ⟨false, tag, d.txStamp p n.start⟩ else d
        | none => d
      match f.src with
      | .hub id => d.hubCopy id 0
      | .entry q idx second => (d.freeCells ownerStaging f.cells).txOutcome q idx second 0
      | .own => d

/-! ### Gates (R144, R150, R153, R161) -/

/-- Set a port's gates to a schedule point: entry in force, and an overrun of a frame whose gate closes under it (R150);
frames of late polls meet their fate (R170). -/
def Dev.setGates (d : Dev) (p : Nat) (pt : Point) (at_ : Nat) : Dev :=
  let x := d.port p
  let past := match x.now with
    | some n =>
      bit x.gates n.frame.cls && !bit pt.gates n.frame.cls && decide (n.end_ > at_)
        && !(d.preemptable p n.frame.cls && !n.express && pt.op == 1)
    | none => false
  let c := match x.now with
    | some n => n.frame.cls
    | none => 0
  let d := d.setPort p { x with gates := pt.gates, op := pt.op, entryAt := at_ }
  let d := d.put 0x302006 p pt.entry
  let d := if past then (d.inc 0x301003 (clsElem p c)).raise 65 p 0 0 else d
  d.lateSweep p

/-- The next gate instant of a port: the present entry's start where it has not been taken yet, else the next change. -/
def Dev.nextGate (d : Dev) (p : Nat) : Nat :=
  let x := d.port p
  let t := d.portNow p
  let pt := x.sched.point t
  if pt.began > x.entryAt then pt.began.toNat else pt.next.toNat

/-- A gate-list entry, or a new cycle, starts (R144): time is brought to it. At a switch's instant S the switch takes its
place (R153). -/
def gateEntryStart (p : Nat) (d : Dev) : Dev :=
  if !d.gatesRun p || (d.port p).sramBad then d else
  let x := d.port p
  let t := d.nextGate p
  let atSwitch := match x.switch with
    | some s => decide (t ≥ s.at_)
    | none => false
  if atSwitch then d else
  let d := d.atPort p t
  let pt := x.sched.point t
  let d := d.setGates p pt t
  if pt.entry = 0 ∧ x.orrery.cycle.startAt pt.cycle = t then d.inc 0x302005 p else d

/-- Resolve a switch (R153): S is the first cycle start of the new bank at or after the boundary instant. -/
def Dev.planSwitch (d : Dev) (p bank t : Nat) : Dev :=
  let b := d.bankOf (4 * p + bank)
  let s := (b.cycle.startAt (b.cycle.firstFrom t)).toNat
  let x := d.port p
  d.setPort p { x with switch := some ⟨bank, s, b, b⟩ }

/-- The new bank becomes active at S (R153, R161). -/
def bankSwitch (p : Nat) (d : Dev) : Dev :=
  match (d.port p).switch with
  | none => d
  | some s =>
    let d := d.atPort p s.at_
    let d := d.setPort p { d.port p with orrery := s.orrery, tether := s.tether, switch := none, sramBad := false }
    let pt := s.orrery.point s.at_
    let d := (d.put 0x302001 p s.bank).put 0x305002 p (crc32 s.tether.bytes)
    let d := if d.gatesRun p then (d.setGates p pt s.at_).inc 0x302005 p else d
    let op := entryOp (s.orrery.entry 0)
    d.setPort p { d.port p with hold := if op = 1 then true else if op = 2 then false else (d.port p).hold }

/-- An uncorrectable error in the Orrery's SRAM copy (R154). -/
def orrerySramError (p : Nat) (d : Dev) : Dev :=
  (d.setPort p { d.port p with sramBad := true }).raise 68 p 0 0

/-- The active bank is loaded anew from the master copy, and the gates resume at its next cycle start (R460). -/
def Dev.reloadBank (d : Dev) (p : Nat) : Dev :=
  let b := d.bankOf (4 * p + d.get 0x302001 p)
  let x := d.port p
  let t := b.cycle.startAt (b.cycle.firstFrom (d.portNow p))
  d.setPort p { x with orrery := b, sramBad := false, entryAt := (t - 1).toNat }

/-- The start of the next entry with an operation, after an instant; `fuel` bounds the changes looked at. -/
def Sched.nextOp (x : Sched) (op : Nat) : Nat → Int → Option Int
  | 0, _ => none
  | n + 1, t =>
    let e := (x.point t).next
    if (x.point e).op = op then some e else x.nextOp op n e

/-- The hold request, or the release, ahead of an entry (R161): nothing while pre-emption is not active (R159). -/
def Dev.holdRelease (d : Dev) (p op adv : Nat) (hold : Bool) : Dev :=
  if !d.gatesRun p then d else
  let x := d.port p
  match x.sched.nextOp op x.sched.fuel (d.portNow p) with
  | none => d
  | some e =>
    let d := d.atPort p (e.toNat - ns adv)
    if !d.preActive p then d else
    let d := d.setPort p { d.port p with hold := hold }
    if hold then d.interrupt p else d

/-- HOLD_REQUEST at an OP 0x1 entry's start minus holdAdvance (R161). -/
def holdRequest (p : Nat) (d : Dev) : Dev := d.holdRelease p 1 (d.get 0x304005 p) true

/-- RELEASE_REQUEST at an OP 0x2 entry's start minus releaseAdvance (R161). -/
def releaseRequest (p : Nat) (d : Dev) : Dev := d.holdRelease p 2 (d.get 0x304006 p) false

/-! ### Pre-emption verification (R159, R163) -/

/-- Begin the verification of IEEE 802.3br, or not, by the objects. -/
def Dev.beginVerify (d : Dev) (p : Nat) : Dev :=
  let x := d.port p
  if !d.on 0x304001 p || d.on 0x304002 p then d.put 0x304007 p 0
  else if !(d.netLink p).up then d.put 0x304007 p 1
  else ((d.setPort p { x with verifyTries := 1 }).put 0x304007 p 2).emit (.message "VERIFY" [byte p])

/-- verifyTime elapses (R163): three tries in all, then verification has failed. -/
def preemptionVerifyTimer (p : Nat) (d : Dev) : Dev :=
  let x := d.port p
  if d.get 0x304007 p ≠ 2 then d
  else if x.verifyTries < 3 then
    (d.setPort p { x with verifyTries := x.verifyTries + 1 }).emit (.message "VERIFY" [byte p])
  else d.put 0x304007 p 4

/-- A verify mPacket is answered; a respond mPacket completes the verification (R163). -/
def Dev.verifyPacket (d : Dev) (p : Nat) (respond : Bool) : Dev :=
  if respond then (if d.get 0x304007 p = 2 then d.put 0x304007 p 3 else d)
  else d.emit (.message "RESPOND" [byte p])

/-- One fragment, or a whole express frame, of a preemptable frame arrives (R163): the first fragment opens a frame, the
last closes it. Gives the whole frame with the time of its first fragment (R112) once complete; a bad one is discarded whole and counted. [DESIGN CHOICE: log 40] -/
def Dev.fragment (d : Dev) (p frame count : Nat) (first last good : Bool) (bs : List Byte) (t : Nat) : Option (Nat × List Byte) × Dev :=
  let x := d.port p
  let bad := fun (d : Dev) => ((d.inc 0x304009 p).countPortDrop p reasonReassembly).updLedger p
    (fun l => { l with received := l.received + 1 })
  if first then
    let d := if x.rxFrag.isSome then bad d else d
    if !good then (none, (bad d).setPort p { (bad d).port p with rxFrag := none })
    else if last then (some (t, bs), d.setPort p { d.port p with rxFrag := none })
    else (none, d.setPort p { d.port p with rxFrag := some ⟨frame, 0, bs, t⟩ })
  else
    match x.rxFrag with
    | none => (none, d)
    | some r =>
      if !good || r.frame != frame || r.next != count then (none, (bad d).setPort p { (bad d).port p with rxFrag := none })
      else if last then (some (r.time, r.bytes ++ bs), d.setPort p { x with rxFrag := none })
      else (none, d.setPort p { x with rxFrag := some ⟨frame, (count + 1) % 4, r.bytes ++ bs, r.time⟩ })

/-! ### Polls tied to gates (R169 to R171) -/

/-- The Orrery issues a bound queue's poll at the gate open minus the poll lead, with the deadline 2 µs before it (R169). -/
def orreryPoll (b : Nat) (d : Dev) : Dev :=
  let p := d.get 0x306002 b
  let q := d.get 0x306001 b
  if p ≥ 16 || !d.gatesRun p then d else
  let lead := ns (d.get 0x306005 b)
  let t := d.portNow p + lead
  let last := tget 0 d.lan.polled b
  match d.gateOpen b (if last < t then t else last + 1) with
  | none => d
  | some g =>
    let d := d.atPort p (g - lead)
    let d := d.setLan { d.lan with polled := tput 0 d.lan.polled b g }
    let x := d.queue q
    if x.state ≠ qActive then d else
    d.setQueue q { x with
      orrery := some (d.get 0x306009 b), due := some d.now, deadline := shiftTime (g - us 2) (- (d.rep p).err) }

/-- The data of a transmit entry is here: a frame for PORT, and one for PORT2 where DUAL is set (R194, R426). -/
def Dev.txData (d : Dev) (q idx : Nat) (bs : List Byte) : Dev :=
  let x := d.queue q
  match x.entries.find? (fun e => e.idx == idx) with
  | none => d
  | some e =>
    let dw := leAt e.raw 0 4
    let late := if x.lateIdx.contains idx then d.bindingOf q else none
    let nb := match late with
      | some b => tget 0 d.lan.polled b
      | none => 0
    let tag := if bit dw 30 then some (leAt e.raw 4 2) else none
    let f : QFrame := ⟨bs, bits dw 24 3, .entry q idx false, tag, false, false, late, nb, 0⟩
    let d := d.setQueue q { x with entries := markEntry idx (fun e => { e with phase := .busy }) x.entries }
    let d := d.enqueue (bits dw 20 4) f
    if bit dw 29 then d.enqueue (bits dw 16 4) { f with src := .entry q idx true } else d

/-! ### Links -/

/-- A link goes down: what waits and what is being sent is lost (R427). -/
def Dev.portDown (d : Dev) (p : Nat) : Dev :=
  let x := d.port p
  let lost := (x.now.map (fun n => n.frame)).toList ++ (x.held.map (fun n => n.frame)).toList
  let d := d.setPort p { x with now := none, held := none, rxFrag := none }
  let d := lost.foldl (fun d f => d.dropTx p f reasonLink) d
  let d := d.dropWaitingTx p reasonLink (fun _ => true)
  if p < 16 then d.beginVerify p else d

/-- LINK_UP: MODE and FEC are the link's (R131, R159). -/
def linkUp (p mode fec : Nat) (d : Dev) : Dev :=
  if p < 16 && !d.on 0x300001 p then d else
  let d := d.linkOn p mode fec
  if p < 16 then d.beginVerify p else d

/-- LINK_DOWN: source 64 (R454). -/
def linkDown (p : Nat) (d : Dev) : Dev := if (d.netLink p).up then (d.linkOff p).portDown p else d

/-! ### Changes that a transaction makes (R151 to R154, R172) -/

/-- A frame that waits moves to its new class behind the frames already there, in its order of arrival (R172). -/
def Dev.reclass (d : Dev) (p : Nat) : Dev :=
  let x := d.port p
  let new := fun (f : QFrame) => match f.src with
    | .hub _ => d.fwdClass p f.bytes
    | _ => f.cls
  let stay := x.waiting.filter (fun f => new f == f.cls)
  let move := (x.waiting.filter (fun f => new f != f.cls)).map (fun f => { f with cls := new f })
  d.setPort p { x with waiting := stay ++ move }

/-- What applying a port object does beside the object, at the boundary instant `t`. -/
def Dev.portApplied (d : Dev) (o e t : Nat) : Dev :=
  if o = 0x302002 then d.planSwitch e (d.get 0x302002 e) t
  else if o = 0x302003 then
    (if d.on 0x302003 e then
      let pt := (d.port e).sched.point t
      d.setPort e { d.port e with gates := pt.gates, op := pt.op, entryAt := pt.began.toNat }
    else d)
  else if o = 0x300001 then (if d.on 0x300001 e then d else linkDown e d)
  else if o = 0x300002 ∨ o = 0x300003 then
    (if (d.netLink e).up && ((d.netLink e).mode != d.get 0x300002 e || (d.netLink e).fec != d.get 0x300003 e)
      then linkDown e d else d)
  else if o = 0x300004 ∨ o = 0x300005 then d.reclass e
  else if o = 0x304001 ∨ o = 0x304002 then d.beginVerify e
  else if o / 256 = 0x3030 then d.put 0x303007 e 0
  else d

/-- Is a bank active, or named by a switch that waits (R154)? -/
def Dev.bankBusy (d : Dev) (e : Nat) : Bool :=
  let p := e / 4
  d.get 0x302001 p == e % 4 || (match (d.port p).switch with
    | some s => s.bank == e % 4
    | none => false)

/-- Is the bank that a switch of port `p` would activate valid (R154)? -/
def Dev.switchReady (d : Dev) (p bank : Nat) : Bool := d.get 0x303007 (4 * p + bank) == 0

/-- The start of the port's cycle of a number, as object 0x3020:05 counts (R152). -/
def Dev.portCycleTime (d : Dev) (p n : Nat) : Nat :=
  let c := (d.port p).orrery.cycle
  let k := c.at_ (d.portNow p)
  (c.startAt (k + (n : Int) - d.get 0x302005 p)).toNat

/-! ### COMMIT checks (R141, R145, R147, R164, R169) -/

/-- Does a bank meet R145 on a port, on the values a transaction would make active? -/
def Dev.bankOk (d : Dev) (e : Nat) : Bool :=
  let p := e / 4
  let b := d.bankOf e
  decide (1000 ≤ b.whole) && decide (b.whole ≤ 1000000000) && decide (1 ≤ b.count) &&
    b.entriesOk (d.on 0x304001 p) && b.cycle.anchorOk && decide (b.ext ≤ b.whole) &&
    [0, 1, 2, 3, 4, 5, 6, 7].all (fun c => match b.shortestRun c with
      | none => true
      | some r => decide (byteTime (d.get 0x300002 p) (d.maxLen p c + 20) * 65536 ≤ r))

/-- Does a binding fit a bank of its port: its entry exists and opens its class (R169)? [DEDUCED: log 30] -/
def Dev.bindFits (d : Dev) (b bank : Nat) : Bool :=
  let p := d.get 0x306002 b
  let k := d.bankOf (4 * p + bank)
  let i := d.get 0x306004 b
  decide (i < k.count) && bit (entryGates (k.entry i)) (d.get 0x306003 b)

/-- The bindings of a port. -/
def Dev.bindingsOf (d : Dev) (p : Nat) : List Nat := (d.listed 0x306002).filter (fun b => d.get 0x306002 b == p)

/-- May PAUSE be on (R141): no scheduled class, and no stream received on the port? -/
def Dev.pauseOk (d : Dev) (p : Nat) : Bool :=
  d.get 0x300006 p == 0 &&
  !(d.listed 0x610001).any (fun s => d.on 0x610001 s && bit (d.get 0x610002 s) p) &&
  !(d.listed 0x611001).any (fun s => d.on 0x611001 s) &&
  !(d.listed 0xA00001).any (fun s => d.on 0xA00001 s && bit (d.get 0xA00002 s) p)

/-- The COMMIT checks of the port objects, on the values a transaction would make active; 0 for none. -/
def Dev.checkPort (d : Dev) (o e : Nat) : Nat :=
  let i := o / 256
  let bad := fun (b : Bool) => if b then 0x0404 else 0
  if i = 0x3000 then
    bad ((d.on 0x300008 e && !d.pauseOk e) || (d.get 0x300007 e &&& d.get 0x300006 e) != d.get 0x300007 e
      || (d.get 0x300003 e != 0 && d.get 0x300002 e != 1)
      || (d.bindingsOf e).any (fun b => !bit (d.get 0x300006 e) (d.get 0x306003 b)))
  else if o = 0x302002 then bad ((d.bindingsOf e).any (fun b => !d.bindFits b (d.get 0x302002 e)))
  else if i = 0x3030 then
    bad (!d.bankOk e || (d.bindingsOf (e / 4)).any (fun b => !d.bindFits b (e % 4)))
  else if i = 0x3060 then
    let p := d.get 0x306002 e
    if p = 0xFF then 0 else
    bad (decide (p ≥ 16) || !bit (d.get 0x300006 p) (d.get 0x306003 e) || !d.bindFits e (d.get 0x302001 p)
      || !d.bindFits e (d.get 0x302002 p))
  else if i = 0x6100 ∨ i = 0x6110 ∨ i = 0xA000 then
    bad ((List.range 16).any (fun p => d.on 0x300008 p && !d.pauseOk p))
  else 0

end Sys2Proof.Machine
end

