-- ==== Sys2Proof/Machine/Eclipse.lean ====
section
/-! DEFINITION. Duplicate elimination and sequence generation: IEEE 802.1CB recovery functions, PRP and HSR pairs, the
node table, generation functions (R175 to R199). -/
namespace Sys2Proof.Machine

/-- Replace the Eclipse's part. -/
def Dev.setEcl (d : Dev) (x : EclSt) : Dev := { d with ecl := x }

/-- A history that takes any number. -/
def hist0 : Hist := ⟨0, 0, true, none⟩

/-- A recovery function before any frame. -/
def recFn0 : RecFn := ⟨hist0, 0, 0, 0, 0, 0, none⟩

/-- Recovery function `h`. -/
def Dev.fn (d : Dev) (h : Nat) : RecFn := tget recFn0 d.ecl.fns h

/-- Replace recovery function `h`. -/
def Dev.setFn (d : Dev) (h : Nat) (x : RecFn) : Dev := d.setEcl { d.ecl with fns := tput recFn0 d.ecl.fns h x }

/-- A pair before any frame. -/
def pair0 : Pair := ⟨none, 0, 0, 0, 0, 0⟩

/-- Port pair `k`. -/
def Dev.pair (d : Dev) (k : Nat) : Pair := tget pair0 d.ecl.pairs k

/-- Replace port pair `k`. -/
def Dev.setPair (d : Dev) (k : Nat) (x : Pair) : Dev := d.setEcl { d.ecl with pairs := tput pair0 d.ecl.pairs k x }

/-- A free node entry. -/
def node0 : Node := ⟨[], 0, 0, hist0, hist0, hist0, 0, 0, 0, none⟩

/-- The bytes of object 0x3210 for a node entry. -/
def nodeBytes (n : Node) : List Byte :=
  if n.kind = 0 then zeros 32 else
  n.mac ++ [byte n.pair, byte n.kind] ++ leBytes 8 (ts64Of n.lastA) ++ leBytes 8 (ts64Of n.lastB) ++ leBytes 2 n.seq ++ zeros 6

/-- Replace node entry `i`; object 0x3210 shows it, and object 0x3200:0A counts the pair's entries. -/
def Dev.setNode (d : Dev) (i : Nat) (x : Node) : Dev :=
  let old := tget node0 d.ecl.nodes i
  let d := d.setEcl { d.ecl with nodes := tput node0 d.ecl.nodes i x }
  let d := d.putB 0x321001 i (nodeBytes x)
  let use := fun (d : Dev) (k : Nat) => d.put 0x32000A k ((d.ecl.nodes.filter (fun y => y.2.pair == k)).length)
  use (use d old.pair) x.pair

/-! ### Histories (R182) -/

/-- What becomes of a copy: taken, a duplicate, or rogue. -/
inductive Verdict where
  | take
  | duplicate
  | rogue
deriving DecidableEq, Repr

/-- A decision: verdict, new history, whether it counts out of order, and how many numbers are counted lost. -/
structure Decision where
  verdict : Verdict
  hist : Hist
  outOfOrder : Bool
  lost : Nat
deriving DecidableEq, Repr

/-- signed16(s − recov). -/
def seqDiff (s recov : Nat) : Int := toInt 16 (ofInt 16 ((s : Int) - recov))

/-- The zero bits among the top `k` of `h` history bits. -/
def zerosOut (h bs k : Nat) : Nat := ((List.range k).filter (fun i => !bit bs (h - 1 - i))).length

/-- The vector algorithm (R182) over a history of length `h`, the timer restarted to `until_` by a take. -/
def vectorDecide (h : Nat) (x : Hist) (s until_ : Nat) : Decision :=
  let diff := seqDiff s x.recov
  if x.takeAny then ⟨.take, ⟨s, 1, false, some until_⟩, false, 0⟩
  else if diff ≤ -(h : Int) ∨ diff ≥ h then ⟨.rogue, x, false, 0⟩
  else if diff ≤ 0 then
    let k := (-diff).toNat
    if bit x.bits k then ⟨.duplicate, x, false, 0⟩
    else ⟨.take, { x with bits := setBit x.bits k true, deadline := some until_ }, true, 0⟩
  else
    let k := diff.toNat
    ⟨.take, ⟨s, (x.bits * 2 ^ k) % 2 ^ h ||| 1, false, some until_⟩, decide (diff > 1), zerosOut h x.bits k⟩

/-- The match algorithm (R182); a number withdrawn under R177 is not held any more. The history of length `h` goes on as the vector
algorithm keeps it, so that a change to that algorithm takes no second copy (R185). [DEDUCED: log 150] -/
def matchDecide (h : Nat) (x : Hist) (s until_ : Nat) : Decision :=
  if !x.takeAny && s == x.recov && bit x.bits 0 then ⟨.duplicate, x, false, 0⟩
  else
    let diff := seqDiff s x.recov
    let bs := if x.takeAny || decide (h ≤ absInt diff) then 1
      else if 0 ≤ diff then (x.bits * 2 ^ diff.toNat) % 2 ^ h ||| 1 else x.bits / 2 ^ (-diff).toNat ||| 1
    ⟨.take, ⟨s, bs, false, some until_⟩, !x.takeAny && diff != 1, 0⟩

/-- Withdraw a take: the number is cleared from the history, as if the copy had never arrived (R177). -/
def Hist.withdraw (x : Hist) (s : Nat) : Hist :=
  let k := (- seqDiff s x.recov).toNat
  { x with bits := setBit x.bits k false }

/-- Does a history of any length hold a number? -/
def Hist.holds (x : Hist) (s : Nat) : Bool :=
  let k := - seqDiff s x.recov
  !x.takeAny && decide (0 ≤ k) && decide (k < 128) && bit x.bits k.toNat

/-! ### IEEE 802.1CB (R181 to R186) -/

/-- Does an identification entry match a frame on a port (R181)? -/
def Dev.identifies (d : Dev) (h p : Nat) (b : List Byte) : Bool :=
  let any := fun (o : Nat) (none_ v : Nat) => d.get o h == none_ || d.get o h == v
  p < 16 && bit (d.get 0x31000A h) p &&
    (match d.get 0x310001 h with
     | 1 => d.getB 0x310002 h == dstMac b && d.get 0x310003 h == frameVid b
     | 2 => d.getB 0x310002 h == srcMac b && d.get 0x310003 h == frameVid b
     | 3 =>
       let q := payload b
       let hd := ipHeader q
       frameType b == 0x0800 && byteAt q 0 / 16 == 4 && beNat (d.getB 0x310004 h) == beAt q 12 4
         && beNat (d.getB 0x310005 h) == beAt q 16 4 && any 0x310006 0xFF (byteAt q 1 / 4) && any 0x310007 0xFF (byteAt q 9)
         && any 0x310008 0 (beAt q hd 2) && any 0x310009 0 (beAt q (hd + 2) 2)
     | _ => false)

/-- The stream handle of a frame: IPv4 entries first, then source entries, then null entries (R181). -/
def Dev.handleOf (d : Dev) (p : Nat) (b : List Byte) : Option Nat :=
  let es := d.listed 0x310001
  [3, 2, 1].findSome? (fun m => es.find? (fun h => d.get 0x310001 h == m && d.identifies h p b))

/-- Advance a part of object 0x3110:10: `shift` 32 lost, 16 resets, 0 latent errors. -/
def Dev.addPart (d : Dev) (h shift width n : Nat) : Dev :=
  let v := d.get 0x311010 h
  let old := bits v shift width
  d.put 0x311010 h (v - old * 2 ^ shift + (old + n) % 2 ^ width * 2 ^ shift)

/-- Was the copy taken, and if not, for which reason of the port ledger (0: eliminated duplicate)? -/
structure Judged where
  taken : Bool
  reason : Nat
deriving DecidableEq, Repr

/-- The lowest-numbered port of a mask. -/
def lowestPort (mask : Nat) : Nat := ((List.range 16).find? (fun n => bit mask n)).getD 16

/-- Recovery of a copy of stream `h` received on port `p` (R182 to R184, R191), its counters counted (R197). [DEDUCED: log 151] -/
def Dev.frer (d : Dev) (h p : Nat) (b : List Byte) : Judged × Dev :=
  if !d.on 0x311001 h then (⟨true, 0⟩, d) else
  match rTag b with
  | none =>
    let d := d.inc 0x31100D h
    if d.on 0x311005 h then (⟨true, 0⟩, d.inc 0x311009 h) else (⟨false, reasonTagless⟩, d)
  | some s =>
    let x := d.fn h
    if x.single.isSome then
      (if lowestPort (d.get 0x31000A h) = p then (⟨true, 0⟩, d.inc 0x311009 h) else (⟨false, reasonSinglePath⟩, d))
    else
      let until_ := d.now + ms (d.get 0x311004 h)
      let r := if d.get 0x311002 h = 2 then matchDecide (d.get 0x311003 h) x.hist s until_ else vectorDecide (d.get 0x311003 h) x.hist s until_
      let d := d.setFn h { x with hist := r.hist }
      match r.verdict with
      | .take =>
        let d := (d.inc 0x311009 h).setFn h { d.fn h with passed := x.passed + 1 }
        let d := if r.outOfOrder then d.inc 0x31100C h else d
        (⟨true, 0⟩, if r.lost > 0 then d.addPart h 32 32 r.lost else d)
      | .duplicate =>
        let d := (d.inc 0x31100B h).setFn h { d.fn h with discarded := x.discarded + 1 }
        (⟨false, 0⟩, if d.on 0x31100F h then d.raise 117 h 0 0 else d)
      | .rogue => (⟨false, reasonRogue⟩, d.inc 0x31100A h)

/-- Withdraw a provisional take of stream `h` (R177). -/
def Dev.frerWithdraw (d : Dev) (h : Nat) (b : List Byte) : Dev :=
  match rTag b with
  | some s => if d.on 0x311001 h then d.setFn h { d.fn h with hist := (d.fn h).hist.withdraw s } else d
  | none => d

/-- The reset timer of a recovery function expires (R183): time is brought to it. -/
def recoveryResetTimeout (h : Nat) (d : Dev) : Dev :=
  let x := d.fn h
  match x.hist.deadline with
  | none => d
  | some t =>
    let d := d.at_ t
    (d.setFn h { x with hist := { x.hist with takeAny := true, deadline := none } }).addPart h 16 16 1

/-- The reset command of object 0x3110:0E (R183). -/
def Dev.recoveryReset (d : Dev) (h : Nat) : Dev :=
  let x := d.fn h
  (d.setFn h { x with hist := { x.hist with takeAny := true, deadline := none }, single := none }).addPart h 16 16 1

/-- A latent test period ends (R186). [DEDUCED: log 33] -/
def latentTestPeriod (h : Nat) (d : Dev) : Dev :=
  if !d.on 0x311006 h then d else
  let x := d.fn h
  let d := d.at_ (x.testFrom + ms (d.get 0x311008 h))
  let diff : Int := (x.passed : Int) - x.discarded
  let d := d.setFn h { x with passed := 0, discarded := 0, testFrom := d.now }
  if absInt diff > d.get 0x311007 h then (d.addPart h 0 16 1).raise 112 h 0 0 else d

/-- A latent reset period ends (R186): the period counts restart. -/
def latentResetPeriod (h : Nat) (d : Dev) : Dev :=
  if !d.on 0x311006 h then d else
  let x := d.fn h
  let d := d.at_ (x.resetFrom + ms (d.get 0x311011 h))
  d.setFn h { x with
    passed := 0, discarded := 0, resetFrom := d.now, latentResets := (x.latentResets + 1) % 2 ^ 16 }

/-! ### Node table (R188 to R192) -/

/-- A pair's mode: 0 independent, 1 PRP, 2 HSR (R187). -/
def Dev.pairMode (d : Dev) (k : Nat) : Nat := d.get 0x320001 k

/-- The node entry of a source on a pair. -/
def Dev.nodeOf (d : Dev) (k : Nat) (mac : List Byte) : Option Nat :=
  (d.ecl.nodes.find? (fun x => x.2.kind != 0 && x.2.pair == k && x.2.mac == mac)).map (·.1)

/-- When a node was last heard. -/
def Node.heard (n : Node) : Nat := if n.lastA < n.lastB then n.lastB else n.lastA

/-- The first node entry number not in use. -/
def freeNode : Nat → List (Nat × Node) → Nat
  | n, [] => n
  | n, (k, _) :: t => if n < k then n else freeNode (k + 1) t

/-- The least recently heard entry whose newest frame is older than its entry forget time (R190). -/
def Dev.oldestNode (d : Dev) : Option Nat :=
  (d.ecl.nodes.foldl (fun (acc : Option (Nat × Nat)) x =>
    let t := x.2.heard
    if t + ms (d.get 0x320004 x.2.pair) ≥ d.now then acc else
    match acc with
    | some (a, _) => if t < a then some (t, x.1) else acc
    | none => some (t, x.1)) none).map (·.2)

/-- Find or make room for a source's entry (R190): none where the table is full and no entry is old enough. -/
def Dev.learn (d : Dev) (k : Nat) (mac : List Byte) (kind : Nat) : Option Nat × Dev :=
  match d.nodeOf k mac with
  | some i => (some i, d)
  | none =>
    let n : Node := { node0 with mac := mac, pair := k, kind := kind }
    if d.ecl.nodes.length < 16384 then
      let i := freeNode 0 d.ecl.nodes
      (some i, d.setNode i n)
    else match d.oldestNode with
      | some i => (some i, d.setNode i n)
      | none =>
        if d.ecl.full.contains mac then (none, d)
        else (none, (d.setEcl { d.ecl with full := d.ecl.full ++ [mac] }).raise 113 k 0 0)

/-- A node entry is removed; a source that could not be entered may be learnt again. -/
def Dev.dropNode (d : Dev) (i : Nat) : Dev :=
  let d := d.setNode i node0
  d.setEcl { d.ecl with full := [] }

/-- An entry not heard on either port for the node forget time is removed (R188). -/
def nodeForget (i : Nat) (d : Dev) : Dev :=
  let n := tget node0 d.ecl.nodes i
  if n.kind = 0 then d else (d.at_ (n.heard + sec (d.get 0x320005 n.pair))).dropNode i

/-- The three histories of a node. -/
def Node.hist (n : Node) (k : Fin 3) : Hist := if k = 0 then n.delivery else if k = 1 then n.forwardAB else n.forwardBA

/-- Replace one of the three histories. -/
def Node.setHist (n : Node) (k : Fin 3) (h : Hist) : Node :=
  if k = 0 then { n with delivery := h } else if k = 1 then { n with forwardAB := h } else { n with forwardBA := h }

/-- A node entry's history goes unheard for the entry forget time: it takes any number again (R188). -/
def entryForget (i : Nat) (k : Fin 3) (d : Dev) : Dev :=
  let n := tget node0 d.ecl.nodes i
  match (n.hist k).deadline with
  | some t => (d.at_ t).setNode i (n.setHist k { n.hist k with takeAny := true, deadline := none })
  | none => d

/-- A frame of a source is judged on one of its node's histories (R188, R190, R191): the verdict, or none for a
single-path take. -/
def Dev.nodeJudge (d : Dev) (k p : Nat) (mac : List Byte) (kind s : Nat) (which : Fin 3) : Option Verdict × Dev :=
  let r := d.learn k mac kind
  let d := r.2
  match r.1 with
  | none => (none, d)
  | some i =>
    let n := tget node0 d.ecl.nodes i
    let n := if p % 2 = 0 then { n with lastA := d.now, seq := s, kind := kind } else { n with lastB := d.now, seq := s, kind := kind }
    if (d.pair k).single.isSome || n.single.isSome then (none, d.setNode i n) else
    let x := vectorDecide (d.get 0x320003 k) (n.hist which) s (d.now + ms (d.get 0x320004 k))
    (some x.verdict, d.setNode i (n.setHist which x.hist))

/-- Withdraw a take from a node's history (R177). -/
def Dev.nodeWithdraw (d : Dev) (k : Nat) (mac : List Byte) (s : Nat) (which : Fin 3) : Dev :=
  match d.nodeOf k mac with
  | some i =>
    let n := tget node0 d.ecl.nodes i
    d.setNode i (n.setHist which ((n.hist which).withdraw s))
  | none => d

/-- The delivery judgement of a pair's copy, counted (R188, R191, R197). [DEDUCED: log 32] -/
def Dev.pairDeliver (d : Dev) (k p : Nat) (mac : List Byte) (kind s : Nat) : Judged × Dev :=
  let r := d.nodeJudge k p mac kind s 0
  let d := r.2
  let uniq := if p % 2 = 0 then 0x32000B else 0x32000C
  match r.1 with
  | none => if p % 2 = 0 then (⟨true, 0⟩, d.inc uniq k) else (⟨false, reasonSinglePath⟩, d.inc 0x32000E k)
  | some .take => (⟨true, 0⟩, d.inc uniq k)
  | some .rogue => (⟨false, reasonRogue⟩, d)
  | some .duplicate =>
    if d.get 0x320002 k = 2 then (⟨true, 0⟩, d)
    else
      let d := d.inc 0x32000D k
      (⟨false, 0⟩, if d.on 0x320011 k then d.raise 117 (65536 + k) 0 0 else d)

/-- A valid trailer has been heard on a port of a PRP pair: its LAN is not silent (R192). -/
def Dev.heardTrailer (d : Dev) (k p : Nat) : Dev :=
  let x := d.pair k
  if p % 2 = 0 then (d.setPair k { x with trailerA := d.now }).setLive 115 k false
  else (d.setPair k { x with trailerB := d.now }).setLive 116 k false

/-- A PRP pair's judgement of a copy (R187, R188): frames without a valid trailer are delivered as received. -/
def Dev.prp (d : Dev) (k p : Nat) (b : List Byte) : Judged × Dev :=
  match prpTrailer b with
  | none =>
    let r := d.learn k (srcMac b) (if p % 2 = 0 then 2 else 3)
    let d := r.2
    (match r.1 with
     | some i =>
       let n := tget node0 d.ecl.nodes i
       (⟨true, 0⟩, d.setNode i (if p % 2 = 0 then { n with lastA := d.now } else { n with lastB := d.now }))
     | none => (⟨true, 0⟩, d))
  | some (s, lan) =>
    let d := d.heardTrailer k p
    let want := if p % 2 = 0 then 0xA else 0xB
    let d := if lan = want then d else d.inc (if p % 2 = 0 then 0x320008 else 0x320009) k
    d.pairDeliver k p (srcMac b) 1 s

/-- What an HSR pair does with a copy: its delivery, and whether it goes on to the other port (R189). -/
structure HsrJudged where
  deliver : Judged
  forward : Bool
  untagged : Bool
deriving DecidableEq, Repr

/-- An HSR pair's judgement of a copy (R188, R189). -/
def Dev.hsr (d : Dev) (k p : Nat) (b : List Byte) : HsrJudged × Dev :=
  match hsrTag b with
  | none => (⟨⟨false, reasonHsrUntagged⟩, false, true⟩, d.inc 0x320010 k)
  | some s =>
    let mac := srcMac b
    if mac = macOf (2 * k) ∨ mac = macOf (2 * k + 1) then (⟨⟨false, 0⟩, false, false⟩, d.inc 0x32000D k)
    else
      let dl := d.pairDeliver k p mac 4 s
      let d := dl.2
      let mine := dstMac b = macOf (2 * k) ∨ dstMac b = macOf (2 * k + 1)
      if mine then (⟨dl.1, false, false⟩, d)
      else
        let fw := d.nodeJudge k p mac 4 s (if p % 2 = 0 then 1 else 2)
        let go := match fw.1 with
          | some .take => true
          | none => p % 2 == 0
          | _ => false
        (⟨dl.1, go, false⟩, fw.2)

/-- Three LifeCheckIntervals with a valid trailer on one port and none on the other (R192): LAN `lan` silent, raised once
until a frame clears it. -/
def lifeCheck (k : Nat) (lan : Fin 2) (d : Dev) : Dev :=
  if d.pairMode k ≠ 1 then d else
  let x := d.pair k
  let quiet := if lan = 0 then x.trailerA else x.trailerB
  let other := if lan = 0 then x.trailerB else x.trailerA
  let d := d.at_ (quiet + 3 * ms (d.get 0x320006 k))
  if other > quiet && !d.flt.live.contains (115 + lan.val, k) then (d.raise (115 + lan.val) k 0 0).setLive (115 + lan.val) k true else d

/-- An uncorrectable error in the store (R191): single-path take of a function for its reset timeout, or of a node for
its entry forget time. [DEDUCED: log 38] -/
def Dev.storeBad (d : Dev) (unit : Nat) : Dev :=
  if unit < 65536 then d.setFn unit { d.fn unit with single := some (d.now + ms (d.get 0x311004 unit)) }
  else
    let i := unit - 65536
    let n := tget node0 d.ecl.nodes i
    if n.kind = 0 then d else d.setNode i { n with single := some (d.now + ms (d.get 0x320004 n.pair)) }

/-- The duration of a single-path take ends (R191). -/
def singlePathEnd (s : SingleScope) (d : Dev) : Dev :=
  match s with
  | .function h =>
    let x := d.fn h.toNat
    (match x.single with
     | some t =>
       let d := d.at_ t
       (d.setFn h.toNat { x with single := none, hist := { x.hist with takeAny := true, deadline := none } }).raise 114 h.toNat 0 0
     | none => d)
  | .node n =>
    (match (tget node0 d.ecl.nodes n.toNat).single with
     | some t => (d.at_ t).dropNode n.toNat
     | none => d)
  | .pair k =>
    (match (d.pair k.val).single with
     | some t => (d.at_ t).setPair k.val { d.pair k.val with single := none }
     | none => d)

/-! ### Generation and supervision (R187, R193 to R196) -/

/-- A frame without its redundancy tag or, on leave of a PRP pair's frame, its trailer. -/
def stripTag (b : List Byte) : List Byte :=
  if (rTag b).isSome || (hsrTag b).isSome then b.take (vlanEnd b) ++ b.drop (vlanEnd b + 6)
  else if (prpTrailer b).isSome then b.take (b.length - 6) else b

/-- A frame with the tag of a generation function inserted (R193): 1 R-TAG, 2 HSR tag, 3 PRP trailer with the LanId of
the port. -/
def addTag (kind s p : Nat) (b : List Byte) : List Byte :=
  let v := vlanEnd b
  if kind = 1 then b.take v ++ [0xF1, 0xC1, 0, 0] ++ beBytes 2 s ++ b.drop v
  else if kind = 2 then
    b.take v ++ [0x89, 0x2F] ++ beBytes 2 ((if p % 2 = 0 then 0 else 1) * 4096 + (b.length - v + 4) % 4096) ++ beBytes 2 s ++ b.drop v
  else
    b ++ beBytes 2 s ++ beBytes 2 ((if p % 2 = 0 then 0xA else 0xB) * 4096 + (b.length - v - 2 + 6) % 4096) ++ [0x88, 0xFB]

/-- The ports of a generation function's mask that are not in the safe state. -/
def Dev.genPorts (d : Dev) (g : Nat) : List Nat :=
  (List.range 16).filter (fun n => bit (d.get 0x312003 g) n && !d.safe n)

/-- The next sequence number of a function is taken. -/
def Dev.takeSeq (d : Dev) (g : Nat) : Nat × Dev := (d.get 0x312006 g, d.inc 0x312006 g)

/-- Is a function within its restart silence (R195)? -/
def Dev.silenced (d : Dev) (g : Nat) : Bool := tget 0 d.ecl.silence g != 0

/-- The enabled generation functions of a handle. -/
def Dev.gensOf (d : Dev) (h : Nat) : List Nat := (d.listed 0x312002).filter (fun g => d.on 0x312002 g && d.get 0x312001 g == h)

/-- A function starts its restart silence (R195). -/
def Dev.beginSilence (d : Dev) (g : Nat) : Dev :=
  let t := d.now + ms (d.get 0x312004 g)
  d.setEcl { d.ecl with silence := tput 0 d.ecl.silence g (if d.get 0x312004 g = 0 then 0 else t) }

/-- The reset command of object 0x3120:09: sequence numbers start at 0, after the restart silence (R193, R195). -/
def Dev.generationReset (d : Dev) (g : Nat) : Dev := (d.put 0x312006 g 0).beginSilence g

/-- The restart silence passes (R195). -/
def restartSilenceEnd (g : Nat) (d : Dev) : Dev :=
  let t := tget 0 d.ecl.silence g
  if t = 0 then d else (d.at_ t).setEcl { (d.at_ t).ecl with silence := tput 0 d.ecl.silence g 0 }

/-- A PRP or HSR supervision frame, with its trailer or tag still to be put on. [PRESUMED: log 31] -/
def supervisionBytes (last kind seq : Nat) (mac : List Byte) : List Byte :=
  [0x01, 0x15, 0x4E, 0x00, 0x01, byte last] ++ mac ++ [0x88, 0xFB, 0x00, 0x01] ++ beBytes 2 seq ++ [byte kind, 6] ++ mac ++ zeros 32

/-- A PRP or HSR pair sends its supervision frame on both ports, one LifeCheckInterval after the last (R187). -/
def supervisionFrameSend (k : Nat) (d : Dev) : Dev :=
  let m := d.pairMode k
  if m = 0 then d else
  let x := d.pair k
  let d := if x.supAt = 0 then d else d.at_ (x.supAt + ms (d.get 0x320006 k))
  let kind := if m = 2 then 23 else if d.get 0x320002 k = 2 then 21 else 20
  let b := supervisionBytes (d.get 0x320007 k) kind x.supSeq (macOf (2 * k))
  let d := d.setPair k { x with supSeq := (x.supSeq + 1) % 65536, seq := (x.seq + 1) % 65536, supAt := d.now }
  [2 * k, 2 * k + 1].foldl (fun d p =>
    d.enqueue p ⟨addTag (if m = 2 then 2 else 3) x.seq p b, d.fwdClass p b, .own, none, false, false, none, 0, 0⟩) d

/-- Is a frame a supervision frame of the pair's address? It is counted when received (R187). -/
def isSupervision (b : List Byte) : Bool := b.take 5 == [0x01, 0x15, 0x4E, 0x00, 0x01]

/-! ### Changes that a transaction makes (R185, R191, R195) -/

/-- What applying an object of this chapter does beside the object, where its value changes (the old one is the shadow copy). -/
def Dev.eclipseApplied (d : Dev) (o e : Nat) : Dev :=
  if d.get o e = d.getSh o e then d
  else if o = 0x311003 then
    let x := d.fn e
    d.setFn e { x with hist := { x.hist with bits := x.hist.bits % 2 ^ d.get 0x311003 e } }
  else if o = 0x311006 then
    (if d.on 0x311006 e then
      d.setFn e { d.fn e with testFrom := d.now, resetFrom := d.now, passed := 0, discarded := 0 } else d)
  else if o = 0x312002 then (if d.on 0x312002 e then d.generationReset e else d)
  else if o = 0x320001 ∨ o = 0x320003 then
    let gone := (d.ecl.nodes.filter (fun x => x.2.pair == e)).map (·.1)
    let d := gone.foldl (fun d i => d.dropNode i) d
    d.setPair e { d.pair e with single := some (d.now + ms (d.get 0x320004 e)) }
  else d

/-- The mode that every port of a mask's pairs is in suits a tag type (R193). [DEDUCED: log 152] -/
def Dev.tagSuits (d : Dev) (g : Nat) : Bool :=
  let ps := (List.range 16).filter (fun n => bit (d.get 0x312003 g) n)
  let kind := d.get 0x312008 g
  decide (1 ≤ ps.length ∧ ps.length ≤ 2) &&
    (kind == 1 || (kind == 2 && ps.all (fun p => d.pairMode (p / 2) == 2 && ps.all (fun q => q / 2 == p / 2)))
      || (kind == 3 && ps.all (fun p => d.pairMode (p / 2) == 1 && ps.all (fun q => q / 2 == p / 2))))

/-- Have two identification entries the same method and key (R181)? -/
def Dev.sameId (d : Dev) (a b : Nat) : Bool :=
  d.get 0x310001 a == d.get 0x310001 b &&
    (if d.get 0x310001 a = 3 then
      [0x310004, 0x310005].all (fun o => d.getB o a == d.getB o b)
        && [0x310006, 0x310007, 0x310008, 0x310009].all (fun o => d.get o a == d.get o b)
     else d.getB 0x310002 a == d.getB 0x310002 b && d.get 0x310003 a == d.get 0x310003 b)

/-- The COMMIT checks of this chapter's objects, on the values a transaction would make active; 0 for none. -/
def Dev.checkEclipse (d : Dev) (o e : Nat) : Nat :=
  let i := o / 256
  let bad := fun (b : Bool) => if b then 0x0404 else 0
  if i = 0x3100 then
    bad (d.get 0x310001 e != 0 && (d.listed 0x310001).any (fun h => h != e && d.sameId h e))
  else if i = 0x3120 then
    bad (d.on 0x312002 e && (!d.tagSuits e || (d.get 0x312005 e == 1 && (d.listed 0x310001).any (fun h => h == d.get 0x312001 e))))
  else if i = 0x3200 ∨ i = 0x3000 then
    let k := if i = 0x3200 then e else e / 2
    bad ((o == 0x320001 && (d.listed 0x312002).any (fun g => d.on 0x312002 g && !d.tagSuits g))
      || d.pairMode k != 0 && (!d.on 0x300001 (2 * k) || !d.on 0x300001 (2 * k + 1)
      || d.get 0x300002 (2 * k) != d.get 0x300002 (2 * k + 1) || d.get 0x300003 (2 * k) != d.get 0x300003 (2 * k + 1)))
  else 0

end Sys2Proof.Machine
end

