-- ==== Sys2Proof/Machine/Ring.lean ====
section
/-! DEFINITION. The Stalon rings: frame format, origination, reading, wrapping, clocks, the bus guardian, start-up, mode
agreement, mailbox and relays (R200 to R242). -/
namespace Sys2Proof.Machine

/-- Tether's copies before anything is staged. -/
def ringGuard0 : RingGuard := ⟨1, 250000, 0, 0, 1, 100, [], none, none⟩

/-- A ring after reset. -/
def ring0 : Ring :=
  { candidate := true, leaderSa := [], good := 0, sent := 0, t0 := 0, lastValid := 0, prev := none, cyc := none,
    lastStart := 0, xA := none, xB := none, offsets := [], loops := [], bothRun := 0, prop := none, acks := [], taken := [],
    takenAck := [], lastTake := 0, silent := [], wraps := [], ready := none, out := none, mbxCycle := none,
    responses := [], sendQ := [], received := [], relay := .released, upA := false, upB := false, busyA := 0, busyB := 0,
    differ := 0, babble := 0, babbled := false, guard_ := ringGuard0, expected := 0, slotsTaken := 0, slotsMissing := 0,
    received4 := [] }

/-- Ring `r`. -/
def Dev.ring (d : Dev) (r : Nat) : Ring := tget ring0 d.rings r

/-- Replace ring `r`. -/
def Dev.setRing (d : Dev) (r : Nat) (x : Ring) : Dev := { d with rings := tput ring0 d.rings r x }

/-- Change ring `r`. -/
def Dev.updRing (d : Dev) (r : Nat) (f : Ring → Ring) : Dev := d.setRing r (f (d.ring r))

/-! ### States, ports and times -/

/-- The ring's state (object 0x4001:01). -/
def Dev.ringState (d : Dev) (r : Nat) : Nat := d.get 0x400101 r

def rsDisabled : Nat := 0
def rsListen : Nat := 1
def rsWaiting : Nat := 2
def rsColdStart : Nat := 3
def rsIntegrating : Nat := 4
def rsFollower : Nat := 5
def rsLeader : Nat := 6
def rsPass : Nat := 7

/-- The device's node ID on a ring. -/
def Dev.nodeId (d : Dev) (r : Nat) : Nat := d.get 0x400003 r

/-- The replica of a ring port: p = 0 for port A, 1 for port B. -/
def ringRep (r p : Nat) : Nat := 17 + 2 * r + p

/-- A ring port's element in object 0x4002. -/
def ringElem (r p : Nat) : Nat := 2 * r + p

/-- The time of a number of bytes on a ring (R202). -/
def Dev.ringBytes (d : Dev) (r n : Nat) : Nat := if d.get 0x400002 r = 1 then ns (8 * n) else (n * 32 * 65536 + 9) / 10

/-- A ring's cycle (R211). -/
def Dev.ringCycle (d : Dev) (r : Nat) : Cycle :=
  ⟨(timeOfKtime (d.get 0x400008 r) : Int) * 65536, cycleLen (d.get 0x400006 r) (d.get 0x400007 r), d.get 0x400009 r⟩

/-- The cycle time in 2^-16 ns. -/
def Dev.ringPeriod (d : Dev) (r : Nat) : Nat := cycleLen (d.get 0x400006 r) (d.get 0x400007 r) / 65536

/-- Are a ring port's replica and Tether's synchronised, and agreeing (R26, R227)? -/
def Dev.ringSync (d : Dev) (r p : Nat) : Bool :=
  !d.unsync (ringRep r p) && decide ((d.tether (16 + 2 * r + p)).agree ≥ 2) && !(d.tether (16 + 2 * r + p)).blocked

/-- Is the ring in the safe state (scope 16 + ring)? -/
def Dev.ringSafe (d : Dev) (r : Nat) : Bool := d.safe (16 + r)

/-! ### Mode images (R231) -/

/-- CRC-16/CCITT-FALSE. -/
def ccitt (b : List Byte) : Nat := crc16 0x1021 0xFFFF b

def imgM (b : List Byte) : Nat := leAt b 0 2
def imgS (b : List Byte) : Nat := leAt b 2 2
def imgK (b : List Byte) : Nat := leAt b 4 2

/-- Is a node named in EXPECTED? -/
def imgExpects (b : List Byte) (n : Nat) : Bool := bit (byteAt b (8 + n / 8)) (n % 8)

/-- The slot list: node ID and payload length. -/
def imgSlots (b : List Byte) : List (Nat × Nat) :=
  (List.range (imgS b)).map (fun i => (byteAt b (40 + 4 * i), leAt b (42 + 4 * i) 2))

/-- The rotation. -/
def imgRotation (b : List Byte) : List Nat := (List.range (imgK b)).map (fun j => byteAt b (40 + 4 * imgS b + j))

/-- FRAME_LEN of a mode (R205). -/
def imgFrame (b : List Byte) : Nat := 70 + imgM b + (imgSlots b).foldl (fun a s => a + s.2 + 10) 0

/-- Slots with their offsets in the frame (R205). -/
def placeSlots : Nat → List (Nat × Nat) → List (Nat × Nat × Nat)
  | _, [] => []
  | off, (n, l) :: t => (n, l, off) :: placeSlots (off + l + 10) t

/-- The slots of a mode: node, payload length, offset. -/
def imgPlaces (b : List Byte) : List (Nat × Nat × Nat) := placeSlots (66 + imgM b) (imgSlots b)

/-- The payload length of a node's slot. -/
def imgSlotLen (b : List Byte) (n : Nat) : Option Nat := ((imgSlots b).find? (fun s => s.1 == n)).map (·.2)

/-- Are the numbers of a list all different? -/
def distinct : List Nat → Bool
  | [] => true
  | x :: t => !t.contains x && distinct t

/-- Does an image meet the rules of R231 that do not depend on the ring? -/
def imgOk (b : List Byte) : Bool :=
  let slots := imgSlots b
  decide (40 ≤ b.length) && decide (64 ≤ imgM b ∧ imgM b ≤ 1024) && decide (1 ≤ imgS b ∧ imgS b ≤ 254)
    && decide (1 ≤ imgK b ∧ imgK b ≤ 256) && decide (b.length = 40 + 4 * imgS b + imgK b) && leAt b 6 2 == 0
    && !imgExpects b 0 && !imgExpects b 255
    && slots.all (fun s => decide (1 ≤ s.1 ∧ s.1 ≤ 254 ∧ s.2 ≤ 2048))
    && (List.range (imgS b)).all (fun i => byteAt b (41 + 4 * i) == 0)
    && distinct (slots.map (·.1)) && (imgRotation b).all (fun n => (slots.map (·.1)).contains n)
    && decide (imgFrame b ≤ 32768)

/-- Does an image's frame fit the ring's cycle (R212)? -/
def Dev.imgFits (d : Dev) (r : Nat) (b : List Byte) : Bool :=
  decide (d.ringBytes r (imgFrame b + 20) + us 1 ≤ ns (d.get 0x400006 r))

/-- The image of mode `m`, and the active one. -/
def Dev.ringImage (d : Dev) (r m : Nat) : List Byte := d.getB 0x401001 (4 * r + m)
def Dev.activeImage (d : Dev) (r : Nat) : List Byte := d.ringImage r (d.get 0x400103 r)

/-- Is the image of mode `m` valid (object 0x4010:03)? -/
def Dev.imageValid (d : Dev) (r m : Nat) : Bool := d.get 0x401003 (4 * r + m) == 0 && !(d.ringImage r m).isEmpty

/-! ### Frames (R205 to R210) -/

/-- The fields of a ring frame. Bytes leave out the FCS. -/
def rfVersion (b : List Byte) : Nat := byteAt b 14
def rfKind (b : List Byte) : Nat := byteAt b 15
def rfCopyA (b : List Byte) : Bool := bit (byteAt b 16) 0
def rfLoopValid (b : List Byte) : Bool := bit (byteAt b 16) 2
def rfMode (b : List Byte) : Nat := byteAt b 17
def rfRingId (b : List Byte) : Nat := byteAt b 18
def rfLeader (b : List Byte) : Nat := byteAt b 19
def rfLen (b : List Byte) : Nat := beAt b 20 2
def rfCycle (b : List Byte) : Nat := beAt b 22 8
def rfStart (b : List Byte) : Nat := sec (beAt b 30 6) + ns (beAt b 36 4) + beAt b 40 2
def rfLoop (b : List Byte) : Nat := beAt b 42 4
def rfProposal (b : List Byte) : Nat := byteAt b 46

/-- Is CTRL_CRC good (R207)? -/
def rfCtrlGood (b : List Byte) : Bool := ccitt (slice b 14 50) == beAt b 64 2

/-- Is a copy valid as far as its header says (R210): all but the FCS? -/
def Dev.copyHeader (d : Dev) (r : Nat) (b : List Byte) : Bool :=
  beAt b 12 2 == 0x88B6 && rfVersion b == 1 && (rfKind b == 1 || rfKind b == 2) && rfCtrlGood b
    && rfRingId b == d.get 0x400005 r && decide (rfMode b ≤ 3) && rfLen b == imgFrame (d.ringImage r (rfMode b))
    && rfLen b == b.length + 4

/-- May a copy's slots be read, as far as its header says (R214): a good CTRL_CRC and the ring's RING_ID? -/
def Dev.copyCtrl (d : Dev) (r : Nat) (b : List Byte) : Bool :=
  beAt b 12 2 == 0x88B6 && rfCtrlGood b && rfRingId b == d.get 0x400005 r

/-- A slot's bytes with its CRC (R208). -/
def slotBytes (status cycleLo links arrival : Nat) (payload : List Byte) : List Byte :=
  let b := beBytes 2 status ++ [byte cycleLo, byte links] ++ beBytes 4 arrival ++ payload
  b ++ beBytes 2 (ccitt b)

/-- A mailbox region of M bytes (R209). -/
def boxBytes (m dest src : Nat) (body : List Byte) : List Byte :=
  let b := padTo (m - 2) ([byte dest, byte src] ++ beBytes 2 body.length ++ body)
  b ++ beBytes 2 (ccitt b)

/-- An empty mailbox of M bytes. -/
def emptyBox (m : Nat) : List Byte := let b := zeros (m - 2); b ++ beBytes 2 (ccitt b)

/-- The syzygy field without its CRC: PROPOSAL and what a proposal says (R207). -/
def syzygyBytes (p : Option RingProposal) (cycle : Nat) : List Byte :=
  match p with
  | none => zeros 18
  | some x =>
    if cycle ≥ x.cycle then zeros 18 else
    let bits := if cycle < x.commit then 1 else if x.decision = 2 then 3 else 5
    [byte bits, byte x.target, 0, 0] ++ beBytes 4 x.commit ++ beBytes 4 x.cycle ++ beBytes 4 x.crc ++ [0, 0]

/-! ### Own slot and mailbox turn (R213, R218, R238) -/

/-- Are the receive sides up: the LINKS bits (R208)? -/
def Ring.links (x : Ring) : Nat := b2n x.upA + 2 * b2n x.upB

/-- A signed time in units of 2^-8 ns as ARRIVAL carries it; unknown where there is none. -/
def arrivalOf (x : Option Int) : Nat :=
  match x with
  | some v => if v < 0 then 0xFFFFFFFF else (v.toNat / 256) % 2 ^ 32
  | none => 0xFFFFFFFF

/-- Finish the entry whose payload a cycle carried, with a result (R427). -/
def Dev.finishSlot (d : Dev) (e : Option (Nat × Nat)) (code : Nat) : Dev :=
  match e with
  | some (q, idx) => d.txOutcome q idx false code
  | none => d

/-- The waiting payload of the own slot: the data fetched, or an entry of length 0. -/
def Dev.slotReady (d : Dev) (r : Nat) : Option (Nat × Nat × List Byte) :=
  match (d.ring r).ready with
  | some x => some x
  | none =>
    let q := d.get 0x400010 r
    ((d.queue q).entries.find? (fun e => e.phase == .fetching && bits (leAt e.raw 0 4) 0 14 == 0)).map
      (fun e => (q, e.idx, []))

/-- What the own slot and the mailbox carry in a cycle, chosen once for both copies (R213, R218, R238, R239). -/
def Dev.chooseOut (d : Dev) (r cycle : Nat) (img : List Byte) : RingOut × Dev :=
  let x := d.ring r
  let keep := match x.out with
    | some o => o.cycle == cycle
    | none => false
  if keep then (x.out.getD ⟨cycle, none, [], false, none, 0⟩, d) else
  let me := d.nodeId r
  let d := match x.out with
    | some o => if o.copies > 0 then d.finishSlot o.entry 0 else d
    | none => d
  let l := (imgSlotLen img me).getD 0
  let pay := d.slotReady r
  let rot := imgRotation img
  let turn := match rot[cycle % (imgK img)]? with
    | some n => n == me
    | none => false
  let x := d.ring r
  let msg := if !turn then none else match x.responses with
    | m :: t => some (m, { x with responses := t })
    | [] => (match x.sendQ with
      | m :: t => some (m, { x with sendQ := t })
      | [] => none)
  let box := if !turn then none else match msg with
    | some (m, _) => some (boxBytes (imgM img) m.1 me m.2)
    | none => some (emptyBox (imgM img))
  let y := match msg with
    | some (_, y) => y
    | none => x
  let o : RingOut := ⟨cycle, pay.map (fun p => (p.1, p.2.1)), padTo l ((pay.map (fun p => p.2.2)).getD []), pay.isSome,
    box, 0⟩
  let d := d.setRing r { y with out := some o, ready := none }
  (o, d.put 0x405003 r y.sendQ.length)

/-- The own slot's bytes in a cycle. -/
def Dev.ownSlot (d : Dev) (r cycle : Nat) (o : RingOut) (leader wrap : Bool) : List Byte :=
  let x := d.ring r
  let sync := if leader then d.ringSync r 0 else d.on 0x40010B r
  let ack := match x.prop with
    | some p => !leader && p.acked
    | none => false
  let st := 0x8000 + b2n sync * 0x4000 + b2n o.valid * 0x2000 + b2n ack * 0x1000 + b2n wrap * 0x800
  slotBytes st cycle x.links (if leader then 0 else arrivalOf x.xB) o.data

/-! ### Babble (R226) -/

/-- A write or transmission that Tether blocks: source 144; in three consecutive cycles source 145. -/
def Dev.ringBabble (d : Dev) (r p : Nat) : Dev :=
  let x := d.ring r
  let d := (d.inc 0x400207 (ringElem r p)).raise 144 r 0 0
  if x.babbled then d else
  let n := x.babble + 1
  let d := d.updRing r (fun y => { y with babble := n, babbled := true })
  if n = 3 then d.raise 145 r 0 0 else d

/-! ### Origination (R211, R213, R225, R228, R234) -/

/-- The loop delay the header carries: the mean of the last 16 measurements that had returned at least 1 µs before the
frame is built, in 2^-16 ns (R220). -/
def Ring.loopMean (x : Ring) (built : Nat) : Nat :=
  let l := (x.loops.filter (fun m => decide (m.1 + us 1 ≤ built))).take 16
  if l.isEmpty then 0 else l.foldl (fun a m => a + m.2) 0 / l.length

/-- The run of cycles up to the last one in which both copies returned unwrapped, as frame `cycle` is built (R220). [DEDUCED: log 177] -/
def Ring.bothNow (x : Ring) (cycle : Nat) : Nat :=
  match x.cyc with
  | some c => if c.cycle + 1 == cycle && c.retA && c.retB then x.bothRun + 1 else 0
  | none => 0

/-- Frame c's decision (R234): COMMIT where every expected node acknowledged in the latest whole cycle that carried the
proposal and was complete 1 µs before. -/
def Dev.decide_ (d : Dev) (r : Nat) (p : RingProposal) (built : Nat) : Nat :=
  let me := d.nodeId r
  let img := d.ringImage r p.target
  let nodes := ((imgSlots (d.activeImage r)).map (·.1)).filter (fun n => n != me)
  let x := d.ring r
  let cur : List RingAcks := match x.cyc with
    | some c => [⟨c.cycle, x.takenAck, x.lastTake, nodes.all (fun n => x.taken.contains n)⟩]
    | none => []
  match (cur ++ x.acks).find? (fun a => a.whole && decide (a.at_ + us 1 ≤ built) && decide (a.cycle < p.commit)) with
  | some a => if (List.range 255).all (fun n => !imgExpects img n || n == me || a.nodes.contains n) then 2 else 3
  | none => 3

/-- The decision falls when frame c is built; a LAPSE is counted and raises source 149 (R234, R237). -/
def Dev.ringDecide (d : Dev) (r cycle built : Nat) : Dev :=
  match (d.ring r).prop with
  | none => d
  | some p =>
    if cycle ≥ p.commit && p.decision == 0 then
      let v := d.decide_ r p built
      let d := (d.updRing r (fun x => { x with prop := some { p with decision := v } })).put 0x400108 r v
      if v = 3 then (d.inc 0x400109 r).raise 149 r 0 0 else d
    else d

/-- The frame a leader or a cold-starting candidate builds (R205 to R208, R213). [DEDUCED: log 37] -/
def Dev.buildFrame (d : Dev) (r cycle start kind : Nat) (copyA : Bool) (img : List Byte) (o : RingOut) : List Byte :=
  let x := d.ring r
  let me := d.nodeId r
  let lv := decide (x.bothNow cycle ≥ 16)
  let flags := b2n copyA + 2 * b2n d.traceable + 4 * b2n lv
  let header := [1, byte kind, byte flags, byte (d.get 0x400103 r), byte (d.get 0x400005 r), byte me]
    ++ beBytes 2 (imgFrame img) ++ beBytes 8 cycle ++ beBytes 6 (start / sec 1) ++ beBytes 4 (start / 65536 % 1000000000)
    ++ beBytes 2 (start % 65536) ++ beBytes 4 (d.get 0x400106 r)
  let ctl := header ++ syzygyBytes x.prop cycle
  let slots := (imgSlots img).foldl (fun (a : List Byte) s =>
    a ++ (if s.1 = me then d.ownSlot r cycle o true false else slotBytes 0 cycle 0 0xFFFFFFFF (zeros s.2))) []
  [0x03, 0x4B, 0x59, 0x52, 0x53, 0x00] ++ macOf (17 + r) ++ [0x88, 0xB6] ++ ctl ++ beBytes 2 (ccitt (ctl.take 50))
    ++ (o.box.getD (emptyBox (imgM img))) ++ slots

/-- May Tether's own schedule start a frame now (R225): within the tolerance of C_n, of its own active mode's length? -/
def Dev.guardStart (d : Dev) (r : Nat) (n : Int) (start : Nat) (img : List Byte) : Bool :=
  let g := (d.ring r).guard_
  let c : Cycle := ⟨(g.base : Int) * 65536, cycleLen g.whole g.frac, g.anchor⟩
  let own := tget [] g.images (d.get 0x400103 r)
  decide (absInt (c.startAt n - (start : Int)) ≤ ns g.tol) && imgFrame own == imgFrame img

/-- The ring transmit clock's period in 2^-16 ns. -/
def Dev.ringClock (d : Dev) (r : Nat) : Nat := if d.get 0x400002 r = 1 then 524288 else 209716

/-- A leader, or a candidate in cold start, sends both copies at the next cycle start (R211, R213, R228): `edge` is the
wait for the transmit clock's edge. -/
def ringCycleOriginate (r edge : Nat) (d : Dev) : Dev :=
  let st := d.ringState r
  if st ≠ rsColdStart ∧ st ≠ rsLeader then d else
  if d.ringSafe r then d else
  let c := d.ringCycle r
  let n0 := c.firstFrom d.now
  let n := if c.startAt n0 = (d.ring r).lastStart then n0 + 1 else n0
  let cs := (c.startAt n).toNat
  let start := cs + edge % d.ringClock r
  let d := d.at_ start
  let cold := st == rsColdStart && decide ((d.ring r).sent < 8)
  let d := if st = rsColdStart && !cold then
      (d.put 0x400101 r rsLeader).put 0x400102 r (d.nodeId r) else d
  let d := if st = rsColdStart then d.put 0x400103 r (d.get 0x40000C r) else d
  let cycle := (n % (2 ^ 64 : Nat)).toNat
  let d := d.ringDecide r cycle start
  let d := if (d.ring r).bothNow cycle ≥ 16 then d.put 0x400106 r ((d.ring r).loopMean start / 256 % 2 ^ 32) else d
  let img := d.activeImage r
  let d := d.updRing r (fun x => { x with
    lastStart := cs, sent := if cold then x.sent + 1 else x.sent
    babbled := false, babble := if x.babbled then x.babble else 0 })
  if !d.ringSync r 0 || !d.ringSync r 1 || !imgOk img then d
  else if !d.guardStart r n start img then (d.ringBabble r 0).ringBabble r 1
  else
    let out := d.chooseOut r cycle img
    let d := out.2
    let kind := if cold then 2 else 1
    let bB := d.buildFrame r cycle start kind false img out.1
    let bA := d.buildFrame r cycle start kind true img out.1
    let d := (d.emit (.ringCopy r 1 bB true start)).emit (.ringCopy r 0 bA true start)
    let d := d.finishSlot out.1.entry 0
    d.updRing r (fun x => { x with out := some { out.1 with entry := none, copies := 2 } })

/-! ### Reading (R214 to R216) -/

/-- One slot read from a copy: judged, its errors counted (R214). -/
def Dev.readSlot (d : Dev) (r p rx : Nat) (b : List Byte) (s : Nat × Nat × Nat) : Option TakenSlot × Dev :=
  let bytes := slice b s.2.2 (s.2.1 + 10)
  let x := d.ring r
  if s.1 = d.nodeId r ∨ x.taken.contains s.1 then (none, d)
  else if ccitt (bytes.take (s.2.1 + 8)) ≠ beAt bytes (s.2.1 + 8) 2 then (none, d.inc 0x400303 r)
  else
    let st := beAt bytes 0 2
    if !bit st 15 then (none, d)
    else if byteAt bytes 2 ≠ rfCycle b % 256 then (none, d.inc 0x400304 r)
    else
      let at_ := rx + d.ringBytes r (s.2.2 + s.2.1 + 10)
      let d := d.setRing r { x with
        taken := x.taken ++ [s.1], takenAck := if bit st 12 then x.takenAck ++ [s.1] else x.takenAck
        lastTake := if x.lastTake < at_ then at_ else x.lastTake, slotsTaken := x.slotsTaken + 1
        wraps := tput (0, 0) x.wraps s.1 (b2n (bit st 11), beAt bytes 4 4) }
      (some ⟨r, s.1, rfCycle b, rfStart b, rx, p, s.2.2, bytes⟩, d.inc 0x400301 r)

/-- Read every slot of a copy. -/
def Dev.readSlots (d : Dev) (r p rx : Nat) (b img : List Byte) : List TakenSlot × Dev :=
  (imgPlaces img).foldl (fun (acc : List TakenSlot × Dev) s =>
    let q := acc.2.readSlot r p rx b s
    (acc.1 ++ q.1.toList, q.2)) ([], d)

/-- Object 0x4020 of a leader: per position, node ID, WRAP and ARRIVAL. -/
def Dev.showPositions (d : Dev) (r : Nat) (img : List Byte) : Dev :=
  let w := (d.ring r).wraps
  d.putB 0x402001 r ((imgSlots img).foldl (fun (a : List Byte) s =>
    let v := tget (0, 0) w s.1
    a ++ [byte s.1, byte v.1, 0, 0] ++ leBytes 4 v.2) [])

/-- The mean of a list of integers, towards minus infinity. -/
def meanOf (l : List Int) : Int := if l.isEmpty then 0 else l.foldl (· + ·) 0 / (l.length : Int)

/-- Take one offset value −e into the ring clock (R221, R222); one formed with a held delay leaves it synchronised. -/
def Dev.ringOffset (d : Dev) (r : Nat) (e : Int) (held : Bool) : Dev :=
  let x := d.ring r
  let offs := (-e :: x.offsets).take 16
  let m := meanOf offs
  let ok := decide (8 ≤ offs.length) && (offs.take 8).all (fun v => decide (absInt (v - m) ≤ ns 8))
  let d := d.setRing r { x with offsets := offs }
  (d.puti 0x400105 r m).put 0x40010B r (b2n (ok || (held && d.on 0x40010B r)))

/-- A cycle ends for the clock: with both copies and LOOP_VALID the offset and the held delays are formed, else one copy
is used with its held delay (R221, R222). -/
def Dev.ringClockUse (d : Dev) (r : Nat) (c : RingCycle) (last : Bool) : Dev :=
  let x := d.ring r
  if c.clocked || d.ringState r == rsLeader || d.ringState r == rsColdStart then d else
  let mark := fun (d : Dev) => d.updRing r (fun y => { y with cyc := y.cyc.map (fun z => { z with clocked := true }) })
  match c.a, c.b with
  | some a, some b =>
    if c.loopValid then
      let e : Int := ((a : Int) + b + ((c.fa + c.fb) / 2 : Nat) - 2 * (c.start : Int) - ((c.loop * 256 : Nat) : Int)) / 2
      let xB : Int := (a : Int) - e - c.start
      let xA : Int := (b : Int) - e - c.start
      let d := d.setRing r { x with xA := some xA, xB := some xB }
      let d := (d.put 0x40020A (ringElem r 0) (arrivalOf (some xB))).put 0x40020A (ringElem r 1) (arrivalOf (some xA))
      mark (d.ringOffset r e false)
    else match x.xB with
      | some v => mark (d.ringOffset r ((a : Int) - c.start - v) true)
      | none => d
  | some a, none =>
    if !last then d else
    (match x.xB with
     | some v => mark (d.ringOffset r ((a : Int) - c.start - v) true)
     | none => d)
  | none, some b =>
    if !last then d else
    (match x.xA with
     | some v => mark (d.ringOffset r ((b : Int) - c.start - v) true)
     | none => d)
  | none, none => d

/-- A cycle ends when the first copy of a later one arrives (R215, R216): missing slots are counted, nodes silent for three
cycles raise source 147; a leader keeps the acknowledgements. `gap` is the number of cycles of which no copy came. -/
def Dev.endCycle (d : Dev) (r gap : Nat) : Dev :=
  match (d.ring r).cyc with
  | none => d
  | some c =>
    let d := d.ringClockUse r c true
    let x := d.ring r
    let img := d.activeImage r
    let nodes := ((imgSlots img).map (·.1)).filter (fun n => n != d.nodeId r)
    let miss := nodes.filter (fun n => !x.taken.contains n)
    let lost := miss.length + gap * nodes.length
    let d := d.add 0x400302 r lost
    let acks := (⟨c.cycle, x.takenAck, x.lastTake, miss.isEmpty⟩ :: x.acks).take 4
    let d := d.setRing r { x with
      expected := x.expected + nodes.length * (gap + 1), slotsMissing := x.slotsMissing + lost, acks := acks
      bothRun := if c.retA && c.retB && gap == 0 then x.bothRun + 1 else 0 }
    let d := (d.put 0x40010A r x.taken.length).put 0x400107 r (b2n c.retB + 2 * b2n c.retA + 4 * b2n c.wrapped)
    let d := nodes.foldl (fun d n =>
      let y := d.ring r
      let was := tget 0 y.silent n
      let now := if miss.contains n then was + 1 + gap else gap
      let d := d.setRing r { y with silent := tput 0 y.silent n now }
      if was < 3 ∧ now ≥ 3 then d.raise 147 (256 * r + n) 0 0 else d) d
    if d.ringState r = rsLeader then d.showPositions r img else d

/-- Begin a cycle with its first copy. -/
def Dev.beginCycle (d : Dev) (r : Nat) (b : List Byte) : Dev :=
  d.updRing r (fun x => { x with
    cyc := some ⟨rfCycle b, rfStart b, none, none, 0, 0, rfLoop b, rfLoopValid b, false, false, false, false, false⟩
    taken := [], takenAck := [], lastTake := 0
    babbled := false, babble := if x.babbled then x.babble else 0 })

/-- Does a copy begin a new cycle: not the present one, nor one of the few before it? -/
def Ring.newCycle (x : Ring) (n : Nat) : Bool :=
  match x.cyc with
  | none => true
  | some c => c.cycle != n && !(decide (n < c.cycle) && decide (c.cycle - n ≤ 2))

/-! ### Start-up (R228, R229) -/

/-- Leave for a state, dropping a pending proposal (R229). -/
def Dev.ringGo (d : Dev) (r st : Nat) : Dev :=
  let d := d.put 0x400101 r st
  let d := if st = rsListen ∨ st = rsIntegrating then
      (d.updRing r (fun x => { x with prop := none, good := 0 })).put 0x400108 r 0 else d
  if st = rsListen then (d.put 0x400102 r 0).updRing r (fun x => { x with t0 := d.now }) else d

/-- Is a valid copy consistent with the previous one accepted (R229)? -/
def Dev.consistent (d : Dev) (r : Nat) (b : List Byte) : Bool :=
  match (d.ring r).prev with
  | none => false
  | some p =>
    rfLeader b == p.leader && rfCycle b == p.cycle + 1
      && decide (absInt ((rfStart b : Int) - (p.start + d.ringPeriod r : Nat)) ≤ 2 * ns (d.get 0x40000A r))
      && d.imageValid r (rfMode b)

/-- A foreign copy: its LEADER_ID or SA is not the node's own (R228). -/
def Dev.foreignCopy (d : Dev) (r : Nat) (b : List Byte) : Bool :=
  rfLeader b != d.nodeId r || srcMac b != macOf (17 + r)

/-- The first valid copy of a cycle drives the start-up logic (R228, R229, R236). -/
def Dev.startUp (d : Dev) (r : Nat) (b : List Byte) : Dev :=
  let st := d.ringState r
  let id := rfLeader b
  let me := d.nodeId r
  let cons := d.consistent r b
  let changed := match (d.ring r).prev with
    | some p => p.leader != id
    | none => true
  let d := d.updRing r (fun x => { x with prev := some ⟨id, rfCycle b, rfStart b⟩, leaderSa := srcMac b })
  let d := if changed && st != rsLeader && st != rsColdStart then
      (d.updRing r (fun x => { x with prop := none })).put 0x400108 r 0 else d
  if st = rsListen ∨ st = rsWaiting then (d.ringGo r rsIntegrating).put 0x400102 r id
  else if st = rsColdStart then
    (if d.foreignCopy r b then
      (if id < me then (d.ringGo r rsIntegrating).put 0x400102 r id
       else if id = me then ((d.updRing r (fun x => { x with candidate := false })).ringGo r rsListen).raise 148 r 0 0
       else d)
     else d)
  else if st = rsLeader then
    (if d.foreignCopy r b && decide (id < me) then (d.ringGo r rsIntegrating).put 0x400102 r id else d)
  else if st = rsIntegrating then
    let good := if cons then (d.ring r).good + 1 else 0
    let d := (d.updRing r (fun x => { x with good := good })).put 0x400102 r id
    if good ≥ 8 && d.on 0x40010B r then d.put 0x400101 r rsFollower else d
  else if st = rsFollower then
    let d := d.put 0x400102 r id
    if rfMode b ≠ d.get 0x400103 r then
      let n := (d.ring r).differ + 1
      if n ≥ 2 && d.imageValid r (rfMode b) then
        ((d.updRing r (fun x => { x with differ := 0 })).put 0x400103 r (rfMode b)).ringGo r rsIntegrating
      else d.updRing r (fun x => { x with differ := n })
    else d.updRing r (fun x => { x with differ := 0 })
  else d

/-- A silence timeout of the start-up logic (R228): time is brought to its end. -/
def ringSilenceTimeout (r : Nat) (d : Dev) : Dev :=
  let x := d.ring r
  let from_ := if x.lastValid < x.t0 ∧ d.ringState r = rsListen then x.t0 else x.lastValid
  let st := d.ringState r
  if st = rsListen then
    (if d.get 0x400004 r = 1 && x.candidate then
      let d := d.at_ (from_ + ms 2)
      (d.updRing r (fun x => { x with t0 := d.now })).put 0x400101 r rsWaiting
    else d)
  else if st = rsIntegrating then (d.at_ (from_ + ms 2)).ringGo r rsListen
  else if st = rsFollower then (d.at_ (from_ + 3 * d.ringPeriod r)).ringGo r rsListen
  else d

/-- A waiting candidate's node ID × step elapses (R228): it enters cold start with the active value of object 0x4000:0C as
its mode. -/
def coldStartWait (r : Nat) (d : Dev) : Dev :=
  if d.ringState r ≠ rsWaiting then d else
  let d := d.at_ ((d.ring r).t0 + ns (d.nodeId r * d.get 0x40000B r))
  let d := d.updRing r (fun x => { x with sent := 0 })
  ((d.put 0x400101 r rsColdStart).put 0x400102 r (d.nodeId r)).put 0x400103 r (d.get 0x40000C r)

/-! ### A copy arrives (R203, R204, R210, R214 to R226) -/

/-- Count a copy on a ring port, `k` 0 received, 1 first valid, 2 second, 3 invalid (R216). [DEDUCED: log 35] -/
def Dev.countCopy (d : Dev) (r p k : Nat) : Dev :=
  let d := d.updRing r (fun x => { x with received4 := tput 0 x.received4 (4 * p + k) (tget 0 x.received4 (4 * p + k) + 1) })
  d.inc (0x400201 + k) (ringElem r p)

/-- The leader measures the loop delay of an unwrapped copy that returns (R220). -/
def Dev.measureLoop (d : Dev) (r rx : Nat) (b : List Byte) : Dev :=
  let m := rx - rfStart b
  d.updRing r (fun x => { x with
    loops := ((rx, m) :: x.loops).take 48
    cyc := x.cyc.map (fun c => if rfCopyA b then { c with retA := true } else { c with retB := true }) })

/-- A follower takes a copy's arrival time and forwarding delay (R221). -/
def Dev.noteArrival (d : Dev) (r p rx f : Nat) : Dev :=
  let d := d.updRing r (fun x => { x with cyc := x.cyc.map (fun c =>
    if p = 0 then { c with a := some rx, fa := f } else { c with b := some rx, fb := f }) })
  match (d.ring r).cyc with
  | some c => d.ringClockUse r c false
  | none => d

/-- A follower reads the syzygy field of a valid copy (R233 to R235). -/
def Dev.readProposal (d : Dev) (r : Nat) (b : List Byte) : Dev :=
  let p := rfProposal b
  if d.ringState r = rsLeader ∨ d.ringState r = rsColdStart then d
  else if p = 0 then (match (d.ring r).prop with
    | some _ => d
    | none => d.put 0x400108 r 0)
  else
    let t := byteAt b 47
    let ok := d.ringState r == rsFollower && decide (t ≤ 3) && d.imageValid r t && crc32 (d.ringImage r t) == beAt b 58 4
    let dec := if bit p 1 then 2 else if bit p 2 then 3 else 0
    let x : RingProposal := ⟨t, beAt b 50 4, beAt b 54 4, beAt b 58 4, ok, dec⟩
    (d.updRing r (fun y => { y with prop := some x })).put 0x400108 r (if dec = 0 then 1 else dec)

/-- May the write path open for a copy (R224)? Gives also whether the arrival lies outside the tolerance. [DEDUCED: log 34] -/
def Dev.writeEnabled (d : Dev) (r p rx : Nat) (b : List Byte) : Bool × Bool :=
  let g := (d.ring r).guard_
  let prev := if p = 0 then g.prevA else g.prevB
  let late := match prev with
    | some t => decide (absInt ((rx : Int) - (t + cycleLen g.whole g.frac / 65536 : Nat)) > ns g.tol)
    | none => true
  let img := tget [] g.images (d.get 0x400103 r)
  (!late && rfMode b == d.get 0x400103 r && rfLen b == imgFrame img, late)

/-- The bytes that a follower sends on: its slot and, in its turn, its mailbox written in (R213, R224). -/
def Dev.writeCopy (d : Dev) (r : Nat) (b img : List Byte) (o : RingOut) (wrap : Bool) : List Byte :=
  let b := match (imgPlaces img).find? (fun s => s.1 == d.nodeId r) with
    | some s => splice b s.2.2 (d.ownSlot r (rfCycle b) o false wrap)
    | none => b
  match o.box with
  | some x => splice b 66 x
  | none => b

/-- Send a copy out of a ring port at an instant, unless it is a wrapped one that overlaps a frame already leaving
(R219). -/
def Dev.sendCopy (d : Dev) (r p : Nat) (wrapped : Bool) (b : List Byte) (good : Bool) (t : Nat) : Dev :=
  let x := d.ring r
  let busy := if p = 0 then x.busyA else x.busyB
  if wrapped && decide (t < busy) then d.inc 0x400308 r
  else
    let e := t + d.ringBytes r (b.length + 12)
    (d.setRing r (if p = 0 then { x with busyA := e } else { x with busyB := e })).emit (.ringCopy r p b good t)

/-- A follower, or a node that passes traffic through, forwards a copy with the fixed delay and writes into it where
Tether lets it (R203, R204, R219, R224). -/
def Dev.forwardCopy (d : Dev) (r p : Nat) (b : List Byte) (good hdr : Bool) (rx tx : Nat) : Dev :=
  let x := d.ring r
  let wrapped := rfCopyA b == (p == 0)
  let onward := 1 - p
  let onwardUp := if onward = 0 then x.upA else x.upB
  let own := beAt b 12 2 == 0x88B6
  let wrap := !onwardUp && !wrapped && own
  let img := d.activeImage r
  let present := d.ringState r == rsFollower && hdr && !wrapped && rfKind b == 1 && rfMode b == d.get 0x400103 r
    && !d.ringSafe r && d.ringSync r 0 && d.ringSync r 1
  let en := d.writeEnabled r p rx b
  let d := if present && en.2 then d.inc 0x400208 (ringElem r p) else d
  let d := if present && !en.1 then d.ringBabble r p else d
  let go := present && en.1
  let out := if go then d.chooseOut r (rfCycle b) img else (⟨0, none, [], false, none, 0⟩, d)
  let d := out.2
  let bytes := if go then d.writeCopy r b img out.1 wrap else b
  let d := if !go then d
    else if out.1.copies ≥ 1 then
      (d.finishSlot out.1.entry 0).updRing r (fun y => { y with out := some { out.1 with entry := none, copies := 2 } })
    else d.updRing r (fun y => { y with out := some { out.1 with copies := 1 } })
  let fcs := good && (own || d.ringSafe r)
  let d := (d.inc 0x400205 (ringElem r p)).sendCopy r onward wrapped bytes fcs tx
  if wrap then (d.inc 0x400206 (ringElem r p)).sendCopy r p false bytes fcs tx else d

/-- A ring copy arrives on port `p` at `rx` of the port's replica, `good` where its FCS is good; `tx` is when its timestamp
point leaves the other port; `seen` is the copy as the slots' CRC checker sees it (R471). Gives the slots taken. -/
def ringCopyReceive (r p : Nat) (b seen : List Byte) (good : Bool) (rx tx : Nat) (d : Dev) : List TakenSlot × Dev :=
  let st := d.ringState r
  if st = rsDisabled then ([], d) else
  let d := d.at_ (shiftTime rx (- (d.rep (ringRep r p)).err))
  let d := d.put 0x400209 (ringElem r p) ((tx - rx) / 256)
  let d := d.countCopy r p 0
  let hdr := d.copyHeader r b
  let valid := hdr && good
  let wrapped := rfCopyA b == (p == 0)
  let origin := st == rsLeader || st == rsColdStart
  let ctl := d.copyCtrl r b
  let d := if !ctl then d else
    (if (d.ring r).newCycle (rfCycle b) then
      let gap := match (d.ring r).cyc, (d.ring r).prev with
        | some c, some q => if q.leader = rfLeader b ∧ rfCycle b > c.cycle + 1 then rfCycle b - c.cycle - 1 else 0
        | _, _ => 0
      (d.endCycle r gap).beginCycle r b
    else d)
  let live := match (d.ring r).cyc with
    | some c => ctl && c.cycle == rfCycle b
    | none => false
  let first := live && valid && !(match (d.ring r).cyc with
    | some c => c.counted
    | none => true)
  let d := if !valid then d.countCopy r p 3 else if first then d.countCopy r p 1 else d.countCopy r p 2
  let d := if first then
      d.updRing r (fun x => { x with cyc := x.cyc.map (fun c => { c with counted := true }) }) else d
  let d := if valid then (d.updRing r (fun x => { x with lastValid := d.now })).put 0x400104 r (rfCycle b) else d
  let d := if valid && !origin then d.put 0x400106 r (rfLoop b) else d
  let d := if live && wrapped then
      d.updRing r (fun x => { x with cyc := x.cyc.map (fun c => { c with wrapped := true }) }) else d
  let d := if valid && !wrapped && live then
      (if origin then (if d.foreignCopy r b then d else d.measureLoop r rx b)
       else d.noteArrival r p rx (tx - rx)) else d
  let d := if first then d.startUp r b else d
  let d := if valid then d.readProposal r b else d
  let act := d.get 0x400103 r
  let rd := if live && rfMode b == act && st != rsPass then d.readSlots r p rx seen (d.activeImage r) else ([], d)
  let d := if ctl && rfMode b != act then rd.2.inc 0x400305 r else rd.2
  let d := if origin then d else d.forwardCopy r p b good hdr rx tx
  let d := if valid && !wrapped then d.updRing r (fun x => { x with guard_ :=
      if p = 0 then { x.guard_ with prevA := some rx } else { x.guard_ with prevB := some rx } }) else d
  (rd.1, d)

/-! ### Polls of the own slot (R218) -/

/-- W: the expected instant at which the own slot starts to pass in the earlier of the two copies; C_n for the leader. -/
def Dev.ownSlotAt (d : Dev) (r : Nat) : Option Nat :=
  let c := d.ringCycle r
  if d.ringState r = rsLeader ∨ d.ringState r = rsColdStart then
    some (c.startAt (c.firstFrom (d.now + ns (d.get 0x40000F r)))).toNat
  else
    let g := (d.ring r).guard_
    let off := (((imgPlaces (d.activeImage r)).find? (fun s => s.1 == d.nodeId r)).map (fun s => s.2.2)).getD 0
    let next := fun (t : Nat) =>
      let per := d.ringPeriod r
      let w := t + per + d.ringBytes r off
      let lead := d.now + ns (d.get 0x40000F r)
      if per = 0 ∨ lead ≤ w then w else w + ceilTo (lead - w) per
    match g.prevA, g.prevB with
    | some a, some b => some (next (if a < b then a else b))
    | some a, none => some (next a)
    | none, some b => some (next b)
    | none, none => none

/-- The own slot's transmit queue is polled at W minus the poll lead, with the deadline W − 2 µs (R218). -/
def ringSlotPoll (r : Nat) (d : Dev) : Dev :=
  let q := d.get 0x400010 r
  if q ≥ 262144 then d else
  match d.ownSlotAt r with
  | none => d
  | some w =>
    let d := d.at_ (w - ns (d.get 0x40000F r))
    let x := d.queue q
    if x.state ≠ qActive then d else
    d.setQueue q { x with orrery := some 1, due := some d.now, deadline := w - us 2 }

/-- The payload of an own-slot queue's entry is here (R218); in the safe state it finishes at once (R458). A descriptor
longer than the slot is malformed. -/
def Dev.ringData (d : Dev) (r q idx : Nat) (bs : List Byte) : Dev :=
  let l := (imgSlotLen (d.activeImage r) (d.nodeId r)).getD 0
  if d.ringSafe r then d.txOutcome q idx false 0x15
  else if bs.length > l then d.queueError q idx 2
  else
    let x := d.queue q
    let d := d.setQueue q { x with entries := markEntry idx (fun e => { e with phase := .busy }) x.entries }
    match (d.ring r).ready with
    | some (q', i', _) => (d.finishSlot (some (q', i')) 0x16).updRing r (fun y => { y with ready := some (q, idx, bs) })
    | none => d.updRing r (fun y => { y with ready := some (q, idx, bs) })

/-- The safe state of a ring: entries of its own-slot queue finish with RESULT 0x15 (R458). -/
def Dev.ringEnterSafe (d : Dev) (r : Nat) : Dev :=
  let x := d.ring r
  let d := match x.ready with
    | some (q, idx, _) => d.txOutcome q idx false 0x15
    | none => d
  let d := match x.out with
    | some o => d.finishSlot o.entry 0x15
    | none => d
  d.updRing r (fun y => { y with ready := none, out := none })

/-! ### Modes (R232 to R237) -/

/-- A leader proposes a mode at cycle `t` once the transaction is READY, unless fewer than 4 frames can carry the proposal
(R232). -/
def Dev.ringPropose (d : Dev) (r target t : Nat) : Option Dev :=
  let n := (d.ringCycle r).firstFrom (d.now + 1)
  if n + 8 > t then none
  else
    let p : RingProposal := ⟨target, t - 4, t, crc32 (d.ringImage r target), false, 0⟩
    some ((d.updRing r (fun x => { x with prop := some p, acks := [] })).put 0x400108 r 1)

/-- Is the ring ready at the all-ready sample: not LAPSED (R237)? -/
def Dev.ringReady (d : Dev) (r : Nat) : Bool :=
  match (d.ring r).prop with
  | some p => p.decision == 2
  | none => d.ringState r != rsLeader

/-- The nodes switch to the target mode, or stay, at C_t (R235). -/
def ringModeSwitch (r : Nat) (d : Dev) : Dev :=
  match (d.ring r).prop with
  | none => d
  | some p =>
    let lead := d.ringState r == rsLeader
    let t := if lead then (d.ringCycle r).startAt p.cycle |>.toNat
      else match (d.ring r).prev with
        | some q => shiftTime (q.start + (p.cycle + 2 ^ 32 - q.cycle % 2 ^ 32) % 2 ^ 32 * d.ringPeriod r) (- d.geti 0x400105 r)
        | none => d.now
    let d := d.at_ t
    let go := if lead then p.decision == 2 else p.acked && p.decision != 3
    let d := (d.updRing r (fun x => { x with prop := none })).put 0x400108 r 0
    if go then d.put 0x400103 r p.target else d

/-! ### Mailbox (R238, R239) -/

/-- A message taken from a copy's mailbox: its writer, whether it was broadcast, and its body; none where it is discarded,
is not for the device, or was already taken from the cycle's first copy (R238). -/
def Dev.takeBox (d : Dev) (r cycle : Nat) (box : List Byte) : Option (Nat × Bool × List Byte) × Dev :=
  let m := box.length
  let dest := byteAt box 0
  let len := beAt box 2 2
  if ccitt (box.take (m - 2)) ≠ beAt box (m - 2) 2 then (none, d.inc 0x400307 r)
  else if dest ≠ d.nodeId r ∧ dest ≠ 255 then (none, d)
  else if (d.ring r).mbxCycle = some cycle then (none, d)
  else if len + 6 > m then (none, d.inc 0x400307 r)
  else
    let d := d.updRing r (fun x => { x with mbxCycle := some cycle })
    (some (byteAt box 1, dest == 255, slice box 4 len), d)

/-- A response addressed to the device is held for host software, up to 16 (R239). -/
def Dev.keepResponse (d : Dev) (r src : Nat) (body : List Byte) : Dev :=
  let x := d.ring r
  if x.received.length ≥ 16 then d.inc 0x400307 r
  else (d.inc 0x400306 r).updRing r (fun y => { y with received := y.received ++ [(src, body)] })

/-- Host software queues a message (object 0x4050:01). Gives the abort code. -/
def Dev.sendMessage4050 (d : Dev) (r : Nat) (bs : List Byte) : Nat × Dev :=
  let x := d.ring r
  let m := imgM (d.activeImage r)
  if bs.isEmpty then (0x0303, d)
  else if x.sendQ.length ≥ 8 then (0x0502, d)
  else if bs.length - 1 + 6 > m then (0x0302, d)
  else
    let d := d.updRing r (fun y => { y with sendQ := y.sendQ ++ [(byteAt bs 0, bs.drop 1)] })
    (0, d.put 0x405003 r (d.ring r).sendQ.length)

/-- A read of object 0x4050:02 removes the oldest response (R239). -/
def Dev.takeResponse (d : Dev) (r : Nat) : List Byte × Dev :=
  match (d.ring r).received with
  | (src, body) :: t => (byte src :: body, d.updRing r (fun y => { y with received := t }))
  | [] => ([], d)

/-- A response leaves in one of the device's own turns; 16 may be held (R239). Says whether there is room. -/
def Dev.boxRoom (d : Dev) (r : Nat) : Bool := decide ((d.ring r).responses.length < 16)

/-- Hold a response body for a node. -/
def Dev.holdResponse (d : Dev) (r dest : Nat) (body : List Byte) : Dev :=
  d.updRing r (fun y => { y with responses := y.responses ++ [(dest, body)] })

/-! ### Receive sides and relays (R202, R219, R240) -/

/-- A ring port's receive side goes down or comes up (R202). -/
def ringReceiveSide (r p : Nat) (up : Bool) (d : Dev) : Dev :=
  d.updRing r (fun x => if p = 0 then { x with upA := up } else { x with upB := up })

/-- The bypass pin, low while the device is inserted (R240). -/
def Dev.bypass (d : Dev) (r : Nat) (released : Bool) : Dev := d.emit (.pin "RING_BYP_N" r released d.now)

/-- An enabled ring in RUN is inserted (R240). -/
def ringInsert (r : Nat) (d : Dev) : Dev :=
  if !d.on 0x400001 r || d.power != 2 || (d.ring r).relay != .released then d else
  let d := d.updRing r (fun x => { x with
    relay := .inserting (d.now + ms (d.get 0x40000E r)), candidate := true })
  (d.put 0x400101 r rsPass).bypass r false

/-- A ring is disabled, or the device leaves RUN (R240). -/
def ringRemove (r : Nat) (d : Dev) : Dev :=
  let x := d.ring r
  if (d.on 0x400001 r && d.power == 2) || x.relay == .released then d else
  match x.relay with
  | .removing _ => d
  | _ =>
    let d := d.updRing r (fun y => { y with relay := .removing (d.now + ms (d.get 0x40000E r)) })
    (d.ringGo r rsPass).bypass r true

/-- A ring whose ports are powered down: Tether's copies, the counts of the epoch and the mailbox queues stay. [DEDUCED: log 178] -/
def Ring.down (x : Ring) : Ring :=
  { ring0 with
    guard_ := x.guard_, expected := x.expected, slotsTaken := x.slotsTaken, slotsMissing := x.slotsMissing,
    received4 := x.received4, responses := x.responses, sendQ := x.sendQ, received := x.received }

/-- The relay settle time ends: the ring enters listen, or its ports power down (R240). -/
def relaySettle (r : Nat) (d : Dev) : Dev :=
  match (d.ring r).relay with
  | .inserting t =>
    let d := d.at_ t
    (d.updRing r (fun x => { x with relay := .inserted })).ringGo r rsListen
  | .removing t =>
    let d := d.at_ t
    ((((d.setRing r (d.ring r).down).put 0x400101 r rsDisabled).put 0x400102 r 0).put 0x400108 r 0).put 0x40010B r 0
  | _ => d

/-- A reset of a ring port clears its held delays and its start-up state: the ring restarts in listen (R241). -/
def Dev.ringPortReset (d : Dev) (r : Nat) : Dev :=
  let d := d.updRing r (fun x => { x with
    xA := none, xB := none, offsets := [], prev := none, cyc := none, good := 0, sent := 0, prop := none, lastValid := d.now })
  let d := ((d.put 0x40020A (ringElem r 0) 0xFFFFFFFF).put 0x40020A (ringElem r 1) 0xFFFFFFFF).put 0x40010B r 0
  if d.ringState r = rsDisabled ∨ d.ringState r = rsPass then d else d.ringGo r rsListen

/-! ### Staging, COMMIT checks, applying (R212, R227, R231, R232, R242) -/

/-- Why a ring object may not be staged now, 0 where it may (R231, R232). -/
def Dev.ringStage (d : Dev) (o e : Nat) : Nat :=
  if o = 0x401001 then
    let r := e / 4
    (if d.get 0x400103 r = e % 4 && d.ringState r != 0 then 0x0502
     else match (d.ring r).prop with
       | some p => if p.target = e % 4 then 0x0502 else 0
       | none => 0)
  else if o = 0x40000C then (if d.ringState e = rsFollower then 0x0502 else 0)
  else 0

/-- May the ring object be committed in the present state (R232, R242)? A leader's target image that reads invalid, with no other
staged, is refused. -/
def Dev.ringCommit (d : Dev) (o e : Nat) : Nat :=
  let s := o % 256
  if o / 256 = 0x4000 ∧ ((2 ≤ s ∧ s ≤ 0x0A) ∨ s = 0x0E) ∧ d.on 0x400001 e then 0x0502
  else if o = 0x40000C ∧ d.ringState e = rsLeader then
    let k := 4 * e + d.getSh 0x40000C e
    if d.get 0x401003 k = 1 ∧ d.getShB 0x401001 k = d.getB 0x401001 k then 0x0404 else 0
  else 0

/-- The COMMIT checks of the ring objects, on the values a transaction would make active; 0 for none. -/
def Dev.checkRing (d : Dev) (o e : Nat) : Nat :=
  let bad := fun (b : Bool) => if b then 0x0404 else 0
  if o = 0x401001 then bad (!imgOk (d.getB o e) || !d.imgFits (e / 4) (d.getB o e))
  else if o = 0x40000C then
    let img := d.ringImage e (d.get o e)
    let slots := (imgSlots (d.activeImage e)).map (·.1)
    bad (d.ringState e == rsLeader && (!imgOk img || (List.range 255).any (fun n => imgExpects img n && !slots.contains n)))
  else if o / 256 = 0x4000 then
    bad (!(d.ringCycle e).anchorOk || [0, 1, 2, 3].any (fun m =>
      d.imageValid e m && !d.imgFits e (d.ringImage e m)))
  else 0

/-- What applying a ring object does beside the object: image CRC and validity, Tether's copies (R227, R231). -/
def Dev.ringApplied (d : Dev) (o e : Nat) : Dev :=
  if o = 0x401001 then
    let b := d.getB o e
    let d := (d.put 0x401002 e (crc32 b)).put 0x401003 e (if b.isEmpty then 1 else 0)
    d.updRing (e / 4) (fun x => { x with guard_ := { x.guard_ with images := tput [] x.guard_.images (e % 4) b } })
  else if o / 256 = 0x4000 then
    d.updRing e (fun x => { x with guard_ := { x.guard_ with
      node := d.get 0x400003 e, whole := d.get 0x400006 e, frac := d.get 0x400007 e
      base := timeOfKtime (d.get 0x400008 e), anchor := d.get 0x400009 e, tol := d.get 0x40000A e } })
  else d

/-- The start of a ring's cycle (boundary kind "ring cycle"). -/
def Dev.ringCycleTime (d : Dev) (r n : Nat) : Nat := ((d.ringCycle r).startAt n).toNat

end Sys2Proof.Machine
end

