-- ==== Sys2Proof/Machine/Engine.lean ====
section
/-! DEFINITION. Channels and windows (R256, R257), activation bindings and the cluster scheduler (R285 to R290), kernel
slots, faults and re-homing (R304 to R310). -/
namespace Sys2Proof.Machine

/-! ### Channels -/

/-- A rate in samples per second, as a fraction (R244). -/
structure Rate where
  num : Nat
  den : Nat
deriving DecidableEq, Repr

/-- The grid point nearest to a time, counted from the KTIME96 epoch. -/
def Rate.near (r : Rate) (t : Nat) : Nat := (2 * t * r.num + r.den * sec 1) / (2 * r.den * sec 1)

/-- The first grid point at or after a time. -/
def Rate.first (r : Rate) (t : Nat) : Nat := if r.den = 0 then 0 else (t * r.num + r.den * sec 1 - 1) / (r.den * sec 1)

/-- The time of a grid point, lower bits dropped. -/
def Rate.time (r : Rate) (g : Nat) : Nat := if r.num = 0 then 0 else g * r.den * sec 1 / r.num

/-- DATA_RATE of a CFG-2 frame: frames per second, or seconds per frame where negative (R244). -/
def cfgDataRate (b : List Byte) : Int := toInt 16 (beAt b (b.length - 4) 2)

/-- DATA_RATE as a rate. -/
def rateOfData (x : Int) : Rate := if x > 0 then ⟨x.toNat, 1⟩ else if x < 0 then ⟨1, (-x).toNat⟩ else ⟨0, 1⟩

/-- A ring-slot stream's rate sets × M ÷ A (R252). -/
def Dev.ringStreamRate (d : Dev) (s : Nat) : Nat :=
  let c := d.ringCycle (d.get 0x612002 s)
  if c.anchor = 0 then 0 else d.get 0x612004 s * c.m / c.anchor

/-- The rate of the stream that object 0x6130:03 names. -/
def Dev.ownerRate (d : Dev) (owner : Nat) : Rate :=
  let n := owner % 2 ^ 30
  let k := owner / 2 ^ 30
  if owner = 0xFFFFFFFF then ⟨0, 1⟩
  else if k = 0 then ⟨d.get 0x610007 n, 1⟩
  else if k = 1 then ⟨d.ringStreamRate n, 1⟩
  else if k = 2 then rateOfData (cfgDataRate (d.getB 0x611007 n))
  else ⟨d.get 0x540002 n, 1⟩

/-- The rate of a channel. -/
def Dev.chanRate (d : Dev) (c : Nat) : Rate := d.ownerRate (d.get 0x613003 c)

/-- The region of the stream that object 0x6130:03 names; 4 where none. -/
def Dev.ownerRegion (d : Dev) (owner : Nat) : Nat :=
  let n := owner % 2 ^ 30
  let k := owner / 2 ^ 30
  if owner = 0xFFFFFFFF then 4
  else if k = 0 then d.get 0x61000A n
  else if k = 1 then d.get 0x612006 n
  else if k = 2 then d.get 0x611005 n
  else d.get 0x540003 n

/-- The region of a channel. -/
def Dev.chanRegion (d : Dev) (c : Nat) : Nat := d.ownerRegion (d.get 0x613003 c)

/-! ### Windows -/

/-- Replace the ingest part. -/
def Dev.setIng (d : Dev) (x : IngestSt) : Dev := { d with ing := x }

/-- An index that was never written. -/
def win0 : WinEntry := ⟨0, 0⟩

/-- The window of channel `c`. -/
def Dev.window (d : Dev) (c : Nat) : Tab WinEntry := tget [] d.ing.windows c

/-- The present entry of a channel at a grid point (R256, R258). -/
def Dev.winAt (d : Dev) (c g : Nat) : Option Nat :=
  let x := tget win0 (d.window c) (g % d.get 0x613002 c)
  if x.grid = g && bit x.word 0 then some x.word else none

/-- Write an entry at the index of its grid point. -/
def Dev.winPut (d : Dev) (c g word : Nat) : Dev :=
  d.setIng { d.ing with windows := tput [] d.ing.windows c (tput win0 (d.window c) (g % d.get 0x613002 c) ⟨g, word⟩) }

/-- The newest grid point that is present in a channel. -/
def Dev.newest (d : Dev) (c : Nat) : Option Nat :=
  (d.window c).foldl (fun a p => if bit p.2.word 0 then (match a with
    | some m => if p.2.grid > m then some p.2.grid else a
    | none => some p.2.grid) else a) none

/-! ### Bindings -/

/-- The channels of a binding's input list (object 0x5300:03), little-endian U32 each. -/
def chanList (b : List Byte) : List Nat := (List.range (b.length / 4)).map (fun i => leAt b (4 * i) 4)

/-- The elements in use of object 0x5300. -/
def Dev.bindings (d : Dev) : List Nat := (d.listed 0x530001).filter (fun b => d.get 0x530001 b != 0xFFFF)

/-- A binding's slot, trigger and channels at a trigger time. -/
def Dev.bindSlot (d : Dev) (b t : Nat) : Nat := d.getAt t 0x530001 b
def Dev.bindKind (d : Dev) (b t : Nat) : Nat := d.getAt t 0x530002 b
def Dev.bindChans (d : Dev) (b t : Nat) : List Nat := chanList (d.getBAt t 0x530003 b)

/-- A binding that has raised nothing. -/
def bind0 : BindRun := ⟨0, none, none, 0⟩

/-- A binding's bookkeeping. -/
def Dev.bind_ (d : Dev) (b : Nat) : BindRun := tget bind0 d.eng.binds b

/-- Replace a binding's bookkeeping. -/
def Dev.setBind (d : Dev) (b : Nat) (x : BindRun) : Dev := d.setEng { d.eng with binds := tput bind0 d.eng.binds b x }

/-! ### Engines -/

/-- A physical engine after reset; `state` 0 works, 3 contained, 4 in self-test, 5 failed. -/
def engine0 : Engine :=
  { s := [], v := [], sAt := [], vAt := [], pc := 0, cyc := 0, act := none, useOld := false, flags := 0, upd := [],
    kevts := 0, moves := [], moved := 0, latchSec := 0, latchFrac := 0, start := 0, pending := [], state := 0, got := 0,
    done := 0, lost := 0, issued := 0, deepest := 0 }

/-- Physical engine `f`. -/
def Dev.engine (d : Dev) (f : Nat) : Engine := tget engine0 d.eng.engines f

/-- Replace a physical engine. -/
def Dev.setEngine (d : Dev) (f : Nat) (x : Engine) : Dev := d.setEng { d.eng with engines := tput engine0 d.eng.engines f x }

/-- The physical engine that hosts a logical one (object 0x5000:03, R308). -/
def Dev.hostOf (d : Dev) (l : Nat) : Nat := d.get 0x500003 l

/-- The logical engine that a physical one hosts. -/
def Dev.logicalOf (d : Dev) (f : Nat) : Nat :=
  ((List.range 32).find? (fun i => d.hostOf (f / 32 * 32 + i) == f)).map (fun i => f / 32 * 32 + i) |>.getD f

/-- The image of a slot that governs a trigger time (R300). -/
def KSlot.at_ (x : KSlot) (t : Nat) : Option Loaded := if t < x.oldUntil && x.old.isSome then x.old else x.cur

/-- Count a dropped activation of a binding (object 0x5300:0C). -/
def Dev.dropAct (d : Dev) (a : Act) : Dev := d.inc 0x53000C a.binding

/-- Raise an activation to its engine's queue (R288): dropped when the slot is stopped or the queue holds 64. -/
def Dev.raiseAct (d : Dev) (a : Act) : Dev :=
  let l := a.slot / 16
  let f := d.hostOf l
  let x := d.engine f
  let d := d.inc 0x530009 a.binding
  let d := if bit a.flags 2 then d.inc 0x53000A a.binding else d
  let d := d.setBind a.binding { d.bind_ a.binding with latest := some a }
  if (d.kslot a.slot).stopped ≠ 0 || !d.regionRuns (l / 32) || x.state == 3 || x.state == 5 then d.dropAct a
  else if x.pending.length ≥ 64 then ((d.dropAct a).inc 0x500007 l).raise 222 l 0 0
  else
    let n := x.pending.length + 1
    let d := d.setEngine f { x with
      pending := x.pending ++ [a], got := x.got + 1, issued := x.issued + 1, deepest := if n > x.deepest then n else x.deepest }
    if n > d.get 0x500008 l then d.put 0x500008 l n else d

/-- An activation of binding `b` at a trigger time (R285, R287). -/
def Dev.actOf (d : Dev) (b t second point flags : Nat) : Act :=
  let kind := d.bindKind b t
  let n := d.epochOf t
  let dl := if kind = 3 then d.closeAt n else d.now + ns (d.getAt t 0x530006 b)
  ⟨b, d.bindSlot b t, kind, t, second, point, d.now, dl, n, flags⟩

/-- An activation for grid point `g` of a rate. -/
def Dev.gridAct (d : Dev) (b g : Nat) (r : Rate) (flags : Nat) : Act :=
  d.actOf b (r.time g) (if r.num = 0 then 0 else g * r.den / r.num % 2 ^ 32) (if r.num = 0 then 0 else g % r.num) flags

/-- Raise the window completions of a binding from its next grid point up to `m` (R286): the ones of its hop phase, in
order; a grid point at which an input is absent is INCOMPLETE. -/
def Dev.complete (d : Dev) (b m : Nat) (chans : List Nat) (r : Rate) : Dev :=
  let hop := d.get 0x530004 b
  let from_ := if (d.bind_ b).next = 0 then m else (d.bind_ b).next
  if hop = 0 ∨ m < from_ then d else
  let g0 := from_ + (d.get 0x530005 b + hop - from_ % hop) % hop
  let n := if m < g0 then 0 else (m - g0) / hop + 1
  let d := (List.range n).foldl (fun d i =>
    let g := g0 + i * hop
    let full := chans.all (fun c => (d.winAt c g).isSome)
    d.raiseAct (d.gridAct b g r (if full then 0 else 4))) d
  d.setBind b { d.bind_ b with next := m + 1 }

/-- An entry of channel `c` at grid point `g` is present: sample arrival and window completion activations of the bindings
that take the channel (R285, R286). -/
def Dev.entryArrived (d : Dev) (c g : Nat) : Dev :=
  let r := d.chanRate c
  let t := r.time g
  d.bindings.foldl (fun d b =>
    let chans := d.bindChans b t
    if !chans.contains c || d.bindSlot b t == 0xFFFF then d
    else if d.bindKind b t = 1 then
      (if chans.all (fun c => (d.winAt c g).isSome) && ((d.bind_ b).latest.map Act.time != some t)
       then d.raiseAct (d.gridAct b g r 0) else d)
    else if d.bindKind b t = 2 then
      (match chans.map d.newest with
       | some m :: l =>
         if l.all (·.isSome) then d.complete b (l.foldl (fun a x => match x with
           | some y => if y < a then y else a
           | none => a) m) chans r
         else d
       | _ => d)
    else d) d

/-- The indices of a flags ring (its first word and its depth) that stand for the grid points from `from_` to `to_` carry
PRESENT = 0: nothing has been written for those points (R256, R277). [DEDUCED: log 172] -/
def wrapRing (t : Tab Nat) (at_ depth from_ to_ : Nat) : Tab Nat :=
  let n := if to_ + 1 - from_ < depth then to_ + 1 - from_ else depth
  (List.range n).foldl (fun t i =>
    let j := at_ + (to_ - i) % depth
    tput 0 t j (tget 0 t j / 2 * 2)) t

/-- The region crossbar pushes an entry into the input rings of the slots bound to its channel: the value word, then the
flags word (R277). `last` is the newest grid point that was present before: the points between have no entry, and an entry
older than the ring's depth has no index. -/
def Dev.pushRings (d : Dev) (c g word : Nat) (last : Option Nat) : Dev :=
  let t := (d.chanRate c).time g
  d.bindings.foldl (fun d b =>
    let k := d.bindSlot b t
    let chans := d.bindChans b t
    if k = 0xFFFF || !chans.contains c then d else
    let put := fun (l : Loaded) =>
      (List.range chans.length).foldl (fun (l : Loaded) i =>
        if chans.getD i 0 = c ∧ i < ikInputs l.image ∧ ikDepth l.image > 0 ∧ last.getD 0 < g + ikDepth l.image then
          let j := g % ikDepth l.image
          let t := wrapRing l.data (ikFlags l.image i / 4) (ikDepth l.image) (last.getD (g - 1) + 1) (g - 1)
          let t := tput 0 t (ikValues l.image i / 4 + j) (word / 2 ^ 32)
          { l with data := tput 0 t (ikFlags l.image i / 4 + j) (word % 2 ^ 32) }
        else l) l
    let x := d.kslot k
    d.setKslot k { x with cur := x.cur.map put, old := x.old.map put }) d

/-- Entries of one sample set are written, all before any activation is raised (R256, R258, R277). -/
def Dev.commitEntries (d : Dev) (g : Nat) (es : List (Nat × Nat)) : Dev :=
  let d := es.foldl (fun d e => (d.winPut e.1 g e.2).pushRings e.1 g e.2 (d.newest e.1)) d
  es.foldl (fun d e => d.entryArrived e.1 g) d

/-- Completions at an ingest cutoff (R286): every grid point of epoch `n` not yet raised. -/
def Dev.cutoffCompletions (d : Dev) (n : Nat) : Dev :=
  d.bindings.foldl (fun d b =>
    if d.get 0x530002 b ≠ 2 then d else
    let chans := chanList (d.getB 0x530003 b)
    match chans with
    | [] => d
    | c :: _ =>
      let r := d.chanRate c
      let m := r.first (d.epochEnd n) - 1
      if (d.bind_ b).next = 0 then d else d.complete b m chans r) d

/-- Epoch activations at the ingest cutoff of epoch `n` (R285). -/
def Dev.epochActs (d : Dev) (n : Nat) : Dev :=
  let t := d.epochStart n
  d.bindings.foldl (fun d b =>
    if d.bindKind b t = 3 && d.bindSlot b t != 0xFFFF then d.raiseAct (d.actOf b t (t / sec 1 % 2 ^ 32) 0 0) else d) d

/-- The timer instant S + phase + k × period of a binding at or after a time: S the second before it, counted in whole
periods from the KTIME96 epoch where the period is a second or more (R285). [DEDUCED: log 47] -/
def Dev.timerInstant (d : Dev) (b from_ : Nat) : Nat :=
  let p := us (d.get 0x530007 b)
  let ph := ns (d.get 0x530008 b)
  if p = 0 then from_ else if from_ ≤ ph then ph else ph + ceilTo (from_ - ph) p

/-- TIMER_TRIGGER: time is brought to the binding's next timer instant, and an activation is raised (R285). -/
def timerTrigger (b : Nat) (d : Dev) : Dev :=
  if d.get 0x530002 b ≠ 4 || d.get 0x530001 b == 0xFFFF then d else
  let last := (d.bind_ b).timerAt
  let t := d.timerInstant b (if last ≥ d.now then last + 1 else d.now)
  let d := d.at_ t
  let d := d.setBind b { d.bind_ b with timerAt := t }
  d.raiseAct (d.actOf b t (t / sec 1 % 2 ^ 32) 0 0)

/-! ### Dispatch (R272, R287, R288) -/

/-- Does activation `a` come before `b` in a selection? Of equal ones the earlier raised stands first in the queue. -/
def actBefore (a b : Act) : Bool :=
  decide (a.deadline < b.deadline) || (a.deadline == b.deadline &&
    (decide (a.slot % 16 < b.slot % 16) || (a.slot % 16 == b.slot % 16 && decide (a.binding < b.binding))))

/-- The activation that a selection takes. -/
def selectAct : List Act → Option Act
  | [] => none
  | a :: l => match selectAct l with
    | none => some a
    | some b => if actBefore b a then some b else some a

/-- The 64-byte context (R287). -/
def contextBytes (a : Act) (l : Loaded) (grid late : Nat) : List Byte :=
  let b := l.image
  leBytes 2 a.kind ++ leBytes 2 a.binding ++ leBytes 4 a.second ++ leBytes 4 a.point ++ leBytes 8 (ts64Of a.time)
    ++ leBytes 2 a.time ++ leBytes 2 (ikInputs b) ++ leBytes 4 (a.raised / 65536 % 1000000000)
    ++ leBytes 4 (a.deadline / 65536 % 1000000000) ++ leBytes 4 a.epoch ++ leBytes 4 (l.bankAt a.time)
    ++ leBytes 4 (ikValues b 0) ++ leBytes 4 (ikDepth b)
    ++ leBytes 4 (if ikDepth b = 0 then 0 else grid % ikDepth b) ++ leBytes 4 (ikWork b) ++ leBytes 4 (a.flags + 8 * late)
    ++ zeros 4

/-- The grid point of an activation's trigger, zero for epoch and timer triggers. -/
def Dev.actGrid (d : Dev) (a : Act) : Nat :=
  if a.kind = 1 ∨ a.kind = 2 then
    (match d.bindChans a.binding a.time with
     | c :: _ => (d.chanRate c).near a.time
     | [] => 0)
  else 0

/-- The rings of a slot as an activation finds them: the indices that stand for grid points up to its trigger time, and for
which no entry has been written, carry PRESENT = 0 (R256, R277). -/
def Dev.wrapRings (d : Dev) (a : Act) (l : Loaded) : Loaded :=
  let chans := d.bindChans a.binding a.time
  (List.range (ikInputs l.image)).foldl (fun (l : Loaded) i =>
    let c := chans.getD i 0
    let r := d.chanRate c
    let g := if a.kind = 1 ∨ a.kind = 2 then r.near a.time else a.time * r.num / (r.den * sec 1)
    let from_ := match d.newest c with
      | some m => m + 1
      | none => 0
    if i < chans.length ∧ ikDepth l.image > 0 then
      { l with data := wrapRing l.data (ikFlags l.image i / 4) (ikDepth l.image) from_ g }
    else l) l

/-- Replace the image that an activation runs under. -/
def Dev.setLoaded (d : Dev) (k : Nat) (useOld : Bool) (l : Loaded) : Dev :=
  let x := d.kslot k
  d.setKslot k (if useOld then { x with old := some l } else { x with cur := some l })

/-- Dispatch on physical engine `f` (R288): the pending activation of the earliest deadline; 40 cycles later its first
instruction issues, with every register zero (R272) and the context written (R287). [DEDUCED: log 54] -/
def activationDispatch (f : Nat) (d : Dev) : Dev :=
  let x := d.engine f
  if x.act.isSome || x.state != 0 || !d.regionRuns (f / 32) || d.clusterStopped (f / 8) then d else
  match selectAct x.pending with
  | none => d
  | some a =>
    let x := { x with pending := x.pending.erase a }
    let k := d.kslot a.slot
    let useOld := decide (a.time < k.oldUntil) && k.old.isSome
    match k.at_ a.time with
    | none => (d.setEngine f { x with lost := x.lost + 1 }).dropAct a
    | some l =>
      let ctx := contextBytes a l (d.actGrid a) (b2n (decide (d.now > a.deadline)))
      let l := d.wrapRings a l
      let l := { l with data := putWords l.data 0 ctx 16 }
      let d := d.setLoaded a.slot useOld l
      (d.setEngine f { x with
        s := [], v := [], sAt := [], vAt := [], pc := ikEntry l.image, cyc := 0, act := some a, useOld := useOld,
        flags := 0, upd := [], kevts := 0, moves := [], moved := 0, latchSec := 0, latchFrac := 0,
        start := d.now + ns 40 }).put 0x500001 (d.logicalOf f) 1

/-! ### Faults (R304 to R306) -/

/-- A physical engine's running activation is abandoned and its update buffer discarded (R305, R306). -/
def Dev.abandonAct (d : Dev) (f : Nat) : Dev :=
  let x := d.engine f
  match x.act with
  | none => d
  | some _ =>
    let l := d.logicalOf f
    let d := (d.add 0x500009 l x.cyc).inc 0x500005 l
    let d := if d.get 0x500001 l = 1 then d.put 0x500001 l 0 else d
    d.setEngine f { x with act := none, upd := [], moves := [], lost := x.lost + 1 }

/-- Drop the pending activations that a test picks, each counted. -/
def Dev.dropPending (d : Dev) (f : Nat) (p : Act → Bool) : Dev :=
  let x := d.engine f
  let gone := x.pending.filter p
  let d := d.setEngine f { x with pending := x.pending.filter (fun a => !p a), lost := x.lost + gone.length }
  gone.foldl Dev.dropAct d

/-- A slot is stopped with a fault's row (R305): its running activation is abandoned, its pending ones are dropped. -/
def Dev.stopSlot (d : Dev) (k row : Nat) : Dev :=
  let f := d.hostOf (k / 16)
  let run := match (d.engine f).act with
    | some a => a.slot == k
    | none => false
  let d := if run then d.abandonAct f else d
  let d := d.dropPending f (fun a => a.slot == k)
  ((d.setKslot k { d.kslot k with stopped := row }).showSlot k).put 0x50000B (k / 16) row

/-- A fault that the kernel caused (R304): its event, and its slot stops. -/
def Dev.kernelFault (d : Dev) (f row : Nat) : Dev :=
  match (d.engine f).act with
  | none => d
  | some a => (d.stopSlot a.slot row).raise (207 + row) (a.slot / 16) 0 0

/-- The cycles from which an activation counts as run away: WCET + 1 (R304). -/
def Dev.wcetOf (d : Dev) (a : Act) : Nat :=
  match (d.kslot a.slot).at_ a.time with
  | some l => ikWcet l.image
  | none => 0

/-- WATCHDOG: the activation has reached WCET + 1 cycles without END, or waits past it (R304). -/
def watchdog (f : Nat) (d : Dev) : Dev :=
  let x := d.engine f
  match x.act with
  | none => d
  | some a =>
    let waits := x.moves.foldl (fun m y =>
      let c := match y with
        | .xfer c _ _ _ _ => c
        | .sget c _ _ _ => c
      if c > m then c else m) x.cyc
    if waits ≥ d.wcetOf a + 1 then (d.at_ (x.start + ns (d.wcetOf a + 1))).kernelFault f 8 else d

/-! ### Spares and re-homing (R306 to R310) -/

/-- Stop every loaded slot of a logical engine. -/
def Dev.stopAll (d : Dev) (l row : Nat) : Dev :=
  (List.range 16).foldl (fun d s => if (d.kslot (16 * l + s)).cur.isSome then d.stopSlot (16 * l + s) row else d) d

/-- The bytes that re-homing copies (R308): code, data region and TABLE of every loaded slot. -/
def Dev.rehomeBytes (d : Dev) (l : Nat) : Nat :=
  (List.range 16).foldl (fun a s =>
    match (d.kslot (16 * l + s)).cur with
    | some x => a + ikCodeLen x.image + ikRegion x.image + ikTableLen x.image
    | none => a) 0

/-- The activations that are raised again (R308): of each binding of the engine whose latest raised one has no committed
result and is not pending, with RECOMPUTE; before it one WARMUP activation for the window before where the image asks. [DEDUCED: log 50] -/
def Dev.rehomeActs (d : Dev) (l : Nat) (pending : List Act) : List Act :=
  d.bindings.flatMap (fun b =>
    let x := d.bind_ b
    match x.latest with
    | none => []
    | some a =>
      if a.slot / 16 ≠ l || x.committed == some a.time || pending.any (fun y => y.binding == b && y.time == a.time) then []
      else
        let again := { a with flags := setBit a.flags 0 true }
        let warm := match (d.kslot a.slot).at_ a.time with
          | some i => ikWarmup i.image
          | none => false
        if warm then
          let r := match d.bindChans b a.time with
            | c :: _ => d.chanRate c
            | [] => ⟨0, 1⟩
          let g := d.actGrid a - d.get 0x530004 b
          [{ again with
             flags := 3, time := r.time g, second := if r.num = 0 then a.second else g * r.den / r.num % 2 ^ 32,
             point := if r.num = 0 then 0 else g % r.num }, again]
        else [again])

/-- The failed or forced engine `f` is reset and goes into self-test (R306). -/
def Dev.selfTest (d : Dev) (f : Nat) : Dev :=
  let x := d.engine f
  d.setEngine f { engine0 with state := 4, got := x.got, done := x.done, lost := x.lost, issued := x.issued }

/-- Re-homing begins (R308): the spare takes the pending activations, the engines exchange their hosts. -/
def Dev.rehome (d : Dev) (f : Nat) : Dev :=
  let l := d.logicalOf f
  let g := f / 32
  let s := d.get 0x500102 g
  let ls := d.logicalOf s
  let pend := (d.engine f).pending
  let again := d.rehomeActs l pend
  let d := d.abandonAct f
  let x := d.engine f
  let d := d.setEngine f { x with pending := [], lost := x.lost + pend.length }
  let d := d.selfTest f
  let y := d.engine s
  let d := d.setEngine s { y with
    state := 1, pending := y.pending ++ pend, got := y.got + pend.length, issued := y.issued + pend.length }
  let d := (d.put 0x500003 l s).put 0x500003 ls f
  let d := ((d.put 0x500001 l 0).put 0x500001 ls 4).inc 0x500103 g
  let d := (d.put 0x500102 g 0xFF).put 0x500104 g 1
  let due := d.now + ns (200 + (d.rehomeBytes l + 15) / 16)
  (d.setEng { d.eng with rehomes := tput ⟨0, 0, 0, 0, []⟩ d.eng.rehomes g ⟨l, f, s, due, again⟩ }).raise 224 l 0 0

/-- Is the region's spare ready? -/
def Dev.spareReady (d : Dev) (g : Nat) : Bool := d.get 0x500104 g == 0 && d.get 0x500102 g != 0xFF

/-- A hardware fault on physical engine `f` (R306, R308, R309): row 2 memory, 3 parity, 4 illegal instruction. -/
def Dev.engineFault (d : Dev) (f row : Nat) : Dev :=
  let l := d.logicalOf f
  let x := d.engine f
  if x.state = 3 ∨ x.state = 4 ∨ x.state = 5 then d else
  let d := (d.raise (207 + row) l 0 0).put 0x50000B l row
  if d.get 0x500102 (f / 32) = f then (((d.selfTest f).put 0x500102 (f / 32) 0xFF).put 0x500104 (f / 32) 2).put 0x500001 l 4
  else if d.spareReady (f / 32) then d.rehome f
  else
    let d := d.abandonAct f
    let d := d.stopAll l row
    let d := d.setEngine f { d.engine f with state := 3 }
    ((d.put 0x500001 l 3).raise 220 l 0 0).put 0x50000B l 13

/-- ENGINE_HARDWARE_FAULT: 0 memory uncorrectable, 1 register file or pipeline parity, 2 illegal instruction. -/
def engineHardwareFault (f kind : Nat) (d : Dev) : Dev := d.engineFault f (2 + kind)

/-- A slot's memory is built again on its engine: code, parameter banks, shared blocks, rings refilled with the latest
entries of their windows, the work area and the context zero (R305, R308). -/
def Dev.rebuild (d : Dev) (k : Nat) (l : Loaded) (rings : Bool) : Loaded :=
  let b := l.image
  let p0 := getWords l.data (ikBank b 0) (ikParamLen b / 4)
  let p1 := getWords l.data (ikBank b 1) (ikParamLen b / 4)
  let data := putWords (putWords [] (ikBank b 0) p0 (ikParamLen b / 4)) (ikBank b 1) p1 (ikParamLen b / 4)
  let chans := match d.bindings.find? (fun x => d.get 0x530001 x == k) with
    | some x => chanList (d.getB 0x530003 x)
    | none => []
  let fill := fun (t : Tab Nat) (i : Nat) =>
    let c := chans.getD i 0
    match d.newest c with
    | none => t
    | some m => (d.window c).foldl (fun t p =>
        if p.2.grid + ikDepth b > m ∧ ikDepth b > 0 then
          let j := p.2.grid % ikDepth b
          tput 0 (tput 0 t (ikValues b i / 4 + j) (p.2.word / 2 ^ 32)) (ikFlags b i / 4 + j) (p.2.word % 2 ^ 32)
        else t) t
  let n := if chans.length < ikInputs b then chans.length else ikInputs b
  { l with
    code := putWords [] 0 (slice b 128 (ikCodeLen b)) (ikCodeLen b / 4)
    data := if rings then (List.range n).foldl fill data else data
    shared := sharedInit b }

/-- Every slot of a logical engine is built again. -/
def Dev.rebuildAll (d : Dev) (l : Nat) : Dev :=
  (List.range 16).foldl (fun d s =>
    let k := 16 * l + s
    let x := d.kslot k
    match x.cur with
    | some i => d.setKslot k { x with cur := some (d.rebuild k i true), old := x.old.map (fun o => d.rebuild k o true) }
    | none => d) d

/-- REHOME_COMPLETE of region `g` (R308): time is brought to it; activations are raised again on the spare. -/
def rehomeComplete (g : Nat) (d : Dev) : Dev :=
  let x := tget ⟨0, 0, 0, 0, []⟩ d.eng.rehomes g
  if x.done = 0 then d else
  let d := d.at_ x.done
  let d := d.setEng { d.eng with rehomes := tput ⟨0, 0, 0, 0, []⟩ d.eng.rehomes g ⟨0, 0, 0, 0, []⟩ }
  let d := d.rebuildAll x.logical
  let d := d.setEngine x.to_ { d.engine x.to_ with state := 0 }
  let live := x.again.filter (fun a => decide (a.epoch > d.tab.closed))
  live.foldl (fun d a =>
    let y := d.engine x.to_
    if y.pending.length ≥ 64 then ((d.dropAct a).inc 0x500007 x.logical).raise 222 x.logical 0 0
    else d.setEngine x.to_ { y with pending := y.pending ++ [a], got := y.got + 1, issued := y.issued + 1 }) d

/-- SELF_TEST_COMPLETE (R306, R309): an engine that passes becomes its region's spare; one that fails is left failed. -/
def selfTestComplete (f : Nat) (pass : Bool) (d : Dev) : Dev :=
  let x := d.engine f
  if x.state ≠ 4 then d else
  let l := d.logicalOf f
  let g := f / 32
  if pass then
    (((d.setEngine f { x with state := 0 }).put 0x500001 l 2).put 0x500102 g f).put 0x500104 g 0
  else
    ((((d.setEngine f { x with state := 5 }).put 0x500001 l 5).put 0x500104 g 2).put 0x50000B l 14).raise 221 l 0 0

/-- A write of 1 to object 0x5000:0C (R309): 0x0502 when the region's spare is not ready. -/
def Dev.forceRehome (d : Dev) (l : Nat) : Nat × Dev :=
  let f := d.hostOf l
  if !d.spareReady (l / 32) || d.get 0x500102 (l / 32) == f || (d.engine f).state != 0 then (0x0502, d) else (0, d.rehome f)

/-- A unit reset of a logical engine (R17, R467): its activations are abandoned, its memories built again. -/
def Dev.engineReset (d : Dev) (l : Nat) : Dev :=
  let f := d.hostOf l
  let x := d.engine f
  if x.state = 4 ∨ x.state = 5 then d else
  let d := d.abandonAct f
  let d := d.add 0x500005 l (d.engine f).pending.length
  let y := d.engine f
  let d := d.setEngine f { engine0 with
    state := y.state, got := y.got, done := y.done, lost := y.lost + y.pending.length, issued := y.issued }
  d.rebuildAll l

/-- A write of 1 to object 0x5100:07 restarts a stopped slot (R305): work area cleared, shared blocks loaded again. -/
def Dev.slotRestart (d : Dev) (k : Nat) : Dev :=
  let x := d.kslot k
  if x.stopped = 0 then d else
  match x.cur with
  | none => d
  | some l =>
    let w := ikWork l.image / 4
    let l := { l with data := tdrop (fun i => decide (w ≤ i)) l.data, shared := sharedInit l.image }
    (d.setKslot k { x with cur := some l, stopped := 0 }).showSlot k

/-- Activations still pending when the epoch of their trigger time closes are discarded (R289). [DEDUCED: log 53] -/
def Dev.expireActs (d : Dev) (n : Nat) : Dev :=
  d.eng.engines.foldl (fun d p => d.dropPending p.1 (fun a => decide (a.epoch ≤ n))) d

/-! ### Applying objects -/

/-- Object 0x5001:01 applied: the reserved engine's host is the spare (R307). -/
def Dev.applySpare (d : Dev) (g : Nat) : Dev :=
  let l := d.get 0x500101 g
  let was := (List.range 32).find? (fun i => d.get 0x500001 (32 * g + i) == 2)
  let d := match was with
    | some i => d.put 0x500001 (32 * g + i) 0
    | none => d
  if l = 0xFF then (d.put 0x500102 g 0xFF).put 0x500104 g 2
  else
    let f := d.hostOf l
    if (d.engine f).state = 0 then ((d.put 0x500102 g f).put 0x500104 g 0).put 0x500001 l 2
    else (d.put 0x500102 g 0xFF).put 0x500104 g 2

/-- A binding applied at `t`: completions from the first grid point at or after it. -/
def Dev.applyBinding (d : Dev) (b t : Nat) : Dev :=
  match chanList (d.getB 0x530003 b) with
  | c :: _ => d.setBind b { bind0 with next := (d.chanRate c).first t, timerAt := t - 1 }
  | [] => d.setBind b { bind0 with timerAt := t - 1 }

/-! ### COMMIT checks (R285, R290, R300, R302, R307) -/

/-- An engine's bindings. -/
def Dev.bindingsOn (d : Dev) (l : Nat) : List Nat := d.bindings.filter (fun b => d.get 0x530001 b / 16 == l)

/-- D_b in ns and the shortest interval between raises in ns as a fraction (R290). -/
def Dev.bindInterval (d : Dev) (b : Nat) : Nat × Nat :=
  let c := (chanList (d.getB 0x530003 b)).headD 0
  let r := d.chanRate c
  let k := d.get 0x530002 b
  if k = 1 then (r.den * 1000000000, r.num)
  else if k = 2 then (d.get 0x530004 b * r.den * 1000000000, r.num)
  else if k = 3 then (d.get 0x600002 0 * 1000000000, d.get 0x600001 0)
  else (d.get 0x530007 b * 1000, 1)

/-- The relative deadline of a binding in ns, the ingest guard for an epoch binding (R290). -/
def Dev.bindDeadline (d : Dev) (b : Nat) : Nat := if d.get 0x530002 b = 3 then d.get 0x614001 0 else d.get 0x530006 b

/-- Is a binding well formed by itself (R285, R302)? -/
def Dev.bindingOk (d : Dev) (b : Nat) : Bool :=
  let k := d.get 0x530001 b
  let img := d.slotImage k
  let chans := chanList (d.getB 0x530003 b)
  let kind := d.get 0x530002 b
  let rates := chans.map d.chanRate
  decide (k < 2048) && !img.isEmpty && decide (1 ≤ kind ∧ kind ≤ 4) && bit (ikTriggers img) kind
    && (d.getB 0x530003 b).length % 4 == 0 && chans.length == ikInputs img
    && chans.all (fun c => d.chanRegion c == k / 512 && decide (ikDepth img ≤ d.get 0x613002 c))
    && (!(kind == 1 || kind == 2) || (rates.all (fun r => r == rates.headD ⟨0, 1⟩)))
    && (kind != 2 || (rates.all (fun r => r.den == 1 && d.get 0x530004 b != 0 && r.num % d.get 0x530004 b == 0)
        && decide (d.get 0x530005 b < d.get 0x530004 b)))
    && (kind != 4 || (let p := d.get 0x530007 b
        (if p < 1000000 then p != 0 && 1000000 % p == 0 else p % 1000000 == 0) && decide (d.get 0x530008 b < 1000 * p)))

/-- Does an engine accept its bindings (R290)? -/
def Dev.engineAdmits (d : Dev) (l : Nat) : Bool :=
  let bs := d.bindingsOn l
  let total := bs.foldl (fun a b => a + ikWcet (d.slotImage (d.get 0x530001 b)) + 40) 0
  decide (bs.length ≤ 64) && bs.all (fun b =>
    let i := d.bindInterval b
    decide (d.bindDeadline b * i.2 ≤ i.1) && decide (total ≤ d.bindDeadline b))

/-- The images that count on an engine at once (R300): the staged or active one of each slot, and the old ones until they
are released. -/
def Dev.imagesOn (d : Dev) (l : Nat) : List (List Byte) :=
  (List.range 16).flatMap (fun s =>
    let k := 16 * l + s
    let new := d.slotImage k
    let x := d.kslot k
    let held := (match x.cur with
      | some i => [i.image]
      | none => []) ++ (match x.old with
      | some i => [i.image]
      | none => [])
    (if new.isEmpty then [] else [new]) ++ held.filter (fun b => b != new))

/-- The shared blocks that a cluster's engines need. -/
def Dev.sharedNeed (d : Dev) (cl : Nat) : Nat :=
  (List.range 8).foldl (fun a i => (d.imagesOn (8 * cl + i)).foldl (fun a b => a + ikShared b) a) 0

/-- Can an engine hold its images? -/
def Dev.imagesFit (d : Dev) (l : Nat) : Bool :=
  let is := d.imagesOn l
  decide (is.foldl (fun a b => a + ikCodeLen b / 4) 0 ≤ 8192) && decide (is.foldl (fun a b => a + ikRegion b) 0 ≤ 65536)
    && decide (d.sharedNeed (l / 8) ≤ 8192)

/-- The largest shared allocation of any engine of a region in another cluster than `cl`. -/
def Dev.largestShared (d : Dev) (g cl : Nat) : Nat :=
  (List.range 32).foldl (fun a i =>
    let l := 32 * g + i
    if l / 8 = cl then a else
    let n := (List.range 16).foldl (fun n s => n + ikShared (d.slotImage (16 * l + s))) 0
    if n > a then n else a) 0

/-- The COMMIT checks of the engine objects; 0 for none. -/
def Dev.checkEngine (d : Dev) (o e : Nat) : Nat :=
  let i := o / 256
  let bad := fun (ok : Bool) => if ok then 0 else 0x0404
  if i = 0x5100 then
    let l := e / 16
    let img := d.get 0x510001 e
    bad ((if img == 0xFF then (d.engine (d.hostOf l)).pending.all (fun a => a.slot != e) else d.get 0x502003 img == 3)
      && d.imagesFit l && d.get 0x500101 (l / 32) != l
      && (d.bindings.filter (fun b => d.get 0x530001 b == e)).all d.bindingOk && d.engineAdmits l)
  else if i = 0x5300 then
    if d.get 0x530001 e = 0xFFFF then 0 else bad (d.bindingOk e && d.engineAdmits (d.get 0x530001 e / 16))
  else if o = 0x500101 then
    let l := d.get 0x500101 e
    if l = 0xFF then 0
    else bad (decide (l / 32 = e) && (List.range 16).all (fun s => d.get 0x510001 (16 * l + s) == 0xFF)
      && (d.bindingsOn l).isEmpty && decide (d.sharedNeed (l / 8) + d.largestShared e (l / 8) ≤ 8192))
  else 0

end Sys2Proof.Machine
end

