-- ==== Sys2Proof/Machine/Float.lean ====
section
/-! DEFINITION. Binary floating point: binary32 arithmetic as the signal engines do it (R274, R282, R283), and the
rounding of an exact number to binary32 or binary64. -/
namespace Sys2Proof.Machine

/-- A floating-point datum: not a number (signalling or not), an infinity, or (−1)^s × m × 2^e. -/
inductive Fl where
  | nan (signalling : Bool)
  | inf (s : Bool)
  | fin (s : Bool) (m : Nat) (e : Int)
deriving DecidableEq, Repr

/-- The one NaN that arithmetic gives (R274). -/
def qNaN : Nat := 0x7FC00000

/-- Sticky flags (R274): invalid, divide by zero, overflow. -/
def flInvalid : Nat := 1
def flDivZero : Nat := 2
def flOverflow : Nat := 4

/-- The datum of a binary32 word; a subnormal reads as zero of the same sign (R274). -/
def unpack (w : Nat) : Fl :=
  let s := bit w 31
  let e := bits w 23 8
  let m := bits w 0 23
  if e = 255 then (if m = 0 then .inf s else .nan (!bit w 22))
  else if e = 0 then .fin s 0 0
  else .fin s (m + 2 ^ 23) ((e : Int) - 150)

/-- A sign as the top bit of a 32-bit word. -/
def signBit (s : Bool) : Nat := if s then 2 ^ 31 else 0

/-- Shift a significand right by `r` bits, to nearest, ties to even. -/
def roundShift (m r : Nat) : Nat :=
  let q := m / 2 ^ r
  let rem := m % 2 ^ r
  if r = 0 then m
  else if 2 * rem > 2 ^ r ∨ (2 * rem = 2 ^ r ∧ q % 2 = 1) then q + 1 else q

/-- Round m × 2^e to `p` bits, the quantum no smaller than 2^qmin: significand and quantum exponent, to nearest, ties to
even. -/
def roundTo (p : Nat) (qmin : Int) (m : Nat) (e : Int) : Nat × Int :=
  if m = 0 then (0, qmin) else
  let q0 : Int := (Nat.log2 m : Int) + 1 + e - p
  let q := if q0 < qmin then qmin else q0
  let r := if e ≥ q then m * 2 ^ (e - q).toNat else roundShift m (q - e).toNat
  if r ≥ 2 ^ p then (r / 2, q + 1) else (r, q)

/-- Round (−1)^s × m × 2^e to a binary32 word and its flags: overflow gives an infinity, a subnormal result is flushed
to zero of the same sign (R274). -/
def pack32 (s : Bool) (m : Nat) (e : Int) : Nat × Nat :=
  let r := roundTo 24 (-149) m e
  if r.1 < 2 ^ 23 then (signBit s, 0)
  else if r.2 > 104 then (signBit s + 0x7F800000, flOverflow)
  else (signBit s + (r.2 + 150).toNat * 2 ^ 23 + (r.1 - 2 ^ 23), 0)

/-- Round (−1)^s × m × 2^e to a binary64 word, with subnormals. -/
def pack64 (s : Bool) (m : Nat) (e : Int) : Nat :=
  let r := roundTo 53 (-1074) m e
  let sg := if s then 2 ^ 63 else 0
  if r.1 < 2 ^ 52 then sg + r.1
  else if r.2 > 971 then sg + 0x7FF0000000000000
  else sg + (r.2 + 1075).toNat * 2 ^ 52 + (r.1 - 2 ^ 52)

/-- The datum of a binary64 word. -/
def unpack64 (w : Nat) : Fl :=
  let s := bit w 63
  let e := bits w 52 11
  let m := bits w 0 52
  if e = 2047 then (if m = 0 then .inf s else .nan (!bit w 51))
  else if e = 0 then .fin s m (-1074)
  else .fin s (m + 2 ^ 52) ((e : Int) - 1075)

/-- A NaN operand's result: invalid where a signalling NaN comes in. -/
def nanOut (a b : Fl) : Nat × Nat :=
  (qNaN, if a = .nan true ∨ b = .nan true then flInvalid else 0)

/-- A signed zero or infinity. -/
def zero32 (s : Bool) : Nat := signBit s
def inf32 (s : Bool) : Nat := signBit s + 0x7F800000

/-- The exact sum of two finite data as a signed integer times a power of two. -/
def exactSum (s1 : Bool) (m1 : Nat) (e1 : Int) (s2 : Bool) (m2 : Nat) (e2 : Int) : Int × Int :=
  let e := if e1 < e2 then e1 else e2
  let a : Int := m1 * 2 ^ (e1 - e).toNat
  let b : Int := m2 * 2 ^ (e2 - e).toNat
  ((if s1 then -a else a) + (if s2 then -b else b), e)

/-- The rounded sum of two finite data: an exact zero is +0 unless both are negative. -/
def sumFin (s1 : Bool) (m1 : Nat) (e1 : Int) (s2 : Bool) (m2 : Nat) (e2 : Int) : Nat × Nat :=
  let x := exactSum s1 m1 e1 s2 m2 e2
  if x.1 = 0 then (zero32 (s1 && s2), 0) else pack32 (decide (x.1 < 0)) x.1.natAbs x.2

/-- FADD. [DEDUCED: log 42] -/
def fAdd (a b : Nat) : Nat × Nat :=
  match unpack a, unpack b with
  | .nan x, y => nanOut (.nan x) y
  | x, .nan y => nanOut x (.nan y)
  | .inf s, .inf t => if s = t then (inf32 s, 0) else (qNaN, flInvalid)
  | .inf s, .fin _ _ _ => (inf32 s, 0)
  | .fin _ _ _, .inf t => (inf32 t, 0)
  | .fin s m e, .fin t n f => sumFin s m e t n f

/-- FSUB: the sum with the second operand's sign changed. -/
def fSub (a b : Nat) : Nat × Nat := fAdd a (b ^^^ 2 ^ 31)

/-- FMUL. -/
def fMul (a b : Nat) : Nat × Nat :=
  match unpack a, unpack b with
  | .nan x, y => nanOut (.nan x) y
  | x, .nan y => nanOut x (.nan y)
  | .inf s, .inf t => (inf32 (s != t), 0)
  | .inf s, .fin t n _ => if n = 0 then (qNaN, flInvalid) else (inf32 (s != t), 0)
  | .fin s m _, .inf t => if m = 0 then (qNaN, flInvalid) else (inf32 (s != t), 0)
  | .fin s m e, .fin t n f => if m * n = 0 then (zero32 (s != t), 0) else pack32 (s != t) (m * n) (e + f)

/-- FMA: a × b + c rounded once. -/
def fMadd (a b c : Nat) : Nat × Nat :=
  let p := fMul a b
  match unpack a, unpack b, unpack c with
  | .fin s m e, .fin t n f, .fin u k g => sumFin (s != t) (m * n) (e + f) u k g
  | .fin _ _ _, .fin _ _ _, .inf u => (inf32 u, 0)
  | x, y, .nan z =>
    if p.1 = qNaN ∧ p.2 = flInvalid then p else (qNaN, (nanOut x (.nan z)).2 ||| (nanOut y (.nan z)).2)
  | _, _, .inf u =>
    if p.1 = qNaN then p else if p.1 = inf32 u then (inf32 u, 0) else (qNaN, flInvalid)
  | _, _, .fin _ _ _ => p

/-- FDIV: the quotient to 64 bits and a sticky bit, rounded once. -/
def fDiv (a b : Nat) : Nat × Nat :=
  match unpack a, unpack b with
  | .nan x, y => nanOut (.nan x) y
  | x, .nan y => nanOut x (.nan y)
  | .inf _, .inf _ => (qNaN, flInvalid)
  | .inf s, .fin t _ _ => (inf32 (s != t), 0)
  | .fin s _ _, .inf t => (zero32 (s != t), 0)
  | .fin s m e, .fin t n f =>
    if n = 0 then (if m = 0 then (qNaN, flInvalid) else (inf32 (s != t), flDivZero))
    else if m = 0 then (zero32 (s != t), 0)
    else
      let q := m * 2 ^ 64 / n
      let sticky := if m * 2 ^ 64 % n = 0 then 0 else 1
      pack32 (s != t) (2 * q + sticky) (e - f - 65)

/-- FSQRT. -/
def fSqrt (a : Nat) : Nat × Nat :=
  match unpack a with
  | .nan x => nanOut (.nan x) (.nan false)
  | .inf s => if s then (qNaN, flInvalid) else (inf32 false, 0)
  | .fin s m e =>
    if m = 0 then (zero32 s, 0)
    else if s then (qNaN, flInvalid)
    else
      let odd := (e % 2).toNat
      let n := m * 2 ^ odd * 2 ^ 60
      let r := isqrt n
      pack32 false (2 * r + (if r * r = n then 0 else 1)) ((e - odd - 60) / 2 - 1)

/-- The number a word stands for after subnormals are read as zero. -/
def flushIn (w : Nat) : Nat :=
  match unpack w with
  | .fin s m _ => if m = 0 then zero32 s else w % 2 ^ 32
  | _ => w % 2 ^ 32

/-- Is a below b, both not NaN? -/
def flLt (a b : Fl) : Bool :=
  match a, b with
  | .nan _, _ => false
  | _, .nan _ => false
  | .inf s, .inf t => s && !t
  | .inf s, .fin _ _ _ => s
  | .fin _ _ _, .inf t => !t
  | .fin s m e, .fin t n f => decide ((exactSum s m e (!t) n f).1 < 0)

/-- Are a and b equal, both not NaN? -/
def flEq (a b : Fl) : Bool :=
  match a, b with
  | .nan _, _ => false
  | _, .nan _ => false
  | .inf s, .inf t => s == t
  | .inf _, .fin _ _ _ => false
  | .fin _ _ _, .inf _ => false
  | .fin s m e, .fin t n f => decide ((exactSum s m e (!t) n f).1 = 0)

/-- Is the datum a NaN? -/
def Fl.isNan : Fl → Bool
  | .nan _ => true
  | _ => false

/-- FMAX and FMIN (R274): the operand that is not NaN when exactly one is; of two zeros +0 is the larger (DEDUCED, log
42). -/
def fMaxMin (max : Bool) (a b : Nat) : Nat × Nat :=
  let x := unpack a
  let y := unpack b
  let fl := (nanOut x y).2
  if x.isNan && y.isNan then (qNaN, fl)
  else if x.isNan then (flushIn b, fl)
  else if y.isNan then (flushIn a, fl)
  else
    let less := flLt x y || (flEq x y && bit a 31 && !bit b 31)
    (if less = max then flushIn b else flushIn a, 0)

/-- FABS. -/
def fAbs (a : Nat) : Nat × Nat :=
  match unpack a with
  | .nan x => nanOut (.nan x) (.nan false)
  | _ => (flushIn a % 2 ^ 31, 0)

/-- FCMP's relation (R283), and its flags: ordered comparisons are invalid on any NaN, the others on a signalling one. -/
def fCmp (fn a b : Nat) : Bool × Nat :=
  let x := unpack a
  let y := unpack b
  let un := x.isNan || y.isNan
  let fl := if (fn = 1 ∨ fn = 2) ∧ un = true then flInvalid else (nanOut x y).2
  let r := if fn = 0 then flEq x y else if fn = 1 then flLt x y else if fn = 2 then flLt x y || flEq x y else un
  (r, fl)

/-- A finite datum as an integer: to nearest, ties to even, or toward zero. -/
def toInteger (nearest : Bool) (s : Bool) (m : Nat) (e : Int) : Int :=
  let n := if e ≥ 0 then m * 2 ^ e.toNat else if nearest then roundShift m (-e).toNat else m / 2 ^ (-e).toNat
  if s then -(n : Int) else n

/-- A binary32 word to a saturated `w`-bit signed integer; NaN gives 0 (R283). -/
def fToInt (w : Nat) (nearest : Bool) (a : Nat) : Int × Nat :=
  let hi : Int := (2 ^ (w - 1) : Nat) - 1
  let lo : Int := - (2 ^ (w - 1) : Nat)
  match unpack a with
  | .nan _ => (0, flInvalid)
  | .inf s => (if s then lo else hi, flInvalid)
  | .fin s m e =>
    let n := toInteger nearest s m (if e > 64 then 64 else e)
    if n > hi then (hi, flInvalid) else if n < lo then (lo, flInvalid) else (n, 0)

/-- A signed integer to binary32. -/
def intToF (x : Int) : Nat × Nat := if x = 0 then (0, 0) else pack32 (decide (x < 0)) x.natAbs 0

/-- An integer times a binary32 scale, exact, then rounded once (R251, R333). -/
def scaleInt (x : Int) (scale : Nat) : Nat × Nat :=
  match unpack scale with
  | .fin s m e => if x = 0 ∨ m = 0 then (zero32 ((decide (x < 0)) != s), 0) else pack32 ((decide (x < 0)) != s) (x.natAbs * m) e
  | .inf s => if x = 0 then (qNaN, flInvalid) else (inf32 ((decide (x < 0)) != s), 0)
  | .nan y => nanOut (.nan y) (.nan false)

/-- The negation of an exponentless fraction n ÷ d, rounded to binary64: (−1)^s × n ÷ d. -/
def ratTo64 (s : Bool) (n d : Nat) : Nat :=
  if d = 0 ∨ n = 0 then (if s then 2 ^ 63 else 0) else
  let k := 128 + Nat.log2 d
  let q := n * 2 ^ k / d
  pack64 s (2 * q + (if n * 2 ^ k % d = 0 then 0 else 1)) (-(k : Int) - 1)

/-- The fraction (−1)^s × n ÷ d rounded to binary32. -/
def ratTo32 (s : Bool) (n d : Nat) : Nat × Nat :=
  if d = 0 ∨ n = 0 then (zero32 s, 0) else
  let k := 64 + Nat.log2 d
  let q := n * 2 ^ k / d
  pack32 s (2 * q + (if n * 2 ^ k % d = 0 then 0 else 1)) (-(k : Int) - 1)

/-- The value of a binary32 word as an exact fraction with a denominator of a power of two; none for NaN and infinities. -/
def f32Rat (w : Nat) : Option (Int × Nat) :=
  match unpack w with
  | .fin s m e =>
    let a : Int := if e ≥ 0 then m * 2 ^ e.toNat else m
    some (if s then -a else a, if e ≥ 0 then 1 else 2 ^ (-e).toNat)
  | _ => none

end Sys2Proof.Machine
end

