-- ==== Sys2Proof/Machine/Trig.lean ====
section
/-! DEFINITION. Sine, cosine, arc tangent and square root to far more than binary32's precision, by whole-number series:
the polar formats of R255 and R335 need them, and the rules state no rounding (DESIGN CHOICE, log 68). -/
namespace Sys2Proof.Machine

/-- π in units of 2^-320. -/
def pi320 : Int :=
  0x3243F6A8885A308D313198A2E03707344A4093822299F31D0082EFA98EC4E6C89452821E638D01377

/-- The unit of the results: 2^-96. -/
def unit96 : Int := 2 ^ 96

/-- x − x³/3! + …, or 1 − x²/2! + …: terms from `term` on, `k` the next factor, `n` terms. [DESIGN CHOICE: log 68] -/
def taylor (x2 : Int) : Nat → Int → Nat → Int
  | 0, _, _ => 0
  | n + 1, term, k => term + taylor x2 n (-(term * x2 / (unit96 * unit96)) / ((k * (k + 1) : Nat) : Int)) (k + 2)

/-- Sine and cosine of n ÷ d radians in units of 2^-96. -/
def sinCos (n : Int) (d : Nat) : Int × Int :=
  let two := 2 * pi320
  let a := (n * 2 ^ 320 / (d : Int)) % two
  let a := if a > pi320 then a - two else a
  let x := a / 2 ^ 224
  (taylor (x * x) 48 x 2, taylor (x * x) 48 unit96 1)

/-- Euler's series for the arc tangent of t ÷ 2^96, t up to 1: terms from `term` on. -/
def atanSeries (num den : Int) : Nat → Int → Nat → Int
  | 0, _, _ => 0
  | n + 1, term, k => term + atanSeries num den n (term * (2 * k : Nat) * num / (((2 * k + 1 : Nat) : Int) * den)) (k + 1)

/-- The arc tangent of y ÷ x in units of 2^-96, for 0 ≤ y ≤ x, x > 0. -/
def atanFix (y x : Nat) : Int :=
  let num : Int := y * y
  let den : Int := x * x + y * y
  if den = 0 then 0 else atanSeries num den 120 ((y * x : Nat) * unit96 / den) 1

/-- π in units of 2^-96. -/
def pi96 : Int := pi320 / 2 ^ 224

/-- The angle of (x, y) in units of 2^-96, from −π to π. -/
def atan2Fix (y x : Int) : Int :=
  let ay := y.natAbs
  let ax := x.natAbs
  let a := if ay ≤ ax then atanFix ay ax else pi96 / 2 - atanFix ax ay
  let a := if x < 0 then pi96 - a else a
  if y < 0 then -a else a

/-- An exact number of units of 2^-96 as binary32. -/
def fix32 (x : Int) : Nat := (pack32 (decide (x < 0)) x.natAbs (-96)).1

end Sys2Proof.Machine
end

