-- ==== Sys2Proof/Machine/Estimators.lean ====
section
/-! DEFINITION. Garoster's estimator kernels (R312 to R331, R383): the figures of their images, and what an activation of each posts.
The spec prints no code for them: an engine runs them from the words of the image that the host loads, as any other (log 41).
What stands here is the promise that the spec makes for such an image, for claims that take an image to be one of them; a
kernel's own roundings are not stated, so a result is compared with the exact number within a bound (log 173). -/
namespace Sys2Proof.Machine
open Sys2Proof

/-! ### Images (R312, R313) -/

/-- The figures of an image: KERNEL_ID, the trigger, the header's sizes, TABLE and data region in bytes, and the relative
deadline in ns that its latency figures assume. -/
structure KernelFig where
  id : Nat
  trigger : Nat
  inputs : Nat
  window : Nat
  depth : Nat
  wcet : Nat
  updates : Nat
  table : Nat
  region : Nat
  deadline : Nat
deriving DecidableEq, Repr

/-- The tables of R312 and R313. -/
def kernelFigs : List KernelFig :=
  [⟨0x101, 2, 6, 80, 256, 370, 24, 640, 14912, 520⟩, ⟨0x102, 2, 6, 96, 256, 430, 24, 768, 14912, 520⟩,
   ⟨0x103, 2, 6, 80, 256, 370, 24, 640, 14912, 520⟩, ⟨0x104, 2, 6, 96, 256, 430, 24, 768, 14912, 520⟩,
   ⟨0x111, 2, 3, 320, 1024, 400, 12, 2560, 27200, 520⟩, ⟨0x112, 2, 3, 384, 1024, 460, 12, 3072, 27200, 520⟩,
   ⟨0x113, 2, 3, 320, 1024, 400, 12, 2560, 27200, 520⟩, ⟨0x114, 2, 3, 384, 1024, 460, 12, 3072, 27200, 520⟩,
   ⟨0x121, 1, 2, 8, 16, 120, 2, 0, 576, 5000⟩, ⟨0x131, 1, 6, 1, 16, 90, 5, 0, 1024, 2000⟩,
   ⟨0x141, 2, 1, 576, 4096, 8400, 52, 2304, 34368, 40000⟩, ⟨0x142, 2, 1, 576, 4096, 8400, 52, 3968, 34368, 40000⟩,
   ⟨0x151, 1, 1, 32, 64, 820, 24, 0, 13184, 5000⟩]

/-- The figures that an image stands under: signed by Garoster's key, in element 0, with a KERNEL_ID of the table and
major version 1. -/
def estimator (b : List Byte) : Option KernelFig :=
  if ikVersion b / 2 ^ 24 = 1 ∧ byteAt b (ikSigOff b) = 0 then kernelFigs.find? (fun k => k.id == ikKernel b) else none

/-- The nominal frequency and input rate of a variant whose table row fixes them. -/
def KernelFig.nominal (k : KernelFig) : Nat × Nat :=
  match k.id % 16, decide (k.id < 0x120) with
  | 1, true => (50, 4000)
  | 2, true => (50, 4800)
  | 3, true => (60, 4800)
  | 4, true => (60, 5760)
  | 1, false => (50, 14400)
  | _, _ => (60, 14400)

def KernelFig.isPhasor (k : KernelFig) : Bool := decide (k.id < 0x120)
def KernelFig.isHarmonic (k : KernelFig) : Bool := k.id == 0x141 || k.id == 0x142

/-- The longest window of an image, W of R257: the header's, and the analysis window of 2,880 samples of the harmonic kernel
(R326). -/
def imageWindow (b : List Byte) : Nat :=
  match estimator b with
  | some k => if k.isHarmonic then 2880 else ikWindow b
  | none => ikWindow b

/-- Does a completion point lie at the hop phase that R313 requires: hop = input rate ÷ Fs and phase (WINDOW ÷ 2 − 1) mod hop,
for harmonics hop 576 and phase 575? -/
def KernelFig.atPhase (k : KernelFig) (hop point : Nat) : Bool :=
  if k.isPhasor then hop != 0 && point % hop == (k.window / 2 - 1) % hop
  else if k.isHarmonic then point % 576 == 575
  else true

/-! ### Inputs, parameters, quality (R277, R298, R316) -/

/-- An input's entry for a grid point as its rings hold it: the value word and the flags word (R277). -/
def Loaded.entry (l : Loaded) (k g : Nat) : Nat × Nat :=
  let j := g % ikDepth l.image
  (tget 0 l.data (ikValues l.image k / 4 + j), tget 0 l.data (ikFlags l.image k / 4 + j))

/-- The bytes of parameter `i`, counted from 1, that govern a trigger time (R301). -/
def Loaded.param (l : Loaded) (t i : Nat) : List Byte :=
  match ikParam l.image (i - 1) with
  | some p => slice (getWords l.data (l.bankAt t) (ikParamLen l.image / 4)) p.off p.size
  | none => []

/-- The quality word of an output from the entries it used (R316): `big` a result beyond the binary32 range, `out` a frequency
outside f0 ± 10 Hz, `part` a harmonic aggregate of fewer than five blocks. -/
def estQuality (es : List (Nat × Nat)) (big out part : Bool) : Nat :=
  let q := es.map (fun e => bits e.2 18 14)
  let all := q.foldl (fun a x => a ||| x) 0
  let bad := es.any (fun e => !bit e.2 0 || bits e.2 18 2 == 1)
  let doubt := q.any (fun x => x % 4 == 3)
  let validity := if bad || big then 1 else if doubt || out || part then 3 else 0
  validity ||| (if doubt && !bad then all &&& 0x3FC else 0) ||| (b2n big * 4) ||| (b2n out * 8) ||| (b2n part * 512)
    ||| (all &&& 0x1800) ||| 0x2000 ||| (b2n (es.any (fun e => bit e.2 1)) * 16384)

/-- An exact number: a fraction. -/
abbrev Frac := Int × Nat

/-- A binary32 word as a whole number of 2^-149; 0 for NaN and infinities. -/
def units149 (w : Nat) : Int :=
  match f32Rat w with
  | some (n, d) => n * 2 ^ 149 / d
  | none => 0

/-! ### Outputs (R314, R315) -/

/-- The value of an output: a phasor with its auxiliary number, a real number with its auxiliary word, or one that is invalid;
an auxiliary field that no rule gives is none. `scale` is the magnitude that a bound on the error is relative to. -/
inductive EstVal where
  | phasor (re im : Frac) (aux : Option Frac)
  | real (x scale : Frac) (aux : Option Nat)
  | badPhasor
  | badReal (aux : Option Nat)
deriving DecidableEq, Repr

/-- Output `k` of an activation, or derived entry `k`: its value, quality and measurement time. -/
structure EstOut where
  k : Nat
  val : EstVal
  quality : Nat
  time : Nat
deriving DecidableEq, Repr

/-- The signal of output `k` (R314): none, with kernel event 0x0002 and detail k, past 2^25 − 1. -/
def outSignal (base k : Nat) : Option Nat := if base + k < 2 ^ 25 then some (base + k) else none

/-- Is a number within 1 part in `tol` of a magnitude of another? -/
def Frac.near (tol : Nat) (x scale y : Frac) : Bool :=
  decide ((x.1 * y.2 - y.1 * x.2).natAbs * tol * scale.2 ≤ scale.1.natAbs * (x.2 * y.2))

/-- Does a VALUE field of 12 bytes hold an output's value within a bound (R315)? -/
def EstVal.holds (tol : Nat) (v : EstVal) (b : List Byte) : Bool :=
  let f32 := fun (o : Nat) (x scale : Frac) => match f32Rat (leAt b o 4) with
    | some y => x.near tol scale y
    | none => false
  match v with
  | .phasor re im aux =>
    let m : Frac := (isqrt ((re.1 * im.2) ^ 2 + (im.1 * re.2) ^ 2).natAbs + 1, re.2 * im.2)
    f32 0 re m && f32 4 im m && (match aux with
      | some a => f32 8 a a
      | none => true)
  | .real x scale aux =>
    (match unpack64 (leAt b 0 8) with
     | .fin s m e => x.near tol scale ((if s then -1 else 1) * (m * 2 ^ e.toNat : Nat), 2 ^ (-e).toNat)
     | _ => false) && (match aux with
      | some a => leAt b 8 4 == a
      | none => true)
  | .badPhasor => leAt b 0 4 == qNaN && leAt b 4 4 == qNaN && leAt b 8 4 == qNaN
  | .badReal aux => leAt b 0 8 == 0x7FF8000000000000 && (match aux with
      | some a => leAt b 8 4 == a
      | none => true)

/-- Is a posted record an output within a bound: its signal, quality, time and value (R292, R314, R315)? -/
def EstOut.holds (tol base : Nat) (o : EstOut) (b : List Byte) : Bool :=
  leAt b 0 4 == base + o.k && leAt b 4 4 == o.quality && leAt b 8 8 == ts64Of o.time && leAt b 28 2 == o.time % 65536
    && o.val.holds tol (slice b 16 12)

/-- An output of a value and the entries it used: invalid where an entry is (R316). -/
def estOut (k time : Nat) (es : List (Nat × Nat)) (v : EstVal) (out part : Bool) : EstOut :=
  let tooBig : Frac → Bool := fun x => decide (x.1.natAbs ≥ x.2 * 2 ^ 128)
  let past := match v with
    | .phasor re im _ => tooBig re || tooBig im
    | _ => false
  let q := estQuality es past out part
  ⟨k, if q % 4 = 1 then (match v with
    | .phasor _ _ _ | .badPhasor => .badPhasor
    | .real _ _ aux | .badReal aux => .badReal aux) else v, q, time⟩

/-! ### Frequency and ROCOF (R323) -/

/-- theta(i) := atan2(im, re), in units of 2^-96 rad. -/
def entryAngle (re im : Nat) : Int := atan2Fix (units149 im) (units149 re)

/-- An angle wrapped to (−π, π]. -/
def wrapAngle (x : Int) : Int := if x > pi96 then x - 2 * pi96 else if x ≤ -pi96 then x + 2 * pi96 else x

/-- f(i) times 2π, in units of 2^-96 Hz: f0 and the angle's advance over one grid point of rate `fs`. -/
def freqAt (f0 fs : Nat) (th thBefore : Int) : Int := 2 * pi96 * f0 + wrapAngle (th - thBefore) * fs

/-- Outputs 0 and 1 of the frequency kernel at grid point `g` of rate `fs`, with SMOOTH `s`. -/
def freqOuts (l : Loaded) (f0 fs s g time : Nat) : List EstOut :=
  let es := (List.range (s + 2)).flatMap (fun i => [l.entry 0 (g - i), l.entry 1 (g - i)])
  let th := fun i => entryAngle (l.entry 0 (g - i)).1 (l.entry 1 (g - i)).1
  let f := fun i => freqAt f0 fs (th i) (th (i + 1))
  let two := (2 * pi96).toNat
  let out := decide ((f 0 - 2 * pi96 * f0).natAbs > 10 * two)
  [estOut 0 time es (.real (f 0, two) (f0, 1) (some (s + 2))) out false,
   estOut 1 time es (.real ((f 0 - f s) * fs, s * two) (f0 * fs, 1) (some (s + 2))) out false]

/-! ### Sequence components (R320, R325) -/

/-- √3 and √2 in units of 2^-96. -/
def root3 : Int := isqrt (3 * 2 ^ 192)
def root2 : Int := isqrt (2 * 2 ^ 192)

/-- a times a phasor, and a² times it, with a = e^(j2π/3), in units of 2^-97. -/
def timesA (x : Int × Int) : Int × Int := (-(x.1 * 2 ^ 96) - root3 * x.2, root3 * x.1 - x.2 * 2 ^ 96)
def timesA2 (x : Int × Int) : Int × Int := (root3 * x.2 - x.1 * 2 ^ 96, -(root3 * x.1) - x.2 * 2 ^ 96)

/-- Three times the zero, positive (1) or negative (2) sequence of three phasors, in units of 2^-97 of theirs. -/
def sequence (n : Nat) (a b c : Int × Int) : Int × Int :=
  let one := fun (x : Int × Int) => (x.1 * 2 ^ 97, x.2 * 2 ^ 97)
  let y := if n = 0 then one b else if n = 1 then timesA b else timesA2 b
  let z := if n = 0 then one c else if n = 1 then timesA2 c else timesA c
  ((one a).1 + y.1 + z.1, (one a).2 + y.2 + z.2)

/-- The magnitude of a whole-number phasor. -/
def absOf (x : Int × Int) : Nat := isqrt (x.1 * x.1 + x.2 * x.2).natAbs

/-- A phasor output of numerators over a denominator, its magnitude as the auxiliary number. -/
def phasorVal (x : Int × Int) (d : Nat) : EstVal := .phasor (x.1, d) (x.2, d) (some ((absOf x : Int), d))

/-- The three phasors of the symmetrical-components kernel at a grid point, in units of 2^-149; for ACB (2), B and C change
places. -/
def seqInputs (l : Loaded) (order g : Nat) : (Int × Int) × (Int × Int) × (Int × Int) :=
  let p := fun k => (units149 (l.entry (2 * k) g).1, units149 (l.entry (2 * k + 1) g).1)
  if order = 2 then (p 0, p 2, p 1) else (p 0, p 1, p 2)

/-- Outputs 0 to 4 of the symmetrical-components kernel (R325). -/
def seqOuts (l : Loaded) (order g time : Nat) : List EstOut :=
  let es := (List.range 6).map (fun k => l.entry k g)
  let x := seqInputs l order g
  let s := fun n => sequence n x.1 x.2.1 x.2.2
  let d := 3 * 2 ^ 246
  let was := seqInputs l order (g - 1)
  let small := decide (absOf (s 1) * 1000000 < absOf (sequence 1 was.1 was.2.1 was.2.2))
  let ratio := fun (n : Nat) => if small || absOf (s 1) == 0 then EstVal.badReal (some 0)
    else .real ((absOf (s n) : Int), absOf (s 1)) ((absOf (s n) : Int), absOf (s 1)) (some 0)
  [estOut 0 time es (phasorVal (s 0) d) false false, estOut 1 time es (phasorVal (s 1) d) false false,
   estOut 2 time es (phasorVal (s 2) d) false false, estOut 3 time es (ratio 2) false false,
   estOut 4 time es (ratio 0) false false]

/-! ### Synchrophasors (R314, R318, R320) -/

/-- The measurement grid point of an activation that completes at `g`: c, with g = c + WINDOW ÷ 2 − 1. -/
def KernelFig.centre (k : KernelFig) (g : Nat) : Nat := g + 1 - k.window / 2

/-- The entries that a P-class or M-class activation used: the WINDOW grid points from c − WINDOW ÷ 2, each input. -/
def KernelFig.used (k : KernelFig) (l : Loaded) (input g : Nat) : List (Nat × Nat) :=
  (List.range k.window).map (fun i => l.entry input (k.centre g - k.window / 2 + i))

/-- The output that carries the positive sequence of inputs 0 to 2, and that of inputs 3 to 5. -/
def KernelFig.positive (k : KernelFig) : List Nat := if k.inputs = 6 then [6, 7] else [3]

/-- What an activation posts, given the phasors of its inputs (numerators of 2^-149, as R317 defines them): the phasors, the
positive sequences; for ACB, B and C change places. -/
def KernelFig.phasorOuts (k : KernelFig) (l : Loaded) (order g time : Nat) (x : List (Int × Int)) : List EstOut :=
  let at_ := fun i => x.getD i (0, 0)
  let es := fun i => k.used l i g
  let sets := (List.range (k.inputs / 3)).map (fun n =>
    let b := if order = 2 then 3 * n + 2 else 3 * n + 1
    let c := if order = 2 then 3 * n + 1 else 3 * n + 2
    estOut (k.inputs + n) time (es (3 * n) ++ es (3 * n + 1) ++ es (3 * n + 2))
      (phasorVal (sequence 1 (at_ (3 * n)) (at_ b) (at_ c)) (3 * 2 ^ 246)) false false)
  (List.range k.inputs).map (fun i => estOut i time (es i) (phasorVal (at_ i) (2 ^ 149)) false false) ++ sets

/-- The derived entries of the same activation, in order: real and imaginary parts of the positive sequences, then of the
phasors; `o` are its outputs. -/
def KernelFig.derived (k : KernelFig) (o : List EstOut) : List Frac :=
  (o.drop k.inputs ++ o.take k.inputs).flatMap (fun x => match x.val with
    | .phasor re im _ => [re, im]
    | _ => [])

/-! ### Harmonics (R326 to R328) -/

/-- cos and −sin of 2π m ÷ n in units of 2^-96. -/
def turn (m n : Nat) : Int × Int :=
  let r := sinCos (2 * pi320 * (m % n : Nat)) (2 ^ 320 * n)
  (r.2, -r.1)

/-- The sum over the blocks `bs` (0 to 4) of the interval that starts at grid index `i0` of its second: x(n) e^(−j2π h f0 n ÷
14,400), numerators of 2^-245. -/
def blockSum (l : Loaded) (f0 h g0 i0 : Nat) (bs : List Nat) : Int × Int :=
  bs.foldl (fun a b => (List.range 576).foldl (fun (a : Int × Int) n =>
    let x := units149 (l.entry 0 (g0 + 576 * b + n)).1
    let t := turn (h * f0 * (i0 + 576 * b + n)) 14400
    (a.1 + x * t.1, a.2 + x * t.2)) a) (0, 0)

/-- The outputs of the aggregate of an interval from the blocks that ran, scaled to the full window: harmonics 1 to HMAX with
their share of the fundamental in percent, THD and DC; `mc` is the magnitude correction. -/
def harmonicOuts (l : Loaded) (f0 hmax g0 i0 time : Nat) (mc : Frac) (bs : List Nat) : List EstOut :=
  let es := bs.flatMap (fun b => (List.range 576).map (fun n => l.entry 0 (g0 + 576 * b + n)))
  let n := 576 * bs.length
  let part := decide (bs.length < 5)
  let x := fun h => blockSum l f0 h g0 i0 bs
  let d := n * mc.2 * 2 ^ 341
  let one := absOf (x 1)
  let share := fun (h : Nat) => if one = 0 then none else some ((100 * absOf (x h) : Int), one)
  let thd := isqrt ((List.range (hmax - 1)).foldl (fun a i => a + absOf (x (i + 2)) ^ 2) 0)
  let dc := (blockSum l f0 0 g0 i0 bs).1 * mc.1
  (List.range hmax).map (fun i =>
      estOut i time es (.phasor ((x (i + 1)).1 * mc.1 * root2, d) ((x (i + 1)).2 * mc.1 * root2, d) (share (i + 1))) false part)
    ++ [estOut 50 time es (if one = 0 then .badReal (some bs.length)
          else .real ((100 * thd : Int), one) ((100 * thd : Int), one) (some bs.length)) false part,
        estOut 51 time es (.real (dc, n * mc.2 * 2 ^ 245) (dc, n * mc.2 * 2 ^ 245) (some bs.length)) false part]

/-! ### Resampling (R329) -/

/-- May the parameters be used: ceil(L ÷ M) at most 24 and L × TAPS at most 1,536? Else nothing is posted and kernel event
0x0004 is raised. -/
def resampleOk (l m taps : Nat) : Bool := m != 0 && decide ((l + m - 1) / m ≤ 24 ∧ l * taps ≤ 1536)

/-- The output points that the activation for input grid point `i` posts: the whole numbers k with time k × M ÷ (L × R_in) in
((i − 1) ÷ R_in − H, i ÷ R_in − H], H = TAPS ÷ (2 × R_in). -/
def resamplePoints (l m taps i : Nat) : List Nat :=
  let upTo := ((2 * i : Int) - taps) * l
  let below := ((2 * i : Int) - 2 - taps) * l
  let first := below / (2 * m : Nat) + 1
  let last := upTo / (2 * m : Nat)
  (List.range (last + 1 - first).toNat).filterMap (fun n => if first + n < 0 then none else some (first + n).toNat)

/-- An entry that the resampling kernel posts (R259, R330): INTERPOLATED, and the union of the quality and UNSYNC flags of the
entries it used; the device sets PRESENT. -/
def resampleEntry (value : Nat) (es : List (Nat × Nat)) : Nat :=
  let all := es.foldl (fun a e => a ||| e.2) 0
  value * 2 ^ 32 + bits all 18 14 * 2 ^ 18 + 8 + b2n (bit all 1) * 2

/-- Garoster's kernel events (R331): completion point not at the hop phase, output ID past 2^25 − 1, partial aggregate posted,
L, M or TAPS out of their rule. -/
def evHopPhase : Nat := 1
def evNoSignal : Nat := 2
def evPartial : Nat := 3
def evResample : Nat := 4

/-! ### The front kernel (R383, R384) -/

/-- Is an image the front kernel: KERNEL_ID 0x161, with its header's figures? -/
def isFront (b : List Byte) : Bool :=
  ikKernel b == 0x161 && byteAt b (ikSigOff b) == 0 && ikInputs b == 0 && ikWcet b == 3000 && ikMaxUpd b == 8
    && ikShared b == 1025 && ikParamLen b == 32 && ikWorkLen b == 2048

/-- d(k) := x(k) − x(k − 2), of present samples. -/
def slope (x : List (Option Int)) (k : Nat) : Option Int :=
  match x.getD k none, x.getD (k - 2) none with
  | some a, some b => if k < 2 then none else some (a - b)
  | _, _ => none

/-- The sample index m at which |d(k)| is greatest, k from 2 to 63. -/
def steepest (x : List (Option Int)) : Nat :=
  ((List.range 62).foldl (fun (a : Nat × Nat) i => match slope x (i + 2) with
    | some v => if v.natAbs > a.2 then (i + 2, v.natAbs) else a
    | none => a) (0, 0)).1

/-- The vertex of the parabola through |d(m − 1)|, |d(m)| and |d(m + 1)|, as an offset from m. -/
def vertex (x : List (Option Int)) (m : Nat) : Frac :=
  let v := fun k => (((slope x k).getD 0).natAbs : Int)
  let bend := 2 * (2 * v m - v (m - 1) - v (m + 1))
  if bend ≤ 0 then (0, 1) else (v (m + 1) - v (m - 1), bend.toNat)

/-- The mean of the present samples of a span of eight. -/
def mean8 (x : List (Option Int)) (from_ : Nat) : Frac :=
  let l := ((x.drop from_).take 8).filterMap id
  (l.foldl (· + ·) 0, if l.isEmpty then 1 else l.length)

/-- What the front kernel computes of a snippet: t_arrival as an offset in sample periods from sample 0, the step of the means
(the amplitude before the channel's scale), and the confidence, 0 where a sample of m − 2 to m + 1 is missing or m is at the
edge. -/
def frontOf (x : List (Option Int)) : Frac × Frac × Nat :=
  let m := steepest x
  let delta := vertex x m
  let a := mean8 x 56
  let b := mean8 x 0
  let step : Frac := (a.1 * b.2 - b.1 * a.2, a.2 * b.2)
  let ds := (List.range 22).filterMap (fun i => slope x (i + 2))
  let sq := ds.foldl (fun s v => s + v * v) 0
  let noise := isqrt (sq.natAbs * 2 ^ 64 / (if ds.isEmpty then 1 else ds.length))
  let whole := m > 2 && m < 63 && [m - 2, m - 1, m, m + 1].all (fun k => (x.getD k none).isSome)
  let loss := 8 * noise * step.2
  let full := step.1.natAbs * 2 ^ 32
  (((m - 1 : Int) * delta.2 + delta.1, delta.2), step,
    if !whole || full = 0 || loss ≥ full then 0 else 65535 * (full - loss) / full)

/-! ### Together -/

/-- The outputs that the spec fixes for the activation that engine `f` runs, where the image is one of the kernels that compute
from their inputs alone: frequency and symmetrical components. [DESIGN CHOICE: log 173] -/
def Dev.estimates (d : Dev) (f : Nat) : Option (Nat × List EstOut) :=
  let x := d.engine f
  match x.act with
  | none => none
  | some a =>
    match (if x.useOld then (d.kslot a.slot).old else (d.kslot a.slot).cur) with
    | none => none
    | some l =>
      let base := leNat (l.param a.time 1)
      let fs := (d.chanRate ((d.bindChans a.binding a.time).headD 0)).num
      match (estimator l.image).map KernelFig.id with
      | some 0x121 => some (base, freqOuts l (leNat (l.param a.time 2)) fs (leNat (l.param a.time 3)) (d.actGrid a) a.time)
      | some 0x131 => some (base, seqOuts l (leNat (l.param a.time 2)) (d.actGrid a) a.time)
      | _ => none

/-- The engine keeps the promise, within 1 part in `tol`: its update buffer holds the outputs that the spec fixes, those whose
signal exists (R314). -/
def Dev.keepsEstimates (d : Dev) (f tol : Nat) : Bool :=
  match d.estimates f with
  | none => true
  | some (base, os) =>
    let os := os.filter (fun o => (outSignal base o.k).isSome)
    os.length == (d.engine f).upd.length && (os.zip (d.engine f).upd).all (fun p => p.1.holds tol base p.2)

end Sys2Proof.Machine
end

