-- ==== Sys2Proof/Machine/Synchro.lean ====
section
/-! DEFINITION. IEEE C37.118.2 frames (R253 to R255): configuration, data values and their conversion. The layouts are those
of IEEE C37.118.2-2011 (PRESUMED, log 62). -/
namespace Sys2Proof.Machine

/-- One PMU block of a CFG-2 frame: FORMAT, phasors, analog values, digital words, PHUNIT and ANUNIT by position, FNOM. -/
structure Pmu where
  format : Nat
  ph : Nat
  an : Nat
  dg : Nat
  phUnits : List Nat
  anUnits : List Nat
  fnom : Nat
deriving DecidableEq, Repr

/-- Bytes of a phasor, of FREQ or DFREQ, and of an analog value. -/
def Pmu.phSize (p : Pmu) : Nat := if bit p.format 1 then 8 else 4
def Pmu.freqSize (p : Pmu) : Nat := if bit p.format 3 then 4 else 2
def Pmu.anSize (p : Pmu) : Nat := if bit p.format 2 then 4 else 2

/-- Bytes of a block in a data frame: STAT, phasors, FREQ, DFREQ, analog values, digital words. -/
def Pmu.size (p : Pmu) : Nat := 2 + p.ph * p.phSize + 2 * p.freqSize + p.an * p.anSize + 2 * p.dg

/-- Values of a block (R255). -/
def Pmu.values (p : Pmu) : Nat := p.ph + 2 + p.an + p.dg

/-- Read `n` PMU blocks of a CFG-2 frame from an offset; none where the frame ends before. -/
def cfgBlocks (b : List Byte) : Nat → Nat → Option (List Pmu × Nat)
  | 0, o => some ([], o)
  | n + 1, o =>
    let ph := beAt b (o + 20) 2
    let an := beAt b (o + 22) 2
    let dg := beAt b (o + 24) 2
    let u := o + 26 + 16 * (ph + an + 16 * dg)
    let e := u + 4 * (ph + an + dg) + 4
    if e > b.length then none else
    let p : Pmu := ⟨beAt b (o + 18) 2, ph, an, dg, (List.range ph).map (fun i => beAt b (u + 4 * i) 4),
      (List.range an).map (fun i => beAt b (u + 4 * ph + 4 * i) 4), beAt b (e - 4) 2⟩
    (cfgBlocks b n e).map (fun r => (p :: r.1, r.2))

/-- The blocks of a CFG-2 frame whose CHK is good and whose layout fills it. [PRESUMED: log 62] -/
def cfgParse (b : List Byte) : Option (List Pmu) :=
  if b.length < 24 ∨ ccitt (b.take (b.length - 2)) ≠ beAt b (b.length - 2) 2 then none else
  match cfgBlocks b (beAt b 18 2) 20 with
  | some (ps, o) => if o + 4 = b.length then some ps else none
  | none => none

/-- TIME_BASE of a CFG-2 frame. -/
def cfgTimeBase (b : List Byte) : Nat := beAt b 14 4 % 2 ^ 24

/-- The data frame that a configuration implies, in bytes. -/
def cfgFrameSize (ps : List Pmu) : Nat := 14 + ps.foldl (fun a p => a + p.size) 0 + 2

/-- The values of a data frame. -/
def cfgValues (ps : List Pmu) : Nat := ps.foldl (fun a p => a + p.values) 0

/-- The window channels that a data frame's values take: a phasor two (R255). -/
def cfgChannels (ps : List Pmu) : Nat := ps.foldl (fun a p => a + 2 * p.ph + 2 + p.an + p.dg) 0

/-- A converted value: a phasor's two words, a number as binary64 and binary32, or a digital word. -/
inductive SynVal where
  | phasor (re im : Nat)
  | real (f64 f32 : Nat)
  | word (w : Nat)
deriving DecidableEq, Repr

/-- A fraction as a converted value. -/
def realOf (n : Int) (d : Nat) : SynVal := .real (ratTo64 (decide (n < 0)) n.natAbs d) (ratTo32 (decide (n < 0)) n.natAbs d).1

/-- A binary32 word as a converted value, NaN and infinities kept in their kind. -/
def realOf32 (w : Nat) : SynVal :=
  match unpack w with
  | .fin s m e => .real (pack64 s m e) (flushIn w)
  | .inf s => .real ((if s then 2 ^ 63 else 0) + 0x7FF0000000000000) w
  | .nan _ => .real 0x7FF8000000000000 qNaN

/-- A phasor from an exact magnitude m ÷ k and angle a ÷ b, rectangular. -/
def polarOf (m k : Nat) (a : Int) (b : Nat) : SynVal :=
  let sc := sinCos a b
  let f := fun (x : Int) => (ratTo32 (decide (x < 0)) (x.natAbs * m) (k * 2 ^ 96)).1
  .phasor (f sc.2) (f sc.1)

/-- A phasor of a block (R255): through PHUNIT for integer formats, from magnitude and angle for polar ones. -/
def phasorOf (p : Pmu) (unit : Nat) (b : List Byte) : SynVal :=
  let polar := bit p.format 0
  let k := unit % 2 ^ 24
  if bit p.format 1 then
    let x := beAt b 0 4
    let y := beAt b 4 4
    if polar then
      (match f32Rat x, f32Rat y with
       | some (m, d), some (a, e) =>
         if m < 0 then polarOf m.natAbs d (a + 0) e |> (fun v => match v with
           | .phasor r i => .phasor (r ^^^ 2 ^ 31) (i ^^^ 2 ^ 31)
           | v => v)
         else polarOf m.natAbs d a e
       | _, _ => .phasor qNaN qNaN)
    else .phasor (flushIn x) (flushIn y)
  else if polar then polarOf (beAt b 0 2 * k) 100000 (toInt 16 (beAt b 2 2)) 10000
  else
    let f := fun (x : Int) => (ratTo32 (decide (x < 0)) (x.natAbs * k) 100000).1
    .phasor (f (toInt 16 (beAt b 0 2))) (f (toInt 16 (beAt b 2 2)))

/-- FREQ in Hz: through FNOM for the integer deviation in mHz (R255). -/
def freqOf (p : Pmu) (b : List Byte) : SynVal :=
  if bit p.format 3 then realOf32 (beAt b 0 4)
  else realOf ((if bit p.fnom 0 then 50000 else 60000) + toInt 16 (beAt b 0 2)) 1000

/-- DFREQ in Hz/s: an integer is divided by 100. -/
def dfreqOf (p : Pmu) (b : List Byte) : SynVal :=
  if bit p.format 3 then realOf32 (beAt b 0 4) else realOf (toInt 16 (beAt b 0 2)) 100

/-- An analog value: an integer is scaled by ANUNIT's signed factor. -/
def analogOf (p : Pmu) (unit : Nat) (b : List Byte) : SynVal :=
  if bit p.format 2 then realOf32 (beAt b 0 4) else realOf (toInt 16 (beAt b 0 2) * toInt 24 unit) 1

/-- A block's values in configuration order. -/
def blockValues (p : Pmu) (b : List Byte) : List SynVal :=
  let o := 2 + p.ph * p.phSize
  let a := o + 2 * p.freqSize
  let g := a + p.an * p.anSize
  (List.range p.ph).map (fun i => phasorOf p (p.phUnits.getD i 0) (slice b (2 + i * p.phSize) p.phSize))
    ++ [freqOf p (slice b o p.freqSize), dfreqOf p (slice b (o + p.freqSize) p.freqSize)]
    ++ (List.range p.an).map (fun i => analogOf p (p.anUnits.getD i 0) (slice b (a + i * p.anSize) p.anSize))
    ++ (List.range p.dg).map (fun i => .word (beAt b (g + 2 * i) 2))

/-- Every value of a data frame from an offset, with its block's STAT. -/
def dataValues (b : List Byte) : List Pmu → Nat → List (SynVal × Nat)
  | [], _ => []
  | p :: l, o => (blockValues p (slice b o p.size)).map (fun v => (v, beAt b o 2)) ++ dataValues b l (o + p.size)

/-- The quality word of a value (R254): validity invalid for STAT bits 15:14, UNSYNC for bit 13. [PRESUMED: log 126] -/
def statQuality (stat : Nat) : Nat := (if stat / 16384 = 0 then 0 else 1) + (if bit stat 13 then 16384 else 0)

/-- The signal update record of a value (R292); what the rules leave open in it (the auxiliary field, and the F64 field of a
digital word) comes from a free value. [DEDUCED: log 63] -/
def SynVal.record (v : SynVal) (sig quality t free : Nat) : List Byte :=
  let body := match v with
    | .phasor r i => leBytes 4 r ++ leBytes 4 i ++ leBytes 4 free
    | .real x _ => leBytes 8 x ++ leBytes 4 free
    | .word w => leBytes 8 (free / 2 ^ 32) ++ leBytes 4 w
  leBytes 4 sig ++ leBytes 4 quality ++ leBytes 8 (ts64Of t) ++ body ++ leBytes 2 t ++ zeros 2

/-- The window values of a value. [DEDUCED: log 64] -/
def SynVal.words : SynVal → List Nat
  | .phasor r i => [r, i]
  | .real _ x => [x]
  | .word w => [w]

end Sys2Proof.Machine
end

