-- ==== Sys2Proof/Machine/Ingest.lean ====
section
/-! DEFINITION. Sample ingest (R243 to R269): stream tables, decoding of sampled values, ring slots and synchrophasors,
placing by measurement time, late data, the ingest cutoff, counting and checks. -/
namespace Sys2Proof.Machine

/-! ### Streams -/

/-- A stream's counts at a close. -/
def sledger0 : StreamLedger := ⟨0, 0, 0, 0, 0, 0, 0, 0, 0, 0, 0, 0, 0⟩

/-- A stream that has received nothing. -/
def stream0 : StreamRun := ⟨none, 0, false, sledger0⟩

/-- Kinds of streams. -/
def kSv : Nat := 0
def kRing : Nat := 1
def kSyn : Nat := 2

/-- Stream `n` of a kind. -/
def Dev.stream (d : Dev) (kind n : Nat) : StreamRun := tget stream0 d.ing.streams (65536 * kind + n)

/-- Change a stream. -/
def Dev.updStream (d : Dev) (kind n : Nat) (f : StreamRun → StreamRun) : Dev :=
  d.setIng { d.ing with streams := tput stream0 d.ing.streams (65536 * kind + n) (f (d.stream kind n)) }

/-- Change a stream's counts. -/
def Dev.countStream (d : Dev) (kind n : Nat) (f : StreamLedger → StreamLedger) : Dev :=
  d.updStream kind n (fun x => { x with ledger := f x.ledger })

/-- The STREAM field of a receive entry (R429): 1 sampled values, 2 C37.118.2, 3 ring slot. -/
def streamField (kind n : Nat) : Nat := (if kind = 0 then 1 else if kind = 1 then 3 else 2) * 2 ^ 30 + n

/-! ### BER (R248) -/

/-- One tag, its contents, and what follows; none where the encoding is not well formed. [PRESUMED: log 60] -/
def readTlv (b : List Byte) : Option (Nat × List Byte × List Byte) :=
  let l := byteAt b 1
  let h := if l < 128 then 2 else 2 + (l - 128)
  let n := if l < 128 then l else beAt b 2 (l - 128)
  if b.length < 2 ∨ l = 128 ∨ l > 130 ∨ b.length < h + n then none
  else some (byteAt b 0, slice b h n, b.drop (h + n))

/-- A sequence of tags, at most `fuel` of them. [DEDUCED: log 163] -/
def readTlvs : Nat → List Byte → Option (List (Nat × List Byte))
  | _, [] => some []
  | 0, _ => none
  | n + 1, b =>
    match readTlv b with
    | some (t, v, rest) => (readTlvs n rest).map (fun l => (t, v) :: l)
    | none => none

/-- The contents of a tag in a list. -/
def tlv (t : Nat) (l : List (Nat × List Byte)) : Option (List Byte) := (l.find? (fun x => x.1 == t)).map (·.2)

/-- One ASDU of a sampled-value frame (IEC 61850-9-2, IEC 61869-9; PRESUMED layout). -/
structure Asdu where
  svId : List Byte
  smpCnt : Nat
  confRev : Nat
  smpSynch : Nat
  data : List Byte
  gm : Option (List Byte)
deriving DecidableEq, Repr

/-- Read an ASDU from its contents; the optional fields may be absent. -/
def readAsdu (b : List Byte) : Option Asdu :=
  match readTlvs 16 b with
  | none => none
  | some l =>
    match tlv 0x80 l, tlv 0x82 l, tlv 0x83 l, tlv 0x85 l, tlv 0x87 l with
    | some i, some c, some r, some s, some v => some ⟨i, beNat c, beNat r, beNat s, v, tlv 0x89 l⟩
    | _, _, _, _, _ => none

/-- The ASDUs of a sequence. -/
def readAsdus : List (Nat × List Byte) → Option (List Asdu)
  | [] => some []
  | (t, b) :: l => if t ≠ 0x30 then none else match readAsdu b, readAsdus l with
    | some a, some r => some (a :: r)
    | _, _ => none

/-- A sampled-value payload behind the EtherType: APPID, length, two reserved words, then the APDU. Gives noASDU and the
ASDUs. -/
def readSav (p : List Byte) : Option (Nat × List Asdu) :=
  match readTlv (slice p 8 (beAt p 2 2 - 8)) with
  | some (0x60, b, []) =>
    (match readTlvs 8 b with
     | some l =>
       (match tlv 0x80 l, tlv 0xA2 l with
        | some n, some s =>
          (match readTlvs 16 s with
           | some q => (readAsdus q).map (fun a => (beNat n, a))
           | none => none)
        | _, _ => none)
     | none => none)
  | _ => none

/-- The svID of the first ASDU, where it can be read: the lookup key (R245). -/
def firstSvId (p : List Byte) : Option (List Byte) :=
  match readTlv (p.drop 8) with
  | some (_, b, _) =>
    (match readTlvs 8 b with
     | some l =>
       (match tlv 0xA2 l with
        | some s => (match readTlv s with
          | some (_, a, _) => (match readTlv a with
            | some (0x80, v, _) => some v
            | _ => none)
          | none => none)
        | none => none)
     | none => none)
  | none => none

/-! ### Lookup (R245) -/

/-- The sampled-value stream that claims a frame. -/
def Dev.svLookup (d : Dev) (p : Nat) (b : List Byte) : Option Nat :=
  if p ≥ 16 then none else
  match firstSvId (payload b) with
  | none => none
  | some sv =>
    (d.listed 0x610001).find? (fun n => d.on 0x610001 n && bit (d.get 0x610002 n) p
      && d.getB 0x610003 n == dstMac b && d.get 0x610004 n == beAt (payload b) 0 2 && d.getB 0x610005 n == sv)

/-- The C37.118.2 stream that claims a datagram. -/
def Dev.synLookup (d : Dev) (u : Udp) : Option Nat :=
  (d.listed 0x611001).find? (fun n => d.on 0x611001 n && d.getB 0x611002 n == beBytes 4 u.src
    && d.get 0x611003 n == u.dport && d.get 0x611004 n == beAt u.data 4 2)

/-- Is a datagram addressed to the device on a port: to its own address, or to a multicast one? [DEDUCED: log 65] -/
def Dev.toDevice (p : Nat) (u : Udp) : Bool := u.dst == Config.portIp p || u.dst / 2 ^ 28 == 14

/-! ### Sets (R249, R250, R260, R261) -/

/-- A window entry's word (R256). [DEDUCED: log 61] -/
def entryWord (value quality arrival unsync : Nat) : Nat :=
  value % 2 ^ 32 * 2 ^ 32 + quality % 2 ^ 14 * 2 ^ 18 + arrival * 4 + unsync * 2 + 1

/-- Is a set late: received at or after the cutoff of the epoch of its measurement time (R260)? -/
def Dev.isLate (d : Dev) (t rx : Nat) : Bool := d.tab.running && decide (rx ≥ d.cutoffAt (d.epochOf t))

/-- Does the grid point already hold a present entry, or is one on its way? -/
def Dev.isRepeat (d : Dev) (c g : Nat) : Bool :=
  (d.winAt c g).isSome || d.ing.landing.any (fun x => x.grid == g && x.entries.any (fun e => e.1 == c))

/-- The entries of `n` channels of 8-byte pairs (INT32 value, 32-bit quality) from channel `c` on, scaled (R251, R256). -/
def Dev.pairEntries (d : Dev) (c arrival unsync : Nat) (b : List Byte) : Nat → List (Nat × Nat)
  | 0 => []
  | n + 1 => (c, entryWord (scaleInt (toInt 32 (beAt b 0 4)) (d.get 0x613001 c)).1 (beAt b 4 4) arrival unsync)
      :: d.pairEntries (c + 1) arrival unsync (b.drop 8) n

/-- A set sets out for its windows. -/
def Dev.land (d : Dev) (x : Landing) : Dev := d.setIng { d.ing with landing := d.ing.landing ++ [x] }

/-- The outcome of one set. -/
inductive SetOut where
  | written | late | repeated | future | bankChange
deriving DecidableEq, Repr

/-- Decide one set placed at grid point `g` with measurement time `t` (R247, R249, R250, R260): a set before the boundary
at which its stream's entry applied, one more than 100 µs ahead, a late one, a repeat, else it is written. [DEDUCED: log 59] -/
def Dev.decideSet (d : Dev) (kind n t rx : Nat) (c g : Nat) : SetOut :=
  if t < (d.stream kind n).since then .bankChange
  else if t > rx + us 100 && kind != 0 then .future
  else if d.isLate t rx then .late
  else if d.isRepeat c g then .repeated
  else .written

/-- Count a set's outcome in the stream's ledger. -/
def SetOut.count (o : SetOut) (l : StreamLedger) : StreamLedger :=
  let l := { l with sets := l.sets + 1 }
  match o with
  | .written => { l with written := l.written + 1 }
  | .late => { l with late := l.late + 1 }
  | .repeated => { l with repeated := l.repeated + 1 }
  | .future => { l with future := l.future + 1 }
  | .bankChange => { l with bankChange := l.bankChange + 1 }

/-- `n` late sets or values of a running region count in its ledger, accepted and late (R15, R261). [DEDUCED: log 149] -/
def Dev.countLateSets (d : Dev) (g n : Nat) : Dev :=
  if d.regionRuns g then
    let x := d.region g
    ((d.setRegion g { x with ledger := { x.ledger with accepted := x.ledger.accepted + n, late := x.ledger.late + n } }).add
      0x600101 g n).add 0x600103 g n
  else d

/-- The flags of a receive entry that copies a frame or slot (R429). -/
def copyFlags (late : Bool) (inport : Nat) (unsync : Bool) : Nat :=
  b2n unsync * 2 ^ 30 + b2n late * 2 ^ 29 + inport * 2 ^ 23

/-! ### Sampled values (R248 to R250) -/

/-- The second and grid point of a smpCnt at a receive time (R249). -/
def smpGrid (rate k rx : Nat) : Nat := (((rx + us 100) * rate - k * sec 1) / (sec 1 * rate)) * rate + k

/-- One ASDU of a frame of stream `n`. [DEDUCED: log 148] -/
def Dev.svSet (d : Dev) (n rx : Nat) (portUnsync : Bool) (a : Asdu) : SetOut × Dev :=
  let rate := d.get 0x610007 n
  let want := d.getB 0x61000E n
  let gmBad := want != zeros 8 && (match a.gm with
    | some g => g != want
    | none => false)
  let unsync := b2n (a.smpSynch != 2 || gmBad || portUnsync)
  let arrival := d.get 0x61000C n
  let c := d.get 0x61000B n
  let g := if arrival = 1 then (Rate.mk rate 1).near (rx - ns (d.get 0x61000D n)) else smpGrid rate a.smpCnt rx
  let t := (Rate.mk rate 1).time g
  let o := d.decideSet kSv n t rx c g
  let d := d.countStream kSv n o.count
  match o with
  | .written =>
    (o, (d.land ⟨d.get 0x61000A n, rate, g, t, d.pairEntries c arrival unsync a.data (d.get 0x610009 n)⟩).inc 0x610011 n)
  | .late => (o, (d.inc 0x610012 n).countLateSets (d.get 0x61000A n) 1)
  | .repeated => (o, d.inc 0x610013 n)
  | .bankChange => (o, d.inc 0x610016 n)
  | .future => (o, d)

/-- A sampled-value frame of stream `n` (R248): dropped whole as malformed or for its confRev; else its sets are placed. -/
def Dev.svFrame (d : Dev) (n p rx : Nat) (b : List Byte) : Dev :=
  let unsync := d.unsync p
  let d := d.rxDeliver (d.get 0x61000F n) b (copyFlags false p unsync) (streamField kSv n) rx 0
  let d := (d.updStream kSv n (fun x => { x with last := some rx, ledger := { x.ledger with classified := x.ledger.classified + 1 } })).put
    0x610017 n 2
  let bad := fun (d : Dev) => (d.countStream kSv n (fun l => { l with malformed := l.malformed + 1 })).inc 0x610014 n
  match readSav (payload b) with
  | none => bad d
  | some (k, as) =>
    if k ≠ d.get 0x610008 n ∨ as.length ≠ k then bad d
    else if !as.all (fun a => a.svId == d.getB 0x610005 n && a.data.length == 8 * d.get 0x610009 n
        && decide (a.smpCnt < d.get 0x610007 n)) then bad d
    else if !as.all (fun a => a.confRev == d.get 0x610006 n) then
      let d := (d.countStream kSv n (fun l => { l with confRev := l.confRev + 1 })).inc 0x610015 n
      if (d.stream kSv n).confRevSeen then d
      else (d.updStream kSv n (fun x => { x with confRevSeen := true })).raise 176 n 0 0
    else
      let d := (d.countStream kSv n (fun l => { l with accepted := l.accepted + 1 })).inc 0x610010 n
      let r := as.foldl (fun (acc : Bool × Dev) a =>
        let x := acc.2.svSet n rx unsync a
        (acc.1 || x.1 == .late, x.2)) (false, d)
      if r.1 then r.2.rxDeliver (r.2.get 0x614002 0) b (copyFlags true p unsync) (streamField kSv n) rx 0 else r.2

/-! ### Ring slots (R251, R252) -/

/-- The enabled ring-slot streams that name a ring and node. -/
def Dev.ringStreams (d : Dev) (r node : Nat) : List Nat :=
  (d.listed 0x612001).filter (fun n => d.on 0x612001 n && d.get 0x612002 n == r && d.get 0x612003 n == node)

/-- Set j of a slot. -/
def Dev.ringSet (d : Dev) (n cycle rx sync j : Nat) (b : List Byte) : SetOut × Dev :=
  let sets := d.get 0x612004 n
  let c := d.get 0x612007 n
  let chans := d.get 0x612005 n
  let rate := d.ringStreamRate n
  let base := timeOfKtime (d.get 0x400008 (d.get 0x612002 n))
  let k : Int := ((cycle : Int) - 1) * sets + j
  let t := (if rate = 0 then (base : Int) else base + k * (sec 1 : Nat) / (rate : Int)).toNat
  let g := ((base / sec 1 * rate : Nat) + k).toNat
  let o := d.decideSet kRing n t rx c g
  let d := d.countStream kRing n o.count
  match o with
  | .written =>
    (o, (d.land ⟨d.get 0x612006 n, rate, g, t, d.pairEntries c 0 (1 - sync) (b.drop (16 + 8 * j * chans)) chans⟩).inc 0x612009 n)
  | .late => (o, (d.inc 0x61200A n).countLateSets (d.get 0x612006 n) 1)
  | _ => (o, d)

/-- A slot taken for stream `n` (R252): express copy; no data, count mismatch, or its sets placed. -/
def Dev.ringSlotIn (d : Dev) (n : Nat) (s : TakenSlot) : Dev :=
  let inport := 16 + 2 * s.ring + s.port
  let slot := 256 * s.ring + s.node
  let d := d.rxDeliver (d.get 0x612008 n) s.bytes (copyFlags false inport (d.unsync (ringRep s.ring s.port)))
    (streamField kRing n) s.rx slot
  let d := d.updStream kRing n (fun x => { x with last := some s.rx, ledger := { x.ledger with classified := x.ledger.classified + 1 } })
  let status := beAt s.bytes 0 2
  let sets := d.get 0x612004 n
  let rate := d.ringStreamRate n
  let one := fun (f : StreamLedger → StreamLedger) (d : Dev) => d.countStream kRing n (fun l =>
    f { l with accepted := l.accepted + 1, sets := l.sets + 1 })
  if !bit status 13 then (one (fun l => { l with noData := l.noData + 1 }) d).inc 0x61200C n
  else if rate = 0 ∨ (beAt s.bytes 8 4 : Int) ≠ ((s.cycle : Int) - 1) * sets % rate then
    (one (fun l => { l with mismatch := l.mismatch + 1 }) d).inc 0x61200B n
  else
    let d := d.countStream kRing n (fun l => { l with accepted := l.accepted + 1 })
    let r := (List.range sets).foldl (fun (acc : Bool × Dev) j =>
      let x := acc.2.ringSet n s.cycle s.rx (b2n (bit status 14)) j s.bytes
      (acc.1 || x.1 == .late, x.2)) (false, d)
    if r.1 then r.2.rxDeliver (r.2.get 0x614002 0) s.bytes (copyFlags true inport (d.unsync (ringRep s.ring s.port)))
      (streamField kRing n) s.rx slot
    else r.2

/-- A slot taken under R217 goes to every stream that names it. -/
def Dev.slotTaken (d : Dev) (s : TakenSlot) : Dev := (d.ringStreams s.ring s.node).foldl (fun d n => d.ringSlotIn n s) d

/-! ### Synchrophasors (R253 to R255) -/

/-- The TAI − UTC offset for a frame's time (R85, R254): its leap-second bits settle which side of a leap it lies on. [DEDUCED: log 153] -/
def Dev.offsetFor (d : Dev) (fracsec : Nat) : Int :=
  let step : Int := if bit fracsec 30 then -1 else 1
  let justLeapt := match d.tim.leapAt with
    | some t => decide (d.now < t + sec 86400)
    | none => false
  if bit fracsec 29 && (d.tim.leap61 || d.tim.leap59) then d.tim.utcOff + step
  else if bit fracsec 28 && !bit fracsec 29 && justLeapt then d.tim.utcOff - step
  else d.tim.utcOff

/-- The measurement time of a data frame: SOC + (TAI − UTC) + FRACSEC ÷ TIME_BASE, to the nearest 2^-16 ns (R254). -/
def Dev.synTime (d : Dev) (cfg b : List Byte) : Nat :=
  let soc := beAt b 6 4
  let fs := beAt b 10 4
  let tb := cfgTimeBase cfg
  (((soc : Int) + d.offsetFor fs) * (sec 1 : Nat)).toNat + (if tb = 0 then 0 else (2 * (fs % 2 ^ 24) * sec 1 + tb) / (2 * tb))

/-- A data frame's values leave for the signal table as one unit, and for windows where a first channel is set (R255). -/
def Dev.synWrite (d : Dev) (n t : Nat) (vals : List (SynVal × Nat)) : Dev :=
  let g := d.get 0x611005 n
  let sig := d.get 0x611006 n
  let recs := vals.zipIdx.map (fun x => x.1.1.record (sig + x.2) (statQuality x.1.2) t (Config.freeValue (d.fresh + x.2)))
  let d := { d with fresh := d.fresh + vals.length }
  let d := if d.regionRuns g then
      d.setRegion g { d.region g with units := (d.region g).units ++ [⟨2 ^ 31 + n, recs⟩] } else d
  let c := d.get 0x611008 n
  if c = 0xFFFFFFFF then d else
  let r := rateOfData (cfgDataRate (d.getB 0x611007 n))
  let words := vals.flatMap (fun v => v.1.words.map (fun w => (w, v.2)))
  let es := words.zipIdx.map (fun x =>
    (c + x.2, entryWord x.1.1 (statQuality x.1.2 % 16384) 0 (b2n (bit x.1.2 13))))
  let k := r.near t
  if d.isRepeat c k then d else d.land ⟨g, r.num, k, t, es⟩

/-- A frame of C37.118.2 stream `n` (R253): not data goes to the host queue; malformed is dropped whole; late, future and
bank change are counted. -/
def Dev.synFrame (d : Dev) (n p rx : Nat) (b : List Byte) (u : Udp) : Dev :=
  let inport := if p = 16 then 20 else p
  let unsync := d.unsync p
  let d := d.rxDeliver (d.get 0x611009 n) b (copyFlags false inport unsync) (streamField kSyn n) rx 0
  let d := d.updStream kSyn n (fun x => { x with last := some rx, ledger := { x.ledger with classified := x.ledger.classified + 1 } })
  let f := u.data
  let cfg := d.getB 0x611007 n
  let sync := beAt f 0 2
  let bad := fun (d : Dev) => (d.countStream kSyn n (fun l => { l with malformed := l.malformed + 1 })).inc 0x61100C n
  if sync / 256 = 0xAA ∧ bits sync 4 3 ≠ 0 ∧ bits sync 4 3 ≤ 5 then
    (d.countStream kSyn n (fun l => { l with nonData := l.nonData + 1 })).rxDeliver (d.get 0x61100E n) b
      (copyFlags false inport unsync) (streamField kSyn n) rx 0
  else
  match cfgParse cfg with
  | none => bad d
  | some ps =>
    if (sync ≠ 0xAA01 ∧ sync ≠ 0xAA02) ∨ f.length ≠ cfgFrameSize ps ∨ beAt f 2 2 ≠ f.length
        ∨ beAt f 4 2 ≠ d.get 0x611004 n ∨ ccitt (f.take (f.length - 2)) ≠ beAt f (f.length - 2) 2 then bad d
    else
      let t := d.synTime cfg f
      let o := if t < (d.stream kSyn n).since then SetOut.bankChange
        else if t > rx + us 100 then .future
        else if d.isLate t rx then .late else .written
      let d := d.countStream kSyn n (fun l => o.count { l with accepted := l.accepted + 1 })
      match o with
      | .written => (d.synWrite n t (dataValues f ps 14)).inc 0x61100A n
      | .late => ((d.inc 0x61100B n).countLateSets (d.get 0x611005 n) (dataValues f ps 14).length).rxDeliver (d.get 0x614002 0) b (copyFlags true inport unsync) (streamField kSyn n) rx 0
      | _ => d.inc 0x61100D n

/-! ### Commit, cutoff, silence -/

/-- WINDOW_ENTRY_COMMIT: the oldest set on its way becomes present in its windows and input rings (R258); one for a region
in reset or contained is lost with it (R17). [DEDUCED: log 66] -/
def windowEntryCommit (d : Dev) : Dev :=
  match d.ing.landing with
  | [] => d
  | x :: l =>
    let d := d.setIng { d.ing with landing := l }
    if d.regionRuns x.region then d.commitEntries x.grid x.entries else d

/-- The first `n` sets on their way, in order. -/
def Dev.commitAll : Nat → Dev → Dev
  | 0, d => d
  | n + 1, d => Dev.commitAll n (windowEntryCommit d)

/-- The channels in use. -/
def Dev.channels (d : Dev) : List Nat := (d.listed 0x613003).filter (fun c => d.get 0x613003 c != 0xFFFFFFFF)

/-- The grid points of epoch `n` of a channel that hold no present entry (R262). -/
def Dev.missingOf (d : Dev) (c n : Nat) : Nat :=
  let r := d.chanRate c
  let a := r.first ((segOf n d.tab.segs).bound n)
  let b := r.first (d.epochEnd n)
  let there := ((d.window c).filter (fun p => decide (a ≤ p.2.grid ∧ p.2.grid < b) && bit p.2.word 0)).length
  (b - a) - there

/-- INGEST_CUTOFF of the next epoch (R260, R262): time is brought to it; sets on their way are written; absent grid points
are counted; completions and epoch activations are raised (R285, R286). [DEDUCED: log 67] -/
def ingestCutoff (d : Dev) : Dev :=
  if !d.tab.running then d else
  let n := d.tab.cut + 1
  let d := d.at_ (d.cutoffAt n)
  let d := Dev.commitAll d.ing.landing.length d
  let d := d.channels.foldl (fun d c => d.add 0x613004 c (d.missingOf c n)) d
  let d := d.setTab { d.tab with cut := n }
  (d.cutoffCompletions n).epochActs n

/-- A stream's frame interval in 2^-16 ns (R244). -/
def Dev.frameInterval (d : Dev) (kind n : Nat) : Nat :=
  if kind = 0 then (let r := d.get 0x610007 n; if r = 0 then 0 else d.get 0x610008 n * sec 1 / r)
  else if kind = 1 then d.ringPeriod (d.get 0x612002 n)
  else (let r := rateOfData (cfgDataRate (d.getB 0x611007 n)); if r.num = 0 then 0 else r.den * sec 1 / r.num)

/-- STREAM_SILENT: 3 frame intervals have passed since a stream's last frame; a sampled-value stream shows state 3. -/
def streamSilent (kind n : Nat) (d : Dev) : Dev :=
  match (d.stream kind n).last with
  | none => d
  | some t =>
    let d := d.at_ (t + 3 * d.frameInterval kind n)
    let d := d.updStream kind n (fun x => { x with last := none })
    if kind = 0 && d.on 0x610001 n then d.put 0x610017 n 3 else d

/-! ### Channels of streams, and applying (R244, R257, R332) -/

/-- The channels each enabled stream and declaration claims: (channel, owner word). -/
def Dev.claims (d : Dev) : List (Nat × Nat) :=
  let span := fun (c n owner : Nat) => (List.range n).map (fun i => (c + i, owner))
  ((d.listed 0x610001).filter (fun n => d.on 0x610001 n)).flatMap (fun n => span (d.get 0x61000B n) (d.get 0x610009 n) n)
  ++ ((d.listed 0x612001).filter (fun n => d.on 0x612001 n)).flatMap (fun n =>
      span (d.get 0x612007 n) (d.get 0x612005 n) (2 ^ 30 + n))
  ++ ((d.listed 0x611001).filter (fun n => d.on 0x611001 n && d.get 0x611008 n != 0xFFFFFFFF)).flatMap (fun n =>
      span (d.get 0x611008 n) (match cfgParse (d.getB 0x611007 n) with
        | some ps => cfgChannels ps
        | none => 0) (2 ^ 31 + n))
  ++ ((d.listed 0x540001).filter (fun n => d.get 0x540001 n != 0xFFFFFFFF)).map (fun n =>
      (d.get 0x540001 n, 3 * 2 ^ 30 + n))

/-- Does a channel appear once only? -/
def claimsOk : List (Nat × Nat) → Bool
  | [] => true
  | (c, _) :: l => decide (c < 262144) && l.all (fun x => x.1 != c) && claimsOk l

/-- Report the owners of channels and the window bytes of the regions. [DEDUCED: log 165] -/
def Dev.refreshChannels (d : Dev) : Dev :=
  let d := (d.listed 0x613003).foldl (fun d c => d.put 0x613003 c 0xFFFFFFFF) d
  let d := d.claims.foldl (fun d x => d.put 0x613003 x.1 x.2) d
  (List.range 4).foldl (fun d g =>
    d.put 0x614101 g ((d.channels.filter (fun c => d.chanRegion c == g)).foldl (fun a c => a + 8 * d.get 0x613002 c) 0)) d

/-- The longest window of a kernel bound to a channel (R257). -/
def Dev.longestWindow (d : Dev) (c : Nat) : Nat :=
  d.bindings.foldl (fun a b =>
    if (chanList (d.getB 0x530003 b)).contains c then
      let w := imageWindow (d.slotImage (d.get 0x530001 b))
      if w > a then w else a
    else a) 0

/-- Is a channel deep enough: D at least 2 W + ceil(rate × (horizon + 1 ms)) (R257)? -/
def Dev.deepEnough (d : Dev) (c : Nat) : Bool :=
  let r := d.chanRate c
  let need := 2 * d.longestWindow c + (r.num * (d.get 0x600003 0 + 1000) + r.den * 1000000 - 1) / (r.den * 1000000)
  decide (need ≤ d.get 0x613002 c)

/-- Windows within their budget, every channel deep enough. -/
def Dev.windowsOk (d : Dev) : Bool :=
  d.channels.all d.deepEnough && (List.range 4).all (fun g => decide (d.get 0x614101 g ≤ d.get 0x614102 g))

/-- Two enabled sampled-value entries with one key (R246). -/
def Dev.svSame (d : Dev) (a b : Nat) : Bool :=
  (d.get 0x610002 a &&& d.get 0x610002 b) != 0 && d.getB 0x610003 a == d.getB 0x610003 b
    && d.get 0x610004 a == d.get 0x610004 b && d.getB 0x610005 a == d.getB 0x610005 b

/-- Two enabled C37.118.2 entries with one key (R246). -/
def Dev.synSame (d : Dev) (a b : Nat) : Bool :=
  d.getB 0x611002 a == d.getB 0x611002 b && d.get 0x611003 a == d.get 0x611003 b && d.get 0x611004 a == d.get 0x611004 b

/-- A ring-slot stream's own rules (R251, R252). -/
def Dev.ringStreamOk (d : Dev) (n : Nat) : Bool :=
  let r := d.get 0x612002 n
  let c := d.ringCycle r
  let sets := d.get 0x612004 n
  let rate := d.ringStreamRate n
  timeOfKtime (d.get 0x400008 r) % sec 1 == 0 && c.anchor != 0 && sets * c.m % c.anchor == 0
    && decide (4000 ≤ rate ∧ rate ≤ 96000)
    && (List.range 4).all (fun m => match imgSlotLen (d.ringImage r m) (d.get 0x612003 n) with
      | some l => (d.ringImage r m).isEmpty || l == 8 + sets * d.get 0x612005 n * 8
      | none => true)

/-- Are the signals of a C37.118.2 stream all in its region (R255), its configuration usable (R244, R253)? -/
def Dev.synOk (d : Dev) (n : Nat) : Bool :=
  match cfgParse (d.getB 0x611007 n) with
  | none => false
  | some ps =>
    let s := d.get 0x611006 n
    let k := cfgValues ps
    decide (cfgFrameSize ps ≤ 1472) && cfgDataRate (d.getB 0x611007 n) != 0
      && decide (s + k ≤ 2 ^ 25) && regionOfSig s == d.get 0x611005 n && (k == 0 || regionOfSig (s + k - 1) == d.get 0x611005 n)

/-- The sums of frame rates within their caps (R244); C37.118.2 rates add as fractions. -/
def Dev.ratesOk (d : Dev) : Bool :=
  let sv := ((d.listed 0x610001).filter (fun n => d.on 0x610001 n)).foldl (fun a n =>
    a + d.get 0x610007 n / d.get 0x610008 n) 0
  let syn := ((d.listed 0x611001).filter (fun n => d.on 0x611001 n)).foldl (fun (a : Nat × Nat) n =>
    let r := rateOfData (cfgDataRate (d.getB 0x611007 n))
    (a.1 * r.den + r.num * a.2, a.2 * r.den)) (0, 1)
  decide (sv ≤ 60000000) && decide (syn.1 ≤ 4000000 * syn.2)

/-- The COMMIT checks of the ingest objects, on a device that holds the values a transaction would make active and whose
channels are refreshed; 0 for none. -/
def Dev.checkIngest (d : Dev) (o e : Nat) : Nat :=
  let i := o / 256
  let bad := fun (ok : Bool) => if ok then 0 else 0x0404
  let all := claimsOk d.claims && d.ratesOk && d.windowsOk
  if i = 0x6100 then
    bad (!d.on 0x610001 e || (all && d.get 0x610007 e % d.get 0x610008 e == 0
      && !(d.listed 0x610001).any (fun n => n != e && d.on 0x610001 n && d.svSame n e)))
  else if i = 0x6110 then
    if d.getB 0x611007 e ≠ [] ∧ (cfgParse (d.getB 0x611007 e)).isNone then 0x0404
    else bad (!d.on 0x611001 e || (all && d.synOk e
      && !(d.listed 0x611001).any (fun n => n != e && d.on 0x611001 n && d.synSame n e)))
  else if i = 0x6120 then bad (!d.on 0x612001 e || (all && d.ringStreamOk e))
  else if i = 0x4010 ∨ i = 0x4000 then
    let r := if i = 0x4010 then e / 4 else e
    bad (((d.listed 0x612001).filter (fun n => d.on 0x612001 n && d.get 0x612002 n == r)).all d.ringStreamOk)
  else if i = 0x6130 ∨ i = 0x5300 ∨ i = 0x5100 ∨ o = 0x600003 then bad d.windowsOk
  else if i = 0x5400 then bad all
  else 0

/-- A stream's entry applied at `t`: its state, since when it is in force, its channels (R247). -/
def Dev.applyIngest (d : Dev) (o e t : Nat) : Dev :=
  let i := o / 256
  let kind := if i = 0x6100 then 0 else if i = 0x6120 then 1 else 2
  let d := if i = 0x6100 ∨ i = 0x6110 ∨ i = 0x6120 then
      d.updStream kind e (fun x => { x with since := t, last := if d.get (i * 256 + 1) e = 0 then none else x.last }) else d
  let d := if o = 0x610001 then d.put 0x610017 e (if d.on 0x610001 e then 1 else 0) else d
  if i = 0x6100 ∨ i = 0x6110 ∨ i = 0x6120 ∨ i = 0x5400 ∨ i = 0x6130 then d.refreshChannels else d

/-- A new depth starts an empty window. -/
def Dev.resetWindow (d : Dev) (c : Nat) : Dev := d.setIng { d.ing with windows := tput [] d.ing.windows c [] }

/-- Stream counts start again at a close (R268). -/
def Dev.closeStreams (d : Dev) : Dev :=
  d.setIng { d.ing with streams := tmap stream0 (fun x => { x with confRevSeen := false, ledger := sledger0 }) d.ing.streams }

end Sys2Proof.Machine
end

