-- ==== Sys2Proof/Machine/Updates.lean ====
section
/-! DEFINITION. The update port of a region (R293, R347, R352, R369), reading through BAR2 and pinning (R355 to R360). -/
namespace Sys2Proof.Machine

/-- The records still in a region's journal: it drains one record in 2 ns (R368, R369). -/
def Region.journal (x : Region) (now : Nat) : Nat := x.fill - (now - x.fillAt) / ns 2

/-- Why a record is not even a candidate (R292, R293, R343): reserved bits, kinds, a signal of another region or of
TYPE 0, a channel that is no derived one of the region, or a time off its grid. -/
def Dev.recordBad (d : Dev) (g : Nat) (b : List Byte) : Bool :=
  let t := leAt b 0 4
  let kind := t / 2 ^ 30
  let time := updTime d.now b
  if leAt b 30 2 ≠ 0 then true
  else if kind = 0 then
    let i := t % 2 ^ 25
    bits t 25 5 != 0 || decide (leAt b 4 4 / 2 ^ 15 ≠ 0) || regionOfSig i != g || d.sigType i == 0
  else if kind = 1 then
    let c := t % 2 ^ 18
    let owner := d.get 0x613003 c
    let r := d.chanRate c
    bits t 18 12 != 0 || leAt b 4 4 != 0 || leAt b 24 4 != 0 || bits (leAt b 16 4) 4 14 != 0
      || owner / 2 ^ 30 != 3 || owner == 0xFFFFFFFF || d.ownerRegion owner != g || r.num == 0
      || decide (r.time (r.near time) ≠ time)
  else true

/-- Count into a region's ledger. -/
def Dev.countRegion (d : Dev) (g : Nat) (f : RegionLedger → RegionLedger) : Dev :=
  let x := d.region g
  d.setRegion g { x with ledger := f x.ledger }

/-- A record is rejected (R293): counted, and "update rejected" raised once per slot per epoch. -/
def Dev.rejectRecord (d : Dev) (g source : Nat) : Dev :=
  let d := ((d.countRegion g (fun l => { l with accepted := l.accepted + 1, rejected := l.rejected + 1 })).inc 0x600101 g).inc
    0x600104 g
  let x := d.region g
  if source / 2 ^ 30 ≠ 1 || x.rejectSeen.contains source then d
  else (d.setRegion g { x with rejectSeen := x.rejectSeen ++ [source] }).raise 217 (source % 2 ^ 30 / 16) 0 0

/-- A signal update of an epoch that is open: written, or held while an epoch awaits its publication (R347); an arrival of
the region's front kernel is also handed over (R384). -/
def Dev.acceptUpd (d : Dev) (g source e : Nat) (b : List Byte) : Dev :=
  let d := ((d.countRegion g (fun l => { l with accepted := l.accepted + 1, written := l.written + 1 })).inc 0x600101 g).inc
    0x600102 g
  let d := if source = 2 ^ 30 + d.get 0xA03001 g then { d with wave := { d.wave with handoff := d.wave.handoff ++ [(g, b)] } } else d
  if e = d.tab.closed + 2 && !d.tab.closing.isEmpty then
    let x := d.region g
    (d.setRegion g { x with held := x.held ++ [⟨source, e, b⟩] }).inc 0x600106 g
  else d.writeUpd source e b

/-- A late update (R347, R430): counted, and its record copied to the late update queue. -/
def Dev.lateUpd (d : Dev) (g source : Nat) (b : List Byte) : Dev :=
  let d := ((d.countRegion g (fun l => { l with accepted := l.accepted + 1, late := l.late + 1 })).inc 0x600101 g).inc
    0x600103 g
  d.rxDeliver (d.get 0x600005 0) b (copyFlags true 31 (bit (leAt b 4 4) 14)) source (d.regionTime g) g

/-- One record of a unit (R293, R347). [DEDUCED: log 69, 70] -/
def Dev.record (d : Dev) (g source : Nat) (b : List Byte) : Dev :=
  if d.recordBad g b then d.rejectRecord g source
  else if leAt b 0 4 / 2 ^ 30 = 1 then
    let c := leAt b 0 4 % 2 ^ 18
    let k := (d.chanRate c).near (updTime d.now b)
    d.commitEntries k [(c, leAt b 20 4 * 2 ^ 32 + leAt b 16 4 / 2 * 2 + 1)]
  else
    let e := d.epochOf (updTime d.now b)
    if !d.tab.running || decide (e ≥ d.tab.closed + 3) then d.rejectRecord g source
    else if e ≤ d.tab.closed then d.lateUpd g source b
    else d.acceptUpd g source e b

/-- UPDATE_ACCEPT: the oldest unit that waits for region `g` reaches its update port (R347, R369). -/
def updateAccept (g : Nat) (d : Dev) : Dev :=
  let x := d.region g
  match x.units with
  | [] => d
  | u :: rest =>
    let d := d.setRegion g { x with units := rest }
    if !d.regionRuns g then d else
    let n := u.records.length
    let fill := x.journal d.now
    if fill + n > 65536 then
      let d := u.records.foldl (fun d _ =>
        ((d.countRegion g (fun l => { l with accepted := l.accepted + 1, rejected := l.rejected + 1 })).inc 0x600101 g).inc
          0x600104 g) d
      d.raise 258 g 0 0
    else
      let d := d.setRegion g { d.region g with fill := fill + n, fillAt := d.now }
      let d := if fill + n > d.get 0x600108 g then d.put 0x600108 g (fill + n) else d
      u.records.foldl (fun d b => d.record g u.source b) d

/-! ### Pins (R359, R360) -/

/-- Pin an epoch, replacing any pin: P for one period, P−1 until the next publication at the latest. [DEDUCED: log 71] -/
def Dev.pinEpochAs (d : Dev) (p : Option PubEpoch) (which : Bool) : Dev :=
  match p with
  | none => d
  | some p => d.setTab { d.tab with
      pin := some ⟨p.n, which, d.now + d.periodNow⟩, pinStale := false, pinEpoch := p.n, pinWhich := which }

/-- PIN_CTRL commands 1, 2 and 3. -/
def pinP (d : Dev) : Dev := ({ d with tab := { d.tab with pinCmd := 1 } } : Dev).pinEpochAs d.tab.pub false
def pinPMinus1 (d : Dev) : Dev := ({ d with tab := { d.tab with pinCmd := 2 } } : Dev).pinEpochAs d.tab.prev true
def pinRelease (d : Dev) : Dev := d.setTab { d.tab with pin := none, pinStale := false, pinCmd := 3 }

/-- The pin lapses (R360). -/
def Dev.lapsePin (d : Dev) : Dev :=
  match d.tab.pin with
  | none => d
  | some _ => d.setTab { d.tab with
      pin := none, pinStale := true, pinLapsed := true, pinLapses := (d.tab.pinLapses + 1) % 2 ^ 32 }

/-- PIN_LAPSE: one period after it was taken. -/
def pinLapse (d : Dev) : Dev :=
  match d.tab.pin with
  | none => d
  | some p => (d.at_ p.until_).lapsePin

/-- `PIN_STATUS` (R359). -/
def Dev.pinStatus (d : Dev) : Nat := b2n d.tab.pin.isSome * 2 ^ 31 + b2n d.tab.pinLapsed * 2 ^ 30 + b2n d.tab.pinWhich * 2 ^ 29

/-! ### BAR2 (R355, R358) -/

/-- The epoch that a BAR2 read is resolved for, and its SELECT. -/
def Dev.bar2Epoch (d : Dev) : Option PubEpoch × Nat :=
  match d.tab.pin with
  | some p =>
    (match d.tab.pub, d.tab.prev with
     | some a, b => if a.n = p.epoch then (some a, 2) else (b, 2)
     | none, _ => (none, 2))
  | none => if d.tab.pinStale then (d.tab.pub, 3) else (d.tab.pub, 0)

/-- The bytes of BAR2 from an offset: the views of the signals there, all for one epoch. -/
def Dev.bar2Bytes (d : Dev) (off len : Nat) : List Byte :=
  let e := d.bar2Epoch
  let first := off / 32
  let n := (off + len + 31) / 32 - first
  slice ((List.range n).flatMap (fun i => d.view ((first + i) % 2 ^ 25) e.1 e.2)) (off - 32 * first) len

/-- BAR2_READ: completed with the views, or with UR in LANTERN and while no image runs (R49, R358), or where no memory
request reaches the BARs (R410). -/
def bar2Read (off len : Nat) (d : Dev) : Dev :=
  if !d.memOk then (unsupportedRequest true d).emit (.completion 1 [])
  else if d.power ≠ 2 ∧ d.power ≠ 6 then (unsupportedRequest true d).emit (.completion 1 [])
  else d.emit (.completion 0 (d.bar2Bytes off len))

/-- BAR2_WRITE: discarded and counted in object 0x6000:06. -/
def bar2Write (d : Dev) : Dev :=
  if !d.memOk || (d.power != 2 && d.power != 6) then unsupportedRequest true d else d.inc 0x600006 0

end Sys2Proof.Machine
end

