-- ==== Sys2Proof/Machine/Waves.lean ====
section
/-! DEFINITION. Travelling waves: WSF frames, pre-trigger rings, the front screen, capture, snippets, arrival records
(R371 to R385). -/
namespace Sys2Proof.Machine

/-- Replace the part of travelling waves. -/
def Dev.setWave (d : Dev) (x : WaveSt) : Dev := { d with wave := x }

/-- A channel whose ring is empty: armed. -/
def wchan0 : WChan := ⟨[], false, none, none⟩

/-- WSF channel `c`. -/
def Dev.wchan (d : Dev) (c : Nat) : WChan := tget wchan0 d.wave.chans c

/-- Replace a WSF channel. -/
def Dev.setWchan (d : Dev) (c : Nat) (x : WChan) : Dev := d.setWave { d.wave with chans := tput wchan0 d.wave.chans c x }

/-- A sensor that has sent nothing. -/
def sensor0 : Sensor := ⟨none, 0, 0, 0, 0, 0, 0, 0⟩

/-- Change sensor `i`. -/
def Dev.updSensor (d : Dev) (i : Nat) (f : Sensor → Sensor) : Dev :=
  d.setWave { d.wave with sensors := tput sensor0 d.wave.sensors i (f (tget sensor0 d.wave.sensors i)) }

/-- The enabled sensors. -/
def Dev.sensors (d : Dev) : List Nat := (d.listed 0xA00001).filter (fun i => d.on 0xA00001 i)

/-- The enabled sensor that holds a WSF channel. -/
def Dev.sensorOf (d : Dev) (c : Nat) : Option Nat :=
  d.sensors.find? (fun i => decide (d.get 0xA00006 i ≤ c ∧ c < d.get 0xA00006 i + d.get 0xA00005 i))

/-- PERIOD of a WSF channel, 200 where no sensor holds it. -/
def Dev.wperiod (d : Dev) (c : Nat) : Nat :=
  match d.sensorOf c with
  | some i => d.get 0xA00008 i
  | none => 200

/-- Ring depth D: the smallest power of two of at least 2.5 ms ÷ PERIOD (R375). -/
def ringDepth (period : Nat) : Nat :=
  let n := (2500000 + period - 1) / period
  if 2 ^ Nat.log2 n = n then n else 2 ^ (Nat.log2 n + 1)

/-- The time of a grid point of a PERIOD. -/
def wtime (period grid : Nat) : Nat := ns (grid * period)

/-- A ring index that holds nothing. -/
def wsample0 : WSample := ⟨0, 0x8000, false⟩

/-- The present sample of a channel at a grid point. -/
def Dev.wsampleAt (d : Dev) (c g : Nat) : Option WSample :=
  let s := tget wsample0 (d.wchan c).ring (g % ringDepth (d.wperiod c))
  if s.grid = g && s.value != 0x8000 then some s else none

/-! ### Classification (R372) -/

/-- The sensor that claims a frame: port, source MAC address, SENSOR_ID. -/
def Dev.wsfLookup (d : Dev) (p : Nat) (b : List Byte) : Option Nat :=
  if p ≥ 16 then none else
  d.sensors.find? (fun i => bit (d.get 0xA00002 i) p && d.getB 0xA00003 i == srcMac b && d.get 0xA00004 i == beAt (payload b) 2 2)

/-! ### Captures (R377 to R381) -/

/-- An event number that is not in use. -/
def capture0 : Capture := ⟨0, 0, 0, [], [], 0, false⟩

/-- Event `e`, and its state (object 0xA021:04): 0 free, 1 filling, 2 complete, 3 exporting. -/
def Dev.capture (d : Dev) (e : Nat) : Capture := tget capture0 d.wave.events e
def Dev.capState (d : Dev) (e : Nat) : Nat := d.get 0xA02104 e

/-- Replace an event. -/
def Dev.setCapture (d : Dev) (e : Nat) (x : Capture) : Dev := d.setWave { d.wave with events := tput capture0 d.wave.events e x }

/-- The window of an event: 10 ms from its start. -/
def Capture.end_ (x : Capture) : Nat := x.start + ms 10

/-- The channels of a line: of an enabled sensor, naming the line. -/
def Dev.lineChans (d : Dev) (l : Nat) : List Nat :=
  (List.range 512).filter (fun c => d.get 0xA01002 c == l && (d.sensorOf c).isSome)

/-- Does a grid point of a channel lie in an event's window? -/
def Dev.inWindow (d : Dev) (x : Capture) (c g : Nat) : Bool :=
  let t := wtime (d.wperiod c) g
  decide (x.start ≤ t ∧ t < x.end_)

/-- Store a sample in an event. -/
def Capture.store (x : Capture) (c : Nat) (s : WSample) : Capture :=
  { x with samples := tput [] x.samples c (tput wsample0 (tget [] x.samples c) s.grid s) }

/-- The block header of an event (R381). -/
def Dev.captureHeader (d : Dev) (e : Nat) (complete : Bool) : List Byte :=
  let x := d.capture e
  let unsync := x.samples.any (fun p => p.2.any (fun s => s.2.unsync))
  [0x4B, 0x54, 0x57, 0x43] ++ leBytes 2 1 ++ leBytes 2 e ++ leBytes 8 x.lines ++ leBytes 12 (ktimeOf x.te)
    ++ leBytes 8 (ts64Of x.start) ++ leBytes 2 x.chans.length
    ++ [byte (b2n complete + 2 * b2n unsync + 4 * b2n x.gaps), 0] ++ leBytes 4 x.seq ++ zeros 20

/-- Show an event's header in object 0xA021:01, and the events held in 0xA020:04. -/
def Dev.showCapture (d : Dev) (e : Nat) : Dev :=
  let st := d.capState e
  let d := d.putB 0xA02101 e (if st = 0 then zeros 64 else d.captureHeader e (decide (st ≥ 2)))
  d.put 0xA02004 0 ((List.range 64).filter (fun i => d.capState i != 0)).length

/-- Line `l` joins event `e`: its channels are captured, the past part of the window copied from their rings (R377). -/
def Dev.joinLine (d : Dev) (e l : Nat) : Dev :=
  let x := d.capture e
  if bit x.lines l then d else
  let cs := d.lineChans l
  let all := (List.range 512).filter (fun c => x.chans.contains c || cs.contains c)
  let x := { x with lines := x.lines ||| 2 ^ l, chans := all }
  let x := cs.foldl (fun x c => (d.wchan c).ring.foldl (fun x p =>
    if p.2.value ≠ 0x8000 && d.inWindow x c p.2.grid then x.store c p.2 else x) x) x
  (d.setCapture e x).showCapture e

/-- A trigger at `t` on a channel of line `l` joins an open event or opens one (R377, R380). [DEDUCED: log 73] -/
def Dev.trigger (d : Dev) (l t : Nat) : Dev :=
  let near := (List.range 64).find? (fun e => d.capState e == 1 && decide (t ≤ (d.capture e).te + us (d.get 0xA02002 0)))
  match near with
  | some e => d.joinLine e l
  | none =>
    match (List.range 64).find? (fun e => d.capState e == 0) with
    | none => (d.inc 0xA02005 0).raise 290 0 0 0
    | some e =>
      let n := d.wave.opened + 1
      let d := (d.setWave { d.wave with opened := n }).setCapture e { capture0 with te := t, start := t - us (d.get 0xA02001 0), seq := n % 2 ^ 32 }
      (d.put 0xA02104 e 1).joinLine e l

/-- CAPTURE_COMPLETE of event `e` at window end + grace (R379). -/
def captureComplete (e : Nat) (d : Dev) : Dev :=
  if d.capState e ≠ 1 then d else
  let d := d.at_ ((d.capture e).end_ + us (d.get 0xA02003 0))
  ((d.put 0xA02104 e 2).showCapture e).raise 289 e 0 0

/-- A write of 1 to object 0xA021:03 (R380): 0x0502 while exporting; else the event is free. -/
def Dev.captureRelease (d : Dev) (e : Nat) : Nat × Dev :=
  if d.capState e = 3 then (0x0502, d)
  else (0, ((d.setCapture e capture0).put 0xA02104 e 0).showCapture e)

/-- The part of one channel in an event's block: header, samples, zeros to a multiple of 32 (R381). -/
def Dev.capturePart (d : Dev) (x : Capture) (c : Nat) : List Byte :=
  let p := d.wperiod c
  let n := 10000000 / p
  let g0 := (x.start + ns p - 1) / ns p
  let tab := tget [] x.samples c
  let smp := (List.range n).map (fun i => tget wsample0 tab (g0 + i))
  let absent := (smp.filter (fun s => s.value == 0x8000)).length
  let uns := (smp.filter (fun s => s.value != 0x8000 && s.unsync)).length
  let b := leBytes 2 c ++ leBytes 2 p ++ leBytes 4 n ++ leBytes 4 (d.get 0xA01001 c)
    ++ leBytes 4 (absent % 2 ^ 24 + (if uns < 255 then uns else 255) * 2 ^ 24) ++ smp.flatMap (fun s => leBytes 2 s.value)
  padTo ((b.length + 31) / 32 * 32) b

/-- A write of a queue number to object 0xA021:02 (R381): 0x0502 unless the event is complete; else it is exported. [DEDUCED: log 74] -/
def Dev.captureExport (d : Dev) (e q : Nat) : Nat × Dev :=
  if d.capState e ≠ 2 then (0x0502, d) else
  let x := d.capture e
  let d := d.put 0xA02104 e 3
  (0, (d.pushBlock q ⟨1, e, x.seq, d.captureHeader e true, x.chans.flatMap (d.capturePart x), x.chans.length⟩).showCapture e)

/-! ### The front screen (R376) -/

/-- The value of a sample as a signed number. -/
def WSample.int (s : WSample) : Int := toInt 16 s.value

/-- Screen the sample of channel `c` at grid point `g`, just written. -/
def Dev.screen (d : Dev) (c g : Nat) : Dev :=
  if !d.on 0xA01008 c then d else
  let x := d.wchan c
  let late := match x.screened with
    | some n => decide (g < n)
    | none => false
  if late then d.inc 0xA01009 c else
  let d := d.setWchan c { x with screened := some g }
  let lag := d.get 0xA01003 c
  match d.wsampleAt c g, (if lag ≤ g then d.wsampleAt c (g - lag) else none) with
  | some a, some b =>
    let m := (a.int - b.int).natAbs
    let thr := d.get 0xA01004 c
    let t := wtime (d.wperiod c) g
    let x := d.wchan c
    if x.disarmed then
      let since := if 2 * m < thr then some (x.belowSince.getD t) else none
      d.setWchan c { x with belowSince := since }
    else if m ≥ thr then
      let d := (d.setWchan c { x with disarmed := true, belowSince := none }).inc 0xA01007 c
      let d := d.raise 288 c 0 0
      let d := d.setWave { d.wave with snippets := d.wave.snippets ++ [⟨c, g, d.now⟩] }
      let l := d.get 0xA01002 c
      if l < 64 then d.trigger l t else d
    else d
  | _, _ => d

/-- FRONT_REARM of channel `c`: |d| has stayed below half the threshold for the re-arm time. -/
def frontRearm (c : Nat) (d : Dev) : Dev :=
  let x := d.wchan c
  match x.disarmed, x.belowSince with
  | true, some t => (d.at_ (t + us (d.get 0xA01005 c))).setWchan c { x with disarmed := false, belowSince := none }
  | _, _ => d

/-! ### WSF frames (R371, R373, R374) -/

/-- Store one sample of channel `c`: a repeat is not written; one of an event that is over, or whose index already holds a later
grid point, is late. [DEDUCED: log 179] -/
def Dev.wstore (d : Dev) (i c g value : Nat) (unsync : Bool) : Dev :=
  let d := d.updSensor i (fun s => { s with samples := s.samples + 1 })
  let inDone := (List.range 64).any (fun e => decide (d.capState e ≥ 2) && (d.capture e).chans.contains c
    && d.inWindow (d.capture e) c g && tget wsample0 (tget [] (d.capture e).samples c) g == wsample0)
  let gone := decide (g < (tget wsample0 (d.wchan c).ring (g % ringDepth (d.wperiod c))).grid)
  if (d.wsampleAt c g).isSome then (d.updSensor i (fun s => { s with repeated := s.repeated + 1 })).inc 0xA0000D i
  else if inDone || gone then (d.updSensor i (fun s => { s with late := s.late + 1 })).inc 0xA0000C i
  else
    let d := d.updSensor i (fun s => { s with written := s.written + 1 })
    let x := d.wchan c
    let v := if value = 0x8000 then 0x8001 else value
    let s : WSample := ⟨g, v, unsync⟩
    let d := d.setWchan c { x with ring := tput wsample0 x.ring (g % ringDepth (d.wperiod c)) s }
    let d := (List.range 64).foldl (fun d e =>
      if d.capState e = 1 && (d.capture e).chans.contains c && d.inWindow (d.capture e) c g then
        d.setCapture e ((d.capture e).store c s)
      else d) d
    d.screen c g

/-- Is a frame of sensor `i` accepted (R373)? -/
def Dev.wsfOk (d : Dev) (i : Nat) (p : List Byte) : Bool :=
  let c := byteAt p 6
  let k := beAt p 8 2
  let period := beAt p 10 2
  byteAt p 0 == 1 && decide (byteAt p 1 < 8) && byteAt p 7 == 0 && beAt p 20 4 == 0
    && c == d.get 0xA00005 i && period == d.get 0xA00008 i && period != 0 && decide (1 ≤ k ∧ k ≤ 368 ∧ k * c ≤ 738)
    && decide (24 + 2 * k * c ≤ p.length ∧ (p.length = 24 + 2 * k * c ∨ p.length ≤ 46))
    && decide (beAt p 16 4 < 1000000000 / period)

/-- A WSF frame of sensor `i` received at `rx` (R373, R374). -/
def Dev.wsfFrame (d : Dev) (i p rx : Nat) (b : List Byte) : Dev :=
  let f := payload b
  let d := d.updSensor i (fun s => { s with classified := s.classified + 1 })
  if !d.wsfOk i f then (d.updSensor i (fun s => { s with malformed := s.malformed + 1 })).inc 0xA0000A i else
  let seq := beAt f 4 2
  let gap := match (tget sensor0 d.wave.sensors i).seq with
    | some s => decide (seq ≠ (s + 1) % 65536)
    | none => false
  let d := if gap then d.inc 0xA0000B i else d
  let d := (d.updSensor i (fun s => { s with seq := some seq, accepted := s.accepted + 1 })).inc 0xA00009 i
  let c := byteAt f 6
  let k := beAt f 8 2
  let period := beAt f 10 2
  let unsync := !bit (byteAt f 1) 0 || d.unsync p
  let s := timeOfTs64 rx (beAt f 12 4 * 2 ^ 32) / sec 1
  let g0 := s * (1000000000 / period) + beAt f 16 4
  if !d.regionRuns (d.get 0xA00007 i) then
    (d.updSensor i (fun x => { x with samples := x.samples + k * c, late := x.late + k * c })).add 0xA0000C i (k * c)
  else
  (List.range k).foldl (fun d j => (List.range c).foldl (fun d n =>
    d.wstore i (d.get 0xA00006 i + n) (g0 + j) (beAt f (24 + 2 * (j * c + n)) 2) unsync) d) d

/-! ### Snippets (R382) -/

/-- The 256 bytes of a snippet record. -/
def Dev.snippetBytes (d : Dev) (x : Snippet) : List Byte :=
  let p := d.wperiod x.chan
  let smp := (List.range 64).map (fun k => if 32 ≤ x.grid + k then d.wsampleAt x.chan (x.grid + k - 32) else none)
  let bitmap := (smp.zipIdx).foldl (fun a y => if y.1.isSome then a + 2 ^ y.2 else a) 0
  let uns := smp.any (fun y => match y with
    | some s => s.unsync
    | none => false)
  leBytes 8 (ts64Of (wtime p (x.grid - 32))) ++ leBytes 2 p ++ leBytes 2 x.chan ++ leBytes 4 (d.get 0xA01006 x.chan)
    ++ leBytes 8 bitmap ++ [byte (b2n uns)] ++ zeros 7
    ++ smp.flatMap (fun y => match y with
      | some s => leBytes 2 s.value
      | none => leBytes 2 0x8000) ++ zeros 96

/-- The region of a WSF channel. -/
def Dev.wregion (d : Dev) (c : Nat) : Nat :=
  match d.sensorOf c with
  | some i => d.get 0xA00007 i
  | none => 0

/-- The snippet of a region that completes next: the first whose sample n + 31 is present or whose 20 µs have passed, else the oldest. -/
def Dev.snippetNext (d : Dev) (g : Nat) : Option Snippet :=
  let l := d.wave.snippets.filter (fun x => d.wregion x.chan == g)
  match l.find? (fun x => (d.wsampleAt x.chan (x.grid + 31)).isSome || decide (x.at_ + us 20 ≤ d.now)) with
  | some x => some x
  | none => l.head?

/-- SNIPPET_COMPLETE of region `g`: sample n + 31 is present, or 20 µs have passed; the record goes into the front kernel
slot's shared blocks, or is dropped where 512 are unread. -/
def snippetComplete (g : Nat) (d : Dev) : Dev :=
  match d.snippetNext g with
  | none => d
  | some x =>
    let d := if (d.wsampleAt x.chan (x.grid + 31)).isSome then d else d.at_ (x.at_ + us 20)
    let d := d.setWave { d.wave with snippets := d.wave.snippets.erase x }
    let k := d.get 0xA03001 g
    match (if k = 0xFFFF then none else (d.kslot k).cur) with
    | none => d.inc 0xA03003 g
    | some l =>
      let w := tget 0 l.shared 0
      let r := tget 0 l.shared 1
      if (w + 2 ^ 32 - r) % 2 ^ 32 ≥ 512 then d.inc 0xA03003 g
      else
        let sh := putWords l.shared (128 + 256 * (w % 512)) (d.snippetBytes x) 64
        let sh := tput 0 sh 0 ((w + 1) % 2 ^ 32)
        (d.setKslot k { d.kslot k with cur := some { l with shared := sh } }).inc 0xA03002 g

/-! ### Line models (R388) -/

/-- A non-negative or signed fraction. -/
structure Q where
  n : Int
  d : Nat
deriving DecidableEq, Repr

def Q.add (a b : Q) : Q := ⟨a.n * b.d + b.n * a.d, a.d * b.d⟩
def Q.sub (a b : Q) : Q := ⟨a.n * b.d - b.n * a.d, a.d * b.d⟩
def Q.mul (a b : Q) : Q := ⟨a.n * b.n, a.d * b.d⟩
def Q.le (a b : Q) : Bool := decide (a.n * b.d ≤ b.n * a.d)
def Q.lt (a b : Q) : Bool := decide (a.n * b.d < b.n * a.d)
def Q.ofInt (x : Int) : Q := ⟨x, 1⟩
def Q.abs (a : Q) : Q := ⟨a.n.natAbs, a.d⟩

/-- a ÷ b for a positive b. -/
def Q.div (a b : Q) : Q := if b.n ≤ 0 then ⟨0, 1⟩ else ⟨a.n * b.d, a.d * b.n.toNat⟩

/-- A fraction rounded to binary64 and binary32. -/
def Q.f64 (a : Q) : Nat := ratTo64 (decide (a.n < 0)) a.n.natAbs a.d
def Q.f32 (a : Q) : Nat := (ratTo32 (decide (a.n < 0)) a.n.natAbs a.d).1

/-- The exact value of a floating-point datum; zero for NaN and infinities. -/
def Fl.q : Fl → Q
  | .fin s m e =>
    let a : Int := if e ≥ 0 then m * 2 ^ e.toNat else m
    ⟨if s then -a else a, if e ≥ 0 then 1 else 2 ^ (-e).toNat⟩
  | _ => ⟨0, 1⟩

/-- The sections of a line: length in m and velocity in m per ns. -/
def sectionsOf (b : List Byte) : List (Q × Q) :=
  (List.range (b.length / 16)).map (fun i =>
    ((unpack64 (leAt b (16 * i) 8)).q, ((unpack64 (leAt b (16 * i + 8) 8)).q).mul ⟨1, 1000000000⟩))

/-- The travel time τ of sections in ns. -/
def travelTime (l : List (Q × Q)) : Q := l.foldl (fun a s => a.add (s.1.div s.2)) ⟨0, 1⟩

/-- The length of sections in m. -/
def lineLength (l : List (Q × Q)) : Q := l.foldl (fun a s => a.add s.1) ⟨0, 1⟩

/-- Walk the sections from end A: the distance at a travel time, and the velocity there. -/
def walk : List (Q × Q) → Q → Q × Q
  | [], _ => (⟨0, 1⟩, ⟨0, 1⟩)
  | [s], t => let x := t.mul s.2; (if s.1.lt x then s.1 else x, s.2)
  | s :: l, t =>
    let tau := s.1.div s.2
    if tau.lt t then
      let r := walk l (t.sub tau)
      (s.1.add r.1, r.2)
    else (t.mul s.2, s.2)

/-- The travel time from end A to a distance. -/
def timeTo : List (Q × Q) → Q → Q
  | [], _ => ⟨0, 1⟩
  | s :: l, x => if s.1.lt x then (s.1.div s.2).add (timeTo l (x.sub s.1)) else x.div s.2

/-- Is a line model within its rules? -/
def Dev.lineOk (d : Dev) (l : Nat) : Bool :=
  let b := d.getB 0xA10002 l
  let t := d.getB 0xA10003 l
  let ss := sectionsOf b
  let fin := fun (w : Nat) => match unpack64 w with
    | .fin _ _ _ => true
    | _ => false
  let words := (List.range (b.length / 8)).map (fun i => leAt b (8 * i) 8)
  let taps := (List.range (t.length / 16)).map (fun i => leAt t (16 * i) 8)
  b.length % 16 == 0 && decide (b.length ≤ 128) && t.length % 16 == 0 && decide (t.length ≤ 64)
    && (!d.on 0xA10001 l || decide (16 ≤ b.length)) && words.all fin && taps.all fin
    && ss.all (fun s => (⟨0, 1⟩ : Q).lt s.1 && (⟨0, 1⟩ : Q).lt s.2 && s.2.le ⟨299792458, 1000000000⟩)
    && taps.all (fun w => (⟨0, 1⟩ : Q).le (unpack64 w).q && ((unpack64 w).q).le (lineLength ss))

/-- A line applied: τ in ns in object 0xA100:06. -/
def Dev.applyLine (d : Dev) (l : Nat) : Dev := d.put 0xA10006 l (travelTime (sectionsOf (d.getB 0xA10002 l))).f64

/-! ### Arrival records (R384, R385) -/

/-- Fields of an arrival record. -/
def arTime (now : Nat) (b : List Byte) : Nat := timeOfTs64 now (leAt b 0 8) + leAt b 8 2
def arConf (b : List Byte) : Nat := leAt b 10 2
def arLine (b : List Byte) : Nat := byteAt b 18
def arFlags (b : List Byte) : Nat := byteAt b 19
def arUnc (b : List Byte) : Nat := leAt b 20 4
def arId (b : List Byte) : Nat := leAt b 24 4
def arEvent (b : List Byte) : Nat := leAt b 28 2

/-- The device's bound on its time error in ns: object 0xA001:01 while LOCKED, E(t) in HOLDOVER, all ones when not
traceable. -/
def Dev.timeUnc (d : Dev) : Nat :=
  if !d.traceable then 0xFFFFFFFF else
  match d.tim.holder with
  | some k => if d.servo k = 2 then d.get 0xA00101 0 else d.holdoverNow k / 65536 % 2 ^ 32
  | none => 0xFFFFFFFF

/-- The open or held event that captures a line around a time. -/
def Dev.eventOfLine (d : Dev) (l t : Nat) : Nat :=
  ((List.range 64).find? (fun e => d.capState e != 0 && bit (d.capture e).lines l
    && decide ((d.capture e).start ≤ t ∧ t < (d.capture e).end_))).getD 0xFFFF

/-- An arrival record enters the log (object 0xA040); the place holds no remote sender. [DEDUCED: log 72] -/
def Dev.logArrival (d : Dev) (b : List Byte) : Dev :=
  let n := d.wave.logNext
  (d.putB 0xA04001 n b).setWave { d.wave with logNext := (n + 1) % 4096, senders := tput 0 d.wave.senders n 0 }

/-- A line that holds no line event. -/
def line0 : Line := ⟨none, none⟩

/-- Line `l`. -/
def Dev.line (d : Dev) (l : Nat) : Line := tget line0 d.wave.lines l

/-- Replace a line. -/
def Dev.setLine (d : Dev) (l : Nat) (x : Line) : Dev := d.setWave { d.wave with lines := tput line0 d.wave.lines l x }

/-- 2τ + tolerance of a line in units of 2^-16 ns, rounded down. -/
def Dev.lineSpan (d : Dev) (l : Nat) : Nat :=
  let t := travelTime (sectionsOf (d.getB 0xA10002 l))
  if t.d = 0 then 0 else (2 * t.n.toNat * 65536) / t.d + ns (d.get 0xA1000B l)

/-! ### Locations (R389 to R391) -/

/-- A time difference in ns. -/
def qTime (a b : Nat) : Q := ⟨(a : Int) - b, 65536⟩

/-- Write an entry of the location log, and raise "fault located" (R391). -/
def Dev.logLocation (d : Dev) (l method flags dist local_ remote score unc ev : Nat) : Dev :=
  let n := d.wave.located + 1
  let e := [byte l, byte method, byte flags, 0] ++ leBytes 4 n ++ leBytes 8 dist ++ leBytes 8 (ts64Of local_)
    ++ leBytes 2 local_ ++ leBytes 2 score ++ leBytes 4 unc ++ leBytes 8 (if method = 1 then ts64Of remote else 0)
    ++ leBytes 2 (if method = 1 then remote else 0) ++ leBytes 2 ev ++ zeros 4
  let d := (d.putB 0xA11001 d.wave.locNext e).setWave { d.wave with locNext := (d.wave.locNext + 1) % 256, located := n % 2 ^ 32 }
  (d.inc 0xA1000F l).raise 291 l 0 0

/-- The binary64 NaN of an OUTSIDE result. -/
def nan64 : Nat := 0x7FF8000000000000

/-- Double-ended location of a line event whose two FIRST records are held (R389). -/
def Dev.locateDouble (d : Dev) (l : Nat) (ev : LineEv) (remote : List Byte) : Dev :=
  if !bit (d.get 0xA10004 l) 0 then d else
  let ss := sectionsOf (d.getB 0xA10002 l)
  let tau := travelTime ss
  let tl := arTime d.now ev.first
  let tr := arTime d.now remote
  let diff := if d.get 0xA10005 l = 0 then qTime tl tr else qTime tr tl
  let outside := (tau.add ⟨d.get 0xA1000B l, 1⟩).lt diff.abs
  let th := (tau.add diff).mul ⟨1, 2⟩
  let th := if th.lt ⟨0, 1⟩ then ⟨0, 1⟩ else if tau.lt th then tau else th
  let w := walk ss th
  let sum := arUnc ev.first + arUnc remote
  let unc := ((w.2.mul ⟨(sum + 40 : Nat), 2⟩).add (unpack (d.get 0xA10010 l)).q).f32
  let flags := 2 * b2n outside + 4 * b2n (bit (arFlags ev.first) 0 || bit (arFlags remote) 0)
    + 8 * b2n (decide (sum > d.get 0xA1000D l))
  d.logLocation l 1 flags (if outside then nan64 else w.1.f64) tl tr 0 unc (arEvent ev.first)

/-- The double-ended result is formed once both FIRST records are held. -/
def Dev.tryDouble (d : Dev) (l : Nat) : Dev :=
  match (d.line l).ev with
  | none => d
  | some ev =>
    match ev.remote with
    | some r =>
      if ev.double || ev.waitOver then d
      else (d.setLine l { d.line l with ev := some { ev with double := true } }).locateDouble l ev r
    | none => d

/-- A candidate's score (R390). -/
def scoreOf (tau tol : Q) (later : List Q) (taps : List Q) (th : Q) : Nat :=
  let two := fun (x : Q) => x.mul ⟨2, 1⟩
  let pred := [two th, two (two th), two (tau.sub th)] ++ taps.map (fun p => two (th.sub p).abs)
  (pred.filter (fun p => p.le ((two tau).add tol) && later.any (fun a => (a.sub p).abs.le tol))).length

/-- SINGLE_ENDED_LOCATION of line `l` at 2τ + tolerance after the FIRST arrival (R390); times are taken from it. [DEDUCED: log 75] -/
def singleEndedLocation (l : Nat) (d : Dev) : Dev :=
  match (d.line l).ev with
  | none => d
  | some ev =>
    if ev.single then d else
    let t1 := arTime d.now ev.first
    let d := d.at_ (t1 + d.lineSpan l)
    let d := d.setLine l { d.line l with ev := some { ev with single := true } }
    if !bit (d.get 0xA10004 l) 1 then d else
    let ss := sectionsOf (d.getB 0xA10002 l)
    let tau := travelTime ss
    let tol : Q := ⟨d.get 0xA1000B l, 1⟩
    let endB := d.get 0xA10005 l == 1
    let tb := d.getB 0xA10003 l
    let taps := (List.range (tb.length / 16)).map (fun i =>
      let t := timeTo ss (unpack64 (leAt tb (16 * i) 8)).q
      if endB then tau.sub t else t)
    let later := ev.later.map (fun a => qTime (arTime d.now a) t1)
    let cand := later.map (fun a => a.mul ⟨1, 2⟩) ++ later.map (fun a => tau.sub (a.mul ⟨1, 2⟩))
    let score := scoreOf tau tol later taps
    let best := cand.foldl (fun (b : Option (Q × Nat)) th => match b with
      | none => some (th, score th)
      | some (x, n) => if score th > n ∨ (score th = n ∧ th.lt x = true) then some (th, score th) else b) none
    match best with
    | none => d
    | some (th, n) =>
      if n < 2 then d else
      let amb := cand.any (fun x => score x == n && (tol.mul ⟨2, 1⟩).lt (x.sub th).abs)
      let fromA := if endB then tau.sub th else th
      let fromA := if fromA.lt ⟨0, 1⟩ then ⟨0, 1⟩ else if tau.lt fromA then tau else fromA
      let w := walk ss fromA
      let unc := ((w.2.mul ⟨40, 2⟩).add (unpack (d.get 0xA10010 l)).q).f32
      d.logLocation l 2 (b2n amb + 4 * b2n (bit (arFlags ev.first) 0)) w.1.f64 t1 0 n unc (arEvent ev.first)

/-- REMOTE_WAIT_TIMEOUT: the remote wait has passed since the local FIRST record was formed (R389). -/
def remoteWaitTimeout (l : Nat) (d : Dev) : Dev :=
  match (d.line l).ev with
  | none => d
  | some ev =>
    if ev.remote.isSome then d else
    (d.at_ (ev.heard + ms (d.get 0xA1000E l))).setLine l { d.line l with ev := some { ev with waitOver := true } }

/-- A confident local arrival of a line belongs to its open line event, or starts one and carries FIRST (R385); a remote
FIRST record that came before joins it. Gives the record as logged. -/
def Dev.lineArrival (d : Dev) (l : Nat) (b : List Byte) : List Byte × Dev :=
  let t := arTime d.now b
  let x := d.line l
  let same := match x.ev with
    | some ev => decide (t ≤ arTime d.now ev.first + d.lineSpan l)
    | none => false
  match x.ev, same with
  | some ev, true => (b, d.setLine l { x with ev := some { ev with later := ev.later ++ [b], unsent := ev.unsent ++ [b] } })
  | _, _ =>
    let b := splice b 19 [byte (arFlags b ||| 4)]
    let early := match x.early with
      | some (at_, r) => if d.now ≤ at_ + ms (d.get 0xA1000E l) then some r else none
      | none => none
    let before := match x.ev with
      | some ev => ev.unsent
      | none => []
    let d := d.setLine l ⟨some ⟨b, [], before ++ [b], early, false, false, false, d.now⟩, none⟩
    (b, d.tryDouble l)

/-- ARRIVAL_HANDOFF of region `g` (R384, R385): the oldest committed arrival becomes an arrival record. -/
def arrivalHandoff (g : Nat) (d : Dev) : Dev :=
  match d.wave.handoff.find? (fun x => x.1 == g) with
  | none => d
  | some (_, u) =>
    let d := d.setWave { d.wave with handoff := d.wave.handoff.erase (g, u) }
    let aux := leAt u 24 4
    let c := aux % 65536
    let l := if c < 512 then d.get 0xA01002 c else 0xFF
    let d := d.inc 0xA00102 0
    let amp := match unpack64 (leAt u 16 8) with
      | .fin s m e => (pack32 s m e).1
      | .inf s => inf32 s
      | .nan _ => qNaN
    let t := updTime d.now u
    let ev := if l < 64 then d.eventOfLine l t else 0xFFFF
    let b := slice u 8 8 ++ slice u 28 2 ++ leBytes 2 (aux / 65536) ++ leBytes 4 amp ++ leBytes 2 c
      ++ [byte l, byte (b2n (bit (leAt u 4 4) 14) + 2 * b2n d.traceable)] ++ leBytes 4 d.timeUnc
      ++ leBytes 4 (d.get 0xA00102 0) ++ leBytes 2 ev ++ zeros 2
    if l < 64 && d.on 0xA10001 l && decide (aux / 65536 ≥ d.get 0xA1000C l) then
      let r := d.lineArrival l b
      r.2.logArrival r.1
    else d.logArrival b

/-! ### COMMIT checks (R372, R378, R384, R388) -/

/-- The bytes that captures and rings reserve in a region. -/
def Dev.captureNeed (d : Dev) (g : Nat) : Nat :=
  (d.sensors.filter (fun i => d.get 0xA00007 i == g)).foldl (fun a i =>
    let p := d.get 0xA00008 i
    a + d.get 0xA00005 i * (64 * (10000000 / p * 2) + 2 * ringDepth p)) 0

/-- The COMMIT checks of this chapter; 0 for none. -/
def Dev.checkWave (d : Dev) (o e : Nat) : Nat :=
  let i := o / 256
  let bad := fun (ok : Bool) => if ok then 0 else 0x0404
  if i = 0xA000 then
    let spans := d.sensors.map (fun i => (d.get 0xA00006 i, d.get 0xA00005 i))
    bad (1000000000 % d.get 0xA00008 e == 0 && (!d.on 0xA00001 e ||
      (overlapFree spans && decide (d.get 0xA00006 e + d.get 0xA00005 e ≤ 512)
        && (List.range 4).all (fun g => decide (d.captureNeed g ≤ d.get 0xA02006 0))
        && !(d.sensors.any (fun j => j != e && (d.get 0xA00002 j &&& d.get 0xA00002 e) != 0
          && d.getB 0xA00003 j == d.getB 0xA00003 e && d.get 0xA00004 j == d.get 0xA00004 e)))))
  else if i = 0xA100 then bad (d.lineOk e)
  else 0

/-- Another PERIOD of a sensor: the rings of its channels begin empty. -/
def Dev.applySensor (d : Dev) (o e : Nat) : Dev :=
  if o ≠ 0xA00008 ∨ d.get o e = d.getSh o e then d else
  let mine := fun c => decide (d.get 0xA00006 e ≤ c ∧ c < d.get 0xA00006 e + d.get 0xA00005 e)
  d.setWave { d.wave with chans := tdrop mine d.wave.chans }

/-- A reset of a region clears its part of every event, and its rings, screens and snippets (R380). -/
def Dev.waveRegionReset (d : Dev) (g : Nat) : Dev :=
  let mine := (List.range 512).filter (fun c => (d.sensorOf c).isSome && d.wregion c == g)
  let d := d.setWave { d.wave with
    chans := tdrop (fun c => mine.contains c) d.wave.chans
    snippets := d.wave.snippets.filter (fun x => d.wregion x.chan != g)
    handoff := d.wave.handoff.filter (fun x => x.1 != g) }
  (List.range 64).foldl (fun d e =>
    let x := d.capture e
    let hit := x.chans.filter (fun c => mine.contains c)
    if d.capState e = 0 || hit.isEmpty then d
    else if hit.length = x.chans.length then ((d.setCapture e capture0).put 0xA02104 e 0).showCapture e
    else (d.setCapture e { x with samples := tdrop (fun c => mine.contains c) x.samples, gaps := true }).showCapture e) d

/-- Sensor counts start again at a close (R374). -/
def Dev.closeSensors (d : Dev) : Dev :=
  d.setWave { d.wave with sensors := tmap sensor0 (fun s => { sensor0 with seq := s.seq }) d.wave.sensors }

end Sys2Proof.Machine
end

