-- ==== Sys2Proof/Machine/Scopes.lean ====
section
/-! DEFINITION. Scopes of resets and safe states, what lies inside which (R7, R8, R463), and which resets are in progress. -/
namespace Sys2Proof.Machine

/-- The scopes that hold the instance of a detection (R454, R463). -/
def Dev.scopesOf (d : Dev) (src unit : Nat) : List Scope :=
  if src ∈ [16, 17, 18, 19, 20, 21] then [.time, .device]
  else if src = 22 ∨ src = 23 then replicaScopes unit
  else if src ∈ [64, 65, 66, 67, 68, 72] then portScopes unit
  else if src = 69 then portScopes (unit / 4)
  else if src ∈ [144, 145, 146, 148, 149] then [.ring unit, .device]
  else if src = 147 then [.ring (unit / 256), .device]
  else if src = 150 then ringPortScopes unit
  else if (208 ≤ src ∧ src ≤ 222) ∨ src = 224 then engineScopes (d.hostOf unit)
  else if src = 223 then engineScopes (d.hostOf (unit / 16))
  else if src = 225 ∨ src = 226 then clusterScopes unit
  else if src = 256 then regionScopes (regionOfSig unit)
  else if src ∈ [257, 258, 259, 261, 262] then regionScopes unit
  else if 320 ≤ src ∧ src ≤ 323 then [.endpoint, .device]
  else if src = 352 then queueScopes unit
  else if src = 384 ∨ src = 385 then ledgerScopes 10 (unit / 2 * 8)
  else if src = 386 then ledgerScopes 10 (unit * 8)
  else if 416 ≤ src ∧ src ≤ 429 then ledgerScopes (src - 415) unit
  else [.device]

/-- A reset of one of the scopes is under way, or completed no more than 10 µs ago (R463). -/
def Dev.resetNear (d : Dev) (l : List Scope) (t : Nat) : Bool :=
  d.flt.resets.any (fun r => l.contains r.scope && decide (r.started ≤ t) && (match r.ended with
    | none => true
    | some e => decide (t ≤ e + us 10)))

end Sys2Proof.Machine
end

