-- ==== Sys2Proof/Machine/Ledger.lean ====
section
/-! DEFINITION. The conservation ledger: its equations, their snapshot at an epoch close, and the imbalance log (R15, R464
to R468). -/
namespace Sys2Proof.Machine

/-- No credits. -/
def credits0 : Credits := ⟨0, 0, 0⟩

/-- Credits of a link's virtual channel and direction (key 8 × link + 2 × VC + direction), or of region `g`'s crossbar
(key 100 + g). -/
def Dev.credits (d : Dev) (k : Nat) : Credits := tget credits0 d.arch.credits k

/-- A port's frame equation: held is the change over the epoch (R465). -/
def Dev.portSides (d : Dev) (p : Nat) : Sides :=
  let l := (d.port p).ledger
  ⟨1, p, l.received,
    ((l.delivered + l.forwarded + l.eliminated + l.drops.foldl (fun a x => a + x.2) 0 + d.framesHeld p : Nat) : Int) - l.heldAt⟩

/-- A ring port's copies (R216). -/
def Dev.ringPortSides (d : Dev) (i : Nat) : Sides :=
  let c := fun k => tget 0 (d.ring (i / 2)).received4 (4 * (i % 2) + k)
  ⟨2, i, c 0, c 1 + c 2 + c 3⟩

/-- A ring's slots (R216). [DEDUCED: log 120] -/
def Dev.ringSides (d : Dev) (r : Nat) : Sides := ⟨3, r, (d.ring r).expected, (d.ring r).slotsTaken + (d.ring r).slotsMissing⟩

/-- A queue's entries (R448). -/
def Dev.queueSides (d : Dev) (q : Nat) : List Sides :=
  let x := d.queue q
  if x.state = 0 then [] else
  let own : Int := (x.next : Int) - x.fin
  [⟨4, q, (x.fetched : Int) - x.finished - x.abandoned, own⟩, ⟨4, q, own, minInt own (2 ^ x.log2 : Nat)⟩]

/-- A port's transmit timestamp entries. -/
def Dev.tsqSides (d : Dev) (p : Nat) : Sides :=
  let x := d.tsq p
  ⟨5, p, x.captured, ((x.read + x.dropped + x.entries.length : Nat) : Int) - x.heldAt⟩

/-- An engine's work tokens. -/
def Dev.engineSides (d : Dev) (f : Nat) : Sides :=
  let x := d.engine f
  ⟨6, f, x.got, x.done + x.pending.length + b2n x.act.isSome + x.lost⟩

/-- A cluster's tokens and shared memory. -/
def Dev.clusterSides (d : Dev) (k : Nat) : List Sides :=
  let sum := fun (f : Engine → Nat) => (List.range 8).foldl (fun a i => a + f (d.engine (8 * k + i))) 0
  let need := d.sharedNeed k
  [⟨7, k, sum (·.issued), sum (·.got)⟩, ⟨7, k, (8192 - need) + need, 8192⟩]

/-- A region's signal updates. -/
def Dev.regionSides (d : Dev) (g : Nat) : Sides :=
  let l := (d.region g).ledger
  ⟨8, g, l.accepted, l.written + l.late + l.rejected⟩

/-- Credits issued against credits returned and held. -/
def Dev.creditSides (d : Dev) (id inst k : Nat) : Sides :=
  let c := d.credits k
  ⟨id, inst, c.issued, c.returned + c.held⟩

/-- Hub buffer cells. -/
def Dev.cellSides (d : Dev) : Sides := ⟨11, 0, (524288 - d.cellsUsed) + d.cellsUsed, 524288⟩

/-- A stream's number in ledgers 12 and 13: ring-slot streams 65,536 + stream. [DEDUCED: log 144] -/
def streamInst (k : Nat) : Nat := if k / 65536 = kRing then 65536 + k % 65536 else k % 65536

/-- A stream's frames and sets (R268). -/
def streamSides (k : Nat) (l : StreamLedger) : List Sides :=
  [⟨12, streamInst k, l.classified, l.accepted + l.malformed + l.confRev + l.nonData⟩,
   ⟨13, streamInst k, l.sets, l.written + l.late + l.repeated + l.future + l.bankChange + l.mismatch + l.noData⟩]

/-- A wavefront sensor's frames and samples (R374). -/
def sensorSides (e : Nat) (x : Sensor) : List Sides :=
  [⟨14, e, x.classified, x.accepted + x.malformed⟩, ⟨14, e, x.samples, x.written + x.repeated + x.late⟩]

/-- Every equation of the ledger in ledger and instance order (R464). -/
def Dev.allSides (d : Dev) : List Sides :=
  (List.range 17).map d.portSides ++ (List.range 4).map d.ringPortSides ++ (List.range 2).map d.ringSides
  ++ d.host.queues.flatMap (fun p => d.queueSides p.1)
  ++ (List.range 16).map d.tsqSides ++ d.eng.engines.map (fun p => d.engineSides p.1)
  ++ (List.range 16).flatMap d.clusterSides ++ (List.range 4).map d.regionSides
  ++ (List.range 4).map (fun g => d.creditSides 9 g (100 + g)) ++ (List.range 24).map (fun k => d.creditSides 10 k k)
  ++ [d.cellSides] ++ d.ing.streams.flatMap (fun p => streamSides p.1 p.2.ledger)
  ++ d.wave.sensors.flatMap (fun p => sensorSides p.1 p.2)

/-- Is a ledger checked at this close: not while its scope is in reset, nor a region that is absent (R467, R468)? -/
def Dev.checked (d : Dev) (able : Nat) (s : Sides) : Bool :=
  !d.inReset (ledgerScopes s.id s.inst) && !((s.id == 8 || s.id == 9) && !bit able s.inst)

/-- The equations that do not balance in a close's snapshot. -/
def Dev.imbalances (d : Dev) (able : Nat) : List Sides := d.allSides.filter (fun s => d.checked able s && decide (s.left ≠ s.right))

/-! ### A new epoch's counts: a ledger that was not checked keeps its counts (R468) -/

/-- A port's counts begin again. -/
def Dev.newPortEpoch (d : Dev) (p : Nat) : Dev :=
  let d := if d.inReset (ledgerScopes 1 p) then d else d.updLedger p (fun _ => { portLedger0 with heldAt := d.framesHeld p })
  if p = 16 || d.inReset (ledgerScopes 5 p) then d else
  let x := d.tsq p
  d.setTsq p { x with captured := 0, read := 0, dropped := 0, heldAt := x.entries.length }

/-- A ring's counts begin again. -/
def Dev.newRingEpoch (d : Dev) (r : Nat) : Dev :=
  let keep := fun p => d.inReset (ledgerScopes 2 (ringElem r p))
  let d := if d.inReset (ledgerScopes 3 r) then d else
    d.updRing r (fun x => { x with expected := 0, slotsTaken := 0, slotsMissing := 0 })
  d.updRing r (fun x => { x with received4 := tdrop (fun k => !keep (k / 4)) x.received4 })

/-- A region's counts begin again; a writer's rejection may be reported anew (R293). -/
def Dev.newRegionEpoch (d : Dev) (g : Nat) : Dev :=
  let x := d.region g
  d.setRegion g { x with ledger := ⟨0, 0, 0, 0⟩, rejectSeen := [] }

/-- Every ledger begins a new epoch. -/
def Dev.newLedgers (d : Dev) : Dev :=
  let d := (List.range 17).foldl Dev.newPortEpoch d
  let d := (List.range 2).foldl Dev.newRingEpoch d
  let d := (List.range 4).foldl Dev.newRegionEpoch d
  d.closeStreams.closeSensors

/-! ### The imbalance log (R466) -/

/-- Two's complement bytes of a signed 64-bit value. -/
def i64Bytes (x : Int) : List Byte := leBytes 8 (ofInt 64 x)

/-- An equation that does not balance raises its source, DETAIL left minus right, and enters the imbalance log. [DEDUCED: log 145] -/
def Dev.logImbalance (d : Dev) (n : Nat) (s : Sides) : Dev :=
  let d := d.raise (415 + s.id) s.inst 0 (ofInt 64 (s.left - s.right))
  let k := d.flt.imbNext
  let d := d.putB 0x810001 k (leBytes 8 n ++ leBytes 1 s.id ++ zeros 3 ++ leBytes 4 s.inst ++ i64Bytes s.left ++ i64Bytes s.right)
  ({ d with flt := { d.flt with imbNext := (k + 1) % 64 } } : Dev).inc 0x810002 0

end Sys2Proof.Machine
end

