-- ==== Sys2Proof/Machine/Publish.lean ====
section
/-! DEFINITION. Epochs start, close and are published; export lists; changes of period and horizon (R344 to R351, R361 to
R364, R366 to R368). -/
namespace Sys2Proof.Machine

/-! ### Boundaries -/

/-- The first epoch boundary at or after a time (R62); one that is a whole TAI second where asked (R346). -/
def Dev.epochBoundary (d : Dev) (t : Nat) (whole : Bool) : Nat :=
  let s := segAt t d.tab.segs
  let b := if s.len = 0 then t else s.bound (s.n + ((t - s.start) * s.perSec + s.len - 1) / s.len)
  if whole && decide (s.perSec > 1) then ceilTo t (sec 1) else b

/-- The anchor of epochs that start at or after a time under a period (R344): held from a whole second on, so that every
later start is computed exactly. -/
def anchorFrom (t perSec secs horizon : Nat) : Nat × Seg :=
  if perSec > 1 then
    let n := (t * perSec + sec 1 - 1) / sec 1
    (n, ⟨n / perSec * perSec, sec (n / perSec), perSec, 1, horizon⟩)
  else
    let n := (t + sec secs - 1) / sec secs
    (n, ⟨n, n * sec secs, 1, secs, horizon⟩)

/-- Objects 0x6000:01 to 03 applied at boundary `t`: the epoch that starts there is the new anchor, its number one greater
than the one before it (R344, R346). -/
def Dev.applyPeriod (d : Dev) (t : Nat) : Dev :=
  if !d.tab.running then d else
  let old := d.tab.segs.filter (fun s => decide (s.start ≠ t))
  let n := (segAt t old).epochOf t
  d.setTab { d.tab with segs := old ++ [⟨n, t, d.get 0x600001 0, d.get 0x600002 0, d.get 0x600003 0⟩] }

/-! ### Start -/

/-- EPOCH_START (R350): in RUN, at the first boundary at least 200 µs after all four regions are up. -/
def epochStart (d : Dev) : Dev :=
  match d.tab.upSince with
  | none => d
  | some t =>
    if d.tab.running || d.power != 2 then d else
    let a := anchorFrom (t + us 200) (d.get 0x600001 0) (d.get 0x600002 0) (d.get 0x600003 0)
    let d := d.at_ (a.2.bound a.1)
    d.setTab { d.tab with
      segs := [a.2], running := true, first := true, closed := a.1 - 1, cut := a.1 - 1, closing := [], pub := none,
      prev := none }

/-! ### Close -/

/-- Does region `g` report epoch `n` if asked at its close (R349)? -/
def Dev.regionAble (d : Dev) (n g : Nat) : Bool := d.regionRuns g && (d.rep (21 + g)).sync && decide ((d.region g).absentTo < n)

/-- EPOCH_CLOSE (R348): the newest epoch not yet closed closes at X; the ledgers' snapshot is taken and they begin again.
An ingest cutoff not yet taken is taken first. [DEDUCED: log 58] -/
def epochClose (d : Dev) : Dev :=
  if !d.tab.running then d else
  let n := d.tab.closed + 1
  let d := if d.tab.cut < n then ingestCutoff d else d
  let x := d.closeAt n
  let step := decide (d.tim.stepFrom < x) && decide (x ≤ d.tim.stepTo)
  let d := d.at_ x
  let able := (List.range 4).foldl (fun m g => m + b2n (d.regionAble n g) * 2 ^ g) 0
  let totals := (List.range 4).map (fun g => let l := (d.region g).ledger; ⟨g, l.written, l.late, l.rejected⟩)
  let c : Closing := ⟨n, if d.now < x then x else d.now, able, 0, totals, d.imbalances able, step⟩
  let d := (d.setTab { d.tab with closed := n, closing := d.tab.closing ++ [c] }).newLedgers
  let d := (d.expireActs n).retireImages
  ({ d with obj := { d.obj with old := d.obj.old.filter (fun o => decide (o.boundary > d.epochEnd n)) } } : Dev)

/-- REGION_CLOSE_REPORT (R348, R349): region `g` reports the oldest epoch it has not reported, 1 µs after its close; a report
that would come after X + 1.5 µs is not taken. -/
def regionCloseReport (g : Nat) (d : Dev) : Dev :=
  match d.tab.closing.find? (fun c => bit c.able g && !bit c.reported g) with
  | none => d
  | some c =>
    let d := d.at_ (c.at_ + us 1)
    if decide (d.now > c.at_ + ns 1500) || !d.regionRuns g then d else
    d.setTab { d.tab with
      closing := d.tab.closing.map (fun y => if y.n = c.n then { y with reported := setBit y.reported g true } else y) }

/-! ### Export lists (R361 to R363) -/

/-- The members of list `l`: the first LENGTH signal IDs of its blocks; a position not written reads as zero. [DEDUCED: log 123] -/
def Dev.listMembers (d : Dev) (l : Nat) : List Nat :=
  (List.range (d.get 0x620002 l)).map (fun i => leAt (padTo 4096 (d.getB 0x621001 (1024 * l + i / 1024))) (4 * (i % 1024)) 4)

/-- The export header (R362). -/
def exportHeader (list n start count len flags seq : Nat) : List Byte :=
  [0x4B, 0x58, 0x45, 0x4C] ++ leBytes 2 1 ++ leBytes 2 list ++ leBytes 8 n ++ leBytes 12 (ktimeOf start) ++ leBytes 4 count
    ++ leBytes 4 len ++ [byte flags] ++ zeros 3 ++ leBytes 8 seq ++ zeros 16

/-- The enabled lists in ascending order. -/
def Dev.exportLists (d : Dev) : List Nat := (d.listed 0x620001).filter (fun l => d.on 0x620001 l)

/-- A block closed short at a publication (R363): as many entries as the buffers offered hold, COUNT and OVERRUN set. -/
def Block.cut (b : Block) (room : Nat) : Block :=
  let c := (room - 64) / 32
  let c := if c < b.count then c else b.count
  { b with
    header := splice (splice b.header 28 (leBytes 4 c)) 36 [byte (byteAt b.header 36 ||| 1)], body := b.body.take (32 * c), count := c }

/-- An export of a queue that has not finished before the next publication stops (R363). -/
def Dev.overrunQueue (d : Dev) (q : Nat) : Dev :=
  let x := d.queue q
  x.blocks.foldl (fun d b =>
    if b.kind ≠ 0 then d else
    let y := d.queue q
    let rest := y.blocks.filter (fun z => z ≠ b)
    let stock := y.entries.filter (fun e => e.phase == .stock)
    let room := stock.foldl (fun a e => a + exportLen e) 0
    let front := y.blocks.head? == some b
    if !front || stock.isEmpty || decide (room < 96) || !d.hostUp then (d.setQueue q { y with blocks := rest }).abandonBlock b
    else
      let c := b.cut room
      let bufs := (takeBuffers (c.header.length + c.body.length) y.entries).1
      (((d.setQueue q { y with blocks := rest }).writeBlock q c true bufs).inc 0x620005 b.source).raise 260 b.source 0 0) d

/-- Every enabled list exports the epoch just published into its queue, in ascending order (R362). [DEDUCED: log 119] -/
def Dev.exportEpoch (d : Dev) (p : PubEpoch) : Dev :=
  let start := d.epochStart p.n
  d.exportLists.foldl (fun d l =>
    let ms := d.listMembers l
    let seq := tget 0 d.tab.exportSeq l + 1
    let d := d.setTab { d.tab with exportSeq := tput 0 d.tab.exportSeq l seq }
    let h := exportHeader l p.n start ms.length ms.length (b2n p.ledgerOk * 2 + p.present % 16 * 16) seq
    d.pushBlock (d.get 0x620003 l) ⟨0, l, p.n, h, ms.flatMap (fun i => d.view i (some p) 0), ms.length⟩) d

/-- Object 0x6200:01 applied: a list's sequence counts since it was enabled (R362). -/
def Dev.applyList (d : Dev) (l : Nat) : Dev :=
  if d.on 0x620001 l then d else d.setTab { d.tab with exportSeq := tput 0 d.tab.exportSeq l 0 }

/-! ### Publication -/

/-- The epoch record (R351). [DEDUCED: log 118] -/
def Dev.epochRecord (d : Dev) (p : PubEpoch) (c : Closing) : List Byte :=
  let s := segOf p.n d.tab.segs
  let sum := fun (f : Totals → Nat) => c.totals.foldl (fun a t => if bit c.reported t.region then a + f t else a) 0
  let flags := p.present % 16 + b2n p.ledgerOk * 16 + b2n d.tab.first * 32 + b2n c.step * 64
  leBytes 8 p.n ++ leBytes 12 (ktimeOf (d.epochStart p.n)) ++ leBytes 2 s.perSec ++ leBytes 1 s.secs ++ [byte flags]
    ++ leBytes 4 s.horizon ++ leBytes 8 (sum (·.written)) ++ leBytes 8 (sum (·.late)) ++ leBytes 8 (sum (·.rejected))
    ++ leBytes 8 (ts64Of d.now) ++ zeros 4

/-- Updates held until the publication of epoch `n` are written to their slots (R347). -/
def Dev.releaseUpdates (d : Dev) (n : Nat) : Dev :=
  (List.range 4).foldl (fun d g =>
    let x := d.region g
    let go := x.held.filter (fun h => decide (h.epoch ≤ n + 2))
    let d := d.setRegion g { x with held := x.held.filter (fun h => decide (h.epoch > n + 2)) }
    go.foldl (fun d h => d.writeUpd h.source h.epoch h.record) d) d

/-- A pin of the epoch that becomes P−2 lapses with the publication (R360). -/
def Dev.pubLapse (d : Dev) : Dev :=
  match d.tab.pin, d.tab.prev with
  | some p, some e => if p.epoch = e.n then d.lapsePin else d
  | _, _ => d

/-- Anchors that no open or readable epoch needs are dropped. -/
def trimSegs (n : Nat) (l : List Seg) : List Seg := l.filter (fun s => decide (s.start ≥ (segOf n l).start))

/-- EPOCH_PUBLISH (R348 to R351): the oldest closed epoch is published 2 µs after its close and 2 µs after the one before. -/
def epochPublish (d : Dev) : Dev :=
  match d.tab.closing with
  | [] => d
  | c :: rest =>
    let d := d.at_ (c.at_ + us 2)
    let d := if d.tab.lastPub ≤ d.now then d.at_ (d.tab.lastPub + us 2) else d
    let bad := c.sides.filter (fun s => !(s.id == 8 || s.id == 9) || bit c.reported s.inst)
    let p : PubEpoch := ⟨c.n, c.reported, bad.isEmpty⟩
    let rec1 := if d.tab.pub.isSome then d.getB 0x600201 0 else zeros 64
    let bs := d.epochRecord p c
    let d := (((d.put 0x600004 0 c.n).putB 0x600201 0 bs).putB 0x600201 1 rec1).pubLapse
    let d := d.setTab { d.tab with
      pub := some p, prev := d.tab.pub, closing := rest, first := false, lastPub := d.now,
      segs := trimSegs (c.n - 1) d.tab.segs }
    let d := d.releaseUpdates c.n
    let d := (List.range 4).foldl (fun d g => (if bit c.reported g then d else d.raise 259 g 0 0).freePoison g) d
    let d := bad.foldl (fun d s => d.logImbalance c.n s) d
    let d := d.host.queues.foldl (fun d q => d.overrunQueue q.1) d
    d.exportEpoch p

/-! ### What a COMMIT checks (R343, R344, R346, R361, R364, R367, R368) -/

/-- Add a fraction to a fraction, reduced. -/
def addFrac (a b : Nat × Nat) : Nat × Nat :=
  let n := a.1 * b.2 + b.1 * a.2
  let m := a.2 * b.2
  let g := Nat.gcd n m
  if g = 0 then (n, m) else (n / g, m / g)

/-- The updates per second that a region's bindings and streams may write, as a fraction (R368). [DEDUCED: log 124] -/
def Dev.updateRate (d : Dev) (g : Nat) : Nat × Nat :=
  let a := (d.bindings.filter (fun b => d.get 0x530001 b / 512 == g)).foldl (fun a b =>
    let i := d.bindInterval b
    if i.1 = 0 then a else addFrac a (ikMaxUpd (d.slotImage (d.get 0x530001 b)) * 1000000000 * i.2, i.1)) (0, 1)
  ((d.listed 0x611001).filter (fun n => d.on 0x611001 n && d.get 0x611005 n == g)).foldl (fun a n =>
    let b := d.getB 0x611007 n
    match cfgParse b with
    | some ps => let r := rateOfData (cfgDataRate b); addFrac a (cfgValues ps * r.num, r.den)
    | none => a) a

/-- The admitted rates in force show in object 0x6001:07. -/
def Dev.showRates (d : Dev) : Dev :=
  (List.range 4).foldl (fun d g => let r := d.updateRate g; d.put 0x600107 g (if r.2 = 0 then 0 else r.1 / r.2)) d

/-- Is the period's pair of objects allowed, and the horizon within the period (R344, R346)? -/
def Dev.periodOk (d : Dev) : Bool :=
  let k := d.get 0x600001 0
  let m := d.get 0x600002 0
  (decide (2 ≤ k ∧ k ≤ 480) && m == 1 || k == 1 && decide (1 ≤ m ∧ m ≤ 10)) && decide (d.get 0x600003 0 * k ≤ m * 1000000)

/-- May a horizon in force before stand with the new period (R346)? [DEDUCED: log 122] -/
def Dev.horizonOk (d : Dev) (old : Nat) : Bool :=
  let p := d.get 0x600002 0 * 1000000
  let h := old * d.get 0x600001 0
  !(decide (h > p) || (h == p && d.get 0x600003 0 == 0))

/-- The written blocks of the member store that are not empty. -/
def Dev.storeBlocks (d : Dev) : Nat := (d.obj.dict.oct.filter (fun p => p.1 / 4294967296 == 0x621001 && !p.2.isEmpty)).length

/-- Are the enabled lists within their limits (R361, R364)? -/
def Dev.listsOk (d : Dev) : Bool :=
  let ls := d.exportLists
  let total := ls.foldl (fun a l => a + d.get 0x620002 l) 0
  let bytes := ls.foldl (fun a l => a + (64 + 32 * d.get 0x620002 l)) 0
  decide (total ≤ 16777216) && decide (d.storeBlocks ≤ 16384)
    && decide (bytes * d.get 0x600001 0 ≤ 40000000000 * d.get 0x600002 0)
    && ls.all (fun l => decide (d.get 0x620003 l < 262144) && decide (d.get 0x620002 l ≤ 1048576))

/-- Are the members of a block signal IDs (R361)? -/
def membersOk (b : List Byte) : Bool := b.length % 4 == 0 && (chanList b).all (fun s => decide (s < 33554432))

/-- What a COMMIT checks of the signal table's objects, on the prospective device `d`; `act` is the device before it. -/
def Dev.checkTable (d act : Dev) (o e : Nat) : Nat :=
  let bad := fun (ok : Bool) => if ok then 0 else 0x0404
  let rates := (List.range 4).all (fun g => let r := d.updateRate g; decide (r.1 ≤ 500000000 * r.2))
  let i := o / 256
  if o = 0x600001 ∨ o = 0x600002 ∨ o = 0x600003 then
    bad (d.periodOk && d.horizonOk (act.get 0x600003 0) && d.listsOk && rates)
  else if o = 0x601001 then bad (act.get o e == 0 || d.get o e == 0 || act.get o e == d.get o e)
  else if i = 0x6200 then bad d.listsOk
  else if i = 0x6210 then bad (membersOk (d.getB o e) && d.listsOk)
  else if o = 0x830001 then bad (decide (d.get o 0 * d.get 0x600001 0 < 1073741824 * d.get 0x600002 0))
  else if i = 0x5300 ∨ o = 0x510001 ∨ i = 0x6110 ∨ i = 0x6130 then bad rates
  else 0

end Sys2Proof.Machine
end

