-- ==== Sys2Proof/Machine/Phasors.lean ====
section
/-! DEFINITION. Synchrophasor output streams (R333 to R337), and the sending of a frame through a generation function (R193,
R195, R196). -/
namespace Sys2Proof.Machine

/-! ### Sending through a generation function -/

/-- A generation function sends one frame: dropped within its restart silence; else it takes the next sequence number and goes
with the function's tag to each port of the mask that is not in the safe state. Where all are, the safe-state action says
whether it still goes, with every quality invalid: `make true` (R193, R195, R196, R458). Answers the ports it went to. -/
def Dev.genSend (d : Dev) (g : Nat) (cls : Nat → List Byte → Nat) (make : Bool → List Byte) (quality : Bool) : List Nat × Dev :=
  if !d.on 0x312002 g then ([], d)
  else if d.silenced g then ([], d.inc 0x312007 g)
  else
    let s := d.takeSeq g
    let open_ := d.genPorts g
    let all := (List.range 16).filter (fun n => bit (d.get 0x312003 g) n)
    let bad := open_.isEmpty && quality && d.get 0x312005 g == 1
    let ports := if bad then all else open_
    let b := make bad
    (ports, ports.foldl (fun d p =>
      let f := addTag (d.get 0x312008 g) s.1 p b
      d.enqueue p ⟨f, cls p b, .own, none, false, false, none, 0, 0⟩) s.2)

/-! ### Values (R335) -/

/-- A value slot near a reporting instant, g ÷ rate seconds: within 0.5 ns (R334). -/
def slotNear (g rate : Nat) (v : ValSlot) : Bool :=
  decide (((v.time * rate : Nat) : Int) - (g * sec 1 : Nat) ≤ 32768 * rate)
    && decide (((g * sec 1 : Nat) : Int) - (v.time * rate : Nat) ≤ 32768 * rate)

/-- The slot of a signal for a reporting instant, whether or not its epoch is closed. -/
def Dev.slotFor (d : Dev) (i g rate : Nat) : Option ValSlot := ((d.rec_ i).slots.find? (fun x => slotNear g rate x.2)).map (·.2)

/-- Round n ÷ d to the nearest integer, ties to even. -/
def roundRat (n : Int) (d : Nat) : Int :=
  let q := n / (d : Int)
  let r := n % (d : Int)
  if 2 * r < d then q else if 2 * r > d then q + 1 else if q % 2 = 0 then q else q + 1

/-- A scaled number as an integer encoding, saturated to ±32,767. -/
def intBytes16 (n : Int) (d : Nat) : List Byte :=
  let x := if d = 0 then 0 else roundRat n d
  beBytes 2 (ofInt 16 (maxInt (-32767) (minInt 32767 x)))

/-- A finite datum as a fraction: sign in the numerator. -/
def Fl.rat : Fl → Option (Int × Nat)
  | .fin s m e =>
    let n : Int := m * 2 ^ e.toNat
    some (if s then -n else n, 2 ^ (-e).toNat)
  | _ => none

/-- Scale a datum by a ÷ b into the integer encoding; infinities saturate, a NaN has the invalid code. -/
def int16Of (x : Fl) (a : Int) (b : Nat) (sub : Int) : List Byte :=
  match x with
  | .nan _ => [0x80, 0]
  | .inf s => intBytes16 (if s then -32767 else 32767) 1
  | .fin _ _ _ => match x.rat with
    | some (n, d) => intBytes16 ((n - sub * d) * a) (d * b)
    | none => [0x80, 0]

/-- A binary64 datum as binary32 bytes. -/
def float32Of (x : Fl) : List Byte :=
  match x with
  | .nan _ => beBytes 4 qNaN
  | .inf s => beBytes 4 (inf32 s)
  | .fin s m e => beBytes 4 (pack32 s m e).1

/-- The magnitude of an exact phasor in units of 2^-193, a lost remainder kept in the lowest unit. -/
def magnitude (x y : Int) (d : Nat) : Nat :=
  let n := (x * x + y * y).natAbs * 2 ^ 384
  let r := isqrt (n / (d * d))
  2 * r + b2n (decide (r * r * (d * d) ≠ n))

/-- A phasor's bytes in a block's format (R335): `free` stands for a division by a PHUNIT factor of zero. -/
def phasorBytes (p : Pmu) (unit free : Nat) (v : List Byte) : List Byte :=
  let re := unpack (leAt v 0 4)
  let im := unpack (leAt v 4 4)
  let k := unit % 2 ^ 24
  let polar := bit p.format 0
  let float := bit p.format 1
  if !float && k == 0 then beBytes 4 free
  else if !polar then
    if float then beBytes 4 (flushIn (leAt v 0 4)) ++ beBytes 4 (flushIn (leAt v 4 4))
    else int16Of re 100000 k 0 ++ int16Of im 100000 k 0
  else match re.rat, im.rat with
    | some (a, d), some (b, e) =>
      let x := a * e
      let y := b * d
      let m := magnitude x y (d * e)
      let ang := atan2Fix y x
      if float then beBytes 4 (pack32 false m (-193)).1 ++ beBytes 4 (fix32 ang)
      else intBytes16 (m * 100000) (k * 2 ^ 193) ++ intBytes16 (ang * 10000) (2 ^ 96)
    | _, _ => if float then beBytes 4 qNaN ++ beBytes 4 qNaN else [0x80, 0, 0x80, 0]

/-- The kinds of values of a block, in order: 0 phasor, 1 FREQ, 2 DFREQ, 3 analog, 4 digital, each with its unit. -/
def Pmu.kinds (p : Pmu) : List (Nat × Nat) :=
  (List.range p.ph).map (fun i => (0, p.phUnits.getD i 0)) ++ [(1, 0), (2, 0)]
    ++ (List.range p.an).map (fun i => (3, p.anUnits.getD i 0)) ++ (List.range p.dg).map (fun _ => (4, 0))

/-- A missing or invalid value (R335). -/
def absentBytes (p : Pmu) (kind : Nat) : List Byte :=
  if kind = 0 then (if bit p.format 1 then beBytes 4 qNaN ++ beBytes 4 qNaN else [0x80, 0, 0x80, 0])
  else if kind = 4 then [0, 0]
  else if (if kind = 3 then bit p.format 2 else bit p.format 3) then beBytes 4 qNaN else [0x80, 0]

/-- A value's bytes (R335). -/
def valueBytes (p : Pmu) (kind unit free : Nat) (v : List Byte) : List Byte :=
  let x := unpack64 (leAt v 0 8)
  if kind = 0 then phasorBytes p unit free v
  else if kind = 1 then
    if bit p.format 3 then float32Of x else int16Of x 1000 1 (if bit p.fnom 0 then 50 else 60)
  else if kind = 2 then (if bit p.format 3 then float32Of x else int16Of x 100 1 0)
  else if kind = 3 then
    let f := toInt 24 unit
    if bit p.format 2 then float32Of x
    else if f = 0 then beBytes 2 free
    else int16Of x (if f < 0 then -1 else 1) f.natAbs 0
  else beBytes 2 (leAt v 8 4)

/-! ### Time and status (R336) -/

/-- The smallest code whose bound, 1 ns times ten to a power, is at least an error in 2^-16 ns. -/
def timeQuality (err : Nat) : Nat :=
  match (List.range 11).find? (fun i => decide (err ≤ ns (10 ^ i))) with
  | some i => i + 1
  | none => 0xF

/-- The holder and its servo state. -/
def Dev.holderServo (d : Dev) : Nat :=
  match d.tim.holder with
  | some k => d.servo k
  | none => 0

/-- E(t) of the holder. -/
def Dev.holderErr (d : Dev) : Nat :=
  match d.tim.holder with
  | some k => d.holdoverNow k
  | none => 0

/-- FRACSEC bits 27:24. -/
def Dev.fracQuality (d : Dev) : Nat :=
  if !d.traceable then 0xF else if d.holderServo = 2 then 0 else timeQuality d.holderErr

/-- STAT bits 8:6: 1 below 100 ns, then each power of ten to 10 ms, 7 beyond or not traceable. -/
def Dev.pmuQuality (d : Dev) : Nat :=
  if !d.traceable then 7 else if d.holderServo = 2 then 1 else
  match (List.range 6).find? (fun i => decide (d.holderErr < ns (100 * 10 ^ i))) with
  | some i => i + 1
  | none => 7

/-- STAT bits 5:4: time since the holder left LOCKED. -/
def Dev.unlockedTime (d : Dev) : Nat :=
  if d.holderServo = 2 then 0 else
  match d.tim.holder.bind (fun k => (d.tim.tk k).hoSince) with
  | some t => let dt := d.now - t; if dt < sec 10 then 0 else if dt < sec 100 then 1 else if dt < sec 1000 then 2 else 3
  | none => 3

/-- TAI − UTC at a reporting instant that lies no more than a second back. -/
def Dev.utcAt (d : Dev) (t : Nat) : Int :=
  match d.tim.leapAt with
  | some l => if t < l then (if d.tim.leapDown then d.tim.utcOff + 1 else d.tim.utcOff - 1) else d.tim.utcOff
  | none => d.tim.utcOff

/-- FRACSEC (R336). -/
def Dev.fracsec (d : Dev) (t base : Nat) : Nat :=
  let n := t / 65536 % 1000000000
  let frac := (2 * n * base + 1000000000) / 2000000000
  let occurred := match d.tim.leapAt with
    | some l => decide (l ≤ t) && decide (t < l + sec 86400)
    | none => false
  let pending := d.tim.leap61 || d.tim.leap59
  let down := if pending then d.tim.leap59 else occurred && d.tim.leapDown
  b2n down * 2 ^ 30 + b2n occurred * 2 ^ 29 + b2n pending * 2 ^ 28 + d.fracQuality * 2 ^ 24 + frac % 2 ^ 24

/-! ### The frame (R334) -/

/-- An output stream before its first frame. -/
def pmu0 : PmuRun := ⟨none, none⟩

/-- Output stream `s`. -/
def Dev.pmu (d : Dev) (s : Nat) : PmuRun := tget pmu0 d.ing.pmus s

/-- Replace an output stream. -/
def Dev.setPmu (d : Dev) (s : Nat) (x : PmuRun) : Dev := d.setIng { d.ing with pmus := tput pmu0 d.ing.pmus s x }

/-- Object 0x6500:02 applied: a new CFG-2 frame (R336). -/
def Dev.applyPmu (d : Dev) (s t : Nat) : Dev := d.setPmu s ⟨none, some t⟩

/-- The next reporting instant of a stream, counted at its rate (R334): after the last one built; before the first, the
first whose wait is not over. -/
def Dev.pmuNext (d : Dev) (s rate : Nat) : Nat :=
  match (d.pmu s).last with
  | some g => g + 1
  | none => let w := us (d.get 0x65000D s); if d.now ≤ w then 0 else ((d.now - w) * rate + sec 1 - 1) / sec 1

/-- A value of a block as it is sent: its bytes, whether it is invalid, missing, has test set, or is time-unsynchronised. -/
structure PmuVal where
  bytes : List Byte
  invalid : Bool
  missing : Bool
  test : Bool
  unsync : Bool
deriving DecidableEq, Repr

/-- One value: signal, kind and unit, for a reporting instant. -/
def Dev.pmuValue (d : Dev) (p : Pmu) (sig kind unit g rate free : Nat) : PmuVal :=
  match d.slotFor sig g rate with
  | none => ⟨absentBytes p kind, false, true, false, false⟩
  | some v =>
    let bad := v.damaged || v.quality % 4 == 1
    ⟨if bad then absentBytes p kind else valueBytes p kind unit free v.value, bad, false, bit v.quality 11, bit v.quality 14⟩

/-- A block: STAT and values; `bad` forces every block invalid. Answers its bytes and the values missing. -/
def Dev.pmuBlock (d : Dev) (p : Pmu) (sigs : List Nat) (g rate free : Nat) (bad fresh : Bool) : List Byte × Nat :=
  let vs := (p.kinds.zip sigs).map (fun x => d.pmuValue p x.2 x.1.1 x.1.2 g rate free)
  let any := fun (f : PmuVal → Bool) => vs.any f
  let st := if bad || any (·.invalid) then 3 else if any (·.missing) || any (·.test) then 2 else 0
  let stat := st * 2 ^ 14 + b2n (any (·.unsync) || !d.traceable) * 2 ^ 13 + b2n fresh * 2 ^ 10 + d.pmuQuality * 2 ^ 6
    + d.unlockedTime * 2 ^ 4
  (beBytes 2 stat ++ vs.flatMap (·.bytes), (vs.filter (·.missing)).length)

/-- The blocks of a frame in configuration order. -/
def Dev.pmuBlocks (d : Dev) (g rate free : Nat) (bad fresh : Bool) : List Pmu → List Nat → List Byte × Nat
  | [], _ => ([], 0)
  | p :: l, sigs =>
    let a := d.pmuBlock p sigs g rate free bad fresh
    let b := d.pmuBlocks g rate free bad fresh l (sigs.drop p.values)
    (a.1 ++ b.1, a.2 + b.2)

/-- The data frame of a stream for a reporting instant: version 2, SYNC 0xAA02 (R333 to R336). [PRESUMED: log 125] -/
def Dev.pmuFrame (d : Dev) (s g free : Nat) (bad : Bool) : List Byte × Nat :=
  let cfg := d.getB 0x650002 s
  let rate := (cfgDataRate cfg).toNat
  let t := if rate = 0 then 0 else g * sec 1 / rate
  match cfgParse cfg with
  | none => ([], 0)
  | some ps =>
    let fresh := match (d.pmu s).cfgAt with
      | some a => decide (d.now < a + sec 60)
      | none => false
    let body := d.pmuBlocks g rate free bad fresh ps (chanList (d.getB 0x650003 s))
    let soc := ((t / sec 1 : Nat) : Int) - d.utcAt t
    let h := [0xAA, 0x02] ++ beBytes 2 (16 + body.1.length) ++ slice cfg 4 2 ++ beBytes 4 (ofInt 32 soc)
      ++ beBytes 4 (d.fracsec t (cfgTimeBase cfg))
    let f := h ++ body.1
    (f ++ beBytes 2 (ccitt f), body.2)

/-- The one's complement sum of 16-bit words that IPv4 and UDP use. -/
def onesSum : Nat → List Byte → Nat
  | acc, a :: b :: t => onesSum (acc + a.toNat * 256 + b.toNat) t
  | acc, [a] => acc + a.toNat * 256
  | acc, [] => acc

/-- Fold a sum to 16 bits and complement it. -/
def onesFold (x : Nat) : Nat :=
  let y := x / 65536 + x % 65536
  65535 - (y / 65536 + y % 65536)

/-- A UDP datagram in an Ethernet frame (R337 and object 0x6500). What the rules leave open of the IPv4 header (DSCP,
identification, time to live) comes from a free value. -/
def udpFrame (dst src : List Byte) (tci : Nat) (sip dip : List Byte) (sport dport free : Nat) (data : List Byte) : List Byte :=
  let udp := fun (c : Nat) => beBytes 2 sport ++ beBytes 2 dport ++ beBytes 2 (8 + data.length) ++ beBytes 2 c ++ data
  let sum := onesFold (onesSum 0 (sip ++ dip ++ [0, 17] ++ beBytes 2 (8 + data.length) ++ udp 0))
  let ip := fun (c : Nat) => [0x45, byte free] ++ beBytes 2 (28 + data.length) ++ beBytes 2 (free / 256) ++ [0, 0, byte (free / 2 ^ 24), 17]
    ++ beBytes 2 c ++ sip ++ dip
  let vlan := if bit tci 12 then [] else [0x81, 0x00] ++ beBytes 2 tci
  dst ++ src ++ vlan ++ [0x08, 0x00] ++ ip (onesFold (onesSum 0 (ip 0))) ++ udp (if sum = 0 then 0xFFFF else sum)

/-- PMU_FRAME_BUILD (R334, R337): at t_k + wait the frame of the next reporting instant is built and handed to its egress
path, through its generation function or on its own port, on which it is silent in the safe state. [DEDUCED: log 41] -/
def pmuFrameBuild (s : Nat) (d : Dev) : Dev :=
  let rate := (cfgDataRate (d.getB 0x650002 s)).toNat
  if !d.on 0x650001 s || rate == 0 || (cfgParse (d.getB 0x650002 s)).isNone then d else
  let g := d.pmuNext s rate
  let d := d.at_ (g * sec 1 / rate + us (d.get 0x65000D s))
  let free := d.takeFree
  let d := free.2.setPmu s { d.pmu s with last := some g }
  let fn := d.get 0x650004 s
  let port := d.get 0x650005 s
  let from_ := if fn < 8192 then lowestPort (d.get 0x312003 fn) else port
  let frame := fun (bad : Bool) => udpFrame (d.getB 0x650006 s) (macOf from_) (d.get 0x65000B s) (d.getB 0x650009 s)
    (d.getB 0x650007 s) (d.get 0x65000A s) (d.get 0x650008 s) free.1 (d.pmuFrame s g free.1 bad).1
  let cls := d.get 0x65000C s
  let d := d.add 0x650010 s (d.pmuFrame s g free.1 false).2
  if fn < 8192 then
    let r := d.genSend fn (fun _ _ => cls) frame true
    if r.1.isEmpty then r.2 else r.2.inc 0x65000F s
  else if d.safe port then d
  else (d.enqueue port ⟨frame false, cls, .own, none, false, false, none, 0, 0⟩).inc 0x65000F s

/-! ### What a COMMIT checks (R333) -/

/-- Is a stream's CFG-2 frame in order? -/
def pmuCfgOk (b : List Byte) : Bool :=
  match cfgParse b with
  | none => false
  | some ps =>
    decide (1 ≤ cfgDataRate b) && decide (cfgDataRate b ≤ 480) && decide (1 ≤ cfgTimeBase b) && decide (cfgFrameSize ps ≤ 1472)

/-- Does a stream's signal map fit its CFG-2 frame? -/
def Dev.pmuMapOk (d : Dev) (s : Nat) : Bool :=
  let m := d.getB 0x650003 s
  match cfgParse (d.getB 0x650002 s) with
  | none => false
  | some ps =>
    m.length == 4 * cfgValues ps
      && ((ps.flatMap (·.kinds)).zip (chanList m)).all (fun x =>
        decide (x.2 < 33554432) && d.get 0x601001 x.2 == (if x.1.1 = 0 then 1 else 2))

/-- The enabled output streams. -/
def Dev.pmuStreams (d : Dev) : List Nat := (d.listed 0x650001).filter (fun s => d.on 0x650001 s)

/-- What a COMMIT checks of the output streams. -/
def Dev.checkPmu (d : Dev) (o e : Nat) : Nat :=
  let i := o / 256
  let sum := d.pmuStreams.foldl (fun a s => a + (cfgDataRate (d.getB 0x650002 s)).toNat) 0
  if i = 0x6500 then
    let b := d.getB 0x650002 e
    if (d.on 0x650001 e || b != []) && !pmuCfgOk b then 0x0404
    else if decide (sum > 512000) || (d.on 0x650001 e && !d.pmuMapOk e) then 0x0404
    else 0
  else if o = 0x601001 then (if d.pmuStreams.all d.pmuMapOk then 0 else 0x0404)
  else 0

end Sys2Proof.Machine
end

