-- ==== Sys2Proof/Machine/Power.lean ====
section
/-! DEFINITION. The device at reset, what each reset keeps, supplies and power states (R17, R42, R474 to R489). -/
namespace Sys2Proof.Machine

/-- Replace the power part. -/
def Dev.setPow (d : Dev) (x : PowerSt) : Dev := { d with pow := x }

/-! ### What a reset of the main domain keeps (R17, R477, R486) -/

/-- A key of the dictionary that is Ballast-resident (R41). -/
def ballastKey (k : Nat) : Bool := ballastObj (k / 4294967296) (k % 4294967296)

/-- Is the object RWS, so that it has a shadow copy (R39)? -/
def isRws (o : Nat) : Bool := match objOf o with
  | some x => x.access == .rws
  | none => false

/-- The dictionary after a reset of the main domain: the Ballast-resident objects keep their active values, and their
shadow copies equal them. -/
def Dict.kept (x : Dict) : Dict :=
  let n := x.num.filter (fun p => ballastKey p.1)
  let b := x.oct.filter (fun p => ballastKey p.1)
  ⟨n, b, n.filter (fun p => isRws (p.1 / 4294967296)), b.filter (fun p => isRws (p.1 / 4294967296))⟩

/-- How a client is told apart (R42, R47): a mailbox or a hot register by its place, a KMP client by address, port and
role, a node by its ring, the sideband SPI alone. -/
def Path.client : Path → List Nat
  | .mailbox m => [0, m]
  | .hot => [4]
  | .kmp ip port role _ => [1, ip, port, role.num]
  | .ring r n => [2, r, n]
  | .spi => [3]

/-- Does a client's replay cache stand in the Ballast domain? -/
def keptClient (c : List Nat) : Bool := c.head? == some 1 || c.head? == some 3

/-- Is the path served by the Ballast domain alone (R42): KMP on MGT and the sideband SPI? -/
def Path.ballast : Path → Bool
  | .kmp _ _ _ via => via == 16
  | .spi => true
  | _ => false

/-- Sources that the Ballast domain detects (R454): timekeeping, and the supplies. -/
def ballastSource (s : Nat) : Bool := (decide (16 ≤ s) && decide (s ≤ 22)) || s == 24 || (decide (448 ≤ s) && decide (s ≤ 451))

/-- The commands under way after a reset of the main domain: those on a Ballast path; one that waited for a transaction's
validation ends with 0x0503. -/
def keptFlights (l : List Flight) : List Flight :=
  (l.filter (fun f => f.path.ballast)).map (fun f =>
    if f.resp.isNone then { f with resp := some ⟨0x0503, [], 0⟩, slot := none } else f)

/-- Everything outside the Ballast domain takes its reset state (R17, R477, R486): kept are the timekeepers, MGT with its PTP,
the Ballast-resident objects, the first error and the sticky bits, and the power controller. [DEDUCED: log 80] -/
def Dev.mainReset (d : Dev) : Dev :=
  let sv := d.get 0x700001 0
  let sd := d.get 0x700002 0
  let onMgt := d.net.slave == some 16
  let d := if d.net.slave.isSome && !onMgt then d.ptpInvalid else d
  let live := d.flt.live.filter (fun x => ballastSource x.1)
  let x : Dev := { dev0 with
    fresh := d.fresh, out := d.out,
    obj := { dev0.obj with
      dict := d.obj.dict.kept, cache := d.obj.cache.filter (fun c => keptClient c.client),
      flights := keptFlights d.obj.flights },
    tim := { d.tim with confirmed := false, trigIn := [], trigOut := [], ppsOut := [] },
    arch := { dev0.arch with reps := d.arch.reps.filter (fun p => p.1 == 16) },
    flt := { fltReset with
      flying := d.flt.flying.filter (fun x => ballastSource x.src), sticky := d.flt.sticky, feValid := d.flt.feValid,
      feOverflow := d.flt.feOverflow, feInjected := d.flt.feInjected, feClass := d.flt.feClass,
      feSource := d.flt.feSource, feUnit := d.flt.feUnit, feNs := d.flt.feNs, feSec := d.flt.feSec,
      feSynd := d.flt.feSynd, live := live },
    net := { dev0.net with
      ptp := d.net.ptp.filter (fun p => p.1 % 17 == 16), links := d.net.links.filter (fun p => p.1 == 16),
      slave := if onMgt then d.net.slave else none, offsets := if onMgt then d.net.offsets else [],
      delaySeen := onMgt && d.net.delaySeen },
    host := { dev0.host with pcie := pcieReset sv sd d.host.pcie.perst },
    pow := { d.pow with
      phase := 0, reason := 0, len := 0, due := none, waitFrom := none, deadline := none, window := [], programming := false,
      restart := false, verifying := [], broken := [] },
    spi := d.spi }
  let x := live.foldl (fun x p => x.put 0x801006 p.1 1) x
  let x := (List.range 20).foldl (fun x e => (x.put 0x802001 e 0).put 0x802002 e 0) x
  ((x.put 0x800004 0 0).put 0x130208 0 0).put 0x130209 0 0

/-- Set the power state (object 0x9000:01). -/
def Dev.setPower (d : Dev) (st : Nat) : Dev := d.put 0x900001 0 st

/-- Set the power state with the cause of the change (object 0x9000:03). -/
def Dev.powerTo (d : Dev) (st cause : Nat) : Dev := (d.setPower st).put 0x900003 0 cause

/-! ### Attempts cut short (R498 to R500) -/

/-- Append a record to the mirror log (R499): the other sector takes over when the one in use is full. -/
def Flash.append (f : Flash) (r : MirrorRec) : Flash :=
  if f.log.length < 128 then { f with log := f.log ++ [r] } else { f with log := [r], other := f.log }

/-- The newest record of the mirror log (R499). -/
def Flash.newest (f : Flash) : Option MirrorRec :=
  (f.log ++ f.other).foldl (fun m r => match m with
    | some x => if x.seq < r.seq then some r else m
    | none => some r) none

/-- Append the mirror record of the state as it stands. -/
def Dev.mirror (d : Dev) : Dev :=
  let s := match d.pow.flash.newest with
    | some r => (r.seq + 1) % 4294967296
    | none => 0
  let r : MirrorRec := ⟨s, d.get 0x130201 0, d.get 0x130202 0, d.get 0x130203 0, d.get 0x130204 0, d.pow.isOpen⟩
  d.setPow { d.pow with flash := d.pow.flash.append r }

/-- The newest boot record entry takes a reason, flags and detail, and its end (R500). [DEDUCED: log 81] -/
def Dev.endRecord (d : Dev) (reason : Nat) (counted : Bool) (detail : Nat) : Dev :=
  let b := d.getB 0x130001 0
  let fl := byteAt b 6 + (if counted then 4 else 0)
  d.putB 0x130001 0 (splice (splice b 5 [byte reason, byte fl, byte detail]) 16 (leBytes 8 (ts64Of d.now)))

/-- An attempt cut short is closed as interrupted: FAILS and next_slot stay (R498). -/
def Dev.interruptAttempt (d : Dev) (reason : Nat) : Dev :=
  if d.pow.isOpen then (((d.endRecord reason false 0).setPow { d.pow with isOpen := false })).mirror else d

/-! ### Rails (R474, R476) -/

/-- A main rail's operating range and nominal in units of 0.1 mV (R474), by its element of object 0x9002 (R502). -/
def railRange (r : Nat) : Nat × Nat × Nat :=
  match r with
  | 0 => (7275, 7725, 7500)
  | 1 => (7275, 7725, 7500)
  | 2 => (7760, 8240, 8000)
  | 3 => (8730, 9270, 9000)
  | 4 => (11640, 12360, 12000)
  | 5 => (10670, 11330, 11000)
  | 6 => (3800, 4200, 4000)
  | 7 => (17100, 18900, 18000)
  | _ => (31350, 34650, 33000)

/-- Is a reading in mV in the rail's operating range (R474)? -/
def railOk (r mv : Nat) : Bool := decide ((railRange r).1 ≤ 10 * mv) && decide (10 * mv ≤ (railRange r).2.1)

/-- Is a reading in mV below 80 % of the rail's nominal (R476)? -/
def railLow (r mv : Nat) : Bool := decide (100 * mv < 8 * (railRange r).2.2)

/-- Are the monitors of the main rails live (R476)? They are masked while PWR_MAIN_EN is driven low, and after its release until
the rails have come in range. -/
def Dev.railsWatched (d : Dev) : Bool := !d.pow.mainPor && !d.pow.enLow

/-- RAIL_OUT_OF_RANGE (R476): source 449 with the rail as its unit. -/
def railOutOfRange (r mv : Nat) (d : Dev) : Dev :=
  if !d.railsWatched || railOk r mv || railLow r mv then d else
  (((d.put 0x900201 r mv).inc 0x900202 r).raise 449 r 0 mv).setLive 449 r true

/-- Main power-on reset is asserted (R476, R486): the attempt under way is interrupted with 0x41, and the main domain is reset. -/
def Dev.assertMainPor (d : Dev) : Dev :=
  let d := (d.interruptAttempt 0x41).mainReset
  d.setPow { d.pow with mainPor := true }

/-- RAIL_UNDERVOLTAGE (R476, R482, R483): main power-on reset by rail loss; DOZE is entered without the orderly steps, and
PWR_MAIN_EN stays released. -/
def railUndervoltage (r mv : Nat) (d : Dev) : Dev :=
  if !d.railsWatched || !railLow r mv then d else
  let d := (d.assertMainPor.mgtSpeed true).powerTo 3 4
  (d.setPow { d.pow with railLoss := true, dozeStage := 0, waking := none }).inc 0x900004 0

/-- SYSCLK_LOSS (R511): source 449 with unit 9 while the main rails are in range. -/
def sysclkLoss (d : Dev) : Dev := if d.railsWatched then (d.raise 449 9 0 0).setLive 449 9 true else d

/-- JUNCTION_SENSOR_READ (R528): the reading in 0.1 °C; source 450 above 100 °C and 451 above 105 °C, when the reading
crosses it. -/
def junctionRead (die : Nat) (t : Int) (d : Dev) : Dev :=
  if d.pow.mainPor then d else
  let old := d.geti 0x902001 die
  let d := d.puti 0x902001 die t
  let d := if t > 1000 ∧ ¬ old > 1000 then d.raise 450 die 0 (ofInt 16 t) else d
  let d := if t > 1050 ∧ ¬ old > 1050 then d.raise 451 die 0 (ofInt 16 t) else d
  (d.setLive 450 die (decide (t > 1000))).setLive 451 die (decide (t > 1050))

/-! ### The Ballast feeds (R478 to R480) -/

/-- The feeds' readings (object 0x9001): CBAL stands at the feed in use. [DEDUCED: log 87] -/
def Dev.showFeed (d : Dev) (o mv b : Nat) : Dev :=
  let d := d.put o 0 mv
  let ok := decide (3000 ≤ mv) && decide (mv ≤ 3600)
  let d := d.put 0x900102 0 (setBit (d.get 0x900102 0) b ok)
  d.put 0x900106 0 (if d.get 0x900101 0 = 0 then d.get 0x900104 0 else d.get 0x900105 0)

/-- VBAL_A_LOSS (R478): VBAL_A falls through 2.90 V; the domain switches over to VBAL_B, counted 1 µs later with source 448, unit 0. -/
def vbalALoss (mv : Nat) (d : Dev) : Dev :=
  if d.get 0x900101 0 = 1 || decide (2900 ≤ mv) then d else
  let d := (d.put 0x900101 0 1).showFeed 0x900104 mv 0
  let d := d.at_ (d.now + us 1)
  ((d.inc 0x900103 0).raise 448 0 0 mv).setLive 448 0 true

/-- VBAL_SWITCH_BACK (R478): VBAL_A has stayed above 3.00 V for 10 ms. -/
def vbalSwitchBack (mv : Nat) (d : Dev) : Dev :=
  if d.get 0x900101 0 = 0 || decide (mv ≤ 3000) then d else
  ((d.put 0x900101 0 0).showFeed 0x900104 mv 0).setLive 448 0 false

/-- VBAL_B_LOSS (R478): source 448 with unit 1, and no switch, while VBAL_A is in use. -/
def vbalBLoss (mv : Nat) (d : Dev) : Dev :=
  if d.get 0x900101 0 = 1 || decide (2900 ≤ mv) then d else
  ((d.showFeed 0x900105 mv 1).raise 448 1 0 mv).setLive 448 1 true

/-- The mirror is loaded (R499): its newest record gives FAILS, next_slot, N and the attempt number; an attempt open in it is
closed with 0x42; with no valid record the defaults stand and the loss is remembered. -/
def Dev.loadMirror (d : Dev) : Dev :=
  match d.pow.flash.newest with
  | none => d.setPow { d.pow with lost := true }
  | some r =>
    let d := (((d.put 0x130201 0 r.fails).put 0x130202 0 r.next).put 0x130203 0 r.n).put 0x130204 0 r.attempt
    if r.isOpen then
      let e := leBytes 4 r.attempt ++ [byte r.next, 0x42, 0, 0] ++ zeros 8 ++ leBytes 8 (ts64Of d.now)
      (d.putB 0x130001 0 e).mirror
    else d

/-- BALLAST_POR_RELEASE (R480, R75, R478): 5 ms after CBAL is above 2.90 V; the straps TKF_SEL are sampled, the mirror is
loaded, the feeds are judged, and TK-A acquires the lease. -/
def ballastPorRelease (sel a b : Nat) (d : Dev) : Dev :=
  let d := d.setPow { d.pow with tkfSel := sel, offSince := some d.now }
  let d := d.loadMirror
  let d := d.put 0x900101 0 (b2n (decide (a < 2900) && decide (2900 ≤ b)))
  let d := (d.showFeed 0x900104 a 0).showFeed 0x900105 b 1
  let d := if a < 2900 then (d.raise 448 0 0 a).setLive 448 0 true else d
  let d := if b < 2900 then (d.raise 448 1 0 b).setLive 448 1 true else d
  d.acquire .a 0

/-! ### DOZE and LANTERN (R481 to R485) -/

/-- The longest relay settle time of the enabled rings, in 2^-16 ns (R483). -/
def Dev.settleTime (d : Dev) : Nat :=
  [0, 1].foldl (fun m r => if d.on 0x400001 r && decide (m < ms (d.get 0x40000E r)) then ms (d.get 0x40000E r) else m) 0

/-- Every P-port's transmitter goes to electrical idle: what waits or is being sent is lost. [DEDUCED: log 83] -/
def Dev.portsOff (d : Dev) : Dev := (List.range 16).foldl (fun d p => (d.linkGone p).portDown p) d

/-- The entry to DOZE begins (R483): the state reads 6, and no further epoch is published. -/
def Dev.dozeBegin (d : Dev) (cause : Nat) : Dev :=
  let d := d.setTab { d.tab with running := false, upSince := none, closing := [] }
  (d.setPow { d.pow with dozeAt := d.now, dozeStage := 1, wakeCause := none }).powerTo 6 cause

/-- The refusal of command 1 of object 0x9000:02 (R482, R484), 0 for none. -/
def Dev.dozeCode (d : Dev) : Nat :=
  if (d.power = 2 ∧ d.pow.phase = 5 ∨ d.power = 4) ∧ ¬ d.pow.wakeN then 0 else 0x0502

/-- A wake (R484): PWR_MAIN_EN is released, and the main rails have 1 s to come in range. During the entry to DOZE, and while
RST_N is asserted, it waits; while a wake is under way, it adds nothing. -/
def Dev.wake (d : Dev) (cause : Nat) : Dev :=
  if d.power = 3 ∧ d.pow.waking.isSome then d else
  if d.power = 6 ∨ d.power = 3 ∧ d.pow.rst.isSome then d.setPow { d.pow with wakeCause := some cause }
  else if d.power = 3 then
    (d.setPow { d.pow with enLow := false, waking := some d.now, wakeCause := some cause }).emit (.pin "PWR_MAIN_EN" 0 true d.now)
  else d

/-- The refusal of command 2 (R484): there is nothing to wake from. -/
def Dev.wakeCode (d : Dev) : Nat := if d.power = 3 ∨ d.power = 6 then 0 else 0x0502

/-- DOZE_ENTRY_STAGE (R483): the next stage of the orderly entry takes effect at its instant. -/
def dozeEntryStage (d : Dev) : Dev :=
  if d.power ≠ 6 then d else
  let t0 := d.pow.dozeAt
  let s := d.settleTime
  if d.pow.dozeStage = 1 then
    let d := d.at_ (t0 + us 10)
    let d := [0, 1].foldl (fun d r => ringRemove r d) d.portsOff
    d.setPow { d.pow with dozeStage := 2 }
  else if d.pow.dozeStage = 2 then
    let d := d.at_ (t0 + s)
    let d := [0, 1].foldl (fun d r => match (d.ring r).relay with
      | .removing _ => (d.setRing r { ring0 with guard_ := (d.ring r).guard_ }).put 0x400101 r rsDisabled
      | _ => d) d
    d.setPow { d.pow with dozeStage := 3 }
  else if d.pow.dozeStage = 3 then
    let d := d.at_ (t0 + s + us 100)
    let d := (d.setPcie { d.host.pcie with linkUp := false }).showEndpoint
    let d := (d.mgtSpeed true).emit (.pin "PWR_MAIN_EN" 0 false d.now)
    d.setPow { d.pow with dozeStage := 4, enLow := true }
  else
    let d := d.at_ (t0 + s + us 200)
    let d := (d.assertMainPor.setPower 3).inc 0x900004 0
    let w := d.pow.wakeCause
    let d := d.setPow { d.pow with dozeStage := 0, railLoss := false, wakeCause := none }
    match w with
    | some c => d.wake c
    | none => d

/-- THERMAL_SHUTDOWN (R482): the junction temperature has been at or above 115 °C for 1 ms. [DEDUCED: log 88] -/
def thermalShutdown (d : Dev) : Dev :=
  if (d.power = 1 ∨ d.power = 2) ∧ ¬ d.pow.mainPor then d.dozeBegin 5 else d

/-- RAILS_ABSENT_TIMEOUT (R482): 100 ms after the release of Ballast power-on reset the main rails are not in range. [DEDUCED: log 79] -/
def railsAbsentTimeout (d : Dev) : Dev :=
  match d.pow.offSince with
  | some t =>
    if !d.pow.mainPor || d.power = 3 then d else
    let d := d.at_ (t + ms 100)
    ((d.mgtSpeed true).setPow { d.pow with railLoss := true }).powerTo 3 8 |>.inc 0x900004 0
  | none => d

/-- MAIN_POR_RELEASE (R476, R482, R484): every main rail has been in range for 10 ms. After a wake, or when the rails return after
their loss, DOZE is left; a start attempt is due, once RST_N is high. -/
def mainPorRelease (mv : List Nat) (d : Dev) : Dev :=
  let x := d.pow
  if !x.mainPor || x.enLow || x.testEn || mv.length ≠ 9 || !((List.range 9).all (fun r => railOk r (mv.getD r 0)))
    || (d.power = 3 && x.waking.isNone && (!x.railLoss || x.rst.isSome)) then d else
  let doze := d.power == 3
  let first := x.offSince.isSome
  let d := (List.range 9).foldl (fun d r => d.put 0x900201 r (mv.getD r 0)) d
  let c := if doze then 5 else if first then 1 else 2
  let d := if doze then (d.mgtSpeed false).powerTo 1 (if x.waking.isSome then x.wakeCause.getD 1 else 3) else d.setPower 1
  d.setPow { d.pow with
    mainPor := false, offSince := none, railLoss := false, waking := none, wakeCause := none, cause := c,
    due := if x.rst.isSome then none else some d.now }

/-- WAKE_N (R484): a level that has lasted 1 µs; a low one wakes the device. -/
def wakePin (low : Bool) (d : Dev) : Dev :=
  let d := d.setPow { d.pow with wakeN := low }
  if low then d.wake 2 else d

/-- WAKE_TIMEOUT (R484): the main rails are not in range 1 s after a wake; the pin is driven low again, with cause 9. -/
def wakeTimeout (d : Dev) : Dev :=
  match d.pow.waking with
  | some t =>
    if d.power ≠ 3 then d else
    let d := d.at_ (t + sec 1)
    ((d.setPow { d.pow with enLow := true, waking := none, wakeCause := none, railLoss := false }).put 0x900003 0 9).emit
      (.pin "PWR_MAIN_EN" 0 false d.now)
  | none => d

/-- LANTERN is entered (R481, R485): dies C0 and C1 and the P-ports and rings are off with all they held; host link, objects and the
Ballast domain go on. [DEDUCED: log 84] -/
def Dev.lantern (d : Dev) (cause : Nat) : Dev :=
  let d := d.powerTo 4 cause
  let d := [0, 1].foldl (fun d r => ringRemove r d) d.portsOff
  let d := d.setPow { d.pow with phase := 6, deadline := none, waitFrom := none }
  let d := (d.put 0x130208 0 0).put 0x130209 0 0
  { d with
    lan := dev0.lan, ecl := dev0.ecl, rings := [], ing := dev0.ing, tab := dev0.tab, eng := dev0.eng, wave := dev0.wave,
    arch := { dev0.arch with reps := d.arch.reps.filter (fun p => p.1 == 16) } }

/-- The refusal of command 3 (R482): an attempt is in progress, or there is nothing to leave. -/
def Dev.lanternCode (d : Dev) : Nat := if d.power = 2 ∧ d.pow.phase = 5 then 0 else 0x0502

/-! ### RST_N and TEST_EN (R486 to R488, R508) -/

/-- PWR_MAIN_EN is high-Z in reset (R489). -/
def Dev.releaseEnable (d : Dev) : Dev :=
  if d.pow.enLow then (d.setPow { d.pow with enLow := false }).emit (.pin "PWR_MAIN_EN" 0 true d.now) else d

/-- RST_N_RECOGNISED (R487): counted; outside DOZE the attempt under way is interrupted with 0x40 and the main domain reset. [DEDUCED: log 85] -/
def rstRecognised (d : Dev) : Dev :=
  if d.pow.rst.isSome then d else
  let d := d.inc 0x901002 0
  let d := if d.power = 3 then d else (((d.interruptAttempt 0x40).mainReset).setPower 1).releaseEnable
  d.setPow { d.pow with rst := some d.now, dozeStage := 0 }

/-- RST_N_PULSE_IGNORED (R487): a low pulse shorter than 1 µs is counted. -/
def rstPulseIgnored (d : Dev) : Dev := d.inc 0x901006 0

/-- The time held so far in ms, saturating (object 0x9010:04, R488). -/
def Dev.heldMs (d : Dev) : Nat :=
  match d.pow.rst with
  | some t =>
    let n := (d.now - t) / ms 1
    if d.power = 5 then (if n < 4294967296 then n else 4294967295) else 0
  | none => 0

/-- RST_N_RELEASE (R487, R488): the internal reset ends, at least 10 µs after the recognition. A deferred wake is then served; otherwise an
attempt is due. -/
def rstRelease (d : Dev) : Dev :=
  match d.pow.rst with
  | none => d
  | some t =>
    let d := d.at_ (t + us 10)
    let held := d.heldMs
    let was := d.power
    let d := d.setPow { d.pow with rst := none }
    if was = 3 then
      match d.pow.wakeCause with
      | some c => if d.pow.waking.isNone then d.wake c else d
      | none => d
    else
      let d := if was = 5 then ((d.put 0x901005 0 held).put 0x901003 0 0).setPower 1 else d
      if d.pow.mainPor then d else d.setPow { d.pow with due := some d.now, cause := 3 }

/-- RESET_HELD (R488): RST_N has been low for 5 s since its recognition. -/
def resetHeld (d : Dev) : Dev :=
  match d.pow.rst with
  | some t => if d.power = 3 then d else let d := d.at_ (t + sec 5); (d.setPower 5).put 0x901003 0 1
  | none => d

/-- TEST_EN_CHANGE (R508): while the strap is high, main power-on reset is held asserted. -/
def testEnChange (high : Bool) (d : Dev) : Dev :=
  let d := d.setPow { d.pow with testEn := high }
  if high && !d.pow.mainPor then (d.assertMainPor.setPower 1).releaseEnable else d

/-! ### Queue resets and PERST_N (R414, R441, R449) -/

/-- Is a frame fetched from queue `q`? -/
def QFrame.ofQueue (f : QFrame) (q : Nat) : Bool :=
  match f.src with
  | .entry k _ _ => k == q
  | _ => false

/-- Frames of a queue that have not started on a port are dropped whole (R441). -/
def Dev.purgeQueue (d : Dev) (q : Nat) : Dev :=
  let ps := (d.lan.ports.filter (fun p => p.2.waiting.any (fun f => f.ofQueue q))).map (·.1)
  ps.foldl (fun d p => d.dropWaitingTx p reasonReset (fun f => f.ofQueue q)) d

/-- RESET of a queue (R441). -/
def Dev.resetQueue (d : Dev) (q : Nat) : Dev := (d.purgeQueue q).resetCore q

/-- PERST_N_ASSERT (R414, R494): the endpoint and every queue are reset and the link is down; `BOOT_LEN` is cleared; in phase 1 the boot
window is emptied and the wait for the host image begins anew. -/
def perstAssert (d : Dev) : Dev :=
  let d := (d.host.queues.map (·.1)).foldl (fun d q => d.purgeQueue q) d
  let d := d.detachAll
  let d := (d.setPcie (pcieReset (d.get 0x700001 0) (d.get 0x700002 0) true)).setLive 320 0 false
  let d := d.showEndpoint
  let d := d.setPow { d.pow with len := 0 }
  if d.pow.phase = 1 then d.setPow { d.pow with window := [], waitFrom := none } else d

/-- PERST_N_RELEASE (R414): link training starts within 1 ms. -/
def perstRelease (d : Dev) : Dev :=
  if d.host.pcie.perst then (d.setPcie { d.host.pcie with perst := false }).showEndpoint else d

/-- ENDPOINT_READY (R414, R494): configuration requests are served from now on; a wait for the host image begins. -/
def endpointReady (d : Dev) : Dev :=
  if d.host.pcie.perst || d.pow.mainPor || d.pow.rst.isSome then d else
  let d := d.setPcie { d.host.pcie with ready := true }
  if d.pow.phase = 1 ∧ d.pow.waitFrom.isNone then d.setPow { d.pow with waitFrom := some d.now } else d

end Sys2Proof.Machine
end

