-- ==== Sys2Proof/Machine/Boot.lean ====
section
/-! DEFINITION. Start attempts, firmware verification, the boot record, confirmation and the flash slots (R490 to R501). -/
namespace Sys2Proof.Machine

/-! ### Firmware images (R491 to R493) -/

/-- A block of 32 KiB of the flash; an erased one reads 0xFF. [DESIGN CHOICE: log 170] -/
def Flash.block (f : Flash) (b : Nat) : List Byte :=
  let x := tget [] f.blocks b
  if x.isEmpty then List.replicate 32768 0xFF else x

/-- `n` bytes of a slot from an offset. -/
def Flash.read (f : Flash) (s off n : Nat) : List Byte :=
  let first := off / 32768
  let bs := (List.range ((off + n + 32767) / 32768 - first)).flatMap (fun i => f.block (512 * s + first + i))
  slice bs (off % 32768) n

/-- The source of an image's bytes: slot 0, slot 1, or the boot window. -/
def Dev.imageBytes (d : Dev) (source off n : Nat) : List Byte :=
  if source < 2 then d.pow.flash.read source off n else tgetAll 0 d.pow.window off n

/-- IMAGE_LEN of a header (R492). -/
def fwLen (h : List Byte) : Nat := leAt h 8 4

/-- MAGIC, FORMAT, HEADER_LEN, IMAGE_LEN, MIN_REVISION and the zero fields of the header (R492, R493); `room` bounds
IMAGE_LEN. -/
def fwHeaderOk (h : List Byte) (room : Nat) : Bool :=
  h.take 4 == [0x4B, 0x46, 0x57, 0x49] && leAt h 4 2 == 1 && leAt h 6 2 == 512 && decide (1024 ≤ fwLen h)
  && decide (fwLen h ≤ 16777216) && fwLen h % 4 == 0 && decide (fwLen h ≤ room) && decide (byteAt h 16 ≤ 0x11)
  && slice h 17 15 == zeros 15 && slice h 129 383 == zeros 383

/-- The ROM's checks in their order; 0 when all pass (R493). [DEDUCED: log 82] -/
def fwCode (hash : List Byte) (read : Nat → Nat → List Byte) (present readOk : Bool) (room : Nat) : Nat :=
  let h := read 0 512
  let n := fwLen h
  let key := slice h 32 97
  let sig := read (n - 104) 104
  if !present then 0x13
  else if !readOk then 0x14
  else if !fwHeaderOk h room || sig.take 8 != zeros 8 then 0x10
  else if sha384 key != hash then 0x11
  else if !ecdsaVerify key (sha384 (read 0 (n - 104))) (beAt sig 8 48) (beAt sig 56 48) then 0x12
  else 0

/-- The checks of R493 on the image of a source. An image is present in a slot unless its first 4 bytes are all 0xFF, and in the
window once the host has delivered one. -/
def Dev.sourceCode (d : Dev) (source : Nat) (readOk : Bool) : Nat :=
  let present := source == 2 || d.imageBytes source 0 4 != List.replicate 4 0xFF
  fwCode (d.getB 0x13020A 0) (d.imageBytes source) present readOk (if source = 2 then d.pow.len else 16777216)

/-! ### Attempts (R497 to R500) -/

/-- The boot record takes a new entry as element 0, the older ones move down (R500). -/
def Dev.pushRecord (d : Dev) (b : List Byte) : Dev :=
  let d := (List.range 7).foldl (fun d i => d.putB 0x130001 (7 - i) (d.getB 0x130001 (6 - i))) d
  d.putB 0x130001 0 b

/-- The reason of the newest attempt that has ended, for `BOOT_STATUS.REASON`. -/
def Dev.lastReason (d : Dev) : Nat := byteAt (d.getB 0x130001 (if byteAt (d.getB 0x130001 0) 5 = 0 then 1 else 0)) 5

/-- The source of the next attempt (R490): the host's window with BOOTSEL 01, and with 10 once both slots have failed
verification in consecutive attempts; else the slot of next_slot. -/
def Dev.nextSource (d : Dev) (sel : Nat) : Nat :=
  if sel = 1 ∨ sel = 2 ∧ d.pow.failedSlots.contains 0 ∧ d.pow.failedSlots.contains 1 then 2 else d.get 0x130202 0

/-- START_ATTEMPT (R490, R497): the attempt due begins with the straps as sampled. It enters LANTERN, or is numbered and recorded
and loads its image: from flash, or from the host after a wait. -/
def startAttempt (sel : Nat) (d : Dev) : Dev :=
  match d.pow.due with
  | none => d
  | some t =>
    if d.pow.mainPor || d.pow.rst.isSome then d else
    let d := d.at_ t
    let d := (d.put 0x901001 0 d.pow.cause).put 0x130205 0 sel
    let d := d.setPow { d.pow with due := none, reason := d.lastReason }
    if sel = 3 then d.lantern 7
    else if d.get 0x130203 0 ≤ d.get 0x130201 0 then d.lantern 6
    else
      let d := d.add 0x130204 0 1
      let src := d.nextSource sel
      let fl := sel + (if d.pow.lost then 8 else 0)
      let d := d.pushRecord (leBytes 4 (d.get 0x130204 0) ++ [byte src, 0, byte fl, 0] ++ leBytes 8 (ts64Of d.now) ++ zeros 8)
      let d := d.setPow { d.pow with
        isOpen := true, lost := false, source := src, phase := if src = 2 then 1 else 2, window := [], len := 0,
        waitFrom := if src = 2 ∧ d.host.pcie.ready then some d.now else none }
      match d.pow.flash.newest with
      | some r => if r.isOpen then d else d.mirror
      | none => d.mirror

/-- The attempt fails with a counted reason (R497, R498): FAILS and next_slot change, the mirror takes a record, and a start
reset follows it. -/
def Dev.failAttempt (d : Dev) (code detail : Nat) : Dev :=
  let d := (d.add 0x130201 0 1).put 0x130202 0 (1 - d.get 0x130202 0)
  let d := d.endRecord code true detail
  let fs := if d.pow.source < 2 ∧ code < 0x20 then d.pow.source :: d.pow.failedSlots else []
  let d := d.setPow { d.pow with
    isOpen := false, reason := code, deadline := none, waitFrom := none, programming := true, restart := true, phase := 0,
    failedSlots := fs }
  d.mirror

/-- A start reset completes 10 µs after it began, and the next attempt is due (R486). -/
def Dev.startReset (d : Dev) : Dev :=
  let d := (d.mainReset).setPower 1
  d.setPow { d.pow with due := some (d.now + us 10), cause := 4 }

/-- MIRROR_PROGRAM_COMPLETE (R499): the record is programmed; after a counted failure the start reset begins. -/
def mirrorProgramComplete (d : Dev) : Dev :=
  if !d.pow.programming then d else
  let again := d.pow.restart
  let d := d.setPow { d.pow with programming := false, restart := false }
  if again then d.startReset else d

/-- FIRMWARE_VERIFY_COMPLETE (R493): the image passes, and the self-test begins, or the attempt fails with the reason. -/
def firmwareVerifyComplete (readOk : Bool) (d : Dev) : Dev :=
  if d.pow.phase ≠ 2 ∨ d.pow.programming then d else
  let c := d.sourceCode d.pow.source readOk
  if c = 0 then d.setPow { d.pow with phase := 3, failedSlots := [] } else d.failAttempt c 0

/-- BOOT_GO (R494): the host image is written; verification starts. -/
def bootGo (d : Dev) : Dev := if d.pow.phase = 1 then d.setPow { d.pow with phase := 2, waitFrom := none } else d

/-- HOST_IMAGE_TIMEOUT (R494): the wait for the host image ends without GO. -/
def hostImageTimeout (d : Dev) : Dev :=
  match d.pow.waitFrom with
  | some t =>
    if d.pow.phase ≠ 1 then d else
    (d.at_ (t + sec (d.get 0x130206 0))).failAttempt 0x13 0
  | none => d

/-- A unit that failed the start's self-test is left failed and raises its event source (R495); source 221 is an engine. -/
def Dev.startFailed (d : Dev) (src unit : Nat) : Dev :=
  let d := if src = 221 then
      (((d.setEngine unit { engine0 with state := 5 }).put 0x500001 unit 5).put 0x50000B unit 14).put 0x500104 (unit / 32)
        (if d.get 0x500102 (unit / 32) = unit then 2 else d.get 0x500104 (unit / 32))
    else d
  (d.raise src unit 0 0).setLive src unit true

/-- START_SELF_TEST_COMPLETE (R495): a unit without which RUN cannot operate has failed (1 to 8, R500), or the image runs: PHASE
becomes 4 and the confirmation deadline is 30 s ahead; other units that failed raise their event sources. -/
def startSelfTest (detail : Nat) (failed : List (Nat × Nat)) (d : Dev) : Dev :=
  if d.pow.phase ≠ 3 then d else
  if detail ≠ 0 then d.failAttempt 0x20 detail else
  let d := d.setPow { d.pow with phase := 4, deadline := some (d.now + sec 30), broken := failed }
  let d := ((d.setPower 2).put 0x130208 0 (d.pow.source + 1)).put 0x130209 0 (leAt (d.imageBytes d.pow.source 12 4) 0 4)
  let d := d.setTab { d.tab with upSince := some d.now }
  let d := { d with flt := { d.flt with passStart := d.now } }
  let d := d.setPow { d.pow with window := [] }
  failed.foldl (fun d x => d.startFailed x.1 x.2) d

/-- The answer to a write of object 0x1301:01 (R496). -/
def Dev.confirmCode (d : Dev) (v : Nat) : Nat :=
  if d.pow.phase ≠ 4 then 0x0502
  else if v ≠ d.get 0x130204 0 then 0x0404
  else if !([0, 1, 2, 3].all (fun g => d.regionRuns g && (d.rep (21 + g)).sync)) then 0x0503
  else match d.tim.holder with
    | some k => if d.servo k = 2 ∨ d.servo k = 3 then 0 else 0x0503
    | none => 0x0503

/-- The start is confirmed (R496, R497, R499): FAILS := 0, reason 0x01; a full sector has the other erased. -/
def Dev.confirm (d : Dev) : Dev :=
  let changed := d.get 0x130201 0 != 0
  let d := (d.put 0x130201 0 0).endRecord 1 false 0
  let d := d.setPow { d.pow with
    phase := 5, isOpen := false, reason := 1, deadline := none, programming := changed,
    failedSlots := [] }
  let d := (d.setTim { d.tim with confirmed := true }).mirror
  if d.pow.flash.log.length = 128 then d.setPow { d.pow with flash := { d.pow.flash with other := [] } } else d

/-- CONFIRMATION_DEADLINE (R496): 30 s have passed since PHASE became 4. -/
def confirmationDeadline (d : Dev) : Dev :=
  match d.pow.deadline with
  | some t => if d.pow.phase = 4 then (d.at_ t).failAttempt 0x30 0 else d
  | none => d

/-- The time left to the confirmation deadline in ms (object 0x1302:07). -/
def Dev.deadlineMs (d : Dev) : Nat :=
  match d.pow.deadline with
  | some t => (t - d.now) / ms 1
  | none => 0

/-- The refusal of command 4 (R482, R501): it is a command of LANTERN, and of an attempt that it cuts short. -/
def Dev.restartCode (d : Dev) : Nat := if d.power = 4 ∨ d.power = 2 ∨ d.power = 1 ∧ d.pow.isOpen then 0 else 0x0502

/-- Command 4 (R498, R501): FAILS := 0, the mirror is updated, an attempt under way is closed with 0x43, and a start reset
follows. [DEDUCED: log 86, 90] -/
def Dev.restart (d : Dev) : Dev :=
  let d := d.interruptAttempt 0x43
  let d := d.put 0x130201 0 0
  let d := if d.power = 4 then d.put 0x900003 0 1 else d
  d.mirror.startReset

/-- Writes of next_slot and N are mirrored (R499). -/
def Dev.mirrorChanged (d : Dev) : Dev := (d.setPow { d.pow with programming := true }).mirror

/-! ### Flash slots (R501) -/

/-- Is an attempt reading flash (R501)? -/
def Dev.flashBusy (d : Dev) : Bool := d.pow.phase == 2 && decide (d.pow.source < 2)

/-- A block of a slot is erased and programmed: the bytes from an offset on; what a first write leaves out stays erased. -/
def Dev.flashBlock (d : Dev) (b off : Nat) (bs : List Byte) : Dev :=
  let old := if off = 0 then List.replicate 32768 0xFF else d.pow.flash.block b
  let d := d.setPow { d.pow with flash := { d.pow.flash with blocks := tput [] d.pow.flash.blocks b ((splice old off bs).take 32768) } }
  (d.put 0x131102 (b / 512) 1).put 0x131103 (b / 512) 0

/-- A slot goes under verification (object 0x1311:01, value 1). [DEDUCED: log 91] -/
def Dev.slotVerify (d : Dev) (s : Nat) : Dev :=
  let d := (d.put 0x131102 s 2).put 0x131103 s 0
  d.setPow { d.pow with verifying := d.pow.verifying.filter (· != s) ++ [s] }

/-- SLOT_VERIFY_COMPLETE (R501): the slot's status and reason. -/
def slotVerifyComplete (s : Nat) (readOk : Bool) (d : Dev) : Dev :=
  if !d.pow.verifying.contains s then d else
  let c := d.sourceCode s readOk
  let d := d.setPow { d.pow with verifying := d.pow.verifying.filter (· != s) }
  (d.put 0x131102 s (if c = 0 then 3 else 4)).put 0x131103 s c

/-- A slot is erased (object 0x1311:01, value 2). -/
def Dev.slotErase (d : Dev) (s : Nat) : Dev :=
  let d := d.setPow { d.pow with
    flash := { d.pow.flash with blocks := tdrop (fun k => k / 512 == s) d.pow.flash.blocks },
    verifying := d.pow.verifying.filter (· != s) }
  (d.put 0x131102 s 0).put 0x131103 s 0

/-! ### Boot registers (R494) -/

/-- `BOOT_STATUS`. -/
def Dev.bootStatus (d : Dev) : Nat := d.pow.phase * 2 ^ 28 + d.pow.reason * 2 ^ 16 + d.get 0x130201 0

/-- A write to the boot window: accepted in phase 1 below offset 0x0100_0000 (R494). -/
def Dev.writeWindow (d : Dev) (off : Nat) (bs : List Byte) : Dev :=
  if d.pow.phase = 1 then
    d.setPow { d.pow with window := tputAll 0 d.pow.window off (bs.take (16777216 - off)) }
  else d

end Sys2Proof.Machine
end

