-- ==== Sys2Proof/Machine/Inject.lean ====
section
/-! DEFINITION. Fault injection (R471, R472): arming, disarming and firing of the injection slots. -/
namespace Sys2Proof.Machine

/-- Replace the fault part. -/
def Dev.setFlt (d : Dev) (x : FaultSt) : Dev := { d with flt := x }

/-- The number of instances of a checker (R471); 0 for a code that names none. -/
def checkerUnits (c : Nat) : Nat :=
  match c with
  | 0x01 => 2 | 0x02 => 128 | 0x03 => 128 | 0x04 => 128 | 0x05 => 16 | 0x06 => 16 | 0x07 => 4 | 0x08 => 4 | 0x09 => 6
  | 0x0A => 2 | 0x0B => 1 | 0x0C => 1 | 0x0D => 16 | 0x0E => 18 | 0x0F => 16 | 0x10 => 4 | 0x11 => 4 | 0x12 => 1
  | 0x13 => 1 | _ => 0

/-- The refusal of arming slot `k` (R472), 0 for none. -/
def Dev.armInjectCode (d : Dev) (k : Nat) : Nat :=
  let c := d.get 0x820001 k
  if d.get 0x820006 k = 1 then 0x0502
  else if checkerUnits c ≤ d.get 0x820002 k then 0x0404
  else if c = 1 ∧ 17179869184 ≤ d.get 0x820007 k then 0x0404
  else 0

/-- Slot `k` is armed for its count of firings. -/
def Dev.armInject (d : Dev) (k : Nat) : Dev :=
  (d.put 0x820006 k 1).setFlt { d.flt with injLeft := tput 0 d.flt.injLeft k (d.get 0x820004 k) }

/-- Slot `k` is disarmed and idle. -/
def Dev.disarmInject (d : Dev) (k : Nat) : Dev :=
  (d.put 0x820006 k 0).setFlt { d.flt with injLeft := tput 0 d.flt.injLeft k 0 }

/-- The lowest armed slot of a checker, its instance and, for HBM, the word's address (R471). -/
def Dev.armedSlot (d : Dev) (c unit addr : Nat) : Option Nat :=
  (List.range 16).find? (fun k => d.get 0x820006 k == 1 && d.get 0x820001 k == c && d.get 0x820002 k == unit
    && (c != 1 || d.get 0x820007 k == addr))

/-- A checker examines its next word, flit or frame: an armed slot fires, raises source 464, and gives its mask; after its
count it is done. -/
def Dev.fire (d : Dev) (c unit addr : Nat) : Option Nat × Dev :=
  match d.armedSlot c unit addr with
  | none => (none, d)
  | some k =>
    let n := tget 0 d.flt.injLeft k - 1
    let d := d.setFlt { d.flt with injLeft := tput 0 d.flt.injLeft k n }
    let d := if n = 0 then d.put 0x820006 k 2 else d
    (some (d.get 0x820003 k), d.raise 464 k 0 0)

/-- What was raised after the first `n` detections was caused by injection; source 464 itself is not. -/
def Dev.markInjected (d : Dev) (n : Nat) : Dev :=
  d.setFlt { d.flt with
    flying := d.flt.flying.take n ++ (d.flt.flying.drop n).map (fun x => { x with injected := x.src != 464 }) }

/-- Run what reports a checker's detection; an armed slot of that checker and instance fires with it. [DEDUCED: log 96] -/
def Dev.checked_ (d : Dev) (c unit : Nat) (f : Dev → Dev) : Dev :=
  match d.fire c unit 0 with
  | (none, d) => f d
  | (some _, d) => (f d).markInjected d.flt.flying.length

/-- The bits set in a mask. -/
def ones (m : Nat) : Nat := ((List.range 8).filter (fun i => bit m i)).length

/-- The checker and instance whose detection a source reports (R454, R471), where only the collector sees it. -/
def checkerOf (src unit : Nat) : Option (Nat × Nat) :=
  if src = 208 then some (2, unit)
  else if src = 225 then some (5, unit) else if src = 226 then some (6, unit)
  else if src = 261 then some (7, unit) else if src = 262 then some (8, unit)
  else if src = 114 then some (10, if unit < 65536 then 0 else 1)
  else if src = 177 then some (11, 0) else if src = 352 then some (12, 0)
  else if src = 2 ∨ src = 3 then some (19, 0)
  else none

end Sys2Proof.Machine
end

