-- ==== Sys2Proof/Machine/Collector.lean ====
section
/-! DEFINITION. The fault collector: detections, the first error, reactions, safe states, the escalation ladder, resets by scope and
credit reclaim (R17, R18, R452 to R463, R467). -/
namespace Sys2Proof.Machine

/-- ENGINE_HARDWARE_FAULT of physical engine `f` (R306, R471): 0 instruction memory, 1 data memory, 2 register file or pipeline
parity, each with its checker; 3 an illegal instruction. -/
def engineCheck (f : Nat) (kind : Fin 4) (d : Dev) : Dev :=
  if kind = 0 then d.checked_ 2 f (engineHardwareFault f 0)
  else if kind = 1 then d.checked_ 3 f (engineHardwareFault f 0)
  else if kind = 2 then d.checked_ 4 f (engineHardwareFault f 1)
  else engineHardwareFault f 2 d

/-! ### Resets by scope (R17, R18, R461, R467) -/

/-- A replica that a reset clears is unsynchronised until its next pulses (R26). -/
def Dev.clearReplica (d : Dev) (r : Nat) : Dev := (d.setRep r replica0).setLive 23 r true

/-- The engines of a cluster are reset; their shared blocks are free and built again (R467). -/
def Dev.clearCluster (d : Dev) (k : Nat) : Dev :=
  (List.range 8).foldl (fun d i => d.engineReset (d.logicalOf (8 * k + i))) d

/-- A region's reset: its clusters, its ledgers and replica, the updates held for open epochs and their slots; its open epochs
are published without it (R17, R349). [DEDUCED: log 94] -/
def Dev.clearRegion (d : Dev) (g : Nat) : Dev :=
  let d := (List.range 4).foldl (fun d k => d.clearCluster (4 * g + k)) d
  let x := d.region g
  let d := d.setRegion g { x with
    up := false, absentTo := d.epochOf d.now, units := [], held := [], fill := 0, fillAt := d.now, ledger := ⟨0, 0, 0, 0⟩,
    rejectSeen := [] }
  let open_ := fun (v : ValSlot) => decide (tagDiff v.tag (d.tab.closed % 2 ^ 32) > 0)
  let recs := d.tab.recs.map (fun p =>
    if regionOfSig p.1 = g then (p.1, { p.2 with slots := p.2.slots.filter (fun s => !open_ s.2) }) else p)
  let d := d.setTab { d.tab with recs := recs }
  let d := { d with arch := { d.arch with credits := tput credits0 d.arch.credits (100 + g) credits0 } }
  (d.clearReplica (21 + g)).waveRegionReset g

/-- A port's unit reset: frames held for it are dropped for the reason "reset", its timestamp entries discarded, its replica
cleared (R17, R467). -/
def Dev.clearPort (d : Dev) (p : Nat) : Dev :=
  let x := d.port p
  let lost := (x.now.map (fun n => n.frame)).toList ++ (x.held.map (fun n => n.frame)).toList
  let d := d.setPort p { x with now := none, held := none, rxFrag := none, hold := false, paused := 0, verifyTries := 0 }
  let d := lost.foldl (fun d f => d.dropTx p f reasonReset) d
  let d := d.dropWaitingTx p reasonReset (fun _ => true)
  ((d.tsqFlush p).clearReplica p).setTether p tetherRep0

/-- A ring port's unit reset (R17, R241, R467): a copy in progress counts as invalid dropped, which the ledger's own count shows. -/
def Dev.clearRingPort (d : Dev) (i : Nat) : Dev :=
  ((d.ringPortReset (i / 2)).clearReplica (17 + i)).setTether (16 + i) tetherRep0

/-- A die's reset: both regions, and the ends of its links with full credits (R17, R467). -/
def Dev.clearDie (d : Dev) (c : Nat) : Dev :=
  let d := (d.clearRegion (2 * c - 2)).clearRegion (2 * c - 1)
  let touch := fun k => decide (k < 100) && (k / 8 == c - 1 || k / 8 == 2)
  { d with arch := { d.arch with credits := tdrop touch d.arch.credits } }

/-- What a reset clears at its start (R17). -/
def Dev.clearScope (d : Dev) : Scope → Dev
  | .engine f => d.engineReset (d.logicalOf f)
  | .queue q => d.resetQueue q
  | .port p => d.clearPort p
  | .ringPort i => d.clearRingPort i
  | .tsUnit n => if n < 16 then d.clearReplica n else d
  | .cluster k => d.clearCluster k
  | .region g => d.clearRegion g
  | .die c => d.clearDie c
  | .ring r => (d.clearRingPort (2 * r)).clearRingPort (2 * r + 1)
  | .time => d
  | .endpoint => d
  | .device => d

/-- A region is up again; once all four are, epochs may start (R350). -/
def Dev.regionUp (d : Dev) (g : Nat) : Dev :=
  let d := d.setRegion g { d.region g with up := true }
  if [0, 1, 2, 3].all (fun k => (d.region k).up) then d.setTab { d.tab with upSince := some d.now } else d

/-- What a reset brings back at its end. -/
def Dev.restoreScope (d : Dev) : Scope → Dev
  | .region g => d.regionUp g
  | .die c => (d.regionUp (2 * c - 2)).regionUp (2 * c - 1)
  | .port p => (d.reloadBank p).beginVerify p
  | _ => d

/-- A reset begins (R18): one that a larger reset in progress contains has no effect, and it absorbs the smaller ones inside it,
whose reactions go on with it. The scope now being reset is answered. -/
def Dev.beginReset (d : Dev) (s : Scope) : Scope × Dev :=
  match d.flt.resets.find? (fun r => r.ended.isNone && s.within.contains r.scope) with
  | some r => (r.scope, d)
  | none =>
    let inside := fun (r : ResetRun) => r.ended.isNone && r.scope.within.contains s
    let d := d.setFlt { d.flt with
      resets := d.flt.resets.filter (fun r => !inside r) ++ [⟨s, d.now, none⟩],
      reactions := d.flt.reactions.map (fun x =>
        if x.phase == .resetting && (match x.scope with
          | some c => c.within.contains s
          | none => false) then { x with scope := some s } else x) }
    (s, d.clearScope s)

/-- A reset ends: its state comes back, and what lies inside stays consequential for 10 µs (R463). -/
def Dev.endReset (d : Dev) (s : Scope) : Dev :=
  let now := d.now
  let old := fun (r : ResetRun) => match r.ended with
    | some e => decide (e + us 10 < now)
    | none => false
  let d := d.setFlt { d.flt with
    resets := (d.flt.resets.filter (fun r => !old r)).map (fun r =>
      if r.scope == s && r.ended.isNone then { r with ended := some now } else r) }
  d.restoreScope s

/-- A unit reset by command (R17): it begins and ends at once for this model of effects in order. [DEDUCED: log 93] -/
def Dev.commandReset (d : Dev) (s : Scope) : Dev :=
  let x := d.beginReset s
  if x.1 = s then x.2.endReset s else x.2

/-- The write of object 0x9010:07 (R486): die C0 or C1 is reset for 5 ms. -/
def Dev.dieReset (d : Dev) (c : Nat) : Dev := (d.beginReset (.die c)).2

/-- DIE_RESET_COMPLETE (R486). -/
def dieResetComplete (c : Nat) (d : Dev) : Dev :=
  match d.flt.resets.find? (fun r => r.ended.isNone && r.scope == .die c) with
  | some r => (d.at_ (r.started + ms 5)).endReset (.die c)
  | none => d

/-! ### Safe states (R458 to R460) -/

/-- The effects of one scope's entry into the safe state (R458); element 19 is the device. -/
def Dev.safeEffects (d : Dev) (e : Nat) : Dev :=
  if e < 16 then d.portSafe e else if e < 18 then d.ringEnterSafe (e - 16) else if e = 18 then d.cutPulses else d

/-- One scope is marked in its safe state, with the source that put it there; one already there keeps its first. -/
def Dev.markSafe (d : Dev) (e src : Nat) : Dev :=
  if d.on 0x802001 e then d else ((d.put 0x802001 e 1).put 0x802002 e src).safeEffects e

/-- The safe state of a scope, for a source and unit (R458); the device scope takes every scope with it. -/
def Dev.enterSafe (d : Dev) (e src unit : Nat) : Dev :=
  let c : SafeCause := ⟨e, src, unit⟩
  let d := if d.flt.causes.contains c then d else d.setFlt { d.flt with causes := d.flt.causes ++ [c] }
  if e = 19 then (List.range 20).foldl (fun d i => d.markSafe i src) d else d.markSafe e src

/-- Does a source that put the scope in the safe state read LIVE (R460)? -/
def Dev.causeLive (d : Dev) (e : Nat) : Bool := d.flt.causes.any (fun c => c.scope == e && d.on 0x801006 c.src)

/-- The answer to a write of 1 to object 0x8020:03 (R460). -/
def Dev.releaseCode (d : Dev) (e : Nat) : Nat :=
  if !d.on 0x802001 e then 0
  else if e ≠ 19 ∧ d.on 0x802001 19 then 0x0503
  else if e = 19 then (if (List.range 20).any d.causeLive then 0x0503 else 0)
  else if d.causeLive e then 0x0503 else 0

/-- One scope leaves the safe state: a port reloads its active bank, a ring returns to listen, time outputs go on with their
next edge (R460). -/
def Dev.leaveSafe (d : Dev) (e : Nat) : Dev :=
  if !d.on 0x802001 e then d else
  let d := ((d.put 0x802001 e 0).put 0x802002 e 0xFFFF).setFlt { d.flt with
    causes := d.flt.causes.filter (fun c => c.scope != e) }
  if e < 16 then d.reloadBank e
  else if e < 18 then
    let r := e - 16
    if d.ringState r = rsDisabled ∨ d.ringState r = rsPass then d else d.ringGo r rsListen
  else d

/-- A release that its answer allows. -/
def Dev.releaseSafe (d : Dev) (e : Nat) : Dev :=
  if e = 19 then (if d.on 0x802001 19 then (List.range 20).foldl Dev.leaveSafe d else d) else d.leaveSafe e

/-! ### The first error (R457) -/

/-- `FE_STATUS`. -/
def FaultSt.feStatus (x : FaultSt) : Nat :=
  b2n x.feValid * 2 ^ 31 + b2n x.feOverflow * 2 ^ 30 + b2n x.feInjected * 2 ^ 29 + x.feClass * 2 ^ 26 + x.feSource

/-- Object 0x8000:02 shows the record. -/
def Dev.showFirst (d : Dev) : Dev :=
  let x := d.flt
  d.putB 0x800002 0 (leBytes 4 x.feStatus ++ leBytes 4 x.feUnit ++ leBytes 4 x.feNs ++ leBytes 4 x.feSec ++ leBytes 8 x.feSynd
    ++ zeros 8)

/-- CLEAR of the first-error record: VALID, OVERFLOW and INJECTED. -/
def Dev.clearFirst (d : Dev) : Dev :=
  (d.setFlt { d.flt with feValid := false, feOverflow := false, feInjected := false }).showFirst

/-- DETAIL as the record carries it: bit 63 tells injection (R472). -/
def Detection.det (x : Detection) : Nat := x.detail % 2 ^ 63 + (if x.injected then 2 ^ 63 else bits x.detail 63 1 * 2 ^ 63)

/-- A primary E or F detection latches the record when it is not valid; any other E or F detection sets OVERFLOW, which only CLEAR
clears (R457, R463). [DEDUCED: log 99] -/
def Dev.noteFirst (d : Dev) (x : Detection) (conseq : Bool) : Dev :=
  let c := srcClass x.src
  if c ≠ clsE ∧ c ≠ clsF then d
  else if conseq || d.flt.feValid then (d.setFlt { d.flt with feOverflow := true }).showFirst
  else
    let t := ts64Of x.time
    (d.setFlt { d.flt with
      feValid := true, feInjected := x.injected, feClass := c, feSource := x.src,
      feUnit := x.unit % 2 ^ 32, feNs := bits t 0 32, feSec := bits t 32 32, feSynd := x.det }).showFirst

/-! ### Reactions (R455, R461, R462) -/

/-- The safe-state scope of a source's instance (R454), by element of object 0x8020. [DEDUCED: log 100] -/
def safeScope (src unit : Nat) : Nat :=
  if src = 21 then 18
  else if src = 66 ∨ src = 67 ∨ src = 68 ∨ src = 72 then unit % 16
  else if src = 144 ∨ src = 145 ∨ src = 146 then 16 + unit % 2
  else 19

/-- The reset steps of the ladder that a source's instance starts at (R454, R461); the device safe state follows them. -/
def ladder (src unit : Nat) : List Scope :=
  if src = 72 then [.port unit]
  else if src = 150 then [.ringPort unit]
  else if src = 352 then [.queue unit]
  else if src = 225 ∨ src = 226 then [.cluster unit, .region (unit / 4)]
  else if src = 261 ∨ src = 262 then [.region unit]
  else []

/-- The number of reactions in progress is object 0x8000:04. -/
def Dev.setReactions (d : Dev) (l : List Reaction) : Dev :=
  (d.setFlt { d.flt with reactions := l }).put 0x800004 0 l.length

/-- End the reaction of a source's instance. -/
def Dev.endReaction (d : Dev) (src unit : Nat) : Dev :=
  d.setReactions (d.flt.reactions.filter (fun r => !(r.src == src && r.unit == unit)))

/-- Replace the reaction of a source's instance. -/
def Dev.putReaction (d : Dev) (x : Reaction) : Dev :=
  d.setReactions (d.flt.reactions.map (fun r => if r.src == x.src && r.unit == x.unit then x else r))

/-- A reaction takes the next step of its ladder: a reset, or at the end the device safe state, which ends it. -/
def Dev.ladderStep (d : Dev) (x : Reaction) : Dev :=
  match (ladder x.src x.unit)[x.step]? with
  | some s =>
    let d := d.putReaction { x with step := x.step + 1, phase := .resetting, scope := some s }
    let r := d.beginReset s
    r.2.putReaction { x with step := x.step + 1, phase := .resetting, scope := some r.1 }
  | none => (d.endReaction x.src x.unit).enterSafe 19 x.src x.unit

/-- A new ESCALATE reaction: its software window opens, or with 256 in progress it takes its first step at once (R462). [DEDUCED: log 18] -/
def Dev.escalate (d : Dev) (src unit : Nat) : Dev :=
  if d.flt.reactions.any (fun r => r.src == src && r.unit == unit) then d else
  let full := decide (256 ≤ d.flt.reactions.length)
  let x : Reaction := ⟨src, unit, 0, .window (d.now + us (d.get 0x800001 0)), none⟩
  let d := d.setReactions (d.flt.reactions ++ [x])
  if full then (d.inc 0x800005 0).ladderStep x else d

/-- SOFTWARE_WINDOW_END (R461). -/
def softwareWindowEnd (src unit : Nat) (d : Dev) : Dev :=
  match d.flt.reactions.find? (fun r => r.src == src && r.unit == unit) with
  | some x =>
    match x.phase with
    | .window t => (d.at_ t).ladderStep x
    | _ => d
  | none => d

/-- RESET_COMPLETE (R461): the reset of a reaction completes, and the watch windows of the reactions in it begin. -/
def resetComplete (src unit : Nat) (d : Dev) : Dev :=
  match d.flt.reactions.find? (fun r => r.src == src && r.unit == unit) with
  | some x =>
    match x.phase, x.scope with
    | .resetting, some s =>
      let d := d.endReset s
      let ph := ReactPhase.watch d.now (d.now + us (d.get 0x800001 0))
      d.setReactions (d.flt.reactions.map (fun r =>
        if r.phase == .resetting && r.scope == some s then { r with phase := ph } else r))
    | _, _ => d
  | none => d

/-- WATCH_WINDOW_END (R461): no primary detection has come, and the reaction ends. -/
def watchWindowEnd (src unit : Nat) (d : Dev) : Dev :=
  match d.flt.reactions.find? (fun r => r.src == src && r.unit == unit) with
  | some x =>
    match x.phase with
    | .watch _ t => (d.at_ t).endReaction src unit
    | _ => d
  | none => d

/-- The answer to a write of object 0x8000:06 (R461): source, two zero bytes, unit. -/
def ackCode (b : List Byte) : Nat := if b.length = 8 ∧ leAt b 0 2 ≤ 511 ∧ leAt b 2 2 = 0 then 0 else 0x0403

/-- A primary detection while a reaction of its source watches the scope it lies in takes the next step (R461). -/
def Dev.watching (d : Dev) (x : Detection) : Option Reaction :=
  let sc := d.scopesOf x.src x.unit
  d.flt.reactions.find? (fun r => r.src == x.src && (match r.phase, r.scope with
    | .watch a b, some s => sc.contains s && decide (a + us 10 < x.time) && decide (x.time ≤ b)
    | _, _ => false))

/-- The containment of a detection that only the collector sees (R16, R191, R454): a redundancy function or node goes to
single-path take, a cluster's activations are abandoned. -/
def Dev.containBlock (d : Dev) (src unit : Nat) : Dev :=
  if src = 114 then d.storeBad unit
  else if src = 225 ∨ src = 226 then
    (List.range 8).foldl (fun d i =>
      let f := 8 * unit + i
      let n := (d.engine f).pending.length
      let d := d.abandonAct f
      let x := d.engine f
      (d.setEngine f { x with pending := [], lost := x.lost + n }).add 0x500005 (d.logicalOf f) n) d
  else if src = 72 then d.portSafe unit
  else if src = 150 then d.ringEnterSafe (unit / 2)
  else d

/-- The reaction of a primary detection (R455). -/
def Dev.react (d : Dev) (src unit : Nat) : Dev :=
  let r := d.get 0x801003 src
  if r = 1 then d.containBlock src unit
  else if r = 2 then (d.escalate src unit).containBlock src unit
  else if r = 3 then (d.containBlock src unit).enterSafe (safeScope src unit) src unit
  else d

/-! ### Detections (R452, R456, R463) -/

/-- Is a reading of the detector's clock unsynchronised: its port's, ring port's or region's replica (R14, R433)? [DEDUCED: log 95] -/
def Dev.detUnsync (d : Dev) (src unit : Nat) : Bool :=
  (d.scopesOf src unit).any (fun s => match s with
    | .port p => d.unsync p
    | .ringPort i => d.unsync (17 + i)
    | .region g => d.unsync (21 + g)
    | _ => false)

/-- Is a detection consequential: a reaction is in progress in a scope that holds its instance (R463)? -/
def Dev.consequential (d : Dev) (x : Detection) : Bool :=
  let sc := d.scopesOf x.src x.unit
  d.resetNear sc x.time || (List.range 20).any (fun e => d.on 0x802001 e && sc.contains (scopeOfElem e))

/-- One detection is recorded and reacted to (R452, R455, R457, R463). A reserved ID is never raised (R453). -/
def Dev.handle (d : Dev) (x : Detection) : Dev :=
  if !srcNamed x.src then d else
  let c := d.consequential x
  let un := d.detUnsync x.src x.unit
  let d := d.setFlt { d.flt with sticky := setBit d.flt.sticky x.src true }
  let d := d.inc 0x801004 x.src
  let d := if c then d.inc 0x801005 x.src else d
  let d := d.noteFirst x c
  let d := d.eventDeliver ⟨x.src, x.unit % 2 ^ 32, x.code % 2 ^ 16, x.det, x.time, un, c⟩
  if c then d
  else match d.watching x with
    | some r => d.ladderStep r
    | none => d.react x.src x.unit

/-- The order of handling (R456): class F, class E, then the rest; within it the lower source, then the lower unit. -/
def Detection.before (a b : Detection) : Bool :=
  let k := fun (x : Detection) => if srcClass x.src = clsF then 0 else if srcClass x.src = clsE then 1 else 2
  decide (k a < k b) || (k a == k b && (decide (a.src < b.src) || (a.src == b.src && decide (a.unit < b.unit))))

/-- Insert a detection behind those it does not precede. -/
def insertDet (x : Detection) : List Detection → List Detection
  | [] => [x]
  | y :: t => if x.before y then x :: y :: t else y :: insertDet x t

/-- Detections in the order of R456. -/
def sortDets (l : List Detection) : List Detection := l.foldl (fun acc x => insertDet x acc) []

/-- A detection that only the collector sees may come of an armed injection slot (R471, R472). -/
def Dev.injectedDet (d : Dev) (x : Detection) : Detection × Dev :=
  match checkerOf x.src x.unit with
  | some (c, u) =>
    match d.fire c u 0 with
    | (some _, d) => ({ x with injected := true }, d)
    | (none, d) => (x, d)
  | none => (x, d)

/-- FAULT_DETECTION (R452, R456): the detections under way and those of the command reach the collector in one cycle. `began` and
`ended` are the conditions that begin and cease to persist. -/
def faultDetection (ds : List Detection) (began ended : List (Nat × Nat)) (d : Dev) : Dev :=
  let r := ds.foldl (fun a x => let y := a.2.injectedDet x; (a.1 ++ [y.1], y.2)) (([] : List Detection), d)
  let d := r.2
  let d := ended.foldl (fun d x => d.setLive x.1 x.2 false) d
  let d := began.foldl (fun d x => d.setLive x.1 x.2 true) d
  let all := sortDets (d.flt.flying ++ r.1)
  all.foldl Dev.handle (d.setFlt { d.flt with flying := [] })

end Sys2Proof.Machine
end

