-- ==== Sys2Proof/Machine/Scrub.lean ====
section
/-! DEFINITION. HBM errors and the patrol scrubber (R366, R367, R469, R470). -/
namespace Sys2Proof.Machine

/-- The size of an HBM stack in bytes (R7). -/
def stackBytes : Nat := 17179869184

/-- An uncorrectable error, handled by what the word holds (R470). -/
def Dev.hbmBad (d : Dev) (w : HbmWord) : Dev :=
  match w with
  | .slot s k => d.slotError s.toNat k
  | .header s r => d.headerError s.toNat r
  | .window c i =>
    let x := tget win0 (d.window c) i
    d.setIng { d.ing with windows := tput [] d.ing.windows c (tput win0 (d.window c) i { x with word := setBit x.word 0 false }) }
  | .queue q => d.queueError q.toNat (d.queue q.toNat).next 6
  | .bank e => (d.put 0x303007 e 1).raise 69 e 0 0
  | .ringImage e => d.put 0x401003 e 1
  | .image i => if d.get 0x502003 i = 0 then d else (d.put 0x502003 i 4).put 0x502004 i 0
  | .sample c g =>
    let x := d.wchan c
    let k := g % ringDepth (d.wperiod c)
    let d := if (tget wsample0 x.ring k).grid = g then d.setWchan c { x with ring := tput wsample0 x.ring k wsample0 } else d
    (List.range 64).foldl (fun d e =>
      let v := d.capture e
      if d.capState e = 0 || !v.chans.contains c || !d.inWindow v c g then d
      else (d.setCapture e { v with
        samples := tput [] v.samples c ((tget [] v.samples c).filter (fun s => s.2.grid != g)), gaps := true }).showCapture e) d
  | .free => d

/-- A word is checked: a corrected one raises source 387, an uncorrectable one source 388 with its address, both counted in object
0x8300. With ECC off nothing is corrected or detected (R469). -/
def Dev.hbmCheck (d : Dev) (stack addr : Nat) (v : EccCheck) (w : HbmWord) : Dev :=
  if !d.on 0x830002 0 then d else
  match v with
  | .good => d
  | .corrected => (d.inc 0x830003 0).raise 387 stack 0 addr
  | .uncorrectable => ((d.inc 0x830004 0).raise 388 stack 0 addr).hbmBad w

/-- The outcome of the checker on a word: an armed injection slot that names its address decides it where its mask has one or two
bits; a longer mask leaves the outcome as the command gives it (R471). -/
def injectedCheck (m : Option Nat) (v : EccCheck) : EccCheck :=
  match m with
  | some x => if ones x = 1 then .corrected else if ones x = 2 then .uncorrectable else v
  | none => v

/-- The checker examines a word, an armed slot first (R471, R472). -/
def Dev.hbmWord (d : Dev) (stack addr : Nat) (v : EccCheck) (w : HbmWord) : Dev :=
  let r := d.fire 1 stack addr
  let n := r.2.flt.flying.length
  let d' := r.2.hbmCheck stack addr (injectedCheck r.1 v) w
  if r.1.isSome then d'.markInjected n else d'

/-- The signal of a record that a word belongs to. -/
def HbmWord.sig : HbmWord → Option Nat
  | .slot s _ => some s.toNat
  | .header s _ => some s.toNat
  | _ => none

/-- A stack's pass is through: source 389; once both are, the pass is counted and the next begins (R469). [DEDUCED: log 98] -/
def Dev.passEnd (d : Dev) (stack : Nat) : Dev :=
  let d := d.raise 389 stack 0 0
  let l := d.flt.passEnded.filter (· != stack) ++ [stack]
  if l.length = 2 then
    let d := d.setFlt { d.flt with passEnded := [], passStart := d.flt.passStart + sec (d.get 0x830001 0) }
    d.inc 0x830005 0
  else d.setFlt { d.flt with passEnded := l }

/-- SCRUB_READ (R367, R469): the word at a byte address is read at its paced instant; a signal record is visited with it. -/
def scrubRead (stack addr : Nat) (v : EccCheck) (w : HbmWord) (d : Dev) : Dev :=
  if d.power ≠ 2 ∨ stackBytes ≤ addr then d else
  let d := d.at_ (d.flt.passStart + addr * sec (d.get 0x830001 0) / stackBytes)
  let d := d.hbmWord stack addr v w
  let d := match w.sig with
    | some i => d.scrubRecord i
    | none => d
  if addr + 32 ≥ stackBytes then d.passEnd stack else d

/-- HBM_UNCORRECTABLE (R470): a demand access finds the error. -/
def hbmUncorrectable (stack addr : Nat) (w : HbmWord) (d : Dev) : Dev :=
  if d.power = 2 then d.hbmWord stack addr .uncorrectable w else d

end Sys2Proof.Machine
end

