-- ==== Sys2Proof/Machine/Txn.lean ====
section
/-! DEFINITION. Staged writes and transactions (R58 to R69). -/
namespace Sys2Proof.Machine

/-- Replace the object part. -/
def Dev.setObj (d : Dev) (x : ObjSt) : Dev := { d with obj := x }

/-- A free slot. -/
def slot0 : Slot :=
  { staged := [], kind := 0, boundary := none, openedAt := 0, endedAt := 0, committed := false, seq := 0, parts := [], waiting := [],
    fails := [], unready := [], sampled := none, syzygy := 0, confirmed := false, applied := false, implicit := false }

/-- Slot `k`. -/
def Dev.slot (d : Dev) (k : Nat) : Slot := tget slot0 d.obj.slots k

/-- Replace slot `k`. -/
def Dev.setSlot (d : Dev) (k : Nat) (x : Slot) : Dev := d.setObj { d.obj with slots := tput slot0 d.obj.slots k x }

/-- States of a transaction (R67). -/
def txFree : Nat := 0
def txOpen : Nat := 1
def txValidating : Nat := 2
def txReady : Nat := 3
def txApplied : Nat := 4
def txAborted : Nat := 5
def txFailed : Nat := 6

/-- A slot's state (object 0x1200:01). -/
def Dev.txState (d : Dev) (k : Nat) : Nat := d.get 0x120001 k

/-- The slot that holds a transaction ID. -/
def Dev.slotOf (d : Dev) (id : Nat) : Option Nat :=
  (List.range 32).find? (fun k => d.txState k != txFree && d.get 0x120002 k == id)

/-- An ID that the device assigns: a free value among the non-zero IDs that no slot holds (R59). [DEDUCED: log 107] -/
def Dev.newTxId (d : Dev) : Nat × Dev :=
  let f := d.takeFree
  let ids := (List.range 34).map (fun i => (f.1 + i) % 4294967296)
  ((ids.find? (fun i => i != 0 && (d.slotOf i).isNone)).getD 1, f.2)

/-- Open a transaction under an ID in a free slot; none where all 32 are in use (R59). Which free slot is a free value. -/
def Dev.openSlot (d : Dev) (id : Nat) (implicit : Bool) : Option (Nat × Dev) :=
  let l := (List.range 32).filter (fun k => d.txState k == txFree)
  if l.isEmpty then none else
  let f := d.takeFree
  let k := l.getD (f.1 % l.length) 0
  let d := f.2.setSlot k { slot0 with openedAt := d.now, implicit := implicit }
  some (k, (d.put 0x120001 k txOpen).put 0x120002 k id)

/-- Free a slot (R59). -/
def Dev.freeSlot (d : Dev) (k : Nat) : Dev :=
  [0x120001, 0x120002, 0x120003, 0x120004, 0x120005, 0x120006, 0x120007].foldl (fun d o => d.put o k 0) (d.setSlot k slot0)

/-- The shadow copy of an element takes its active value again. -/
def Dev.restoreShadow (d : Dev) (x : Key) : Dev :=
  (d.putSh x.o x.e (d.get x.o x.e)).putShB x.o x.e (d.getB x.o x.e)

/-- Answer the commands that wait for a slot's validation: a COMMIT and an implicit write each with its code (R58). -/
def Dev.answerWaiting (d : Dev) (k commit write : Nat) : Dev :=
  d.setObj { d.obj with flights := d.obj.flights.map (fun f =>
    if f.slot = some k ∧ f.resp.isNone then { f with slot := none, resp := some ⟨if f.req.cmd = 5 then commit else write, [], 0⟩ }
    else f) }

/-- From a COMMIT's acceptance an empty slot that it fills reads 3, loading (R300, object 0x5100:02). [DEDUCED: log 174] -/
def Dev.showLoading (d : Dev) (x : Key) : Dev :=
  if x.o = 0x510001 ∧ d.get 0x510002 x.e = 0 ∧ d.getSh x.o x.e ≠ 0xFF then d.put 0x510002 x.e 3 else d

/-- Where the transaction ends without its apply, the slot reads 0 again. -/
def Dev.hideLoading (d : Dev) (x : Key) : Dev :=
  if x.o = 0x510001 ∧ d.get 0x510002 x.e = 3 then d.put 0x510002 x.e 0 else d

/-- A transaction ends: state, result, event record (R59, R67); commands that still wait are answered with `code`. -/
def Dev.endSlot (d : Dev) (k state result code : Nat) : Dev :=
  let x := d.slot k
  let d := if state = txApplied then d else x.staged.foldl Dev.hideLoading (x.staged.foldl Dev.restoreShadow d)
  let d := d.setSlot k { x with staged := [], endedAt := d.now, waiting := [], applied := false }
  let d := ((d.put 0x120001 k state).put 0x120005 k result).answerWaiting k code code
  d.raise 1 0 state k

/-! ### Staging (R58, R60, R65) -/

/-- Is the element staged in an open transaction other than slot `k` (R60)? -/
def Dev.stagedElsewhere (d : Dev) (x : Key) (k : Option Nat) : Bool :=
  d.obj.slots.any (fun p => some p.1 != k && p.2.staged.contains x)

/-- Does an old bank of the element still govern data of an open epoch (R65)? -/
def Dev.oldInUse (d : Dev) (x : Key) : Bool := d.obj.old.any (fun y => y.key == x)

/-- Why an element may not be staged now (R65, R154, R231, R232), 0 where it may. -/
def Dev.stageBusy (d : Dev) (x : Key) : Nat :=
  if d.oldInUse x then 0x0502
  else if x.o / 256 = 0x3030 ∧ d.bankBusy x.e then 0x0502
  else if x.o / 256 = 0x4000 ∨ x.o / 256 = 0x4010 then d.ringStage x.o x.e
  else 0

/-- A staged write enters a slot; the later value of one element stands (R60). The slot counts the writes. -/
def Dev.stage (d : Dev) (k : Nat) (x : Key) : Dev :=
  let s := d.slot k
  let l := if s.staged.contains x then s.staged else s.staged ++ [x]
  let d := (d.setSlot k { s with staged := l }).put 0x120003 k l.length
  if x.o / 256 = 0x5200 then d.stageParams x.e else d

/-! ### Participants (R61) -/

/-- The region of an engine's or channel's owner as a participant code: 2 to 5 for G0 to G3. -/
def partOf (g : Nat) : Nat := 2 + g % 4

/-- The participants that hold an object's element: 1 is die H, 2 to 5 are G0 to G3 (R61). `s` reads the staged value. [DEDUCED: log 164] -/
def Dev.holders (d : Dev) (x : Key) : List Nat :=
  let i := x.o / 256
  let region := fun (o : Nat) => [partOf (d.get o x.e), partOf (d.getSh o x.e)]
  let l :=
    if i = 0x5000 then [partOf (x.e / 32)]
    else if i = 0x5001 ∨ i = 0x6001 then [partOf x.e]
    else if i = 0x5100 ∨ i = 0x5200 then [partOf (x.e / 512)]
    else if i = 0x5300 then [partOf (d.get 0x530001 x.e / 512), partOf (d.getSh 0x530001 x.e / 512)]
    else if i = 0x6010 then [partOf (regionOfSig x.e)]
    else if i = 0x6000 ∨ i = 0x6140 ∨ i = 0x8300 then [1, 2, 3, 4, 5]
    else if i = 0x6100 then 1 :: region 0x61000A
    else if i = 0x6110 then 1 :: region 0x611005
    else if i = 0x6120 then 1 :: region 0x612006
    else if i = 0xA000 then 1 :: region 0xA00007
    else if i = 0x5400 then 1 :: region 0x540003
    else if i = 0x6130 then (if d.chanRegion x.e < 4 then [1, partOf (d.chanRegion x.e)] else [1])
    else [1]
  l.eraseDups

/-- The participants of a transaction: die H and each holder, rising. -/
def Dev.participants (d : Dev) (l : List Key) : List Nat :=
  let all := l.flatMap d.holders
  [1, 2, 3, 4, 5].filter (fun p => p == 1 || all.contains p)

/-! ### Boundaries (R62, R63) -/

/-- The port that a staged object names (R63); 16 and above for none. -/
def Dev.portNamed (d : Dev) (x : Key) : Nat :=
  let i := x.o / 256
  if i = 0x3000 ∨ i = 0x3020 ∨ i = 0x3040 ∨ i = 0x3050 then x.e
  else if i = 0x3010 then x.e / 8
  else if i = 0x3030 then x.e / 4
  else if i = 0x3060 then d.getSh 0x306002 x.e
  else 16

/-- The ring that a staged object names (R63). -/
def ringNamed (x : Key) : Nat := if x.o / 256 = 0x4010 then x.e / 4 else x.e

/-- Is a list's every member the same? -/
def allSame (l : List Nat) : Bool := match l with
  | [] => true
  | a :: t => t.all (· == a)

/-- The mode change staged for a ring. -/
def modeStaged (l : List Key) : Option Nat := (l.find? (fun x => x.o == 0x40000C)).map (·.e)

/-- A ring's first cycle at or after an instant, at least 16 cycles ahead where a mode change is staged (R63, R232). [DEDUCED: log 106] -/
def Dev.ringFrom (d : Dev) (r t : Nat) (mode : Bool) : Nat :=
  let c := d.ringCycle r
  let n := (c.firstFrom t).toNat
  let m := (c.at_ d.now).toNat + 16
  if mode && decide (n < m) then m else n

/-- Resolve the boundary of a COMMIT (R62, R63): its kind as given, the staged elements, its parameters. The code of a refusal that leaves
the transaction OPEN, or the boundary and the syzygy ID. -/
def Dev.resolve_ (d : Dev) (kind : Nat) (l : List Key) (ps : List Byte) : Except Nat (Boundary × Nat) :=
  let kinds := l.map (fun x => (kindsOf x.o).headD 1)
  if kind = 0 ∧ !allSame kinds then .error 0x0606 else
  let k := if kind = 0 then kinds.headD 1 else kind
  let early := d.now + us 200
  if l.any (fun x => !(kindsOf x.o).contains k) then .error 0x0606
  else if k = 1 then
    let whole := l.any (fun x => x.o == 0x600001 || x.o == 0x600002)
    if d.tab.running then .ok (.epoch (d.epochBoundary early whole), 0) else .ok (.tai (ceilTo early (sec 1)), 0)
  else if kind = 0 then
    if k = 2 then
      let ps := l.map d.portNamed
      let p := ps.headD 0
      if !allSame ps then .error 0x0606
      else if !d.gatesRun p then .ok (.tai (ceilTo early (us 1)), 0)
      else
        let c := (d.port p).orrery.cycle
        let n := c.firstFrom early
        .ok (.portCycle p ((d.get 0x302005 p : Int) + n - c.at_ (d.portNow p)).toNat (c.startAt n).toNat, 0)
    else if k = 3 then
      let rs := l.map ringNamed
      let r := rs.headD 0
      if !allSame rs then .error 0x0606
      else
        let n := d.ringFrom r early (modeStaged l).isSome
        .ok (.ringCycle r n (d.ringCycleTime r n), 0)
    else .ok (.tai (ceilTo early (sec 1)), 0)
  else if ps.length < 12 then .error 0x0303
  else if k = 2 then
    let t := d.portCycleTime (byteAt ps 0 % 16) (leAt ps 4 8)
    if t < early then .error 0x0504 else .ok (.portCycle (byteAt ps 0 % 16) (leAt ps 4 8) t, 0)
  else if k = 3 then
    let r := byteAt ps 0 % 2
    let n := leAt ps 4 8
    let t := d.ringCycleTime r n
    if t < early ∨ ((modeStaged l).isSome ∧ (n : Int) < (d.ringCycle r).at_ d.now + 16) then .error 0x0504
    else .ok (.ringCycle r n t, 0)
  else
    let t := timeOfKtime (leAt ps 0 12)
    let id := leAt ps 12 4
    match modeStaged l with
    | some r =>
      let n := ((d.ringCycle r).firstFrom t).toNat
      if t < early ∨ (n : Int) < (d.ringCycle r).at_ d.now + 16 then .error 0x0504
      else .ok (.ringCycle r n (d.ringCycleTime r n), id)
    | none => if t < early then .error 0x0504 else .ok (.tai t, id)

/-! ### Validation (R61, R69) -/

/-- The device as a transaction would make it: every staged value active. -/
def Dev.prospect (d : Dev) (l : List Key) : Dev :=
  (l.foldl (fun d x => (d.put x.o x.e (d.getSh x.o x.e)).putB x.o x.e (d.getShB x.o x.e)) d).refreshChannels

/-- One staged element's check, on the prospective device `n` and the device as it is; 0 for none. -/
def Dev.checkKey (d n : Dev) (x : Key) : Nat :=
  let codes := [n.checkTime x.o x.e, n.checkPtp x.o x.e, n.checkPort x.o x.e, n.checkEclipse x.o x.e, n.checkRing x.o x.e,
    n.checkQueue x.o x.e, n.checkEngine x.o x.e, n.checkIngest x.o x.e, n.checkWave x.o x.e, n.checkTable d x.o x.e,
    n.checkPmu x.o x.e, d.ringCommit x.o x.e]
  (codes.find? (· != 0)).getD 0

/-- The code of several errors: the lowest, none for none (R69). -/
def leastCode (l : List Nat) : Nat := l.foldl (fun m c => if c = 0 then m else if m = 0 ∨ c < m then c else m) 0

/-- Does one failing check go before another in the order of R69: code, participant, index and subindex, element? -/
def CheckFail.before (a b : CheckFail) : Bool :=
  decide (a.code < b.code) || (a.code == b.code && (decide (a.part < b.part) || (a.part == b.part
    && (decide (a.key.o < b.key.o) || (a.key.o == b.key.o && decide (a.key.e < b.key.e))))))

/-- The first failing check. -/
def firstFail (l : List CheckFail) : Option CheckFail :=
  l.foldl (fun m x => match m with
    | some y => if x.before y then some x else m
    | none => some x) none

/-- A COMMIT is accepted: the slot is VALIDATING, and every participant checks (R59, R62). -/
def Dev.accept (d : Dev) (k kind : Nat) (b : Boundary) (syz : Nat) : Dev :=
  let x := d.slot k
  let ps := d.participants x.staged
  let d := d.setSlot k { x with
    kind := kind, boundary := some b, committed := true, seq := d.obj.commits, parts := ps, waiting := ps, fails := [], syzygy := syz }
  let d := d.setObj { d.obj with commits := d.obj.commits + 1 }
  x.staged.foldl Dev.showLoading ((d.put 0x120001 k txValidating).put 0x120004 k (ktimeOf b.time))

/-- The transaction reaches READY (R59); a ring's leader proposes the mode, or the transaction ends at once with 0x0504 (R232). -/
def Dev.readySlot (d : Dev) (k : Nat) : Dev :=
  let x := d.slot k
  let d := (d.put 0x120001 k txReady).answerWaiting k 0 1
  match modeStaged x.staged, x.boundary with
  | some r, some (.ringCycle _ t _) =>
    if d.ringState r = rsLeader then
      match d.ringPropose r (d.getSh 0x40000C r) t with
      | some d => d
      | none => d.endSlot k txAborted 0x0504 0x0504
    else d
  | _, _ => d

/-- Validation ends: READY, or FAILED with the code of R69. -/
def Dev.concludeSlot (d : Dev) (k : Nat) : Dev :=
  match firstFail (d.slot k).fails with
  | none => d.readySlot k
  | some f =>
    let d := (d.put 0x120006 k f.part).put 0x120007 k (f.key.o * 256)
    d.endSlot k txFailed 0x0604 f.code

/-- PARTICIPANT_REPORT (R61): participant `part` (1 H, 2 to 5 G0 to G3) reports on the staged objects it holds; the last report ends
the validation. A region that does not run reports its objects invalid with 0x0503. -/
def participantReport (k part : Nat) (d : Dev) : Dev :=
  let x := d.slot k
  if d.txState k ≠ txValidating ∨ !x.waiting.contains part then d else
  let n := d.prospect x.staged
  let mine := x.staged.filter (fun y => (d.holders y).contains part || (part == 1 && (d.holders y).isEmpty))
  let down := decide (2 ≤ part) && !d.regionRuns (part - 2)
  let bad := (mine.map (fun y => CheckFail.mk (if down then 0x0503 else d.checkKey n y) part y)).filter (fun f => f.code != 0)
  let d := d.setSlot k { x with fails := x.fails ++ bad, waiting := x.waiting.filter (· != part) }
  if (d.slot k).waiting.isEmpty then d.concludeSlot k else d

/-! ### The all-ready sample and the apply (R64 to R66) -/

/-- Is a participant ready at the sample (R64)? Die H is not where a switch names an invalid bank (R154), or a ring's proposal has
lapsed (R237). -/
def Dev.partReady (d : Dev) (k part : Nat) : Bool :=
  let x := d.slot k
  !x.unready.contains part
  && (if part = 1 then
        x.staged.all (fun y => (y.o != 0x302002 || d.switchReady y.e (d.getSh y.o y.e)) && (y.o != 0x40000C || d.ringReady y.e))
      else d.regionRuns (part - 2))

/-- The unit of a syzygy event: the session of that ID, or 0xFF (R454). -/
def Dev.sessionUnit (d : Dev) (id : Nat) : Nat :=
  (([0, 1, 2, 3] : List Nat).find? (fun k => d.get 0x340001 k == id && d.get 0x340006 k != 0)).getD 0xFF

/-- ALL_READY_SAMPLE (R64): 1 µs before the boundary. Not ready: every participant stays on its old bank, and the transaction ends
ABORTED with 0x0603; a confirmed participant of a syzygy session raises source 70 (R156). [DEDUCED: log 129] -/
def allReadySample (k : Nat) (d : Dev) : Dev :=
  let x := d.slot k
  match x.boundary with
  | some b =>
    if d.txState k ≠ txReady ∨ x.sampled.isSome then d else
    let d := d.at_ (b.time - us 1)
    match x.parts.find? (fun p => !d.partReady k p) with
    | none => d.setSlot k { x with sampled := some true }
    | some p =>
      let d := d.setSlot k { x with sampled := some false }
      let d := x.staged.foldl (fun d y =>
        if y.o = 0x302002 ∧ !d.switchReady y.e (d.getSh y.o y.e) then d.inc 0x302007 y.e else d) d
      let d := if x.confirmed then d.raise 70 (d.sessionUnit x.syzygy) 0 k else d
      ((d.put 0x120006 k p).put 0x120007 k 0).endSlot k txAborted 0x0603 0x0603
  | none => d

/-- One element's banks change places (R65); at an epoch boundary the old bank goes on governing data of the epoch before. [DEDUCED: log 102] -/
def Dev.swapBank (d : Dev) (x : Key) (epoch : Option Nat) : Dev :=
  let a := d.get x.o x.e
  let b := d.getB x.o x.e
  let d := (d.put x.o x.e (d.getSh x.o x.e)).putB x.o x.e (d.getShB x.o x.e)
  let d := (d.putSh x.o x.e a).putShB x.o x.e b
  match epoch with
  | some t => d.setObj { d.obj with old := d.obj.old ++ [⟨x, a, b, t⟩] }
  | none => d

/-- What applying an object does beside its value (the owning chapters), at boundary instant `t`. -/
def Dev.applied (d : Dev) (x : Key) (t : Nat) : Dev :=
  let i := x.o / 256
  let d := (((d.ptpApplied x.o x.e).portApplied x.o x.e t).ringApplied x.o x.e).eclipseApplied x.o x.e
  let d := d.applyIngest x.o x.e t
  if x.o = 0x510001 then d.applySlot x.e t
  else if x.o = 0x500101 then d.applySpare x.e
  else if x.o = 0x613002 then d.resetWindow x.e
  else if i = 0xA100 then d.applyLine x.e
  else if i = 0xA000 then d.applySensor x.o x.e
  else if x.o = 0x620001 then d.applyList x.e
  else d

/-- What applying the elements of one record does once: parameters of a slot, a binding, an output stream, the period; then the
figures that follow. -/
def Dev.appliedOnce (d : Dev) (l : List Key) (t : Nat) : Dev :=
  let elems := fun (i : Nat) => ((l.filter (fun x => x.o / 256 == i)).map (·.e)).eraseDups
  let d := (elems 0x5200).foldl (fun d k => d.applyParams k t) d
  let d := (elems 0x5300).foldl (fun d b => d.applyBinding b t) d
  let d := (elems 0x6500).foldl (fun d s => d.applyPmu s t) d
  let d := if l.any (fun x => x.o == 0x600001 || x.o == 0x600002 || x.o == 0x600003) then d.applyPeriod t else d
  d.showRates.showEndpoint.showClass

/-- Finish a transaction that has applied (R59, R67). -/
def Dev.finishSlot_ (d : Dev) (k : Nat) : Dev := d.endSlot k txApplied 0 0

/-- TRANSACTION_APPLY (R65): at the boundary the new bank governs. At an epoch boundary the transaction enters APPLIED when the epoch
before it closes. [DEDUCED: log 103] -/
def transactionApply (k : Nat) (d : Dev) : Dev :=
  let x := d.slot k
  match x.boundary with
  | some b =>
    if d.txState k ≠ txReady ∨ x.sampled ≠ some true ∨ x.applied then d else
    let d := d.at_ b.time
    let ep := match b with
      | .epoch t => if d.tab.running then some t else none
      | _ => none
    let d := x.staged.foldl (fun d y => d.swapBank y ep) d
    let d := x.staged.foldl (fun d y => d.applied y b.time) d
    let d := d.appliedOnce x.staged b.time
    if ep.isSome then d.setSlot k { d.slot k with applied := true } else d.finishSlot_ k
  | none => d

/-- The old banks of a signal header that its close retires: a TYPE that came from zero clears the record (R343). -/
def Dev.retireHeader (d : Dev) (y : OldBank) : Dev :=
  if y.key.o = 0x601001 ∧ y.num = 0 ∧ d.get 0x601001 y.key.e ≠ 0 then
    d.setRec y.key.e { d.rec_ y.key.e with slots := [], ever := false }
  else d

/-- The epoch before a boundary has closed: its old banks become the shadow copies, and the transactions that applied at it end
APPLIED (R65). -/
def Dev.retireBanks (d : Dev) (t : Nat) : Dev :=
  let gone := d.obj.old.filter (fun y => decide (y.boundary ≤ t))
  let d := gone.foldl Dev.retireHeader d
  let d := d.setObj { d.obj with old := d.obj.old.filter (fun y => decide (t < y.boundary)) }
  (List.range 32).foldl (fun d k =>
    match (d.slot k).boundary with
    | some b => if (d.slot k).applied && decide (b.time ≤ t) then d.finishSlot_ k else d
    | none => d) d

/-- EPOCH_CLOSE with the banks it retires (R65, R348). -/
def epochCloseAll (d : Dev) : Dev :=
  if !d.tab.running then d else
  let t := d.epochEnd (d.tab.closed + 1)
  (epochClose d).retireBanks t

/-! ### ABORT, time-outs, STATUS (R59, R67) -/

/-- The answer of an ABORT, and what it does. -/
def Dev.abortTxn (d : Dev) (id : Nat) : Nat × Dev :=
  match d.slotOf id with
  | none => (0x0601, d)
  | some k =>
    let x := d.slot k
    let st := d.txState k
    if (st = txOpen ∨ st = txValidating ∨ st = txReady) ∧ x.sampled.isNone ∧ !x.confirmed then
      let d := match modeStaged x.staged with
        | some r => if st = txReady then (d.updRing r (fun y => { y with prop := none })).put 0x400108 r 0 else d
        | none => d
      (0, d.endSlot k txAborted 0x0607 0x0607)
    else (0x0502, d)

/-- TRANSACTION_TIMEOUT (R59): 60 s after the OPEN no COMMIT has been accepted. -/
def transactionTimeout (k : Nat) (d : Dev) : Dev :=
  if d.txState k ≠ txOpen then d else (d.at_ ((d.slot k).openedAt + sec 60)).endSlot k txAborted 0x0608 0x0608

/-- TRANSACTION_SLOT_RELEASE (R59): 60 s after the transaction ended. -/
def slotRelease (k : Nat) (d : Dev) : Dev :=
  if d.txState k < txApplied then d else (d.at_ ((d.slot k).endedAt + sec 60)).freeSlot k

/-- The 26 bytes of a STATUS (R67). -/
def Dev.statusBytes (d : Dev) (k : Nat) : List Byte :=
  leBytes 1 (d.get 0x120001 k) ++ leBytes 4 (d.get 0x120002 k) ++ leBytes 2 (d.get 0x120003 k) ++ leBytes 12 (d.get 0x120004 k)
  ++ leBytes 2 (d.get 0x120005 k) ++ leBytes 1 (d.get 0x120006 k) ++ leBytes 4 (d.get 0x120007 k)

end Sys2Proof.Machine
end

