-- ==== Sys2Proof/Machine/Kmp.lean ====
section
/-! DEFINITION. KMP messages (R45) and the replay cache (R47). -/
namespace Sys2Proof.Machine

/-- One KMP message (R45); the header is in network byte order. -/
structure Kmp where
  kind : Nat
  replay : Bool
  shadow : Bool
  txid : Nat
  role : Nat
  cmd : Nat
  abort : Nat
  idx : Nat
  sub : Nat
  boundary : Nat
  elem : Nat
  offset : Nat
  data : List Byte
deriving DecidableEq, Repr

/-- A message of a kind with data, every other field zero. -/
def kmpOf (kind txid role abort : Nat) (data : List Byte) : Kmp :=
  { kind := kind, replay := false, shadow := false, txid := txid, role := role, cmd := 0, abort := abort, idx := 0, sub := 0,
    boundary := 0, elem := 0, offset := 0, data := data }

/-- The bytes before the tag. -/
def Kmp.body (m : Kmp) : List Byte :=
  [1, byte m.kind] ++ beBytes 2 (b2n m.replay + 2 * b2n m.shadow) ++ beBytes 4 m.txid ++ [byte m.role, byte m.cmd]
  ++ beBytes 2 m.abort ++ beBytes 2 m.idx ++ [byte m.sub, byte m.boundary] ++ beBytes 4 m.elem ++ beBytes 2 m.data.length
  ++ beBytes 2 m.offset ++ m.data

/-- The message of a datagram's bytes without its tag. -/
def kmpRead (b : List Byte) : Kmp :=
  { kind := byteAt b 1, replay := bit (beAt b 2 2) 0, shadow := bit (beAt b 2 2) 1, txid := beAt b 4 4, role := byteAt b 8,
    cmd := byteAt b 9, abort := beAt b 10 2, idx := beAt b 12 2, sub := byteAt b 14, boundary := byteAt b 15,
    elem := beAt b 16 4, offset := beAt b 22 2, data := slice b 24 (beAt b 20 2) }

/-- The key of a role (object 0x1180). -/
def Dev.kmpKey (d : Dev) (role : Nat) : List Byte := padTo 32 (d.getB 0x118001 role)

/-- A key of zeros disables its role on KMP (R44). -/
def Dev.kmpRoleOn (d : Dev) (role : Nat) : Bool := decide (role < 4) && d.kmpKey role != zeros 32

/-- The bytes that carry a message: body and tag (R45). -/
def Dev.kmpBytes (d : Dev) (m : Kmp) : List Byte := m.body ++ (hmac256 (d.kmpKey m.role) m.body).take 16

/-- A transaction ID of a message that the device sends: a free value, not zero (R45). -/
def Dev.takeTxid (d : Dev) : Nat × Dev :=
  let f := d.takeFree
  (f.1 % 4294967295 + 1, f.2)

/-- A message leaves on a port, from the device's KMP port (R42). -/
def Dev.kmpSend (d : Dev) (via ip udp : Nat) (m : Kmp) : Dev := d.emit (.datagram via ip (d.get 0x110001 0) udp (d.kmpBytes m))

/-- What a received datagram is (R45, R46): discarded, discarded with object 0x1100:07 counted, or a message. -/
inductive KmpCheck where
  | discard
  | badTag
  | message (m : Kmp)
deriving DecidableEq, Repr

/-- The checks of a datagram on an enabled port: length, version, layout, role enabled, tag. -/
def Dev.kmpCheck (d : Dev) (via : Nat) (b : List Byte) : KmpCheck :=
  let on := if via = 16 then d.on 0x110002 0 else bit (d.get 0x110003 0) via
  let n := b.length
  let m := kmpRead b
  if !on || decide (1472 < n) || decide (n < 40) || byteAt b 0 != 1 || decide (1424 < beAt b 20 2)
    || n != 40 + beAt b 20 2 || !d.kmpRoleOn m.role then .discard
  else if b.drop (n - 16) != (hmac256 (d.kmpKey m.role) (b.take (n - 16))).take 16 then .badTag
  else .message m

/-! ### Replay cache (R47) -/

/-- Is an entry within its 10 s? -/
def CacheEntry.fresh (c : CacheEntry) (now : Nat) : Bool :=
  match c.sentAt with
  | some t => decide (now < t + sec 10)
  | none => true

/-- What the replay cache says of a request. -/
inductive Replayed where
  | apply
  | answered (r : Resp)
  | held
  | differs
  | full
deriving DecidableEq, Repr

/-- Look a request up (R47). -/
def Dev.replayed (d : Dev) (p : Path) (q : Req) : Replayed :=
  let mine := d.obj.cache.filter (fun c => c.client == p.client && c.fresh d.now)
  match mine.find? (fun c => c.txid == q.txid) with
  | some c =>
    if c.req != q then .differs
    else match c.resp, c.sentAt with
      | some r, some _ => .answered r
      | _, _ => .held
  | none => if 256 ≤ mine.length then .full else .apply

/-- A request's ID enters the cache; entries past their 10 s leave it. -/
def Dev.remember (d : Dev) (p : Path) (q : Req) : Dev :=
  d.setObj { d.obj with cache := d.obj.cache.filter (fun c => c.fresh d.now) ++ [⟨p.client, q.txid, q, none, none⟩] }

/-- A request's response is sent: it is kept for 10 s from now. -/
def Dev.rememberSent (d : Dev) (p : Path) (q : Req) (r : Resp) : Dev :=
  d.setObj { d.obj with cache := d.obj.cache.map (fun c =>
    if c.client = p.client ∧ c.txid = q.txid ∧ c.req = q ∧ c.resp.isNone then { c with resp := some r, sentAt := some d.now } else c) }

/-- REPLAY_CACHE_EXPIRY (R47): 10 s after the response was sent. -/
def replayExpiry (p : Path) (txid : Nat) (d : Dev) : Dev :=
  match d.obj.cache.find? (fun c => c.client == p.client && c.txid == txid) with
  | some c =>
    match c.sentAt with
    | some t =>
      let d := d.at_ (t + sec 10)
      d.setObj { d.obj with cache := d.obj.cache.filter (fun x => !(x.client == p.client && x.txid == txid)) }
    | none => d
  | none => d

/-- A request without fields of its own: syzygy and wavefront messages pass the replay cache as their kind and data. -/
def reqOf (kind txid : Nat) (data : List Byte) : Req :=
  { cmd := kind, idx := 0, sub := 0, elem := 0, len := data.length, data := data, offset := 0, txn := 0, txid := txid, boundary := 0,
    shadow := false, typ := 0 }

/-- Handle a request that is answered at once, through the replay cache: `f` gives abort code and data; `kind` the answer's kind
from the code. A request with ID zero is answered with 0x0703 (R46, R47). -/
def Dev.kmpAnswer (d : Dev) (p : Path) (via ip udp role : Nat) (q : Req) (kind : Nat → Nat) (f : Dev → (Nat × List Byte) × Dev) : Dev :=
  let send := fun (d : Dev) (a : Nat) (b : List Byte) (rep : Bool) =>
    d.kmpSend via ip udp { kmpOf (kind a) q.txid role a b with replay := rep }
  if q.txid = 0 then send d 0x0703 [] false
  else match d.replayed p q with
    | .answered r => send d r.abort r.data true
    | .held => d
    | .differs => send d 0x0701 [] false
    | .full => send d 0x0702 [] false
    | .apply =>
      let r := f (d.remember p q)
      (send r.2 r.1.1 r.1.2 false).rememberSent p q ⟨r.1.1, r.1.2, 0⟩

end Sys2Proof.Machine
end

