-- ==== Sys2Proof/Machine/Syzygy.lean ====
section
/-! DEFINITION. Syzygy: participant and coordinator of a switch that several devices make at one instant (R155 to R158). -/
namespace Sys2Proof.Machine

/-- The DATA of a syzygy message: ID, T, G in ns (R155). -/
def syzData (id t g : Nat) : List Byte := leBytes 4 id ++ leBytes 12 (ktimeOf t) ++ leBytes 4 g
def syzId (b : List Byte) : Nat := leAt b 0 4
def syzT (b : List Byte) : Nat := timeOfKtime (leAt b 4 12)
def syzG (b : List Byte) : Nat := leAt b 16 4

/-! ### Participant (R156) -/

/-- The own transaction of a syzygy ID and T with BOUNDARY 4, in one of the states named. -/
def Dev.syzSlot (d : Dev) (id t : Nat) (states : List Nat) : Option Nat :=
  (List.range 32).find? (fun k =>
    let x := d.slot k
    states.contains (d.txState k) && x.kind == 4 && x.syzygy == id && (match x.boundary with
      | some b => b.time == t
      | none => false))

/-- Does T lie at least two cycles of every affected port's active bank ahead, and 200 µs + G? -/
def Dev.syzFar (d : Dev) (k t g : Nat) : Bool :=
  let ps := ((d.slot k).staged.map d.portNamed).filter (fun p => decide (p < 16))
  decide (d.now + us 200 + ns g ≤ t)
  && ps.all (fun p => decide (d.now + 2 * ((d.port p).orrery.cycle.len / 65536) ≤ t))

/-- The answer to PREPARE: 0 confirms, else the code of the refusal. -/
def Dev.prepareCode (d : Dev) (id t g : Nat) : Nat :=
  match d.syzSlot id t [txReady] with
  | some k => if d.syzFar k t g then 0 else 0x0504
  | none => if (d.syzSlot id t [txFailed]).isSome then 0x0604 else 0x0601

/-- A participant that answers CONFIRM is aborted only by the coordinator from then on (R59). -/
def Dev.takePrepare (d : Dev) (id t g : Nat) : Nat × Dev :=
  let c := d.prepareCode id t g
  match c, d.syzSlot id t [txReady] with
  | 0, some k => (0, d.setSlot k { d.slot k with confirmed := true })
  | _, _ => (c, d)

/-- The session whose element counts what comes in for an ID; element 0 where none has it. -/
def Dev.sessionOf (d : Dev) (id : Nat) : Nat := (([0, 1, 2, 3] : List Nat).find? (fun k => d.get 0x340001 k == id)).getD 0

/-- A participant's ABORT: before T − G its transaction ends with 0x0607; later the switch proceeds and object 0x3400:07
advances. -/
def Dev.takeAbort (d : Dev) (id t g : Nat) : Nat × Dev :=
  if d.now + ns g < t then
    match d.syzSlot id t [txReady] with
    | some k => (0, d.endSlot k txAborted 0x0607 0x0607)
    | none => (0, d)
  else (0x0504, d.inc 0x340007 (d.sessionOf id))

/-- Is a role enough for syzygy: engineer or above (R155)? One below is discarded and counted. -/
def syzRole (role : Role) : Bool := decide (2 ≤ role.num)

/-- An answer that carries the request's body. -/
def sameBody (b : List Byte) (r : Nat × Dev) : (Nat × List Byte) × Dev := ((r.1, b), r.2)

/-- PREPARE (R156): answered with CONFIRM or REFUSE. -/
def prepare (ip udp : Nat) (role : Role) (via : Fin 17) (txid : Nat) (b : List Byte) (d : Dev) : Dev :=
  if !syzRole role then d.inc 0x110007 0
  else if b.length ≠ 20 then d
  else d.kmpAnswer (.kmp ip udp role via) via ip udp role.num (reqOf 0x10 txid b) (fun c => if c = 0 then 0x11 else 0x12)
    (fun d => sameBody b (d.takePrepare (syzId b) (syzT b) (syzG b)))

/-- ABORT of a session (R156): answered with ABORT_ACK. -/
def syzygyAbort (ip udp : Nat) (role : Role) (via : Fin 17) (txid : Nat) (b : List Byte) (d : Dev) : Dev :=
  if !syzRole role then d.inc 0x110007 0
  else if b.length ≠ 20 then d
  else d.kmpAnswer (.kmp ip udp role via) via ip udp role.num (reqOf 0x13 txid b) (fun _ => 0x14)
    (fun d => sameBody b (d.takeAbort (syzId b) (syzT b) (syzG b)))

/-! ### Coordinator (R157, R158) -/

/-- A session that has not started. -/
def session0 : Session := ⟨0, 0, 0, 0, 0, 0⟩

/-- Session `k`. -/
def Dev.session (d : Dev) (k : Nat) : Session := tget session0 d.lan.sessions k

/-- Replace session `k`. -/
def Dev.setSession (d : Dev) (k : Nat) (x : Session) : Dev :=
  d.setLan { d.lan with sessions := tput session0 d.lan.sessions k x }

/-- Its state (object 0x3400:06): 0 idle, 1 preparing, 2 committed, 3 aborting, 4 aborted, 5 uncertain. -/
def Dev.sesState (d : Dev) (k : Nat) : Nat := d.get 0x340006 k

/-- T in 2^-16 ns, and G, of a session. -/
def Dev.sesT (d : Dev) (k : Nat) : Nat := timeOfKtime (d.get 0x340002 k)
def Dev.sesG (d : Dev) (k : Nat) : Nat := ns (d.get 0x340003 k)

/-- The participants listed: IPv4 address and UDP port (object 0x3401:01, network order). -/
def Dev.sesPeers (d : Dev) (k : Nat) : List (Nat × Nat) :=
  let b := d.getB 0x340101 k
  (List.range (b.length / 8)).map (fun i => (beAt b (8 * i) 4, beAt b (8 * i + 4) 2))

/-- Every participant's bit. -/
def Dev.sesAll (d : Dev) (k : Nat) : Nat := 2 ^ (d.sesPeers k).length - 1

/-- Is an address this device itself? -/
def Dev.isSelf (d : Dev) (ip udp : Nat) : Bool :=
  udp == d.get 0x110001 0 && (List.range 17).any (fun p => Config.portIp p == ip)

/-- May a session's objects be written: idle, committed or aborted (R174)? -/
def Dev.sesWritable (d : Dev) (k : Nat) : Bool := d.sesState k == 0 || d.sesState k == 2 || d.sesState k == 4

/-- One participant's answer is noted: 0 CONFIRM, 1 REFUSE, 2 ABORT_ACK. Once every one has acknowledged ABORT the session is
aborted. -/
def Dev.sesNote (d : Dev) (k i kind : Nat) : Dev :=
  let x := d.session k
  if kind = 0 then
    if d.sesState k = 1 then (d.setSession k { x with answered := x.answered ||| 2 ^ i }).put 0x340102 k (d.get 0x340102 k ||| 2 ^ i)
    else d
  else if kind = 1 then
    if d.sesState k = 1 then d.setSession k { x with answered := x.answered ||| 2 ^ i, refused := x.refused ||| 2 ^ i } else d
  else if d.sesState k = 3 then
    let a := x.acked ||| 2 ^ i
    let d := d.setSession k { x with acked := a }
    if a = d.sesAll k then d.put 0x340006 k 4 else d
  else d

/-- Send PREPARE (kind 0x10) or ABORT (kind 0x13) to the participants whose bit is clear in a mask; the device answers itself
internally (R158). -/
def Dev.sesSend (d : Dev) (k kind txid done : Nat) : Dev :=
  let id := d.get 0x340001 k
  let t := d.sesT k
  let g := d.get 0x340003 k
  let peers := (d.sesPeers k).mapIdx (fun i p => (i, p))
  let d := d.setSession k { d.session k with lastSent := d.now }
  peers.foldl (fun d x =>
    if bit done x.1 then d
    else if d.isSelf x.2.1 x.2.2 then
      if kind = 0x10 then
        let r := d.takePrepare id t g
        r.2.sesNote k x.1 (if r.1 = 0 then 0 else 1)
      else (d.takeAbort id t g).2.sesNote k x.1 2
    else d.kmpSend 16 x.2.1 x.2.2 (kmpOf kind txid 2 0 (syzData id t g))) d

/-- The answer to a write of 1 to object 0x3400:08, 0 where the session starts. -/
def Dev.sesStartCode (d : Dev) (k : Nat) : Nat :=
  if !d.sesWritable k then 0x0502 else if d.get 0x340001 k = 0 then 0x0404 else 0

/-- A session starts: it is preparing, and sends its first PREPARE at T minus the prepare lead. [DEDUCED: log 128] -/
def Dev.sesStart (d : Dev) (k : Nat) : Dev :=
  let a := d.takeTxid
  let b := a.2.takeTxid
  (((b.2.setSession k { session0 with txid := a.1, abortTxid := b.1 }).put 0x340006 k 1).put 0x340102 k 0).put 0x340103 k 0

/-- SYZYGY_PREPARE_LEAD (R158). -/
def prepareLead (k : Nat) (d : Dev) : Dev :=
  if d.sesState k ≠ 1 ∨ (d.session k).lastSent ≠ 0 then d else
  let d := d.at_ (d.sesT k - us (d.get 0x340005 k))
  d.sesSend k 0x10 (d.session k).txid 0

/-- SYZYGY_RETRY (R157): PREPARE or ABORT again to those that have not answered. -/
def syzygyRetry (k : Nat) (d : Dev) : Dev :=
  let x := d.session k
  if x.lastSent = 0 then d else
  if d.sesState k = 1 then (d.at_ (x.lastSent + ns (d.get 0x340004 k))).sesSend k 0x10 x.txid x.answered
  else if d.sesState k = 3 then (d.at_ (x.lastSent + ns (d.get 0x340004 k))).sesSend k 0x13 x.abortTxid x.acked
  else d

/-- The coordinator decides to abort. -/
def Dev.sesAbort (d : Dev) (k : Nat) : Dev := (d.put 0x340006 k 3).sesSend k 0x13 (d.session k).abortTxid 0

/-- CONFIRM_DEADLINE (R157): at T − 2G the session commits when every participant has confirmed, and aborts otherwise. -/
def confirmDeadline (k : Nat) (d : Dev) : Dev :=
  if d.sesState k ≠ 1 then d else
  let d := d.at_ (d.sesT k - 2 * d.sesG k)
  if d.get 0x340102 k = d.sesAll k then d.put 0x340006 k 2 else d.sesAbort k

/-- The answer to a write of 2 to object 0x3400:08: a session is stopped before its confirm deadline (R158). -/
def Dev.sesStopCode (d : Dev) (k : Nat) : Nat :=
  if d.sesState k = 1 ∧ d.now + 2 * d.sesG k < d.sesT k then 0 else 0x0502

/-- A session is stopped: those that may have had PREPARE get ABORT. -/
def Dev.sesStop (d : Dev) (k : Nat) : Dev := if (d.session k).lastSent = 0 then d.put 0x340006 k 4 else d.sesAbort k

/-- The session and entry that an answer belongs to: by the ID of the message it answers, and its sender. -/
def Dev.sesEntry (d : Dev) (ip udp txid : Nat) (b : List Byte) (abort : Bool) : Option (Nat × Nat) :=
  (([0, 1, 2, 3] : List Nat).find? (fun k =>
    d.sesState k != 0 && d.get 0x340001 k == syzId b && d.sesT k == syzT b
    && (if abort then (d.session k).abortTxid else (d.session k).txid) == txid)).bind (fun k =>
      ((d.sesPeers k).findIdx? (fun p => p.1 == ip && p.2 == udp)).map (fun i => (k, i)))

/-- An answer of a participant: 0 CONFIRM, 1 REFUSE, 2 ABORT_ACK (R157). [DEDUCED: log 127] -/
def syzygyAnswer (kind ip udp : Nat) (role : Role) (txid : Nat) (b : List Byte) (d : Dev) : Dev :=
  if !syzRole role then d.inc 0x110007 0 else
  match d.sesEntry ip udp txid b (kind == 2) with
  | some (k, i) => d.sesNote k i kind
  | none => d

/-- GUARD_DEADLINE (R156, R157): at T − G of a syzygy ID, own transactions not confirmed end with 0x0607, and a coordinator that still
aborts lists the participants that have not acknowledged and raises source 71. -/
def guardDeadline (id : Nat) (d : Dev) : Dev :=
  let own := (List.range 32).filter (fun k => (d.slot k).syzygy == id && id != 0 && d.txState k == txReady && (d.slot k).kind == 4
    && (d.slot k).sampled.isNone)
  let ses := ([0, 1, 2, 3] : List Nat).filter (fun k => d.get 0x340001 k == id && id != 0 && d.sesState k == 3)
  let g := d.sesG (d.sessionOf id)
  let t := match ses, own with
    | k :: _, _ => some (d.sesT k)
    | _, k :: _ => (d.slot k).boundary.map Boundary.time
    | _, _ => none
  match t with
  | none => d
  | some t =>
    let d := d.at_ (t - g)
    let d := own.foldl (fun d k => if (d.slot k).confirmed then d else d.endSlot k txAborted 0x0607 0x0607) d
    ses.foldl (fun d k =>
      let left := d.sesAll k - (d.session k).acked
      if left = 0 then d.put 0x340006 k 4 else ((d.put 0x340103 k left).put 0x340006 k 5).raise 71 k 0 left) d

end Sys2Proof.Machine
end

