-- ==== Sys2Proof/Machine/Access.lean ====
section
/-! DEFINITION. READ, WRITE and DESCRIBE of objects, with their checks and what a write of a command object does (R34 to R43, R58, R69). -/
namespace Sys2Proof.Machine

/-! ### Looking an object up (R34, R35, R43) -/

/-- The parameter of a slot's image that an element of object 0x5200 is (R298). -/
def Dev.paramAt (d : Dev) (o e : Nat) : Option Param :=
  if o / 256 = 0x5200 ∧ o % 256 ≠ 0 then
    (d.kslot e).cur.bind (fun l => if o % 256 ≤ ikSchemaCount l.image then ikParam l.image (o % 256 - 1) else none)
  else none

/-- The catalogue row of a parameter: RWS, of its own type, or OCTETS where it has more than one value (R298). -/
def Param.obj (p : Param) (o : Nat) : Obj :=
  { num := o, ty := if p.count = 1 then p.ty else .octets, access := .rws, role := Role.ofNum p.role,
    dflt := if p.count = 1 then p.dflt % 2 ^ (8 * p.ty.size) else 0, limit := .any, maxLen := p.size,
    zeroLen := if p.count = 1 then 0 else p.size }

/-- The object at an index, subindex and element: the catalogue's, a kernel parameter, or Garoster's key, which is CONST
(R34, R298, R311). [DEDUCED: log 6] -/
def Dev.look (d : Dev) (o e : Nat) : Option Obj :=
  if o / 256 = 0x5200 then
    (if o % 256 = 0 then some (num o .u8 .const .observer 0xFE .any) else (d.paramAt o e).map (fun p => p.obj o))
  else (objOf o).map (fun x => if o / 256 = 0x5010 ∧ e = 0 then { x with access := .const } else x)

/-- Does an object answer in the present power state (R43, R494)? [DEDUCED: log 105] -/
def Dev.answers (d : Dev) (o e : Nat) : Bool :=
  let i := o / 256
  if d.power = 2 ∨ d.power = 6 then true
  else if d.power = 4 then !((decide (0x3000 ≤ i) && decide (i ≤ 0x6FFF)) || (decide (0xA000 ≤ i) && decide (i ≤ 0xAFFF)))
  else if d.power = 1 then ballastObj o e || (decide (0x1300 ≤ i) && decide (i ≤ 0x13FF))
  else ballastObj o e

/-- Is the object held only in a region that does not run (R61, R68)? [DEDUCED: log 104] -/
def Dev.homeDown (d : Dev) (o e : Nat) : Bool :=
  let h := d.holders ⟨o, e⟩
  !h.contains 1 && h.any (fun p => !d.regionRuns (p - 2))

/-- Looking an object up: the object, or the code of its absence; and the codes of the element and the power state. [DEDUCED: log 117] -/
def Dev.lookup (d : Dev) (o e : Nat) (role : Role) : Option Obj × List Nat :=
  if 0xF000 ≤ o / 256 then (none, [if role = .maintainer then 0x0101 else 0x0203])
  else match d.look o e with
    | none => (none, [if idxPresent (o / 256) || o / 256 == 0x5200 then 0x0102 else 0x0101])
    | some x => (some x, [if e < elemsOf (o / 256) then 0 else 0x0103, if d.answers o e then 0 else 0x0501])

/-- The least role that reads an object (the chapters' object lists, R298, R502): engineer objects are readable by observers, and so
are the maintainer objects of start, power and thermal matters that are not WO. -/
def readRole (x : Obj) : Role :=
  let i := x.num / 256
  if i = 0x5200 then .observer
  else if x.access = .wo then x.role
  else if x.role = .engineer then .observer
  else if x.role = .maintainer ∧ ((0x1300 ≤ i ∧ i ≤ 0x13FF) ∨ (0x9000 ≤ i ∧ i ≤ 0x9FFF)) then .observer
  else x.role

/-- Is a role below another (R40)? -/
def Role.below (a b : Role) : Bool := decide (a.num < b.num)

/-! ### READ (R36, R39) -/

/-- Objects that report a figure of the present instant are brought up to date before a read. -/
def Dev.refresh (d : Dev) (o e : Nat) : Dev :=
  if o = 0x130207 then d.put o e d.deadlineMs
  else if o = 0x901004 then d.put o e d.heldMs
  else if o = 0x200108 then d.reportHoldover (if e = 0 then .a else .b)
  else if o = 0x614004 then d.put o e (458752 - d.reservedSum - d.sharedUsed)
  else if o = 0x614203 then d.put o e (tget 0 d.host.cells e)
  else d

/-- The bytes of an object's value: the active copy, or the shadow copy of an RWS object (R36, R39). -/
def Dev.value (d : Dev) (x : Obj) (e : Nat) (shadow : Bool) : List Byte :=
  let sh := shadow && x.access == .rws
  if x.ty.isBytes then (if sh then d.getShB x.num e else d.getB x.num e)
  else leBytes x.ty.size (if x.num % 256 = 0 then x.dflt else if sh then d.getSh x.num e else d.get x.num e)

/-- The longest segment that a path returns (R36). -/
def Path.segment : Path → Nat
  | .mailbox _ => 3840
  | _ => 1024

/-- READ: the code, the bytes, and the device after it: a read of a capture queue or of a ring's response takes what it returns
(R103, R239). -/
def Dev.read (d : Dev) (p : Path) (role : Role) (q : Req) : (Nat × List Byte) × Dev :=
  let o := q.idx * 256 + q.sub
  let l := d.lookup o q.elem role
  match l.1 with
  | none => ((leastCode l.2, []), d)
  | some x =>
    let pre := l.2 ++ [if x.access = .wo then 0x0202 else 0, if role.below (readRole x) then 0x0203 else 0,
      if d.homeDown o q.elem then 0x0503 else 0]
    let take := if o = 0x207005 then d.takeTrig q.elem else if o = 0x405002 then d.takeResponse q.elem
      else let d := d.refresh o q.elem; (d.value x q.elem q.shadow, d)
    let off := if (!x.ty.isBytes || x.ty == .vstring) && q.offset != 0 || take.1.length < q.offset || q.offset % 4 != 0
      then 0x0304 else 0
    let c := leastCode (pre ++ [off])
    if c ≠ 0 then ((c, []), d) else ((0, slice take.1 q.offset p.segment), take.2)

/-! ### DESCRIBE (R38) -/

/-- MIN and MAX of a description, in the object's type: the owning chapter's limits, a parameter's, or the type's full range; zero for TS64
and for types longer than 8 bytes. -/
def limitsOf (x : Obj) (p : Option Param) : Nat × Nat :=
  let n := 8 * x.ty.size
  if x.ty = .ts64 ∨ x.ty = .ktime ∨ x.ty.isBytes then (0, 0)
  else match p with
    | some p => (p.min % 2 ^ n, p.max % 2 ^ n)
    | none =>
      match x.limit with
      | .range lo hi => (ofInt n lo, ofInt n hi)
      | .rangeOr lo hi _ => (ofInt n lo, ofInt n hi)
      | _ =>
        if x.ty = .bool then (0, 1)
        else if x.ty = .f32 then (0xFF7FFFFF, 0x7F7FFFFF)
        else if x.ty = .f64 then (0xFFEFFFFFFFFFFFFF, 0x7FEFFFFFFFFFFFFF)
        else if x.ty.signed then (2 ^ (n - 1), 2 ^ (n - 1) - 1)
        else (0, 2 ^ n - 1)

/-- The 48 bytes of a description. -/
def Dev.describe_ (d : Dev) (x : Obj) (e : Nat) : List Byte :=
  let i := x.num / 256
  let n := elemsOf i
  let hot := Config.hotOffset x.num
  let kind := if x.access = .rws then (kindsOf x.num).headD 1 else 0
  let flags := b2n (decide (1 < n)) + 2 * b2n (ballastObj x.num e) + 4 * b2n hot.isSome + 16 * kind
  let lim := limitsOf x (d.paramAt x.num e)
  let long := x.ty == .ts64 || x.ty == .ktime || x.ty.isBytes
  let dflt := if long then 0 else if i = 0x5200 ∨ x.num % 256 = 0 then x.dflt else dfltNum x.num e
  leBytes 2 i ++ [byte x.num, byte x.ty.code, byte x.access.code, byte x.role.num] ++ leBytes 2 flags ++ leBytes 4 n
  ++ leBytes 4 x.maxLen ++ leBytes 8 lim.1 ++ leBytes 8 lim.2 ++ leBytes 8 dflt ++ leBytes 4 (hot.getD 0) ++ zeros 4

/-- DESCRIBE: needs no role. -/
def Dev.describe (d : Dev) (role : Role) (q : Req) : Nat × List Byte :=
  let l := d.lookup (q.idx * 256 + q.sub) q.elem role
  match l.1 with
  | none => (leastCode l.2, [])
  | some x => if leastCode l.2 ≠ 0 then (leastCode l.2, []) else (0, d.describe_ x q.elem)

/-! ### The checks of a WRITE (R36, R37, R39, R58 to R60) -/

/-- A decoder of UTF-8: bytes still to come of a character, the bounds of the next one, and whether all was well. -/
structure Utf8 where
  more : Nat
  lo : Nat
  hi : Nat
  ok : Bool
deriving DecidableEq, Repr

/-- One byte of UTF-8. -/
def Utf8.next (s : Utf8) (b : Byte) : Utf8 :=
  let n := b.toNat
  let bad : Utf8 := ⟨0, 0, 0, false⟩
  if !s.ok then s
  else if s.more ≠ 0 then (if s.lo ≤ n ∧ n ≤ s.hi then ⟨s.more - 1, 0x80, 0xBF, true⟩ else bad)
  else if n < 0x80 then s
  else if 0xC2 ≤ n ∧ n ≤ 0xDF then ⟨1, 0x80, 0xBF, true⟩
  else if n = 0xE0 then ⟨2, 0xA0, 0xBF, true⟩
  else if n = 0xED then ⟨2, 0x80, 0x9F, true⟩
  else if 0xE1 ≤ n ∧ n ≤ 0xEF then ⟨2, 0x80, 0xBF, true⟩
  else if n = 0xF0 then ⟨3, 0x90, 0xBF, true⟩
  else if 0xF1 ≤ n ∧ n ≤ 0xF3 then ⟨3, 0x80, 0xBF, true⟩
  else if n = 0xF4 then ⟨3, 0x80, 0x8F, true⟩
  else bad

/-- Are the bytes valid UTF-8? -/
def utf8Ok (b : List Byte) : Bool :=
  let s := b.foldl Utf8.next ⟨0, 0, 0, true⟩
  s.ok && s.more == 0

/-- A rule stated for one object's value alone (R104, R257, R455, R472): is it kept? -/
def valueRule (o e v : Nat) : Bool :=
  if o = 0x613002 then isPow2 v
  else if o = 0x205002 then v != 0 && 1000000 % v == 0
  else if o = 0x801003 then bit (srcMask e) v
  else if o = 0x820001 then v == 0 || checkerUnits v != 0
  else if o = 0x820007 then v % 32 == 0
  else true

/-- Does a value lie below another in a type's order? -/
def Ty.lt (t : Ty) (a b : Nat) : Bool :=
  match t with
  | .f32 => flLt (unpack a) (unpack b)
  | .f64 => flLt (unpack64 a) (unpack64 b)
  | _ => if t.signed then decide (toInt (8 * t.size) a < toInt (8 * t.size) b) else decide (a < b)

/-- The codes of a number of the object's size: NaN, limits, an enumerated set, the object's own rule (R36, R37, R72). -/
def numCodes (x : Obj) (p : Option Param) (e v : Nat) : List Nat :=
  let n := 8 * x.ty.size
  let lim := limitsOf x p
  let bounds := [if x.ty.lt v lim.1 then 0x0401 else 0, if x.ty.lt lim.2 v then 0x0402 else 0]
  let i : Int := if x.ty.signed then toInt n v else v
  let nan := (x.ty == .f32 && (unpack v).isNan) || (x.ty == .f64 && (unpack64 v).isNan)
  (if x.ty = .bool then [if v ≤ 1 then 0 else 0x0403]
   else if x.ty = .ts64 then [if 999999999 < bits v 0 32 then 0x0402 else 0]
   else if x.ty = .ktime then [if 999999999 < bits v 16 32 then 0x0402 else 0]
   else if nan then [0x0403]
   else if x.ty = .f32 ∨ x.ty = .f64 then (if p.isSome then bounds else [])
   else match x.limit with
     | .any => if p.isSome then bounds else []
     | .range _ _ => bounds
     | .oneOf l => [if l.contains i then 0 else 0x0403]
     | .rangeOr _ _ out => if i = out then [] else bounds)
  ++ [if valueRule x.num e v then 0 else 0x0403]

/-- The bytes that a segment of OCTETS replaces bytes of: the staged value within the transaction that has staged it, else the
active value (R36). -/
def Dev.base (d : Dev) (x : Obj) (e : Nat) (txn : Nat) : List Byte :=
  match d.slotOf txn with
  | some k =>
    if txn ≠ 0 ∧ x.access = .rws ∧ (d.slot k).staged.contains ⟨x.num, e⟩ then d.getShB x.num e else d.getB x.num e
  | none => d.getB x.num e

/-- The whole value that a write of bytes leaves (R36): at offset 0 the whole value is replaced. -/
def spliced (old : List Byte) (off : Nat) (new : List Byte) : List Byte := if off = 0 then new else splice old off new

/-- The codes of the value written: type, length, offset, value. [DEDUCED: log 20] -/
def Dev.valueCodes (d : Dev) (x : Obj) (q : Req) : List Nat :=
  let n := q.data.length
  let ty := if q.typ ≠ 0 ∧ q.typ ≠ x.ty.code then 0x0301 else 0
  if x.ty = .octets then
    [ty, if x.maxLen < q.offset + n then 0x0302 else 0,
      if q.offset % 4 ≠ 0 ∨ (d.base x q.elem q.txn).length < q.offset then 0x0304 else 0]
  else if x.ty = .vstring then
    [ty, if x.maxLen < n then 0x0302 else 0, if q.offset ≠ 0 then 0x0304 else 0, if utf8Ok q.data then 0 else 0x0403]
  else
    [ty, if x.ty.size < n then 0x0302 else 0, if n < x.ty.size then 0x0303 else 0, if q.offset ≠ 0 then 0x0304 else 0]
    ++ (if n = x.ty.size then numCodes x (d.paramAt x.num q.elem) q.elem (leNat q.data) else [])

/-- The codes of staging (R58 to R60, R65, R422): with a transaction ID, or as an implicit transaction. -/
def Dev.stageCodes (d : Dev) (q : Req) : List Nat :=
  let x : Key := ⟨q.idx * 256 + q.sub, q.elem⟩
  let cls := if x.o = 0x710001 ∧ leNat q.data ≠ d.get x.o x.e ∧ (d.queue x.e).state ≠ qDetached then 0x0502 else 0
  let busy := [d.stageBusy x, cls]
  if q.txn = 0 then
    [if (List.range 32).any (fun k => d.txState k == txFree) then 0 else 0x060A, if d.stagedElsewhere x none then 0x0605 else 0] ++ busy
  else match d.slotOf q.txn with
    | some k =>
      [if d.txState k = txOpen then 0 else 0x0601,
        if (d.slot k).staged.length ≥ 4096 ∧ !(d.slot k).staged.contains x then 0x0602 else 0,
        if d.stagedElsewhere x (some k) then 0x0605 else 0] ++ busy
    | none => [0x0601, if d.stagedElsewhere x none then 0x0605 else 0] ++ busy

/-! ### Objects that are commands, and what a direct write does (R39) -/

/-- The refusal of a direct write by the object's owner, 0 for none. -/
def Dev.directCode (d : Dev) (o e : Nat) (bs : List Byte) : Nat :=
  let v := leNat bs
  let i := o / 256
  if o = 0x200009 then d.setCountersCode
  else if o = 0x208005 then (if v = 1 then d.armCode e else 0)
  else if o = 0x340008 then (if v = 1 then d.sesStartCode e else d.sesStopCode e)
  else if i = 0x3400 ∨ i = 0x3401 then (if d.sesWritable e then 0 else 0x0502)
  else if o = 0x405001 then (d.sendMessage4050 e bs).1
  else if o = 0x50000C then (if v = 1 then (d.forceRehome e).1 else 0)
  else if o = 0x502001 then (if d.imageInUse e then 0x0502 else 0)
  else if o = 0x502002 then (if v = 2 ∧ d.imageInUse e then 0x0502 else 0)
  else if o = 0xA02102 then (d.captureExport e v).1
  else if o = 0xA02103 then (d.captureRelease e).1
  else if o = 0x800006 then ackCode bs
  else if o = 0x802003 then d.releaseCode e
  else if o = 0x820005 then (if v = 1 then d.armInjectCode e else 0)
  else if o = 0x130101 then d.confirmCode v
  else if o = 0x131001 then (if d.flashBusy then 0x0502 else 0)
  else if o = 0x900002 then
    (if v = 1 then d.dozeCode else if v = 2 then d.wakeCode else if v = 3 then d.lanternCode else d.restartCode)
  else 0

/-- The logical engine's physical engine is reset as a unit (object 0x5000:0C, value 2). -/
def Dev.engineUnitReset (d : Dev) (l : Nat) : Dev := d.commandReset (.engine (d.hostOf l))

/-- What a direct write of an accepted value does beside the value. [DEDUCED: log 108] -/
def Dev.directEffect (d : Dev) (o e off : Nat) (bs seg : List Byte) : Dev :=
  let v := leNat bs
  if o = 0x200009 then d.setCounters v
  else if o = 0x208005 then (if v = 1 then d.armTrig e else d.disarmTrig e)
  else if o = 0x340008 then (if v = 1 then d.sesStart e else d.sesStop e)
  else if o = 0x31100E then d.recoveryReset e
  else if o = 0x312009 then d.generationReset e
  else if o = 0x405001 then (d.sendMessage4050 e bs).2
  else if o = 0x50000C then (if v = 1 then (d.forceRehome e).2 else d.engineUnitReset e)
  else if o = 0x502001 then d.imageWritten e
  else if o = 0x502002 then (if v = 1 then d.imageVerify e else d.imageErase e)
  else if o = 0x510007 then d.slotRestart e
  else if o = 0xA02102 then (d.captureExport e v).2
  else if o = 0xA02103 then (d.captureRelease e).2
  else if o = 0x711001 then d.resetQueue e
  else if o = 0x800003 then d.clearFirst
  else if o = 0x800006 then d.endReaction (leAt bs 0 2) (leAt bs 4 4)
  else if o = 0x802003 then d.releaseSafe e
  else if o = 0x820005 then (if v = 1 then d.armInject e else d.disarmInject e)
  else if o = 0x130101 then d.confirm
  else if o = 0x130202 ∨ o = 0x130203 then d.mirrorChanged
  else if o = 0x131001 then d.flashBlock e off seg
  else if o = 0x131101 then (if v = 1 then d.slotVerify e else d.slotErase e)
  else if o = 0x900002 then
    (if v = 1 then d.dozeBegin 1 else if v = 2 then d.wake 1 else if v = 3 then d.lantern 1 else d.restart)
  else if o = 0x901007 then d.dieReset v
  else d

/-- Does the device keep the value of a WO object: the keys, and the blocks whose segments follow one another (R36, R44, R501)? -/
def keptWo (o : Nat) : Bool := o == 0x118001 || o == 0x131001

/-- A direct write takes effect (R39). -/
def Dev.writeDirect (d : Dev) (x : Obj) (e off : Nat) (seg : List Byte) : Dev :=
  let whole := if x.ty.isBytes then spliced (d.getB x.num e) off seg else seg
  let d := if x.access = .wo && !keptWo x.num then d
    else if x.ty.isBytes then d.putB x.num e whole else d.put x.num e (leNat whole)
  d.directEffect x.num e off whole seg

/-- What handling a command gives: an answer, or the slot whose validation it waits for (R56, R58). -/
inductive Handled where
  | answer (r : Resp)
  | wait (slot : Nat)
deriving DecidableEq, Repr

/-- An answer without data. -/
def code_ (c : Nat) : Handled := .answer ⟨c, [], 0⟩

/-- A staged value enters the shadow copy (R39). -/
def Dev.writeShadow (d : Dev) (x : Obj) (q : Req) : Dev :=
  if x.ty.isBytes then d.putShB x.num q.elem (spliced (d.base x q.elem q.txn) q.offset q.data)
  else d.putSh x.num q.elem (leNat q.data)

/-- The codes of a WRITE of an object, before one is chosen. -/
def Dev.writeCodes (d : Dev) (x : Obj) (role : Role) (q : Req) : List Nat :=
  let o := q.idx * 256 + q.sub
  let fixed := decide (x.access = .const ∨ x.access = .ro)
  let rws := x.access == .rws
  [if fixed then 0x0201 else 0, if role.below x.role then 0x0203 else 0, if q.txn ≠ 0 && !rws then 0x0609 else 0,
    if d.homeDown o q.elem then 0x0503 else 0]
  ++ (if fixed then [] else d.valueCodes x q) ++ (if rws then d.stageCodes q else [])

/-- An RWS write without a transaction ID: an implicit transaction of that one write (R58). -/
def Dev.writeImplicit (d : Dev) (x : Obj) (q : Req) : Handled × Dev :=
  let t := d.newTxId
  match t.2.openSlot t.1 true with
  | none => (code_ 0x060A, d)
  | some (k, e) =>
    let key : Key := ⟨x.num, q.elem⟩
    let e := (e.writeShadow x q).stage k key
    match e.resolve_ 0 [key] [] with
    | .error c => (code_ c, d)
    | .ok (b, syz) => (.wait k, e.accept k 0 b syz)

/-- WRITE (R37, R39, R58). -/
def Dev.write (d : Dev) (role : Role) (q : Req) : Handled × Dev :=
  let o := q.idx * 256 + q.sub
  let l := d.lookup o q.elem role
  match l.1 with
  | none => (code_ (leastCode l.2), d)
  | some x =>
    let whole := if x.ty.isBytes then spliced (d.getB o q.elem) q.offset q.data else q.data
    let own := if x.access = .rw ∨ x.access = .wo then d.directCode o q.elem whole else 0
    let c := leastCode (l.2 ++ d.writeCodes x role q ++ [own])
    if c ≠ 0 then (code_ c, d)
    else if x.access = .rws then
      (if q.txn = 0 then d.writeImplicit x q
       else match d.slotOf q.txn with
        | some k => (code_ 1, (d.writeShadow x q).stage k ⟨o, q.elem⟩)
        | none => (code_ 0x0601, d))
    else (code_ 0, d.writeDirect x q.elem q.offset q.data)

end Sys2Proof.Machine
end

