-- ==== Sys2Proof/Machine/Paths.lean ====
section
/-! DEFINITION. The access paths: handling of the object commands, the mailboxes, KMP, the ring mailbox, and completion
(R42 to R48, R53 to R59, R209, R238, R239). -/
namespace Sys2Proof.Machine

/-! ### Handling at the object arbiter -/

/-- The role at which a path acts (R42). -/
def Dev.pathRole (d : Dev) : Path → Role
  | .mailbox _ => .maintainer
  | .hot => .maintainer
  | .kmp _ _ role _ => role
  | .ring r _ => Role.ofNum (d.get 0x40000D r)
  | .spi => Role.ofNum (d.get 0x110004 0)

/-- Is KMP enabled on a port (R44)? -/
def Dev.kmpOn (d : Dev) (via : Nat) : Bool := if via = 16 then d.on 0x110002 0 else bit (d.get 0x110003 0) via

/-- Is a path reachable in the present power state (R42, R44, R494)? [DEDUCED: log 114] -/
def Dev.reach (d : Dev) (p : Path) : Bool :=
  let st := d.power
  match p with
    | .mailbox _ => st == 1 || st == 2 || st == 4 || st == 6
    | .hot => st == 2
    | .kmp _ _ role via => (via == 16 || st == 2) && d.kmpOn via && d.kmpRoleOn role.num
    | .ring _ _ => st == 2
    | .spi => true

/-- OPEN (R59): the ID named, or one that the device assigns. -/
def Dev.open_ (d : Dev) (q : Req) : Resp × Dev :=
  if q.txn ≠ 0 ∧ (d.slotOf q.txn).isSome then (⟨0x0502, [], 0⟩, d)
  else
    let t := if q.txn = 0 then d.newTxId else (q.txn, d)
    match t.2.openSlot t.1 false with
    | some (k, e) => (⟨0, leBytes 4 t.1 ++ [byte k] ++ zeros 3, t.1⟩, e)
    | none => (⟨0x060A, [], 0⟩, d)

/-- COMMIT (R59, R62). -/
def Dev.commit (d : Dev) (q : Req) : Handled × Dev :=
  match d.slotOf q.txn with
  | some k =>
    if d.txState k ≠ txOpen then (code_ 0x0601, d)
    else if 4 < q.boundary then (code_ 0x0606, d)
    else match d.resolve_ q.boundary (d.slot k).staged q.data with
      | .error c => (code_ c, d)
      | .ok (b, syz) => (.wait k, d.accept k q.boundary b syz)
  | none => (code_ 0x0601, d)

/-- STATUS (R59, R67): an ended transaction's slot is freed. -/
def Dev.status (d : Dev) (q : Req) : Resp × Dev :=
  match d.slotOf q.txn with
  | some k => (⟨0, d.statusBytes k, 0⟩, if d.txState k ≥ txApplied then d.freeSlot k else d)
  | none => (⟨0x0601, [], 0⟩, d)

/-- One object command at the arbiter (R54). [DEDUCED: log 112] -/
def Dev.perform (d : Dev) (p : Path) (q : Req) : Handled × Dev :=
  let role := d.pathRole p
  if q.cmd = 1 then let r := d.read p role q; (.answer ⟨r.1.1, r.1.2, 0⟩, r.2)
  else if q.cmd = 2 then d.write role q
  else if q.cmd = 3 then let r := d.describe role q; (.answer ⟨r.1, r.2, 0⟩, d)
  else if q.cmd = 4 then let r := d.open_ q; (.answer r.1, r.2)
  else if q.cmd = 5 then d.commit q
  else if q.cmd = 6 then let r := d.abortTxn q.txn; (code_ r.1, r.2)
  else if q.cmd = 7 then let r := d.status q; (.answer r.1, r.2)
  else (code_ 0x0104, d)

/-- A command is under way. -/
def Dev.pushFlight (d : Dev) (f : Flight) : Dev := d.setObj { d.obj with flights := d.obj.flights ++ [f] }

/-- A command whose answer is known. -/
def Dev.answerNow (d : Dev) (p : Path) (q : Req) (r : Resp) (replay : Bool) : Dev :=
  d.pushFlight ⟨p, q, some r, none, 0, replay⟩

/-- A mailbox's registers at reset. -/
def mailbox0 : Mailbox :=
  { go := false, cmd := 0, boundary := 0, shadow := false, irqEn := false, busy := false, done := false, err := false,
    replay := false, idx := 0, sub := 0, elem := 0, len := 0, offset := 0, txn := 0, abort := 0, rtxid := 0, data := [],
    irqNow := false }

/-- Mailbox `m` with a command under way. -/
def Dev.mbxBusy (d : Dev) (m : Nat) : Bool := (tget mailbox0 d.obj.boxes m).busy

/-- Does a path still hold its command in progress? A reset that the command itself caused discards it (R57). -/
def Dev.keeps (d : Dev) (p : Path) : Bool :=
  match p with
  | .mailbox m => d.mbxBusy m
  | p => p.ballast || d.reach p

/-- A command is handled; its answer, or its wait for a validation, is kept until it completes. -/
def Dev.handleCmd (d : Dev) (p : Path) (q : Req) : Dev :=
  let r := d.perform p q
  if !r.2.keeps p then r.2 else
  match r.1 with
  | .answer a => r.2.answerNow p q a false
  | .wait k => r.2.pushFlight ⟨p, q, none, some k, 0, false⟩

/-- Must the path's requests carry a transaction ID (R46, R522)? [DEDUCED: log 111] -/
def Path.needsId : Path → Bool
  | .mailbox _ => false
  | .hot => false
  | _ => true

/-- A request arrives: the replay cache, then the arbiter (R46, R47, R57). -/
def Dev.start (d : Dev) (p : Path) (q : Req) : Dev :=
  if q.txid = 0 then (if p.needsId then d.answerNow p q ⟨0x0703, [], 0⟩ false else d.handleCmd p q)
  else match d.replayed p q with
    | .apply => (d.remember p q).handleCmd p q
    | .answered r => d.answerNow p q r true
    | .held => d.setObj { d.obj with flights := d.obj.flights.map (fun f =>
        if f.path.client = p.client ∧ f.req = q ∧ !f.replay then { f with held := f.held + 1 } else f) }
    | .differs => d.answerNow p q ⟨0x0701, [], 0⟩ false
    | .full => d.answerNow p q ⟨0x0702, [], 0⟩ false

/-! ### BAR0 mailboxes (R53 to R57) -/

/-- Mailbox `m`. -/
def Dev.mbx (d : Dev) (m : Nat) : Mailbox := tget mailbox0 d.obj.boxes m

/-- Replace mailbox `m`. -/
def Dev.setMbx (d : Dev) (m : Nat) (x : Mailbox) : Dev := d.setObj { d.obj with boxes := tput mailbox0 d.obj.boxes m x }

/-- The request that a mailbox's registers hold; DATA covers the first `MBX_LEN` bytes, at most 3,840. -/
def Mailbox.req (x : Mailbox) : Req :=
  { cmd := x.cmd, idx := x.idx, sub := x.sub, elem := x.elem, len := x.len, data := tgetAll 0 x.data 0 (if x.len ≤ 3840 then x.len else 0),
    offset := x.offset, txn := x.txn, txid := x.rtxid, boundary := x.boundary, shadow := x.shadow, typ := 0 }

/-- `MBX_CTRL.GO` is written 1 (R56): discarded while BUSY; a length above 3,840 completes any command with 0x0302. [DEDUCED: log 110] -/
def Dev.mbxGo (d : Dev) (m : Fin 16) : Dev :=
  let x := d.mbx m
  if x.busy then d else
  let d := d.setMbx m { x with go := true, busy := true, done := false, err := false, replay := false, irqNow := x.irqEn }
  if 3840 < x.len then d.answerNow (.mailbox m) x.req ⟨0x0302, [], 0⟩ false else d.start (.mailbox m) x.req

/-- A mailbox with a request written into its registers. -/
def Mailbox.load (x : Mailbox) (q : Req) : Mailbox :=
  { x with
    cmd := q.cmd % 16, boundary := q.boundary % 8, shadow := q.shadow, idx := q.idx % 65536, sub := q.sub % 256,
    elem := q.elem % 4294967296, len := q.len % 65536, offset := q.offset % 4294967296, txn := q.txn % 4294967296,
    rtxid := q.txid % 4294967296, data := tputAll 0 x.data 0 (q.data.take 3840) }

/-- A mailbox completes (R54 to R57, R59): READ, DESCRIBE, OPEN and STATUS set `MBX_LEN` to the bytes returned. [DEDUCED: log 109] -/
def Mailbox.finish (x : Mailbox) (q : Req) (r : Resp) (replay : Bool) : Mailbox :=
  let withData := q.cmd == 1 || q.cmd == 3 || q.cmd == 4 || q.cmd == 7
  { x with
    go := false, busy := false, done := true, err := r.abort / 256 != 0, replay := replay, abort := r.abort,
    len := if withData then r.data.length else x.len, data := if withData then tputAll 0 x.data 0 (r.data.take 3840) else x.data,
    txn := if q.cmd = 4 ∧ r.abort = 0 then r.txn else x.txn }

/-! ### Responses (R45, R209, R523) -/

/-- The KMP message of a response: the request's fields with the code and the data. -/
def respMsg (role : Nat) (q : Req) (r : Resp) (replay : Bool) : Kmp :=
  { kind := 2, replay := replay, shadow := q.shadow, txid := q.txid, role := role, cmd := q.cmd, abort := r.abort, idx := q.idx,
    sub := q.sub, boundary := q.boundary, elem := q.elem, offset := q.offset / 1024, data := r.data }

/-- The response leaves on its path. [DEDUCED: log 113] -/
def Dev.respond (d : Dev) (p : Path) (q : Req) (r : Resp) (replay : Bool) : Dev :=
  match p with
  | .mailbox m =>
    let x := d.mbx m
    let d := d.setMbx m (x.finish q r replay)
    if x.irqNow then d.raise 4 m r.abort 0 else d
  | .hot => d
  | .kmp ip udp role via => d.kmpSend via ip udp (respMsg role.num q r replay)
  | .ring k node =>
    let msg := respMsg (d.pathRole (.ring k node)).num q r replay
    let room := imgM (d.activeImage k) - 30
    d.holdResponse k node ({ msg with data := msg.data.take room }).body
  | .spi => { d with spi := { d.spi with busy := false, valid := true, txid := q.txid, abort := r.abort, replay := replay, data := r.data } }

/-- Responses to repeats that were held (R47). -/
def Dev.respondHeld (d : Dev) (p : Path) (q : Req) (r : Resp) : Nat → Dev
  | 0 => d
  | n + 1 => (d.respond p q r true).respondHeld p q r n

/-- COMMAND_COMPLETE (R47, R56): the oldest command of a path whose answer is known completes, and the path reports it. -/
def commandComplete (p : Path) (d : Dev) : Dev :=
  let mine := fun (f : Flight) => f.path == p && f.resp.isSome
  match d.obj.flights.find? mine with
  | some f =>
    let r := f.resp.getD ⟨0, [], 0⟩
    let d := d.setObj { d.obj with flights := d.obj.flights.erase f }
    let d := (d.respond p f.req r f.replay).respondHeld p f.req r f.held
    if f.req.txid ≠ 0 ∧ !f.replay then d.rememberSent p f.req r else d
  | none => d

/-! ### Commands on a path -/

/-- An object command from a client of a path: through the mailbox's registers and GO, or a request in the path's own framing. A path
that is not reachable takes nothing; the sideband SPI refuses one while BUSY (R524). -/
def Dev.submit (d : Dev) (p : Path) (q : Req) : Dev :=
  if !d.reach p then d else
  match p with
  | .mailbox m => if (d.mbx m).busy then d else (d.setMbx m ((d.mbx m).load q)).mbxGo m
  | .spi =>
    if d.spi.busy then d
    else ({ d with spi := { d.spi with busy := true, valid := false, txid := q.txid, data := [], abort := 0, replay := false } } : Dev).start .spi q
  | .hot => if (Config.hotOffset (q.idx * 256 + q.sub)).isSome then (d.perform .hot { q with txn := 0, txid := 0 }).2 else d
  | _ => d.start p { q with txn := 0 }

/-- One of the seven object commands on a path (R54). -/
def objCommand (cmd : Nat) (p : Path) (q : Req) (d : Dev) : Dev := d.submit p { q with cmd := cmd }

/-- A request for an object, all else zero. -/
def reqFor (cmd o e txid : Nat) (data : List Byte) : Req :=
  { cmd := cmd, idx := o / 256, sub := o % 256, elem := e, len := data.length, data := data, offset := 0, txn := 0, txid := txid,
    boundary := 0, shadow := false, typ := 0 }

/-- The write of a number of `n` bytes to an object on a path: what a command of its own row writes. -/
def writeCommand (o e n v : Nat) (p : Path) (txid : Nat) (d : Dev) : Dev := d.submit p (reqFor 2 o e txid (leBytes n v))

/-- The write of bytes to an object from an offset on a path. -/
def writeBytes (o e off : Nat) (bs : List Byte) (p : Path) (txid : Nat) (d : Dev) : Dev :=
  d.submit p { reqFor 2 o e txid bs with offset := off }

/-- The read of an object on a path. -/
def readCommand (o e : Nat) (p : Path) (txid : Nat) (d : Dev) : Dev := d.submit p (reqFor 1 o e txid [])

/-- HOT_REGISTER_WRITE (R42): a hot register writes its object at the maintainer role, without a transaction ID. -/
def hotWrite (o e v : Nat) (d : Dev) : Dev :=
  match objOf o with
  | some x => d.submit .hot (reqFor 2 o e 0 (leBytes x.ty.size v))
  | none => d

/-! ### KMP and the ring mailbox (R45, R46, R238, R239) -/

/-- The request of a KMP message, or of a ring mailbox body; the offset counts in units of 1,024 bytes. -/
def Kmp.req (m : Kmp) : Req :=
  { cmd := m.cmd, idx := m.idx, sub := m.sub, elem := m.elem, len := m.data.length, data := m.data, offset := 1024 * m.offset, txn := 0,
    txid := m.txid, boundary := m.boundary, shadow := m.shadow, typ := 0 }

/-- A ring mailbox message (R238, R239): a request reaches the arbiter, unless 16 responses are held; a response is kept for host
software; others are discarded and counted. [DEDUCED: log 36, 115] -/
def ringMailbox (r cycle : Nat) (box : List Byte) (d : Dev) : Dev :=
  if r < 2 then
    let rf : Fin 2 := if r = 0 then 0 else 1
    match d.takeBox r cycle box with
    | (none, d) => d
    | (some (src, bcast, body), d) =>
      let m := kmpRead body
      let path := Path.ring rf src
      if byteAt body 0 ≠ 1 ∨ body.length ≠ 24 + beAt body 20 2 ∨ (m.kind ≠ 1 ∧ m.kind ≠ 2) then d.inc 0x400307 r
      else if bcast ∧ (m.kind ≠ 1 ∨ (m.cmd ≠ 1 ∧ m.cmd ≠ 3)) then d.inc 0x400307 r
      else if m.kind = 2 then d.keepResponse r src body
      else if !d.boxRoom r || !d.reach path then d.inc 0x400307 r
      else (d.inc 0x400306 r).start path m.req
  else d

end Sys2Proof.Machine
end

