-- ==== Sys2Proof/Machine/WaveNet.lean ====
section
/-! DEFINITION. The exchange of arrival records with remote ends: wavefront messages (R386, R387). -/
namespace Sys2Proof.Machine

/-- The DATA of ARRIVALS: count, two zero bytes, records (R386). -/
def arrivalsData (l : List (List Byte)) : List Byte := leBytes 2 l.length ++ zeros 2 ++ l.flatten

/-- The records of ARRIVALS or QUERY_REPLY; none where the DATA is not of that form. [DEDUCED: log 155] -/
def arrivalsRead (b : List Byte) (least : Nat) : Option (List (List Byte)) :=
  let n := leAt b 0 2
  if least ≤ n ∧ n ≤ 44 ∧ b.length = 4 + 32 * n then some ((List.range n).map (fun i => slice b (4 + 32 * i) 32)) else none

/-- The line's remote peer (objects 0xA100:07, 0xA100:08). [DEDUCED: log 154] -/
def Dev.peerIp (d : Dev) (l : Nat) : Nat := beNat (padTo 4 (d.getB 0xA10007 l))

/-- One ARRIVALS message goes to its line's peer, on MGT, at the role of object 0xA100:0A. -/
def Dev.sendArrivals (d : Dev) (m : WMsg) : Dev :=
  let role := d.get 0xA1000A m.line
  if d.kmpRoleOn role && d.kmpOn 16 then
    d.kmpSend 16 (d.peerIp m.line) (d.get 0xA10008 m.line) (kmpOf 0x20 m.txid role 0 m.data)
  else d

/-- ARRIVALS_SEND of a line (R387): the records not yet sent, up to 44, in one message. A line without a peer address sends none. -/
def arrivalsSend (l : Nat) (d : Dev) : Dev :=
  match (d.line l).ev with
  | none => d
  | some ev =>
    if ev.unsent.isEmpty ∨ d.peerIp l = 0 then d else
    let t := d.takeTxid
    let m : WMsg := ⟨l, t.1, arrivalsData (ev.unsent.take 44), 1, d.now⟩
    let d := t.2.setLine l { d.line l with ev := some { ev with unsent := ev.unsent.drop 44 } }
    (d.setWave { d.wave with msgs := d.wave.msgs ++ [m] }).sendArrivals m

/-- ARRIVALS_REPEAT (R387): 10 ms after a message was last sent it is sent again; after 5 repeats without an answer it is given up,
counted and reported. -/
def arrivalsRepeat (txid : Nat) (d : Dev) : Dev :=
  match d.wave.msgs.find? (fun m => m.txid == txid) with
  | none => d
  | some m =>
    let d := d.at_ (m.last + ms 10)
    let rest := d.wave.msgs.erase m
    if m.sent < 6 then
      let m := { m with sent := m.sent + 1, last := d.now }
      (d.setWave { d.wave with msgs := rest ++ [m] }).sendArrivals m
    else ((d.setWave { d.wave with msgs := rest }).inc 0xA00105 0).raise 292 m.line 0 0

/-- The local line of a sender's LINE (R387): an enabled line whose peer is the sender and whose object 0xA100:09 is that number. -/
def Dev.lineOf (d : Dev) (ip line : Nat) : Option Nat :=
  (List.range 64).find? (fun l => d.on 0xA10001 l && d.peerIp l == ip && d.get 0xA10009 l == line)

/-- Is a record of a sender in the log already? -/
def Dev.inLog (d : Dev) (ip id : Nat) : Bool :=
  d.wave.senders.any (fun p => p.2 == ip + 1 && arId (d.getB 0xA04001 p.1) == id)

/-- One incoming record (R387): entered with REMOTE set and joined to its line, or ignored as a duplicate. [DEDUCED: log 156] -/
def Dev.enterRemote (d : Dev) (ip : Nat) (b : List Byte) : Dev :=
  match d.lineOf ip (arLine b) with
  | none => d
  | some l =>
    if d.inLog ip (arId b) then d.inc 0xA00104 0 else
    let b := splice b 19 [byte (arFlags b ||| 8)]
    let n := d.wave.logNext
    let d := (d.logArrival b).inc 0xA00103 0
    let d := d.setWave { d.wave with senders := tput 0 d.wave.senders n (ip + 1) }
    if !bit (arFlags b) 2 then d else
    let x := d.line l
    match x.ev with
    | some ev =>
      if ev.remote.isNone && !ev.waitOver then (d.setLine l { x with ev := some { ev with remote := some b } }).tryDouble l
      else d.setLine l { x with early := some (d.now, b) }
    | none => d.setLine l { x with early := some (d.now, b) }

/-- The records of an ARRIVALS message are entered: the code of its acknowledgement (R386). -/
def Dev.takeArrivals (d : Dev) (ip : Nat) (l : List (List Byte)) : Nat × Dev :=
  (if l.all (fun b => (d.lineOf ip (arLine b)).isSome) then 0 else 0x0101, l.foldl (fun d b => d.enterRemote ip b) d)

/-- Up to 44 of the newest local records of a line within [from, to] (R386), in the order of the log. -/
def Dev.queryRecords (d : Dev) (l from_ upTo : Nat) : List (List Byte) :=
  let at_ := (List.range 4096).map (fun i => (d.wave.logNext + i) % 4096)
  let rs := (at_.map (fun i => d.getB 0xA04001 i)).filter (fun b =>
    let t := timeOfTs64 d.now (leAt b 0 8)
    b.length == 32 && b != zeros 32 && arLine b == l && !bit (arFlags b) 3 && decide (from_ ≤ t ∧ t ≤ upTo))
  rs.drop (rs.length - 44)

/-- Is a role enough for wavefront messages: operator or above (R386)? -/
def waveRole (role : Role) : Bool := decide (1 ≤ role.num)

/-- ARRIVALS (R386, R387): entered once, and answered with ARRIVALS_ACK. -/
def arrivals (ip udp : Nat) (role : Role) (via : Fin 17) (txid : Nat) (b : List Byte) (d : Dev) : Dev :=
  if !waveRole role then d.inc 0x110007 0 else
  match arrivalsRead b 1 with
  | none => d
  | some l =>
    d.kmpAnswer (.kmp ip udp role via) via ip udp role.num (reqOf 0x20 txid b) (fun _ => 0x21)
      (fun d => let r := d.takeArrivals ip l; ((r.1, []), r.2))

/-- ARRIVALS_ACK (R386, R387): the message it answers is not repeated any more. -/
def arrivalsAck (ip : Nat) (role : Role) (txid : Nat) (d : Dev) : Dev :=
  if !waveRole role then d.inc 0x110007 0 else
  d.setWave { d.wave with msgs := d.wave.msgs.filter (fun m => !(m.txid == txid && d.peerIp m.line == ip)) }

/-- QUERY (R386): answered with QUERY_REPLY; 0x0101 where the line is not held here. -/
def query (ip udp : Nat) (role : Role) (via : Fin 17) (txid : Nat) (b : List Byte) (d : Dev) : Dev :=
  if !waveRole role then d.inc 0x110007 0 else
  if b.length ≠ 20 then d else
  d.kmpAnswer (.kmp ip udp role via) via ip udp role.num (reqOf 0x22 txid b) (fun _ => 0x23)
    (fun d =>
      let l := byteAt b 0
      let t := fun (i : Nat) => timeOfTs64 d.now (leAt b i 8)
      if l < 64 ∧ d.on 0xA10001 l then ((0, arrivalsData (d.queryRecords l (t 4) (t 12))), d) else ((0x0101, []), d))

/-- QUERY_REPLY (R386): its records are entered as those of ARRIVALS. -/
def queryReply (ip : Nat) (role : Role) (b : List Byte) (d : Dev) : Dev :=
  if !waveRole role then d.inc 0x110007 0 else
  match arrivalsRead b 0 with
  | none => d
  | some l => (d.takeArrivals ip l).2

/-- A message of KMP that has its own row reaches the device where KMP does: on a port where it is enabled, in a power state that
serves it (R42, R44). -/
def onKmp (ip : Word) (udp : BitVec 16) (role : Role) (via : Fin 17) (f : Dev → Dev) (d : Dev) : Dev :=
  if d.reach (.kmp ip.toNat udp.toNat role via) then f d else d

/-- KMP_REQUEST (R45, R46): a datagram arrives: checked, and passed to the object arbiter, or to syzygy and wavefront exchange. -/
def kmpRequest (ip udp : Nat) (via : Fin 17) (b : List Byte) (d : Dev) : Dev :=
  if !(via == 16 || d.power == 2) then d else
  match d.kmpCheck via b with
  | .discard => d
  | .badTag => d.inc 0x110007 0
  | .message m =>
    let role := Role.ofNum m.role
    match m.kind with
    | 0x01 => d.start (.kmp ip udp role via) m.req
    | 0x10 => prepare ip udp role via m.txid m.data d
    | 0x11 => syzygyAnswer 0 ip udp role m.txid m.data d
    | 0x12 => syzygyAnswer 1 ip udp role m.txid m.data d
    | 0x13 => syzygyAbort ip udp role via m.txid m.data d
    | 0x14 => syzygyAnswer 2 ip udp role m.txid m.data d
    | 0x20 => arrivals ip udp role via m.txid m.data d
    | 0x21 => arrivalsAck ip role m.txid d
    | 0x22 => query ip udp role via m.txid m.data d
    | 0x23 => queryReply ip role m.data d
    | _ => d

end Sys2Proof.Machine
end

