-- ==== Sys2Proof/Machine/Registers.lean ====
section
/-! DEFINITION. Registers in BAR0 and BAR4: which answer, what a 32-bit read returns and does, and what a write does by the access
codes of its fields (R49 to R55, R98, R99, R129 to R133, R359, R404, R405, R412, R419, R437, R457, R494). -/
namespace Sys2Proof.Machine

/-! ### Which offsets answer (R49, R494) -/

/-- Does a BAR0 offset answer: every one in RUN; in LANTERN and until an image runs, global registers and mailboxes, and the boot
window in phase 1. -/
def Dev.barOpen (d : Dev) (off : Nat) : Bool :=
  let st := d.power
  if st = 2 ∨ st = 6 then true
  else if st = 4 ∨ st = 1 then decide (off < 0x20000) || (d.pow.phase == 1 && decide (0x2000000 ≤ off))
  else false

/-- All objects of the catalogue. -/
def allObjs : List Obj :=
  objsConfig ++ objsPower ++ objsTime ++ objsPtp ++ objsPort ++ objsRedundancy ++ objsRing ++ objsEngine ++ objsPhasor ++ objsTable
  ++ objsIngest ++ objsPcie ++ objsQueue ++ objsFault ++ objsWave

/-- The object whose hot register lies at a BAR0 offset (R38, R42). -/
def hotObj (off : Nat) : Option Obj := allObjs.find? (fun x => Config.hotOffset x.num == some off)

/-! ### The high half of a 64-bit register (R50) -/

/-- The latched high half of the register whose low half is at `off`; the live value where none has been latched. [DEDUCED: log 116] -/
def Dev.latched (d : Dev) (off live : Nat) : Nat :=
  let n := tget 0 d.obj.latch off
  if n = 0 then live else n - 1

/-- Latch the high half with a read of the low half. -/
def Dev.setLatch (d : Dev) (off hi : Nat) : Dev := d.setObj { d.obj with latch := tput 0 d.obj.latch off (hi + 1) }

/-! ### Reads -/

/-- The published epoch for `EPOCH_PUB`, 0 before the first publication. -/
def Dev.epochPub (d : Dev) : Nat := match d.tab.pub with
  | some p => p.n
  | none => 0

/-- `FLT_SAFE` (R457), from object 0x8020:01. -/
def Dev.fltSafe (d : Dev) : Nat := (List.range 20).foldl (fun m e => m + b2n (d.on 0x802001 e) * 2 ^ e) 0

/-- A global register without a read effect. -/
def Dev.globalReg (d : Dev) (off : Nat) : Nat :=
  let x := d.host.pcie
  if off = 0x100 then d.bootStatus
  else if off = 0x108 then d.pow.len
  else if off = 0x10C then d.get 0x130204 0
  else if 0x200 ≤ off ∧ off ≤ 0x20C then d.tim.latch.getD ((off - 0x200) / 4) 0
  else if off = 0x210 then d.tkStatus
  else if off = 0x300 then bits d.epochPub 0 32
  else if off = 0x304 then d.latched 0x300 (bits d.epochPub 32 32)
  else if off = 0x308 then d.tab.pinCmd
  else if off = 0x30C then d.pinStatus
  else if off = 0x310 then d.tab.pinEpoch % 4294967296
  else if off = 0x314 then d.tab.pinLapses
  else if off = 0x400 then d.hifState
  else if off = 0x404 then x.ur
  else if off = 0x500 then d.flt.feStatus
  else if off = 0x504 then d.flt.feUnit
  else if off = 0x508 then d.flt.feNs
  else if off = 0x50C then d.latched 0x508 d.flt.feSec
  else if off = 0x510 then bits d.flt.feSynd 0 32
  else if off = 0x514 then d.latched 0x510 (bits d.flt.feSynd 32 32)
  else if 0x600 ≤ off ∧ off < 0x640 then bits d.flt.sticky (8 * (off - 0x600)) 32
  else if off = 0x640 then d.fltSafe
  else if 0x800 ≤ off ∧ off < 0x900 then bits x.intxPend (8 * (off - 0x800)) 32
  else 0

/-- A mailbox register (R53 to R55). -/
def Mailbox.reg (x : Mailbox) (r : Nat) : Nat :=
  if 0x100 ≤ r then leNat (tgetAll 0 x.data (r - 0x100) 4)
  else if r = 0x00 then
    b2n x.go * 2 ^ 31 + x.cmd * 2 ^ 24 + x.boundary * 2 ^ 20 + b2n x.shadow * 2 ^ 15 + b2n x.irqEn * 2 ^ 14
  else if r = 0x04 then b2n x.busy * 2 ^ 31 + b2n x.done * 2 ^ 30 + b2n x.err * 2 ^ 29 + b2n x.replay * 2 ^ 28
  else if r = 0x08 then x.idx * 65536 + x.sub * 256
  else if r = 0x0C then x.elem
  else if r = 0x10 then x.len
  else if r = 0x14 then x.offset
  else if r = 0x18 then x.txn
  else if r = 0x1C then x.abort
  else if r = 0x20 then x.rtxid
  else 0

/-- A register of a port's block (R130); MGT is port 16 and has two of them. -/
def Dev.portReg (d : Dev) (p r : Nat) : Nat :=
  let x := d.tsq p
  if r = 0 then d.portStatus p
  else if r = 0x10 then d.portPtp p
  else if p = 16 then 0
  else if 0x100 ≤ r ∧ r ≤ 0x10C then x.latch.getD ((r - 0x100) / 4) 0
  else if r = 0x110 then x.status
  else if r = 0x114 then x.drops
  else 0

/-- A register of a queue's block, the high halves of `Q_BASE` and `Q_MIRROR` as latched (R50, R437). -/
def Dev.queueReg (d : Dev) (off : Nat) : Nat :=
  let q := (off - 0x1000000) / 64
  let r := off % 64
  let v := (d.queue q).reg r
  if r = 0x0C ∨ r = 0x14 then d.latched (off - 4) v else v

/-- A 32-bit register of BAR0. -/
def Dev.bar0Reg (d : Dev) (off : Nat) : Nat :=
  if off < 0x10000 then d.globalReg off
  else if off < 0x20000 then (d.mbx ((off - 0x10000) / 0x1000)).reg (off % 0x1000)
  else if off < 0x100000 then 0
  else if off < 0x200000 then match hotObj off with
    | some x => d.get x.num 0 % 4294967296
    | none => 0
  else if off < 0x300000 then d.portReg ((off - 0x200000) / 0x10000) (off % 0x10000)
  else if off < 0x310000 then d.portReg 16 (off % 0x10000)
  else if off < 0x1000000 then 0
  else if off < 0x2000000 then d.queueReg off
  else 0

/-- What a 32-bit read of a register does: `TK_TIME0` and `TSQ_ENTRY0` latch, and the low half of a 64-bit register latches its high
half (R50, R99, R129, R457). -/
def Dev.readEffect (d : Dev) (off : Nat) : Dev :=
  if off = 0x200 then d.setTim { d.tim with latch := tkTimeWords d.now }
  else if off = 0x300 then d.setLatch off (bits d.epochPub 32 32)
  else if off = 0x508 then d.setLatch off d.flt.feSec
  else if off = 0x510 then d.setLatch off (bits d.flt.feSynd 32 32)
  else if 0x200000 ≤ off ∧ off < 0x300000 ∧ off % 0x10000 = 0x100 then d.tsqRead ((off - 0x200000) / 0x10000)
  else if 0x1000000 ≤ off ∧ off < 0x2000000 ∧ (off % 64 = 0x08 ∨ off % 64 = 0x10) then
    d.setLatch off ((d.queue ((off - 0x1000000) / 64)).reg (off % 64 + 4))
  else d

/-- A 32-bit read of BAR0. -/
def Dev.bar0Read (d : Dev) (off : Nat) : Nat × Dev :=
  if d.barOpen off then let d := d.readEffect off; (d.bar0Reg off, d) else (0, d)

/-- A dword of BAR4: the MSI-X table, then the Pending Bit Array (R404). -/
def Dev.bar4Reg (d : Dev) (off : Nat) : Nat :=
  if off < 0x8000 then d.host.pcie.msix (off / 4)
  else if off < 0x8100 then bits d.host.pcie.pba (8 * (off - 0x8000)) 32
  else 0

/-- A read of BAR0 or BAR4 by the host: aligned, of 32 or 64 bits; a 64-bit read is two reads, the lower address first, which for a
64-bit register gives both halves of one instant (R50, R405). Another one completes with UR. -/
def registerRead (bar4 : Bool) (off : Nat) (wide : Bool) (d : Dev) : Dev :=
  let n := if wide then 8 else 4
  if !d.memOk || off % n != 0 then (unsupportedRequest true d).emit (.completion 1 [])
  else if bar4 then
    let v := d.bar4Reg off + (if wide then d.bar4Reg (off + 4) * 4294967296 else 0)
    d.emit (.regRead (0x4000000 + off) n v)
  else
    let lo := d.bar0Read off
    let hi := if wide then lo.2.bar0Read (off + 4) else (0, lo.2)
    hi.2.emit (.regRead off n (lo.1 + hi.1 * 4294967296))

/-! ### Writes -/

/-- A write of a global register. -/
def Dev.writeGlobal (d : Dev) (off v : Nat) : Dev :=
  if off = 0x104 then (if bit v 31 then bootGo d else d)
  else if off = 0x108 then d.setPow { d.pow with len := v % 2 ^ 25 }
  else if off = 0x308 then
    let d := d.setTab { d.tab with pinCmd := v % 4 }
    if !bit v 31 then d
    else if v % 4 = 1 then pinP d
    else if v % 4 = 2 then pinPMinus1 d
    else if v % 4 = 3 then pinRelease d
    else d
  else if off = 0x30C then (if bit v 30 then d.setTab { d.tab with pinLapsed := false } else d)
  else if off = 0x314 then d.setTab { d.tab with pinLapses := v }
  else if off = 0x404 then d.setPcie { d.host.pcie with ur := v }
  else if off = 0x518 then (if bit v 31 then d.clearFirst else d)
  else if 0x600 ≤ off ∧ off < 0x640 then
    d.setFlt { d.flt with sticky := clearBits d.flt.sticky (v * 2 ^ (8 * (off - 0x600))) }
  else if 0x800 ≤ off ∧ off < 0x900 then intxPendClear ((off - 0x800) / 4) v d
  else d

/-- A write of a mailbox register (R53 to R56); GO starts the command. -/
def Dev.writeMbx (d : Dev) (m : Fin 16) (r v : Nat) : Dev :=
  let x := d.mbx m
  if 0x100 ≤ r then d.setMbx m { x with data := tputAll 0 x.data (r - 0x100) (leBytes 4 v) }
  else if r = 0x00 then
    let d := d.setMbx m { x with cmd := bits v 24 4, boundary := bits v 20 3, shadow := bit v 15, irqEn := bit v 14 }
    if bit v 31 then d.mbxGo m else d
  else if r = 0x04 then d.setMbx m { x with done := x.done && !bit v 30, err := x.err && !bit v 29 }
  else if r = 0x08 then d.setMbx m { x with idx := bits v 16 16, sub := bits v 8 8 }
  else if r = 0x0C then d.setMbx m { x with elem := v }
  else if r = 0x10 then d.setMbx m { x with len := v % 65536 }
  else if r = 0x14 then d.setMbx m { x with offset := v }
  else if r = 0x18 then d.setMbx m { x with txn := v }
  else if r = 0x20 then d.setMbx m { x with rtxid := v }
  else d

/-- A write of a port's register (R133). -/
def Dev.writePort (d : Dev) (p r v : Nat) : Dev :=
  let x := d.tsq p
  if r = 0x110 then (if bit v 31 then d.setTsq p { x with overflow := false } else d)
  else if r = 0x114 then d.setTsq p { x with drops := v }
  else d

/-- `Q_CTRL` with GO: ATTACH, DETACH, RESET (R437, R438). -/
def Dev.queueCmd (d : Dev) (q cmd : Nat) : Dev :=
  let d := d.setQueue q { d.queue q with cmd := cmd }
  if cmd = 1 then queueAttach q d else if cmd = 2 then d.detachCore q else if cmd = 3 then d.resetQueue q else d

/-- A write of a queue's register (R423, R437). -/
def Dev.writeQueue (d : Dev) (q r v : Nat) : Dev :=
  let x := d.queue q
  let lo := fun (old : Nat) => bits old 32 32 * 4294967296
  if r = 0x00 then (if bit v 31 then d.queueCmd q (bits v 28 3) else d.setQueue q { x with cmd := bits v 28 3 })
  else if r = 0x04 then d.setQueue q { x with cfgRefused := x.cfgRefused && !bit v 29, attRefused := x.attRefused && !bit v 28 }
  else if r = 0x08 then d.writeRing q (fun x => { x with base := lo x.base + v / 4096 * 4096 })
  else if r = 0x0C then d.writeRing q (fun x => { x with base := x.base % 4294967296 + v * 4294967296 })
  else if r = 0x10 then d.writeRing q (fun x => { x with mirror := lo x.mirror + v / 4 * 4 })
  else if r = 0x14 then d.writeRing q (fun x => { x with mirror := x.mirror % 4294967296 + v * 4294967296 })
  else if r = 0x18 then d.writeRing q (fun x => { x with log2 := v % 32 })
  else if r = 0x1C then d.writeRing q (fun x => { x with start := v })
  else if r = 0x2C then d.setQueue q { x with late := v }
  else if r = 0x30 then d.setQueue q { x with drops := v }
  else if r = 0x34 then d.setQueue q { x with done := v }
  else d

/-- A 32-bit write of BAR0. -/
def Dev.bar0Write (d : Dev) (off v : Nat) : Dev :=
  if !d.barOpen off then d
  else if off < 0x10000 then d.writeGlobal off v
  else if off < 0x20000 then d.writeMbx ⟨(off - 0x10000) / 0x1000 % 16, Nat.mod_lt _ (by decide)⟩ (off % 0x1000) v
  else if off < 0x100000 then d
  else if off < 0x200000 then match hotObj off with
    | some x => hotWrite x.num 0 v d
    | none => d
  else if off < 0x300000 then d.writePort ((off - 0x200000) / 0x10000) (off % 0x10000) v
  else if off < 0x1000000 then d
  else if off < 0x2000000 then d.writeQueue ((off - 0x1000000) / 64) (off % 64) v
  else d.writeWindow (off - 0x2000000) (leBytes 4 v)

/-- A 32-bit write of BAR4 (R400, R404, R412): a dword of the MSI-X table; unmasking a vector sends its pending message. -/
def Dev.bar4Write (d : Dev) (off v : Nat) : Dev :=
  if off < 0x8000 then
    let i := off / 4
    let v := if i % 4 = 3 then v % 2 else if i % 4 = 0 then v / 4 * 4 else v
    (d.setPcie { d.host.pcie with msixTab := tput (msixDflt i) d.host.pcie.msixTab i v }).flushPending
  else d

/-- A write of BAR0 or BAR4 by the host: aligned, of 32 or 64 bits, the lower dword first; another one is discarded as an Unsupported
Request (R405). -/
def registerWrite (bar4 : Bool) (off : Nat) (wide : Bool) (v : Nat) (d : Dev) : Dev :=
  let n := if wide then 8 else 4
  if !d.memOk || off % n != 0 then unsupportedRequest true d
  else
    let w := fun (d : Dev) (off v : Nat) => if bar4 then d.bar4Write off v else d.bar0Write off v
    let d := w d off (v % 4294967296)
    if wide then w d (off + 4) (v / 4294967296 % 4294967296) else d

/-- The host writes a 32-bit register of BAR0. -/
def hostWrite32 (off v : Nat) (d : Dev) : Dev := registerWrite false off false v d

end Sys2Proof.Machine
end

