-- ==== Sys2Proof/Machine/Completion.lean ====
section
/-! DEFINITION. Completions of the reads that the endpoint issued, their timeouts, and configuration requests with what resumes
after them (R402, R406, R407, R409, R415, R417, R440, R443). -/
namespace Sys2Proof.Machine

/-- A whole read has come: the descriptors of a queue, or the data of one entry, for a ring's own slot or for ports. -/
def Dev.readDone (d : Dev) (w : ReadFor) (bs : List Byte) : Dev :=
  match w with
  | .desc q idx _ => d.descriptors q idx bs
  | .data q idx =>
    match d.ownSlotOf q with
    | some r => d.ringData r q idx bs
    | none => d.txData q idx bs

/-- A part of a whole read fails: the whole request fails, and its queue goes to ERROR (R407, R440). [PRESUMED: log 137] -/
def Dev.readFails (d : Dev) (id : Nat) : Dev :=
  match d.host.pcie.reqs.find? (fun r => r.id == id) with
  | none => d
  | some r =>
    let d := d.setPcie { d.host.pcie with reqs := d.host.pcie.reqs.erase r }
    match r.what with
    | .desc q idx _ => d.queueError q idx 5
    | .data q idx => d.queueError q idx 5

/-- Bytes of a part have come: the part is over when all have, and the whole read is done with its last part. -/
def Dev.partData (d : Dev) (p : HostRead) (bs : List Byte) : Dev :=
  let bs := bs.take p.len
  let x := d.host.pcie
  let rest := if bs.length = p.len then x.reads.erase p
    else x.reads.map (fun r => if r = p then { r with addr := p.addr + bs.length, len := p.len - bs.length, off := p.off + bs.length } else r)
  match x.reqs.find? (fun r => r.id == p.req) with
  | none => d.setPcie { x with reads := rest }
  | some r =>
    let r' := { r with got := r.got ++ [(p.off, bs)] }
    match r'.whole with
    | some w => (d.setPcie { x with reads := rest, reqs := x.reqs.erase r }).readDone r.what w
    | none => d.setPcie { x with reads := rest, reqs := x.reqs.map (fun y => if y = r then r' else y) }

/-- READ_COMPLETION: a completion arrives for a tag. One for no outstanding read, a quarantined tag's among them, is an
Unexpected Completion (R402, R415); a poisoned one is logged and fails its request. -/
def readCompletion (tag : Nat) (c : CplStatus) (d : Dev) : Dev :=
  if d.host.pcie.perst || !d.host.pcie.linkUp then d else
  match d.takePart tag with
  | none => d.logUnc 16
  | some p =>
    let gone := d.setPcie { d.host.pcie with reads := d.host.pcie.reads.erase p }
    let d := match c with
      | .success bs => d.partData p bs
      | .unsupported =>
        (gone.setPcie { gone.host.pcie with statusErr := gone.host.pcie.statusErr ||| 0x2000 }).readFails p.req
      | .abort_ => (gone.setPcie { gone.host.pcie with statusErr := gone.host.pcie.statusErr ||| 0x1000 }).readFails p.req
      | .poisoned => (gone.readFails p.req).logUnc 12
    d.issueReads

/-- COMPLETION_TIMEOUT: the completion timeout of an outstanding read expires; it is logged and its request fails (R402). -/
def completionTimeout (tag : Nat) (d : Dev) : Dev :=
  match d.takePart tag with
  | none => d
  | some p =>
    let d := d.setPcie { d.host.pcie with reads := d.host.pcie.reads.erase p }
    ((d.readFails p.req).logUnc 14).issueReads

/-- ENDPOINT_INTERNAL_ERROR (R402, R415): an error that the endpoint detects in itself or on its link, by its AER bit; bits of errors
that it does not detect do nothing. An uncorrectable internal error is what the buffers' ECC finds (R471). -/
def endpointError (e : AerError) (d : Dev) : Dev :=
  if d.host.pcie.perst then d else
  match e with
  | .uncorrectable b =>
    if b = 22 then d.checked_ 0x12 0 (endpointInternalError 22)
    else if [4, 12, 13, 17, 18, 19].contains b.val then endpointInternalError b.val d else d
  | .correctable b => if [0, 6, 7, 8, 12, 13, 14, 15].contains b.val then d.logCor b.val else d

/-- What goes on once the endpoint may issue requests again: waiting reads, and every queue (R409, R417, R418). [DEDUCED: log 139] -/
def Dev.resumed (d e : Dev) : Dev := if !d.hostUp && e.hostUp then (e.issueReads).resumeQueues else e

/-- CONFIG_REQUEST (R396, R409, R417). -/
def configCommand (write : Bool) (off value be : Nat) (d : Dev) : Dev := d.resumed (configRequest write off value be d)

/-- TEST_FREEZE and CONT_RELEASE: the configuration writes of `CONT_CTRL` (R403, R417). -/
def testFreezeCommand (d : Dev) : Dev := configCommand true 0x22C 0x40000000 15 d
def contReleaseCommand (d : Dev) : Dev := configCommand true 0x22C 0x80000000 15 d

end Sys2Proof.Machine
end

