-- ==== Sys2Proof/Machine/Receive.lean ====
section
/-! DEFINITION. What a port does with what it receives: the Eclipse's decision, classification, forwarding, host delivery and
the port ledger (R111, R112, R141, R163 to R165, R175 to R197, R245, R246, R267, R432, R465); ring copies with the slots taken;
alignment pulses. -/
namespace Sys2Proof.Machine

/-! ### Classification and host delivery (R245, R246, R337, R432) -/

/-- A port's element in objects 0x6142 and 0x7130, and its number as an owner of hub buffer cells and as INPORT. -/
def inPort (p : Nat) : Nat := if p = 16 then 20 else p

/-- A non-sample frame goes to the port's host queue by its filter (R432). -/
def Dev.hostDeliver (d : Dev) (p rx : Nat) (b : List Byte) : Dev :=
  let e := inPort p
  let f := d.get 0x713002 e
  if f = 1 ∨ (f = 2 ∧ (dstMac b = macOf p ∨ isBroadcast b)) then
    d.rxDeliver (d.get 0x713001 e) b (copyFlags false e (d.unsync p)) 0 rx 0
  else d

/-- A non-sample frame: a PTP message that an instance terminates, or a management message, stays on the device; any other
goes to host delivery (R117, R246). -/
def Dev.nonSample (d : Dev) (p rx t : Nat) (b : List Byte) : Dev :=
  match ptpAt b with
  | some o =>
    let m := b.drop o
    if ptpKind m = 13 ∨ (d.ptpInst p m).isSome then ptpReceive p m t d else d.hostDeliver p rx b
  | none => d.hostDeliver p rx b

/-- The output stream whose source a C37.118.2 command frame names (R337). -/
def Dev.pmuOf (d : Dev) (u : Udp) : Option Nat :=
  if beAt u.data 0 1 = 0xAA ∧ bits (beAt u.data 0 2) 4 3 = 4 then d.pmuStreams.find? (fun s => d.get 0x65000A s == u.dport) else none

/-- The classifier (R245): a frame taken on port `p`, with its receive timestamp `rx` and the instant `t` at the balls. Outside
RUN only MGT takes frames, for KMP and PTP. [DEDUCED: log 130] -/
def Dev.classify (d : Dev) (p rx t : Nat) (b : List Byte) : Dev :=
  let run := d.power == 2 || d.power == 6
  let udp := match frameUdp b with
    | some u => if Dev.toDevice p u then some u else none
    | none => none
  if run && frameType b == 0x88BA then
    match d.svLookup p b with
    | some n => d.svFrame n p rx b
    | none => (d.inc 0x614003 0).nonSample p rx t b
  else if run && frameType b == 0x88B5 then
    match d.wsfLookup p b with
    | some i => d.wsfFrame i p rx b
    | none => (d.inc 0x614003 0).nonSample p rx t b
  else match udp with
    | some u =>
      if u.dport = d.get 0x110001 0 then kmpRequest u.src u.sport (Fin.ofNat 17 p) u.data d
      else if !run then d.nonSample p rx t b
      else match d.synLookup u, d.pmuOf u with
        | some n, _ => d.synFrame n p rx b u
        | none, some s => d.rxDeliver (d.get 0x65000E s) b (copyFlags false (inPort p) (d.unsync p)) 0 rx 0
        | none, none => d.nonSample p rx t b
    | none => d.nonSample p rx t b

/-! ### The Eclipse's decision (R176 to R191) -/

/-- What the Eclipse decides of a copy: whether it is taken for the classifier and for a generation function, whether it goes
around an HSR pair, the reason of the port ledger where it does neither (0: eliminated duplicate), its stream handle, and the
takes it made: a recovery function, and histories of its node. -/
structure Verd where
  deliver : Bool
  around : Bool
  reason : Nat
  handle : Option Nat
  fn : Option Nat
  node : List (Fin 3)
deriving DecidableEq, Repr

/-- The histories of a source's node on a pair that hold a number. -/
def Dev.nodeHolds (d : Dev) (k : Nat) (mac : List Byte) (s : Nat) : List (Fin 3) :=
  match d.nodeOf k mac with
  | some i => [0, 1, 2].filter (fun w => ((tget node0 d.ecl.nodes i).hist w).holds s)
  | none => []

/-- A redundancy tag's sequence number on a pair: of a PRP trailer or of an HSR tag. -/
def Dev.pairSeq (d : Dev) (k : Nat) (b : List Byte) : Option Nat :=
  if d.pairMode k = 1 then (prpTrailer b).map (·.1) else if d.pairMode k = 2 then hsrTag b else none

/-- The pair's part of the decision: delivery, going around, reason. -/
def Dev.pairVerd (d : Dev) (p : Nat) (b : List Byte) : Verd × Dev :=
  let k := p / 2
  if p ≥ 16 then (⟨true, false, 0, none, none, []⟩, d)
  else if d.pairMode k = 1 then
    let r := d.prp k p b
    (⟨r.1.taken, false, r.1.reason, none, none, []⟩, r.2)
  else if d.pairMode k = 2 then
    let r := d.hsr k p b
    (⟨r.1.deliver.taken, r.1.forward, r.1.deliver.reason, none, none, []⟩, r.2)
  else (⟨true, false, 0, none, none, []⟩, d)

/-- The decision on a copy, the pair's first, then the stream's; the takes it made are noted. -/
def Dev.eclipse (d : Dev) (p : Nat) (b : List Byte) : Verd × Dev :=
  let k := p / 2
  let held := fun (d : Dev) => match d.pairSeq k b with
    | some s => if p ≥ 16 then [] else d.nodeHolds k (srcMac b) s
    | none => []
  let old := held d
  let r := d.pairVerd p b
  let v := { r.1 with node := (held r.2).filter (fun w => !old.contains w) }
  if !v.deliver then (v, r.2) else
  match r.2.handleOf p b with
  | none => (v, r.2)
  | some h =>
    let had := fun (d : Dev) => match rTag b with
      | some s => (d.fn h).hist.holds s
      | none => false
    let f := r.2.frer h p b
    let fn := if !had r.2 && had f.2 then some h else none
    (if f.1.taken then { v with handle := some h, fn := fn } else { v with deliver := false, reason := f.1.reason, handle := some h },
      f.2)

/-- Event records that the decision raised carry the copy's receive timestamp (R134, R197). -/
def Dev.stampNew (d : Dev) (n rx : Nat) : Dev :=
  d.setFlt { d.flt with flying := d.flt.flying.take n ++ (d.flt.flying.drop n).map (fun x =>
    if x.src = 117 then { x with time := rx } else x) }

/-- A supervision frame of the pair's address is counted when received (R187). -/
def Dev.noteSupervision (d : Dev) (p : Nat) (b : List Byte) : Dev :=
  if p < 16 ∧ d.pairMode (p / 2) ≠ 0 ∧ isSupervision b ∧ byteAt b 5 = d.get 0x320007 (p / 2) then d.inc 0x32000F (p / 2) else d

/-- The decision at its instant, with supervision counted and the receive timestamp in the records it raises. -/
def Dev.decideCopy (d : Dev) (p rx : Nat) (b : List Byte) : Verd × Dev :=
  let d := d.noteSupervision p b
  let r := d.eclipse p b
  (r.1, r.2.stampNew d.flt.flying.length rx)

/-! ### Egress (R189, R193, R195) -/

/-- A taken frame without the tag of its arrival: the tag of an HSR pair, the trailer of a PRP pair, the R-TAG of a stream that
is recovered. [DEDUCED: log 39] -/
def Dev.bare (d : Dev) (p h : Nat) (b : List Byte) : List Byte :=
  let m := d.pairMode (p / 2)
  if m = 1 then (if (prpTrailer b).isSome then b.take (b.length - 6) else b)
  else if m = 2 || d.on 0x311001 h then b.take (vlanEnd b) ++ b.drop (typeAt b)
  else b

/-- The copies of a taken frame that generation functions send (R193): one within its restart silence sends none (R195). -/
def Dev.genCopies (d : Dev) (p : Nat) (b : List Byte) : Option Nat → List (Nat × List Byte × Bool) × Dev
  | none => ([], d)
  | some h =>
    (d.gensOf h).foldl (fun (acc : List (Nat × List Byte × Bool) × Dev) g =>
      let d := acc.2
      if d.silenced g then (acc.1, d.inc 0x312007 g) else
      let s := d.takeSeq g
      let kind := d.get 0x312008 g
      (acc.1 ++ (d.genPorts g).map (fun q => (q, addTag kind s.1 q (d.bare p h b), kind == 3)), s.2)) ([], d)

/-- Is the frame a PTP event message that an instance terminates, or a peer delay message of a listed domain? It is never
forwarded (R125). -/
def Dev.ptpEnds (d : Dev) (p : Nat) (b : List Byte) : Bool :=
  match ptpAt b with
  | some o => (ptpEvent (b.drop o) || ptpPeer (b.drop o)) && (d.ptpInst p (b.drop o)).isSome
  | none => false

/-- Every copy that a decided frame sends: its port, bytes, and whether its tag is a trailer. [DEDUCED: log 25] -/
def Dev.copiesOf (d : Dev) (p : Nat) (b : List Byte) (v : Verd) : List (Nat × List Byte × Bool) × Dev :=
  if d.ptpEnds p b then ([], d) else
  let r := if v.deliver then d.genCopies p b v.handle else ([], d)
  (if v.around then (p + 1 - 2 * (p % 2), b, false) :: r.1 else r.1, r.2)

/-- Put one copy of a held frame in the queue of its egress port. -/
def Dev.sendHub (d : Dev) (id q : Nat) (b : List Byte) (cut : Bool) : Dev :=
  d.enqueue q ⟨b, d.fwdClass q b, .hub id, none, cut, false, none, 0, 0⟩

/-- The device itself is through with a held frame, delivered or not. -/
def Dev.hubDone (d : Dev) (id : Nat) (delivered : Bool) : Dev :=
  let x := d.hubFrame id
  if x.copies = 0 then d else
  (d.setLan { d.lan with
    hub := tput hubFrame0 d.lan.hub id { x with copies := x.copies - 1, delivered := delivered } }).hubSettle id

/-! ### Receiving a frame -/

/-- A frame's drop or elimination, by the reason of its decision (R197): 0 is an eliminated duplicate. -/
def Dev.notTaken (d : Dev) (p reason : Nat) : Dev :=
  if reason = 0 then d.updLedger p (fun l => { l with eliminated := l.eliminated + 1 }) else d.countPortDrop p reason

/-- The receive FCS check, an armed injection slot making it fail (R471). -/
def Dev.fcsCheck (d : Dev) (p : Nat) (good : Bool) : Bool × Dev :=
  match if p < 16 then d.fire 15 p 0 else (none, d) with
  | (some _, d) => (false, d)
  | (none, d) => (good, d)

/-- A MAC control frame (PAUSE or PFC). -/
def isMacControl (b : List Byte) : Bool := frameType b == 0x8808

/-- A received PAUSE is honoured where object 0x3000:08 allows, for its quanta of 512 bit times; every other MAC control frame is
discarded (R141). [DEDUCED: log 29, 132] -/
def Dev.macControl (d : Dev) (p : Nat) (b : List Byte) : Dev :=
  let d := d.countPortDrop p reasonPause
  if p < 16 ∧ d.on 0x300008 p ∧ beAt (payload b) 0 2 = 1 then
    d.setPort p { d.port p with paused := d.portNow p + byteTime (d.portMode p) (64 * beAt (payload b) 2 2) }
  else d

/-- A frame enters the hub buffer with `copies` open ends, or is dropped whole for want of a cell (R267). -/
def Dev.letIn (d : Dev) (p copies t : Nat) (b : List Byte) : Option Nat × Dev :=
  let n := cellsFor (b.length + 4)
  match d.takeCells (inPort p) n with
  | none => (none, (d.inc 0x614202 (inPort p)).countPortDrop p reasonNoBuffer)
  | some d =>
    let r := d.hubNew ⟨p, n, copies, false, false, 0, t⟩
    (some r.1, r.2)

/-- A copy that was decided goes on to the classifier, to forwarding, or to both; one that does neither is settled at once
(R179, R197, R465). -/
def Dev.onward (d : Dev) (p rx t : Nat) (b : List Byte) (v : Verd) : Dev :=
  if !v.deliver && !v.around then d.notTaken p v.reason else
  let c := d.copiesOf p b v
  match c.2.letIn p (c.1.length + 1) t b with
  | (none, d) => d
  | (some id, d) =>
    let d := if v.deliver then d.classify p rx t b else d
    let d := c.1.foldl (fun d x => d.sendHub id x.1 x.2.1 false) d
    d.hubDone id v.deliver

/-- A whole frame has been received, its timestamp point at `t` of the port's replica (R111 to R113, R176 to R179). [DEDUCED: log 131, 133] -/
def Dev.frameIn (d : Dev) (p : Nat) (b : List Byte) (good : Bool) (t : Nat) : Dev :=
  let c := d.fcsCheck p good
  let d := c.2.updLedger p (fun l => { l with received := l.received + 1 })
  let rx := d.rxStamp p t
  if !c.1 || decide (b.length < 60) then d.countPortDrop p reasonInvalid
  else if isMacControl b then d.macControl p b
  else
    let r := d.decideCopy p rx b
    r.2.onward p rx t b r.1

/-! ### Cut-through (R164, R165, R176, R177) -/

/-- A port's rate for cut-through: 25 or 10 Gb/s in use, 0 for any other mode. -/
def Dev.cutRate (d : Dev) (p : Nat) : Nat :=
  if p ≥ 16 then 0 else if d.portMode p = 1 then 25 else if d.portMode p = 2 then 10 else 0

/-- May a copy be cut through from port `p` to port `q` (R164)? -/
def Dev.cutOk (d : Dev) (p q : Nat) (b : List Byte) (trailer : Bool) : Bool :=
  let c := d.fwdClass q b
  let f : QFrame := ⟨b, c, .own, none, true, false, none, 0, 0⟩
  d.portUp q && bit (d.get 0x300007 q) c && decide (0 < d.cutRate q) && decide (d.cutRate q ≤ d.cutRate p) && !trailer
    && d.pairMode (p / 2) != 1 && (d.port q).waiting.all (fun x => x.cls != c) && d.guardOk q f (d.portNow q)

/-- The frame that port `p` is receiving after its header was decided. -/
def Dev.cutOf (d : Dev) (p : Nat) : Option CutRx := d.lan.cutting.find? (fun c => c.port == p)

/-- Would any copy of the frame be cut through, were it decided now? -/
def Dev.cutAny (d : Dev) (p : Nat) (b : List Byte) : Bool :=
  let r := d.decideCopy p 0 b
  (r.2.copiesOf p b r.1).1.any (fun x => d.cutOk p x.1 x.2.1 x.2.2)

/-- CUT_THROUGH_HEADER: a frame's header has accumulated on port `p`; `b` is the frame as it will come in. A frame that may be
cut through nowhere is stored and forwarded: nothing happens yet. One that may is decided now, and the copies that may go are
queued at once; the others, and the classifier, wait for its FCS (R164, R176, R177). [DEDUCED: log 134] -/
def cutThroughHeader (p : Nat) (b : List Byte) (t : Nat) (d : Dev) : Dev :=
  let d := d.atPort p t
  if p ≥ 16 || !d.portUp p || (d.cutOf p).isSome || !d.cutAny p b then d else
  let rx := d.rxStamp p t
  let d := d.updLedger p (fun l => { l with received := l.received + 1 })
  let r := d.decideCopy p rx b
  let v := r.1
  let c := r.2.copiesOf p b v
  match c.2.letIn p (c.1.length + 1) t b with
  | (none, d) => d
  | (some id, d) =>
    let go := c.1.filter (fun x => d.cutOk p x.1 x.2.1 x.2.2)
    let rest := c.1.filter (fun x => !d.cutOk p x.1 x.2.1 x.2.2)
    let d := go.foldl (fun d x => d.sendHub id x.1 x.2.1 true) d
    d.setLan { d.lan with cutting :=
      d.lan.cutting ++ [⟨p, id, b, t, v.deliver, rest.map (fun x => (x.1, x.2.1)), v.fn, v.node⟩] }

/-- The copies of a held frame that are waiting or on the wire end with a bad FCS (R165). -/
def Dev.markBad (d : Dev) (id : Nat) : Dev :=
  let f := fun (x : QFrame) => if x.src = .hub id then { x with bad := true } else x
  let g := fun (n : TxNow) => { n with frame := f n.frame }
  (List.range 17).foldl (fun d p =>
    let x := d.port p
    if x.waiting.any (fun y => y.src = .hub id) || (x.now.map (fun n => n.frame.src)) == some (.hub id)
        || (x.held.map (fun n => n.frame.src)) == some (.hub id) then
      d.setPort p { x with waiting := x.waiting.map f, now := x.now.map g, held := x.held.map g }
    else d) d

/-- The provisional take of a frame is withdrawn (R177). -/
def Dev.withdraw (d : Dev) (c : CutRx) : Dev :=
  let k := c.port / 2
  let d := match c.fn with
    | some h => d.frerWithdraw h c.bytes
    | none => d
  match d.pairSeq k c.bytes with
  | some s => c.node.foldl (fun d w => d.nodeWithdraw k (srcMac c.bytes) s w) d
  | none => d

/-- The last bit of a frame that is being cut through has come, with its FCS. Bad, its take is withdrawn, and what was not cut
through is dropped; good, it goes to the classifier and to its other ports. -/
def Dev.cutEnd (d : Dev) (c : CutRx) (good : Bool) : Dev :=
  let d := d.setLan { d.lan with cutting := d.lan.cutting.erase c }
  let k := d.fcsCheck c.port good
  let d := k.2
  if k.1 && decide (60 ≤ c.bytes.length) then
    let d := if c.deliver then d.classify c.port (d.rxStamp c.port c.rx) c.rx c.bytes else d
    let d := c.rest.foldl (fun d x => d.sendHub c.id x.1 x.2 false) d
    d.hubDone c.id c.deliver
  else
    let d := (d.withdraw c).markBad c.id
    let d := c.rest.foldl (fun d _ => d.hubCopy c.id reasonInvalid) d
    d.hubDone c.id false

/-! ### The commands -/

/-- FRAME_RECEIVE: port `p` receives a unit whose timestamp point was at the balls at `t` of the port's replica. The end of a
frame whose header was decided ends that frame. Outside RUN only MGT receives, and no ledger runs. -/
def frameReceive (p : Nat) (u : RxUnit) (t : Nat) (d : Dev) : Dev :=
  let d := d.atPort p t
  match d.cutOf p, u with
  | some c, .frame _ good => d.cutEnd c good
  | _, u =>
    if !d.portUp p then d
    else if d.power ≠ 2 ∧ d.power ≠ 6 then
      match u with
      | .frame b good => if good && p == 16 && decide (60 ≤ b.length) then d.classify p (d.rxStamp p t) t b else d
      | _ => d
    else match u with
      | .frame b good => d.frameIn p b good t
      | .verify => d.verifyPacket p false
      | .respond => d.verifyPacket p true
      | .fragment f n first last good b =>
        match d.fragment p f.val n.val first last good b t with
        | (some w, d) => d.frameIn p w.2 true w.1
        | (none, d) => d

/-- PTP_MESSAGE_RECEIVE: a PTP message reaches the instances of port `p` (R117). -/
def ptpMessageReceive (p : Nat) (m : List Byte) (t : Nat) (d : Dev) : Dev :=
  if d.portUp p then ptpReceive p m t d else d

/-- The copy as the slots' CRC checker sees it: an armed injection slot turns check bits of the first slot (R471). [DEDUCED: log 135] -/
def Dev.slotsSeen (d : Dev) (r p : Nat) (b : List Byte) : List Byte × Dev :=
  if !d.copyHeader r b then (b, d) else
  match imgPlaces (d.activeImage r) with
  | [] => (b, d)
  | (_, l, o) :: _ =>
    match d.fire 16 (2 * r + p) 0 with
    | (none, d) => (b, d)
    | (some m, d) =>
      let at_ := o + l + 8
      (b.take at_ ++ beBytes 2 (beAt b at_ 2 ^^^ (if m % 65536 = 0 then 1 else m % 65536)) ++ b.drop (at_ + 2), d)

/-- RING_COPY_RECEIVE: a copy arrives on a ring port; its slots go to the streams that name them (R214, R217, R252). -/
def ringCopyIn (r p : Nat) (b : List Byte) (good : Bool) (rx tx : Nat) (d : Dev) : Dev :=
  let f := d.fire 17 (2 * r + p) 0
  let s := f.2.slotsSeen r p b
  let c := ringCopyReceive r p b s.1 (good && f.1.isNone) rx tx s.2
  c.1.foldl (fun d x => d.slotTaken x) c.2

/-- PULSE_ARRIVAL: a pulse reaches replica `r`, and Tether's replica of the same port, whose own error is `tether` (R25,
R168). -/
def pulseArrival (r roundTrip : Nat) (diff tether : Int) (d : Dev) : Dev :=
  let d := replicaPulse r roundTrip diff d
  if r < 16 then d.tetherPulse r tether
  else if r = 16 ∨ r > 20 then d
  else d.tetherPulse (r - 1) tether

end Sys2Proof.Machine
end

