-- ==== Sys2Proof/Machine/Spi.lean ====
section
/-! DEFINITION. The sideband SPI target (R519 to R526). -/
namespace Sys2Proof.Machine

/-- One bit of CRC-8 with polynomial 0x07. -/
def crc8Bit (c : Nat) : Nat := if c ≥ 128 then ((c * 2) % 256) ^^^ 7 else c * 2

/-- One byte of CRC-8. -/
def crc8Byte (c : Nat) (b : Byte) : Nat :=
  crc8Bit (crc8Bit (crc8Bit (crc8Bit (crc8Bit (crc8Bit (crc8Bit (crc8Bit (c ^^^ b.toNat))))))))

/-- The CRC word over the preceding words of a frame (R520). -/
def spiCrc (ws : List Nat) : Nat := (ws.flatMap (beBytes 4)).foldl crc8Byte 0xFF

/-- Bytes packed into words, the first byte in bits 31:24, the last word padded with zeros (R520); `n` words. -/
def packWords (b : List Byte) (n : Nat) : List Nat := (List.range n).map (fun i => beNat (padTo 4 (slice b (4 * i) 4)))

/-- `SB_STATUS` (R525). -/
def Dev.sbStatus (d : Dev) : Nat :=
  b2n d.spi.valid * 2 ^ 31 + b2n d.spi.busy * 2 ^ 30 + d.spi.flags % 64 * 2 ^ 24 + d.spi.discards % 256 * 2 ^ 16 + d.power

/-- Flags of `SB_STATUS`, bit 24 + k (R525). -/
def sbRefused : Nat := 0
def sbBadOp : Nat := 1
def sbCrcErr : Nat := 2
def sbExtra : Nat := 3
def sbShort : Nat := 4
def sbFraming : Nat := 5

/-- Set a flag. -/
def Dev.sbFlag (d : Dev) (k : Nat) : Dev := { d with spi := { d.spi with flags := d.spi.flags ||| 2 ^ k } }

/-- A frame is discarded or refused: its flag, and DISCARDS, which wraps. -/
def Dev.sbDiscard (d : Dev) (k : Nat) : Dev :=
  let d := d.sbFlag k
  { d with spi := { d.spi with discards := (d.spi.discards + 1) % 256 } }

/-- DLEN of a command word. -/
def spiDlen (w : Nat) : Nat := bits w 0 11

/-- The frame length in words of a command word; none where it is invalid (R521). -/
def spiLen (w : Nat) : Option Nat :=
  let data := (spiDlen w + 3) / 4
  match bits w 28 4 with
  | 1 => if bits w 11 9 = 0 ∧ spiDlen w ≤ 1024 then some (7 + data) else none
  | 2 => if bits w 11 17 = 0 ∧ spiDlen w ≤ 1024 then some (4 + data) else none
  | 3 => if bits w 6 22 = 0 then some 2 else none
  | _ => none

/-- The request of a REQUEST frame (R521, R522). -/
def spiReq (ws : List Nat) : Req :=
  let w := ws.getD 0 0
  let n := spiDlen w
  { cmd := bits w 24 4, idx := bits (ws.getD 1 0) 16 16, sub := bits (ws.getD 1 0) 8 8, elem := ws.getD 2 0, len := n,
    data := (((ws.drop 6).take ((n + 3) / 4)).flatMap (beBytes 4)).take n, offset := ws.getD 3 0, txn := ws.getD 4 0,
    txid := ws.getD 5 0, boundary := bits w 20 3, shadow := bit w 23, typ := 0 }

/-- The MISO words between word 0 and the CRC word (R522, R523). -/
def Dev.misoBody (d : Dev) (w len : Nat) : List Nat :=
  if bits w 28 4 = 2 then
    let n := spiDlen w
    let head := if d.spi.valid then d.spi.abort * 65536 + 2 ^ 15 + b2n d.spi.replay * 2 ^ 14 + d.spi.data.length % 2048 else 0
    [head, d.spi.txid] ++ packWords (padTo n d.spi.data) (len - 4)
  else List.replicate (len - 2) 0

/-- What the target drives on MISO in a frame of `e` edges: whole words (R520, R524). -/
def Dev.miso (d : Dev) (ws : List Nat) (e : Nat) : List Nat :=
  let st := d.sbStatus
  let full := match spiLen (ws.getD 0 0) with
    | some n => let l := st :: d.misoBody (ws.getD 0 0) n; l ++ [spiCrc l]
    | none => [st]
  let n := e / 32
  full.take n ++ List.replicate (n - full.length) 0

/-- A committed frame (R521 to R523, R526). -/
def Dev.spiCommit (d : Dev) (ws : List Nat) : Dev :=
  match bits (ws.getD 0 0) 28 4 with
  | 1 => d.submit .spi (spiReq ws)
  | 3 => { d with spi := { d.spi with flags := clearBits d.spi.flags (bits (ws.getD 0 0) 0 6) } }
  | _ => d

/-- A frame of the sideband SPI: its MOSI words, and the rising edges counted at the rise of SB_CS_N (R524). -/
def spiFrame (ws : List Nat) (e : Nat) (d : Dev) : Dev :=
  if e == 0 then d else
  let ws := ws.map (· % 4294967296)
  let w := ws.getD 0 0
  let d := d.emit (.miso (d.miso ws e))
  if e < 32 then d.sbDiscard sbFraming
  else match spiLen w with
    | none => d.sbDiscard sbBadOp
    | some n =>
      if e < 32 * n ∧ e % 32 ≠ 0 then d.sbDiscard sbFraming
      else if e < 32 * n then d.sbDiscard sbShort
      else if (padTo4 ws n).getLast? ≠ some (spiCrc (ws.take (n - 1))) then d.sbDiscard sbCrcErr
      else if bits w 28 4 = 1 ∧ d.spi.busy then d.sbDiscard sbRefused
      else
        let d := if 32 * n < e then d.sbFlag sbExtra else d
        d.spiCommit ws
where
  /-- The first `n` words, missing ones as zero. -/
  padTo4 (ws : List Nat) (n : Nat) : List Nat := ws.take n ++ List.replicate (n - ws.length) 0

end Sys2Proof.Machine
end

