-- ==== Sys2Proof/Machine/State.lean ====
section
/-! DEFINITION. The machine: the device and the queue of the commands that wait, and its state after reset. -/
namespace Sys2Proof.Machine
open Sys2Proof

/-- The machine: the commands that wait, first in, first out, whether Ballast power-on reset is asserted (R480: the state OFF of
R481), and the device. [DESIGN CHOICE: log 161] -/
structure State where
  pending : List Instr
  por : Bool
  dev : Dev
deriving DecidableEq, Repr

/-- The device has no condition that stops it with a fault: every fault of the spec is an event that it records and reacts to
(R452). Nothing raises this reason; it is here because the interface asks for one. Safe. [DESIGN CHOICE: log 158] -/
inductive Fault where
  /-- Raised by no command. Safe. -/
  | halted
deriving DecidableEq, Repr

/-- Why the model gives a command no meaning. -/
inductive Refusal where
  /-- A command that has no meaning in the model yet, by its mnemonic. Raised by the dispatcher alone. Safe. -/
  | notModelled (mnemonic : String)
deriving DecidableEq, Repr

/-- The machine after reset: Ballast power-on reset asserted, every part at its reset value, the memories empty, and no command
waiting (R17, R41, R480). [DESIGN CHOICE: log 76, 77] -/
def State.reset : State := ⟨[], true, dev0⟩

end Sys2Proof.Machine
end

