-- ==== Sys2Proof/Machine/Command.lean ====
section
/-! DEFINITION. How a command runs: its effect on the device, the queue of waiting commands left alone. -/
namespace Sys2Proof.Machine

/-- A command takes effect on the device; while Ballast power-on reset is asserted it has none (R480, R481). [DESIGN CHOICE: log 78] -/
def run (s : State) (f : Dev → Dev) : Host.Outcome State Fault Refusal :=
  if s.por then .next s else .next { s with dev := f s.dev }

/-- A pin changes its level. While Ballast power-on reset is asserted the device holds the level alone (`level`) and does nothing
else. -/
def runPin (s : State) (level f : Dev → Dev) : Host.Outcome State Fault Refusal :=
  .next { s with dev := if s.por then level s.dev else f s.dev }

/-- Ballast power-on reset is released (R480): the Ballast domain starts. A second release does nothing. -/
def powerOn (s : State) (f : Dev → Dev) : Host.Outcome State Fault Refusal :=
  if s.por then .next { s with por := false, dev := f s.dev } else .next s

/-- Ballast power-on reset is asserted (R480): everything is cleared but the flash. -/
def powerOff (s : State) : Host.Outcome State Fault Refusal := .next { s with por := true, dev := s.dev.off }

/-- PERST_N has a level. -/
def Dev.perstLevel (low : Bool) (d : Dev) : Dev :=
  { d with host := { d.host with pcie := { d.host.pcie with perst := low } } }

/-- TEST_EN has a level. -/
def Dev.testLevel (high : Bool) (d : Dev) : Dev := { d with pow := { d.pow with testEn := high } }

/-- WAKE_N has a level. -/
def Dev.wakeLevel (low : Bool) (d : Dev) : Dev := { d with pow := { d.pow with wakeN := low } }

end Sys2Proof.Machine
end

