-- ==== Sys2Proof/Machine/CmdArch.lean ====
section
/-! DEFINITION. The commands of architecture: alignment pulses, replicas, die-to-die links, die resets (chapter 01,
R486): one meaning for each row. -/
namespace Sys2Proof.Machine

/-- ALIGNMENT_PULSE (R23): At each whole microsecond of KTIME96 the lease holder emits an alignment pulse, preceded by a
boundary message carrying the time status. -/
def execAlignmentPulse (s : State) : Host.Outcome State Fault Refusal := run s alignmentPulse

/-- PULSE_ARRIVAL (R25): A replica receives an alignment pulse, echoes it, computes its replica error and trims, slews or
steps. -/
def execPulseArrival (r : Fin 25) (roundTrip : Nat) (diff tether : Int) (s : State) : Host.Outcome State Fault Refusal
  :=
  run s (pulseArrival r.val roundTrip diff tether)

/-- REPLICA_PULSE_MISSED (R25): No pulse has arrived 50 ns after the expected boundary, so the replica counts the pulse
as missed. -/
def execReplicaPulseMissed (r : Fin 25) (s : State) : Host.Outcome State Fault Refusal :=
  run s (replicaPulseMissed r.val)

/-- FLIT_CRC_ERROR (R29): A die-to-die receiver finds a bad flit CRC and requests a replay from the sender's replay
buffer. -/
def execFlitCrcError (l : Fin 3) (k : Fin 2) (s : State) : Host.Outcome State Fault Refusal :=
  run s (fun d => d.checked_ 9 (2 * l.val + k.val) (flitCrcError l.val k.val))

/-- LANE_FAILURE (R31): A die-to-die lane fails and is replaced by a spare within 2 µs. -/
def execLaneFailure (l : Fin 3) (k : Fin 2) (s : State) : Host.Outcome State Fault Refusal :=
  run s (laneFailure l.val k.val)

/-- DIE_RESET (R486): A write to object 0x9010:07 resets die C0 or C1, with both regions and the link endpoints of that
die. -/
def execDieReset (p : Path) (txid : Word) (die : Byte) (s : State) : Host.Outcome State Fault Refusal :=
  run s (writeCommand 0x901007 0 1 die.toNat p txid.toNat)

/-- DIE_RESET_COMPLETE (R486): A die C0 or C1 reset completes 5 ms after it began, its link credits are re-initialised
and its regions come back. -/
def execDieResetComplete (c : Fin 2) (s : State) : Host.Outcome State Fault Refusal :=
  run s (dieResetComplete (c.val + 1))

end Sys2Proof.Machine
end

