-- ==== Sys2Proof/Machine/CmdEclipse.lean ====
section
/-! DEFINITION. The commands of the Eclipse (chapter 06): one meaning for each row. -/
namespace Sys2Proof.Machine

/-- RECOVERY_RESET_TIMEOUT (R183): A recovery function's reset timer expires and sets take_any. -/
def execRecoveryResetTimeout (h : BitVec 16) (s : State) : Host.Outcome State Fault Refusal :=
  run s (recoveryResetTimeout h.toNat)

/-- RECOVERY_RESET (R183): A reset command in object 0x3110:0E resets a recovery function. -/
def execRecoveryReset (p : Path) (txid : Word) (h : BitVec 16) (s : State) : Host.Outcome State Fault Refusal :=
  run s (writeCommand 0x31100E h.toNat 1 1 p txid.toNat)

/-- LATENT_TEST_PERIOD (R186): At the end of a latent test period the difference is checked against the limit. -/
def execLatentTestPeriod (h : BitVec 16) (s : State) : Host.Outcome State Fault Refusal :=
  run s (latentTestPeriod h.toNat)

/-- LATENT_RESET_PERIOD (R186): At the end of a latent reset period the period counts restart. -/
def execLatentResetPeriod (h : BitVec 16) (s : State) : Host.Outcome State Fault Refusal :=
  run s (latentResetPeriod h.toNat)

/-- NODE_FORGET (R188): A node entry not heard for the node forget time is removed. -/
def execNodeForget (i : BitVec 14) (s : State) : Host.Outcome State Fault Refusal := run s (nodeForget i.toNat)

/-- SUPERVISION_FRAME_SEND (R187): A PRP or HSR pair sends its supervision frame. -/
def execSupervisionFrameSend (k : Fin 8) (s : State) : Host.Outcome State Fault Refusal :=
  run s (supervisionFrameSend k.val)

/-- LIFE_CHECK (R192): Three LifeCheckIntervals pass with one LAN silent, raising LAN A silent or LAN B silent. -/
def execLifeCheck (k : Fin 8) (lan : Fin 2) (s : State) : Host.Outcome State Fault Refusal := run s (lifeCheck k.val lan)

/-- GENERATION_RESET (R195): A reset of a generation function through object 0x3120:09 starts its restart silence. -/
def execGenerationReset (p : Path) (txid : Word) (g : BitVec 13) (s : State) : Host.Outcome State Fault Refusal :=
  run s (writeCommand 0x312009 g.toNat 1 1 p txid.toNat)

/-- RESTART_SILENCE_END (R195): The restart silence passes, and the generated stream resumes sending. -/
def execRestartSilenceEnd (g : BitVec 13) (s : State) : Host.Outcome State Fault Refusal :=
  run s (restartSilenceEnd g.toNat)

/-- SINGLE_PATH_END (R191): The duration of a single-path take ends. -/
def execSinglePathEnd (scope : SingleScope) (s : State) : Host.Outcome State Fault Refusal := run s (singlePathEnd scope)

/-- ENTRY_FORGET_TIME_EXPIRY (R188): A node entry's history goes unheard for the entry forget time, which acts as its
reset timeout and sets take_any for that history. -/
def execEntryForgetTimeExpiry (i : BitVec 14) (k : Fin 3) (s : State) : Host.Outcome State Fault Refusal :=
  run s (entryForget i.toNat k)

end Sys2Proof.Machine
end

