-- ==== Sys2Proof/Machine/Kernel.lean ====
section
/-! DEFINITION. The 43 instructions of a signal engine (R272 to R284, R292, R295): registers, lanes, issue and latency, data
accesses, moves, results. -/
namespace Sys2Proof.Machine

/-! ### Registers and lanes (R272, R273) -/

/-- A scalar register; S0 reads as zero. -/
def Engine.getS (x : Engine) (r : Nat) : Nat := if r = 0 then 0 else tget 0 x.s r

/-- A vector register. -/
def Engine.getV (x : Engine) (r : Nat) : Nat := tget 0 x.v r

/-- Write a scalar register, ready at a cycle; a write of S0 is discarded. -/
def Engine.setS (x : Engine) (r val at_ : Nat) : Engine :=
  if r = 0 then x else { x with s := tput 0 x.s r (val % 2 ^ 32), sAt := tput 0 x.sAt r at_ }

/-- Write a vector register, ready at a cycle. -/
def Engine.setV (x : Engine) (r val at_ : Nat) : Engine :=
  { x with v := tput 0 x.v r (val % 2 ^ 256), vAt := tput 0 x.vAt r at_ }

/-- Lane `j` of `w` bits. -/
def laneOf (w v j : Nat) : Nat := bits v (w * j) w

/-- Put lanes of `w` bits together, lane 0 lowest. -/
def ofLanes (w : Nat) : List Nat → Nat
  | [] => 0
  | x :: t => x % 2 ^ w + 2 ^ w * ofLanes w t

/-- A lane operation: value and floating-point flags from three operands. -/
abbrev Lane := Nat → Nat → Nat → Nat × Nat

/-- Apply a lane operation to `n` lanes of `w` bits. -/
def mapLanes (w n : Nat) (f : Lane) (a b c : Nat) : Nat × Nat :=
  let r := (List.range n).map (fun j => f (laneOf w a j) (laneOf w b j) (laneOf w c j))
  (ofLanes w (r.map (·.1)), r.foldl (fun x y => x ||| y.2) 0)

/-- A 16-bit result, saturated. -/
def sat16 (x : Int) : Nat := ofInt 16 (maxInt (-32768) (minInt 32767 x))

/-! ### Lane operations (R274, R282) -/

def laneAdd : Lane := fun a b _ => ((a + b) % 2 ^ 32, 0)
def laneSub : Lane := fun a b _ => ((a + (2 ^ 32 - b % 2 ^ 32)) % 2 ^ 32, 0)
def laneMul : Lane := fun a b _ => (a * b % 2 ^ 32, 0)
def laneAnd : Lane := fun a b _ => (a &&& b, 0)
def laneOr : Lane := fun a b _ => (a ||| b, 0)
def laneXor : Lane := fun a b _ => (a ^^^ b, 0)
def laneShl : Lane := fun a b _ => ((a <<< (b % 32)) % 2 ^ 32, 0)
def laneShr : Lane := fun a b _ => (a >>> (b % 32), 0)
def laneSra : Lane := fun a b _ => (ofInt 32 (toInt 32 a / (2 ^ (b % 32) : Nat)), 0)

/-- Packed 16-bit operations. -/
def packAdd : Lane := fun a b _ => (sat16 (toInt 16 a + toInt 16 b), 0)
def packSub : Lane := fun a b _ => (sat16 (toInt 16 a - toInt 16 b), 0)
def packMul : Lane := fun a b _ => (sat16 (toInt 16 a * toInt 16 b / 32768), 0)
def packAnd : Lane := fun a b _ => (a &&& b, 0)
def packOr : Lane := fun a b _ => (a ||| b, 0)
def packXor : Lane := fun a b _ => (a ^^^ b, 0)
def packShl : Lane := fun a b _ => ((a <<< (b % 16)) % 2 ^ 16, 0)
def packShr : Lane := fun a b _ => (a >>> (b % 16), 0)
def packSra : Lane := fun a b _ => (ofInt 16 (toInt 16 a / (2 ^ (b % 16) : Nat)), 0)

def laneFadd : Lane := fun a b _ => fAdd a b
def laneFsub : Lane := fun a b _ => fSub a b
def laneFmul : Lane := fun a b _ => fMul a b
def laneFma : Lane := fun a b c => fMadd a b c
def laneFdiv : Lane := fun a b _ => fDiv a b
def laneFsqrt : Lane := fun a _ _ => fSqrt a
def laneFmax : Lane := fun a b _ => fMaxMin true a b
def laneFmin : Lane := fun a b _ => fMaxMin false a b
def laneFabs : Lane := fun a _ _ => fAbs a
def laneVsel : Lane := fun a b c => (if c ≠ 0 then a else b, 0)

/-- FCMP: 1, or all ones in a vector lane, where the relation holds (R283). -/
def laneFcmp (fn : Nat) (vec : Bool) : Lane := fun a b _ =>
  let r := fCmp fn a b
  (if r.1 then (if vec then 0xFFFFFFFF else 1) else 0, r.2)

/-- FCVT 0 to 2 (R283). -/
def laneFcvt (fn : Nat) : Lane := fun a _ _ =>
  if fn = 0 then intToF (toInt 32 a)
  else let r := fToInt 32 (fn == 1) a; (ofInt 32 r.1, r.2)

/-- FCVT 3 and 4: eight packed lanes from lane `lo` on, to binary32 (R283). -/
def unpackLanes (lo v : Nat) : Nat :=
  ofLanes 32 ((List.range 8).map (fun j => (intToF (toInt 16 (laneOf 16 v (lo + j)))).1))

/-- FCVT 5: the lanes of two vectors to sixteen packed lanes (R283). -/
def packLanes (a b : Nat) : Nat × Nat :=
  let r := ((List.range 8).map (fun j => fToInt 16 true (laneOf 32 a j)))
    ++ ((List.range 8).map (fun j => fToInt 16 true (laneOf 32 b j)))
  (ofLanes 16 (r.map (fun x => ofInt 16 x.1)), r.foldl (fun x y => x ||| y.2) 0)

/-- VSUM's fixed order (R282). -/
def sumLanes (v : Nat) : Nat × Nat :=
  let l := fun j => laneOf 32 v j
  let add := fun (x y : Nat × Nat) => let r := fAdd x.1 y.1; (r.1, r.2 ||| x.2 ||| y.2)
  let p := fun i => add (l i, 0) (l (i + 1), 0)
  add (add (p 0) (p 2)) (add (p 4) (p 6))

/-! ### Issue (R271, R278, R281, R284) -/

/-- What an instruction works on: the physical engine, its number, the image it runs, its slot, and the word's fields. -/
structure Run where
  f : Nat
  x : Engine
  l : Loaded
  slot : Nat
  useOld : Bool
  i : Ins
deriving DecidableEq, Repr

/-- The instruction that engine `f` would issue next. -/
def Dev.fetch (d : Dev) (f : Nat) : Option Run :=
  let x := d.engine f
  match x.act with
  | none => none
  | some a =>
    match (if x.useOld then (d.kslot a.slot).old else (d.kslot a.slot).cur) with
    | none => none
    | some l => some ⟨f, x, l, a.slot, x.useOld, insOf (tget 0 l.code x.pc)⟩

/-- The cycle at which the sources named are ready: pairs of (vector, register). -/
def Engine.ready (x : Engine) (rs : List (Bool × Nat)) : Nat :=
  rs.foldl (fun m r =>
    let c := if r.1 then tget 0 x.vAt r.2 else if r.2 = 0 then 0 else tget 0 x.sAt r.2
    if c > m then c else m) x.cyc

/-- Issue the instruction of code `op` on engine `f`: nothing where the engine does not stand before such a word; a code
address fault outside the slot's code; an illegal word is a hardware fault; past WCET the watchdog acts. `src` names the
sources; `body` gets the issue cycle. -/
def Dev.issue (d : Dev) (f op : Nat) (src : Ins → List (Bool × Nat)) (body : Run → Nat → Dev → Dev) : Dev :=
  if (d.engine f).state ≠ 0 then d else
  match d.fetch f with
  | none => d
  | some r =>
    if r.x.pc ≥ ikCodeLen r.l.image / 4 then d.kernelFault f 5
    else if !legal (tget 0 r.l.code r.x.pc) then d.engineFault f 4
    else if r.i.op ≠ op then d
    else
      let t := r.x.ready (src r.i)
      if t ≥ ikWcet r.l.image + 1 then watchdog f d else body r t d

/-- The engine goes on with the next instruction after `n` cycles of issue from cycle `t`. -/
def Engine.next (x : Engine) (t n : Nat) : Engine := { x with pc := x.pc + 1, cyc := t + n }

/-- Sources of a register-form word that uses a, b and c as V selects. -/
def srcA (i : Ins) : List (Bool × Nat) := [(i.v, i.a)]
def srcAB (i : Ins) : List (Bool × Nat) := [(i.v, i.a), (i.v, i.b)]
def srcABC (i : Ins) : List (Bool × Nat) := [(i.v, i.a), (i.v, i.b), (i.v, i.c)]

/-- The value and flags of a register-form operation: per lane with V, per packed lane with P, else scalar. -/
def Run.value (r : Run) (lane packed : Lane) : Nat × Nat :=
  let i := r.i
  if i.v then
    let a := r.x.getV i.a
    let b := r.x.getV i.b
    let c := r.x.getV i.c
    if i.p then mapLanes 16 16 packed a b c else mapLanes 32 8 lane a b c
  else lane (r.x.getS i.a) (r.x.getS i.b) (r.x.getS i.c)

/-- Write the result of a register-form operation to d, with its flags. -/
def Run.result (r : Run) (vec : Bool) (val : Nat × Nat) (t issueCycles latency : Nat) : Engine :=
  let x := if vec then r.x.setV r.i.d val.1 (t + latency) else r.x.setS r.i.d val.1 (t + latency)
  ({ x with flags := x.flags ||| val.2 } : Engine).next t issueCycles

/-- One register-form operation: its code, sources, issue time, latency and lane functions. -/
def Dev.regOp (d : Dev) (f op : Nat) (src : Ins → List (Bool × Nat)) (issueCycles latency : Nat) (lane packed : Ins → Lane) : Dev :=
  d.issue f op src (fun r t d =>
    d.setEngine f (r.result r.i.v (r.value (lane r.i) (packed r.i)) t issueCycles latency))

/-- A register-form operation without a packed mode. -/
def Dev.laneOp (d : Dev) (f op : Nat) (src : Ins → List (Bool × Nat)) (issueCycles latency : Nat) (lane : Lane) : Dev :=
  d.regOp f op src issueCycles latency (fun _ => lane) (fun _ => lane)

/-- An immediate operation on scalars. -/
def Dev.immOp (d : Dev) (f op : Nat) (g : Ins → Nat → Nat) : Dev :=
  d.issue f op (fun i => [(false, i.a)]) (fun r t d =>
    d.setEngine f ((r.x.setS r.i.d (g r.i (r.x.getS r.i.a)) (t + 1)).next t 1))

/-! ### Data memory (R275, R276) -/

/-- The data address Sa + IMM16. -/
def Run.addr (r : Run) : Nat := ofInt 32 ((r.x.getS r.i.a : Int) + r.i.simm)

/-- May `n` bytes at an address be read, or written (R276)? -/
def dataOk (l : Loaded) (addr n align : Nat) (write : Bool) : Bool :=
  decide (addr % align = 0) && decide (addr + n ≤ ikRegion l.image) && (!write || decide (ikWork l.image ≤ addr))

/-- A data access: the fault "data address" where it breaks a rule, else what it does. -/
def Dev.access (d : Dev) (f : Nat) (l : Loaded) (addr n align : Nat) (write : Bool) (k : Dev → Dev) : Dev :=
  if dataOk l addr n align write then k d else d.kernelFault f 6

/-- A 256-bit number as eight words from a word index on, and back. -/
def vecWords (t : Tab Nat) (addr : Nat) : Nat := ofLanes 32 (tgetAll 0 t (addr / 4) 8)
def putVec (t : Tab Nat) (addr v : Nat) : Tab Nat := tputAll 0 t (addr / 4) ((List.range 8).map (laneOf 32 v))

/-- Store into the data region of the running image. -/
def Dev.storeData (d : Dev) (r : Run) (data : Tab Nat) : Dev := d.setLoaded r.slot r.useOld { r.l with data := data }

/-! ### Instructions -/

def nopOp (f : Nat) (d : Dev) : Dev := d.issue f 0x00 (fun _ => []) (fun r t d => d.setEngine f (r.x.next t 1))
def addOp (f : Nat) (d : Dev) : Dev := d.regOp f 0x01 srcAB 1 1 (fun _ => laneAdd) (fun _ => packAdd)
def subOp (f : Nat) (d : Dev) : Dev := d.regOp f 0x02 srcAB 1 1 (fun _ => laneSub) (fun _ => packSub)
def mulOp (f : Nat) (d : Dev) : Dev := d.regOp f 0x03 srcAB 1 3 (fun _ => laneMul) (fun _ => packMul)
def andOp (f : Nat) (d : Dev) : Dev := d.regOp f 0x04 srcAB 1 1 (fun _ => laneAnd) (fun _ => packAnd)
def orOp (f : Nat) (d : Dev) : Dev := d.regOp f 0x05 srcAB 1 1 (fun _ => laneOr) (fun _ => packOr)
def xorOp (f : Nat) (d : Dev) : Dev := d.regOp f 0x06 srcAB 1 1 (fun _ => laneXor) (fun _ => packXor)
def shlOp (f : Nat) (d : Dev) : Dev := d.regOp f 0x07 srcAB 1 1 (fun _ => laneShl) (fun _ => packShl)
def shrOp (f : Nat) (d : Dev) : Dev := d.regOp f 0x08 srcAB 1 1 (fun _ => laneShr) (fun _ => packShr)
def sraOp (f : Nat) (d : Dev) : Dev := d.regOp f 0x09 srcAB 1 1 (fun _ => laneSra) (fun _ => packSra)
def addiOp (f : Nat) (d : Dev) : Dev := d.immOp f 0x0A (fun i a => ofInt 32 ((a : Int) + i.simm))
def oriOp (f : Nat) (d : Dev) : Dev := d.immOp f 0x0B (fun i a => a ||| i.imm)
def luiOp (f : Nat) (d : Dev) : Dev := d.immOp f 0x0C (fun i _ => i.imm * 65536)
def faddOp (f : Nat) (d : Dev) : Dev := d.laneOp f 0x10 srcAB 1 4 laneFadd
def fsubOp (f : Nat) (d : Dev) : Dev := d.laneOp f 0x11 srcAB 1 4 laneFsub
def fmulOp (f : Nat) (d : Dev) : Dev := d.laneOp f 0x12 srcAB 1 4 laneFmul
def fmaOp (f : Nat) (d : Dev) : Dev := d.laneOp f 0x13 srcABC 1 4 laneFma
def fdivOp (f : Nat) (d : Dev) : Dev := d.laneOp f 0x14 srcAB 8 8 laneFdiv
def fsqrtOp (f : Nat) (d : Dev) : Dev := d.laneOp f 0x15 srcA 8 8 laneFsqrt
def fmaxOp (f : Nat) (d : Dev) : Dev := d.laneOp f 0x16 srcAB 1 2 laneFmax
def fminOp (f : Nat) (d : Dev) : Dev := d.laneOp f 0x17 srcAB 1 2 laneFmin
def fabsOp (f : Nat) (d : Dev) : Dev := d.laneOp f 0x18 srcA 1 2 laneFabs
def fcmpOp (f : Nat) (d : Dev) : Dev := d.regOp f 0x19 srcAB 1 2 (fun i => laneFcmp i.fn i.v) (fun i => laneFcmp i.fn i.v)

/-- FCVT (R283). -/
def fcvtOp (f : Nat) (d : Dev) : Dev :=
  d.issue f 0x1A (fun i => if i.fn = 5 then srcAB i else srcA i) (fun r t d =>
    let val := if r.i.fn = 3 then (unpackLanes 0 (r.x.getV r.i.a), 0)
      else if r.i.fn = 4 then (unpackLanes 8 (r.x.getV r.i.a), 0)
      else if r.i.fn = 5 then packLanes (r.x.getV r.i.a) (r.x.getV r.i.b)
      else r.value (laneFcvt r.i.fn) (laneFcvt r.i.fn)
    d.setEngine f (r.result r.i.v val t 1 4))

def vselOp (f : Nat) (d : Dev) : Dev := d.laneOp f 0x20 srcABC 1 1 laneVsel

/-- VBCAST: every lane of Vd becomes Sa. -/
def vbcastOp (f : Nat) (d : Dev) : Dev :=
  d.issue f 0x21 (fun i => [(false, i.a)]) (fun r t d =>
    d.setEngine f (r.result true (ofLanes 32 (List.replicate 8 (r.x.getS r.i.a)), 0) t 1 1))

/-- VEXT: Sd becomes lane FN of Va. -/
def vextOp (f : Nat) (d : Dev) : Dev :=
  d.issue f 0x22 (fun i => [(true, i.a)]) (fun r t d =>
    d.setEngine f (r.result false (laneOf 32 (r.x.getV r.i.a) r.i.fn, 0) t 1 2))

/-- VSUM: Sd becomes the sum of Va's lanes in the fixed order. [DEDUCED: log 52] -/
def vsumOp (f : Nat) (d : Dev) : Dev :=
  d.issue f 0x23 (fun i => [(true, i.a)]) (fun r t d =>
    d.setEngine f (r.result false (sumLanes (r.x.getV r.i.a)) t 1 6))

/-- LD: Sd becomes the word at Sa + IMM16. -/
def ldOp (f : Nat) (d : Dev) : Dev :=
  d.issue f 0x28 (fun i => [(false, i.a)]) (fun r t d =>
    d.access f r.l r.addr 4 4 false (fun d =>
      d.setEngine f ((r.x.setS r.i.d (tget 0 r.l.data (r.addr / 4)) (t + 2)).next t 1)))

/-- ST: the word at Sa + IMM16 becomes Sd. -/
def stOp (f : Nat) (d : Dev) : Dev :=
  d.issue f 0x29 (fun i => [(false, i.a), (false, i.d)]) (fun r t d =>
    d.access f r.l r.addr 4 4 true (fun d =>
      (d.storeData r (tput 0 r.l.data (r.addr / 4) (r.x.getS r.i.d))).setEngine f (r.x.next t 1)))

/-- VLD: Vd becomes the 32 bytes at Sa + IMM16. -/
def vldOp (f : Nat) (d : Dev) : Dev :=
  d.issue f 0x2A (fun i => [(false, i.a)]) (fun r t d =>
    d.access f r.l r.addr 32 32 false (fun d =>
      d.setEngine f ((r.x.setV r.i.d (vecWords r.l.data r.addr) (t + 2)).next t 1)))

/-- VST: the 32 bytes at Sa + IMM16 become Vd. -/
def vstOp (f : Nat) (d : Dev) : Dev :=
  d.issue f 0x2B (fun i => [(false, i.a), (true, i.d)]) (fun r t d =>
    d.access f r.l r.addr 32 32 true (fun d =>
      (d.storeData r (putVec r.l.data r.addr (r.x.getV r.i.d))).setEngine f (r.x.next t 1)))

/-! ### Moves (R279, R282, R284) -/

/-- The cycles within which an XFER of `n` bytes completes. -/
def xferCycles (n : Nat) : Nat := 16 + 8 * n / 32

/-- XFER: checked, then outstanding; a fifth move waits at issue. A length outside 32 to 4,096 or no multiple of 32 breaks
the data address rule. [DEDUCED: log 48] -/
def xferOp (f : Nat) (d : Dev) : Dev :=
  d.issue f 0x2C (fun i => [(false, i.a), (false, i.b), (false, i.c)]) (fun r t d =>
    let a := r.x.getS r.i.a
    let b := r.x.getS r.i.b
    let n := r.x.getS r.i.c
    if r.x.moves.length ≥ 4 then d
    else if n < 32 ∨ n > 4096 ∨ n % 32 ≠ 0 then d.kernelFault f 6
    else d.access f r.l a n 32 (r.i.fn == 1) (fun d =>
      if b + n > 128 * ikShared r.l.image ∨ b % 32 ≠ 0 then d.kernelFault f 7
      else
        let t := if r.x.moved > t then r.x.moved else t
        d.setEngine f ({ r.x with moves := r.x.moves ++ [Move.xfer (t + xferCycles n) a b n (r.i.fn == 1)] }.next t 1)))

/-- SGET: 32 bytes at Sa are to become the view of signal Sb. [DEDUCED: log 49] -/
def sgetOp (f : Nat) (d : Dev) : Dev :=
  d.issue f 0x2E (fun i => [(false, i.a), (false, i.b)]) (fun r t d =>
    let a := r.x.getS r.i.a
    let sig := r.x.getS r.i.b % 2 ^ 25
    if r.x.moves.length ≥ 4 then d
    else d.access f r.l a 32 32 true (fun d =>
      let t := if r.x.moved > t then r.x.moved else t
      let n := if regionOfSig sig = f / 32 then 150 else 400
      d.setEngine f ({ r.x with moves := r.x.moves ++ [Move.sget (t + n) a sig r.i.fn] }.next t 1)))

/-- The instant of an engine's cycle. -/
def Engine.timeAt (x : Engine) (t : Nat) : Nat := x.start + ns t

/-- Carry out a move: copy between data region and shared blocks, or write the view. -/
def Dev.doMove (d : Dev) (f : Nat) (m : Move) : Dev :=
  match d.fetch f with
  | none => d
  | some r =>
    match m with
    | .xfer _ a b n fromShared =>
      let l := if fromShared then { r.l with data := tputAll 0 r.l.data (a / 4) (tgetAll 0 r.l.shared (b / 4) (n / 4)) }
        else { r.l with shared := tputAll 0 r.l.shared (b / 4) (tgetAll 0 r.l.data (a / 4) (n / 4)) }
      d.setLoaded r.slot r.useOld l
    | .sget _ a sig fn =>
      let v := d.view sig (if fn = 0 then d.tab.pub else d.tab.prev) fn
      d.setLoaded r.slot r.useOld { r.l with data := putWords r.l.data a v 8 }

/-- Is a move an XFER? -/
def Move.isXfer : Move → Bool
  | .xfer _ _ _ _ _ => true
  | .sget _ _ _ _ => false

/-- The oldest outstanding move of a kind completes, `early` cycles before its bound where that is not before its issue. -/
def Dev.moveDone (d : Dev) (f early : Nat) (xfer : Bool) : Dev :=
  let x := d.engine f
  match x.moves.find? (fun m => m.isXfer == xfer) with
  | none => d
  | some m =>
    let at_ := match m with
      | .xfer c _ _ n _ => c - (if early < xferCycles n then early else xferCycles n - 1)
      | .sget c _ _ _ => c - (if early < 150 then early else 149)
    let d := d.doMove f m
    d.setEngine f { x with moves := x.moves.erase m, moved := if at_ > x.moved then at_ else x.moved }

/-- XFER_COMPLETE and SGET_COMPLETE. -/
def xferComplete (f early : Nat) (d : Dev) : Dev := d.moveDone f early true
def sgetComplete (f early : Nat) (d : Dev) : Dev := d.moveDone f early false

/-- XWAIT: goes on once no move is outstanding. -/
def xwaitOp (f : Nat) (d : Dev) : Dev :=
  d.issue f 0x2D (fun _ => []) (fun r t d =>
    if r.x.moves.isEmpty then d.setEngine f (r.x.next (if r.x.moved > t then r.x.moved else t) 1) else d)

/-! ### Branches (R280, R282) -/

/-- A branch on a relation of two scalars; taken, it costs one cycle more. -/
def Dev.branch (d : Dev) (f op : Nat) (rel : Nat → Nat → Bool) : Dev :=
  d.issue f op (fun i => [(false, i.d), (false, i.a)]) (fun r t d =>
    if rel (r.x.getS r.i.d) (r.x.getS r.i.a) then
      let to_ := (r.x.pc : Int) + 1 + r.i.simm
      d.setEngine f { r.x with pc := if to_ < 0 then 2 ^ 32 else to_.toNat, cyc := t + 2 }
    else d.setEngine f (r.x.next t 1))

def beqOp (f : Nat) (d : Dev) : Dev := d.branch f 0x30 (fun a b => a == b)
def bneOp (f : Nat) (d : Dev) : Dev := d.branch f 0x31 (fun a b => a != b)
def bltOp (f : Nat) (d : Dev) : Dev := d.branch f 0x32 (fun a b => decide (toInt 32 a < toInt 32 b))
def bgeOp (f : Nat) (d : Dev) : Dev := d.branch f 0x33 (fun a b => decide (toInt 32 b ≤ toInt 32 a))

/-! ### Time, results, events, end (R283, R292, R295) -/

/-- The cluster time tap at a cycle: the engine's time by the region's replica. -/
def Dev.tapTime (d : Dev) (f : Nat) (x : Engine) (t : Nat) : Nat :=
  ((x.timeAt t : Int) + (d.rep (21 + f / 32)).err).toNat

/-- TIME: NS of a fresh reading, latching the rest, or a latched field. -/
def timeOp (f : Nat) (d : Dev) : Dev :=
  d.issue f 0x38 (fun _ => []) (fun r t d =>
    let now := d.tapTime f r.x t
    if r.i.fn = 0 then
      let x := r.x.setS r.i.d (now / 65536 % 1000000000) (t + 2)
      d.setEngine f (({ x with latchSec := now / sec 1 % 2 ^ 32, latchFrac := now % 65536 } : Engine).next t 1)
    else d.setEngine f ((r.x.setS r.i.d (if r.i.fn = 1 then r.x.latchSec else r.x.latchFrac) (t + 2)).next t 1))

/-- SPUT: the 32 bytes at Sa enter the update buffer; one beyond MAX_UPDATES raises "update overflow". -/
def sputOp (f : Nat) (d : Dev) : Dev :=
  d.issue f 0x39 (fun i => [(false, i.a)]) (fun r t d =>
    let a := r.x.getS r.i.a
    d.access f r.l a 32 32 false (fun d =>
      if r.x.upd.length ≥ ikMaxUpd r.l.image then d.kernelFault f 9
      else d.setEngine f ({ r.x with upd := r.x.upd ++ [getWords r.l.data a 8] }.next t 1)))

/-- KEVT: source 223 with code IMM16, detail Sa and the time of the issue cycle; beyond four it is only counted. -/
def kevtOp (f : Nat) (d : Dev) : Dev :=
  d.issue f 0x3A (fun i => [(false, i.a)]) (fun r t d =>
    let d := d.setEngine f ({ r.x with kevts := r.x.kevts + 1 }.next t 1)
    if r.x.kevts ≥ 4 then d.inc 0x50000A (r.slot / 16)
    else d.raiseAt (d.tapTime f r.x t) 223 r.slot r.i.imm (r.x.getS r.i.a))

/-- END: outstanding moves complete, the activation ends at the issue cycle, and its records go to the region as one unit
unless it is a WARMUP one (R289, R292, R294). [DESIGN CHOICE: log 51] -/
def endOp (f : Nat) (d : Dev) : Dev :=
  d.issue f 0x3B (fun _ => []) (fun r t d =>
    match r.x.act with
    | none => d
    | some a =>
      let d := r.x.moves.foldl (fun d m => d.doMove f m) d
      let t := if r.x.moves.isEmpty && r.x.moved > t then r.x.moved else t
      let d := d.at_ (r.x.timeAt t)
      let l := a.slot / 16
      let d := (d.inc 0x500004 l).add 0x500009 l (t + 1)
      let d := if r.x.flags ≠ 0 then (d.inc 0x50000A l).raise 219 l 0 0 else d
      let d := if d.now > a.deadline then ((d.inc 0x500006 l).inc 0x53000B a.binding).raise 218 l 0 0 else d
      let d := (d.setEngine f { r.x with act := none, upd := [], moves := [], done := r.x.done + 1 }).put 0x500001 l 0
      if bit a.flags 1 then d
      else
        let d := d.setBind a.binding { d.bind_ a.binding with committed := some a.time }
        let g := f / 32
        if r.x.upd.isEmpty then d
        else d.setRegion g { d.region g with units := (d.region g).units ++ [⟨2 ^ 30 + a.slot, r.x.upd⟩] })

end Sys2Proof.Machine
end

