-- ==== Sys2Proof/Machine/CmdEngine.lean ====
section
/-! DEFINITION. The commands of the signal engines and their instructions (chapter 09): one meaning for each row. -/
namespace Sys2Proof.Machine

/-- TIMER_TRIGGER (R285): A timer binding raises an activation at its TAI instant. -/
def execTimerTrigger (b : BitVec 16) (s : State) : Host.Outcome State Fault Refusal := run s (timerTrigger b.toNat)

/-- ACTIVATION_DISPATCH (R288): An idle engine's scheduler selects the earliest-deadline activation and dispatches it. -/
def execActivationDispatch (e : Fin 128) (s : State) : Host.Outcome State Fault Refusal :=
  run s (activationDispatch e.val)

/-- NOP (R282): The engine executes NOP. -/
def execNop (e : Fin 128) (s : State) : Host.Outcome State Fault Refusal := run s (nopOp e.val)

/-- ADD (R282): The engine executes ADD. -/
def execAdd (e : Fin 128) (s : State) : Host.Outcome State Fault Refusal := run s (addOp e.val)

/-- SUB (R282): The engine executes SUB. -/
def execSub (e : Fin 128) (s : State) : Host.Outcome State Fault Refusal := run s (subOp e.val)

/-- MUL (R282): The engine executes MUL. -/
def execMul (e : Fin 128) (s : State) : Host.Outcome State Fault Refusal := run s (mulOp e.val)

/-- AND (R282): The engine executes AND. -/
def execAnd (e : Fin 128) (s : State) : Host.Outcome State Fault Refusal := run s (andOp e.val)

/-- OR (R282): The engine executes OR. -/
def execOr (e : Fin 128) (s : State) : Host.Outcome State Fault Refusal := run s (orOp e.val)

/-- XOR (R282): The engine executes XOR. -/
def execXor (e : Fin 128) (s : State) : Host.Outcome State Fault Refusal := run s (xorOp e.val)

/-- SHL (R282): The engine executes SHL. -/
def execShl (e : Fin 128) (s : State) : Host.Outcome State Fault Refusal := run s (shlOp e.val)

/-- SHR (R282): The engine executes SHR. -/
def execShr (e : Fin 128) (s : State) : Host.Outcome State Fault Refusal := run s (shrOp e.val)

/-- SRA (R282): The engine executes SRA. -/
def execSra (e : Fin 128) (s : State) : Host.Outcome State Fault Refusal := run s (sraOp e.val)

/-- ADDI (R282): The engine executes ADDI. -/
def execAddi (e : Fin 128) (s : State) : Host.Outcome State Fault Refusal := run s (addiOp e.val)

/-- ORI (R282): The engine executes ORI. -/
def execOri (e : Fin 128) (s : State) : Host.Outcome State Fault Refusal := run s (oriOp e.val)

/-- LUI (R282): The engine executes LUI. -/
def execLui (e : Fin 128) (s : State) : Host.Outcome State Fault Refusal := run s (luiOp e.val)

/-- FADD (R282): The engine executes FADD. -/
def execFadd (e : Fin 128) (s : State) : Host.Outcome State Fault Refusal := run s (faddOp e.val)

/-- FSUB (R282): The engine executes FSUB. -/
def execFsub (e : Fin 128) (s : State) : Host.Outcome State Fault Refusal := run s (fsubOp e.val)

/-- FMUL (R282): The engine executes FMUL. -/
def execFmul (e : Fin 128) (s : State) : Host.Outcome State Fault Refusal := run s (fmulOp e.val)

/-- FMA (R282): The engine executes FMA. -/
def execFma (e : Fin 128) (s : State) : Host.Outcome State Fault Refusal := run s (fmaOp e.val)

/-- FDIV (R282): The engine executes FDIV. -/
def execFdiv (e : Fin 128) (s : State) : Host.Outcome State Fault Refusal := run s (fdivOp e.val)

/-- FSQRT (R282): The engine executes FSQRT. -/
def execFsqrt (e : Fin 128) (s : State) : Host.Outcome State Fault Refusal := run s (fsqrtOp e.val)

/-- FMAX (R282): The engine executes FMAX. -/
def execFmax (e : Fin 128) (s : State) : Host.Outcome State Fault Refusal := run s (fmaxOp e.val)

/-- FMIN (R282): The engine executes FMIN. -/
def execFmin (e : Fin 128) (s : State) : Host.Outcome State Fault Refusal := run s (fminOp e.val)

/-- FABS (R282): The engine executes FABS. -/
def execFabs (e : Fin 128) (s : State) : Host.Outcome State Fault Refusal := run s (fabsOp e.val)

/-- FCMP (R282): The engine executes FCMP. -/
def execFcmp (e : Fin 128) (s : State) : Host.Outcome State Fault Refusal := run s (fcmpOp e.val)

/-- FCVT (R283): The engine executes FCVT with the conversion chosen by FN. -/
def execFcvt (e : Fin 128) (s : State) : Host.Outcome State Fault Refusal := run s (fcvtOp e.val)

/-- VSEL (R282): The engine executes VSEL. -/
def execVsel (e : Fin 128) (s : State) : Host.Outcome State Fault Refusal := run s (vselOp e.val)

/-- VBCAST (R282): The engine executes VBCAST. -/
def execVbcast (e : Fin 128) (s : State) : Host.Outcome State Fault Refusal := run s (vbcastOp e.val)

/-- VEXT (R282): The engine executes VEXT. -/
def execVext (e : Fin 128) (s : State) : Host.Outcome State Fault Refusal := run s (vextOp e.val)

/-- VSUM (R282): The engine executes VSUM. -/
def execVsum (e : Fin 128) (s : State) : Host.Outcome State Fault Refusal := run s (vsumOp e.val)

/-- LD (R276): The engine executes LD, with its address checked. -/
def execLd (e : Fin 128) (s : State) : Host.Outcome State Fault Refusal := run s (ldOp e.val)

/-- ST (R276): The engine executes ST, with its address checked. -/
def execSt (e : Fin 128) (s : State) : Host.Outcome State Fault Refusal := run s (stOp e.val)

/-- VLD (R276): The engine executes VLD. -/
def execVld (e : Fin 128) (s : State) : Host.Outcome State Fault Refusal := run s (vldOp e.val)

/-- VST (R276): The engine executes VST. -/
def execVst (e : Fin 128) (s : State) : Host.Outcome State Fault Refusal := run s (vstOp e.val)

/-- XFER (R279): The engine issues XFER between data memory and its shared blocks. -/
def execXfer (e : Fin 128) (s : State) : Host.Outcome State Fault Refusal := run s (xferOp e.val)

/-- XFER_COMPLETE (R279): An outstanding XFER completes. -/
def execXferComplete (e : Fin 128) (early : Nat) (s : State) : Host.Outcome State Fault Refusal :=
  run s (xferComplete e.val early)

/-- XWAIT (R282): The engine waits until every XFER and SGET of the activation is complete. -/
def execXwait (e : Fin 128) (s : State) : Host.Outcome State Fault Refusal := run s (xwaitOp e.val)

/-- SGET (R282): The engine issues SGET to read a resolved view of a signal. -/
def execSget (e : Fin 128) (s : State) : Host.Outcome State Fault Refusal := run s (sgetOp e.val)

/-- SGET_COMPLETE (R282): An outstanding SGET completes. -/
def execSgetComplete (e : Fin 128) (early : Nat) (s : State) : Host.Outcome State Fault Refusal :=
  run s (sgetComplete e.val early)

/-- BEQ (R282): The engine executes BEQ. -/
def execBeq (e : Fin 128) (s : State) : Host.Outcome State Fault Refusal := run s (beqOp e.val)

/-- BNE (R282): The engine executes BNE. -/
def execBne (e : Fin 128) (s : State) : Host.Outcome State Fault Refusal := run s (bneOp e.val)

/-- BLT (R282): The engine executes BLT. -/
def execBlt (e : Fin 128) (s : State) : Host.Outcome State Fault Refusal := run s (bltOp e.val)

/-- BGE (R282): The engine executes BGE. -/
def execBge (e : Fin 128) (s : State) : Host.Outcome State Fault Refusal := run s (bgeOp e.val)

/-- TIME (R283): The engine reads a cluster time tap field. -/
def execTime (e : Fin 128) (s : State) : Host.Outcome State Fault Refusal := run s (timeOp e.val)

/-- SPUT (R292): The engine posts a 32-byte record to its update buffer. -/
def execSput (e : Fin 128) (s : State) : Host.Outcome State Fault Refusal := run s (sputOp e.val)

/-- KEVT (R295): The engine raises a kernel event. -/
def execKevt (e : Fin 128) (s : State) : Host.Outcome State Fault Refusal := run s (kevtOp e.val)

/-- END (R292): The engine ends the activation and commits its update records as one unit. -/
def execEnd (e : Fin 128) (s : State) : Host.Outcome State Fault Refusal := run s (endOp e.val)

/-- WATCHDOG (R304): An activation reaches WCET + 1 cycles without END, and its slot is stopped. -/
def execWatchdog (e : Fin 128) (s : State) : Host.Outcome State Fault Refusal := run s (watchdog e.val)

/-- ENGINE_HARDWARE_FAULT (R306): A hardware fault contains the engine, resets it and starts re-homing to the spare. -/
def execEngineHardwareFault (e : Fin 128) (kind : Fin 4) (s : State) : Host.Outcome State Fault Refusal :=
  run s (engineCheck e.val kind)

/-- REHOME_COMPLETE (R308): Re-homing completes, and activations are raised again with RECOMPUTE. -/
def execRehomeComplete (g : Fin 4) (s : State) : Host.Outcome State Fault Refusal := run s (rehomeComplete g.val)

/-- SELF_TEST_COMPLETE (R306): A failed engine's self-test ends, and the engine becomes the spare or is left failed. -/
def execSelfTestComplete (e : Fin 128) (pass : Bool) (s : State) : Host.Outcome State Fault Refusal :=
  run s (selfTestComplete e.val pass)

/-- SLOT_RESTART (R305): Writing 1 to object 0x5100:07 restarts a stopped slot. -/
def execSlotRestart (p : Path) (txid : Word) (k : Fin 2048) (s : State) : Host.Outcome State Fault Refusal :=
  run s (writeCommand 0x510007 k.val 1 1 p txid.toNat)

/-- FORCE_REHOME (R309): Writing 1 to object 0x5000:0C forces a re-home of a healthy engine. -/
def execForceRehome (p : Path) (txid : Word) (e : Fin 128) (s : State) : Host.Outcome State Fault Refusal :=
  run s (writeCommand 0x50000C e.val 1 1 p txid.toNat)

/-- ENGINE_UNIT_RESET (R309): Writing 2 to object 0x5000:0C resets the engine unit. -/
def execEngineUnitReset (p : Path) (txid : Word) (e : Fin 128) (s : State) : Host.Outcome State Fault Refusal :=
  run s (writeCommand 0x50000C e.val 1 2 p txid.toNat)

/-- IMAGE_VERIFY (R299): Writing 1 to object 0x5020:02 starts verification of a kernel image. -/
def execImageVerify (p : Path) (txid : Word) (i : Fin 64) (s : State) : Host.Outcome State Fault Refusal :=
  run s (writeCommand 0x502002 i.val 1 1 p txid.toNat)

/-- IMAGE_VERIFY_COMPLETE (R299): Kernel image verification ends valid or invalid with a reason. -/
def execImageVerifyComplete (i : Fin 64) (s : State) : Host.Outcome State Fault Refusal :=
  run s (imageVerifyComplete i.val)

/-- IMAGE_ERASE (R299): Writing 2 to object 0x5020:02 erases an image store entry. -/
def execImageErase (p : Path) (txid : Word) (i : Fin 64) (s : State) : Host.Outcome State Fault Refusal :=
  run s (writeCommand 0x502002 i.val 1 2 p txid.toNat)

end Sys2Proof.Machine
end

