-- ==== Sys2Proof/Machine/CmdFaults.lean ====
section
/-! DEFINITION. The commands of fault collection, HBM scrubbing and injection (chapters 11 and 15): one meaning for each
row. -/
namespace Sys2Proof.Machine

/-- SCRUB_READ (R469): The patrol scrubber reads and corrects a word at its paced instant. -/
def execScrubRead (stack : Fin 2) (addr : BitVec 34) (v : EccCheck) (w : HbmWord) (s : State) : Host.Outcome State
  Fault Refusal :=
  run s (scrubRead stack.val addr.toNat v w)

/-- HBM_UNCORRECTABLE (R470): A demand access finds an uncorrectable HBM error, which is handled by what the word holds.
-/
def execHbmUncorrectable (stack : Fin 2) (addr : BitVec 34) (w : HbmWord) (s : State) : Host.Outcome State Fault
  Refusal :=
  run s (hbmUncorrectable stack.val addr.toNat w)

/-- FAULT_DETECTION (R452): A detection reaches the fault collector and is recorded and reacted to. -/
def execFaultDetection (ds : List Detection) (began ended : List SourceUnit) (s : State) : Host.Outcome State Fault
  Refusal :=
  run s (faultDetection ds (began.map SourceUnit.pair) (ended.map SourceUnit.pair))

/-- SAFE_STATE_RELEASE (R460): Writing 1 to object 0x8020:03 releases a scope from the safe state. -/
def execSafeStateRelease (p : Path) (txid : Word) (scope : Fin 20) (s : State) : Host.Outcome State Fault Refusal :=
  run s (writeCommand 0x802003 scope.val 1 1 p txid.toNat)

/-- FIRST_ERROR_CLEAR (R457): The CLEAR command clears VALID, OVERFLOW and INJECTED of the first-error record. -/
def execFirstErrorClear (p : Path) (txid : Word) (s : State) : Host.Outcome State Fault Refusal :=
  run s (writeCommand 0x800003 0 1 1 p txid.toNat)

/-- STICKY_CLEAR (R457): A W1C write to FLT_STICKYk clears sticky bits. -/
def execStickyClear (k : Fin 16) (mask : Word) (s : State) : Host.Outcome State Fault Refusal :=
  run s (hostWrite32 (0x600 + 4 * k.val) mask.toNat)

/-- ESCALATION_ACKNOWLEDGE (R461): A write to object 0x8000:06 acknowledges an escalation and ends its reaction. -/
def execEscalationAcknowledge (p : Path) (txid : Word) (src : BitVec 16) (unit : Word) (s : State) : Host.Outcome State
  Fault Refusal :=
  run s (writeBytes 0x800006 0 0 (leBytes 2 src.toNat ++ [0, 0] ++ leBytes 4 unit.toNat) p txid.toNat)

/-- SOFTWARE_WINDOW_END (R461): A software window ends unhandled, and the device takes the next step of the escalation
ladder. -/
def execSoftwareWindowEnd (src : Fin 512) (unit : Word) (s : State) : Host.Outcome State Fault Refusal :=
  run s (softwareWindowEnd src.val unit.toNat)

/-- RESET_COMPLETE (R461): A unit, cluster or region reset completes, and the watch window starts. -/
def execResetComplete (src : Fin 512) (unit : Word) (s : State) : Host.Outcome State Fault Refusal :=
  run s (resetComplete src.val unit.toNat)

/-- WATCH_WINDOW_END (R461): A watch window ends without a primary detection, and the reaction ends. -/
def execWatchWindowEnd (src : Fin 512) (unit : Word) (s : State) : Host.Outcome State Fault Refusal :=
  run s (watchWindowEnd src.val unit.toNat)

/-- INJECTION_ARM (R472): Writing 1 to object 0x8200:05 arms an injection slot. -/
def execInjectionArm (p : Path) (txid : Word) (slot : Fin 16) (s : State) : Host.Outcome State Fault Refusal :=
  run s (writeCommand 0x820005 slot.val 1 1 p txid.toNat)

/-- INJECTION_DISARM (R472): Writing 2 to object 0x8200:05 disarms an injection slot. -/
def execInjectionDisarm (p : Path) (txid : Word) (slot : Fin 16) (s : State) : Host.Outcome State Fault Refusal :=
  run s (writeCommand 0x820005 slot.val 1 2 p txid.toNat)

end Sys2Proof.Machine
end

