-- ==== Sys2Proof/Machine/CmdNet.lean ====
section
/-! DEFINITION. The commands of network time, ports, schedules, pre-emption and syzygy sessions (chapters 04 and 05): one
meaning for each row. -/
namespace Sys2Proof.Machine

/-- FRAME_RECEIVE (R111): A frame received on a port is timestamped, decided by the Eclipse, classified and forwarded,
delivered or dropped. -/
def execFrameReceive (p : Fin 17) (u : RxUnit) (t : Nat) (s : State) : Host.Outcome State Fault Refusal :=
  run s (frameReceive p.val u t)

/-- CUT_THROUGH_HEADER (R164): Once a frame's header has accumulated, the frame is decided and may be cut through to its
egress port. -/
def execCutThroughHeader (p : Fin 17) (bytes : List Byte) (t : Nat) (s : State) : Host.Outcome State Fault Refusal :=
  run s (cutThroughHeader p.val bytes t)

/-- PTP_MESSAGE_RECEIVE (R117): A PTP message is received and handled by its instance or by the transparent clock. -/
def execPtpMessageReceive (p : Fin 17) (m : List Byte) (t : Nat) (s : State) : Host.Outcome State Fault Refusal :=
  run s (ptpMessageReceive p.val m t)

/-- PTP_MESSAGE_SEND (R119): A PTP message interval elapses, and the instance sends its message. -/
def execPtpMessageSend (i : Fin 8) (p : Fin 17) (kind : Fin 16) (t : Nat) (s : State) : Host.Outcome State Fault
  Refusal :=
  run s (ptpSend i.val p.val kind.val t)

/-- ANNOUNCE_RECEIPT_TIMEOUT (R124): announceReceiptTimeout expires on a slave port, making the PTP reference invalid. -/
def execAnnounceReceiptTimeout (i : Fin 4) (p : Fin 17) (s : State) : Host.Outcome State Fault Refusal :=
  run s (announceTimeout i.val p.val)

/-- SYNC_INTERVALS_MISSED (R123): Three Sync intervals pass without a complete measurement, so the PTP reference becomes
invalid. -/
def execSyncIntervalsMissed (i : Fin 4) (p : Fin 17) (s : State) : Host.Outcome State Fault Refusal :=
  run s (syncMissed i.val p.val)

/-- TC_MATCH_EXPIRY (R126): A two-step matching entry expires after 100 ms. -/
def execTcMatchExpiry (q : Fin 17) (s : State) : Host.Outcome State Fault Refusal := run s (tcExpire q.val)

/-- TSQ_ENTRY_READ (R129): A read of TSQ_ENTRY0 removes the oldest transmit timestamp entry and latches its words. -/
def execTsqEntryRead (p : Fin 16) (wide : Bool) (s : State) : Host.Outcome State Fault Refusal :=
  run s (registerRead false (0x200100 + 0x10000 * p.val) wide)

/-- LINK_UP (R159): A port's link comes up. -/
def execLinkUp (p : Fin 17) (mode : Fin 16) (fec : Fin 4) (s : State) : Host.Outcome State Fault Refusal :=
  run s (linkUp p.val mode.val fec.val)

/-- LINK_DOWN (R454): A port's link goes down, and source 64 is raised. -/
def execLinkDown (p : Fin 17) (s : State) : Host.Outcome State Fault Refusal := run s (linkDown p.val)

/-- GATE_ENTRY_START (R144): A gate-list entry, or a new cycle, starts and sets the gate states of the port. -/
def execGateEntryStart (p : Fin 16) (s : State) : Host.Outcome State Fault Refusal := run s (gateEntryStart p.val)

/-- TRANSMISSION_SELECTION (R139): A free port chooses the highest eligible class and starts a frame. -/
def execTransmissionSelection (p : Fin 17) (delay : Nat) (s : State) : Host.Outcome State Fault Refusal :=
  run s (transmissionSelection p.val delay)

/-- TRANSMIT_COMPLETE (R427): A frame's last bit leaves its port, which finishes its transmit entry and timestamp entry.
-/
def execTransmitComplete (p : Fin 17) (s : State) : Host.Outcome State Fault Refusal := run s (transmitComplete p.val)

/-- HOLD_REQUEST (R161): The hold request is issued at the start of an OP 0x1 entry minus holdAdvance. -/
def execHoldRequest (p : Fin 16) (s : State) : Host.Outcome State Fault Refusal := run s (holdRequest p.val)

/-- RELEASE_REQUEST (R161): The release is issued at the start of an OP 0x2 entry minus releaseAdvance. -/
def execReleaseRequest (p : Fin 16) (s : State) : Host.Outcome State Fault Refusal := run s (releaseRequest p.val)

/-- BANK_SWITCH (R153): The new bank becomes active at S, its first cycle start at or after the boundary. -/
def execBankSwitch (p : Fin 16) (s : State) : Host.Outcome State Fault Refusal := run s (bankSwitch p.val)

/-- ORRERY_SRAM_ERROR (R154): An uncorrectable error in the Orrery's SRAM copy raises an F-class event for the port. -/
def execOrrerySramError (p : Fin 16) (s : State) : Host.Outcome State Fault Refusal :=
  run s (fun d => d.checked_ 13 p.val (orrerySramError p.val))

/-- PREEMPTION_VERIFY_TIMER (R163): verifyTime elapses in the IEEE 802.3br verification procedure. -/
def execPreemptionVerifyTimer (p : Fin 16) (s : State) : Host.Outcome State Fault Refusal :=
  run s (preemptionVerifyTimer p.val)

/-- ORRERY_POLL (R169): The Orrery issues a bound queue's poll at the gate open minus the poll lead. -/
def execOrreryPoll (b : BitVec 12) (s : State) : Host.Outcome State Fault Refusal := run s (orreryPoll b.toNat)

/-- SYZYGY_START (R158): Writing 1 to object 0x3400:08 starts a coordinator session. -/
def execSyzygyStart (p : Path) (txid : Word) (k : Fin 4) (s : State) : Host.Outcome State Fault Refusal :=
  run s (writeCommand 0x340008 k.val 1 1 p txid.toNat)

/-- SYZYGY_STOP (R158): Writing 2 to object 0x3400:08 stops a session before its confirm deadline. -/
def execSyzygyStop (p : Path) (txid : Word) (k : Fin 4) (s : State) : Host.Outcome State Fault Refusal :=
  run s (writeCommand 0x340008 k.val 1 2 p txid.toNat)

/-- SYZYGY_PREPARE_LEAD (R158): At T minus the prepare lead the session sends its first PREPARE. -/
def execSyzygyPrepareLead (k : Fin 4) (s : State) : Host.Outcome State Fault Refusal := run s (prepareLead k.val)

/-- PREPARE (R156): A participant receives PREPARE and answers CONFIRM or REFUSE. -/
def execPrepare (ip : Word) (udp : BitVec 16) (role : Role) (via : Fin 17) (txid : Word) (bytes : List Byte) (s :
  State) : Host.Outcome State Fault Refusal :=
  run s (onKmp ip udp role via (prepare ip.toNat udp.toNat role via txid.toNat bytes))

/-- CONFIRM (R157): The coordinator receives a CONFIRM from a participant. -/
def execConfirm (ip : Word) (udp : BitVec 16) (role : Role) (via : Fin 17) (txid : Word) (bytes : List Byte) (s :
  State) : Host.Outcome State Fault Refusal :=
  run s (onKmp ip udp role via (syzygyAnswer 0 ip.toNat udp.toNat role txid.toNat bytes))

/-- REFUSE (R157): The coordinator receives a REFUSE from a participant. -/
def execRefuse (ip : Word) (udp : BitVec 16) (role : Role) (via : Fin 17) (txid : Word) (bytes : List Byte) (s :
  State) : Host.Outcome State Fault Refusal :=
  run s (onKmp ip udp role via (syzygyAnswer 1 ip.toNat udp.toNat role txid.toNat bytes))

/-- SYZYGY_ABORT (R156): A participant receives ABORT and aborts, or answers too late. -/
def execSyzygyAbort (ip : Word) (udp : BitVec 16) (role : Role) (via : Fin 17) (txid : Word) (bytes : List Byte) (s :
  State) : Host.Outcome State Fault Refusal :=
  run s (onKmp ip udp role via (syzygyAbort ip.toNat udp.toNat role via txid.toNat bytes))

/-- ABORT_ACK (R157): The coordinator receives ABORT_ACK from a participant. -/
def execAbortAck (ip : Word) (udp : BitVec 16) (role : Role) (via : Fin 17) (txid : Word) (bytes : List Byte) (s :
  State) : Host.Outcome State Fault Refusal :=
  run s (onKmp ip udp role via (syzygyAnswer 2 ip.toNat udp.toNat role txid.toNat bytes))

/-- SYZYGY_RETRY (R157): The retry interval elapses, and PREPARE or ABORT is repeated to the participants that have not
answered. -/
def execSyzygyRetry (k : Fin 4) (s : State) : Host.Outcome State Fault Refusal := run s (syzygyRetry k.val)

/-- CONFIRM_DEADLINE (R157): At T − 2G the coordinator decides to commit or abort. -/
def execConfirmDeadline (k : Fin 4) (s : State) : Host.Outcome State Fault Refusal := run s (confirmDeadline k.val)

/-- GUARD_DEADLINE (R156): At T − G an unconfirmed participant aborts, and the coordinator marks unacknowledged
participants uncertain. -/
def execGuardDeadline (id : Word) (s : State) : Host.Outcome State Fault Refusal := run s (guardDeadline id.toNat)

end Sys2Proof.Machine
end

