-- ==== Sys2Proof/Machine/CmdObjects.lean ====
section
/-! DEFINITION. The commands of objects, transactions and access paths (chapter 02): one meaning for each row. -/
namespace Sys2Proof.Machine

/-- READ (R36): The READ command returns an object value, or one segment of it, on any access path. -/
def execRead (p : Path) (q : Req) (s : State) : Host.Outcome State Fault Refusal := run s (objCommand 1 p q)

/-- WRITE (R37): The WRITE command checks a value and writes an object, staging it in the shadow copy for an RWS object.
-/
def execWrite (p : Path) (q : Req) (s : State) : Host.Outcome State Fault Refusal := run s (objCommand 2 p q)

/-- DESCRIBE (R38): The DESCRIBE command returns the 48-byte description of an object. -/
def execDescribe (p : Path) (q : Req) (s : State) : Host.Outcome State Fault Refusal := run s (objCommand 3 p q)

/-- OPEN (R59): The OPEN command assigns a transaction slot and an ID. -/
def execOpen (p : Path) (q : Req) (s : State) : Host.Outcome State Fault Refusal := run s (objCommand 4 p q)

/-- COMMIT (R62): The COMMIT command resolves the boundary and starts validation in every participant. -/
def execCommit (p : Path) (q : Req) (s : State) : Host.Outcome State Fault Refusal := run s (objCommand 5 p q)

/-- ABORT (R59): The ABORT command ends an OPEN, VALIDATING or READY transaction before the all-ready sample. -/
def execAbort (p : Path) (q : Req) (s : State) : Host.Outcome State Fault Refusal := run s (objCommand 6 p q)

/-- STATUS (R67): The STATUS command returns a transaction's status and frees an ended slot. -/
def execStatus (p : Path) (q : Req) (s : State) : Host.Outcome State Fault Refusal := run s (objCommand 7 p q)

/-- COMMAND_COMPLETE (R56): An object command completes, and the path reports its abort code and data, with the responses
for held repeats. -/
def execCommandComplete (p : Path) (s : State) : Host.Outcome State Fault Refusal := run s (commandComplete p)

/-- KMP_REQUEST (R46): A KMP datagram is received, authenticated, checked against the replay cache and passed to the
object arbiter. -/
def execKmpRequest (ip : Word) (udp : BitVec 16) (via : Fin 17) (bytes : List Byte) (s : State) : Host.Outcome State
  Fault Refusal :=
  run s (kmpRequest ip.toNat udp.toNat via bytes)

/-- REPLAY_CACHE_EXPIRY (R47): A replay cache entry expires 10 s after its response was sent. -/
def execReplayCacheExpiry (p : Path) (txid : Word) (s : State) : Host.Outcome State Fault Refusal :=
  run s (replayExpiry p txid.toNat)

/-- PARTICIPANT_REPORT (R61): A transaction participant reports valid or invalid after validation, moving the transaction
to READY or FAILED. -/
def execParticipantReport (slot : Fin 32) (part : Fin 5) (s : State) : Host.Outcome State Fault Refusal :=
  run s (participantReport slot.val (part.val + 1))

/-- ALL_READY_SAMPLE (R64): 1 µs before the boundary the all-ready signal is sampled, and the transaction aborts with
0x0603 if any participant is not ready. -/
def execAllReadySample (slot : Fin 32) (s : State) : Host.Outcome State Fault Refusal := run s (allReadySample slot.val)

/-- TRANSACTION_APPLY (R65): At the boundary every participant applies the new bank. -/
def execTransactionApply (slot : Fin 32) (s : State) : Host.Outcome State Fault Refusal :=
  run s (transactionApply slot.val)

/-- TRANSACTION_TIMEOUT (R59): An OPEN transaction with no COMMIT accepted 60 s after the OPEN ends ABORTED with 0x0608.
-/
def execTransactionTimeout (slot : Fin 32) (s : State) : Host.Outcome State Fault Refusal :=
  run s (transactionTimeout slot.val)

/-- TRANSACTION_SLOT_RELEASE (R59): An ended transaction's slot is freed 60 s after the transaction ended. -/
def execTransactionSlotRelease (slot : Fin 32) (s : State) : Host.Outcome State Fault Refusal :=
  run s (slotRelease slot.val)

/-- HOT_REGISTER_WRITE (R42): A write to a BAR0 hot register writes its object through the object arbiter. -/
def execHotRegisterWrite (obj : BitVec 24) (elem : Word) (value : BitVec 64) (s : State) : Host.Outcome State Fault
  Refusal :=
  run s (hotWrite obj.toNat elem.toNat value.toNat)

/-- REGISTER_WRITE (R51): A write to a register that has no row of its own acts according to its fields' access codes. -/
def execRegisterWrite (bar4 : Bool) (off : BitVec 26) (wide : Bool) (value : BitVec 64) (s : State) : Host.Outcome
  State Fault Refusal :=
  run s (registerWrite bar4 off.toNat wide value.toNat)

/-- REGISTER_LOW_HALF_READ (R50): A 32-bit read of the low half of a 64-bit register latches the high half. -/
def execRegisterLowHalfRead (bar4 : Bool) (off : BitVec 26) (wide : Bool) (s : State) : Host.Outcome State Fault
  Refusal :=
  run s (registerRead bar4 off.toNat wide)

end Sys2Proof.Machine
end

