-- ==== Sys2Proof/Machine/CmdPcie.lean ====
section
/-! DEFINITION. The commands of the PCI Express endpoint (chapter 13): one meaning for each row. -/
namespace Sys2Proof.Machine

/-- LINK_TRAINED (R394): The PCIe link trains to its speed and width. -/
def execLinkTrained (speed : Fin 6) (width : Fin 17) (s : State) : Host.Outcome State Fault Refusal :=
  run s (linkTrained speed.val width.val)

/-- L0S_ENTRY (R395): The transmitter has been idle for 1 µs and enters L0s. -/
def execL0sEntry (s : State) : Host.Outcome State Fault Refusal := run s l0sEntry

/-- L1_ENTRY (R395): Both directions have been idle for 32 µs, and the link enters L1. -/
def execL1Entry (s : State) : Host.Outcome State Fault Refusal := run s l1Entry

/-- CONFIG_REQUEST (R396): A configuration read or write is served by the endpoint. -/
def execConfigRequest (write : Bool) (off : BitVec 12) (value : Word) (be : BitVec 4) (s : State) : Host.Outcome State
  Fault Refusal :=
  run s (configCommand write off.toNat value.toNat be.toNat)

/-- UNSUPPORTED_REQUEST (R410): A request the endpoint does not support completes with UR, or is discarded and logged. -/
def execUnsupportedRequest (memory : Bool) (s : State) : Host.Outcome State Fault Refusal :=
  run s (unsupportedRequest memory)

/-- READ_COMPLETION (R407): A completion arrives for a read that the endpoint issued. -/
def execReadCompletion (tag : BitVec 10) (c : CplStatus) (s : State) : Host.Outcome State Fault Refusal :=
  run s (readCompletion tag.toNat c)

/-- COMPLETION_TIMEOUT (R402): An outstanding read's completion timeout expires, and the request fails. -/
def execCompletionTimeout (tag : BitVec 10) (s : State) : Host.Outcome State Fault Refusal :=
  run s (completionTimeout tag.toNat)

/-- MODERATION_INTERVAL_END (R413): A vector's moderation interval ends, and the merged message is sent. -/
def execModerationIntervalEnd (v : BitVec 11) (s : State) : Host.Outcome State Fault Refusal :=
  run s (moderationEnd v.toNat)

/-- INTX_PEND_CLEAR (R412): A W1C write to INTX_PENDk clears bits and deasserts INTA when all are clear. -/
def execIntxPendClear (k : Fin 64) (mask : Word) (s : State) : Host.Outcome State Fault Refusal :=
  run s (hostWrite32 (0x800 + 4 * k.val) mask.toNat)

/-- VECTOR_UNMASK (R412): Unmasking an MSI or MSI-X vector sends its pending message. -/
def execVectorUnmask (v : BitVec 11) (s : State) : Host.Outcome State Fault Refusal := run s (vectorUnmask v.toNat)

/-- PERST_N_ASSERT (R449): Assertion of PERST_N resets the endpoint and detaches every queue. -/
def execPerstNAssert (s : State) : Host.Outcome State Fault Refusal := runPin s (Dev.perstLevel true) perstAssert

/-- PERST_N_RELEASE (R414): Release of PERST_N starts link training. -/
def execPerstNRelease (s : State) : Host.Outcome State Fault Refusal := runPin s (Dev.perstLevel false) perstRelease

/-- ENDPOINT_READY (R414): The endpoint becomes ready for configuration requests. -/
def execEndpointReady (s : State) : Host.Outcome State Fault Refusal := run s endpointReady

/-- DL_DOWN (R415): The data link layer reports DL_Down, and the port freezes. -/
def execDlDown (s : State) : Host.Outcome State Fault Refusal := run s dlDown

/-- HOT_RESET (R415): A hot reset is received, and the port freezes. -/
def execHotReset (s : State) : Host.Outcome State Fault Refusal := run s hotReset

/-- ENDPOINT_INTERNAL_ERROR (R415): An uncorrectable internal error or an unmasked fatal error freezes the port. -/
def execEndpointInternalError (e : AerError) (s : State) : Host.Outcome State Fault Refusal := run s (endpointError e)

/-- TEST_FREEZE (R403): Writing CONT_CTRL.FREEZE freezes the port with cause 5. -/
def execTestFreeze (s : State) : Host.Outcome State Fault Refusal := run s testFreezeCommand

/-- CONT_RELEASE (R417): Writing CONT_CTRL.RELEASE while release-ready ends the freeze. -/
def execContRelease (s : State) : Host.Outcome State Fault Refusal := run s contReleaseCommand

/-- TAG_QUARANTINE_END (R415): A quarantined tag becomes usable once the completion timeout has passed. -/
def execTagQuarantineEnd (s : State) : Host.Outcome State Fault Refusal := run s tagQuarantineEnd

end Sys2Proof.Machine
end

