-- ==== Sys2Proof/Machine/CmdPower.lean ====
section
/-! DEFINITION. The commands of supplies, power states, resets, start-up and the sideband SPI (chapters 16 and 17): one
meaning for each row. -/
namespace Sys2Proof.Machine

/-- RAIL_OUT_OF_RANGE (R476): A main rail has been out of range but above 80 % for 1 µs, leading to the device safe
state. -/
def execRailOutOfRange (r : Fin 9) (mv : Nat) (s : State) : Host.Outcome State Fault Refusal :=
  run s (railOutOfRange r.val mv)

/-- RAIL_UNDERVOLTAGE (R476): A main rail has been below 80 % for 1 µs, so main power-on reset is asserted. -/
def execRailUndervoltage (r : Fin 9) (mv : Nat) (s : State) : Host.Outcome State Fault Refusal :=
  run s (railUndervoltage r.val mv)

/-- MAIN_POR_RELEASE (R476): Every main rail has been in range for 10 ms, so main power-on reset is released. -/
def execMainPorRelease (mv : List Nat) (s : State) : Host.Outcome State Fault Refusal := run s (mainPorRelease mv)

/-- SYSCLK_LOSS (R511): SYSCLK stops or strays beyond 1,000 ppm, leading to the device safe state. -/
def execSysclkLoss (s : State) : Host.Outcome State Fault Refusal := run s sysclkLoss

/-- VBAL_A_LOSS (R478): VBAL_A falls through 2.90 V, and the Ballast domain switches over to VBAL_B. -/
def execVbalALoss (mv : Nat) (s : State) : Host.Outcome State Fault Refusal := run s (vbalALoss mv)

/-- VBAL_SWITCH_BACK (R478): VBAL_A has stayed above 3.00 V for 10 ms, and the domain returns to it. -/
def execVbalSwitchBack (mv : Nat) (s : State) : Host.Outcome State Fault Refusal := run s (vbalSwitchBack mv)

/-- VBAL_B_LOSS (R478): VBAL_B is lost while VBAL_A is in use, raising source 448. -/
def execVbalBLoss (mv : Nat) (s : State) : Host.Outcome State Fault Refusal := run s (vbalBLoss mv)

/-- BALLAST_POR_ASSERT (R480): CBAL falls below 2.60 V, and Ballast power-on reset is asserted. -/
def execBallastPorAssert (s : State) : Host.Outcome State Fault Refusal := powerOff s

/-- BALLAST_POR_RELEASE (R480): Ballast power-on reset is released 5 ms after CBAL rises above 2.90 V. -/
def execBallastPorRelease (sel : Fin 4) (a b : Nat) (s : State) : Host.Outcome State Fault Refusal :=
  powerOn s (ballastPorRelease sel.val a b)

/-- RAILS_ABSENT_TIMEOUT (R482): The main rails are not in range within 100 ms of Ballast release, so the device enters
DOZE. -/
def execRailsAbsentTimeout (s : State) : Host.Outcome State Fault Refusal := run s railsAbsentTimeout

/-- ENTER_DOZE (R483): Command 1 of object 0x9000:02 starts the entry to DOZE. -/
def execEnterDoze (p : Path) (txid : Word) (s : State) : Host.Outcome State Fault Refusal :=
  run s (writeCommand 0x900002 0 1 1 p txid.toNat)

/-- DOZE_ENTRY_STAGE (R483): A timed stage of the DOZE entry sequence takes effect. -/
def execDozeEntryStage (s : State) : Host.Outcome State Fault Refusal := run s dozeEntryStage

/-- WAKE (R484): Command 2 of object 0x9000:02 wakes the device from DOZE. -/
def execWake (p : Path) (txid : Word) (s : State) : Host.Outcome State Fault Refusal :=
  run s (writeCommand 0x900002 0 1 2 p txid.toNat)

/-- ENTER_LANTERN (R482): Command 3 of object 0x9000:02 enters LANTERN. -/
def execEnterLantern (p : Path) (txid : Word) (s : State) : Host.Outcome State Fault Refusal :=
  run s (writeCommand 0x900002 0 1 3 p txid.toNat)

/-- RESTART (R501): Command 4 of object 0x9000:02 sets FAILS to 0 and starts an attempt. -/
def execRestart (p : Path) (txid : Word) (s : State) : Host.Outcome State Fault Refusal :=
  run s (writeCommand 0x900002 0 1 4 p txid.toNat)

/-- WAKE_N (R484): A low level on WAKE_N lasting 1 µs wakes the device. -/
def execWakeN (low : Bool) (s : State) : Host.Outcome State Fault Refusal := runPin s (Dev.wakeLevel low) (wakePin low)

/-- WAKE_TIMEOUT (R484): The main rails are not in range within 1 s of a wake, so the device stays in DOZE. -/
def execWakeTimeout (s : State) : Host.Outcome State Fault Refusal := run s wakeTimeout

/-- JUNCTION_SENSOR_READ (R528): A die's junction sensor is read every 1 ms, raising source 450 or 451 as needed. -/
def execJunctionSensorRead (die : Fin 3) (t : Int) (s : State) : Host.Outcome State Fault Refusal :=
  run s (junctionRead die.val t)

/-- THERMAL_SHUTDOWN (R482): The junction temperature has been at or above 115 °C for 1 ms, so the device enters DOZE. -/
def execThermalShutdown (s : State) : Host.Outcome State Fault Refusal := run s thermalShutdown

/-- RST_N_RECOGNISED (R487): RST_N has been low for 1 µs and the internal reset is asserted. -/
def execRstNRecognised (s : State) : Host.Outcome State Fault Refusal := run s rstRecognised

/-- RST_N_PULSE_IGNORED (R487): A low pulse on RST_N shorter than 1 µs is ignored and counted. -/
def execRstNPulseIgnored (s : State) : Host.Outcome State Fault Refusal := run s rstPulseIgnored

/-- RST_N_RELEASE (R487): RST_N rises and the internal reset ends after at least 10 µs. -/
def execRstNRelease (s : State) : Host.Outcome State Fault Refusal := run s rstRelease

/-- RESET_HELD (R488): RST_N stays low for 5 s, and the device enters reset held. -/
def execResetHeld (s : State) : Host.Outcome State Fault Refusal := run s resetHeld

/-- START_ATTEMPT (R497): A start attempt begins, is recorded, and loads its image or enters LANTERN. -/
def execStartAttempt (sel : Fin 4) (s : State) : Host.Outcome State Fault Refusal := run s (startAttempt sel.val)

/-- FIRMWARE_VERIFY_COMPLETE (R493): Firmware image verification ends with a pass or a reason code. -/
def execFirmwareVerifyComplete (readOk : Bool) (s : State) : Host.Outcome State Fault Refusal :=
  run s (firmwareVerifyComplete readOk)

/-- BOOT_GO (R494): Writing BOOT_CTRL.GO starts verification of the host-delivered image. -/
def execBootGo (s : State) : Host.Outcome State Fault Refusal := run s (hostWrite32 0x104 0x80000000)

/-- HOST_IMAGE_TIMEOUT (R494): The host image wait ends without GO, and the attempt fails with 0x13. -/
def execHostImageTimeout (s : State) : Host.Outcome State Fault Refusal := run s hostImageTimeout

/-- START_SELF_TEST_COMPLETE (R495): The start self-test ends, and the image runs or the attempt fails. -/
def execStartSelfTestComplete (detail : Fin 9) (failed : List SourceUnit) (s : State) : Host.Outcome State Fault
  Refusal :=
  run s (startSelfTest detail.val (failed.map SourceUnit.pair))

/-- START_CONFIRMATION (R496): A write to object 0x1301:01 confirms the start attempt. -/
def execStartConfirmation (p : Path) (txid : Word) (v : Word) (s : State) : Host.Outcome State Fault Refusal :=
  run s (writeCommand 0x130101 0 4 v.toNat p txid.toNat)

/-- CONFIRMATION_DEADLINE (R496): 30 s pass without confirmation, and the attempt fails with 0x30. -/
def execConfirmationDeadline (s : State) : Host.Outcome State Fault Refusal := run s confirmationDeadline

/-- MIRROR_PROGRAM_COMPLETE (R499): A mirror log record finishes programming, and the next flash read may start. -/
def execMirrorProgramComplete (s : State) : Host.Outcome State Fault Refusal := run s mirrorProgramComplete

/-- SLOT_BLOCK_WRITE (R501): A write of object 0x1310 erases and programs a flash block of a slot. -/
def execSlotBlockWrite (p : Path) (txid : Word) (b : Fin 1024) (off : BitVec 15) (bytes : List Byte) (s :
  State) : Host.Outcome State Fault Refusal :=
  run s (writeBytes 0x131001 b.val off.toNat bytes p txid.toNat)

/-- SLOT_VERIFY (R501): Writing 1 to object 0x1311:01 verifies a flash slot. -/
def execSlotVerify (p : Path) (txid : Word) (slot : Fin 2) (s : State) : Host.Outcome State Fault Refusal :=
  run s (writeCommand 0x131101 slot.val 1 1 p txid.toNat)

/-- SLOT_ERASE (R501): Writing 2 to object 0x1311:01 erases a flash slot. -/
def execSlotErase (p : Path) (txid : Word) (slot : Fin 2) (s : State) : Host.Outcome State Fault Refusal :=
  run s (writeCommand 0x131101 slot.val 1 2 p txid.toNat)

/-- SLOT_VERIFY_COMPLETE (R501): Flash slot verification ends with its status and reason. -/
def execSlotVerifyComplete (slot : Fin 2) (readOk : Bool) (s : State) : Host.Outcome State Fault Refusal :=
  run s (slotVerifyComplete slot.val readOk)

/-- SPI_REQUEST (R522): A committed REQUEST frame on the sideband SPI is handled as a mailbox command. -/
def execSpiRequest (words : List Word) (edges : Nat) (s : State) : Host.Outcome State Fault Refusal :=
  run s (spiFrame (words.map BitVec.toNat) edges)

/-- SPI_FETCH (R523): A FETCH frame clocks out the held response. -/
def execSpiFetch (words : List Word) (edges : Nat) (s : State) : Host.Outcome State Fault Refusal :=
  run s (spiFrame (words.map BitVec.toNat) edges)

/-- SPI_CLEAR (R521): A CLEAR frame clears the selected SB_STATUS flags. -/
def execSpiClear (words : List Word) (edges : Nat) (s : State) : Host.Outcome State Fault Refusal :=
  run s (spiFrame (words.map BitVec.toNat) edges)

/-- TEST_EN_CHANGE (R508): The TEST_EN strap changes level, asserting main power-on reset while it is high and releasing
that hold when it goes low. -/
def execTestEnChange (high : Bool) (s : State) : Host.Outcome State Fault Refusal :=
  runPin s (Dev.testLevel high) (testEnChange high)

end Sys2Proof.Machine
end

