-- ==== Sys2Proof/Machine/CmdQueues.lean ====
section
/-! DEFINITION. The commands of the queues (chapter 14): one meaning for each row. -/
namespace Sys2Proof.Machine

/-- QUEUE_ATTACH (R439): The ATTACH command activates a queue or is refused. -/
def execQueueAttach (q : BitVec 18) (s : State) : Host.Outcome State Fault Refusal :=
  run s (hostWrite32 (0x1000000 + 64 * q.toNat) 0x90000000)

/-- QUEUE_DETACH (R438): The DETACH command moves an active queue to STOPPING. -/
def execQueueDetach (q : BitVec 18) (s : State) : Host.Outcome State Fault Refusal :=
  run s (hostWrite32 (0x1000000 + 64 * q.toNat) 0xA0000000)

/-- QUEUE_RESET (R441): The RESET command abandons fetched entries and detaches the queue. -/
def execQueueReset (q : BitVec 18) (s : State) : Host.Outcome State Fault Refusal :=
  run s (hostWrite32 (0x1000000 + 64 * q.toNat) 0xB0000000)

/-- QUEUE_DETACH_COMPLETE (R438): A STOPPING queue issues its final head-index write and becomes DETACHED. -/
def execQueueDetachComplete (q : BitVec 18) (s : State) : Host.Outcome State Fault Refusal :=
  run s (queueDetachComplete q.toNat)

/-- POLL_DUE (R442): A queue's interval poll falls due. -/
def execPollDue (q : BitVec 18) (s : State) : Host.Outcome State Fault Refusal := run s (pollDue q.toNat)

/-- POLL_SERVE (R444): The device serves the due poll with the earliest deadline within the budget and tags. -/
def execPollServe (s : State) : Host.Outcome State Fault Refusal := run s pollServe

/-- COALESCING_TIMEOUT (R446): The coalescing time passes, and the head mirror is written. -/
def execCoalescingTimeout (q : BitVec 18) (s : State) : Host.Outcome State Fault Refusal :=
  run s (coalescingTimeout q.toNat)

/-- RECEIVE_HOLD_TIMEOUT (R431): A frame waiting for a receive entry passes its hold time and is dropped whole. -/
def execReceiveHoldTimeout (q : BitVec 18) (s : State) : Host.Outcome State Fault Refusal :=
  run s (rxHoldTimeout q.toNat)

end Sys2Proof.Machine
end

