-- ==== Sys2Proof/Machine/CmdRing.lean ====
section
/-! DEFINITION. The commands of the Stalon rings (chapter 07): one meaning for each row. -/
namespace Sys2Proof.Machine

/-- RING_CYCLE_ORIGINATE (R211): A leader builds and sends both copies of the ring frame at the cycle start. -/
def execRingCycleOriginate (r : Fin 2) (edge : Nat) (s : State) : Host.Outcome State Fault Refusal :=
  run s (ringCycleOriginate r.val edge)

/-- RING_COPY_RECEIVE (R214): A ring copy arrives at a node, which forwards it, writes its slot, takes slots or absorbs
the copy. -/
def execRingCopyReceive (r p : Fin 2) (bytes : List Byte) (good : Bool) (rx tx : Nat) (s : State) : Host.Outcome State
  Fault Refusal :=
  run s (ringCopyIn r.val p.val bytes good rx tx)

/-- RING_SLOT_POLL (R218): The own slot's transmit queue is polled at W minus the poll lead. -/
def execRingSlotPoll (r : Fin 2) (s : State) : Host.Outcome State Fault Refusal := run s (ringSlotPoll r.val)

/-- RING_SILENCE_TIMEOUT (R228): A silence timeout in the start-up logic expires and returns the node to listen or starts
a candidate waiting. -/
def execRingSilenceTimeout (r : Fin 2) (s : State) : Host.Outcome State Fault Refusal := run s (ringSilenceTimeout r.val)

/-- COLD_START_WAIT (R228): A waiting candidate's node ID × step elapses, and it enters cold start. -/
def execColdStartWait (r : Fin 2) (s : State) : Host.Outcome State Fault Refusal := run s (coldStartWait r.val)

/-- RING_MODE_SWITCH (R235): At C_t the nodes switch to the target mode or stay in the old one. -/
def execRingModeSwitch (r : Fin 2) (s : State) : Host.Outcome State Fault Refusal := run s (ringModeSwitch r.val)

/-- RING_MAILBOX_MESSAGE (R238): A node takes a mailbox message addressed to it. -/
def execRingMailboxMessage (r : Fin 2) (cycle : Nat) (box : List Byte) (s : State) : Host.Outcome State Fault Refusal
  :=
  run s (ringMailbox r.val cycle box)

/-- RING_MESSAGE_SEND (R239): Host software queues a ring mailbox message through object 0x4050:01. -/
def execRingMessageSend (p : Path) (txid : Word) (r : Fin 2) (bytes : List Byte) (s : State) : Host.Outcome State Fault
  Refusal :=
  run s (writeBytes 0x405001 r.val 0 bytes p txid.toNat)

/-- RING_RESPONSE_READ (R239): A read of object 0x4050:02 removes the oldest ring response. -/
def execRingResponseRead (p : Path) (txid : Word) (r : Fin 2) (s : State) : Host.Outcome State Fault Refusal :=
  run s (readCommand 0x405002 r.val p txid.toNat)

/-- RING_INSERT (R240): An enabled ring in RUN powers its ports and drives RINGr_BYP_N low. -/
def execRingInsert (r : Fin 2) (s : State) : Host.Outcome State Fault Refusal := run s (ringInsert r.val)

/-- RING_REMOVE (R240): A ring is disabled, or the device leaves RUN, so the device releases the bypass pin. -/
def execRingRemove (r : Fin 2) (s : State) : Host.Outcome State Fault Refusal := run s (ringRemove r.val)

/-- RELAY_SETTLE (R240): The relay settle time ends, and the ring enters listen or powers down. -/
def execRelaySettle (r : Fin 2) (s : State) : Host.Outcome State Fault Refusal := run s (relaySettle r.val)

/-- RING_RECEIVE_SIDE_DOWN (R202): A ring port's PCS loses code-group synchronisation, so its receive side goes down,
which drives wrapping under R219 and the LINKS bits. -/
def execRingReceiveSideDown (r p : Fin 2) (s : State) : Host.Outcome State Fault Refusal :=
  run s (ringReceiveSide r.val p.val false)

/-- RING_RECEIVE_SIDE_UP (R202): A ring port's PCS gains code-group synchronisation, so its receive side comes up again
and wrapping stops. -/
def execRingReceiveSideUp (r p : Fin 2) (s : State) : Host.Outcome State Fault Refusal :=
  run s (ringReceiveSide r.val p.val true)

end Sys2Proof.Machine
end

