-- ==== Sys2Proof/Machine/CmdTable.lean ====
section
/-! DEFINITION. The commands of ingest, synchrophasor output, signal table and epochs (chapters 08, 10 and 11): one
meaning for each row. -/
namespace Sys2Proof.Machine

/-- WINDOW_ENTRY_COMMIT (R258): Sample entries become present in a window and in the input rings. -/
def execWindowEntryCommit (s : State) : Host.Outcome State Fault Refusal := run s windowEntryCommit

/-- INGEST_CUTOFF (R262): At an epoch's ingest cutoff, absent grid points are counted missing and epoch activations are
raised. -/
def execIngestCutoff (s : State) : Host.Outcome State Fault Refusal := run s ingestCutoff

/-- STREAM_SILENT (R244): A stream has been silent for 3 frame intervals. -/
def execStreamSilent (kind : Fin 3) (n : BitVec 16) (s : State) : Host.Outcome State Fault Refusal :=
  run s (streamSilent kind.val n.toNat)

/-- UPDATE_ACCEPT (R347): A unit of updates reaches its region's update port and is written, held, late or rejected. -/
def execUpdateAccept (g : Fin 4) (s : State) : Host.Outcome State Fault Refusal := run s (updateAccept g.val)

/-- PMU_FRAME_BUILD (R334): At t_k + wait a C37.118.2 output frame is built and handed to its egress path. -/
def execPmuFrameBuild (stream : Fin 256) (s : State) : Host.Outcome State Fault Refusal :=
  run s (pmuFrameBuild stream.val)

/-- EPOCH_START (R350): Epochs start at the first boundary at least 200 µs after all regions are up. -/
def execEpochStart (s : State) : Host.Outcome State Fault Refusal := run s epochStart

/-- EPOCH_CLOSE (R348): Each region closes epoch N at t_N + period + h. -/
def execEpochClose (s : State) : Host.Outcome State Fault Refusal := run s epochCloseAll

/-- REGION_CLOSE_REPORT (R348): A region's CLOSED report and ledger totals reach die H. -/
def execRegionCloseReport (g : Fin 4) (s : State) : Host.Outcome State Fault Refusal := run s (regionCloseReport g.val)

/-- EPOCH_PUBLISH (R348): Die H publishes epoch N, writes the epoch record and releases held updates. -/
def execEpochPublish (s : State) : Host.Outcome State Fault Refusal := run s epochPublish

/-- BAR2_READ (R358): A BAR2 read resolves signal views for the published, previous or pinned epoch. -/
def execBar2Read (off : BitVec 30) (len : BitVec 13) (s : State) : Host.Outcome State Fault Refusal :=
  run s (bar2Read off.toNat len.toNat)

/-- BAR2_WRITE (R358): A BAR2 write is discarded and counted. -/
def execBar2Write (s : State) : Host.Outcome State Fault Refusal := run s bar2Write

/-- PIN_P (R360): PIN_CTRL command 1 pins the published epoch P. -/
def execPinP (s : State) : Host.Outcome State Fault Refusal := run s (hostWrite32 0x308 0x80000001)

/-- PIN_P_MINUS_1 (R360): PIN_CTRL command 2 pins the epoch P−1. -/
def execPinPMinus1 (s : State) : Host.Outcome State Fault Refusal := run s (hostWrite32 0x308 0x80000002)

/-- PIN_RELEASE (R360): PIN_CTRL command 3 releases the pin. -/
def execPinRelease (s : State) : Host.Outcome State Fault Refusal := run s (hostWrite32 0x308 0x80000003)

/-- PIN_LAPSE (R360): A pin lapses one period after it was taken. -/
def execPinLapse (s : State) : Host.Outcome State Fault Refusal := run s pinLapse

end Sys2Proof.Machine
end

