-- ==== Sys2Proof/Machine/CmdTime.lean ====
section
/-! DEFINITION. The commands of timekeeping and the time inputs and outputs (chapter 03): one meaning for each row. -/
namespace Sys2Proof.Machine

/-- OSCILLATOR_CHECK (R77): Every 10 µs the oscillator monitor checks each TKOSC's frequency. -/
def execOscillatorCheck (k : TkId) (ppb : Int) (s : State) : Host.Outcome State Fault Refusal :=
  run s (oscillatorCheck k ppb)

/-- OSCILLATOR_LOST (R77): No TKOSC edge has arrived for 1 µs, so its timekeeper is demoted as oscillator lost. -/
def execOscillatorLost (k : TkId) (s : State) : Host.Outcome State Fault Refusal := run s (oscillatorLost k)

/-- OSCILLATOR_NOT_FITTED (R77): TKOSC_B shows no edge in the first 10 ms after Ballast power-on reset, so TK-B is
demoted. -/
def execOscillatorNotFitted (s : State) : Host.Outcome State Fault Refusal := run s oscillatorNotFitted

/-- REFERENCE_TIMEOUT (R81): A PPS or IRIG_IN reference becomes invalid 1.5 s after its last accepted event. -/
def execReferenceTimeout (r : Fin 3) (s : State) : Host.Outcome State Fault Refusal :=
  run s (referenceTimeout (r.val + 2))

/-- LEASE_RENEWAL (R86): The holder renews its lease at each 10 µs boundary of its own time. -/
def execLeaseRenewal (s : State) : Host.Outcome State Fault Refusal := run s leaseRenewal

/-- LEASE_RENEWAL_MISSED (R95): A 10 µs boundary passes without a renewal, and a W-class event is raised. -/
def execLeaseRenewalMissed (s : State) : Host.Outcome State Fault Refusal := run s leaseRenewalMissed

/-- LEASE_EXPIRY (R86): A lease expires 50 µs after its last renewal, or is revoked. -/
def execLeaseExpiry (s : State) : Host.Outcome State Fault Refusal := run s leaseExpiry

/-- HOLDER_PULSE_MISSING (R86): The holder's pulse is missing at two consecutive boundaries, so its lease is revoked. -/
def execHolderPulseMissing (s : State) : Host.Outcome State Fault Refusal := run s holderPulseMissing

/-- ARBITRATION_DECISION (R91): Within 200 ns of the third disagreement, arbitration demotes the timekeeper further from
the estimate or ends undecided. -/
def execArbitrationDecision (elapsed : Nat) (s : State) : Host.Outcome State Fault Refusal :=
  run s (arbitrationDecision elapsed)

/-- REVERT_CHECK (R97): At H − 1 µs the revert conditions are checked. -/
def execRevertCheck (s : State) : Host.Outcome State Fault Refusal := run s revertCheck

/-- REVERT (R97): At H TK-B emits the pulse and releases the lease for TK-A. -/
def execRevert (s : State) : Host.Outcome State Fault Refusal := run s revert

/-- HOLDOVER_LIMIT_PASSED (R84): The holdover estimate exceeds the limit, so TRACEABLE clears and a W-class event is
raised. -/
def execHoldoverLimitPassed (s : State) : Host.Outcome State Fault Refusal := run s holdoverLimitPassed

/-- LEAP_SECOND (R85): At the end of the UTC day a pending leap changes the TAI − UTC offset. -/
def execLeapSecond (s : State) : Host.Outcome State Fault Refusal := run s leapSecond

/-- TK_TIME_READ (R99): A read of TK_TIME0 latches the holder's KTIME96 into TK_TIME0–3. -/
def execTkTimeRead (i : Fin 4) (wide : Bool) (s : State) : Host.Outcome State Fault Refusal :=
  run s (registerRead false (0x200 + 4 * i.val) wide)

/-- PPS_EDGE (R100): A PPS_IN edge is captured, filtered, labelled and used as a reference event. -/
def execPpsEdge (n : Fin 2) (falling : Bool) (t width : Nat) (s : State) : Host.Outcome State Fault Refusal :=
  run s (ppsEdge n falling t width)

/-- TOD_MESSAGE (R101): A ZDA or binary message received on TOD_RX supplies a seconds label and an offset. -/
def execTodMessage (bytes : List Byte) (t : Nat) (s : State) : Host.Outcome State Fault Refusal :=
  run s (todMessage bytes t)

/-- IRIG_FRAME (R102): An IRIG_IN frame is decoded and its reference marker edge is captured. -/
def execIrigFrame (f : IrigFrame) (s : State) : Host.Outcome State Fault Refusal := run s (irigFrame f)

/-- TRIG_EDGE (R103): A TRIG_IN edge is captured into its 16-entry queue. -/
def execTrigEdge (n : Fin 8) (falling : Bool) (t width : Nat) (s : State) : Host.Outcome State Fault Refusal :=
  run s (trigEdge n falling t width)

/-- TRIG_QUEUE_READ (R103): A read of object 0x2070:05 returns and removes up to 16 capture entries. -/
def execTrigQueueRead (p : Path) (txid : Word) (n : Fin 8) (s : State) : Host.Outcome State Fault Refusal :=
  run s (readCommand 0x207005 n.val p txid.toNat)

/-- PPS_OUT_PULSE (R104): A PPS_OUT emits a pulse at a whole multiple of its period. -/
def execPpsOutPulse (n : Fin 4) (s : State) : Host.Outcome State Fault Refusal := run s (ppsOutPulse n)

/-- IRIG_OUT_FRAME (R105): IRIG_OUT emits a frame for each TAI second. -/
def execIrigOutFrame (s : State) : Host.Outcome State Fault Refusal := run s irigOutFrame

/-- ARM (R107): An ARM command starts a TRIG_OUT pulse plan. -/
def execArm (p : Path) (txid : Word) (n : Fin 8) (s : State) : Host.Outcome State Fault Refusal :=
  run s (writeCommand 0x208005 n.val 1 1 p txid.toNat)

/-- DISARM (R107): A DISARM command stops a TRIG_OUT plan after any pulse in progress. -/
def execDisarm (p : Path) (txid : Word) (n : Fin 8) (s : State) : Host.Outcome State Fault Refusal :=
  run s (writeCommand 0x208005 n.val 1 2 p txid.toNat)

/-- TRIG_OUT_PULSE (R107): TRIG_OUT emits a planned pulse at its programmed instant. -/
def execTrigOutPulse (n : Fin 8) (s : State) : Host.Outcome State Fault Refusal := run s (trigOutPulse n)

/-- SET_COUNTERS (R109): A write of object 0x2000:09 sets both timekeeper counters while both are in FREERUN. -/
def execSetCounters (p : Path) (txid : Word) (t : BitVec 96) (s : State) : Host.Outcome State Fault Refusal :=
  run s (writeCommand 0x200009 0 12 t.toNat p txid.toNat)

/-- TOD_RX_NOT_CURRENT (R85): 1.5 s pass without an accepted binary TOD_RX message with FLAGS bit 0 set, so TOD_RX stops
supplying the offset and leap indication, and the next current source takes over. -/
def execTodRxNotCurrent (s : State) : Host.Outcome State Fault Refusal := run s todNotCurrent

end Sys2Proof.Machine
end

