-- ==== Sys2Proof/Machine/CmdWave.lean ====
section
/-! DEFINITION. The commands of travelling waves (chapter 12): one meaning for each row. -/
namespace Sys2Proof.Machine

/-- FRONT_REARM (R376): A channel re-arms after |d| has stayed below half the threshold for the re-arm time. -/
def execFrontRearm (c : Fin 512) (s : State) : Host.Outcome State Fault Refusal := run s (frontRearm c.val)

/-- CAPTURE_COMPLETE (R379): At window end plus grace an event completes, and absent samples are marked. -/
def execCaptureComplete (e : Fin 64) (s : State) : Host.Outcome State Fault Refusal := run s (captureComplete e.val)

/-- CAPTURE_RELEASE (R380): Writing 1 to object 0xA021:03 releases an event. -/
def execCaptureRelease (p : Path) (txid : Word) (e : Fin 64) (s : State) : Host.Outcome State Fault Refusal :=
  run s (writeCommand 0xA02103 e.val 1 1 p txid.toNat)

/-- CAPTURE_EXPORT (R381): Writing a queue to object 0xA021:02 exports a complete event as one block. -/
def execCaptureExport (p : Path) (txid : Word) (e : Fin 64) (q : Word) (s : State) : Host.Outcome State Fault Refusal
  :=
  run s (writeCommand 0xA02102 e.val 4 q.toNat p txid.toNat)

/-- SNIPPET_COMPLETE (R382): A 64-sample snippet completes and is written into the front kernel's shared blocks. -/
def execSnippetComplete (g : Fin 4) (s : State) : Host.Outcome State Fault Refusal := run s (snippetComplete g.val)

/-- ARRIVAL_HANDOFF (R384): A committed arrival is handed to die H as an arrival record. -/
def execArrivalHandoff (g : Fin 4) (s : State) : Host.Outcome State Fault Refusal := run s (arrivalHandoff g.val)

/-- ARRIVALS_SEND (R387): The records of a line event are sent in ARRIVALS messages to the remote peer. -/
def execArrivalsSend (l : Fin 64) (s : State) : Host.Outcome State Fault Refusal := run s (arrivalsSend l.val)

/-- ARRIVALS_REPEAT (R387): An unacknowledged ARRIVALS message is repeated every 10 ms. -/
def execArrivalsRepeat (txid : Word) (s : State) : Host.Outcome State Fault Refusal := run s (arrivalsRepeat txid.toNat)

/-- ARRIVALS (R386): An ARRIVALS request is received and its records are entered as remote records. -/
def execArrivals (ip : Word) (udp : BitVec 16) (role : Role) (via : Fin 17) (txid : Word) (bytes : List Byte) (s :
  State) : Host.Outcome State Fault Refusal :=
  run s (onKmp ip udp role via (arrivals ip.toNat udp.toNat role via txid.toNat bytes))

/-- ARRIVALS_ACK (R386): An ARRIVALS_ACK response is received. -/
def execArrivalsAck (ip : Word) (udp : BitVec 16) (role : Role) (via : Fin 17) (txid : Word) (s : State) : Host.Outcome
  State Fault Refusal :=
  run s (onKmp ip udp role via (arrivalsAck ip.toNat role txid.toNat))

/-- QUERY (R386): A QUERY request is received and answered with QUERY_REPLY. -/
def execQuery (ip : Word) (udp : BitVec 16) (role : Role) (via : Fin 17) (txid : Word) (bytes : List Byte) (s :
  State) : Host.Outcome State Fault Refusal :=
  run s (onKmp ip udp role via (query ip.toNat udp.toNat role via txid.toNat bytes))

/-- QUERY_REPLY (R386): A QUERY_REPLY response is received. -/
def execQueryReply (ip : Word) (udp : BitVec 16) (role : Role) (via : Fin 17) (bytes : List Byte) (s :
  State) : Host.Outcome State Fault Refusal :=
  run s (onKmp ip udp role via (queryReply ip.toNat role bytes))

/-- REMOTE_WAIT_TIMEOUT (R389): No remote FIRST record arrives within the remote wait, so only a single-ended result is
formed. -/
def execRemoteWaitTimeout (l : Fin 64) (s : State) : Host.Outcome State Fault Refusal := run s (remoteWaitTimeout l.val)

/-- SINGLE_ENDED_LOCATION (R390): At 2τ + tolerance after the FIRST arrival the single-ended location is formed. -/
def execSingleEndedLocation (l : Fin 64) (s : State) : Host.Outcome State Fault Refusal :=
  run s (singleEndedLocation l.val)

end Sys2Proof.Machine
end

