-- ==== Sys2Proof/Machine/Dispatch.lean ====
section
/-! DEFINITION. One arm per command, each a direct call of its meaning. -/
namespace Sys2Proof.Machine
open Sys2Proof

def exec (i : Instr) (s : State) : Host.Outcome State Fault Refusal :=
  match i with
  | .alignmentPulse => Sys2Proof.Machine.execAlignmentPulse s
  | .pulseArrival r roundTrip diff tether => Sys2Proof.Machine.execPulseArrival r roundTrip diff tether s
  | .replicaPulseMissed r => Sys2Proof.Machine.execReplicaPulseMissed r s
  | .flitCrcError l k => Sys2Proof.Machine.execFlitCrcError l k s
  | .laneFailure l k => Sys2Proof.Machine.execLaneFailure l k s
  | .dieReset p txid die => Sys2Proof.Machine.execDieReset p txid die s
  | .read p q => Sys2Proof.Machine.execRead p q s
  | .write p q => Sys2Proof.Machine.execWrite p q s
  | .describe p q => Sys2Proof.Machine.execDescribe p q s
  | .open_ p q => Sys2Proof.Machine.execOpen p q s
  | .commit p q => Sys2Proof.Machine.execCommit p q s
  | .abort_ p q => Sys2Proof.Machine.execAbort p q s
  | .status p q => Sys2Proof.Machine.execStatus p q s
  | .commandComplete p => Sys2Proof.Machine.execCommandComplete p s
  | .kmpRequest ip udp via bytes => Sys2Proof.Machine.execKmpRequest ip udp via bytes s
  | .replayCacheExpiry p txid => Sys2Proof.Machine.execReplayCacheExpiry p txid s
  | .participantReport slot part => Sys2Proof.Machine.execParticipantReport slot part s
  | .allReadySample slot => Sys2Proof.Machine.execAllReadySample slot s
  | .transactionApply slot => Sys2Proof.Machine.execTransactionApply slot s
  | .transactionTimeout slot => Sys2Proof.Machine.execTransactionTimeout slot s
  | .transactionSlotRelease slot => Sys2Proof.Machine.execTransactionSlotRelease slot s
  | .hotRegisterWrite obj elem value => Sys2Proof.Machine.execHotRegisterWrite obj elem value s
  | .registerWrite bar4 off wide value => Sys2Proof.Machine.execRegisterWrite bar4 off wide value s
  | .registerLowHalfRead bar4 off wide => Sys2Proof.Machine.execRegisterLowHalfRead bar4 off wide s
  | .oscillatorCheck k ppb => Sys2Proof.Machine.execOscillatorCheck k ppb s
  | .oscillatorLost k => Sys2Proof.Machine.execOscillatorLost k s
  | .oscillatorNotFitted => Sys2Proof.Machine.execOscillatorNotFitted s
  | .referenceTimeout r => Sys2Proof.Machine.execReferenceTimeout r s
  | .leaseRenewal => Sys2Proof.Machine.execLeaseRenewal s
  | .leaseRenewalMissed => Sys2Proof.Machine.execLeaseRenewalMissed s
  | .leaseExpiry => Sys2Proof.Machine.execLeaseExpiry s
  | .holderPulseMissing => Sys2Proof.Machine.execHolderPulseMissing s
  | .arbitrationDecision elapsed => Sys2Proof.Machine.execArbitrationDecision elapsed s
  | .revertCheck => Sys2Proof.Machine.execRevertCheck s
  | .revert => Sys2Proof.Machine.execRevert s
  | .holdoverLimitPassed => Sys2Proof.Machine.execHoldoverLimitPassed s
  | .leapSecond => Sys2Proof.Machine.execLeapSecond s
  | .tkTimeRead k wide => Sys2Proof.Machine.execTkTimeRead k wide s
  | .ppsEdge n falling t width => Sys2Proof.Machine.execPpsEdge n falling t width s
  | .todMessage bytes t => Sys2Proof.Machine.execTodMessage bytes t s
  | .irigFrame f => Sys2Proof.Machine.execIrigFrame f s
  | .trigEdge n falling t width => Sys2Proof.Machine.execTrigEdge n falling t width s
  | .trigQueueRead p txid n => Sys2Proof.Machine.execTrigQueueRead p txid n s
  | .ppsOutPulse n => Sys2Proof.Machine.execPpsOutPulse n s
  | .irigOutFrame => Sys2Proof.Machine.execIrigOutFrame s
  | .arm p txid n => Sys2Proof.Machine.execArm p txid n s
  | .disarm p txid n => Sys2Proof.Machine.execDisarm p txid n s
  | .trigOutPulse n => Sys2Proof.Machine.execTrigOutPulse n s
  | .setCounters p txid t => Sys2Proof.Machine.execSetCounters p txid t s
  | .frameReceive p u t => Sys2Proof.Machine.execFrameReceive p u t s
  | .cutThroughHeader p bytes t => Sys2Proof.Machine.execCutThroughHeader p bytes t s
  | .ptpMessageReceive p m t => Sys2Proof.Machine.execPtpMessageReceive p m t s
  | .ptpMessageSend n p kind t => Sys2Proof.Machine.execPtpMessageSend n p kind t s
  | .announceReceiptTimeout n p => Sys2Proof.Machine.execAnnounceReceiptTimeout n p s
  | .syncIntervalsMissed n p => Sys2Proof.Machine.execSyncIntervalsMissed n p s
  | .tcMatchExpiry q => Sys2Proof.Machine.execTcMatchExpiry q s
  | .tsqEntryRead p wide => Sys2Proof.Machine.execTsqEntryRead p wide s
  | .linkUp p mode fec => Sys2Proof.Machine.execLinkUp p mode fec s
  | .linkDown p => Sys2Proof.Machine.execLinkDown p s
  | .gateEntryStart p => Sys2Proof.Machine.execGateEntryStart p s
  | .transmissionSelection p delay => Sys2Proof.Machine.execTransmissionSelection p delay s
  | .transmitComplete p => Sys2Proof.Machine.execTransmitComplete p s
  | .holdRequest p => Sys2Proof.Machine.execHoldRequest p s
  | .releaseRequest p => Sys2Proof.Machine.execReleaseRequest p s
  | .bankSwitch p => Sys2Proof.Machine.execBankSwitch p s
  | .orrerySramError p => Sys2Proof.Machine.execOrrerySramError p s
  | .preemptionVerifyTimer p => Sys2Proof.Machine.execPreemptionVerifyTimer p s
  | .orreryPoll b => Sys2Proof.Machine.execOrreryPoll b s
  | .syzygyStart p txid k => Sys2Proof.Machine.execSyzygyStart p txid k s
  | .syzygyStop p txid k => Sys2Proof.Machine.execSyzygyStop p txid k s
  | .syzygyPrepareLead k => Sys2Proof.Machine.execSyzygyPrepareLead k s
  | .prepare ip udp role via txid bytes => Sys2Proof.Machine.execPrepare ip udp role via txid bytes s
  | .confirm ip udp role via txid bytes => Sys2Proof.Machine.execConfirm ip udp role via txid bytes s
  | .refuse ip udp role via txid bytes => Sys2Proof.Machine.execRefuse ip udp role via txid bytes s
  | .syzygyAbort ip udp role via txid bytes => Sys2Proof.Machine.execSyzygyAbort ip udp role via txid bytes s
  | .abortAck ip udp role via txid bytes => Sys2Proof.Machine.execAbortAck ip udp role via txid bytes s
  | .syzygyRetry k => Sys2Proof.Machine.execSyzygyRetry k s
  | .confirmDeadline k => Sys2Proof.Machine.execConfirmDeadline k s
  | .guardDeadline id => Sys2Proof.Machine.execGuardDeadline id s
  | .recoveryResetTimeout h => Sys2Proof.Machine.execRecoveryResetTimeout h s
  | .recoveryReset p txid h => Sys2Proof.Machine.execRecoveryReset p txid h s
  | .latentTestPeriod h => Sys2Proof.Machine.execLatentTestPeriod h s
  | .latentResetPeriod h => Sys2Proof.Machine.execLatentResetPeriod h s
  | .nodeForget n => Sys2Proof.Machine.execNodeForget n s
  | .supervisionFrameSend k => Sys2Proof.Machine.execSupervisionFrameSend k s
  | .lifeCheck k lan => Sys2Proof.Machine.execLifeCheck k lan s
  | .generationReset p txid g => Sys2Proof.Machine.execGenerationReset p txid g s
  | .restartSilenceEnd g => Sys2Proof.Machine.execRestartSilenceEnd g s
  | .singlePathEnd scope => Sys2Proof.Machine.execSinglePathEnd scope s
  | .ringCycleOriginate r edge => Sys2Proof.Machine.execRingCycleOriginate r edge s
  | .ringCopyReceive r p bytes good rx tx => Sys2Proof.Machine.execRingCopyReceive r p bytes good rx tx s
  | .ringSlotPoll r => Sys2Proof.Machine.execRingSlotPoll r s
  | .ringSilenceTimeout r => Sys2Proof.Machine.execRingSilenceTimeout r s
  | .coldStartWait r => Sys2Proof.Machine.execColdStartWait r s
  | .ringModeSwitch r => Sys2Proof.Machine.execRingModeSwitch r s
  | .ringMailboxMessage r cycle box => Sys2Proof.Machine.execRingMailboxMessage r cycle box s
  | .ringMessageSend p txid r bytes => Sys2Proof.Machine.execRingMessageSend p txid r bytes s
  | .ringResponseRead p txid r => Sys2Proof.Machine.execRingResponseRead p txid r s
  | .ringInsert r => Sys2Proof.Machine.execRingInsert r s
  | .ringRemove r => Sys2Proof.Machine.execRingRemove r s
  | .relaySettle r => Sys2Proof.Machine.execRelaySettle r s
  | .windowEntryCommit => Sys2Proof.Machine.execWindowEntryCommit s
  | .ingestCutoff => Sys2Proof.Machine.execIngestCutoff s
  | .streamSilent kind n => Sys2Proof.Machine.execStreamSilent kind n s
  | .timerTrigger b => Sys2Proof.Machine.execTimerTrigger b s
  | .activationDispatch e => Sys2Proof.Machine.execActivationDispatch e s
  | .nop e => Sys2Proof.Machine.execNop e s
  | .add e => Sys2Proof.Machine.execAdd e s
  | .sub e => Sys2Proof.Machine.execSub e s
  | .mul e => Sys2Proof.Machine.execMul e s
  | .and_ e => Sys2Proof.Machine.execAnd e s
  | .or_ e => Sys2Proof.Machine.execOr e s
  | .xor_ e => Sys2Proof.Machine.execXor e s
  | .shl e => Sys2Proof.Machine.execShl e s
  | .shr e => Sys2Proof.Machine.execShr e s
  | .sra e => Sys2Proof.Machine.execSra e s
  | .addi e => Sys2Proof.Machine.execAddi e s
  | .ori e => Sys2Proof.Machine.execOri e s
  | .lui e => Sys2Proof.Machine.execLui e s
  | .fadd e => Sys2Proof.Machine.execFadd e s
  | .fsub e => Sys2Proof.Machine.execFsub e s
  | .fmul e => Sys2Proof.Machine.execFmul e s
  | .fma e => Sys2Proof.Machine.execFma e s
  | .fdiv e => Sys2Proof.Machine.execFdiv e s
  | .fsqrt e => Sys2Proof.Machine.execFsqrt e s
  | .fmax e => Sys2Proof.Machine.execFmax e s
  | .fmin e => Sys2Proof.Machine.execFmin e s
  | .fabs e => Sys2Proof.Machine.execFabs e s
  | .fcmp e => Sys2Proof.Machine.execFcmp e s
  | .fcvt e => Sys2Proof.Machine.execFcvt e s
  | .vsel e => Sys2Proof.Machine.execVsel e s
  | .vbcast e => Sys2Proof.Machine.execVbcast e s
  | .vext e => Sys2Proof.Machine.execVext e s
  | .vsum e => Sys2Proof.Machine.execVsum e s
  | .ld e => Sys2Proof.Machine.execLd e s
  | .st e => Sys2Proof.Machine.execSt e s
  | .vld e => Sys2Proof.Machine.execVld e s
  | .vst e => Sys2Proof.Machine.execVst e s
  | .xfer e => Sys2Proof.Machine.execXfer e s
  | .xferComplete e early => Sys2Proof.Machine.execXferComplete e early s
  | .xwait e => Sys2Proof.Machine.execXwait e s
  | .sget e => Sys2Proof.Machine.execSget e s
  | .sgetComplete e early => Sys2Proof.Machine.execSgetComplete e early s
  | .beq e => Sys2Proof.Machine.execBeq e s
  | .bne e => Sys2Proof.Machine.execBne e s
  | .blt e => Sys2Proof.Machine.execBlt e s
  | .bge e => Sys2Proof.Machine.execBge e s
  | .time e => Sys2Proof.Machine.execTime e s
  | .sput e => Sys2Proof.Machine.execSput e s
  | .kevt e => Sys2Proof.Machine.execKevt e s
  | .end_ e => Sys2Proof.Machine.execEnd e s
  | .updateAccept g => Sys2Proof.Machine.execUpdateAccept g s
  | .watchdog e => Sys2Proof.Machine.execWatchdog e s
  | .engineHardwareFault e kind => Sys2Proof.Machine.execEngineHardwareFault e kind s
  | .rehomeComplete g => Sys2Proof.Machine.execRehomeComplete g s
  | .selfTestComplete e pass => Sys2Proof.Machine.execSelfTestComplete e pass s
  | .slotRestart p txid k => Sys2Proof.Machine.execSlotRestart p txid k s
  | .forceRehome p txid e => Sys2Proof.Machine.execForceRehome p txid e s
  | .engineUnitReset p txid e => Sys2Proof.Machine.execEngineUnitReset p txid e s
  | .imageVerify p txid n => Sys2Proof.Machine.execImageVerify p txid n s
  | .imageVerifyComplete n => Sys2Proof.Machine.execImageVerifyComplete n s
  | .imageErase p txid n => Sys2Proof.Machine.execImageErase p txid n s
  | .pmuFrameBuild stream => Sys2Proof.Machine.execPmuFrameBuild stream s
  | .epochStart => Sys2Proof.Machine.execEpochStart s
  | .epochClose => Sys2Proof.Machine.execEpochClose s
  | .regionCloseReport g => Sys2Proof.Machine.execRegionCloseReport g s
  | .epochPublish => Sys2Proof.Machine.execEpochPublish s
  | .bar2Read off len => Sys2Proof.Machine.execBar2Read off len s
  | .bar2Write => Sys2Proof.Machine.execBar2Write s
  | .pinP => Sys2Proof.Machine.execPinP s
  | .pinPMinus1 => Sys2Proof.Machine.execPinPMinus1 s
  | .pinRelease => Sys2Proof.Machine.execPinRelease s
  | .pinLapse => Sys2Proof.Machine.execPinLapse s
  | .scrubRead stack addr v w => Sys2Proof.Machine.execScrubRead stack addr v w s
  | .hbmUncorrectable stack addr w => Sys2Proof.Machine.execHbmUncorrectable stack addr w s
  | .frontRearm c => Sys2Proof.Machine.execFrontRearm c s
  | .captureComplete e => Sys2Proof.Machine.execCaptureComplete e s
  | .captureRelease p txid e => Sys2Proof.Machine.execCaptureRelease p txid e s
  | .captureExport p txid e q => Sys2Proof.Machine.execCaptureExport p txid e q s
  | .snippetComplete g => Sys2Proof.Machine.execSnippetComplete g s
  | .arrivalHandoff g => Sys2Proof.Machine.execArrivalHandoff g s
  | .arrivalsSend l => Sys2Proof.Machine.execArrivalsSend l s
  | .arrivalsRepeat txid => Sys2Proof.Machine.execArrivalsRepeat txid s
  | .arrivals ip udp role via txid bytes => Sys2Proof.Machine.execArrivals ip udp role via txid bytes s
  | .arrivalsAck ip udp role via txid => Sys2Proof.Machine.execArrivalsAck ip udp role via txid s
  | .query ip udp role via txid bytes => Sys2Proof.Machine.execQuery ip udp role via txid bytes s
  | .queryReply ip udp role via bytes => Sys2Proof.Machine.execQueryReply ip udp role via bytes s
  | .remoteWaitTimeout l => Sys2Proof.Machine.execRemoteWaitTimeout l s
  | .singleEndedLocation l => Sys2Proof.Machine.execSingleEndedLocation l s
  | .linkTrained speed width => Sys2Proof.Machine.execLinkTrained speed width s
  | .l0sEntry => Sys2Proof.Machine.execL0sEntry s
  | .l1Entry => Sys2Proof.Machine.execL1Entry s
  | .configRequest write off value be => Sys2Proof.Machine.execConfigRequest write off value be s
  | .unsupportedRequest memory => Sys2Proof.Machine.execUnsupportedRequest memory s
  | .readCompletion tag c => Sys2Proof.Machine.execReadCompletion tag c s
  | .completionTimeout tag => Sys2Proof.Machine.execCompletionTimeout tag s
  | .moderationIntervalEnd v => Sys2Proof.Machine.execModerationIntervalEnd v s
  | .intxPendClear k mask => Sys2Proof.Machine.execIntxPendClear k mask s
  | .vectorUnmask v => Sys2Proof.Machine.execVectorUnmask v s
  | .perstNAssert => Sys2Proof.Machine.execPerstNAssert s
  | .perstNRelease => Sys2Proof.Machine.execPerstNRelease s
  | .endpointReady => Sys2Proof.Machine.execEndpointReady s
  | .dlDown => Sys2Proof.Machine.execDlDown s
  | .hotReset => Sys2Proof.Machine.execHotReset s
  | .endpointInternalError e => Sys2Proof.Machine.execEndpointInternalError e s
  | .testFreeze => Sys2Proof.Machine.execTestFreeze s
  | .contRelease => Sys2Proof.Machine.execContRelease s
  | .tagQuarantineEnd => Sys2Proof.Machine.execTagQuarantineEnd s
  | .queueAttach q => Sys2Proof.Machine.execQueueAttach q s
  | .queueDetach q => Sys2Proof.Machine.execQueueDetach q s
  | .queueReset q => Sys2Proof.Machine.execQueueReset q s
  | .queueDetachComplete q => Sys2Proof.Machine.execQueueDetachComplete q s
  | .pollDue q => Sys2Proof.Machine.execPollDue q s
  | .pollServe => Sys2Proof.Machine.execPollServe s
  | .coalescingTimeout q => Sys2Proof.Machine.execCoalescingTimeout q s
  | .receiveHoldTimeout q => Sys2Proof.Machine.execReceiveHoldTimeout q s
  | .faultDetection ds began ended => Sys2Proof.Machine.execFaultDetection ds began ended s
  | .safeStateRelease p txid scope => Sys2Proof.Machine.execSafeStateRelease p txid scope s
  | .firstErrorClear p txid => Sys2Proof.Machine.execFirstErrorClear p txid s
  | .stickyClear k mask => Sys2Proof.Machine.execStickyClear k mask s
  | .escalationAcknowledge p txid src unit => Sys2Proof.Machine.execEscalationAcknowledge p txid src unit s
  | .softwareWindowEnd src unit => Sys2Proof.Machine.execSoftwareWindowEnd src unit s
  | .resetComplete src unit => Sys2Proof.Machine.execResetComplete src unit s
  | .watchWindowEnd src unit => Sys2Proof.Machine.execWatchWindowEnd src unit s
  | .injectionArm p txid slot => Sys2Proof.Machine.execInjectionArm p txid slot s
  | .injectionDisarm p txid slot => Sys2Proof.Machine.execInjectionDisarm p txid slot s
  | .railOutOfRange r mv => Sys2Proof.Machine.execRailOutOfRange r mv s
  | .railUndervoltage r mv => Sys2Proof.Machine.execRailUndervoltage r mv s
  | .mainPorRelease mv => Sys2Proof.Machine.execMainPorRelease mv s
  | .sysclkLoss => Sys2Proof.Machine.execSysclkLoss s
  | .vbalALoss mv => Sys2Proof.Machine.execVbalALoss mv s
  | .vbalSwitchBack mv => Sys2Proof.Machine.execVbalSwitchBack mv s
  | .vbalBLoss mv => Sys2Proof.Machine.execVbalBLoss mv s
  | .ballastPorAssert => Sys2Proof.Machine.execBallastPorAssert s
  | .ballastPorRelease sel a b => Sys2Proof.Machine.execBallastPorRelease sel a b s
  | .railsAbsentTimeout => Sys2Proof.Machine.execRailsAbsentTimeout s
  | .enterDoze p txid => Sys2Proof.Machine.execEnterDoze p txid s
  | .dozeEntryStage => Sys2Proof.Machine.execDozeEntryStage s
  | .wake p txid => Sys2Proof.Machine.execWake p txid s
  | .enterLantern p txid => Sys2Proof.Machine.execEnterLantern p txid s
  | .restart p txid => Sys2Proof.Machine.execRestart p txid s
  | .wakeN low => Sys2Proof.Machine.execWakeN low s
  | .wakeTimeout => Sys2Proof.Machine.execWakeTimeout s
  | .junctionSensorRead die t => Sys2Proof.Machine.execJunctionSensorRead die t s
  | .thermalShutdown => Sys2Proof.Machine.execThermalShutdown s
  | .rstNRecognised => Sys2Proof.Machine.execRstNRecognised s
  | .rstNPulseIgnored => Sys2Proof.Machine.execRstNPulseIgnored s
  | .rstNRelease => Sys2Proof.Machine.execRstNRelease s
  | .resetHeld => Sys2Proof.Machine.execResetHeld s
  | .startAttempt sel => Sys2Proof.Machine.execStartAttempt sel s
  | .firmwareVerifyComplete readOk => Sys2Proof.Machine.execFirmwareVerifyComplete readOk s
  | .bootGo => Sys2Proof.Machine.execBootGo s
  | .hostImageTimeout => Sys2Proof.Machine.execHostImageTimeout s
  | .startSelfTestComplete detail failed => Sys2Proof.Machine.execStartSelfTestComplete detail failed s
  | .startConfirmation p txid v => Sys2Proof.Machine.execStartConfirmation p txid v s
  | .confirmationDeadline => Sys2Proof.Machine.execConfirmationDeadline s
  | .mirrorProgramComplete => Sys2Proof.Machine.execMirrorProgramComplete s
  | .slotBlockWrite p txid b off bytes => Sys2Proof.Machine.execSlotBlockWrite p txid b off bytes s
  | .slotVerify p txid slot => Sys2Proof.Machine.execSlotVerify p txid slot s
  | .slotErase p txid slot => Sys2Proof.Machine.execSlotErase p txid slot s
  | .slotVerifyComplete slot readOk => Sys2Proof.Machine.execSlotVerifyComplete slot readOk s
  | .spiRequest words edges => Sys2Proof.Machine.execSpiRequest words edges s
  | .spiFetch words edges => Sys2Proof.Machine.execSpiFetch words edges s
  | .spiClear words edges => Sys2Proof.Machine.execSpiClear words edges s
  | .todRxNotCurrent => Sys2Proof.Machine.execTodRxNotCurrent s
  | .ringReceiveSideDown r p => Sys2Proof.Machine.execRingReceiveSideDown r p s
  | .ringReceiveSideUp r p => Sys2Proof.Machine.execRingReceiveSideUp r p s
  | .testEnChange high => Sys2Proof.Machine.execTestEnChange high s
  | .dieResetComplete c => Sys2Proof.Machine.execDieResetComplete c s
  | .entryForgetTimeExpiry n k => Sys2Proof.Machine.execEntryForgetTimeExpiry n k s

end Sys2Proof.Machine
end

