-- ==== Sys2Proof/Machine/Tick.lean ====
section
/-! DEFINITION. One tick of the timekeeper clock (R74). -/
namespace Sys2Proof.Machine

/-- A tick of 250 MHz: both counters advance by their increments (R74).
DESIGN CHOICE: the tick is what the machine does while no command waits. [DESIGN CHOICE: log 1] -/
def tick (d : Dev) : Dev :=
  { d with tim := { d.tim with
    a := { d.tim.a with count := d.tim.a.count + d.tim.a.incr }
    b := { d.tim.b with count := d.tim.b.count + d.tim.b.incr } } }

end Sys2Proof.Machine
end

