-- ==== Sys2Proof/Machine/Step.lean ====
section
/-! DEFINITION. One step: the command at the front of the queue runs; with none waiting, the clock ticks. -/
namespace Sys2Proof.Machine
open Sys2Proof

/-- One step of the machine. While Ballast power-on reset is asserted no clock runs (R481). [DESIGN CHOICE: log 5, 160] -/
def step (s : State) : Host.Outcome State Fault Refusal :=
  match s.pending with
  | [] => run s tick
  | c :: rest => exec c { s with pending := rest }

/-- The state with the command that a word spells put in front of its queue; unchanged where the word spells none. -/
def State.withFetchWord (s : State) (nbits w : Nat) : State :=
  match decodeTableWord nbits w with
  | some c => { s with pending := c :: s.pending }
  | none => s

end Sys2Proof.Machine
end

