-- ==== Sys2Proof/Safety.lean ====
section
/-! DEFINITION. The words the statements are written in: a command that answers a next state, the parts of the device a command
leaves alone, and the invariant of the state OFF. -/
namespace Sys2Proof.Machine
open Sys2Proof

/-- The parts of the device: the fields of Dev, with the dictionary told apart from the slots, mailboxes and caches of the access
paths, and the detections under way and the persisting conditions told apart from the fault collector's own state. -/
inductive Part where
  | fresh | out | dict | access | tim | arch | flying | live | faults | net | host | lan | ecl | rings | ing | tab | eng | wave | pow | spi
deriving DecidableEq, Repr

/-- The dictionary. -/
def Dev.dictPart (d : Dev) : Dict := d.obj.dict

/-- The access paths: the object part but for the dictionary. -/
def Dev.accessPart (d : Dev) : ObjSt := { d.obj with dict := ⟨[], [], [], []⟩ }

/-- The detections under way. -/
def Dev.flyingPart (d : Dev) : List Detection := d.flt.flying

/-- The conditions that persist. -/
def Dev.livePart (d : Dev) : List (Nat × Nat) := d.flt.live

/-- The fault collector's own state. -/
def Dev.faultsPart (d : Dev) : FaultSt := { d.flt with flying := [], live := [] }

/-- Do two devices agree in a part? -/
def Dev.same (d e : Dev) : Part → Prop
  | .fresh => e.fresh = d.fresh
  | .out => e.out = d.out
  | .dict => e.dictPart = d.dictPart
  | .access => e.accessPart = d.accessPart
  | .tim => e.tim = d.tim
  | .arch => e.arch = d.arch
  | .flying => e.flyingPart = d.flyingPart
  | .live => e.livePart = d.livePart
  | .faults => e.faultsPart = d.faultsPart
  | .net => e.net = d.net
  | .host => e.host = d.host
  | .lan => e.lan = d.lan
  | .ecl => e.ecl = d.ecl
  | .rings => e.rings = d.rings
  | .ing => e.ing = d.ing
  | .tab => e.tab = d.tab
  | .eng => e.eng = d.eng
  | .wave => e.wave = d.wave
  | .pow => e.pow = d.pow
  | .spi => e.spi = d.spi

/-- Every part of the device but those listed is as before. -/
def Dev.changesOnly (d : Dev) (l : List Part) (e : Dev) : Prop := ∀ p, p ∉ l → d.same e p

/-- Every object but the elements listed reads as before, and every shadow copy stands. -/
def Dev.objectsBut (d : Dev) (l : List (Nat × Nat)) (e : Dev) : Prop :=
  e.obj.dict.shNum = d.obj.dict.shNum ∧ e.obj.dict.shOct = d.obj.dict.shOct ∧
  ∀ o k, k < 4294967296 → (o, k) ∉ l → e.get o k = d.get o k ∧ e.getB o k = d.getB o k

/-- The detections that are raised between two devices: appended to those under way. -/
def Dev.raises (d : Dev) (l : List Detection) (e : Dev) : Prop := e.flt.flying = d.flt.flying ++ l

/-- The command answers a next state: the queue and Ballast power-on reset as before, and a device of which `P` holds. -/
def Runs (c : Instr) (s : State) (P : Dev → Prop) : Prop := ∃ e, exec c s = .next { s with dev := e } ∧ P e

/-- The command answers the next state whose device is `e`, the queue and Ballast power-on reset as before. -/
def Gives (c : Instr) (s : State) (e : Dev) : Prop := exec c s = .next { s with dev := e }

/-- The request that the arbiter gets from a path: the one that the mailbox's registers hold once loaded; a request of the sideband
SPI as it stands; one of KMP or of a ring without a staged transaction, and that of a hot register without an ID too. -/
def Dev.asked (d : Dev) (p : Path) (q : Req) : Req :=
  match p with
  | .mailbox m => ((d.mbx m).load q).req
  | .spi => q
  | .hot => { q with txn := 0, txid := 0 }
  | _ => { q with txn := 0 }

/-- The device as the arbiter gets a request of a path: the mailbox loaded, with GO set and BUSY; the sideband SPI BUSY; the
request's ID, if it carries one, in the replay cache. -/
def Dev.arrive (d : Dev) (p : Path) (q : Req) : Dev :=
  let e : Dev := match p with
    | .mailbox m =>
      let d := d.setMbx m ((d.mbx m).load q)
      d.setMbx m { d.mbx m with go := true, busy := true, done := false, err := false, replay := false, irqNow := (d.mbx m).irqEn }
    | .spi => { d with spi := { d.spi with busy := true, valid := false, txid := q.txid, data := [], abort := 0, replay := false } }
    | _ => d
  if (d.asked p q).txid = 0 then e else e.remember p (d.asked p q)

/-- Does a path take a request as a new one: the path is reachable and not busy, a mailbox's length is at most 3,840, and the replay
cache, where the request carries an ID, neither knows it nor is full? -/
def Dev.takes (d : Dev) (p : Path) (q : Req) : Prop :=
  d.reach p = true ∧
  match p with
  | .mailbox m => (d.mbx m).busy = false ∧ (d.asked p q).len ≤ 3840 ∧
    ((d.asked p q).txid = 0 ∨ d.replayed p (d.asked p q) = .apply)
  | .spi => d.spi.busy = false ∧ q.txid ≠ 0 ∧ d.replayed p q = .apply
  | .hot => (Config.hotOffset (q.idx * 256 + q.sub)).isSome = true
  | _ => q.txid ≠ 0 ∧ d.replayed p (d.asked p q) = .apply

/-- The device once a command has been handled with an answer: a hot register answers nothing, another path holds the answer until
it completes, unless the command's own effect has reset the path. -/
def Dev.replied (d : Dev) (p : Path) (q : Req) (r : Resp) : Dev :=
  match p with
  | .hot => d
  | _ => if d.keeps p then d.answerNow p q r false else d

/-- Does the path's role reach a role, and does an object's element answer in the present power state, held nowhere but in regions
that run? -/
def Dev.lets (d : Dev) (p : Path) (o e : Nat) (role : Role) : Prop :=
  (d.pathRole p).below role = false ∧ d.answers o e = true ∧ d.homeDown o e = false

/-- A write of a row can take effect: the path takes the request as a new one, and at the arbiter the path's role, the power state
and the regions let it. -/
def Lets (s : State) (p : Path) (q : Req) (role : Role) : Prop :=
  s.por = false ∧ s.dev.takes p q ∧ (s.dev.arrive p q).lets p (q.idx * 256 + q.sub) q.elem role

/-- The command answers the next state in which the request has had the effect `f` at the arbiter and holds the answer 0. -/
def GivesOn (c : Instr) (s : State) (p : Path) (q : Req) (f : Dev → Dev) : Prop :=
  Gives c s ((f (s.dev.arrive p q)).replied p (s.dev.asked p q) ⟨0, [], 0⟩)

/-- An object command that the path takes as a new one. -/
def Taken (s : State) (p : Path) (q : Req) : Prop := s.por = false ∧ s.dev.takes p q

/-- The command answers the next state in which the request has had the effect `f` at the arbiter and holds the answer `r`. -/
def Answers (c : Instr) (s : State) (p : Path) (q : Req) (r : Resp) (f : Dev → Dev) : Prop :=
  Gives c s ((f (s.dev.arrive p q)).replied p (s.dev.asked p q) r)

/-- Engine `f` issues the word `r.i` of code `op` at cycle `t`: it works and runs an activation, its PC stands within its slot's code
at a legal word, `t` is the first cycle at which the sources the word names are ready, and the watchdog is not yet due. -/
def Dev.issues (d : Dev) (f op : Nat) (src : Ins → List (Bool × Nat)) (r : Run) (t : Nat) : Prop :=
  (d.engine f).state = 0 ∧ d.fetch f = some r ∧ r.x.pc < ikCodeLen r.l.image / 4 ∧ legal (tget 0 r.l.code r.x.pc) = true ∧
    r.i.op = op ∧ t = r.x.ready (src r.i) ∧ t ≤ ikWcet r.l.image

/-- The parts of the device that a command of the hierarchy, the object model, time, network and redundancy can change; none for a command of another
chapter, or one that an access reaches any object through. -/
def touchesTime : Instr → Option (List Part)
  | .alignmentPulse .. => some [.out, .dict, .tim, .flying, .live]
  | .pulseArrival .. => some [.dict, .arch, .flying, .live]
  | .replicaPulseMissed .. => some [.dict, .arch, .flying, .live]
  | .flitCrcError .. => some [.dict, .flying, .faults]
  | .laneFailure .. => some [.dict, .arch, .flying, .live]
  | .commandComplete .. => some [.out, .access, .flying, .rings, .spi]
  | .replayCacheExpiry .. => some [.access, .tim]
  | .participantReport .. => some [.dict, .access, .flying, .rings]
  | .allReadySample .. => some [.dict, .access, .tim, .flying]
  | .transactionApply .. => some [.fresh, .out, .dict, .access, .tim, .flying, .live, .net, .host, .lan, .ecl, .rings, .ing, .tab, .eng, .wave]
  | .transactionTimeout .. => some [.dict, .access, .tim, .flying]
  | .transactionSlotRelease .. => some [.dict, .access, .tim]
  | .registerLowHalfRead .. => some [.out, .dict, .access, .tim, .flying, .live, .net, .host, .lan]
  | .oscillatorCheck .. => some [.dict, .tim, .flying]
  | .oscillatorLost .. => some [.dict, .tim, .flying]
  | .oscillatorNotFitted .. => some [.dict, .tim, .flying]
  | .referenceTimeout .. => some [.dict, .tim]
  | .leaseRenewal .. => some [.tim]
  | .leaseRenewalMissed .. => some [.tim, .flying]
  | .leaseExpiry .. => some [.dict, .tim, .flying, .live]
  | .holderPulseMissing .. => some [.dict, .tim, .flying]
  | .arbitrationDecision .. => some [.dict, .tim, .flying, .live]
  | .revertCheck .. => some [.tim]
  | .revert .. => some [.out, .dict, .tim, .live]
  | .holdoverLimitPassed .. => some [.dict, .tim, .flying, .live]
  | .leapSecond .. => some [.tim]
  | .tkTimeRead .. => some [.out, .dict, .access, .tim, .flying, .live, .net, .host, .lan]
  | .ppsEdge .. => some [.dict, .tim, .flying, .live]
  | .todMessage .. => some [.dict, .tim, .flying, .live]
  | .irigFrame .. => some [.dict, .tim, .flying, .live]
  | .trigEdge .. => some [.dict, .tim, .flying]
  | .ppsOutPulse .. => some [.out, .tim]
  | .irigOutFrame .. => some [.out, .tim]
  | .trigOutPulse .. => some [.out, .dict, .tim]
  | .cutThroughHeader .. => some [.out, .dict, .tim, .flying, .live, .faults, .net, .host, .lan, .ecl]
  | .ptpMessageReceive .. => some [.dict, .tim, .flying, .live, .net]
  | .ptpMessageSend .. => some [.out, .tim, .net]
  | .announceReceiptTimeout .. => some [.dict, .tim, .flying, .net]
  | .syncIntervalsMissed .. => some [.dict, .tim, .flying, .net]
  | .tcMatchExpiry .. => some [.tim, .net]
  | .tsqEntryRead .. => some [.out, .dict, .access, .tim, .flying, .live, .net, .host, .lan]
  | .linkUp .. => some [.out, .dict, .tim, .flying, .live, .net, .lan]
  | .linkDown .. => some [.out, .dict, .tim, .flying, .live, .net, .host, .lan]
  | .gateEntryStart .. => some [.out, .dict, .tim, .flying, .net, .host, .lan]
  | .transmissionSelection .. => some [.out, .dict, .tim, .flying, .net, .host, .lan]
  | .transmitComplete .. => some [.out, .dict, .tim, .net, .host, .lan]
  | .holdRequest .. => some [.tim, .lan]
  | .releaseRequest .. => some [.tim, .lan]
  | .bankSwitch .. => some [.out, .dict, .tim, .flying, .net, .host, .lan]
  | .orrerySramError .. => some [.dict, .flying, .faults, .lan]
  | .preemptionVerifyTimer .. => some [.out, .dict, .lan]
  | .orreryPoll .. => some [.dict, .tim, .host, .lan]
  | .syzygyPrepareLead .. => some [.out, .dict, .access, .tim, .flying, .lan]
  | .prepare .. => some [.out, .dict, .access]
  | .confirm .. => some [.dict, .lan]
  | .refuse .. => some [.dict, .lan]
  | .syzygyAbort .. => some [.out, .dict, .access, .flying]
  | .abortAck .. => some [.dict, .lan]
  | .syzygyRetry .. => some [.out, .dict, .access, .tim, .flying, .lan]
  | .confirmDeadline .. => some [.out, .dict, .access, .tim, .flying, .lan]
  | .guardDeadline .. => some [.dict, .access, .tim, .flying]
  | .recoveryResetTimeout .. => some [.dict, .tim, .ecl]
  | .latentTestPeriod .. => some [.dict, .tim, .flying, .ecl]
  | .latentResetPeriod .. => some [.tim, .ecl]
  | .nodeForget .. => some [.dict, .tim, .ecl]
  | .supervisionFrameSend .. => some [.out, .dict, .tim, .net, .host, .lan, .ecl]
  | .lifeCheck .. => some [.dict, .tim, .flying, .live]
  | .restartSilenceEnd .. => some [.tim, .ecl]
  | .singlePathEnd .. => some [.dict, .tim, .flying, .ecl]
  | .todRxNotCurrent .. => some [.tim]
  | .dieResetComplete .. => some [.out, .dict, .tim, .faults, .lan, .tab]
  | .entryForgetTimeExpiry .. => some [.dict, .tim, .ecl]
  | _ => none

/-- The parts of the device that a command of the rings, the signal engines, the table and the wave engines can change; none for a command of another
chapter, or one that an access reaches any object through. -/
def touchesSignal : Instr → Option (List Part)
  | .ringCycleOriginate .. => some [.out, .dict, .tim, .flying, .host, .lan, .rings]
  | .ringSlotPoll .. => some [.dict, .tim, .host]
  | .ringSilenceTimeout .. => some [.dict, .tim, .rings]
  | .coldStartWait .. => some [.dict, .tim, .rings]
  | .ringModeSwitch .. => some [.dict, .tim, .rings]
  | .ringInsert .. => some [.out, .dict, .rings]
  | .ringRemove .. => some [.out, .dict, .rings]
  | .relaySettle .. => some [.dict, .tim, .rings]
  | .windowEntryCommit .. => some [.dict, .flying, .ing, .eng]
  | .ingestCutoff .. => some [.dict, .tim, .flying, .ing, .tab, .eng]
  | .streamSilent .. => some [.dict, .tim, .ing]
  | .timerTrigger .. => some [.dict, .tim, .flying, .eng]
  | .activationDispatch .. => some [.dict, .eng]
  | .nop .. => some [.dict, .tim, .flying, .eng]
  | .add .. => some [.dict, .tim, .flying, .eng]
  | .sub .. => some [.dict, .tim, .flying, .eng]
  | .mul .. => some [.dict, .tim, .flying, .eng]
  | .and_ .. => some [.dict, .tim, .flying, .eng]
  | .or_ .. => some [.dict, .tim, .flying, .eng]
  | .xor_ .. => some [.dict, .tim, .flying, .eng]
  | .shl .. => some [.dict, .tim, .flying, .eng]
  | .shr .. => some [.dict, .tim, .flying, .eng]
  | .sra .. => some [.dict, .tim, .flying, .eng]
  | .addi .. => some [.dict, .tim, .flying, .eng]
  | .ori .. => some [.dict, .tim, .flying, .eng]
  | .lui .. => some [.dict, .tim, .flying, .eng]
  | .fadd .. => some [.dict, .tim, .flying, .eng]
  | .fsub .. => some [.dict, .tim, .flying, .eng]
  | .fmul .. => some [.dict, .tim, .flying, .eng]
  | .fma .. => some [.dict, .tim, .flying, .eng]
  | .fdiv .. => some [.dict, .tim, .flying, .eng]
  | .fsqrt .. => some [.dict, .tim, .flying, .eng]
  | .fmax .. => some [.dict, .tim, .flying, .eng]
  | .fmin .. => some [.dict, .tim, .flying, .eng]
  | .fabs .. => some [.dict, .tim, .flying, .eng]
  | .fcmp .. => some [.dict, .tim, .flying, .eng]
  | .fcvt .. => some [.dict, .tim, .flying, .eng]
  | .vsel .. => some [.dict, .tim, .flying, .eng]
  | .vbcast .. => some [.dict, .tim, .flying, .eng]
  | .vext .. => some [.dict, .tim, .flying, .eng]
  | .vsum .. => some [.dict, .tim, .flying, .eng]
  | .ld .. => some [.dict, .tim, .flying, .eng]
  | .st .. => some [.dict, .tim, .flying, .eng]
  | .vld .. => some [.dict, .tim, .flying, .eng]
  | .vst .. => some [.dict, .tim, .flying, .eng]
  | .xfer .. => some [.dict, .tim, .flying, .eng]
  | .xferComplete .. => some [.eng]
  | .xwait .. => some [.dict, .tim, .flying, .eng]
  | .sget .. => some [.dict, .tim, .flying, .eng]
  | .sgetComplete .. => some [.eng]
  | .beq .. => some [.dict, .tim, .flying, .eng]
  | .bne .. => some [.dict, .tim, .flying, .eng]
  | .blt .. => some [.dict, .tim, .flying, .eng]
  | .bge .. => some [.dict, .tim, .flying, .eng]
  | .time .. => some [.dict, .tim, .flying, .eng]
  | .sput .. => some [.dict, .tim, .flying, .eng]
  | .kevt .. => some [.dict, .tim, .flying, .eng]
  | .end_ .. => some [.dict, .tim, .flying, .tab, .eng]
  | .updateAccept .. => some [.out, .dict, .flying, .host, .lan, .ing, .tab, .eng, .wave]
  | .watchdog .. => some [.dict, .tim, .flying, .eng]
  | .engineHardwareFault .. => some [.dict, .flying, .faults, .eng]
  | .rehomeComplete .. => some [.dict, .tim, .flying, .eng]
  | .selfTestComplete .. => some [.dict, .flying, .eng]
  | .imageVerifyComplete .. => some [.dict, .eng]
  | .pmuFrameBuild .. => some [.fresh, .out, .dict, .access, .tim, .net, .host, .lan, .ing]
  | .epochStart .. => some [.tim, .tab]
  | .epochClose .. => some [.fresh, .out, .dict, .access, .tim, .flying, .live, .net, .host, .lan, .ecl, .rings, .ing, .tab, .eng, .wave]
  | .regionCloseReport .. => some [.tim, .tab]
  | .epochPublish .. => some [.fresh, .out, .dict, .tim, .flying, .faults, .host, .lan, .tab]
  | .bar2Read .. => some [.out, .dict, .tim, .flying, .live, .net, .host, .lan]
  | .bar2Write .. => some [.out, .dict, .tim, .flying, .live, .net, .host, .lan]
  | .pinLapse .. => some [.tim, .tab]
  | .frontRearm .. => some [.tim, .wave]
  | .captureComplete .. => some [.dict, .tim, .flying]
  | .snippetComplete .. => some [.dict, .tim, .eng, .wave]
  | .arrivalHandoff .. => some [.dict, .flying, .wave]
  | .arrivalsSend .. => some [.fresh, .out, .wave]
  | .arrivalsRepeat .. => some [.out, .dict, .tim, .flying, .wave]
  | .arrivals .. => some [.out, .dict, .access, .flying, .wave]
  | .arrivalsAck .. => some [.dict, .wave]
  | .query .. => some [.out, .dict, .access]
  | .queryReply .. => some [.dict, .flying, .wave]
  | .remoteWaitTimeout .. => some [.tim, .wave]
  | .singleEndedLocation .. => some [.dict, .tim, .flying, .wave]
  | .ringReceiveSideDown .. => some [.rings]
  | .ringReceiveSideUp .. => some [.rings]
  | _ => none

/-- The parts of the device that a command of the endpoint, the queues, fault collection and power can change; none for a command of another
chapter, or one that an access reaches any object through. -/
def touchesHost : Instr → Option (List Part)
  | .scrubRead .. => some [.out, .dict, .tim, .flying, .live, .faults, .host, .lan, .ing, .tab, .wave]
  | .hbmUncorrectable .. => some [.out, .dict, .flying, .live, .faults, .host, .lan, .ing, .tab, .wave]
  | .linkTrained .. => some [.out, .dict, .tim, .flying, .live, .net, .host, .lan]
  | .l0sEntry .. => some [.out, .dict, .tim, .flying, .live, .net, .host, .lan]
  | .l1Entry .. => some [.out, .dict, .tim, .flying, .live, .net, .host, .lan]
  | .configRequest .. => some [.fresh, .out, .dict, .tim, .flying, .live, .net, .host, .lan]
  | .unsupportedRequest .. => some [.out, .dict, .tim, .flying, .live, .net, .host, .lan]
  | .readCompletion .. => some [.fresh, .out, .dict, .tim, .flying, .live, .net, .host, .lan, .rings]
  | .completionTimeout .. => some [.out, .dict, .tim, .flying, .live, .net, .host, .lan]
  | .moderationIntervalEnd .. => some [.out, .dict, .tim, .host, .lan]
  | .vectorUnmask .. => some [.out, .dict, .host, .lan]
  | .perstNAssert .. => some [.out, .dict, .tim, .flying, .live, .net, .host, .lan, .pow]
  | .perstNRelease .. => some [.out, .dict, .tim, .flying, .live, .net, .host, .lan]
  | .endpointReady .. => some [.host, .pow]
  | .dlDown .. => some [.out, .dict, .tim, .flying, .live, .net, .host, .lan]
  | .hotReset .. => some [.out, .dict, .tim, .flying, .live, .net, .host, .lan]
  | .endpointInternalError .. => some [.out, .dict, .tim, .flying, .live, .faults, .net, .host, .lan]
  | .testFreeze .. => some [.fresh, .out, .dict, .tim, .flying, .live, .net, .host, .lan]
  | .contRelease .. => some [.fresh, .out, .dict, .tim, .flying, .live, .net, .host, .lan]
  | .tagQuarantineEnd .. => some [.out, .tim, .host]
  | .queueDetachComplete .. => some [.out, .dict, .flying, .live, .host, .lan]
  | .pollDue .. => some [.dict, .tim, .host]
  | .pollServe .. => some [.out, .dict, .tim, .host]
  | .coalescingTimeout .. => some [.out, .dict, .tim, .host, .lan]
  | .receiveHoldTimeout .. => some [.dict, .tim, .host]
  | .faultDetection .. => some [.fresh, .out, .dict, .access, .tim, .arch, .flying, .live, .faults, .net, .host, .lan, .ecl, .rings, .tab, .eng, .wave]
  | .softwareWindowEnd .. => some [.fresh, .out, .dict, .access, .tim, .arch, .flying, .live, .faults, .net, .host, .lan, .rings, .tab, .eng, .wave]
  | .resetComplete .. => some [.out, .dict, .faults, .lan, .tab]
  | .watchWindowEnd .. => some [.dict, .tim, .faults]
  | .railOutOfRange .. => some [.dict, .flying, .live]
  | .mainPorRelease .. => some [.dict, .tim, .flying, .live, .net, .pow]
  | .sysclkLoss .. => some [.dict, .flying, .live]
  | .vbalALoss .. => some [.dict, .tim, .flying, .live]
  | .vbalSwitchBack .. => some [.dict, .live]
  | .vbalBLoss .. => some [.dict, .flying, .live]
  | .railsAbsentTimeout .. => some [.dict, .tim, .flying, .live, .net, .pow]
  | .wakeN .. => some [.out, .pow]
  | .wakeTimeout .. => some [.out, .dict, .tim, .pow]
  | .junctionSensorRead .. => some [.dict, .flying, .live]
  | .thermalShutdown .. => some [.dict, .tab, .pow]
  | .rstNPulseIgnored .. => some [.dict]
  | .rstNRelease .. => some [.out, .dict, .tim, .pow]
  | .resetHeld .. => some [.dict, .tim]
  | .startAttempt .. => some [.out, .dict, .tim, .arch, .flying, .net, .host, .lan, .ecl, .rings, .ing, .tab, .eng, .wave, .pow]
  | .firmwareVerifyComplete .. => some [.dict, .pow]
  | .hostImageTimeout .. => some [.dict, .tim, .pow]
  | .startSelfTestComplete .. => some [.dict, .flying, .live, .faults, .tab, .eng, .pow]
  | .confirmationDeadline .. => some [.dict, .tim, .pow]
  | .slotVerifyComplete .. => some [.dict, .pow]
  | _ => none

/-- While Ballast power-on reset is asserted the device holds nothing but its flash and the levels of its pins (R17, R480, R486). -/
def State.Inv (s : State) : Prop := s.por = true → s.dev = s.dev.off

end Sys2Proof.Machine
end

