-- ==== Sys2Proof/Certificates/Slice0/Obligations.lean ====
section
/-! DEFINITION. The statements for the provers, one proposition each. A statement that names a log entry rests on the model's choice
there. -/
open Sys2Proof Sys2Proof.Machine

/-- With a command at the front of the queue a step is that command's effect on the state with the queue's rest. With no command waiting
and Ballast power-on reset released a step is one tick: both timekeepers' counters advance by their increments, 4 ns adjusted by the servo, in units of
2^-32 ns, and nothing else changes (the tick is the model's choice, log entry 1); while it is asserted nothing changes. -/
def Obligations.StepRunsTheFront : Prop :=
  (∀ (c : Instr) (rest : List Instr) (s : State), step { s with pending := c :: rest } = exec c { s with pending := rest }) ∧
  (∀ s : State, s.pending = [] → s.por = true → step s = .next s) ∧
  (∀ s : State, s.pending = [] → s.por = false →
    step s = .next { s with dev := { s.dev with tim := { s.dev.tim with
      a := { s.dev.tim.a with count := s.dev.tim.a.count + (17179869184 + 17179869184 * s.dev.tim.a.adjust / 1000000000000000000).toNat }
      b := { s.dev.tim.b with count := s.dev.tim.b.count + (17179869184 + 17179869184 * s.dev.tim.b.adjust / 1000000000000000000).toNat } } } })

/-- The machine right after reset has Ballast power-on reset asserted, no command waiting, an empty flash, both timekeepers at KTIME96
zero in FREERUN with no lease holder, no detection under way, nothing emitted, every object at its default; and it meets the invariant.
(Model's choices: log 76, 77, 170, 171.) -/
def Obligations.ResetState : Prop :=
  State.reset.Inv ∧ State.reset.por = true ∧ State.reset.pending = [] ∧ State.reset.dev.out = [] ∧ State.reset.dev.pow.flash = ⟨[], [], []⟩ ∧
  State.reset.dev.tim.a.count = 0 ∧ State.reset.dev.tim.b.count = 0 ∧ State.reset.dev.tim.holder = none ∧
  State.reset.dev.servo .a = 0 ∧ State.reset.dev.servo .b = 0 ∧ State.reset.dev.flt.flying = [] ∧
  (∀ o e, State.reset.dev.get o e = dfltNum o e ∧ State.reset.dev.getB o e = dfltOct o e)

/-- From every state that meets the invariant, whatever command stands at the front of its queue and whatever its operands, a step
leads to a state that meets it: while Ballast power-on reset is asserted the device holds nothing but its flash and its pins' levels, so no command has had an
effect there. Every step leads to a next state: none ends in a fault or a refusal.
(Model's choices: log 78, 158.) -/
def Obligations.EveryStepKeepsTheInvariant : Prop := ∀ s : State, s.Inv → ∃ t : State, step s = .next t ∧ t.Inv

/-- A command of chapters 01 to 06 that is no access to an object leaves the queue and Ballast power-on reset as they are, and every part of the device
as it was but those listed for it: the dictionary, the access paths, time, the hierarchy, detections, persisting conditions, the fault collector, network
time, the host's endpoint and queues, the ports, Eclipse, the rings, ingest, the table, the engines, the wave engines, power and the sideband.
(Model's choices: log 2, 3, 78.) -/
def Obligations.FrameOfTimeAndNetworkCommands : Prop := ∀ (c : Instr) (l : List Part), touchesTime c = some l →
  ∀ s t : State, exec c s = .next t → t.pending = s.pending ∧ t.por = s.por ∧ s.dev.changesOnly l t.dev

/-- A command of chapters 07 to 12 that is no access to an object leaves the queue and Ballast power-on reset as they are, and every part of the device
as it was but those listed for it. An engine's instruction can change the engines and, where it faults or ends, the dictionary, time and the detections; END
the region's updates too.
(Model's choices: log 2, 3, 78.) -/
def Obligations.FrameOfSignalCommands : Prop := ∀ (c : Instr) (l : List Part), touchesSignal c = some l →
  ∀ s t : State, exec c s = .next t → t.pending = s.pending ∧ t.por = s.por ∧ s.dev.changesOnly l t.dev

/-- A command of chapters 13 to 17 that is no access to an object leaves the queue and Ballast power-on reset as they are, and every part of the device
as it was but those listed for it.
(Model's choices: log 2, 3, 78.) -/
def Obligations.FrameOfHostAndPowerCommands : Prop := ∀ (c : Instr) (l : List Part), touchesHost c = some l →
  ∀ s t : State, exec c s = .next t → t.pending = s.pending ∧ t.por = s.por ∧ s.dev.changesOnly l t.dev

/-- R345. Under an anchor (epoch number N_a, start t_a, k epochs per `secs` seconds) a time t with t_N ≤ t < t_(N+1) is in epoch N, both
boundaries compared exactly: multiplied by the epochs per second, nothing is rounded, for the epochs before the anchor too. The device takes the epoch of
a time from the anchor that governs the time; a device that holds the same anchors finds the same epoch, whatever its time of arrival. An update record's time
is its TS64 and its fraction below a nanosecond. -/
def Obligations.EpochMembership : Prop :=
  (∀ (x : Seg) (t n : Nat), 0 < x.perSec → 0 < x.secs →
    ((x.start * x.perSec : Nat) : Int) + ((n : Int) - x.n) * (x.secs * 65536000000000 : Nat) ≤ ((t * x.perSec : Nat) : Int) →
    ((t * x.perSec : Nat) : Int) < ((x.start * x.perSec : Nat) : Int) + ((n : Int) + 1 - x.n) * (x.secs * 65536000000000 : Nat) →
    x.epochOf t = n) ∧
  (∀ (d e : Dev) (t : Nat), d.epochOf t = (segAt t d.tab.segs).epochOf t ∧ (e.tab.segs = d.tab.segs → e.epochOf t = d.epochOf t)) ∧
  (∀ (now : Nat) (b : List Byte), updTime now b = timeOfTs64 now (leAt b 8 8) + leAt b 28 2)

/-- R146. With an anchor period of 0, cycle n starts at B + n × T_c in units of 2^-32 ns, exactly, negative n too: B is the bank's base time
in units of 2^-16 ns, T_c its whole nanoseconds and its fraction. The cycle in force at a time is the n whose start, lower bits dropped, is not after it while the
next one's is. -/
def Obligations.BankCycles : Prop :=
  (∀ (b : Bank) (n : Int), b.anchor = 0 → b.cycle.start n = (b.base : Int) * 65536 + n * ((b.whole * 2 ^ 32 + b.frac : Nat) : Int)) ∧
  (∀ (c : Cycle) (t n : Int), c.anchor = 0 → 0 < c.len → (c.at_ t = n ↔ c.startAt n ≤ t ∧ t < c.startAt (n + 1)))

/-- R70, R71. A KTIME96 value holds the seconds in bits 95:48, the nanoseconds below 10^9 in bits 47:16 and the fraction in bits 15:0, and
goes as FRAC, NS, SECONDS, each little-endian; a TS64 value holds the low 32 bits of the seconds and the nanoseconds, and goes as NS, SECONDS. A time below
2^48 s is found again from its KTIME96 value, and one without a fraction, from 2^31 s before the current time, included, to 2^31 s after it, excluded, from its TS64
value. -/
def Obligations.TimeFormats : Prop := ∀ t : Nat,
  let seconds := t / 65536000000000
  let nanos := t / 65536 % 1000000000
  ktimeOf t < 2 ^ 96 ∧ bits (ktimeOf t) 48 48 = seconds % 2 ^ 48 ∧ bits (ktimeOf t) 16 32 = nanos ∧ bits (ktimeOf t) 0 16 = t % 65536 ∧
  leBytes 12 (ktimeOf t) = leBytes 2 (t % 65536) ++ leBytes 4 nanos ++ leBytes 6 (seconds % 2 ^ 48) ∧
  (seconds < 2 ^ 48 → timeOfKtime (ktimeOf t) = t) ∧
  ts64Of t < 2 ^ 64 ∧ bits (ts64Of t) 32 32 = seconds % 2 ^ 32 ∧ bits (ts64Of t) 0 32 = nanos ∧
  leBytes 8 (ts64Of t) = leBytes 4 nanos ++ leBytes 4 (seconds % 2 ^ 32) ∧
  (∀ now : Nat, t % 65536 = 0 → now ≤ t + sec (2 ^ 31) → t < now + sec (2 ^ 31) → timeOfTs64 now (ts64Of t) = t)

/-- R273. Lane j (0 to 7) of a vector register is its bits 32j + 31 to 32j, and lane i (0 to 15) in packed mode its bits 16i + 15 to 16i. A word
of data memory is little-endian. A vector load from address a puts the word at a + 4j into lane j of the register it names. -/
def Obligations.VectorLanes : Prop :=
  (∀ v j : Nat, laneOf 32 v j = v / 2 ^ (32 * j) % 2 ^ 32 ∧ laneOf 16 v j = v / 2 ^ (16 * j) % 2 ^ 16) ∧
  (∀ (t : Tab Nat) (a k : Nat), k < 4 → (getWords t a 1)[k]? = some (BitVec.ofNat 8 (tget 0 t (a / 4) / 256 ^ k))) ∧
  (∀ (s : State) (f : Fin 128) (r : Run) (t : Nat), s.por = false → s.dev.issues f 0x2A (fun i => [(false, i.a)]) r t →
    let a : Nat := (((r.x.getS r.i.a : Int) + r.i.simm) % 4294967296).toNat
    a % 32 = 0 → a + 32 ≤ ikRegion r.l.image →
    Runs (.vld f) s fun e => (∀ j : Nat, j < 8 → laneOf 32 ((e.engine f).getV r.i.d) j = tget 0 r.l.data ((a + 4 * j) / 4) % 2 ^ 32) ∧
      (∀ k : Nat, k ≠ r.i.d → (e.engine f).getV k = r.x.getV k) ∧ (e.engine f).s = r.x.s ∧ (e.engine f).pc = r.x.pc + 1 ∧
      s.dev.changesOnly [.eng] e)

/-- R289. END issues at the engine's cycle t, or once its moves are complete. No later than the deadline, neither counter of misses moves and no
deadline miss is raised. Later, the activation's records are still handed to the region as one unit (a WARMUP one has none to hand over), objects 0x5000:06 and
0x5300:0B advance by one, and source 218, of class W, is raised for the logical engine. -/
def Obligations.DeadlineMisses : Prop := ∀ (s : State) (f : Fin 128) (r : Run) (a : Act) (t : Nat), s.por = false →
  s.dev.issues f 0x3B (fun _ => []) r t → r.x.act = some a → a.slot < 2048 → a.binding < 65536 →
  let t' := if r.x.moves = [] then max t r.x.moved else t
  let now := (s.dev.at_ (r.x.start + ns t')).now
  let l := a.slot / 16
  Runs (.end_ f) s fun e =>
    let new := e.flt.flying.drop s.dev.flt.flying.length
    (now ≤ a.deadline → e.get 0x500006 l = s.dev.get 0x500006 l ∧ e.get 0x53000B a.binding = s.dev.get 0x53000B a.binding ∧
      ∀ x ∈ new, x.src ≠ 218) ∧
    (a.deadline < now → e.get 0x500006 l = (s.dev.get 0x500006 l + 1) % 2 ^ 64 ∧
      e.get 0x53000B a.binding = (s.dev.get 0x53000B a.binding + 1) % 2 ^ 64 ∧ (⟨218, l, 0, 0, now, false⟩ : Detection) ∈ new ∧
      srcClass 218 = clsW) ∧
    (bit a.flags 1 = false → r.x.upd ≠ [] →
      (e.region (f.val / 32)).units = (s.dev.region (f.val / 32)).units ++ [⟨2 ^ 30 + a.slot, r.x.upd⟩])

/-- R380. A write of 1 to object 0xA021:03 that its path takes and whose role reaches it releases the event: it is empty and its state reads 0.
While the event is exporting the write is answered with 0x0502 and the event stays as it is. -/
def Obligations.CaptureReleases : Prop := ∀ (s : State) (p : Path) (txid : Word) (e : Fin 64),
  let q := reqFor 2 0xA02103 e txid.toNat (leBytes 1 1)
  Lets s p q .operator →
  ((s.dev.arrive p q).capState e ≠ 3 → Runs (.captureRelease p txid e) s fun x => x.capState e = 0 ∧ x.capture e = capture0) ∧
  ((s.dev.arrive p q).capState e = 3 → Answers (.captureRelease p txid e) s p q ⟨0x0502, [], 0⟩ id)

/-- A pulse within 0.5 ns of a loaded replica that is not to step is counted and gives its error, and the second in a row
synchronises it; a third pulse missed in a row leaves it unsynchronised, to step at the next one, and raises source 23. No other
replica changes.
(Model's choices: log 8, 169.) -/
def Obligations.ReplicaPulses : Prop := ∀ (s : State) (r : Fin 25), s.por = false → (s.dev.rep r).loaded = true →
  (∀ (roundTrip : Nat) (diff tether : Int), (s.dev.rep r).remeasure ≤ 1 → (s.dev.rep r).stepNext = false →
    absInt (diff - crossing ((roundTrip / 2 :: (s.dev.rep r).lats).take 64) (Config.replicaCalibration r)) ≤ 32768 →
    Runs (.pulseArrival r roundTrip diff tether) s fun e =>
      (e.rep r).err = diff - crossing ((roundTrip / 2 :: (s.dev.rep r).lats).take 64) (Config.replicaCalibration r)
      ∧ (e.rep r).good = (s.dev.rep r).good + 1
      ∧ (e.rep r).sync = ((s.dev.rep r).sync || decide (2 ≤ (s.dev.rep r).good + 1))
      ∧ (∀ k, k ≠ r.val → e.rep k = s.dev.rep k)
      ∧ s.dev.changesOnly [.arch, .dict, .flying, .live] e) ∧
  ((s.dev.rep r).missed < 2 →
    Gives (.replicaPulseMissed r) s
      (s.dev.setRep r { s.dev.rep r with missed := (s.dev.rep r).missed + 1, good := 0 })) ∧
  ((s.dev.rep r).missed = 2 → (s.dev.rep r).sync = true →
    Runs (.replicaPulseMissed r) s fun e =>
      (e.rep r).sync = false ∧ (e.rep r).stepNext = true ∧ (∀ k, k ≠ r.val → e.rep k = s.dev.rep k)
      ∧ s.dev.raises [⟨23, r, 0, 0, s.dev.now, false⟩] e ∧ (23, r.val) ∈ e.flt.live
      ∧ s.dev.changesOnly [.arch, .flying, .live, .dict] e ∧ s.dev.objectsBut [(0x801006, 23)] e)

/-- A flit CRC error raises source 384 (no injection slot armed for that checker); a lane failure uses a spare and
raises source 385, or with none left takes the link down and raises source 386; a die's reset ends when its 5 ms are over, with
both its regions up.
(Model's choices: log 9, 14, 93, 121.) -/
def Obligations.LinkErrors : Prop := ∀ (s : State), s.por = false →
  (∀ (l : Fin 3) (k : Fin 2), s.dev.armedSlot 9 (2 * l.val + k.val) 0 = none →
    Gives (.flitCrcError l k) s (s.dev.raise 384 (2 * l.val + k.val) 0 0)) ∧
  (∀ (l : Fin 3) (k : Fin 2), (s.dev.link l).up = true → 0 < (s.dev.link l).spares →
    Gives (.laneFailure l k) s
      ((s.dev.setLink l { s.dev.link l with spares := (s.dev.link l).spares - 1 }).raise 385 (2 * l.val + k.val) 0 0)) ∧
  (∀ (l : Fin 3) (k : Fin 2), (s.dev.link l).up = true → (s.dev.link l).spares = 0 →
    Runs (.laneFailure l k) s fun e => (e.link l).up = false ∧ (386, l.val) ∈ e.flt.live
      ∧ (⟨386, l, 0, 0, s.dev.now, false⟩ : Detection) ∈ e.flt.flying ∧ s.dev.changesOnly [.arch, .flying, .live, .dict] e) ∧
  (∀ (c : Fin 2) (r : ResetRun), s.dev.flt.resets.find? (fun r => r.ended.isNone && r.scope == .die (c.val + 1)) = some r →
    Runs (.dieResetComplete c) s fun e => (e.region (2 * c.val)).up = true ∧ (e.region (2 * c.val + 1)).up = true
      ∧ e.tim = (s.dev.at_ (r.started + ms 5)).tim ∧ s.dev.changesOnly [.tim, .faults, .tab] e)

/-- At the next whole microsecond the holder's pending steps are applied and the handover offset slewed; the pulse
leaves with the boundary and the time status of that instant, and the comparison notes the difference of the other timekeeper.
(Model's choices: log 16, 17.) -/
def Obligations.AlignmentPulse : Prop := ∀ (s : State) (k : TkId), s.por = false → s.dev.tim.holder = some k →
  Runs .alignmentPulse s fun e =>
    let d1 := s.dev.at_ (ceilTo (if s.dev.tim.lastPulse = s.dev.now then s.dev.now + 1 else s.dev.now) (us 1))
    let d2 := ((d1.applyStep k).applyStep k.other).slewHandover
    e.out = s.dev.out ++ [.pulse (ktimeOf d2.now) d2.tkStatus] ∧ e.tim.lastPulse = d2.now ∧ e.tim.pulsesMissing = 0
    ∧ e.tim.diff = (d2.now : Int) - (d2.tim.tk k.other).time ∧ e.tim.holder = some k
    ∧ s.dev.changesOnly [.out, .tim, .dict, .flying, .live] e

/-- A check within 200 ppm marks an oscillator good; one beyond it, an oscillator without an edge for 1 us, and one not fitted demote
their timekeeper with reasons 2, 1 and 6. A demotion of a timekeeper not yet demoted sets its role to demoted, its reason, counts it,
revokes a lease it holds, raises source 16 with the reason, and leaves the other timekeeper's role and the other objects alone; one
already demoted keeps its reason.
(Model's choices: log 4.) -/
def Obligations.TimekeeperDemotion : Prop :=
  (∀ (s : State) (k : TkId), s.por = false →
    (∀ ppb : Int, absInt ppb ≤ 200000 → Gives (.oscillatorCheck k ppb) s (s.dev.updTk k fun x => { x with oscOk := true })) ∧
    (∀ ppb : Int, 200000 < absInt ppb →
      Gives (.oscillatorCheck k ppb) s ((s.dev.updTk k fun x => { x with oscOk := false }).demote k 2)) ∧
    Gives (.oscillatorLost k) s ((s.dev.updTk k fun x => { x with oscOk := false }).demote k 1) ∧
    Gives .oscillatorNotFitted s ((s.dev.updTk .b fun x => { x with oscOk := false }).demote .b 6)) ∧
  (∀ (d : Dev) (k : TkId) (r : Nat), d.role k = 2 → d.demote k r = d) ∧
  (∀ (d : Dev) (k : TkId) (r : Nat), d.role k ≠ 2 →
    let e := d.demote k r
    e.role k = 2 ∧ e.get 0x200106 k.num = r ∧ e.get 0x200107 k.num = (d.get 0x200107 k.num + 1) % 2 ^ 32 ∧ e.role k.other = d.role k.other ∧
    e.tim.holder = (if d.tim.holder = some k then none else d.tim.holder) ∧ (e.tim.tk k.other) = d.tim.tk k.other ∧
    d.raises [⟨16, k.num, r, 0, d.now, false⟩] e ∧ d.changesOnly [.dict, .tim, .flying] e ∧
    d.objectsBut [(0x200101, k.num), (0x200106, k.num), (0x200107, k.num)] e)

/-- A holder renews its lease at its next 10 us boundary. A renewal missed is noted once and raises source 17. The standby's first missing
pulse is counted 50 ns after its boundary; the second demotes the holder with reason 3. At its expiry, 50 us after the last renewal,
the holder is demoted with reason 4 and the lease passes: to the other timekeeper if eligible, which goes on from the last
comparison's difference with three comparisons skipped; with none eligible time is lost and source 21 raised. A started arbitration
with exactly one timekeeper within its threshold of the reference demotes the other with reason 5. A revert allowed by its check hands
the lease to TK-A with the difference at the boundary.
(Model's choices: log 4, 11.) -/
def Obligations.LeaseKeeping : Prop := ∀ (s : State) (k : TkId), s.por = false →
  (s.dev.tim.holder = some k →
    let due := ceilTo (s.dev.tim.tk k).time (us 10)
    let d := s.dev.at_ (s.dev.now + (due - (s.dev.tim.tk k).time))
    Gives .leaseRenewal s (d.setTim { d.tim with renewedAt := due, missedRenewal := false })) ∧
  (s.dev.tim.holder = some k → s.dev.tim.missedRenewal = false →
    let d := s.dev.at_ (s.dev.now + (s.dev.tim.renewedAt + us 10 - (s.dev.tim.tk k).time))
    Gives .leaseRenewalMissed s ((d.setTim { d.tim with missedRenewal := true }).raise 17 k.num 0 0)) ∧
  (s.dev.tim.holder = some k → s.dev.role k.other = 1 →
    let d := s.dev.at_ (ceilTo (s.dev.tim.lastPulse + 1 + us s.dev.tim.pulsesMissing) (us 1) + ns 50)
    (s.dev.tim.pulsesMissing = 0 → Gives .holderPulseMissing s (d.setTim { d.tim with pulsesMissing := 1 })) ∧
    (1 ≤ s.dev.tim.pulsesMissing → Gives .holderPulseMissing s
      ((d.setTim { d.tim with pulsesMissing := d.tim.pulsesMissing + 1 }).demote k 3))) ∧
  (s.dev.tim.holder = some k →
    Gives .leaseExpiry s (((s.dev.at_ (s.dev.now + (s.dev.tim.renewedAt + us 50 - (s.dev.tim.tk k).time))).demote k 4).passLease)) ∧
  (∀ d : Dev, d.eligible d.tim.drive.other = true →
    d.passLease.tim.holder = some d.tim.drive.other ∧ d.passLease.tim.drive = d.tim.drive.other ∧
    d.passLease.tim.hOffset = d.tim.diff ∧ d.passLease.role d.tim.drive.other = 0 ∧ d.passLease.tim.skip = 3 ∧
    (21, 0) ∉ d.passLease.flt.live) ∧
  (∀ d : Dev, d.eligible .a = false → d.eligible .b = false →
    d.passLease = (d.raise 21 0 0 0).setLive 21 0 true) ∧
  (∀ (elapsed t : Nat), s.dev.tim.arb ≠ .idle → s.dev.arbRef.last = some t → elapsed ≤ sec 2 → s.dev.power ≠ 3 →
    ns (s.dev.get 0x200002 0) < absInt (((s.dev.arbRef.estTime + elapsed : Nat) : Int) - s.dev.compared k) →
    absInt (((s.dev.arbRef.estTime + elapsed : Nat) : Int) - s.dev.compared k.other) ≤ ns (s.dev.get 0x200002 0) →
    Gives (.arbitrationDecision elapsed) s
      (((s.dev.setTim { s.dev.tim with arb := .idle, disagree := 0 }).setLive 18 0 false).demote k 5)) ∧
  (∀ h : Nat, s.dev.tim.revertAt = some h → s.dev.tim.holder = some .b → absInt s.dev.tim.diff ≤ ns 2 → s.dev.tim.arb = .idle →
    (s.dev.at_ (h - us 1)).eligible .a = true →
    let d := s.dev.at_ (h - us 1)
    Gives .revertCheck s (d.setTim { d.tim with revertOk := true })) ∧
  (∀ h : Nat, s.dev.tim.revertAt = some h → s.dev.tim.revertOk = true →
    let d := s.dev.at_ h
    let e := d.emit (.pulse (ktimeOf d.now) d.tkStatus)
    let f := e.setTim { e.tim with lastPulse := e.now }
    Gives .revert s (f.acquire .a ((f.now : Int) - (f.tim.tk .a).time)))

/-- In RUN: a PPS edge of the chosen direction, at least 50 ns wide, half a second or more after the last and consistent with a valid
reference, raises source 24 at the captured time less the cable delay and meets its label; one too close is counted, and so is one that
is not consistent with a valid reference's last event, which is no accepted edge. A malformed TOD
message is counted; one whose label is for the next edge is kept for it. An IRIG-B frame with bad parity or without a year is counted.
A reference 1.5 s after its last accepted event is no longer valid; TOD_RX then stops being current. A holder in holdover at its limit
raises source 20. A pending leap second takes effect at the end of the UTC day.
(Model's choices: log 4, 12.) -/
def Obligations.TimeReferences : Prop := ∀ (s : State), s.por = false →
  (∀ (n : Fin 2) (falling : Bool) (t width u : Nat), s.dev.power = 2 → falling = (s.dev.get 0x202001 n == 1) → 50 ≤ width →
    let d := s.dev.at_ t
    let t1 := shiftTime (quantise t) (- psTime (d.geti 0x202002 n))
    (tget ppsIn0 d.tim.ppsIn n).lastEdge = some u →
    (u + ms 500 ≤ t1 → (d.ref (2 + n)).last = none →
      Gives (.ppsEdge n falling t width) s
        (((d.setTim { d.tim with ppsIn := tput ppsIn0 d.tim.ppsIn n ⟨some t1, none⟩ }).raiseAt t1 24 (8 + n) 0 0).labelEdge n t1)) ∧
    (∀ v : Nat, u + ms 500 ≤ t1 → (d.ref (2 + n)).last = some v → (d.ref (2 + n)).valid = true → refConsistent (2 + n) v 0 t1 0 = false →
      Gives (.ppsEdge n falling t width) s
        (((d.setTim { d.tim with ppsIn := tput ppsIn0 d.tim.ppsIn n ⟨some u, none⟩ }).inc 0x202005 n).labelEdge n t1)) ∧
    (t1 < u + ms 500 → Gives (.ppsEdge n falling t width) s (d.inc 0x202005 n))) ∧
  (∀ (bytes : List Byte) (t : Nat), s.dev.power = 2 →
    ((s.dev.at_ t).readTod bytes t = none → Gives (.todMessage bytes t) s ((s.dev.at_ t).inc 0x203004 0)) ∧
    (∀ l : Nat, (s.dev.at_ t).readTod bytes t = some ⟨some l, true, none⟩ →
      Gives (.todMessage bytes t) s ((s.dev.at_ t).setTim { (s.dev.at_ t).tim with todNext := some (l, t) }))) ∧
  (∀ u : UtcSrc, s.dev.tim.utcTod = some u →
    let d := s.dev.at_ (u.at_ + ms 1500 + 1)
    Gives .todRxNotCurrent s (d.setTim { d.tim with utcTod := none }).resolveUtc) ∧
  (∀ f : IrigFrame, s.dev.power = 2 →
    (f.parityOk = false → Gives (.irigFrame f) s (((s.dev.at_ f.time).put 0x204003 0 (f.code % 8)).inc 0x204005 0)) ∧
    (f.parityOk = true → f.bcdYear = true → f.ctrl = none →
      let d := (s.dev.at_ f.time).put 0x204003 0 (f.code % 8)
      let e := (d.setTim { d.tim with utcIrig := none }).resolveUtc
      Gives (.irigFrame f) s ((e.refInput 4 (shiftTime (quantise f.time) (- psTime (e.geti 0x204002 0)))
        ((f.second : Int) + e.tim.utcOff).toNat).resolveUtc))) ∧
  (∀ (r : Fin 3) (t : Nat), (s.dev.ref (r.val + 2)).last = some t → (s.dev.ref (r.val + 2)).valid = true →
    Gives (.referenceTimeout r) s
      ((((s.dev.at_ (t + ms 1500)).setRef (r.val + 2) { s.dev.ref (r.val + 2) with valid := false, last := none }).showRef
        (r.val + 2)).checkHoldover).resolveUtc) ∧
  (∀ (k : TkId) (t0 : Nat), s.dev.tim.holder = some k → s.dev.servo k = 3 → s.dev.tim.hoLimit = false →
    (s.dev.tim.tk k).hoSince = some t0 →
    let d := s.dev.at_ (t0 + holdoverDue (absInt (s.dev.tim.tk k).offset) (ns (s.dev.get 0x200007 0)))
    Gives .holdoverLimitPassed s
      (((d.setTim { d.tim with hoLimit := true }).raise 20 k.num 0 0).setLive 20 k.num true)) ∧
  (s.dev.tim.leap61 = true ∨ s.dev.tim.leap59 = true →
    let d := s.dev.at_ s.dev.leapInstant
    Gives .leapSecond s (d.setTim { d.tim with
      leapAt := some d.now, leapDown := d.tim.leap59, utcPtp := d.tim.utcPtp.map UtcSrc.afterLeap,
      utcTod := d.tim.utcTod.map UtcSrc.afterLeap, utcIrig := d.tim.utcIrig.map UtcSrc.afterLeap }).resolveUtc)

/-- In RUN: a TRIG_IN edge of the chosen direction, wide enough, 100 ns after the last, joins its queue of fewer than 16, and raises
source 24 where asked; one too close or with the queue full is counted. PPS_OUT, enabled, traceable and not in the safe state, makes
its pulse at the next instant of its plan less the phase advance. IRIG_OUT, enabled, begins the frame of the next second. TRIG_OUT
starts its planned pulse, its plan going on with its period, or over after the last; the pin stays low in the safe state.
(Model's choices: log 4, 13.) -/
def Obligations.TimeOutputs : Prop := ∀ (s : State), s.por = false → s.dev.power = 2 →
  (∀ (n : Fin 8) (falling : Bool) (t width : Nat),
    (s.dev.get 0x207001 n = 2 ∨ (s.dev.get 0x207001 n = 0 ∧ falling = false) ∨ (s.dev.get 0x207001 n = 1 ∧ falling = true)) →
    s.dev.get 0x207002 n ≤ width →
    let d := s.dev.at_ t
    let x := tget trigIn0 d.tim.trigIn n
    (x.queue.length < 16 → (∀ u, x.lastEdge = some u → u + ns 100 ≤ quantise t) →
      let e := d.setTim { d.tim with trigIn := tput trigIn0 d.tim.trigIn n ⟨x.queue ++ [⟨quantise t, falling⟩], some (quantise t)⟩ }
      Gives (.trigEdge n falling t width) s (if e.on 0x207003 n then e.raiseAt (quantise t) 24 n 0 0 else e)) ∧
    (16 ≤ x.queue.length → Gives (.trigEdge n falling t width) s (d.inc 0x207004 n))) ∧
  (∀ (n : Fin 4),
    let x := s.dev.nextPps n
    let d := s.dev.at_ x.last
    let t := shiftTime x.last (- psTime (d.geti 0x205004 n))
    d.on 0x205001 n = true → d.timeSafe = false → (d.traceable = true ∨ d.get 0x205005 n = 1) →
    Gives (.ppsOutPulse n) s (((d.setTim { d.tim with
      ppsOut := tput ppsOut0 d.tim.ppsOut n { x with until_ := t + ns x.width } }).emit
        (.pin "PPS_OUT" n true t)).emit (.pin "PPS_OUT" n false (t + ns x.width)))) ∧
  (s.dev.on 0x204104 0 = true →
    let t := ceilTo (s.dev.now + 1) (sec 1)
    let d := s.dev.at_ t
    let e := d.setTim { d.tim with irigLast := t }
    Gives .irigOutFrame s (e.emit (.irig (e.get 0x204101 0)
      ((t / sec 1 : Nat) - e.tim.utcOff + e.geti 0x204103 0 * 1800 : Int).toNat (if e.on 0x204102 0 then e.irigQuality else 0)))) ∧
  (∀ (n : Fin 8),
    let x := tget trigOut0 s.dev.tim.trigOut n
    let d := s.dev.at_ x.next
    x.active = true → d.timeSafe = false →
    (2 ≤ x.left.getD 2 → x.period ≠ 0 →
      Gives (.trigOutPulse n) s ((((d.setTim { d.tim with
        trigOut := tput trigOut0 d.tim.trigOut n
          ⟨x.next + x.period, x.period, x.width, x.left.map (· - 1), true, x.next + x.width⟩ }).put 0x208006 n 2).emit
          (.pin "TRIG_OUT" n true x.next)).emit (.pin "TRIG_OUT" n false (x.next + x.width)))) ∧
    (x.left = some 1 →
      Gives (.trigOutPulse n) s ((((d.setTim { d.tim with
        trigOut := tput trigOut0 d.tim.trigOut n
          ⟨x.next + x.period, x.period, x.width, some 0, false, x.next + x.width⟩ }).put 0x208006 n 3).emit
          (.pin "TRIG_OUT" n true x.next)).emit (.pin "TRIG_OUT" n false (x.next + x.width)))))

/-- A READ that its path takes, of a number of the catalogue whose role, power state and region let it, answers its bytes: the active
value, or the shadow copy of an RWS object where asked; of OCTETS it answers one segment from the offset. DESCRIBE answers the
object's 48-byte description. TRIG_QUEUE_READ answers up to 16 captured edges and RING_RESPONSE_READ the oldest response, and takes them.
(Model's choices: log 105, 108, 117.) -/
def Obligations.ObjectReads : Prop := ∀ (s : State) (p : Path) (q : Req) (x : Obj),
  (let r := { q with cmd := 1 }; let a := s.dev.asked p r; let o := a.idx * 256 + a.sub
    Taken s p r → objOf o = some x → o % 256 ≠ 0 → o < 0xF00000 → o / 256 ≠ 0x5200 → o / 256 ≠ 0x5010 →
    o ∉ [0x130207, 0x901004, 0x200108, 0x614004, 0x614203] → x.num = o → x.ty.isBytes = false → x.access ≠ .wo → a.offset = 0 →
    a.elem < elemsOf (o / 256) → (s.dev.arrive p r).lets p o a.elem (readRole x) →
    Answers (.read p q) s p r
      ⟨0, leBytes x.ty.size (if a.shadow && x.access == .rws then (s.dev.arrive p r).getSh o a.elem else (s.dev.arrive p r).get o a.elem), 0⟩
      id) ∧
  (let r := { q with cmd := 1 }; let a := s.dev.asked p r; let o := a.idx * 256 + a.sub
    Taken s p r → objOf o = some x → o < 0xF00000 → o / 256 ≠ 0x5200 → o / 256 ≠ 0x5010 →
    o ≠ 0x207005 → o ≠ 0x405002 → x.num = o → x.ty = .octets → x.access = .ro ∨ x.access = .rw → a.offset % 4 = 0 →
    a.offset ≤ ((s.dev.arrive p r).getB o a.elem).length → a.elem < elemsOf (o / 256) →
    (s.dev.arrive p r).lets p o a.elem (readRole x) →
    Answers (.read p q) s p r ⟨0, slice ((s.dev.arrive p r).getB o a.elem) a.offset p.segment, 0⟩ id) ∧
  (let r := { q with cmd := 3 }; let a := s.dev.asked p r; let o := a.idx * 256 + a.sub
    Taken s p r → objOf o = some x → o < 0xF00000 → o / 256 ≠ 0x5200 → o / 256 ≠ 0x5010 →
    a.elem < elemsOf (o / 256) → (s.dev.arrive p r).answers o a.elem = true →
    Answers (.describe p q) s p r ⟨0, (s.dev.arrive p r).describe_ x a.elem, 0⟩ id ∧
    ((s.dev.arrive p r).describe_ x a.elem).length = 48) ∧
  (∀ (txid : Word) (n : Fin 8), let r := reqFor 1 0x207005 n txid.toNat []
    Taken s p r → (s.dev.arrive p r).lets p 0x207005 n .operator →
    let t := tget trigIn0 (s.dev.arrive p r).tim.trigIn n
    Answers (.trigQueueRead p txid n) s p r ⟨0, slice ((t.queue.take 16).flatMap trigBytes) 0 p.segment, 0⟩
      fun d => d.setTim { d.tim with trigIn := tput trigIn0 d.tim.trigIn n { t with queue := t.queue.drop 16 } }) ∧
  (∀ (txid : Word) (n : Fin 2) (src : Nat) (body : List Byte) (rest : List (Nat × List Byte)), let r := reqFor 1 0x405002 n txid.toNat []
    Taken s p r → (s.dev.arrive p r).lets p 0x405002 n .operator → ((s.dev.arrive p r).ring n).received = (src, body) :: rest →
    Answers (.ringResponseRead p txid n) s p r ⟨0, slice (byte src :: body) 0 p.segment, 0⟩
      fun d => d.updRing n fun y => { y with received := rest })

/-- A WRITE that its path takes, of a number whose type, length, offset and value the object allows and that its owner does not refuse,
sets an RW object and has the effect the object's owner gives it; of an RWS object within an open transaction it sets the shadow copy
and stages the element, with answer 1, the active value standing. HOT_REGISTER_WRITE writes an RW object through its hot register.
(Model's choices: log 6, 20.) -/
def Obligations.ObjectWrites : Prop := ∀ (s : State) (p : Path) (q : Req) (x : Obj) (k : Nat),
  (let r := { q with cmd := 2 }; let a := s.dev.asked p r; let o := a.idx * 256 + a.sub; let d := s.dev.arrive p r
    Taken s p r → objOf o = some x → o < 0xF00000 → o / 256 ≠ 0x5200 → o / 256 ≠ 0x5010 → x.num = o → x.access = .rw →
    x.ty.isBytes = false → a.txn = 0 → a.elem < elemsOf (o / 256) → d.lets p o a.elem x.role → (∀ c ∈ d.valueCodes x a, c = 0) →
    d.directCode o a.elem a.data = 0 →
    Answers (.write p q) s p r ⟨0, [], 0⟩ fun d => (d.put o a.elem (leNat a.data)).directEffect o a.elem a.offset a.data a.data) ∧
  (let r := { q with cmd := 2 }; let a := s.dev.asked p r; let o := a.idx * 256 + a.sub; let d := s.dev.arrive p r
    Taken s p r → objOf o = some x → o < 0xF00000 → o / 256 ≠ 0x5200 → o / 256 ≠ 0x5010 → x.num = o → x.access = .rws →
    x.ty.isBytes = false → a.txn ≠ 0 → d.slotOf a.txn = some k → d.txState k = txOpen → (d.slot k).staged.length < 4096 →
    a.elem < elemsOf (o / 256) → d.lets p o a.elem x.role → (∀ c ∈ d.valueCodes x a, c = 0) →
    d.stagedElsewhere ⟨o, a.elem⟩ (some k) = false → d.stageBusy ⟨o, a.elem⟩ = 0 → o ≠ 0x710001 →
    Answers (.write p q) s p r ⟨1, [], 0⟩ (fun d => (d.putSh o a.elem (leNat a.data)).stage k ⟨o, a.elem⟩) ∧
    ((d.putSh o a.elem (leNat a.data)).stage k ⟨o, a.elem⟩).get o a.elem = d.get o a.elem) ∧
  (∀ (o : BitVec 24) (e : Word) (v : BitVec 64), s.por = false → s.dev.power = 2 → (Config.hotOffset o.toNat).isSome = true →
    objOf o.toNat = some x → x.num = o.toNat → x.access = .rw → x.ty.isBytes = false → x.ty.size ≤ 8 →
    o.toNat / 256 ≠ 0x5200 → o.toNat / 256 ≠ 0x5010 → o.toNat < 0xF00000 → e.toNat < elemsOf (o.toNat / 256) →
    s.dev.answers o.toNat e.toNat = true → s.dev.homeDown o.toNat e.toNat = false →
    (∀ c ∈ s.dev.valueCodes x (reqFor 2 o.toNat e.toNat 0 (leBytes x.ty.size v.toNat)), c = 0) →
    s.dev.directCode o.toNat e.toNat (leBytes x.ty.size v.toNat) = 0 →
    Gives (.hotRegisterWrite o e v) s ((s.dev.put o.toNat e.toNat (v.toNat % 256 ^ x.ty.size)).directEffect o.toNat e.toNat 0
      (leBytes x.ty.size v.toNat) (leBytes x.ty.size v.toNat)))

/-- Each on a path that takes the request. OPEN with an ID that no slot holds and a slot free takes a free slot for it, which is then
OPEN, and answers the ID and the slot. COMMIT of an open transaction whose boundary resolves waits while every participant of the
staged elements validates, the boundary's time shown. ABORT of a transaction not yet sampled or confirmed, without a ring mode change,
ends it ABORTED with 0x0607. STATUS answers the 26 bytes of a slot and frees it once ended.
(Model's choices: log 106, 107.) -/
def Obligations.TransactionCommands : Prop := ∀ (s : State) (p : Path) (q : Req) (k : Nat),
  (let r := { q with cmd := 4 }; let a := s.dev.asked p r; let d := s.dev.arrive p r
    Taken s p r → p ≠ .hot → a.txn ≠ 0 → d.slotOf a.txn = none → (∃ j < 32, d.txState j = txFree) →
    Runs (.open_ p q) s fun e => ∃ j < 32, d.txState j = txFree ∧ e.txState j = txOpen ∧ e.get 0x120002 j = a.txn ∧
      (e.slot j).staged = [] ∧ (e.slot j).openedAt = s.dev.now ∧
      (∀ i, i ≠ j → i < 32 → e.txState i = d.txState i ∧ e.slot i = d.slot i) ∧
      e.obj.flights = d.obj.flights ++ [⟨p, a, some ⟨0, leBytes 4 a.txn ++ [byte j] ++ zeros 3, a.txn⟩, none, 0, false⟩]) ∧
  (let r := { q with cmd := 5 }; let a := s.dev.asked p r; let d := s.dev.arrive p r
    ∀ (b : Boundary) (syz : Nat), Taken s p r → p ≠ .hot → d.slotOf a.txn = some k → d.txState k = txOpen → a.boundary ≤ 4 →
    d.resolve_ a.boundary (d.slot k).staged a.data = .ok (b, syz) →
    Runs (.commit p q) s fun e => e.txState k = txValidating ∧ (e.slot k).waiting = d.participants (d.slot k).staged ∧
      (e.slot k).boundary = some b ∧ (e.slot k).staged = (d.slot k).staged ∧ e.get 0x120004 k = ktimeOf b.time ∧
      e.obj.commits = d.obj.commits + 1 ∧ e.obj.flights = d.obj.flights ++ [⟨p, a, none, some k, 0, false⟩]) ∧
  (let r := { q with cmd := 6 }; let a := s.dev.asked p r; let d := s.dev.arrive p r
    Taken s p r → d.slotOf a.txn = some k → (d.txState k = txOpen ∨ d.txState k = txValidating ∨ d.txState k = txReady) →
    (d.slot k).sampled = none → (d.slot k).confirmed = false → modeStaged (d.slot k).staged = none →
    Answers (.abort_ p q) s p r ⟨0, [], 0⟩ fun d => d.endSlot k txAborted 0x0607 0x0607) ∧
  (let r := { q with cmd := 7 }; let a := s.dev.asked p r; let d := s.dev.arrive p r
    Taken s p r → d.slotOf a.txn = some k →
    Answers (.status p q) s p r ⟨0, d.statusBytes k, 0⟩ fun d => if txApplied ≤ d.txState k then d.freeSlot k else d)

/-- A participant's report without a failure leaves the others to report, and the last one makes the slot READY (no ring mode staged) and
answers the COMMIT 0 and the implicit write 1. The sample with every participant ready is taken 1 us before the boundary. The apply at
a boundary other than an epoch's swaps every staged element's banks, applies what its owner adds, and ends the slot APPLIED. An open
transaction ends ABORTED with 0x0608 after 60 s; an ended one's slot is freed 60 s after its end.
(Model's choices: log 4, 103.) -/
def Obligations.TransactionProgress : Prop := ∀ (s : State) (k : Fin 32), s.por = false →
  (∀ (part : Fin 5) (x : Slot), x = s.dev.slot k → s.dev.txState k = txValidating → x.waiting.contains (part.val + 1) = true →
    (∀ y ∈ x.staged, s.dev.checkKey (s.dev.prospect x.staged) y = 0) →
    (part.val = 0 ∨ s.dev.regionRuns (part.val - 1) = true) → x.waiting.filter (· != part.val + 1) ≠ [] →
    Gives (.participantReport k part) s (s.dev.setSlot k { x with waiting := x.waiting.filter (· != part.val + 1) })) ∧
  (∀ (part : Fin 5) (x : Slot), x = s.dev.slot k → s.dev.txState k = txValidating → x.waiting = [part.val + 1] → x.fails = [] →
    (∀ y ∈ x.staged, s.dev.checkKey (s.dev.prospect x.staged) y = 0) → modeStaged x.staged = none →
    (part.val = 0 ∨ s.dev.regionRuns (part.val - 1) = true) →
    Gives (.participantReport k part) s
      (((s.dev.setSlot k { x with waiting := [] }).put 0x120001 k txReady).answerWaiting k 0 1)) ∧
  (∀ (b : Boundary), (s.dev.slot k).boundary = some b → s.dev.txState k = txReady → (s.dev.slot k).sampled = none →
    (∀ p ∈ (s.dev.slot k).parts, (s.dev.at_ (b.time - us 1)).partReady k p = true) →
    Gives (.allReadySample k) s ((s.dev.at_ (b.time - us 1)).setSlot k { s.dev.slot k with sampled := some true })) ∧
  (∀ (b : Boundary), (s.dev.slot k).boundary = some b → (∀ t, b ≠ .epoch t) → s.dev.txState k = txReady →
    (s.dev.slot k).sampled = some true → (s.dev.slot k).applied = false →
    let l := (s.dev.slot k).staged
    let d1 := l.foldl (fun d y => d.swapBank y none) (s.dev.at_ b.time)
    let d2 := (l.foldl (fun d y => d.applied y b.time) d1).appliedOnce l b.time
    Gives (.transactionApply k) s (d2.endSlot k txApplied 0 0)) ∧
  (s.dev.txState k = txOpen →
    Gives (.transactionTimeout k) s ((s.dev.at_ ((s.dev.slot k).openedAt + sec 60)).endSlot k txAborted 0x0608 0x0608)) ∧
  (txApplied ≤ s.dev.txState k →
    Gives (.transactionSlotRelease k) s ((s.dev.at_ ((s.dev.slot k).endedAt + sec 60)).freeSlot k))

/-- The oldest command of a path whose answer is known completes: it is no longer under way, the path reports the answer, and the replay
cache keeps it where the request carried an ID. A mailbox is then done and not busy, with the answer's code, and ERR where it is an
error. An authentic KMP request on a port where KMP is served is handled as the row of its object command is on that path. A replay
cache entry leaves the cache 10 s after its response was sent.
(Model's choices: log 109, 113.) -/
def Obligations.CompletionCommands : Prop := ∀ (s : State), s.por = false →
  (∀ (p : Path) (f : Flight) (r : Resp), s.dev.obj.flights.find? (fun f => f.path == p && f.resp.isSome) = some f → f.resp = some r →
    f.held = 0 → f.replay = false →
    let d := (s.dev.setObj { s.dev.obj with flights := s.dev.obj.flights.erase f }).respond p f.req r false
    Gives (.commandComplete p) s (if f.req.txid = 0 then d else d.rememberSent p f.req r)) ∧
  (∀ (m : Fin 16) (f : Flight) (r : Resp),
    s.dev.obj.flights.find? (fun f => f.path == .mailbox m && f.resp.isSome) = some f → f.resp = some r → f.held = 0 →
    Runs (.commandComplete (.mailbox m)) s fun e => (e.mbx m).busy = false ∧ (e.mbx m).go = false ∧ (e.mbx m).done = true ∧
      (e.mbx m).abort = r.abort ∧ (e.mbx m).err = (r.abort / 256 != 0) ∧ (e.mbx m).replay = f.replay ∧
      e.obj.flights = s.dev.obj.flights.erase f ∧ (∀ k, k ≠ m.val → e.mbx k = s.dev.mbx k)) ∧
  (∀ (ip : Word) (udp : BitVec 16) (via : Fin 17) (bytes : List Byte) (m : Kmp),
    s.dev.kmpCheck via bytes = .message m → m.kind = 1 → via = 16 ∨ s.dev.power = 2 →
    Gives (.kmpRequest ip udp via bytes) s (s.dev.start (.kmp ip.toNat udp.toNat (Role.ofNum m.role) via) m.req)) ∧
  (∀ (p : Path) (txid : Word) (c : CacheEntry) (t : Nat),
    s.dev.obj.cache.find? (fun c => c.client == p.client && c.txid == txid.toNat) = some c → c.sentAt = some t →
    Gives (.replayCacheExpiry p txid) s ((s.dev.at_ (t + sec 10)).setObj { (s.dev.at_ (t + sec 10)).obj with
      cache := (s.dev.at_ (t + sec 10)).obj.cache.filter (fun x => !(x.client == p.client && x.txid == txid.toNat)) }))

/-- While the endpoint takes memory requests, an aligned write of 32 bits writes its register and one of 64 bits writes both, the lower
first. An aligned 32-bit read of an open register has that register's read effect and then returns its value: TK_TIME0 latches the four
words of the present time, which the reads of the others then return; TSQ_ENTRY0 takes the oldest timestamp of a port's queue. A
64-bit read is two 32-bit reads, the lower first. The low half of EPOCH_PUB latches the high half, which a later read returns whatever
has been published since.
(Model's choices: log 110, 116.) -/
def Obligations.RegisterAccess : Prop := ∀ (s : State), s.por = false → s.dev.memOk = true →
  (∀ (off : BitVec 26) (v : BitVec 64), off.toNat % 4 = 0 →
    Gives (.registerWrite false off false v) s (s.dev.bar0Write off.toNat (v.toNat % 4294967296)) ∧
    Gives (.registerWrite true off false v) s (s.dev.bar4Write off.toNat (v.toNat % 4294967296))) ∧
  (∀ (off : BitVec 26) (v : BitVec 64), off.toNat % 8 = 0 →
    Gives (.registerWrite false off true v) s
      ((s.dev.bar0Write off.toNat (v.toNat % 4294967296)).bar0Write (off.toNat + 4) (v.toNat / 4294967296)) ∧
    Gives (.registerWrite true off true v) s
      ((s.dev.bar4Write off.toNat (v.toNat % 4294967296)).bar4Write (off.toNat + 4) (v.toNat / 4294967296))) ∧
  (∀ (off : BitVec 26), off.toNat % 4 = 0 →
    (s.dev.barOpen off.toNat = true → Gives (.registerLowHalfRead false off false) s
      ((s.dev.readEffect off.toNat).emit (.regRead off.toNat 4 ((s.dev.readEffect off.toNat).bar0Reg off.toNat)))) ∧
    Gives (.registerLowHalfRead true off false) s (s.dev.emit (.regRead (0x4000000 + off.toNat) 4 (s.dev.bar4Reg off.toNat)))) ∧
  (∀ (off : BitVec 26), off.toNat % 8 = 0 → s.dev.barOpen off.toNat = true → (s.dev.readEffect off.toNat).barOpen (off.toNat + 4) = true →
    let d1 := s.dev.readEffect off.toNat
    let d2 := d1.readEffect (off.toNat + 4)
    Gives (.registerLowHalfRead false off true) s
      (d2.emit (.regRead off.toNat 8 (d1.bar0Reg off.toNat + d2.bar0Reg (off.toNat + 4) * 4294967296)))) ∧
  (s.dev.barOpen 0x200 = true →
    Gives (.tkTimeRead 0 false) s ((s.dev.setTim { s.dev.tim with latch := tkTimeWords s.dev.now }).emit
      (.regRead 0x200 4 (bits (ktimeOf s.dev.now) 16 32)))) ∧
  (∀ (i : Fin 4), i ≠ 0 → s.dev.barOpen 0x200 = true →
    Gives (.tkTimeRead i false) s (s.dev.emit (.regRead (0x200 + 4 * i.val) 4 (s.dev.tim.latch.getD i.val 0)))) ∧
  (∀ (p : Fin 16) (e : TsqEntry) (t : List TsqEntry), s.dev.power = 2 → (s.dev.tsq p).entries = e :: t →
    Gives (.tsqEntryRead p false) s ((s.dev.setTsq p { s.dev.tsq p with entries := t, latch := tsqWords e, read := (s.dev.tsq p).read + 1 }).emit
      (.regRead (0x200100 + 0x10000 * p.val) 4 ((tsqWords e).getD 0 0)))) ∧
  (s.dev.barOpen 0x300 = true → ∀ (x : TableSt), ((s.dev.readEffect 0x300).setTab x).bar0Reg 0x304 = bits s.dev.epochPub 32 32)

/-- While the endpoint takes memory requests and the register is open: BOOT_GO in phase 1 begins phase 2; PIN_P and PIN_P_MINUS_1 pin the
published epoch or the one before it for one period; PIN_RELEASE ends a pin; STICKY_CLEAR and INTX_PEND_CLEAR clear the bits written 1;
ATTACH of a detached queue whose class and size allow it makes it active with its entries empty and HEAD and NEXT at START; DETACH of
an active queue stops it; RESET purges and detaches it.
(Model's choices: log 71, 142.) -/
def Obligations.HostCommands : Prop := ∀ (s : State), s.por = false → s.dev.memOk = true →
  (s.dev.barOpen 0x104 = true → s.dev.pow.phase = 1 →
    Gives .bootGo s (s.dev.setPow { s.dev.pow with phase := 2, waitFrom := none })) ∧
  (∀ P : PubEpoch, s.dev.barOpen 0x308 = true → s.dev.tab.pub = some P →
    Gives .pinP s (s.dev.setTab { s.dev.tab with
      pinCmd := 1, pin := some ⟨P.n, false, s.dev.now + s.dev.periodNow⟩, pinStale := false, pinEpoch := P.n, pinWhich := false })) ∧
  (∀ P : PubEpoch, s.dev.barOpen 0x308 = true → s.dev.tab.prev = some P →
    Gives .pinPMinus1 s (s.dev.setTab { s.dev.tab with
      pinCmd := 2, pin := some ⟨P.n, true, s.dev.now + s.dev.periodNow⟩, pinStale := false, pinEpoch := P.n, pinWhich := true })) ∧
  (s.dev.barOpen 0x308 = true →
    Gives .pinRelease s (s.dev.setTab { s.dev.tab with pin := none, pinStale := false, pinCmd := 3 })) ∧
  (∀ (k : Fin 16) (mask : Word), s.dev.barOpen 0x600 = true →
    Gives (.stickyClear k mask) s (s.dev.setFlt { s.dev.flt with
      sticky := clearBits s.dev.flt.sticky (mask.toNat * 2 ^ (32 * k.val)) })) ∧
  (∀ (k : Fin 64) (mask : Word), s.dev.barOpen 0x800 = true →
    Gives (.intxPendClear k mask) s (s.dev.setPcie { s.dev.host.pcie with
      intxPend := clearBits s.dev.host.pcie.intxPend (mask.toNat * 2 ^ (32 * k.val)) }).driveIntx) ∧
  (∀ (q : BitVec 18), s.dev.power = 2 →
    let x := { s.dev.queue q.toNat with cmd := 1 }
    let d := s.dev.setQueue q.toNat x
    x.state = qDetached → d.attachFault q.toNat = 0 →
    Gives (.queueAttach q) s (d.setQueue q.toNat { x with
      state := qActive, head := x.start, fin := x.start, next := x.start, latch := 0, err := 0, entries := [], unann := 0,
      oldest := none, due := none, orrery := none, served := 0, rx := [], ev := [], gap := 0, lost := false, seq := 0,
      fetched := 0, finished := 0, abandoned := 0, blocks := [], lateIdx := [] }).showDemand) ∧
  (∀ (q : BitVec 18), s.dev.power = 2 →
    let x := { s.dev.queue q.toNat with cmd := 2 }
    let d := s.dev.setQueue q.toNat x
    x.state = qActive →
    Gives (.queueDetach q) s (((((d.setQueue q.toNat { x with state := qStopping, due := none, orrery := none }).abandonBlocks
      q.toNat).dropWaiting q.toNat).returnStock q.toNat).showDemand)) ∧
  (∀ (q : BitVec 18), s.dev.power = 2 →
    Gives (.queueReset q) s (((s.dev.setQueue q.toNat { s.dev.queue q.toNat with cmd := 3 }).purgeQueue q.toNat).resetCore q.toNat))

/-- In RUN, on a port that is up, a received frame counts; one with a bad FCS or shorter than 64 bytes is dropped as invalid, another is
decided by the Eclipse and goes on to the classifier and its egress ports, or is settled by its reason. Outside RUN only MGT takes frames.
A header that may be cut through is decided at once and its copies queued; its FCS then ends it. An idle port takes the highest class that
offers a frame, within a transmit clock period. At its last bit a frame of the device's own, without a
timestamp request, leaves; a fragment that is not the last leaves the rest held. A link going up takes its mode; one going down raises source 64 and its frames are lost.
(Model's choices: log 25, 132, 133, 134.) -/
def Obligations.PortFrames : Prop := ∀ (s : State) (p : Fin 17) (t : Nat), s.por = false →
  let d := s.dev.atPort p t
  let x := s.dev.port p
  (∀ (b : List Byte) (good : Bool), d.cutOf p = none → d.portUp p = true → s.dev.power = 2 → s.dev.armedSlot 15 p 0 = none →
    let e := d.updLedger p fun l => { l with received := l.received + 1 }
    (good = false ∨ b.length < 60 → Gives (.frameReceive p (.frame b good) t) s (e.countPortDrop p 9)) ∧
    (good = true → 60 ≤ b.length → isMacControl b = false →
      let r := e.decideCopy p (e.rxStamp p t) b
      Gives (.frameReceive p (.frame b good) t) s (r.2.onward p (e.rxStamp p t) t b r.1))) ∧
  (∀ (b : List Byte) (good : Bool), d.cutOf p = none → d.portUp p = true → s.dev.power ≠ 2 → s.dev.power ≠ 6 →
    (p.val = 16 → good = true → 60 ≤ b.length → Gives (.frameReceive p (.frame b good) t) s (d.classify p (d.rxStamp p t) t b)) ∧
    (p.val ≠ 16 → Gives (.frameReceive p (.frame b good) t) s d)) ∧
  (∀ (c : CutRx) (b : List Byte) (good : Bool), d.cutOf p = some c → Gives (.frameReceive p (.frame b good) t) s (d.cutEnd c good)) ∧
  (∀ (b : List Byte) (id : Nat) (g : Dev), p.val < 16 → d.portUp p = true → d.cutOf p = none → d.cutAny p b = true →
    let e := d.updLedger p fun l => { l with received := l.received + 1 }
    let r := e.decideCopy p (d.rxStamp p t) b
    let c := r.2.copiesOf p b r.1
    c.2.letIn p (c.1.length + 1) t b = (some id, g) →
    let go := c.1.filter fun x => g.cutOk p x.1 x.2.1 x.2.2
    let rest := c.1.filter fun x => !g.cutOk p x.1 x.2.1 x.2.2
    let h := go.foldl (fun d x => d.sendHub id x.1 x.2.1 true) g
    Gives (.cutThroughHeader p b t) s (h.setLan { h.lan with cutting := h.lan.cutting ++
      [⟨p, id, b, t, r.1.deliver, rest.map (fun x => (x.1, x.2.1)), r.1.fn, r.1.node⟩] })) ∧
  (∀ (delay : Nat) (f : QFrame), s.dev.portUp p = true → x.now = none → x.held = none →
    let e := [7, 6, 5, 4, 3, 2, 1, 0].foldl (fun d c => if bit (d.gatesOf p) c then d.dropOversize p c else d) s.dev
    let u := max (s.dev.portNow p + delay % clockPeriod (s.dev.portMode p)) x.freeAt
    (e.port p).now = none → (e.port p).held = none →
    [7, 6, 5, 4, 3, 2, 1, 0].findSome? (fun c => (e.atPort p u).offer p u c) = some f →
    Gives (.transmissionSelection p delay) s ((e.atPort p u).launch p f u)) ∧
  (∀ n : TxNow, x.now = some n →
    let e := s.dev.atPort p n.end_
    let total := n.frame.bytes.length + 4
    (n.sent + n.frag < total →
      Gives (.transmitComplete p) s ((e.inc 0x304008 p).setPort p { x with
        now := none, held := some { n with sent := n.sent + n.frag }
        freeAt := n.end_ + byteTime (s.dev.portMode p) 24 })) ∧
    (total ≤ n.sent + n.frag → n.sent = 0 → n.frame.cut = false → n.frame.bad = false → n.frame.tag = none → n.frame.src = .own →
      Gives (.transmitComplete p) s ((e.setPort p { x with now := none }).emit (.frame p n.frame.bytes n.start)))) ∧
  (∀ (mode : Fin 16) (fec : Fin 4), (p.val = 16 ∨ s.dev.on 0x300001 p = true) →
    let e := s.dev.linkOn p mode fec
    Gives (.linkUp p mode fec) s (if p.val < 16 then e.beginVerify p else e)) ∧
  ((s.dev.netLink p).up = true →
    Gives (.linkDown p) s ((((s.dev.raise 64 p 0 0).setLive 64 p true).linkGone p).portDown p))

/-- On a port that is up a management message is discarded and counted; a message of an instance's domain is terminated there, an event message
where the port's replica is synchronised. A master port's Announce and one-step Sync carry the next sequence number. When announceReceiptTimeout
expires the foreign master is forgotten, a port that listened becomes master, and the best master comparison runs; three missed Sync intervals end a half measurement; on the reference's
slave port both make the reference invalid. Entries of a match table are removed when they have lived 100 ms.
(Model's choices: log 21, 22, 24, 175.) -/
def Obligations.PtpEvents : Prop := ∀ (s : State), s.por = false →
  (∀ (p : Fin 17) (m : List Byte) (t : Nat), s.dev.portUp p = true →
    let d := s.dev.at_ t
    (ptpKind m = 13 → Gives (.ptpMessageReceive p m t) s (d.inc 0x210004 0)) ∧
    (∀ i : Nat, ptpKind m ≠ 13 → d.ptpInst p m = some i → (ptpEvent m = false ∨ d.unsync p = false) →
      Gives (.ptpMessageReceive p m t) s (d.ptpTerminate i p m (d.rxStamp p t)))) ∧
  (∀ (i : Fin 8) (p : Fin 17) (t : Nat), i.val < 4 →
    let d := s.dev.at_ t
    let x := s.dev.ptp i p
    d.ptpOn i p = true → (d.netLink p).up = true → d.ptpState i p = 6 →
    Gives (.ptpMessageSend i p 11 t) s
      ((d.setPtp i p { x with seqAnn := (x.seqAnn + 1) % 65536 }).ptpEmit i p 11 (d.announceBytes i p) t) ∧
    (d.unsync p = false → d.oneStep i p = true →
      let m := ptpHeader 0 (d.get 0x211004 i) 44 (d.get 0x211003 i) 0 0 (d.ptpSelf p) x.seqSync 0 (d.get 0x212002 (ptpElem i p))
        ++ ptpStampBytes (d.txStamp p t)
      Gives (.ptpMessageSend i p 0 t) s
        ((d.setPtp i p { x with seqSync := (x.seqSync + 1) % 65536, followUp := none }).ptpEmit i p 0
          (ptpAddCorr m (d.txStamp p t % 65536 : Nat)) t))) ∧
  (∀ (i : Fin 4) (p : Fin 17),
    let x := s.dev.ptp i p
    let d := s.dev.setPtp i p { x with foreign := none, sync := none }
    let e := s.dev.setPtp i p { x with sync := none }
    ((i.val ≠ s.dev.get 0x210002 0 ∨ s.dev.net.slave ≠ some p.val) →
      (s.dev.ptpState i p ≠ 4 → Gives (.announceReceiptTimeout i p) s (d.bmca i).showClass) ∧
      (s.dev.ptpState i p = 4 → s.dev.on 0x211007 i = false →
        Gives (.announceReceiptTimeout i p) s ((d.put 0x212008 (ptpElem i p) 6).bmca i).showClass) ∧
      Gives (.syncIntervalsMissed i p) s e) ∧
    (i.val = s.dev.get 0x210002 0 → s.dev.net.slave = some p.val → s.dev.ptpState i p = 9 →
      Gives (.announceReceiptTimeout i p) s (d.ptpInvalid.bmca i).showClass ∧ Gives (.syncIntervalsMissed i p) s e.ptpInvalid)) ∧
  (∀ (q : Fin 17) (x : TcEntry), (tget [] s.dev.net.tc q).head? = some x →
    let d := s.dev.at_ x.until_
    Gives (.tcMatchExpiry q) s (d.setNet { d.net with
      tc := tput [] d.net.tc q ((tget [] d.net.tc q).filter (fun y => decide (d.now < y.until_))) }))

/-- With its gates running a port takes the next entry's gates and operation at its start, counting cycles; a frame whose gate closes under
it is an overrun, counted with source 65. A planned switch makes the new bank active at its instant S. Hold and release come their
advance before the entry. An uncorrectable error in the SRAM copy raises source 68. A bound queue's poll falls due the lead before the
gate opens, its deadline 2 us before. A verification not answered is tried three times, then has failed.
(Model's choices: log 4, 27.) -/
def Obligations.GateEvents : Prop := ∀ (s : State) (p : Fin 16), s.por = false →
  let x := s.dev.port p
  (s.dev.gatesRun p = true → x.sramBad = false → x.switch = none →
    let t := s.dev.nextGate p
    let pt := x.sched.point t
    let d := (s.dev.atPort p t).setGates p pt t
    ((pt.entry = 0 ∧ x.orrery.cycle.startAt pt.cycle = t) → Gives (.gateEntryStart p) s (d.inc 0x302005 p)) ∧
    (¬ (pt.entry = 0 ∧ x.orrery.cycle.startAt pt.cycle = t) → Gives (.gateEntryStart p) s d)) ∧
  (∀ (d : Dev) (pt : Point) (t : Nat), (d.port p).now = none →
    d.setGates p pt t = ((d.setPort p { d.port p with gates := pt.gates, op := pt.op, entryAt := t }).put 0x302006 p pt.entry).lateSweep p) ∧
  (∀ (d : Dev) (pt : Point) (t : Nat) (n : TxNow), (d.port p).now = some n → bit (d.port p).gates n.frame.cls = true →
    bit pt.gates n.frame.cls = false → t < n.end_ → d.preemptable p n.frame.cls = false →
    let e := (d.setPort p { d.port p with gates := pt.gates, op := pt.op, entryAt := t }).put 0x302006 p pt.entry
    d.setGates p pt t = ((e.inc 0x301003 (clsElem p n.frame.cls)).raise 65 p 0 0).lateSweep p) ∧
  (∀ w : Switch, x.switch = some w → s.dev.gatesRun p = false →
    let d := s.dev.atPort p w.at_
    let e := (((d.setPort p { x with orrery := w.orrery, tether := w.tether, switch := none, sramBad := false }).put 0x302001 p
      w.bank).put 0x305002 p (crc32 w.tether.bytes))
    Gives (.bankSwitch p) s (e.setPort p { e.port p with
      hold := if entryOp (w.orrery.entry 0) = 1 then true else if entryOp (w.orrery.entry 0) = 2 then false else (e.port p).hold })) ∧
  (s.dev.gatesRun p = true → s.dev.preActive p = true →
    (∀ e : Int, x.sched.nextOp 1 x.sched.fuel (s.dev.portNow p) = some e →
      let d := s.dev.atPort p (e.toNat - ns (s.dev.get 0x304005 p))
      Gives (.holdRequest p) s ((d.setPort p { x with hold := true }).interrupt p)) ∧
    (∀ e : Int, x.sched.nextOp 2 x.sched.fuel (s.dev.portNow p) = some e →
      let d := s.dev.atPort p (e.toNat - ns (s.dev.get 0x304006 p))
      Gives (.releaseRequest p) s (d.setPort p { x with hold := false }))) ∧
  (s.dev.armedSlot 13 p 0 = none →
    Gives (.orrerySramError p) s ((s.dev.setPort p { x with sramBad := true }).raise 68 p 0 0)) ∧
  (s.dev.get 0x304007 p = 2 →
    (x.verifyTries < 3 → Gives (.preemptionVerifyTimer p) s
      ((s.dev.setPort p { x with verifyTries := x.verifyTries + 1 }).emit (.message "VERIFY" [byte p]))) ∧
    (3 ≤ x.verifyTries → Gives (.preemptionVerifyTimer p) s (s.dev.put 0x304007 p 4))) ∧
  (∀ (b : BitVec 12) (g : Nat), s.dev.get 0x306002 b.toNat = p → s.dev.gatesRun p = true →
    let lead := ns (s.dev.get 0x306005 b.toNat)
    let q := s.dev.get 0x306001 b.toNat
    s.dev.gateOpen b.toNat (max (tget 0 s.dev.lan.polled b.toNat + 1) (s.dev.portNow p + lead)) = some g →
    (s.dev.queue q).state = 1 →
    let d := s.dev.atPort p (g - lead)
    Gives (.orreryPoll b) s ((d.setLan { d.lan with polled := tput 0 d.lan.polled b.toNat g }).setQueue q { s.dev.queue q with
      orrery := some (s.dev.get 0x306009 b.toNat), due := some d.now, deadline := shiftTime (g - us 2) (- (s.dev.rep p).err) }))

/-- A participant answers PREPARE with CONFIRM where its ready transaction of that ID and T lies far enough ahead, else REFUSE with its code; ABORT
before T minus G aborts it with 0x0607. A session being prepared sends PREPARE at T minus its lead, repeats it, or ABORT, to those that have
not answered, and notes each answer. At T minus 2G it commits if all have confirmed, else aborts; when all have acknowledged it is aborted.
At T minus G a session still aborting lists who has not acknowledged and raises source 71.
(Model's choices: log 127, 128, 129.) -/
def Obligations.SyzygyMessages : Prop := ∀ (s : State), s.por = false →
  (∀ (ip : Word) (udp : BitVec 16) (role : Role) (via : Fin 17) (txid : Word) (b : List Byte),
    s.dev.reach (.kmp ip.toNat udp.toNat role via) = true → 2 ≤ role.num →
    (b.length = 20 → txid.toNat ≠ 0 →
      let path : Path := .kmp ip.toNat udp.toNat role via
      (s.dev.replayed path (reqOf 0x10 txid.toNat b) = .apply →
        let r := (s.dev.remember path (reqOf 0x10 txid.toNat b)).takePrepare (syzId b) (syzT b) (syzG b)
        Gives (.prepare ip udp role via txid b) s ((r.2.kmpSend via ip.toNat udp.toNat
          (kmpOf (if r.1 = 0 then 0x11 else 0x12) txid.toNat role.num r.1 b)).rememberSent path (reqOf 0x10 txid.toNat b) ⟨r.1, b, 0⟩)) ∧
      (s.dev.replayed path (reqOf 0x13 txid.toNat b) = .apply →
        let r := (s.dev.remember path (reqOf 0x13 txid.toNat b)).takeAbort (syzId b) (syzT b) (syzG b)
        Gives (.syzygyAbort ip udp role via txid b) s ((r.2.kmpSend via ip.toNat udp.toNat
          (kmpOf 0x14 txid.toNat role.num r.1 b)).rememberSent path (reqOf 0x13 txid.toNat b) ⟨r.1, b, 0⟩))) ∧
    (∀ k i : Nat, s.dev.sesEntry ip.toNat udp.toNat txid.toNat b false = some (k, i) → s.dev.sesState k = 1 →
      Gives (.confirm ip udp role via txid b) s ((s.dev.setSession k
        { s.dev.session k with answered := (s.dev.session k).answered ||| 2 ^ i }).put 0x340102 k (s.dev.get 0x340102 k ||| 2 ^ i)) ∧
      Gives (.refuse ip udp role via txid b) s (s.dev.setSession k { s.dev.session k with
        answered := (s.dev.session k).answered ||| 2 ^ i, refused := (s.dev.session k).refused ||| 2 ^ i })) ∧
    (∀ k i : Nat, s.dev.sesEntry ip.toNat udp.toNat txid.toNat b true = some (k, i) → s.dev.sesState k = 3 →
      let a := (s.dev.session k).acked ||| 2 ^ i
      let d := s.dev.setSession k { s.dev.session k with acked := a }
      Gives (.abortAck ip udp role via txid b) s (if a = s.dev.sesAll k then d.put 0x340006 k 4 else d))) ∧
  (∀ (d : Dev) (id t g : Nat),
    (∀ k : Nat, d.syzSlot id t [txReady] = some k → d.syzFar k t g = true →
      d.takePrepare id t g = (0, d.setSlot k { d.slot k with confirmed := true })) ∧
    (∀ k : Nat, d.syzSlot id t [txReady] = some k → d.syzFar k t g = false → d.takePrepare id t g = (0x0504, d)) ∧
    (d.syzSlot id t [txReady] = none → d.syzSlot id t [txFailed] = none → d.takePrepare id t g = (0x0601, d)) ∧
    (∀ k : Nat, d.now + ns g < t → d.syzSlot id t [txReady] = some k →
      d.takeAbort id t g = (0, d.endSlot k txAborted 0x0607 0x0607)) ∧
    (t ≤ d.now + ns g → d.takeAbort id t g = (0x0504, d.inc 0x340007 (d.sessionOf id)))) ∧
  (∀ k : Fin 4,
    (s.dev.sesState k = 1 → (s.dev.session k).lastSent = 0 →
      Gives (.syzygyPrepareLead k) s
        ((s.dev.at_ (s.dev.sesT k - us (s.dev.get 0x340005 k))).sesSend k 0x10 (s.dev.session k).txid 0)) ∧
    ((s.dev.session k).lastSent ≠ 0 →
      let d := s.dev.at_ ((s.dev.session k).lastSent + ns (s.dev.get 0x340004 k))
      (s.dev.sesState k = 1 → Gives (.syzygyRetry k) s (d.sesSend k 0x10 (s.dev.session k).txid (s.dev.session k).answered)) ∧
      (s.dev.sesState k = 3 → Gives (.syzygyRetry k) s (d.sesSend k 0x13 (s.dev.session k).abortTxid (s.dev.session k).acked))) ∧
    (s.dev.sesState k = 1 →
      let d := s.dev.at_ (s.dev.sesT k - 2 * s.dev.sesG k)
      (s.dev.get 0x340102 k = s.dev.sesAll k → Gives (.confirmDeadline k) s (d.put 0x340006 k 2)) ∧
      (s.dev.get 0x340102 k ≠ s.dev.sesAll k →
        Gives (.confirmDeadline k) s ((d.put 0x340006 k 3).sesSend k 0x13 (s.dev.session k).abortTxid 0))) ∧
    (∀ id : Word, id.toNat ≠ 0 → s.dev.get 0x340001 k = id.toNat → s.dev.sesState k = 3 →
      (∀ j : Fin 4, j ≠ k → s.dev.get 0x340001 j ≠ id.toNat) → (∀ j : Nat, (s.dev.slot j).syzygy ≠ id.toNat) →
      let d := s.dev.at_ (s.dev.sesT k - s.dev.sesG k)
      let left := s.dev.sesAll k - (s.dev.session k).acked
      (left ≠ 0 → Gives (.guardDeadline id) s (((d.put 0x340103 k left).put 0x340006 k 5).raise 71 k 0 left)) ∧
      (left = 0 → Gives (.guardDeadline id) s (d.put 0x340006 k 4))))

/-- A recovery function's reset timer lets it take any number again and counts a reset. A latent test period's end compares the passed
copies with the discarded ones; beyond the limit it counts and raises source 112; a reset period's end restarts them. A node unheard for its
forget time is removed; a history for its entry forget time takes any number. A PRP pair's LAN silent for three LifeCheckIntervals while the
other is heard raises source 115 or 116, once. A pair's supervision frame goes out on both ports with the next numbers. A restart silence
ends. A single-path take ends: a function takes any number again and raises source 114, a node is removed, a pair goes on.
(Model's choices: log 33, 38.) -/
def Obligations.EclipseTimers : Prop := ∀ (s : State), s.por = false →
  (∀ (h : BitVec 16),
    let x := s.dev.fn h.toNat
    (∀ t : Nat, x.hist.deadline = some t →
      Gives (.recoveryResetTimeout h) s
        (((s.dev.at_ t).setFn h.toNat { x with hist := { x.hist with takeAny := true, deadline := none } }).addPart h.toNat 16 16 1)) ∧
    (s.dev.on 0x311006 h.toNat = true →
      let d := s.dev.at_ (x.testFrom + ms (s.dev.get 0x311008 h.toNat))
      let e := d.setFn h.toNat { x with passed := 0, discarded := 0, testFrom := d.now }
      let f := s.dev.at_ (x.resetFrom + ms (s.dev.get 0x311011 h.toNat))
      (s.dev.get 0x311007 h.toNat < absInt ((x.passed : Int) - x.discarded) →
        Gives (.latentTestPeriod h) s ((e.addPart h.toNat 0 16 1).raise 112 h.toNat 0 0)) ∧
      (absInt ((x.passed : Int) - x.discarded) ≤ s.dev.get 0x311007 h.toNat → Gives (.latentTestPeriod h) s e) ∧
      Gives (.latentResetPeriod h) s (f.setFn h.toNat
        { x with passed := 0, discarded := 0, resetFrom := f.now, latentResets := (x.latentResets + 1) % 2 ^ 16 })) ∧
    (∀ t : Nat, x.single = some t →
      Gives (.singlePathEnd (.function h)) s (((s.dev.at_ t).setFn h.toNat
        { x with single := none, hist := { x.hist with takeAny := true, deadline := none } }).raise 114 h.toNat 0 0))) ∧
  (∀ (i : BitVec 14),
    let n := tget node0 s.dev.ecl.nodes i.toNat
    (n.kind ≠ 0 → Gives (.nodeForget i) s ((s.dev.at_ (n.heard + sec (s.dev.get 0x320005 n.pair))).dropNode i.toNat)) ∧
    (∀ (k : Fin 3) (t : Nat), (n.hist k).deadline = some t →
      Gives (.entryForgetTimeExpiry i k) s
        ((s.dev.at_ t).setNode i.toNat (n.setHist k { n.hist k with takeAny := true, deadline := none }))) ∧
    (∀ t : Nat, n.single = some t → Gives (.singlePathEnd (.node i)) s ((s.dev.at_ t).dropNode i.toNat))) ∧
  (∀ k : Fin 8,
    let x := s.dev.pair k
    (∀ lan : Fin 2, s.dev.pairMode k = 1 →
      let quiet := if lan = 0 then x.trailerA else x.trailerB
      let other := if lan = 0 then x.trailerB else x.trailerA
      let d := s.dev.at_ (quiet + 3 * ms (s.dev.get 0x320006 k))
      let told := s.dev.flt.live.contains (115 + lan.val, k.val)
      (quiet < other → told = false → Gives (.lifeCheck k lan) s ((d.raise (115 + lan.val) k 0 0).setLive (115 + lan.val) k true)) ∧
      (other ≤ quiet ∨ told = true → Gives (.lifeCheck k lan) s d)) ∧
    (s.dev.pairMode k = 2 → x.supAt ≠ 0 →
      let d := s.dev.at_ (x.supAt + ms (s.dev.get 0x320006 k))
      let b := supervisionBytes (s.dev.get 0x320007 k) 23 x.supSeq (macOf (2 * k))
      let e := d.setPair k { x with supSeq := (x.supSeq + 1) % 65536, seq := (x.seq + 1) % 65536, supAt := d.now }
      Gives (.supervisionFrameSend k) s ([2 * k.val, 2 * k.val + 1].foldl (fun d p =>
        d.enqueue p ⟨addTag 2 x.seq p b, d.fwdClass p b, .own, none, false, false, none, 0, 0⟩) e)) ∧
    (∀ t : Nat, x.single = some t →
      Gives (.singlePathEnd (.pair k)) s ((s.dev.at_ t).setPair k { x with single := none }))) ∧
  (∀ (g : BitVec 13) (t : Nat), tget 0 s.dev.ecl.silence g.toNat = t → t ≠ 0 →
    let d := s.dev.at_ t
    Gives (.restartSilenceEnd g) s (d.setEcl { d.ecl with silence := tput 0 s.dev.ecl.silence g.toNat 0 }))

/-- An enabled ring in RUN is inserted: its relay settles and it listens; disabled or out of RUN it is removed, and after the settle time its state
is cleared. In listen a candidate waits after 2 ms of silence, and enters cold start after its node ID times the step; an integrating node returns to
listen after 2 ms, a follower after 3 cycles. At its cycle start a leader's decided proposal becomes its mode, an undecided or lapsed one is dropped. The own
slot's queue is polled the lead before the slot passes. A mailbox message for the node is a response to be read, or a request that starts; one with a bad CRC is counted as discarded.
(Model's choices: log 34, 115.) -/
def Obligations.RingStates : Prop := ∀ (s : State) (r : Fin 2), s.por = false →
  let x := s.dev.ring r
  let st := s.dev.ringState r
  (s.dev.on 0x400001 r = true → s.dev.power = 2 → x.relay = .released →
    Gives (.ringInsert r) s (((s.dev.setRing r { x with
      relay := .inserting (s.dev.now + ms (s.dev.get 0x40000E r)), candidate := true }).put 0x400101 r 7).emit
        (.pin "RING_BYP_N" r false s.dev.now))) ∧
  ((s.dev.on 0x400001 r = false ∨ s.dev.power ≠ 2) → x.relay = .inserted →
    Gives (.ringRemove r) s (((s.dev.setRing r { x with relay := .removing (s.dev.now + ms (s.dev.get 0x40000E r)) }).put 0x400101 r 7).emit
      (.pin "RING_BYP_N" r true s.dev.now))) ∧
  (∀ t : Nat,
    let d := s.dev.at_ t
    (x.relay = .inserting t → Gives (.relaySettle r) s ((d.setRing r { x with relay := .inserted }).ringGo r 1)) ∧
    (x.relay = .removing t → Gives (.relaySettle r) s
      (((((d.setRing r x.down).put 0x400101 r 0).put 0x400102 r 0).put 0x400108 r 0).put 0x40010B r 0))) ∧
  (∀ d : Dev, d.ringGo r 1 =
    (((((d.put 0x400101 r 1).updRing r fun x => { x with prop := none, good := 0 }).put 0x400108 r 0).put 0x400102 r 0).updRing r
      fun x => { x with t0 := d.now })) ∧
  (st = 1 → s.dev.get 0x400004 r = 1 → x.candidate = true →
    let d := s.dev.at_ ((if x.lastValid < x.t0 then x.t0 else x.lastValid) + ms 2)
    Gives (.ringSilenceTimeout r) s ((d.setRing r { x with t0 := d.now }).put 0x400101 r 2)) ∧
  (st = 4 → Gives (.ringSilenceTimeout r) s ((s.dev.at_ (x.lastValid + ms 2)).ringGo r 1)) ∧
  (st = 5 → Gives (.ringSilenceTimeout r) s ((s.dev.at_ (x.lastValid + 3 * s.dev.ringPeriod r)).ringGo r 1)) ∧
  (st = 2 →
    let d := s.dev.at_ (x.t0 + ns (s.dev.nodeId r * s.dev.get 0x40000B r))
    Gives (.coldStartWait r) s ((((d.setRing r { x with sent := 0 }).put 0x400101 r 3).put 0x400102 r (s.dev.nodeId r)).put 0x400103 r
      (s.dev.get 0x40000C r))) ∧
  (∀ p : RingProposal, st = 6 → x.prop = some p →
    let d := (s.dev.at_ ((s.dev.ringCycle r).startAt p.cycle).toNat).setRing r { x with prop := none }
    (p.decision = 2 → Gives (.ringModeSwitch r) s ((d.put 0x400108 r 0).put 0x400103 r p.target)) ∧
    (p.decision ≠ 2 → Gives (.ringModeSwitch r) s (d.put 0x400108 r 0))) ∧
  (∀ w : Nat, s.dev.ownSlotAt r = some w →
    let q := s.dev.get 0x400010 r
    let d := s.dev.at_ (w - ns (s.dev.get 0x40000F r))
    q < 262144 → (s.dev.queue q).state = 1 →
    Gives (.ringSlotPoll r) s (d.setQueue q { s.dev.queue q with orrery := some 1, due := some d.now, deadline := w - us 2 })) ∧
  (∀ p : Fin 2,
    Gives (.ringReceiveSideDown r p) s (s.dev.setRing r (if p = 0 then { x with upA := false } else { x with upB := false })) ∧
    Gives (.ringReceiveSideUp r p) s (s.dev.setRing r (if p = 0 then { x with upA := true } else { x with upB := true }))) ∧
  (∀ (cycle : Nat) (box : List Byte), ccitt (box.take (box.length - 2)) = beAt box (box.length - 2) 2 →
    (byteAt box 0 = s.dev.nodeId r → x.mbxCycle ≠ some cycle → beAt box 2 2 + 6 ≤ box.length →
      let body := slice box 4 (beAt box 2 2)
      let path : Path := .ring r (byteAt box 1)
      let d := s.dev.setRing r { x with mbxCycle := some cycle }
      byteAt body 0 = 1 → body.length = 24 + beAt body 20 2 → byteAt box 0 ≠ 255 →
      ((kmpRead body).kind = 2 → x.received.length < 16 →
        Gives (.ringMailboxMessage r cycle box) s ((d.inc 0x400306 r).updRing r fun y => { y with received := y.received ++ [(byteAt box 1, body)] })) ∧
      ((kmpRead body).kind = 1 → x.responses.length < 16 → s.dev.reach path = true →
        Gives (.ringMailboxMessage r cycle box) s ((d.inc 0x400306 r).start path (kmpRead body).req)))) ∧
  (∀ (cycle : Nat) (box : List Byte), ccitt (box.take (box.length - 2)) ≠ beAt box (box.length - 2) 2 →
    Gives (.ringMailboxMessage r cycle box) s (s.dev.inc 0x400307 r))

/-- A leader, its ports' replicas synchronised, sends both copies of the cycle's frame at the next cycle start where Tether's schedule
allows; otherwise source 144 is raised for each port. In state 7 a copy without a good CTRL_CRC and the ring's RING_ID is counted, as invalid too, and passed on. The first valid copy that a listening
node receives makes it integrate to the copy's leader; the cycle number is reported and the copy passed on from the other port.
(Model's choices: log 35, 36.) -/
def Obligations.RingCopies : Prop := ∀ (s : State) (r : Fin 2), s.por = false →
  (∀ edge : Nat, s.dev.ringState r = 6 → s.dev.ringSafe r = false → (s.dev.ring r).prop = none →
    (s.dev.ringCycle r).startAt ((s.dev.ringCycle r).firstFrom s.dev.now) ≠ (s.dev.ring r).lastStart →
    let n := (s.dev.ringCycle r).firstFrom s.dev.now
    let cs := ((s.dev.ringCycle r).startAt n).toNat
    let start := cs + edge % s.dev.ringClock r
    let cycle := (n % (2 ^ 64 : Nat)).toNat
    let d := (s.dev.at_ start).updRing r fun x => { x with
      lastStart := cs, babbled := false, babble := if x.babbled then x.babble else 0 }
    let img := d.activeImage r
    ((s.dev.ring r).bothNow cycle < 16 → s.dev.ringSync r 0 = true → s.dev.ringSync r 1 = true → imgOk img = true →
      (d.guardStart r n start img = false → Gives (.ringCycleOriginate r edge) s ((d.ringBabble r 0).ringBabble r 1)) ∧
      (d.guardStart r n start img = true →
        let o := d.chooseOut r cycle img
        let e := (o.2.emit (.ringCopy r 1 (o.2.buildFrame r cycle start 1 false img o.1) true start)).emit
          (.ringCopy r 0 (o.2.buildFrame r cycle start 1 true img o.1) true start)
        Gives (.ringCycleOriginate r edge) s ((e.finishSlot o.1.entry 0).updRing r fun x => { x with
          out := some { o.1 with entry := none, copies := 2 } })))) ∧
  (∀ (p : Fin 2) (b : List Byte) (good : Bool) (rx tx : Nat), s.dev.armedSlot 17 (2 * r.val + p.val) 0 = none →
    s.dev.armedSlot 16 (2 * r.val + p.val) 0 = none →
    let d := ((s.dev.at_ (shiftTime rx (- (s.dev.rep (ringRep r p)).err))).put 0x400209 (ringElem r p) ((tx - rx) / 256)).countCopy r p 0
    (s.dev.ringState r = 7 → s.dev.copyCtrl r b = false →
      Gives (.ringCopyReceive r p b good rx tx) s ((d.countCopy r p 3).forwardCopy r p b good false rx tx)) ∧
    (s.dev.ringState r = 1 → s.dev.copyHeader r b = true → good = true → (s.dev.ring r).cyc = none → (s.dev.ring r).prev = none →
      (s.dev.ring r).upA = true → (s.dev.ring r).upB = true → rfCopyA b ≠ (p == 0) → rfMode b ≠ s.dev.get 0x400103 r →
      Runs (.ringCopyReceive r p b good rx tx) s fun e =>
        e.ringState r = 4 ∧ e.get 0x400102 r = rfLeader b ∧ e.get 0x400104 r = rfCycle b ∧
        (e.ring r).lastValid = d.now ∧ (e.ring r).prev = some ⟨rfLeader b, rfCycle b, rfStart b⟩ ∧
        e.out = s.dev.out ++ [.ringCopy r (1 - p.val) b true tx]))

/-- An engine that issues a legal word at cycle t goes on after the instruction's issue time with PC + 1, and the destination register
alone changes: it gets the operation's value (per lane with V, per packed lane with P, on scalars else), usable from t plus the latency, and the sticky
flags gather those of the operation. ADD to SRA take 1 cycle and 1 (MUL 3) of latency; FADD, FSUB, FMUL, FMA, FCVT 1 and 4; FDIV and FSQRT 8 and 8; FMAX,
FMIN, FABS, FCMP 1 and 2; VSEL and VBCAST 1 and 1; VEXT 1 and 2; VSUM 1 and 6; the immediate forms 1 and 1. NOP writes no register.
(Model's choices: log 42.) -/
def Obligations.EngineRegisterInstructions : Prop := ∀ (s : State) (f : Fin 128) (r : Run) (t : Nat), s.por = false →
  let runs := fun (c : Fin 128 → Instr) (op : Nat) (src : Ins → List (Bool × Nat)) (e : Engine) =>
    s.dev.issues f op src r t → Gives (c f) s (s.dev.setEngine f e)
  let a := if r.i.v then r.x.getV r.i.a else r.x.getS r.i.a
  let b := if r.i.v then r.x.getV r.i.b else r.x.getS r.i.b
  let c := if r.i.v then r.x.getV r.i.c else r.x.getS r.i.c
  let out := fun (vec : Bool) (val : Nat × Nat) (n lat : Nat) =>
    let x := if vec then r.x.setV r.i.d val.1 (t + lat) else r.x.setS r.i.d val.1 (t + lat)
    { x with flags := x.flags ||| val.2, pc := x.pc + 1, cyc := t + n }
  let both := fun (lane packed : Lane) =>
    if r.i.v then (if r.i.p then mapLanes 16 16 packed a b c else mapLanes 32 8 lane a b c) else lane a b c
  let lanes := fun (lane : Lane) => if r.i.v then (if r.i.p then mapLanes 16 16 lane a b c else mapLanes 32 8 lane a b c) else lane a b c
  let imm := fun (v : Nat) =>
    let x := r.x.setS r.i.d v (t + 1)
    { x with pc := x.pc + 1, cyc := t + 1 }
  runs .nop 0x00 (fun _ => []) { r.x with pc := r.x.pc + 1, cyc := t + 1 } ∧
  runs .add 0x01 srcAB (out r.i.v (both laneAdd packAdd) 1 1) ∧ runs .sub 0x02 srcAB (out r.i.v (both laneSub packSub) 1 1) ∧
  runs .mul 0x03 srcAB (out r.i.v (both laneMul packMul) 1 3) ∧ runs .and_ 0x04 srcAB (out r.i.v (both laneAnd packAnd) 1 1) ∧
  runs .or_ 0x05 srcAB (out r.i.v (both laneOr packOr) 1 1) ∧ runs .xor_ 0x06 srcAB (out r.i.v (both laneXor packXor) 1 1) ∧
  runs .shl 0x07 srcAB (out r.i.v (both laneShl packShl) 1 1) ∧ runs .shr 0x08 srcAB (out r.i.v (both laneShr packShr) 1 1) ∧
  runs .sra 0x09 srcAB (out r.i.v (both laneSra packSra) 1 1) ∧
  runs .addi 0x0A (fun i => [(false, i.a)]) (imm (((r.x.getS r.i.a : Int) + r.i.simm) % 4294967296).toNat) ∧
  runs .ori 0x0B (fun i => [(false, i.a)]) (imm (r.x.getS r.i.a ||| r.i.imm)) ∧
  runs .lui 0x0C (fun i => [(false, i.a)]) (imm (r.i.imm * 65536)) ∧
  runs .fadd 0x10 srcAB (out r.i.v (lanes laneFadd) 1 4) ∧ runs .fsub 0x11 srcAB (out r.i.v (lanes laneFsub) 1 4) ∧
  runs .fmul 0x12 srcAB (out r.i.v (lanes laneFmul) 1 4) ∧ runs .fma 0x13 srcABC (out r.i.v (lanes laneFma) 1 4) ∧
  runs .fdiv 0x14 srcAB (out r.i.v (lanes laneFdiv) 8 8) ∧ runs .fsqrt 0x15 srcA (out r.i.v (lanes laneFsqrt) 8 8) ∧
  runs .fmax 0x16 srcAB (out r.i.v (lanes laneFmax) 1 2) ∧ runs .fmin 0x17 srcAB (out r.i.v (lanes laneFmin) 1 2) ∧
  runs .fabs 0x18 srcA (out r.i.v (lanes laneFabs) 1 2) ∧ runs .fcmp 0x19 srcAB (out r.i.v (lanes (laneFcmp r.i.fn r.i.v)) 1 2) ∧
  runs .fcvt 0x1A (fun i => if i.fn = 5 then srcAB i else srcA i) (out r.i.v
    (if r.i.fn = 3 then (unpackLanes 0 (r.x.getV r.i.a), 0) else if r.i.fn = 4 then (unpackLanes 8 (r.x.getV r.i.a), 0)
      else if r.i.fn = 5 then packLanes (r.x.getV r.i.a) (r.x.getV r.i.b) else lanes (laneFcvt r.i.fn)) 1 4) ∧
  runs .vsel 0x20 srcABC (out r.i.v (lanes laneVsel) 1 1) ∧
  runs .vbcast 0x21 (fun i => [(false, i.a)]) (out true (ofLanes 32 (List.replicate 8 (r.x.getS r.i.a)), 0) 1 1) ∧
  runs .vext 0x22 (fun i => [(true, i.a)]) (out false (laneOf 32 (r.x.getV r.i.a) r.i.fn, 0) 1 2) ∧
  runs .vsum 0x23 (fun i => [(true, i.a)]) (out false (sumLanes (r.x.getV r.i.a)) 1 6)

/-- On 32-bit words ADD, SUB and MUL wrap, AND, OR and XOR are bitwise, SHL, SHR and SRA shift by the low five bits of b, SRA copying the
sign. On packed 16-bit lanes ADD and SUB saturate as signed numbers and MUL gives the product shifted right by 15, saturated; shifts take the low four bits.
An operation applied to n lanes of w bits gives lane j its value of the operands' lanes j, and gathers the flags of all of them. S0 reads as zero and a
write to it changes nothing; a write of another register leaves the others as they are.
(Model's choices: log 42.) -/
def Obligations.EngineLanes : Prop :=
  (∀ (a b : BitVec 32) (c : Nat),
    laneAdd a.toNat b.toNat c = ((a + b).toNat, 0) ∧ laneSub a.toNat b.toNat c = ((a - b).toNat, 0) ∧
    laneMul a.toNat b.toNat c = ((a * b).toNat, 0) ∧ laneAnd a.toNat b.toNat c = ((a &&& b).toNat, 0) ∧
    laneOr a.toNat b.toNat c = ((a ||| b).toNat, 0) ∧ laneXor a.toNat b.toNat c = ((a ^^^ b).toNat, 0) ∧
    laneShl a.toNat b.toNat c = ((a <<< (b.toNat % 32)).toNat, 0) ∧ laneShr a.toNat b.toNat c = ((a >>> (b.toNat % 32)).toNat, 0) ∧
    laneSra a.toNat b.toNat c = ((a.sshiftRight (b.toNat % 32)).toNat, 0)) ∧
  (∀ (a b : BitVec 16) (c : Nat),
    let sat := fun (x : Int) => (BitVec.ofInt 16 (if x > 32767 then 32767 else if x < -32768 then -32768 else x)).toNat
    packAdd a.toNat b.toNat c = (sat (a.toInt + b.toInt), 0) ∧ packSub a.toNat b.toNat c = (sat (a.toInt - b.toInt), 0) ∧
    packMul a.toNat b.toNat c = (sat (a.toInt * b.toInt / 32768), 0) ∧ packAnd a.toNat b.toNat c = ((a &&& b).toNat, 0) ∧
    packOr a.toNat b.toNat c = ((a ||| b).toNat, 0) ∧ packXor a.toNat b.toNat c = ((a ^^^ b).toNat, 0) ∧
    packShl a.toNat b.toNat c = ((a <<< (b.toNat % 16)).toNat, 0) ∧ packShr a.toNat b.toNat c = ((a >>> (b.toNat % 16)).toNat, 0) ∧
    packSra a.toNat b.toNat c = ((a.sshiftRight (b.toNat % 16)).toNat, 0)) ∧
  (∀ (w n : Nat) (g : Lane) (a b c j : Nat), j < n →
    laneOf w (mapLanes w n g a b c).1 j = (g (laneOf w a j) (laneOf w b j) (laneOf w c j)).1 % 2 ^ w ∧
    (g (laneOf w a j) (laneOf w b j) (laneOf w c j)).2 ||| (mapLanes w n g a b c).2 = (mapLanes w n g a b c).2) ∧
  (∀ (x : Engine) (v t q : Nat), x.getS 0 = 0 ∧ x.setS 0 v t = x ∧
    (∀ k : Nat, k ≠ 0 → (x.setS k v t).getS k = v % 2 ^ 32 ∧ (q ≠ k → (x.setS k v t).getS q = x.getS q)) ∧
    (∀ k : Nat, (x.setV k v t).getV k = v % 2 ^ 256 ∧ (q ≠ k → (x.setV k v t).getV q = x.getV q)))

/-- LD, VLD, ST and VST reach the word or the 32 bytes at Sa + IMM16 when aligned, within the data region and, for a store, not
below the work area; else the slot stops with "data address". XFER and SGET become outstanding, at most four; XWAIT goes on when none is. A branch goes to PC + 1
+ OFF16 where its relation holds, in 2 cycles. TIME reads the region's time and latches the rest. SPUT adds a record up to MAX_UPDATES. KEVT raises source
223, from the fifth on it is counted only. END completes the moves, clears the update buffer, hands the records to the region as one unit and notes
the commit, but not for a WARMUP activation; a late one raises source 218, sticky flags source 219.
(Model's choices: log 48, 49, 51, 52.) -/
def Obligations.EngineMemoryAndControl : Prop := ∀ (s : State) (f : Fin 128) (r : Run) (t : Nat), s.por = false →
  let sa : Nat := r.x.getS r.i.a
  let addr : Nat := (((sa : Int) + r.i.simm) % 4294967296).toNat
  let region : Nat := ikRegion r.l.image
  let goOn := fun (x : Engine) => { x with pc := x.pc + 1, cyc := t + 1 }
  (s.dev.issues f 0x28 (fun i => [(false, i.a)]) r t →
    (addr % 4 = 0 → addr + 4 ≤ region →
      Gives (.ld f) s (s.dev.setEngine f (goOn (r.x.setS r.i.d (tget 0 r.l.data (addr / 4)) (t + 2))))) ∧
    (¬ (addr % 4 = 0 ∧ addr + 4 ≤ region) → Gives (.ld f) s (s.dev.kernelFault f 6))) ∧
  (s.dev.issues f 0x2A (fun i => [(false, i.a)]) r t →
    (addr % 32 = 0 → addr + 32 ≤ region →
      Gives (.vld f) s (s.dev.setEngine f (goOn (r.x.setV r.i.d (ofLanes 32 (tgetAll 0 r.l.data (addr / 4) 8)) (t + 2))))) ∧
    (¬ (addr % 32 = 0 ∧ addr + 32 ≤ region) → Gives (.vld f) s (s.dev.kernelFault f 6))) ∧
  (s.dev.issues f 0x29 (fun i => [(false, i.a), (false, i.d)]) r t →
    (addr % 4 = 0 → addr + 4 ≤ region → ikWork r.l.image ≤ addr →
      Gives (.st f) s ((s.dev.setLoaded r.slot r.useOld { r.l with data := tput 0 r.l.data (addr / 4) (r.x.getS r.i.d) }).setEngine f
        (goOn r.x))) ∧
    (¬ (addr % 4 = 0 ∧ addr + 4 ≤ region ∧ ikWork r.l.image ≤ addr) → Gives (.st f) s (s.dev.kernelFault f 6))) ∧
  (s.dev.issues f 0x2B (fun i => [(false, i.a), (true, i.d)]) r t →
    (addr % 32 = 0 → addr + 32 ≤ region → ikWork r.l.image ≤ addr →
      Gives (.vst f) s ((s.dev.setLoaded r.slot r.useOld { r.l with
        data := tputAll 0 r.l.data (addr / 4) ((List.range 8).map (laneOf 32 (r.x.getV r.i.d))) }).setEngine f (goOn r.x))) ∧
    (¬ (addr % 32 = 0 ∧ addr + 32 ≤ region ∧ ikWork r.l.image ≤ addr) → Gives (.vst f) s (s.dev.kernelFault f 6))) ∧
  (s.dev.issues f 0x2C (fun i => [(false, i.a), (false, i.b), (false, i.c)]) r t →
    let b := r.x.getS r.i.b
    let n := r.x.getS r.i.c
    let local_ := 32 ≤ n ∧ n ≤ 4096 ∧ n % 32 = 0 ∧ sa % 32 = 0 ∧ sa + n ≤ region ∧ (r.i.fn = 1 → ikWork r.l.image ≤ sa)
    (4 ≤ r.x.moves.length → Gives (.xfer f) s s.dev) ∧
    (r.x.moves.length < 4 → ¬ local_ → Gives (.xfer f) s (s.dev.kernelFault f 6)) ∧
    (r.x.moves.length < 4 → local_ → b + n > 128 * ikShared r.l.image ∨ b % 32 ≠ 0 → Gives (.xfer f) s (s.dev.kernelFault f 7)) ∧
    (r.x.moves.length < 4 → local_ → b + n ≤ 128 * ikShared r.l.image → b % 32 = 0 →
      let t' := max t r.x.moved
      Gives (.xfer f) s (s.dev.setEngine f { r.x with
        moves := r.x.moves ++ [Move.xfer (t' + (16 + 8 * n / 32)) sa b n (r.i.fn == 1)], pc := r.x.pc + 1, cyc := t' + 1 }))) ∧
  (s.dev.issues f 0x2E (fun i => [(false, i.a), (false, i.b)]) r t →
    let local_ := sa % 32 = 0 ∧ sa + 32 ≤ region ∧ ikWork r.l.image ≤ sa
    let sig := r.x.getS r.i.b % 2 ^ 25
    let t' := max t r.x.moved
    (4 ≤ r.x.moves.length → Gives (.sget f) s s.dev) ∧
    (r.x.moves.length < 4 → ¬ local_ → Gives (.sget f) s (s.dev.kernelFault f 6)) ∧
    (r.x.moves.length < 4 → local_ → Gives (.sget f) s (s.dev.setEngine f { r.x with
      moves := r.x.moves ++ [Move.sget (t' + (if regionOfSig sig = f.val / 32 then 150 else 400)) sa sig r.i.fn],
      pc := r.x.pc + 1, cyc := t' + 1 }))) ∧
  (s.dev.issues f 0x2D (fun _ => []) r t →
    (r.x.moves ≠ [] → Gives (.xwait f) s s.dev) ∧
    (r.x.moves = [] → Gives (.xwait f) s (s.dev.setEngine f { r.x with pc := r.x.pc + 1, cyc := max t r.x.moved + 1 }))) ∧
  (let branch := fun (c : Fin 128 → Instr) (op : Nat) (rel : BitVec 32 → BitVec 32 → Bool) =>
    ∀ x y : BitVec 32, s.dev.issues f op (fun i => [(false, i.d), (false, i.a)]) r t → r.x.getS r.i.d = x.toNat → sa = y.toNat →
      (rel x y = true → 0 ≤ (r.x.pc : Int) + 1 + r.i.simm →
        Gives (c f) s (s.dev.setEngine f { r.x with pc := ((r.x.pc : Int) + 1 + r.i.simm).toNat, cyc := t + 2 })) ∧
      (rel x y = false → Gives (c f) s (s.dev.setEngine f (goOn r.x)))
   branch .beq 0x30 (fun x y => x == y) ∧ branch .bne 0x31 (fun x y => x != y) ∧
   branch .blt 0x32 (fun x y => x.slt y) ∧ branch .bge 0x33 (fun x y => y.sle x)) ∧
  (let now := (((r.x.start + ns t : Nat) : Int) + (s.dev.rep (21 + f.val / 32)).err).toNat
   (s.dev.issues f 0x38 (fun _ => []) r t →
    (r.i.fn = 0 → Gives (.time f) s (s.dev.setEngine f (goOn { r.x.setS r.i.d (now / 65536 % 1000000000) (t + 2) with
      latchSec := now / sec 1 % 2 ^ 32, latchFrac := now % 65536 }))) ∧
    (r.i.fn = 1 → Gives (.time f) s (s.dev.setEngine f (goOn (r.x.setS r.i.d r.x.latchSec (t + 2))))) ∧
    (r.i.fn = 2 → Gives (.time f) s (s.dev.setEngine f (goOn (r.x.setS r.i.d r.x.latchFrac (t + 2)))))) ∧
   (s.dev.issues f 0x3A (fun i => [(false, i.a)]) r t →
    (r.x.kevts < 4 → Gives (.kevt f) s
      ((s.dev.setEngine f (goOn { r.x with kevts := r.x.kevts + 1 })).raiseAt now 223 r.slot r.i.imm sa)) ∧
    (4 ≤ r.x.kevts → Gives (.kevt f) s ((s.dev.setEngine f (goOn { r.x with kevts := r.x.kevts + 1 })).inc 0x50000A (r.slot / 16))))) ∧
  (s.dev.issues f 0x39 (fun i => [(false, i.a)]) r t →
    (¬ (sa % 32 = 0 ∧ sa + 32 ≤ region) → Gives (.sput f) s (s.dev.kernelFault f 6)) ∧
    (sa % 32 = 0 → sa + 32 ≤ region →
      (r.x.upd.length < ikMaxUpd r.l.image →
        Gives (.sput f) s (s.dev.setEngine f (goOn { r.x with upd := r.x.upd ++ [getWords r.l.data sa 8] }))) ∧
      (ikMaxUpd r.l.image ≤ r.x.upd.length → Gives (.sput f) s (s.dev.kernelFault f 9)))) ∧
  (∀ a : Act, s.dev.issues f 0x3B (fun _ => []) r t → r.x.act = some a →
    let t' := if r.x.moves = [] then max t r.x.moved else t
    let d := (r.x.moves.foldl (fun d m => d.doMove f m) s.dev).at_ (r.x.start + ns t')
    let l := a.slot / 16
    Runs (.end_ f) s fun e =>
      e.engine f = { r.x with act := none, upd := [], moves := [], done := r.x.done + 1 } ∧ e.get 0x500001 l = 0 ∧ e.tim = d.tim ∧
      s.dev.raises ((if r.x.flags ≠ 0 then [⟨219, l, 0, 0, d.now, false⟩] else [])
        ++ (if d.now > a.deadline then [⟨218, l, 0, 0, d.now, false⟩] else [])) e ∧
      (bit a.flags 1 = true ∨ r.x.upd = [] → e.tab = s.dev.tab) ∧ (bit a.flags 1 = true → e.eng.binds = s.dev.eng.binds) ∧
      (bit a.flags 1 = false → (e.bind_ a.binding).committed = some a.time ∧
        (r.x.upd ≠ [] → e.region (f.val / 32) = { s.dev.region (f.val / 32) with
          units := (s.dev.region (f.val / 32)).units ++ [⟨2 ^ 30 + a.slot, r.x.upd⟩] })) ∧
      s.dev.changesOnly [.dict, .tim, .flying, .eng, .tab] e)

/-- A timer binding raises an activation at its instant. An idle engine takes, 40 cycles ahead, the pending activation of the earliest
deadline, then the lowest slot and binding, with every register zero and the context written. A move's data lands when it completes. An activation that reaches WCET + 1
cycles has its slot stopped. A hardware fault of an engine re-homes it to its region's ready spare, or contains it; of the spare itself, only tests it. Re-homing
ends with the spare at work and the activations raised again. A passed self-test makes the engine its region's spare. Verification ends with status 3 or 4.
(Model's choices: log 47, 50, 172.) -/
def Obligations.EngineEvents : Prop := ∀ (s : State), s.por = false →
  (∀ b : BitVec 16, s.dev.get 0x530002 b.toNat = 4 → s.dev.get 0x530001 b.toNat ≠ 0xFFFF →
    let last := (s.dev.bind_ b.toNat).timerAt
    let t := s.dev.timerInstant b.toNat (if last ≥ s.dev.now then last + 1 else s.dev.now)
    let d := (s.dev.at_ t).setBind b.toNat { s.dev.bind_ b.toNat with timerAt := t }
    Gives (.timerTrigger b) s (d.raiseAct (d.actOf b.toNat t (t / sec 1 % 2 ^ 32) 0 0))) ∧
  (∀ (l : List Act) (a : Act), selectAct l = some a → a ∈ l ∧ ∀ b ∈ l, a.deadline ≤ b.deadline ∧
    (a.deadline = b.deadline → a.slot % 16 ≤ b.slot % 16 ∧ (a.slot % 16 = b.slot % 16 → a.binding ≤ b.binding))) ∧
  (∀ (f : Fin 128), s.por = false →
    let x := s.dev.engine f
    let g := f.val / 32
    let l := s.dev.logicalOf f
    (∀ a : Act, x.act = none → x.state = 0 → s.dev.regionRuns g = true → s.dev.clusterStopped (f.val / 8) = false →
      selectAct x.pending = some a →
      ((s.dev.kslot a.slot).at_ a.time = none → Gives (.activationDispatch f) s
        ((s.dev.setEngine f { x with pending := x.pending.erase a, lost := x.lost + 1 }).dropAct a)) ∧
      (∀ im : Loaded, (s.dev.kslot a.slot).at_ a.time = some im →
        let ctx := contextBytes a im (s.dev.actGrid a) (b2n (decide (s.dev.now > a.deadline)))
        let old := decide (a.time < (s.dev.kslot a.slot).oldUntil) && (s.dev.kslot a.slot).old.isSome
        let l := s.dev.wrapRings a im
        Gives (.activationDispatch f) s
          (((s.dev.setLoaded a.slot old { l with data := putWords l.data 0 ctx 16 }).setEngine f { x with
            pending := x.pending.erase a, s := [], v := [], sAt := [], vAt := [], pc := ikEntry l.image, cyc := 0, act := some a,
            useOld := old, flags := 0, upd := [], kevts := 0, moves := [], moved := 0, latchSec := 0, latchFrac := 0,
            start := s.dev.now + ns 40 }).put 0x500001 (s.dev.logicalOf f) 1))) ∧
    (∀ (early c a b n : Nat) (sh : Bool) (r : Run), s.dev.fetch f = some r →
      x.moves.find? (fun m => m.isXfer == true) = some (Move.xfer c a b n sh) →
      let at_ := c - (if early < xferCycles n then early else xferCycles n - 1)
      let im := if sh then { r.l with data := tputAll 0 r.l.data (a / 4) (tgetAll 0 r.l.shared (b / 4) (n / 4)) }
        else { r.l with shared := tputAll 0 r.l.shared (b / 4) (tgetAll 0 r.l.data (a / 4) (n / 4)) }
      Gives (.xferComplete f early) s ((s.dev.setLoaded r.slot r.useOld im).setEngine f
        { x with moves := x.moves.erase (Move.xfer c a b n sh), moved := max x.moved at_ })) ∧
    (∀ (early c a sig fn : Nat) (r : Run), s.dev.fetch f = some r →
      x.moves.find? (fun m => m.isXfer == false) = some (Move.sget c a sig fn) →
      let at_ := c - (if early < 150 then early else 149)
      let v := s.dev.view sig (if fn = 0 then s.dev.tab.pub else s.dev.tab.prev) fn
      Gives (.sgetComplete f early) s ((s.dev.setLoaded r.slot r.useOld { r.l with data := putWords r.l.data a v 8 }).setEngine f
        { x with moves := x.moves.erase (Move.sget c a sig fn), moved := max x.moved at_ })) ∧
    (∀ a : Act, x.act = some a → s.dev.wcetOf a + 1 ≤ x.cyc →
      let d := s.dev.at_ (x.start + ns (s.dev.wcetOf a + 1))
      Runs (.watchdog f) s fun e => (e.kslot a.slot).stopped = 8 ∧ e.get 0x50000B (a.slot / 16) = 8 ∧
        s.dev.raises [⟨215, a.slot / 16, 0, 0, d.now, false⟩] e ∧
        (s.dev.hostOf (a.slot / 16) = f.val → (e.engine f).act = none ∧ (e.engine f).upd = [] ∧
          ∀ b ∈ (e.engine f).pending, b.slot ≠ a.slot) ∧
        s.dev.changesOnly [.dict, .tim, .flying, .eng] e) ∧
    (∀ k : Fin 4, (∀ c ∈ [2, 3, 4], s.dev.armedSlot c f 0 = none) →
      let row := if k = 0 ∨ k = 1 then 2 else if k = 2 then 3 else 4
      let sp := s.dev.get 0x500102 g
      (x.state = 3 ∨ x.state = 4 ∨ x.state = 5 → Gives (.engineHardwareFault f k) s s.dev) ∧
      (x.state < 3 → sp = f.val → Gives (.engineHardwareFault f k) s
        (((((((s.dev.raise (207 + row) l 0 0).put 0x50000B l row).setEngine f { engine0 with
          state := 4, got := x.got, done := x.done, lost := x.lost, issued := x.issued })).put 0x500102 g 0xFF).put 0x500104 g 2).put
          0x500001 l 4)) ∧
      (x.state < 3 → sp ≠ f.val → s.dev.get 0x500104 g = 0 → sp < 128 → s.dev.logicalOf sp ≠ l →
        Runs (.engineHardwareFault f k) s fun e => e.get 0x500003 l = sp ∧ e.get 0x500003 (s.dev.logicalOf sp) = f.val ∧
          (e.engine f).state = 4 ∧ (e.engine f).act = none ∧ (e.engine f).pending = [] ∧ (e.engine sp).state = 1 ∧
          (e.engine sp).pending = (s.dev.engine sp).pending ++ x.pending ∧
          e.get 0x500001 (s.dev.logicalOf sp) = 4 ∧ e.get 0x500102 g = 0xFF ∧ e.get 0x500104 g = 1 ∧
          s.dev.raises [⟨207 + row, l, 0, 0, s.dev.now, false⟩, ⟨224, l, 0, 0, s.dev.now, false⟩] e ∧
          s.dev.changesOnly [.dict, .flying, .eng] e) ∧
      (x.state < 3 → sp ≠ f.val → s.dev.get 0x500104 g ≠ 0 ∨ sp = 0xFF →
        Runs (.engineHardwareFault f k) s fun e => (e.engine f).state = 3 ∧ (e.engine f).act = none ∧ e.get 0x500001 l = 3 ∧
          s.dev.raises [⟨207 + row, l, 0, 0, s.dev.now, false⟩, ⟨220, l, 0, 0, s.dev.now, false⟩] e ∧
          s.dev.changesOnly [.dict, .flying, .eng] e)) ∧
    (x.state = 4 →
      Gives (.selfTestComplete f true) s
        ((((s.dev.setEngine f { x with state := 0 }).put 0x500001 l 2).put 0x500102 g f).put 0x500104 g 0) ∧
      Gives (.selfTestComplete f false) s
        (((((s.dev.setEngine f { x with state := 5 }).put 0x500001 l 5).put 0x500104 g 2).put 0x50000B l 14).raise 221 l 0 0))) ∧
  (∀ (g : Fin 4) (x : Rehome), tget ⟨0, 0, 0, 0, []⟩ s.dev.eng.rehomes g = x → x.done ≠ 0 →
    let live := x.again.filter (fun a => decide (a.epoch > s.dev.tab.closed))
    (s.dev.engine x.to_).pending.length + live.length ≤ 64 →
    Runs (.rehomeComplete g) s fun e => e.tim = (s.dev.at_ x.done).tim ∧ (e.engine x.to_).state = 0 ∧
      (e.engine x.to_).pending = (s.dev.engine x.to_).pending ++ live ∧ s.dev.changesOnly [.tim, .eng] e) ∧
  (∀ i : Fin 64, s.dev.get 0x502003 i = 2 →
    let b := s.dev.getB 0x502001 i
    let d := s.dev.setEng { s.dev.eng with verifying := s.dev.eng.verifying.filter (· != i.val) }
    (s.dev.imageReason b ≠ 0 → Gives (.imageVerifyComplete i) s ((d.put 0x502003 i 4).put 0x502004 i (s.dev.imageReason b))) ∧
    (s.dev.imageReason b = 0 → Gives (.imageVerifyComplete i) s
      ((((((d.put 0x502003 i 3).put 0x502004 i 0).put 0x502005 i (ikKernel b)).put 0x502006 i (ikVersion b)).put 0x502007 i
        (ikWcet b)).put 0x502008 i (byteAt b (ikSigOff b)))))

/-- The oldest set on its way becomes present in its windows, or is lost with a region that does not run. The ingest cutoff of the next epoch
commits every set on its way, counts the absent grid points of each channel and raises the epoch's completions and activations. Three
frame intervals after its last frame a stream is silent; a sampled-value stream shows state 3. The oldest unit of a region is taken into its journal and its
records judged one by one, or rejected whole with source 258 where the journal has no room. A PMU stream builds the frame of its next reporting instant
at that instant plus its wait, and sends it on its port unless that is in the safe state.
(Model's choices: log 66, 67, 125.) -/
def Obligations.IngestEvents : Prop := ∀ (s : State), s.por = false →
  (∀ (x : Landing) (l : List Landing), s.dev.ing.landing = x :: l →
    let d := s.dev.setIng { s.dev.ing with landing := l }
    (s.dev.regionRuns x.region = true → Gives .windowEntryCommit s (d.commitEntries x.grid x.entries)) ∧
    (s.dev.regionRuns x.region = false → Gives .windowEntryCommit s d)) ∧
  (s.dev.tab.running = true →
    let n := s.dev.tab.cut + 1
    let d0 := s.dev.at_ (s.dev.cutoffAt n)
    let d1 := Dev.commitAll d0.ing.landing.length d0
    let d2 := d1.channels.foldl (fun d c => d.add 0x613004 c (d.missingOf c n)) d1
    Gives .ingestCutoff s (((d2.setTab { d2.tab with cut := n }).cutoffCompletions n).epochActs n)) ∧
  (∀ (kind : Fin 3) (n : BitVec 16) (t : Nat), (s.dev.stream kind n.toNat).last = some t →
    let d := (s.dev.at_ (t + 3 * s.dev.frameInterval kind n.toNat)).updStream kind n.toNat fun x => { x with last := none }
    (kind = 0 → s.dev.on 0x610001 n.toNat = true → Gives (.streamSilent kind n) s (d.put 0x610017 n.toNat 3)) ∧
    (kind ≠ 0 → Gives (.streamSilent kind n) s d)) ∧
  (∀ (g : Fin 4) (u : Unit_) (rest : List Unit_), (s.dev.region g).units = u :: rest → s.dev.regionRuns g = true →
    let x := s.dev.region g
    let fill := x.journal s.dev.now + u.records.length
    let d := s.dev.setRegion g { x with units := rest }
    (65536 < fill →
      Gives (.updateAccept g) s ((u.records.foldl (fun d _ =>
        ((d.countRegion g fun l => { l with accepted := l.accepted + 1, rejected := l.rejected + 1 }).inc 0x600101 g).inc 0x600104 g) d).raise
          258 g 0 0)) ∧
    (fill ≤ 65536 → fill ≤ s.dev.get 0x600108 g →
      Gives (.updateAccept g) s
        (u.records.foldl (fun d b => d.record g u.source b)
          (d.setRegion g { d.region g with fill := fill, fillAt := d.now })))) ∧
  (∀ (d : Dev) (g source : Nat) (b : List Byte), d.recordBad g b = false → leAt b 0 4 / 2 ^ 30 ≠ 1 → d.tab.running = true →
    let e := d.epochOf (updTime d.now b)
    (e ≤ d.tab.closed → d.record g source b = d.lateUpd g source b) ∧
    (d.tab.closed < e → e < d.tab.closed + 3 → d.record g source b = d.acceptUpd g source e b) ∧
    (d.tab.closed + 3 ≤ e → d.record g source b = d.rejectRecord g source)) ∧
  (∀ stream : Fin 256,
    let rate := (cfgDataRate (s.dev.getB 0x650002 stream)).toNat
    s.dev.on 0x650001 stream = true → rate ≠ 0 → (cfgParse (s.dev.getB 0x650002 stream)).isSome = true →
    8192 ≤ s.dev.get 0x650004 stream →
    let g := s.dev.pmuNext stream rate
    let d0 := s.dev.at_ (g * sec 1 / rate + us (s.dev.get 0x65000D stream))
    let free := d0.takeFree
    let d := free.2.setPmu stream { d0.pmu stream with last := some g }
    let f := d.pmuFrame stream g free.1 false
    let e := d.add 0x650010 stream f.2
    let port := s.dev.get 0x650005 stream
    (e.safe port = true → Gives (.pmuFrameBuild stream) s e) ∧
    (e.safe port = false →
      Gives (.pmuFrameBuild stream) s ((e.enqueue port ⟨udpFrame (d.getB 0x650006 stream) (macOf port) (d.get 0x65000B stream)
        (d.getB 0x650009 stream) (d.getB 0x650007 stream) (d.get 0x65000A stream) (d.get 0x650008 stream) free.1 f.1,
        d.get 0x65000C stream, .own, none, false, false, none, 0, 0⟩).inc 0x65000F stream)))

/-- In RUN, 200 us after all regions are up, epochs start at the next boundary. The newest open epoch closes with a snapshot of the ledgers, which begin
again. A region that runs reports the oldest closed epoch it has not reported, 1 us after the close. The oldest closed epoch is published 2 us after its
close and 2 us after the one before: its number and record are reported, the record before kept, it becomes the newest readable epoch,
held updates are released, source 259 raised for each region that did not report, and every export list's block handed over (here with every ledger
balanced and no pin taken). A pin lapses one
period after it was taken: it is released, counted and remembered.
(Model's choices: log 57, 58, 118.) -/
def Obligations.EpochEvents : Prop := ∀ (s : State), s.por = false →
  (∀ t : Nat, s.dev.tab.upSince = some t → s.dev.tab.running = false → s.dev.power = 2 →
    let a := anchorFrom (t + us 200) (s.dev.get 0x600001 0) (s.dev.get 0x600002 0) (s.dev.get 0x600003 0)
    let d := s.dev.at_ (a.2.bound a.1)
    Gives .epochStart s (d.setTab { d.tab with
      segs := [a.2], running := true, first := true, closed := a.1 - 1, cut := a.1 - 1, closing := [], pub := none, prev := none })) ∧
  (s.dev.tab.running = true → s.dev.tab.closed + 1 ≤ s.dev.tab.cut →
    let n := s.dev.tab.closed + 1
    let x := s.dev.closeAt n
    let d := s.dev.at_ x
    let able := (List.range 4).foldl (fun m g => m + b2n (d.regionAble n g) * 2 ^ g) 0
    let totals := (List.range 4).map (fun g => let l := (d.region g).ledger; (⟨g, l.written, l.late, l.rejected⟩ : Totals))
    let c : Closing := ⟨n, if d.now < x then x else d.now, able, 0, totals, d.imbalances able,
      decide (s.dev.tim.stepFrom < x) && decide (x ≤ s.dev.tim.stepTo)⟩
    let e := (((d.setTab { d.tab with closed := n, closing := d.tab.closing ++ [c] }).newLedgers).expireActs n).retireImages
    Gives .epochClose s (({ e with obj := { e.obj with old := e.obj.old.filter (fun o => decide (o.boundary > e.epochEnd n)) } } : Dev).retireBanks
      (s.dev.epochEnd n))) ∧
  (∀ (g : Fin 4) (c : Closing), s.dev.tab.closing.find? (fun c => bit c.able g && !bit c.reported g) = some c →
    let d := s.dev.at_ (c.at_ + us 1)
    (d.now ≤ c.at_ + ns 1500 → s.dev.regionRuns g = true →
      Gives (.regionCloseReport g) s (d.setTab { d.tab with
        closing := d.tab.closing.map (fun y => if y.n = c.n then { y with reported := setBit y.reported g true } else y) }))) ∧
  (∀ (c : Closing) (rest : List Closing), s.dev.tab.closing = c :: rest → c.sides = [] → s.dev.tab.pin = none →
    let d0 := s.dev.at_ (c.at_ + us 2)
    s.dev.tab.lastPub + us 2 ≤ d0.now →
    let p : PubEpoch := ⟨c.n, c.reported, true⟩
    let rec1 := if s.dev.tab.pub.isSome then d0.getB 0x600201 0 else zeros 64
    let d1 := ((d0.put 0x600004 0 c.n).putB 0x600201 0 (d0.epochRecord p c)).putB 0x600201 1 rec1
    let d2 := (d1.setTab { d1.tab with
      pub := some p, prev := d1.tab.pub, closing := rest, first := false, lastPub := d1.now, segs := trimSegs (c.n - 1) d1.tab.segs }).releaseUpdates c.n
    let d3 := (List.range 4).foldl (fun d g => (if bit c.reported g then d else d.raise 259 g 0 0).freePoison g) d2
    Gives .epochPublish s ((d3.host.queues.foldl (fun d q => d.overrunQueue q.1) d3).exportEpoch p)) ∧
  (∀ p : Pin, s.dev.tab.pin = some p →
    let d := s.dev.at_ p.until_
    Gives .pinLapse s (d.setTab { d.tab with
      pin := none, pinStale := true, pinLapsed := true, pinLapses := (d.tab.pinLapses + 1) % 2 ^ 32 }))

/-- Where memory requests reach the BARs and an image runs, a BAR2 read completes with the views of the signals at its offset for one epoch: the
newest published one, or the pinned one; a write is discarded and counted. Where they do not, a read completes with Unsupported Request and both are
counted. A view carries time, value, quality, epoch and its selection. A signal of type 0 resolves to reason 1, one of an absent region to 4, a poisoned or
damaged one to 5, one without a slot to 2 or 3; an entry older than its carry limit to 3, a lost writer's to 6, else 0, carried where it has an age.
(Model's choices: log 55, 56, 146.) -/
def Obligations.SignalViews : Prop :=
  (∀ (s : State) (off : BitVec 30) (len : BitVec 13), s.por = false →
    (s.dev.memOk = true → s.dev.power = 2 ∨ s.dev.power = 6 →
      Gives (.bar2Read off len) s (s.dev.emit (.completion 0 (s.dev.bar2Bytes off.toNat len.toNat))) ∧
      Gives .bar2Write s (s.dev.inc 0x600006 0)) ∧
    (s.dev.memOk = false ∨ s.dev.power ≠ 2 ∧ s.dev.power ≠ 6 →
      Gives (.bar2Read off len) s ((unsupportedRequest true s.dev).emit (.completion 1 [])) ∧
      Gives .bar2Write s (unsupportedRequest true s.dev))) ∧
  (∀ d : Dev, (d.tab.pin = none → d.tab.pinStale = false → d.bar2Epoch = (d.tab.pub, 0)) ∧
    (∀ (p : Pin) (a : PubEpoch), d.tab.pin = some p → d.tab.pub = some a → p.epoch = a.n → d.bar2Epoch = (some a, 2)) ∧
    (∀ (p : Pin) (a : PubEpoch), d.tab.pin = some p → d.tab.pub = some a → p.epoch ≠ a.n → d.bar2Epoch = (d.tab.prev, 2))) ∧
  (∀ (d : Dev) (i select : Nat) (p : PubEpoch), (∀ v, (d.resolve i p).slot = some v → v.value.length = 12) →
    (d.view i (some p) select).length = 32) ∧
  (∀ (d : Dev) (i : Nat) (p : PubEpoch),
    (d.sigType i = 0 → d.resolve i p = ⟨none, 1, 0, false⟩) ∧
    (d.sigType i ≠ 0 → bit p.present (regionOfSig i) = false → d.resolve i p = ⟨none, 4, 0, false⟩) ∧
    (d.sigType i ≠ 0 → bit p.present (regionOfSig i) = true → ∀ x : Poison, d.poisonOf i = some x → x.q ≤ p.n →
      (∀ v, (pickSlot (fun a b => decide (tagDiff a b > 0)) (fun t => decide (tagDiff t p.n ≤ 0)) (d.rec_ i).slots).map (·.2) = some v →
        tagDiff v.tag x.q < 0) → d.resolve i p = ⟨none, 5, 0, false⟩) ∧
    (d.sigType i ≠ 0 → bit p.present (regionOfSig i) = true → d.poisonOf i = none →
      let slot := (pickSlot (fun a b => decide (tagDiff a b > 0)) (fun t => decide (tagDiff t p.n ≤ 0)) (d.rec_ i).slots).map (·.2)
      (slot = none → d.resolve i p = ⟨none, if (d.rec_ i).ever = true then 3 else 2, 0, false⟩) ∧
      (∀ v : ValSlot, slot = some v → v.damaged = true → d.resolve i p = ⟨none, 5, 0, false⟩) ∧
      (∀ v : ValSlot, slot = some v → v.damaged = false →
        let age := (tagDiff p.n v.tag).toNat
        (d.sigCarry i < age → d.resolve i p = ⟨some v, 3, age, false⟩) ∧
        (age ≤ d.sigCarry i → 0 < age → d.sourceLost (d.rec_ i).source = true → d.resolve i p = ⟨some v, 6, age, false⟩) ∧
        (age ≤ d.sigCarry i → 0 < age → d.sourceLost (d.rec_ i).source = false → d.resolve i p = ⟨some v, 0, age, true⟩) ∧
        (age = 0 → d.resolve i p = ⟨some v, 0, 0, false⟩))))

/-- A disarmed front screen is armed again once it has stayed low for its re-arm time. A capture is complete at its window's end plus the grace, and raises
source 289. A snippet goes into the region's front kernel, or is dropped and counted where that does not run or holds 512. An arrival handed over
becomes an arrival record, and enters the log. Past the remote wait a line event without a remote record is marked so. At 2 tau plus tolerance after its first arrival a line event takes its single-ended location, once, where the line asks for it.
(Model's choices: log 72, 73, 75.) -/
def Obligations.WavefrontEvents : Prop := ∀ (s : State), s.por = false →
  (∀ (c : Fin 512) (t : Nat), (s.dev.wchan c).disarmed = true → (s.dev.wchan c).belowSince = some t →
    Gives (.frontRearm c) s ((s.dev.at_ (t + us (s.dev.get 0xA01005 c))).setWchan c
      { s.dev.wchan c with disarmed := false, belowSince := none })) ∧
  (∀ e : Fin 64, s.dev.capState e = 1 →
    Gives (.captureComplete e) s
      ((((s.dev.at_ ((s.dev.capture e).end_ + us (s.dev.get 0xA02003 0))).put 0xA02104 e 2).showCapture e).raise 289 e 0 0)) ∧
  (∀ (g : Fin 4) (x : Snippet), s.dev.snippetNext g.val = some x →
    (s.dev.wsampleAt x.chan (x.grid + 31)).isSome = true →
    let d := s.dev.setWave { s.dev.wave with snippets := s.dev.wave.snippets.erase x }
    let k := s.dev.get 0xA03001 g
    (k = 0xFFFF → Gives (.snippetComplete g) s (d.inc 0xA03003 g)) ∧
    (∀ l : Loaded, k ≠ 0xFFFF → (s.dev.kslot k).cur = some l →
      let w := tget 0 l.shared 0
      (512 ≤ (w + 2 ^ 32 - tget 0 l.shared 1) % 2 ^ 32 → Gives (.snippetComplete g) s (d.inc 0xA03003 g)) ∧
      ((w + 2 ^ 32 - tget 0 l.shared 1) % 2 ^ 32 < 512 →
        let sh := tput 0 (putWords l.shared (128 + 256 * (w % 512)) (d.snippetBytes x) 64) 0 ((w + 1) % 2 ^ 32)
        Gives (.snippetComplete g) s ((d.setKslot k { s.dev.kslot k with cur := some { l with shared := sh } }).inc 0xA03002 g)))) ∧
  (∀ (g : Fin 4) (u : List Byte), s.dev.wave.handoff.find? (fun x => x.1 == g.val) = some (g.val, u) → 512 ≤ leAt u 24 4 % 65536 →
    let d := (s.dev.setWave { s.dev.wave with handoff := s.dev.wave.handoff.erase (g.val, u) }).inc 0xA00102 0
    let amp := match unpack64 (leAt u 16 8) with
      | .fin s m e => (pack32 s m e).1
      | .inf s => inf32 s
      | .nan _ => qNaN
    let b := slice u 8 8 ++ slice u 28 2 ++ leBytes 2 (leAt u 24 4 / 65536) ++ leBytes 4 amp ++ leBytes 2 (leAt u 24 4 % 65536)
      ++ [0xFF, byte (b2n (bit (leAt u 4 4) 14) + 2 * b2n d.traceable)] ++ leBytes 4 d.timeUnc ++ leBytes 4 (d.get 0xA00102 0)
      ++ leBytes 2 0xFFFF ++ zeros 2
    Gives (.arrivalHandoff g) s (d.logArrival b)) ∧
  (∀ (l : Fin 64) (ev : LineEv), (s.dev.line l).ev = some ev →
    (ev.remote = none → Gives (.remoteWaitTimeout l) s
      ((s.dev.at_ (ev.heard + ms (s.dev.get 0xA1000E l))).setLine l { s.dev.line l with ev := some { ev with waitOver := true } })) ∧
    (ev.single = false → bit (s.dev.get 0xA10004 l) 1 = false →
      Gives (.singleEndedLocation l) s ((s.dev.at_ (arTime s.dev.now ev.first + s.dev.lineSpan l)).setLine l
        { s.dev.line l with ev := some { ev with single := true } })) ∧
    (ev.single = false → bit (s.dev.get 0xA10004 l) 1 = true →
      let t1 := arTime s.dev.now ev.first
      let d := (s.dev.at_ (t1 + s.dev.lineSpan l)).setLine l { s.dev.line l with ev := some { ev with single := true } }
      let ss := sectionsOf (s.dev.getB 0xA10002 l)
      let tau := travelTime ss
      let tol : Q := ⟨s.dev.get 0xA1000B l, 1⟩
      let endB := s.dev.get 0xA10005 l == 1
      let tb := s.dev.getB 0xA10003 l
      let taps := (List.range (tb.length / 16)).map fun i =>
        let t := timeTo ss (unpack64 (leAt tb (16 * i) 8)).q
        if endB then tau.sub t else t
      let later := ev.later.map fun a => qTime (arTime d.now a) t1
      let cand := later.map (fun a => a.mul ⟨1, 2⟩) ++ later.map (fun a => tau.sub (a.mul ⟨1, 2⟩))
      let score := scoreOf tau tol later taps
      let best := cand.foldl (fun (b : Option (Q × Nat)) th => match b with
        | none => some (th, score th)
        | some (x, n) => if score th > n ∨ (score th = n ∧ th.lt x = true) then some (th, score th) else b) none
      (best = none → Gives (.singleEndedLocation l) s d) ∧
      (∀ (th : Q) (n : Nat), best = some (th, n) →
        (n < 2 → Gives (.singleEndedLocation l) s d) ∧
        (2 ≤ n →
          let amb := cand.any fun x => score x == n && (tol.mul ⟨2, 1⟩).lt (x.sub th).abs
          let a := if endB then tau.sub th else th
          let w := walk ss (if a.lt ⟨0, 1⟩ then ⟨0, 1⟩ else if tau.lt a then tau else a)
          Gives (.singleEndedLocation l) s (d.logLocation l 2 (b2n amb + 4 * b2n (bit (arFlags ev.first) 0)) w.1.f64 t1 0 n
            ((w.2.mul ⟨40, 2⟩).add (unpack (s.dev.get 0xA10010 l)).q).f32 (arEvent ev.first))))))

/-- A line's unsent records leave in one message of up to 44, repeated 10 ms after it was last sent, five times; then it is given up, counted, with
source 292. ARRIVALS from an operator or above enters its records once and is answered with 0, or 0x0101 where a record names no line; ARRIVALS_ACK of the
peer ends the repeats; QUERY is answered with the newest local records of the line, or 0x0101; QUERY_REPLY enters its records. A record already in the log is
counted as a duplicate and changes nothing else.
(Model's choices: log 154, 155.) -/
def Obligations.WavefrontMessages : Prop := ∀ (s : State), s.por = false →
  (∀ (l : Fin 64) (ev : LineEv), (s.dev.line l).ev = some ev → ev.unsent ≠ [] → s.dev.peerIp l ≠ 0 →
    let t := s.dev.takeTxid
    let m : WMsg := ⟨l, t.1, arrivalsData (ev.unsent.take 44), 1, s.dev.now⟩
    let d := t.2.setLine l { s.dev.line l with ev := some { ev with unsent := ev.unsent.drop 44 } }
    Gives (.arrivalsSend l) s ((d.setWave { d.wave with msgs := d.wave.msgs ++ [m] }).sendArrivals m)) ∧
  (∀ (txid : Word) (m : WMsg), s.dev.wave.msgs.find? (fun m => m.txid == txid.toNat) = some m →
    let d := s.dev.at_ (m.last + ms 10)
    let m' := { m with sent := m.sent + 1, last := d.now }
    (m.sent < 6 → Gives (.arrivalsRepeat txid) s
      ((d.setWave { d.wave with msgs := s.dev.wave.msgs.erase m ++ [m'] }).sendArrivals m')) ∧
    (6 ≤ m.sent → Gives (.arrivalsRepeat txid) s
      (((d.setWave { d.wave with msgs := s.dev.wave.msgs.erase m }).inc 0xA00105 0).raise 292 m.line 0 0))) ∧
  (∀ (ip : Word) (udp : BitVec 16) (role : Role) (via : Fin 17) (txid : Word) (b : List Byte),
    let path : Path := .kmp ip.toNat udp.toNat role via
    s.dev.reach path = true →
    (1 ≤ role.num →
      (∀ l : List (List Byte), arrivalsRead b 1 = some l → txid.toNat ≠ 0 → s.dev.replayed path (reqOf 0x20 txid.toNat b) = .apply →
        let r := (s.dev.remember path (reqOf 0x20 txid.toNat b)).takeArrivals ip.toNat l
        Gives (.arrivals ip udp role via txid b) s ((r.2.kmpSend via ip.toNat udp.toNat (kmpOf 0x21 txid.toNat role.num r.1 [])).rememberSent path
          (reqOf 0x20 txid.toNat b) ⟨r.1, [], 0⟩)) ∧
      Gives (.arrivalsAck ip udp role via txid) s (s.dev.setWave { s.dev.wave with
        msgs := s.dev.wave.msgs.filter (fun m => !(m.txid == txid.toNat && s.dev.peerIp m.line == ip.toNat)) }) ∧
      (b.length = 20 → txid.toNat ≠ 0 → s.dev.replayed path (reqOf 0x22 txid.toNat b) = .apply → byteAt b 0 < 64 →
        s.dev.on 0xA10001 (byteAt b 0) = true →
        let d := s.dev.remember path (reqOf 0x22 txid.toNat b)
        let data := arrivalsData (d.queryRecords (byteAt b 0) (timeOfTs64 d.now (leAt b 4 8)) (timeOfTs64 d.now (leAt b 12 8)))
        Gives (.query ip udp role via txid b) s ((d.kmpSend via ip.toNat udp.toNat (kmpOf 0x23 txid.toNat role.num 0 data)).rememberSent path
          (reqOf 0x22 txid.toNat b) ⟨0, data, 0⟩)) ∧
      (∀ l : List (List Byte), arrivalsRead b 0 = some l → Gives (.queryReply ip udp role via b) s (s.dev.takeArrivals ip.toNat l).2)) ∧
    (role.num = 0 →
      Gives (.arrivals ip udp role via txid b) s (s.dev.inc 0x110007 0) ∧ Gives (.arrivalsAck ip udp role via txid) s (s.dev.inc 0x110007 0) ∧
      Gives (.query ip udp role via txid b) s (s.dev.inc 0x110007 0) ∧ Gives (.queryReply ip udp role via b) s (s.dev.inc 0x110007 0))) ∧
  (∀ (d : Dev) (ip : Nat) (b : List Byte),
    (d.lineOf ip (arLine b) = none → d.enterRemote ip b = d) ∧
    (∀ l : Nat, d.lineOf ip (arLine b) = some l → d.inLog ip (arId b) = true → d.enterRemote ip b = d.inc 0xA00104 0))

/-- With PERST_N high, training at a speed code 1 to 5 and x16, x8 or x4 brings the link up; below x16 or at 2.5 or 5.0 GT/s source 321 is
raised and persists. An idle transmitter enters L0s, an idle link L1, where Link Control enables them and nothing inhibits ASPM. DL_Down
freezes the port with cause 1 and takes the link down; a hot reset freezes it with cause 2 and resets nothing else. PERST_N low returns
every register of the endpoint to its reset value, clears BOOT_LEN and detaches the queues; high, training may start; the endpoint then becomes ready. A freeze latches
its cause and time once, counts it, drops the outstanding reads, quarantines their tags for the completion timeout and raises source 320.
(Model's choices: log 138, 139, 166.) -/
def Obligations.LinkStates : Prop := ∀ (s : State), s.por = false →
  let x := s.dev.host.pcie
  (∀ (speed : Fin 6) (width : Fin 17), x.perst = false → 1 ≤ speed.val → (width.val = 16 ∨ width.val = 8 ∨ width.val = 4) →
    let d := s.dev.setPcie { x with linkUp := true, speed := speed, width := width, l0s := false, l1 := false }
    (speed.val ≤ 2 ∨ width.val ≠ 16 → Gives (.linkTrained speed width) s ((d.raise 321 0 0 0).setLive 321 0 true).showEndpoint) ∧
    (2 < speed.val → width.val = 16 → Gives (.linkTrained speed width) s (d.setLive 321 0 false).showEndpoint)) ∧
  (x.linkUp = true → bit x.linkCtl 0 = true → s.dev.aspmInhibit = false → Gives .l0sEntry s (s.dev.setPcie { x with l0s := true })) ∧
  (x.linkUp = true → bit x.linkCtl 1 = true → s.dev.aspmInhibit = false → x.reads = [] → x.held = [] →
    Gives .l1Entry s (s.dev.setPcie { x with l1 := true })) ∧
  Gives .dlDown s ((s.dev.freeze 1).setPcie { (s.dev.freeze 1).host.pcie with linkUp := false, l0s := false, l1 := false }).showEndpoint ∧
  Gives .hotReset s (s.dev.freeze 2) ∧
  (∀ (d : Dev) (c : Nat), (d.host.pcie.frozen = true ∨ d.host.pcie.perst = true → d.freeze c = d) ∧
    (d.host.pcie.frozen = false → d.host.pcie.perst = false →
      let e := d.freeze c
      e.host.pcie.frozen = true ∧ e.host.pcie.cause = c ∧ e.host.pcie.freezes = (d.host.pcie.freezes + 1) % 2 ^ 32 ∧
      e.host.pcie.frSec * 2 ^ 32 + e.host.pcie.frNs = ts64Of d.now % 2 ^ 64 ∧ e.host.pcie.reads = [] ∧
      e.host.pcie.quarantine = d.host.pcie.quarantine ++ d.host.pcie.reads.map (fun r => (r.tag, d.now + d.host.pcie.cplTimeout)) ∧
      e.host.pcie.linkUp = d.host.pcie.linkUp ∧ e.host.pcie.command = d.host.pcie.command ∧ e.host.queues = d.host.queues ∧
      d.raises [⟨320, 0, c, 0, d.now, false⟩] e ∧ (320, 0) ∈ e.flt.live ∧ d.changesOnly [.dict, .flying, .live, .host] e)) ∧
  (s.dev.pow.phase ≠ 1 →
    Runs .perstNAssert s fun e => e.host.pcie = pcieReset (e.get 0x700001 0) (e.get 0x700002 0) true ∧
      (∀ q : Nat, (e.queue q).state = 0) ∧ e.pow = { s.dev.pow with len := 0 } ∧ (320, 0) ∉ e.flt.live) ∧
  (x.perst = true → Gives .perstNRelease s (s.dev.setPcie { x with perst := false }).showEndpoint) ∧
  (x.perst = false → s.dev.pow.mainPor = false → s.dev.pow.rst = none → s.dev.pow.phase ≠ 1 →
    Gives .endpointReady s (s.dev.setPcie { x with ready := true }))

/-- With the link up a configuration request completes with Retry Status until the endpoint is ready; then a read answers its dword
(reading the freeze time's low half latches the high half) and a write takes effect and completes. CONT_CTRL.FREEZE freezes the port with cause 5;
CONT_CTRL.RELEASE while release-ready ends the freeze, reissues the lost reads, sends held and pending messages and resumes the queues. An unsupported
request is counted and logged as AER bit 20. An error the endpoint finds in itself sets its AER bit and the device status, raises source
322 or 323, and freezes the port: with cause 4 for an uncorrectable internal error, with cause 3 for another one fatal and not masked.
(Model's choices: log 137, 166.) -/
def Obligations.ConfigurationAccess : Prop := ∀ (s : State), s.por = false →
  let x := s.dev.host.pcie
  (x.perst = false → x.linkUp = true → ∀ (write : Bool) (off : BitVec 12) (value : Word) (be : BitVec 4),
    let o := off.toNat / 4 * 4
    (x.ready = false → Gives (.configRequest write off value be) s (s.dev.emit (.completion 2 []))) ∧
    (x.ready = true → o ≠ 0x238 → Gives (.configRequest false off value be) s (s.dev.emit (.config (s.dev.cfgRead o)))) ∧
    (x.ready = true → o = 0x238 →
      Gives (.configRequest false off value be) s ((s.dev.setPcie { x with frLatch := x.frSec }).emit (.config x.frNs))) ∧
    (x.ready = true → Gives (.configRequest true off value be) s
      (s.dev.resumed ((s.dev.cfgWrite o value.toNat be.toNat).emit (.completion 0 []))))) ∧
  (x.perst = false → x.linkUp = true → x.ready = true →
    Gives .testFreeze s ((s.dev.freeze 5).emit (.completion 0 [])) ∧
    (s.dev.releaseReady = true →
      let d := ((s.dev.setPcie { x with frozen := false }).setLive 320 0 false).showEndpoint.reissue.releaseHeld.flushPending
      Gives .contRelease s (s.dev.resumed (d.emit (.completion 0 [])))) ∧
    (s.dev.releaseReady = false → Gives .contRelease s (s.dev.emit (.completion 0 [])))) ∧
  (∀ memory : Bool,
    let d := s.dev.setPcie { x with ur := (x.ur + 1) % 2 ^ 32, refused := if x.frozen = true ∧ memory = true then (x.refused + 1) % 2 ^ 32 else x.refused }
    Gives (.unsupportedRequest memory) s ((d.inc 0x700008 0).logUnc 20)) ∧
  (x.perst = false →
    (∀ b : Fin 32, b.val ∈ [4, 12, 13, 17, 18, 19] → Gives (.endpointInternalError (.uncorrectable b)) s (s.dev.logUnc b)) ∧
    (s.dev.armedSlot 0x12 0 0 = none → Gives (.endpointInternalError (.uncorrectable 22)) s (s.dev.logUnc 22)) ∧
    (∀ b : Fin 32, b.val ∈ [0, 6, 7, 8, 12, 13, 14, 15] → Gives (.endpointInternalError (.correctable b)) s
      ((s.dev.setPcie { x with corSta := x.corSta ||| 2 ^ b.val, devSta := x.devSta ||| 1 }).raise 323 0 b 0))) ∧
  (∀ (d : Dev) (b : Nat), let y := d.host.pcie
    let e := (d.setPcie { y with uncSta := y.uncSta ||| 2 ^ b, devSta := y.devSta ||| (if bit y.uncSev b then 4 else 2) }).raise 322 0 b 0
    (b = 22 → d.logUnc b = e.freeze 4) ∧
    (b ≠ 22 → bit y.uncSev b = true → bit y.uncMask b = false → d.logUnc b = e.freeze 3) ∧
    (b ≠ 22 → (bit y.uncSev b = false ∨ bit y.uncMask b = true) → d.logUnc b = e))

/-- A completion for the tag of an outstanding read gives its bytes: with the last part the read is done, its queue served; one that no
read expects is logged as AER bit 16; a refused or poisoned one, or a completion timeout (bit 14), fails the whole read. Parts that wait are then
issued as tags are free. The end of a moderation interval sends the message that merged, and begins the next interval; with none merged the vector is
free. Unmasking a vector sends its pending message. A quarantined tag is usable again once its completion timeout has passed.
(Model's choices: log 136, 157.) -/
def Obligations.HostReadsAndInterrupts : Prop := ∀ (s : State), s.por = false →
  let x := s.dev.host.pcie
  (∀ (tag : BitVec 10), x.perst = false → x.linkUp = true →
    (∀ c : CplStatus, s.dev.takePart tag.toNat = none → Gives (.readCompletion tag c) s (s.dev.logUnc 16)) ∧
    (∀ (p : HostRead) (r : ReadReq) (bs : List Byte), s.dev.takePart tag.toNat = some p → bs.length = p.len →
      x.reqs.find? (fun r => r.id == p.req) = some r →
      let r' : ReadReq := { r with got := r.got ++ [(p.off, bs)] }
      (∀ w : List Byte, r'.whole = some w →
        Gives (.readCompletion tag (.success bs)) s
          ((s.dev.setPcie { x with reads := x.reads.erase p, reqs := x.reqs.erase r }).readDone r.what w).issueReads) ∧
      (r'.whole = none →
        Gives (.readCompletion tag (.success bs)) s
          (s.dev.setPcie { x with reads := x.reads.erase p, reqs := x.reqs.map (fun y => if y = r then r' else y) }).issueReads)) ∧
    (∀ p : HostRead, s.dev.takePart tag.toNat = some p →
      let gone := { x with reads := x.reads.erase p }
      Gives (.readCompletion tag .unsupported) s
        ((s.dev.setPcie { gone with statusErr := x.statusErr ||| 0x2000 }).readFails p.req).issueReads ∧
      Gives (.readCompletion tag .abort_) s
        ((s.dev.setPcie { gone with statusErr := x.statusErr ||| 0x1000 }).readFails p.req).issueReads ∧
      Gives (.readCompletion tag .poisoned) s (((s.dev.setPcie gone).readFails p.req).logUnc 12).issueReads)) ∧
  (∀ (tag : BitVec 10) (p : HostRead), s.dev.takePart tag.toNat = some p →
    Gives (.completionTimeout tag) s
      (((s.dev.setPcie { x with reads := x.reads.erase p }).readFails p.req).logUnc 14).issueReads) ∧
  (∀ (v : BitVec 11) (m : Moderation), tget moderation0 x.mods v.toNat = m → 0 < m.until_ →
    let d := s.dev.at_ m.until_
    (m.merged = true → Gives (.moderationIntervalEnd v) s ((d.setPcie { x with
      mods := tput moderation0 x.mods v.toNat ⟨d.now + ns (s.dev.get 0x700101 v.toNat), false⟩ }).sendMessage v.toNat)) ∧
    (m.merged = false → Gives (.moderationIntervalEnd v) s (d.setPcie { x with mods := tput moderation0 x.mods v.toNat moderation0 }))) ∧
  (∀ v : BitVec 11,
    (x.intMode = 3 → Gives (.vectorUnmask v) s (s.dev.setPcie { x with
      msixTab := tput (msixDflt (4 * v.toNat + 3)) x.msixTab (4 * v.toNat + 3) (setBit (x.msix (4 * v.toNat + 3)) 0 false) }).flushPending) ∧
    (x.intMode = 2 → Gives (.vectorUnmask v) s
      (s.dev.setPcie { x with msiMask := setBit x.msiMask (v.toNat % 32) false }).flushPending)) ∧
  (∀ (tag t : Nat) (l : List (Nat × Nat)), x.quarantine = (tag, t) :: l →
    let d := s.dev.at_ t
    Gives .tagQuarantineEnd s
      (d.setPcie { x with quarantine := ((tag, t) :: l).filter (fun y => decide (d.now < y.2)) }).issueReads)

/-- A STOPPING queue with no entry left writes its final head index and is DETACHED. A poll that may fall due does so at the first instant k
times I plus phi after its last service. The due poll with the earliest deadline is served when requests may be issued, the budget of 96 polls
in 1 us allows and a tag is free: it is counted, late ones too, and one descriptor read of the entries it may take, at most to the ring's end,
begins. Past the coalescing time the head mirror is written. A frame that waits past its hold time is dropped whole, its cells freed and counted.
(Model's choices: log 142, 143.) -/
def Obligations.QueueEvents : Prop := ∀ (s : State), s.por = false →
  (∀ q : BitVec 18, (s.dev.queue q.toNat).state = 2 → (s.dev.queue q.toNat).entries = [] →
    let d := s.dev.announce q.toNat
    Gives (.queueDetachComplete q) s
      (d.setQueue q.toNat { d.queue q.toNat with state := 0, due := none, orrery := none }).showDemand) ∧
  (∀ q : BitVec 18, s.dev.pollWanted q.toNat = true → s.dev.now ≠ (s.dev.queue q.toNat).served →
    let t := pollInstant (s.dev.get 0x710002 q.toNat) (s.dev.get 0x710003 q.toNat) s.dev.now
    Gives (.pollDue q) s ((s.dev.at_ t).setQueue q.toNat
      { s.dev.queue q.toNat with due := some t, deadline := t + us (s.dev.get 0x710002 q.toNat) })) ∧
  (∀ q : Nat, s.dev.hostUp = true → s.dev.nextPoll = some q → s.dev.host.pcie.polls.length < 96 →
    (s.dev.queue q).orrery = none → 0 < s.dev.tagRoom false → s.dev.qClass q = 1 → s.dev.now ≤ (s.dev.queue q).deadline →
    let x := s.dev.queue q
    let room := 2 ^ x.log2 - x.next % 2 ^ x.log2
    let free := 2 ^ x.log2 - x.entries.length
    let n := min (min (s.dev.get 0x710004 q) room) free
    let d := (s.dev.setQueue q { x with due := none, orrery := none, served := s.dev.now, lateIdx := [] }).inc 0x700204 0
    let e := d.setPcie { d.host.pcie with polls := (d.now :: d.host.pcie.polls).take 96 }
    0 < n → Gives .pollServe s (e.hostRead (.desc q x.next n) (x.entryAddr x.next) (32 * n) false)) ∧
  (∀ (q : BitVec 18) (t : Nat), (s.dev.queue q.toNat).oldest = some t →
    Gives (.coalescingTimeout q) s ((s.dev.at_ (t + ns (s.dev.get 0x710006 q.toNat))).announce q.toNat)) ∧
  (∀ (q : BitVec 18) (w : RxWait) (l : List RxWait), (s.dev.queue q.toNat).rx = w :: l → s.dev.host.pcie.frozen = false →
    Gives (.receiveHoldTimeout q) s
      ((((s.dev.at_ (w.since + us (s.dev.get 0x71000B q.toNat))).setQueue q.toNat { s.dev.queue q.toNat with rx := l }).freeCells
        (ownerQueue q.toNat) w.cells).countDrop q.toNat))

/-- Detections of one cycle, with those under way, are handled one by one: class F first, then class E, then the rest, the lower
source and unit first. A detection of a named source sets its sticky bit, is counted, counted again if it is consequential, meets the first-error
record, and goes to its event queue; a consequential one has no reaction, another one that of object 0x8010:03: none, containment, an
escalation, or the safe state of its scope. A primary detection of class E or F latches an invalid first-error record; another one sets OVERFLOW.
(Model's choices: log 18, 95, 99.) -/
def Obligations.FaultCollection : Prop :=
  (∀ (s : State) (began ended : List SourceUnit), s.por = false →
    let d := (began.map SourceUnit.pair).foldl (fun d x => d.setLive x.1 x.2 true)
      ((ended.map SourceUnit.pair).foldl (fun d x => d.setLive x.1 x.2 false) s.dev)
    Gives (.faultDetection [] began ended) s ((sortDets d.flt.flying).foldl Dev.handle (d.setFlt { d.flt with flying := [] })) ∧
    ∀ x : Detection, checkerOf x.src x.unit = none →
      Gives (.faultDetection [x] began ended) s
        ((sortDets (d.flt.flying ++ [x])).foldl Dev.handle (d.setFlt { d.flt with flying := [] }))) ∧
  (∀ l : List Detection, (sortDets l).Perm l ∧ (sortDets l).Pairwise (fun a b => b.before a = false)) ∧
  (∀ (d : Dev) (x : Detection), srcNamed x.src = true →
    let c := d.consequential x
    let a := ((d.setFlt { d.flt with sticky := setBit d.flt.sticky x.src true }).inc 0x801004 x.src)
    let b := if c then a.inc 0x801005 x.src else a
    let e := (b.noteFirst x c).eventDeliver
      ⟨x.src, x.unit % 2 ^ 32, x.code % 2 ^ 16, x.det, x.time, d.detUnsync x.src x.unit, c⟩
    (c = true → d.handle x = e) ∧
    (c = false → ∀ r : Reaction, e.watching x = some r → d.handle x = e.ladderStep r) ∧
    (c = false → e.watching x = none →
      (e.get 0x801003 x.src = 0 → d.handle x = e) ∧
      (e.get 0x801003 x.src = 1 → d.handle x = e.containBlock x.src x.unit) ∧
      (e.get 0x801003 x.src = 2 → d.handle x = (e.escalate x.src x.unit).containBlock x.src x.unit) ∧
      (e.get 0x801003 x.src = 3 → d.handle x = (e.containBlock x.src x.unit).enterSafe (safeScope x.src x.unit) x.src x.unit))) ∧
  (∀ (d : Dev) (x : Detection) (c : Bool), srcClass x.src = clsE ∨ srcClass x.src = clsF →
    let e := d.noteFirst x c
    (c = false → d.flt.feValid = false →
      e.flt.feValid = true ∧ e.flt.feSource = x.src ∧ e.flt.feUnit = x.unit % 2 ^ 32 ∧ e.flt.feClass = srcClass x.src ∧
      e.flt.feOverflow = d.flt.feOverflow) ∧
    (c = true ∨ d.flt.feValid = true → e.flt.feOverflow = true ∧ e.flt.feValid = d.flt.feValid ∧ e.flt.feSource = d.flt.feSource) ∧
    d.changesOnly [.dict, .faults] e)

/-- A new escalation opens its software window, or with 256 reactions in progress takes its first step at once. The window's end takes the
next step of the ladder: it begins the reset of its scope, and past the last one it puts the device in the safe state and ends the reaction. The completion of a
reaction's reset begins the watch windows of the reactions in it; a watch window's end ends the reaction. The scrubber reads a word
at its paced instant: a corrected error raises 387, an uncorrectable one 388, both with the address and counted in object 0x8300, the latter handled by
what the word holds; at the end of a stack its pass ends. A demand access that finds an uncorrectable error is handled likewise.
(Model's choices: log 97, 98.) -/
def Obligations.EscalationAndScrub : Prop := ∀ (s : State), s.por = false →
  (∀ (d : Dev) (src unit : Nat), (∀ r ∈ d.flt.reactions, r.src ≠ src ∨ r.unit ≠ unit) →
    let x : Reaction := ⟨src, unit, 0, .window (d.now + us (d.get 0x800001 0)), none⟩
    let e := d.setReactions (d.flt.reactions ++ [x])
    (d.flt.reactions.length < 256 → d.escalate src unit = e) ∧
    (256 ≤ d.flt.reactions.length → d.escalate src unit = (e.inc 0x800005 0).ladderStep x)) ∧
  (∀ (src : Fin 512) (unit : Word) (x : Reaction),
    s.dev.flt.reactions.find? (fun r => r.src == src.val && r.unit == unit.toNat) = some x →
    (∀ t : Nat, x.phase = .window t → Gives (.softwareWindowEnd src unit) s ((s.dev.at_ t).ladderStep x)) ∧
    (∀ sc : Scope, x.phase = .resetting → x.scope = some sc →
      let d := s.dev.endReset sc
      Gives (.resetComplete src unit) s (d.setReactions (d.flt.reactions.map (fun r =>
        if r.phase == .resetting && r.scope == some sc then
          { r with phase := .watch d.now (d.now + us (d.get 0x800001 0)) } else r)))) ∧
    (∀ a t : Nat, x.phase = .watch a t → Gives (.watchWindowEnd src unit) s ((s.dev.at_ t).endReaction src unit.toNat))) ∧
  (∀ (d : Dev) (x : Reaction) (sc : Scope), (ladder x.src x.unit)[x.step]? = some sc →
    let r := (d.putReaction { x with step := x.step + 1, phase := .resetting, scope := some sc }).beginReset sc
    d.ladderStep x = r.2.putReaction { x with step := x.step + 1, phase := .resetting, scope := some r.1 }) ∧
  (∀ (d : Dev) (x : Reaction), (ladder x.src x.unit)[x.step]? = none →
    d.ladderStep x = (d.endReaction x.src x.unit).enterSafe 19 x.src x.unit) ∧
  (s.dev.power = 2 → ∀ (stack : Fin 2) (addr : BitVec 34) (v : EccCheck) (w : HbmWord),
    s.dev.armedSlot 1 stack addr.toNat = none → s.dev.on 0x830002 0 = true → w.sig = none →
    let d := s.dev.at_ (s.dev.flt.passStart + addr.toNat * sec (s.dev.get 0x830001 0) / 17179869184)
    (addr.toNat + 32 < 17179869184 →
      Gives (.scrubRead stack addr .good w) s d ∧
      Gives (.scrubRead stack addr .corrected w) s ((d.inc 0x830003 0).raise 387 stack 0 addr.toNat) ∧
      Gives (.scrubRead stack addr .uncorrectable w) s (((d.inc 0x830004 0).raise 388 stack 0 addr.toNat).hbmBad w)) ∧
    (17179869184 ≤ addr.toNat + 32 → addr.toNat < 17179869184 → Gives (.scrubRead stack addr .good w) s (d.passEnd stack)) ∧
    Gives (.hbmUncorrectable stack addr w) s (((s.dev.inc 0x830004 0).raise 388 stack 0 addr.toNat).hbmBad w))

/-- A watched main rail outside its range but above 80 % of nominal is recorded, counted and raises source 449 persistently; below 80 %
it asserts main power-on reset, in DOZE with cause 4. All nine rails in range for 10 ms release it: at the first power-up state 1, an
attempt due unless RST_N is asserted. A loss of SYSCLK raises source 449, unit 9. VBAL_A below 2.90 V switches the domain to VBAL_B with source
448, unit 0, 1 us later; above 3.00 V it switches back; VBAL_B lost while VBAL_A is in use raises source 448, unit 1. A junction reading is kept
and raises 450 above 100 C and 451 above 105 C when it crosses the limit.
(Model's choices: log 87, 88.) -/
def Obligations.SupplyCommands : Prop := ∀ (s : State), s.por = false →
  (∀ (r : Fin 9) (mv : Nat), s.dev.pow.mainPor = false → s.dev.pow.enLow = false →
    (railOk r mv = false → (railRange r).2.2 * 8 ≤ 100 * mv →
      Gives (.railOutOfRange r mv) s ((((s.dev.put 0x900201 r mv).inc 0x900202 r).raise 449 r 0 mv).setLive 449 r true)) ∧
    (100 * mv < 8 * (railRange r).2.2 →
      Runs (.railUndervoltage r mv) s fun e =>
        e.pow.mainPor = true ∧ e.pow.railLoss = true ∧ e.power = 3 ∧ e.get 0x900003 0 = 4 ∧ e.now = s.dev.now ∧
        e.get 0x900004 0 = (s.dev.get 0x900004 0 + 1) % 2 ^ 32) ∧
    Gives .sysclkLoss s ((s.dev.raise 449 9 0 0).setLive 449 9 true)) ∧
  (∀ mv : List Nat, mv.length = 9 → (∀ r, r < 9 → railOk r (mv.getD r 0) = true) → s.dev.pow.mainPor = true →
    s.dev.pow.enLow = false → s.dev.pow.testEn = false → s.dev.power ≠ 3 →
    let d := (List.range 9).foldl (fun d r => d.put 0x900201 r (mv.getD r 0)) s.dev
    let e := d.setPower 1
    Gives (.mainPorRelease mv) s (e.setPow { e.pow with
      mainPor := false, offSince := none, railLoss := false, waking := none, wakeCause := none,
      cause := if s.dev.pow.offSince.isSome then 1 else 2,
      due := if s.dev.pow.rst.isSome then none else some s.dev.now })) ∧
  (∀ mv : Nat, mv < 2900 → s.dev.get 0x900101 0 ≠ 1 →
    let d := ((s.dev.put 0x900101 0 1).showFeed 0x900104 mv 0).at_ (s.dev.now + us 1)
    Gives (.vbalALoss mv) s (((d.inc 0x900103 0).raise 448 0 0 mv).setLive 448 0 true) ∧
    Gives (.vbalBLoss mv) s (((s.dev.showFeed 0x900105 mv 1).raise 448 1 0 mv).setLive 448 1 true)) ∧
  (∀ mv : Nat, 3000 < mv → s.dev.get 0x900101 0 ≠ 0 →
    Gives (.vbalSwitchBack mv) s (((s.dev.put 0x900101 0 0).showFeed 0x900104 mv 0).setLive 448 0 false)) ∧
  (∀ (die : Fin 3) (t : Int), s.dev.pow.mainPor = false →
    let old := s.dev.geti 0x902001 die
    let d := s.dev.puti 0x902001 die t
    let e := if 1000 < t ∧ old ≤ 1000 then d.raise 450 die 0 (ofInt 16 t) else d
    let f := if 1050 < t ∧ old ≤ 1050 then e.raise 451 die 0 (ofInt 16 t) else e
    Gives (.junctionSensorRead die t) s ((f.setLive 450 die (decide (1000 < t))).setLive 451 die (decide (1050 < t))))

/-- Asserting Ballast power-on reset takes the device to OFF, which keeps the flash and no object's value. Its release, both feeds at 2.90 V or
more, samples the straps TKF_SEL, loads the newest mirror record, shows the feeds, and TK-A acquires the lease; a second release does nothing. While it is
asserted no other command has an effect but the levels of PERST_N, WAKE_N and TEST_EN (the model's choice: no clock runs, log entry 78). Rails not in range
100 ms after the release: DOZE with cause 8 (log entry 79). -/
def Obligations.BallastDomain : Prop := ∀ (s : State),
  (exec .ballastPorAssert s = .next { s with por := true, dev := s.dev.off } ∧
    s.dev.off.pow.flash = s.dev.pow.flash ∧ s.dev.off.obj.dict = ⟨[], [], [], []⟩) ∧
  (∀ (sel : Fin 4) (a b : Nat),
    (s.por = false → exec (.ballastPorRelease sel a b) s = .next s) ∧
    (s.por = true → 2900 ≤ a → 2900 ≤ b →
      let d := (s.dev.setPow { s.dev.pow with tkfSel := sel, offSince := some s.dev.now }).loadMirror
      exec (.ballastPorRelease sel a b) s = .next { s with
        por := false
        dev := (((d.put 0x900101 0 0).showFeed 0x900104 a 0).showFeed 0x900105 b 1).acquire .a 0 })) ∧
  (∀ d : Dev, d.pow.flash.newest = none → d.loadMirror = d.setPow { d.pow with lost := true }) ∧
  (∀ (d : Dev) (r : MirrorRec), d.pow.flash.newest = some r → r.isOpen = false →
    let e := d.loadMirror
    e.get 0x130201 0 = r.fails ∧ e.get 0x130202 0 = r.next ∧ e.get 0x130203 0 = r.n ∧ e.get 0x130204 0 = r.attempt ∧
    d.changesOnly [.dict] e) ∧
  (s.por = true → ∀ c : Instr, (∀ sel a b, c ≠ .ballastPorRelease sel a b) →
    Runs c s fun e => ∃ perst test wake : Bool,
      e = { s.dev with host := { s.dev.host with pcie := { s.dev.host.pcie with perst := perst } },
                       pow := { s.dev.pow with testEn := test, wakeN := wake } } ∨ e = s.dev.off) ∧
  (s.por = false → ∀ t : Nat, s.dev.pow.offSince = some t → s.dev.pow.mainPor = true → s.dev.power ≠ 3 →
    let d := s.dev.at_ (t + ms 100)
    Gives .railsAbsentTimeout s ((((d.mgtSpeed true).setPow { d.pow with railLoss := true }).powerTo 3 8).inc 0x900004 0))

/-- The stages of an entry to DOZE take effect 10 us after its begin (ports off, rings removed), at the relays' settle time, 100 us and
200 us later: the endpoint's link down and PWR_MAIN_EN low, then main power-on reset and state 3. Main power-on reset leaves
the ports, Eclipse, the rings, the table and the engines as they are before a start. A thermal shutdown begins the entry in states 1 and 2 with cause 5. WAKE_N low wakes a device in DOZE at once, waits during the entry and
while RST_N is asserted, and adds nothing to a wake under way. Main rails not in range 1 s after a wake: PWR_MAIN_EN is driven low again, with cause 9.
(Model's choices: log 79, 83.) -/
def Obligations.DozeEntryAndWake : Prop := ∀ (s : State), s.por = false →
  (s.dev.power = 6 → s.dev.pow.dozeStage = 1 →
    let d := [0, 1].foldl (fun d r => ringRemove r d) (s.dev.at_ (s.dev.pow.dozeAt + us 10)).portsOff
    Gives .dozeEntryStage s (d.setPow { d.pow with dozeStage := 2 })) ∧
  (s.dev.power = 6 → s.dev.pow.dozeStage = 2 →
    Runs .dozeEntryStage s fun x =>
      x.pow.dozeStage = 3 ∧ x.now = (s.dev.at_ (s.dev.pow.dozeAt + s.dev.settleTime)).now ∧
      ∀ r : Nat, ∀ t : Nat, r < 2 → (s.dev.ring r).relay = .removing t → x.get 0x400101 r = 0) ∧
  (s.dev.power = 6 → s.dev.pow.dozeStage = 3 →
    let d := s.dev.at_ (s.dev.pow.dozeAt + s.dev.settleTime + us 100)
    let e := (((d.setPcie { d.host.pcie with linkUp := false }).showEndpoint).mgtSpeed true).emit (.pin "PWR_MAIN_EN" 0 false d.now)
    Runs .dozeEntryStage s fun x => x.pow.dozeStage = 4 ∧ x.pow.enLow = true ∧ x.out = e.out ∧ x.now = d.now) ∧
  (s.dev.power = 6 → s.dev.pow.dozeStage = 4 → s.dev.pow.wakeCause = none →
    let d := ((s.dev.at_ (s.dev.pow.dozeAt + s.dev.settleTime + us 200)).assertMainPor.setPower 3).inc 0x900004 0
    Gives .dozeEntryStage s (d.setPow { d.pow with dozeStage := 0, railLoss := false, wakeCause := none })) ∧
  (∀ d : Dev, d.assertMainPor.pow.mainPor = true ∧ d.assertMainPor.now = d.now ∧ d.assertMainPor.lan = dev0.lan ∧
    d.assertMainPor.ecl = dev0.ecl ∧ d.assertMainPor.rings = [] ∧ d.assertMainPor.tab = dev0.tab ∧ d.assertMainPor.eng = dev0.eng ∧
    d.assertMainPor.wave = dev0.wave ∧ d.assertMainPor.spi = d.spi ∧ d.assertMainPor.out = d.out) ∧
  ((s.dev.power = 1 ∨ s.dev.power = 2) → s.dev.pow.mainPor = false →
    Gives .thermalShutdown s (s.dev.dozeBegin 5) ∧ (s.dev.dozeBegin 5).power = 6 ∧ (s.dev.dozeBegin 5).tab.running = false ∧
    (s.dev.dozeBegin 5).pow.dozeAt = s.dev.now ∧ (s.dev.dozeBegin 5).pow.dozeStage = 1 ∧
    s.dev.changesOnly [.dict, .tab, .pow] (s.dev.dozeBegin 5) ∧ s.dev.objectsBut [(0x900001, 0), (0x900003, 0)] (s.dev.dozeBegin 5)) ∧
  (s.dev.power = 3 → s.dev.pow.rst = none → s.dev.pow.waking = none →
    Gives (.wakeN true) s ((s.dev.setPow
      { s.dev.pow with wakeN := true, enLow := false, waking := some s.dev.now, wakeCause := some 2 }).emit
        (.pin "PWR_MAIN_EN" 0 true s.dev.now))) ∧
  (s.dev.power = 6 ∨ s.dev.power = 3 ∧ s.dev.pow.rst ≠ none ∧ s.dev.pow.waking = none →
    Gives (.wakeN true) s (s.dev.setPow { s.dev.pow with wakeN := true, wakeCause := some 2 })) ∧
  (∀ t : Nat, s.dev.power = 3 → s.dev.pow.waking = some t →
    Gives (.wakeN true) s (s.dev.setPow { s.dev.pow with wakeN := true })) ∧
  Gives (.wakeN false) s (s.dev.setPow { s.dev.pow with wakeN := false }) ∧
  (∀ t : Nat, s.dev.pow.waking = some t → s.dev.power = 3 →
    let d := s.dev.at_ (t + sec 1)
    Gives .wakeTimeout s (((d.setPow
      { d.pow with enLow := true, waking := none, wakeCause := none, railLoss := false }).put 0x900003 0 9).emit
        (.pin "PWR_MAIN_EN" 0 false d.now)))

/-- RST_N recognised is counted; outside DOZE, no attempt open and PWR_MAIN_EN not driven, it resets the main domain and leaves state 1; in DOZE it is only noted. A shorter pulse is counted. Its release, at least 10 us after the recognition, makes an attempt due unless main
power-on reset is asserted. RST_N low for 5 s after its recognition is state 5 outside DOZE. TEST_EN high asserts main power-on reset.
A reset of the main domain keeps the first error and the sticky bits, the timekeepers' time and the lease's holder, the flash and the sideband SPI, and clears
the ports, Eclipse, the rings, ingest, the table, the engines, the wave engines, the resets and the reactions in progress.
(Model's choices: log 80, 85.) -/
def Obligations.ResetPins : Prop := ∀ (s : State), s.por = false →
  (s.dev.pow.rst = none →
    (s.dev.power = 3 →
      let d := s.dev.inc 0x901002 0
      Gives .rstNRecognised s (d.setPow { d.pow with rst := some d.now, dozeStage := 0 })) ∧
    (s.dev.power ≠ 3 → s.dev.pow.isOpen = false → s.dev.pow.enLow = false →
      let d := ((s.dev.inc 0x901002 0).mainReset).setPower 1
      Gives .rstNRecognised s (d.setPow { d.pow with rst := some d.now, dozeStage := 0 }))) ∧
  Gives .rstNPulseIgnored s (s.dev.inc 0x901006 0) ∧
  (∀ t : Nat, s.dev.pow.rst = some t → s.dev.power = 1 → s.dev.pow.mainPor = false →
    let d := s.dev.at_ (t + us 10)
    Gives .rstNRelease s (d.setPow { d.pow with rst := none, due := some d.now, cause := 3 })) ∧
  (∀ t : Nat, s.dev.pow.rst = some t → s.dev.power ≠ 3 →
    Gives .resetHeld s (((s.dev.at_ (t + sec 5)).setPower 5).put 0x901003 0 1)) ∧
  (s.dev.pow.mainPor = false → s.dev.pow.enLow = false →
    Gives (.testEnChange true) s (((s.dev.setPow { s.dev.pow with testEn := true }).assertMainPor).setPower 1)) ∧
  Gives (.testEnChange false) s (s.dev.setPow { s.dev.pow with testEn := false }) ∧
  (∀ d : Dev, let e := d.mainReset
    e.flt.feValid = d.flt.feValid ∧ e.flt.sticky = d.flt.sticky ∧ e.flt.feSource = d.flt.feSource ∧ e.flt.feUnit = d.flt.feUnit ∧
    e.pow.flash = d.pow.flash ∧ e.pow.mainPor = d.pow.mainPor ∧ e.spi = d.spi ∧ e.out = d.out ∧ e.now = d.now ∧
    e.tim.a.time = d.tim.a.time ∧ e.tim.b.time = d.tim.b.time ∧ e.tim.holder = d.tim.holder ∧ e.lan = dev0.lan ∧ e.ecl = dev0.ecl ∧ e.rings = [] ∧ e.ing = dev0.ing ∧
    e.tab = dev0.tab ∧ e.eng = dev0.eng ∧ e.wave = dev0.wave ∧ e.flt.resets = [] ∧ e.flt.reactions = [])

/-- A due attempt begins with the straps as sampled: BOOTSEL 11, or FAILS at N or more, enters LANTERN with cause 7 or 6; otherwise it is
numbered and recorded with its source, and PHASE is 1 for the host's image, 2 for flash. Verification gives PHASE 3 or fails the attempt with
its reason; a host image not delivered in time fails with 0x13; the self-test gives RUN (power state 2, PHASE 4, 30 s to confirm) or fails
with 0x20 and its detail; no confirmation in time fails with 0x30. A counted failure adds 1 to FAILS, changes next_slot, closes the attempt and begins
to program a mirror record; once that is programmed the start reset follows.
(Model's choices: log 81, 82, 89, 90.) -/
def Obligations.StartAttempts : Prop := ∀ (s : State), s.por = false →
  (∀ (sel : Fin 4) (t : Nat), s.dev.pow.due = some t → s.dev.pow.mainPor = false → s.dev.pow.rst = none →
    let d0 := s.dev.at_ t
    let d1 := (d0.put 0x901001 0 d0.pow.cause).put 0x130205 0 sel
    let d := d1.setPow { d1.pow with due := none, reason := d1.lastReason }
    (sel = 3 → Gives (.startAttempt sel) s (d.lantern 7)) ∧
    (sel ≠ 3 → d.get 0x130203 0 ≤ d.get 0x130201 0 → Gives (.startAttempt sel) s (d.lantern 6)) ∧
    (sel ≠ 3 → d.get 0x130201 0 < d.get 0x130203 0 →
      Runs (.startAttempt sel) s fun e =>
        e.get 0x130204 0 = (s.dev.get 0x130204 0 + 1) % 2 ^ 32 ∧ e.pow.isOpen = true ∧ e.pow.lost = false ∧ e.now = d.now ∧
        (sel = 1 → e.pow.source = 2) ∧ (sel = 0 → e.pow.source = s.dev.get 0x130202 0) ∧
        (e.pow.source = 2 → e.pow.phase = 1) ∧ (e.pow.source ≠ 2 → e.pow.phase = 2))) ∧
  (∀ readOk : Bool, s.dev.pow.phase = 2 → s.dev.pow.programming = false →
    let c := s.dev.sourceCode s.dev.pow.source readOk
    (c = 0 → Gives (.firmwareVerifyComplete readOk) s (s.dev.setPow { s.dev.pow with phase := 3, failedSlots := [] })) ∧
    (c ≠ 0 → Gives (.firmwareVerifyComplete readOk) s (s.dev.failAttempt c 0))) ∧
  (∀ t : Nat, s.dev.pow.waitFrom = some t → s.dev.pow.phase = 1 →
    Gives .hostImageTimeout s ((s.dev.at_ (t + sec (s.dev.get 0x130206 0))).failAttempt 0x13 0)) ∧
  (s.dev.pow.phase = 3 →
    (∀ (detail : Fin 9) (failed : List SourceUnit), detail ≠ 0 →
      Gives (.startSelfTestComplete detail failed) s (s.dev.failAttempt 0x20 detail)) ∧
    Runs (.startSelfTestComplete 0 []) s fun e =>
      e.power = 2 ∧ e.pow.phase = 4 ∧ e.pow.deadline = some (s.dev.now + sec 30) ∧ e.tab.upSince = some s.dev.now ∧
      e.get 0x130208 0 = s.dev.pow.source + 1 ∧ s.dev.changesOnly [.dict, .faults, .tab, .pow] e) ∧
  (∀ t : Nat, s.dev.pow.deadline = some t → s.dev.pow.phase = 4 →
    Gives .confirmationDeadline s ((s.dev.at_ t).failAttempt 0x30 0)) ∧
  (∀ (d : Dev) (code detail : Nat), let e := d.failAttempt code detail
    e.get 0x130201 0 = (d.get 0x130201 0 + 1) % 2 ^ 8 ∧ e.get 0x130202 0 = 1 - d.get 0x130202 0 ∧ e.pow.isOpen = false ∧
    e.pow.reason = code ∧ e.pow.phase = 0 ∧ e.pow.programming = true ∧ e.pow.restart = true ∧ e.pow.deadline = none ∧
    d.changesOnly [.dict, .pow] e) ∧
  (s.dev.pow.programming = true →
    (s.dev.pow.restart = false →
      Gives .mirrorProgramComplete s (s.dev.setPow { s.dev.pow with programming := false, restart := false })) ∧
    (s.dev.pow.restart = true →
      Runs .mirrorProgramComplete s fun e => e.power = 1 ∧ e.pow.due = some (s.dev.now + us 10) ∧ e.pow.cause = 4 ∧
        e.pow.programming = false ∧ e.pow.phase = 0)) ∧
  (∀ (slot : Fin 2) (readOk : Bool), s.dev.pow.verifying.contains slot.val = true →
    let c := s.dev.sourceCode slot readOk
    let d := s.dev.setPow { s.dev.pow with verifying := s.dev.pow.verifying.filter (· != slot.val) }
    Gives (.slotVerifyComplete slot readOk) s ((d.put 0x131102 slot (if c = 0 then 3 else 4)).put 0x131103 slot c))

/-- A frame of exactly the edges of its length with the right CRC word is committed: a REQUEST that finds the target not busy is handed over
as a mailbox command is; a FETCH clocks out the held response and changes nothing; a CLEAR clears the flags it names. On MISO each frame answers
SB_STATUS, the response or zeros, and the CRC. A frame of a broken number of edges, too short or
with a wrong CRC is discarded with its own flag and counted modulo 256; a REQUEST while BUSY is refused.
(Model's choices: log 114.) -/
def Obligations.SpiFrames : Prop := ∀ (s : State) (words : List Word) (n : Nat), s.por = false →
  let ws := words.map BitVec.toNat
  let d := s.dev.emit (.miso (s.dev.miso ws (32 * n)))
  spiLen (ws.getD 0 0) = some n → words.length = n → 2 ≤ n →
  (ws.getLast? = some (spiCrc (ws.take (n - 1))) →
    (bits (ws.getD 0 0) 28 4 = 1 → s.dev.spi.busy = false →
      Gives (.spiRequest words (32 * n)) s (d.submit .spi (spiReq ws))) ∧
    (bits (ws.getD 0 0) 28 4 = 1 → s.dev.spi.busy = true → Gives (.spiRequest words (32 * n)) s (d.sbDiscard 0)) ∧
    (bits (ws.getD 0 0) 28 4 = 2 → Gives (.spiFetch words (32 * n)) s d) ∧
    (bits (ws.getD 0 0) 28 4 = 3 →
      Gives (.spiClear words (32 * n)) s
        { d with spi := { d.spi with flags := clearBits d.spi.flags (bits (ws.getD 0 0) 0 6) } })) ∧
  (ws.getLast? ≠ some (spiCrc (ws.take (n - 1))) →
    Gives (.spiRequest words (32 * n)) s (d.sbDiscard 2) ∧ Gives (.spiFetch words (32 * n)) s (d.sbDiscard 2) ∧
    Gives (.spiClear words (32 * n)) s (d.sbDiscard 2)) ∧
  (∀ e : Nat, 32 ≤ e → e < 32 * n →
    let x := s.dev.emit (.miso (s.dev.miso ws e))
    Gives (.spiRequest words e) s (if e % 32 = 0 then x.sbDiscard 4 else x.sbDiscard 5)) ∧
  (∀ k : Nat, d.sbDiscard k = { d with spi := { d.spi with flags := d.spi.flags ||| 2 ^ k, discards := (d.spi.discards + 1) % 256 } })

/-- On a path that takes the request and lets its role, ARM arms trigger output n with its objects' edge, period, width and count and
sets its state to armed; DISARM of an armed or running output stops it and sets its state to idle; SET_COUNTERS, with both servos
FREE, sets both timekeepers' counts and the handover offset to zero; DIE_RESET begins the die's reset. Each then holds the answer 0.
(Model's choices: log 93, 108.) -/
def Obligations.TimeObjectCommands : Prop := ∀ (s : State) (p : Path) (txid : Word),
  (∀ n : Fin 8, let q := reqFor 2 0x208005 n txid.toNat (leBytes 1 1)
    Lets s p q .operator → (s.dev.arrive p q).armCode n = 0 → 
    GivesOn (.arm p txid n) s p q fun d => (d.setTim { d.tim with
      trigOut := tput trigOut0 d.tim.trigOut n
        ⟨timeOfKtime (d.get 0x208001 n), d.trigPeriod n, ns (d.get 0x208002 n),
         if d.get 0x208004 n = 0 then none else some (d.get 0x208004 n), true, 0⟩ }).put 0x208006 n 1) ∧
  (∀ n : Fin 8, let q := reqFor 2 0x208005 n txid.toNat (leBytes 1 2)
    Lets s p q .operator → ((s.dev.arrive p q).get 0x208006 n = 1 ∨ (s.dev.arrive p q).get 0x208006 n = 2) → 
    GivesOn (.disarm p txid n) s p q fun d => (d.setTim { d.tim with
      trigOut := tput trigOut0 d.tim.trigOut n { tget trigOut0 d.tim.trigOut n with active := false } }).put 0x208006 n 0) ∧
  (∀ t : BitVec 96, let q := reqFor 2 0x200009 0 txid.toNat (leBytes 12 t.toNat)
    Lets s p q .maintainer → bits t.toNat 16 32 ≤ 999999999 → (s.dev.arrive p q).servo .a = 0 → (s.dev.arrive p q).servo .b = 0 → 
    GivesOn (.setCounters p txid t) s p q fun d =>
      let x := (d.updTk .a fun x => { x with count := timeOfKtime t.toNat * 65536 }).updTk .b fun x =>
        { x with count := timeOfKtime t.toNat * 65536 }
      (x.setTim { x.tim with hOffset := 0 }).skipPlans d.now) ∧
  (∀ die : Byte, let q := reqFor 2 0x901007 0 txid.toNat (leBytes 1 die.toNat)
    Lets s p q .maintainer → (die.toNat = 1 ∨ die.toNat = 2) → 
    GivesOn (.dieReset p txid die) s p q fun d => (d.beginReset (.die die.toNat)).2)

/-- On a path that takes the request and lets its role, SYZYGY_START of a session that may be written and names an ID starts it: state 1,
its results cleared, a transaction ID for each of its two messages; SYZYGY_STOP of a session that is running and lies before T - 2G
aborts it, or ends it with state 4 where it has sent nothing; RECOVERY_RESET resets a function's history to take any sequence number
and counts a reset in its object 0x3110:10; GENERATION_RESET begins the silence of a generation from sequence number 0.
(Model's choices: log 108, 128.) -/
def Obligations.NetworkObjectCommands : Prop := ∀ (s : State) (p : Path) (txid : Word),
  (∀ k : Fin 4, let q := reqFor 2 0x340008 k txid.toNat (leBytes 1 1)
    Lets s p q .engineer → (s.dev.arrive p q).sesWritable k = true → (s.dev.arrive p q).get 0x340001 k ≠ 0 → 
    GivesOn (.syzygyStart p txid k) s p q fun d =>
      let a := d.takeTxid
      let b := a.2.takeTxid
      (((b.2.setSession k { session0 with txid := a.1, abortTxid := b.1 }).put 0x340006 k 1).put 0x340102 k 0).put 0x340103 k 0) ∧
  (∀ k : Fin 4, let q := reqFor 2 0x340008 k txid.toNat (leBytes 1 2)
    Lets s p q .engineer → (s.dev.arrive p q).sesState k = 1 → (s.dev.arrive p q).now + 2 * (s.dev.arrive p q).sesG k < (s.dev.arrive p q).sesT k → 
    GivesOn (.syzygyStop p txid k) s p q fun d => if (d.session k).lastSent = 0 then d.put 0x340006 k 4 else d.sesAbort k) ∧
  (∀ h : BitVec 16, let q := reqFor 2 0x31100E h.toNat txid.toNat (leBytes 1 1)
    Lets s p q .operator → h.toNat < elemsOf 0x3110 → 
    GivesOn (.recoveryReset p txid h) s p q fun d => (d.setFn h.toNat { d.fn h.toNat with
      hist := { (d.fn h.toNat).hist with takeAny := true, deadline := none }, single := none }).addPart h.toNat 16 16 1) ∧
  (∀ g : BitVec 13, let q := reqFor 2 0x312009 g.toNat txid.toNat (leBytes 1 1)
    Lets s p q .operator → g.toNat < elemsOf 0x3120 → 
    GivesOn (.generationReset p txid g) s p q fun d => (d.put 0x312006 g.toNat 0).beginSilence g.toNat)

/-- On a path that takes the request and lets its role: a stopped slot starts afresh, its memory above the image's dropped and its state
shown; an idle logical engine is rehomed to its region's ready spare; an engine is reset as a unit; a stored image is queued for its
verification; an image no slot uses is erased; a capture that is not being exported is released; a complete capture is queued for
export. Each then holds the answer 0.
(Model's choices: log 50, 108.) -/
def Obligations.ComputeObjectCommands : Prop := ∀ (s : State) (p : Path) (txid : Word),
  (∀ (k : Fin 2048) (l : Loaded), let q := reqFor 2 0x510007 k txid.toNat (leBytes 1 1)
    Lets s p q .operator → ((s.dev.arrive p q).kslot k).stopped ≠ 0 → ((s.dev.arrive p q).kslot k).cur = some l → 
    GivesOn (.slotRestart p txid k) s p q fun d => (d.setKslot k { d.kslot k with
      cur := some { l with data := tdrop (fun i => decide (ikWork l.image / 4 ≤ i)) l.data, shared := sharedInit l.image },
      stopped := 0 }).showSlot k) ∧
  (∀ e : Fin 128, let q := reqFor 2 0x50000C e txid.toNat (leBytes 1 1)
    Lets s p q .maintainer → (s.dev.arrive p q).spareReady (e / 32) = true → (s.dev.arrive p q).get 0x500102 (e / 32) ≠ (s.dev.arrive p q).hostOf e → ((s.dev.arrive p q).engine ((s.dev.arrive p q).hostOf e)).state = 0 → 
    GivesOn (.forceRehome p txid e) s p q fun d => d.rehome (d.hostOf e)) ∧
  (∀ e : Fin 128, let q := reqFor 2 0x50000C e txid.toNat (leBytes 1 2)
    Lets s p q .maintainer → 
    GivesOn (.engineUnitReset p txid e) s p q fun d => d.commandReset (.engine (d.hostOf e))) ∧
  (∀ i : Fin 64, let q := reqFor 2 0x502002 i txid.toNat (leBytes 1 1)
    Lets s p q .engineer → (s.dev.arrive p q).get 0x502003 i ≠ 0 → 
    GivesOn (.imageVerify p txid i) s p q fun d => (d.put 0x502003 i 2).setEng { d.eng with verifying := d.eng.verifying.filter (· != i.val) ++ [i.val] }) ∧
  (∀ i : Fin 64, let q := reqFor 2 0x502002 i txid.toNat (leBytes 1 2)
    Lets s p q .engineer → (s.dev.arrive p q).imageInUse i = false → 
    GivesOn (.imageErase p txid i) s p q fun d => ((d.setEng { d.eng with verifying := d.eng.verifying.filter (· != i.val) }).putB 0x502001 i []).imageWritten i) ∧
  (∀ e : Fin 64, let q := reqFor 2 0xA02103 e txid.toNat (leBytes 1 1)
    Lets s p q .operator → (s.dev.arrive p q).capState e ≠ 3 → 
    GivesOn (.captureRelease p txid e) s p q fun d => ((d.setCapture e capture0).put 0xA02104 e 0).showCapture e) ∧
  (∀ (e : Fin 64) (x : Word), let q := reqFor 2 0xA02102 e txid.toNat (leBytes 4 x.toNat)
    Lets s p q .operator → x.toNat ≤ 262143 → (s.dev.arrive p q).capState e = 2 → 
    GivesOn (.captureExport p txid e x) s p q fun d => ((d.put 0xA02104 e 3).pushBlock x.toNat
      ⟨1, e, (d.capture e).seq, (d.put 0xA02104 e 3).captureHeader e true,
       (d.capture e).chans.flatMap ((d.put 0xA02104 e 3).capturePart (d.capture e)), (d.capture e).chans.length⟩).showCapture e)

/-- On a path that takes the request and lets its role: a scope in its safe state whose cause has ended is released, the device's own
releasing every scope in it; the first error is cleared for the next; an injection slot is armed with its count of detections, or disarmed.
(Model's choices: log 98, 108.) -/
def Obligations.FaultObjectCommands : Prop := ∀ (s : State) (p : Path) (txid : Word),
  (∀ x : Fin 20, let q := reqFor 2 0x802003 x txid.toNat (leBytes 1 1)
    Lets s p q .operator → (s.dev.arrive p q).releaseCode x = 0 → 
    GivesOn (.safeStateRelease p txid x) s p q fun d => if x = 19 then (if d.on 0x802001 19 then (List.range 20).foldl Dev.leaveSafe d else d) else d.leaveSafe x) ∧
  (let q := reqFor 2 0x800003 0 txid.toNat (leBytes 1 1);
    Lets s p q .operator → 
    GivesOn (.firstErrorClear p txid) s p q fun d => (d.setFlt { d.flt with feValid := false, feOverflow := false, feInjected := false }).showFirst) ∧
  (∀ k : Fin 16, let q := reqFor 2 0x820005 k txid.toNat (leBytes 1 1)
    Lets s p q .maintainer → (s.dev.arrive p q).armInjectCode k = 0 → 
    GivesOn (.injectionArm p txid k) s p q fun d => (d.put 0x820006 k 1).setFlt { d.flt with
      injLeft := tput 0 d.flt.injLeft k (d.get 0x820004 k) }) ∧
  (∀ k : Fin 16, let q := reqFor 2 0x820005 k txid.toNat (leBytes 1 2)
    Lets s p q .maintainer → 
    GivesOn (.injectionDisarm p txid k) s p q fun d => (d.put 0x820006 k 0).setFlt { d.flt with injLeft := tput 0 d.flt.injLeft k 0 })

/-- On a path that takes the request and lets its role: DOZE begins from RUN after its confirmation or from LANTERN, WAKE_N high; WAKE in
DOZE or while it is entered wakes the device; LANTERN begins from RUN after its confirmation; RESTART in LANTERN, RUN, or START during
an attempt starts a main reset; a firmware slot is queued for its verification or erased, its status and count cleared.
(Model's choices: log 86, 91.) -/
def Obligations.PowerObjectCommands : Prop := ∀ (s : State) (p : Path) (txid : Word),
  (let q := reqFor 2 0x900002 0 txid.toNat (leBytes 1 1);
    Lets s p q .maintainer → ((s.dev.arrive p q).power = 2 ∧ (s.dev.arrive p q).pow.phase = 5 ∨ (s.dev.arrive p q).power = 4) → (s.dev.arrive p q).pow.wakeN = false → 
    GivesOn (.enterDoze p txid) s p q fun d =>
      let x := d.setTab { d.tab with running := false, upSince := none, closing := [] }
      (x.setPow { x.pow with dozeAt := x.now, dozeStage := 1, wakeCause := none }).powerTo 6 1) ∧
  (let q := reqFor 2 0x900002 0 txid.toNat (leBytes 1 2);
    Lets s p q .maintainer → ((s.dev.arrive p q).power = 3 ∨ (s.dev.arrive p q).power = 6) → 
    GivesOn (.wake p txid) s p q fun d => d.wake 1) ∧
  (let q := reqFor 2 0x900002 0 txid.toNat (leBytes 1 3);
    Lets s p q .maintainer → ((s.dev.arrive p q).power = 2 ∧ (s.dev.arrive p q).pow.phase = 5) → 
    GivesOn (.enterLantern p txid) s p q fun d => d.lantern 1) ∧
  (let q := reqFor 2 0x900002 0 txid.toNat (leBytes 1 4);
    Lets s p q .maintainer → ((s.dev.arrive p q).power = 4 ∨ (s.dev.arrive p q).power = 2 ∨ (s.dev.arrive p q).power = 1 ∧ (s.dev.arrive p q).pow.isOpen = true) → 
    GivesOn (.restart p txid) s p q fun d =>
      let x := (d.interruptAttempt 0x43).put 0x130201 0 0
      (if x.power = 4 then x.put 0x900003 0 1 else x).mirror.startReset) ∧
  (∀ x : Fin 2, let q := reqFor 2 0x131101 x txid.toNat (leBytes 1 1)
    Lets s p q .maintainer → 
    GivesOn (.slotVerify p txid x) s p q fun d =>
      let y := (d.put 0x131102 x 2).put 0x131103 x 0
      y.setPow { y.pow with verifying := y.pow.verifying.filter (· != x.val) ++ [x.val] }) ∧
  (∀ x : Fin 2, let q := reqFor 2 0x131101 x txid.toNat (leBytes 1 2)
    Lets s p q .maintainer → 
    GivesOn (.slotErase p txid x) s p q fun d => ((d.setPow { d.pow with
      flash := { d.pow.flash with blocks := tdrop (fun k => k / 512 == x.val) d.pow.flash.blocks },
      verifying := d.pow.verifying.filter (· != x.val) }).put 0x131102 x 0).put 0x131103 x 0)

/-- On a path that takes the request and lets its role: a message for a node that fits the ring's mailbox joins the messages to send,
whose number is shown; bytes at a place of a flash block replace those there, from erased where the place is the start, and leave the
slot's status 1 with no count; an acknowledgement of a source and unit ends their software reaction; a start is confirmed.
(Model's choices: log 108.) -/
def Obligations.WrittenBytesCommands : Prop := ∀ (s : State) (p : Path) (txid : Word),
  (∀ (r : Fin 2) (b : Byte) (bs : List Byte), bs.length < 1020 → let q := { reqFor 2 0x405001 r txid.toNat (b :: bs) with offset := 0 }
    Lets s p q .operator → ((s.dev.arrive p q).ring r).sendQ.length < 8 →
    bs.length + 6 ≤ imgM ((s.dev.arrive p q).activeImage r) →
    GivesOn (.ringMessageSend p txid r (b :: bs)) s p q fun d =>
      (d.updRing r fun y => { y with sendQ := y.sendQ ++ [(b.toNat, bs)] }).put 0x405003 r ((d.ring r).sendQ.length + 1)) ∧
  (∀ (src : BitVec 16) (unit : Word), src.toNat ≤ 511 →
    let q := { reqFor 2 0x800006 0 txid.toNat (leBytes 2 src.toNat ++ [0, 0] ++ leBytes 4 unit.toNat) with offset := 0 }
    Lets s p q .operator →
    GivesOn (.escalationAcknowledge p txid src unit) s p q fun d =>
      d.setReactions (d.flt.reactions.filter fun r => !(r.src == src.toNat && r.unit == unit.toNat))) ∧
  (∀ (k : Fin 1024) (bs : List Byte), bs.length ≤ 3840 → let q := { reqFor 2 0x131001 k txid.toNat bs with offset := 0 }
    Lets s p q .maintainer → (s.dev.arrive p q).flashBusy = false →
    GivesOn (.slotBlockWrite p txid k 0 bs) s p q fun d =>
      let x := d.putB 0x131001 k bs
      ((x.setPow { x.pow with
        flash := { x.pow.flash with
          blocks := tput [] x.pow.flash.blocks k ((splice (List.replicate 32768 0xFF) 0 bs).take 32768) } }).put
        0x131102 (k / 512) 1).put 0x131103 (k / 512) 0) ∧
  (∀ (v : Word), let q := reqFor 2 0x130101 0 txid.toNat (leBytes 4 v.toNat)
    Lets s p q .operator → (s.dev.arrive p q).confirmCode v.toNat = 0 →
    GivesOn (.startConfirmation p txid v) s p q Dev.confirm)
end

