-- ==== Sys2Proof/Laws/Tab.lean ====
section
/-! SUPPORT. Laws of the sparse tables: a read after a write, and the canonical form. -/
namespace Sys2Proof.Machine

/-- A key listed reads as its value, every other key as before. -/
theorem tget_tins {α : Type} (d : α) (t : Tab α) (n m : Nat) (x : α) :
    tget d (tins t n x) m = if m = n then x else tget d t m := by
  induction t with
  | nil => simp [tins, tget]
  | cons p t ih =>
    obtain ⟨k, v⟩ := p
    simp only [tins]
    split
    · simp [tget]
    · split
      · rename_i h; subst h; simp only [tget]; split <;> simp_all
      · simp only [tget, ih]; grind

/-- Keys other than the one removed read as before. -/
theorem tget_filter_ne {α : Type} (d : α) (t : Tab α) (n m : Nat) :
    tget d (t.filter (fun p => decide (p.1 ≠ n))) m = if m = n then d else tget d t m := by
  induction t with
  | nil => simp [tget]
  | cons p t ih =>
    obtain ⟨k, v⟩ := p
    by_cases h : k = n
    · subst h
      simp only [ne_eq, decide_not, List.filter_cons, decide_true, Bool.not_true, Bool.false_eq_true, ↓reduceIte, tget] at ih ⊢
      rw [ih]; split <;> simp_all
    · simp only [ne_eq, decide_not, List.filter_cons, h, decide_false, Bool.not_false, ↓reduceIte, tget] at ih ⊢
      rw [ih]; split <;> simp_all

/-- A key written reads as the value written. -/
@[simp] theorem tget_tput_same {α : Type} [DecidableEq α] (d : α) (t : Tab α) (n : Nat) (x : α) :
    tget d (tput d t n x) n = x := by
  unfold tput
  split
  · rw [tget_filter_ne]; simp_all
  · rw [tget_tins]; simp

/-- Every other key reads as before, whatever its unlisted value. -/
theorem tget_tput_ne {α : Type} [DecidableEq α] (d e : α) (t : Tab α) {n m : Nat} (x : α) (h : m ≠ n) :
    tget e (tput d t n x) m = tget e t m := by
  unfold tput
  split
  · rw [tget_filter_ne]; simp_all
  · rw [tget_tins]; simp_all

/-- A read after a write. -/
theorem tget_tput {α : Type} [DecidableEq α] (d : α) (t : Tab α) (n m : Nat) (x : α) :
    tget d (tput d t n x) m = if m = n then x else tget d t m := by
  by_cases h : m = n
  · subst h; simp
  · simp [tget_tput_ne, h]

/-- Every key of a rising table lies at or above its bound. -/
theorem trising_le {α : Type} {lo : Nat} {t : Tab α} (h : trising lo t = true) : ∀ p ∈ t, lo ≤ p.1 := by
  induction t generalizing lo with
  | nil => simp
  | cons p t ih =>
    obtain ⟨k, v⟩ := p
    simp only [trising, Bool.and_eq_true, decide_eq_true_eq] at h
    intro q hq
    rcases List.mem_cons.1 hq with rfl | hq
    · exact h.1
    · have := ih h.2 q hq; omega

/-- A lower bound serves too. -/
theorem trising_mono {α : Type} {lo hi : Nat} {t : Tab α} (h : trising hi t = true) (hl : lo ≤ hi) : trising lo t = true := by
  cases t with
  | nil => rfl
  | cons p t => simp only [trising, Bool.and_eq_true, decide_eq_true_eq] at h ⊢; exact ⟨by omega, h.2⟩

/-- Filtering keeps the order. -/
theorem trising_filter {α : Type} (p : Nat × α → Bool) {lo : Nat} {t : Tab α} (h : trising lo t = true) :
    trising lo (t.filter p) = true := by
  induction t generalizing lo with
  | nil => rfl
  | cons q t ih =>
    obtain ⟨k, v⟩ := q
    simp only [trising, Bool.and_eq_true, decide_eq_true_eq] at h
    simp only [List.filter_cons]
    split
    · simp only [trising, Bool.and_eq_true, decide_eq_true_eq]; exact ⟨h.1, ih h.2⟩
    · exact trising_mono (ih h.2) (by omega)

/-- Listing a key keeps the order. -/
theorem trising_tins {α : Type} {lo : Nat} {t : Tab α} (h : trising lo t = true) {n : Nat} (hn : lo ≤ n) (x : α) :
    trising lo (tins t n x) = true := by
  induction t generalizing lo with
  | nil => simp [tins, trising, hn]
  | cons p t ih =>
    obtain ⟨k, v⟩ := p
    simp only [trising, Bool.and_eq_true, decide_eq_true_eq] at h
    simp only [tins]
    split
    · simp only [trising, Bool.and_eq_true, decide_eq_true_eq]
      exact ⟨hn, by omega, h.2⟩
    · split
      · rename_i hk; subst hk
        simp only [trising, Bool.and_eq_true, decide_eq_true_eq]; exact ⟨hn, h.2⟩
      · simp only [trising, Bool.and_eq_true, decide_eq_true_eq]
        exact ⟨h.1, ih h.2 (by omega)⟩

/-- What a table lists after a key was listed. -/
theorem mem_tins {α : Type} {t : Tab α} {n : Nat} {x : α} {p : Nat × α} (h : p ∈ tins t n x) : p = (n, x) ∨ p ∈ t := by
  induction t with
  | nil => simpa [tins] using h
  | cons q t ih =>
    obtain ⟨k, v⟩ := q
    simp only [tins] at h
    split at h
    · simpa using h
    · split at h
      · simp only [List.mem_cons] at h ⊢; tauto
      · simp only [List.mem_cons] at h ⊢; rcases h with h | h
        · tauto
        · rcases ih h with h | h <;> tauto

/-- Every write keeps the canonical form, the unlisted value being that of the key written. -/
theorem tabWf_tput {α : Type} [DecidableEq α] (d : Nat → α) {t : Tab α} (h : tabWf d t = true) (n : Nat) (x : α) :
    tabWf d (tput (d n) t n x) = true := by
  simp only [tabWf, Bool.and_eq_true, List.all_eq_true, decide_eq_true_eq] at h ⊢
  unfold tput
  split
  · exact ⟨trising_filter _ h.1, fun p hp => h.2 p (List.mem_of_mem_filter hp)⟩
  · rename_i hx
    refine ⟨trising_tins h.1 (Nat.zero_le n) x, fun p hp => ?_⟩
    rcases mem_tins hp with rfl | hp
    · exact hx
    · exact h.2 p hp

end Sys2Proof.Machine
end

