-- ==== Sys2Proof/Laws/State.lean ====
section
/-! SUPPORT. One lemma for each part of the device that a named update leaves as it is, and one for what it reads as after. -/
namespace Sys2Proof.Machine
variable (d : Dev)

/-! ### d.put -/
@[simp] theorem put_fresh (o e v : Nat) : (d.put o e v).fresh = d.fresh := rfl
@[simp] theorem put_out (o e v : Nat) : (d.put o e v).out = d.out := rfl
@[simp] theorem put_tim (o e v : Nat) : (d.put o e v).tim = d.tim := rfl
@[simp] theorem put_arch (o e v : Nat) : (d.put o e v).arch = d.arch := rfl
@[simp] theorem put_flt (o e v : Nat) : (d.put o e v).flt = d.flt := rfl
@[simp] theorem put_net (o e v : Nat) : (d.put o e v).net = d.net := rfl
@[simp] theorem put_host (o e v : Nat) : (d.put o e v).host = d.host := rfl
@[simp] theorem put_lan (o e v : Nat) : (d.put o e v).lan = d.lan := rfl
@[simp] theorem put_ecl (o e v : Nat) : (d.put o e v).ecl = d.ecl := rfl
@[simp] theorem put_rings (o e v : Nat) : (d.put o e v).rings = d.rings := rfl
@[simp] theorem put_ing (o e v : Nat) : (d.put o e v).ing = d.ing := rfl
@[simp] theorem put_tab (o e v : Nat) : (d.put o e v).tab = d.tab := rfl
@[simp] theorem put_eng (o e v : Nat) : (d.put o e v).eng = d.eng := rfl
@[simp] theorem put_wave (o e v : Nat) : (d.put o e v).wave = d.wave := rfl
@[simp] theorem put_pow (o e v : Nat) : (d.put o e v).pow = d.pow := rfl
@[simp] theorem put_spi (o e v : Nat) : (d.put o e v).spi = d.spi := rfl
@[simp] theorem put_accessPart (o e v : Nat) : (d.put o e v).accessPart = d.accessPart := rfl
@[simp] theorem put_flyingPart (o e v : Nat) : (d.put o e v).flyingPart = d.flyingPart := rfl
@[simp] theorem put_livePart (o e v : Nat) : (d.put o e v).livePart = d.livePart := rfl
@[simp] theorem put_faultsPart (o e v : Nat) : (d.put o e v).faultsPart = d.faultsPart := rfl
@[simp] theorem put_now (o e v : Nat) : (d.put o e v).now = d.now := rfl

/-! ### d.putB -/
@[simp] theorem putB_fresh (o e : Nat) (v : List Byte) : (d.putB o e v).fresh = d.fresh := rfl
@[simp] theorem putB_out (o e : Nat) (v : List Byte) : (d.putB o e v).out = d.out := rfl
@[simp] theorem putB_tim (o e : Nat) (v : List Byte) : (d.putB o e v).tim = d.tim := rfl
@[simp] theorem putB_arch (o e : Nat) (v : List Byte) : (d.putB o e v).arch = d.arch := rfl
@[simp] theorem putB_flt (o e : Nat) (v : List Byte) : (d.putB o e v).flt = d.flt := rfl
@[simp] theorem putB_net (o e : Nat) (v : List Byte) : (d.putB o e v).net = d.net := rfl
@[simp] theorem putB_host (o e : Nat) (v : List Byte) : (d.putB o e v).host = d.host := rfl
@[simp] theorem putB_lan (o e : Nat) (v : List Byte) : (d.putB o e v).lan = d.lan := rfl
@[simp] theorem putB_ecl (o e : Nat) (v : List Byte) : (d.putB o e v).ecl = d.ecl := rfl
@[simp] theorem putB_rings (o e : Nat) (v : List Byte) : (d.putB o e v).rings = d.rings := rfl
@[simp] theorem putB_ing (o e : Nat) (v : List Byte) : (d.putB o e v).ing = d.ing := rfl
@[simp] theorem putB_tab (o e : Nat) (v : List Byte) : (d.putB o e v).tab = d.tab := rfl
@[simp] theorem putB_eng (o e : Nat) (v : List Byte) : (d.putB o e v).eng = d.eng := rfl
@[simp] theorem putB_wave (o e : Nat) (v : List Byte) : (d.putB o e v).wave = d.wave := rfl
@[simp] theorem putB_pow (o e : Nat) (v : List Byte) : (d.putB o e v).pow = d.pow := rfl
@[simp] theorem putB_spi (o e : Nat) (v : List Byte) : (d.putB o e v).spi = d.spi := rfl
@[simp] theorem putB_accessPart (o e : Nat) (v : List Byte) : (d.putB o e v).accessPart = d.accessPart := rfl
@[simp] theorem putB_flyingPart (o e : Nat) (v : List Byte) : (d.putB o e v).flyingPart = d.flyingPart := rfl
@[simp] theorem putB_livePart (o e : Nat) (v : List Byte) : (d.putB o e v).livePart = d.livePart := rfl
@[simp] theorem putB_faultsPart (o e : Nat) (v : List Byte) : (d.putB o e v).faultsPart = d.faultsPart := rfl
@[simp] theorem putB_now (o e : Nat) (v : List Byte) : (d.putB o e v).now = d.now := rfl

/-! ### d.putSh -/
@[simp] theorem putSh_fresh (o e v : Nat) : (d.putSh o e v).fresh = d.fresh := rfl
@[simp] theorem putSh_out (o e v : Nat) : (d.putSh o e v).out = d.out := rfl
@[simp] theorem putSh_tim (o e v : Nat) : (d.putSh o e v).tim = d.tim := rfl
@[simp] theorem putSh_arch (o e v : Nat) : (d.putSh o e v).arch = d.arch := rfl
@[simp] theorem putSh_flt (o e v : Nat) : (d.putSh o e v).flt = d.flt := rfl
@[simp] theorem putSh_net (o e v : Nat) : (d.putSh o e v).net = d.net := rfl
@[simp] theorem putSh_host (o e v : Nat) : (d.putSh o e v).host = d.host := rfl
@[simp] theorem putSh_lan (o e v : Nat) : (d.putSh o e v).lan = d.lan := rfl
@[simp] theorem putSh_ecl (o e v : Nat) : (d.putSh o e v).ecl = d.ecl := rfl
@[simp] theorem putSh_rings (o e v : Nat) : (d.putSh o e v).rings = d.rings := rfl
@[simp] theorem putSh_ing (o e v : Nat) : (d.putSh o e v).ing = d.ing := rfl
@[simp] theorem putSh_tab (o e v : Nat) : (d.putSh o e v).tab = d.tab := rfl
@[simp] theorem putSh_eng (o e v : Nat) : (d.putSh o e v).eng = d.eng := rfl
@[simp] theorem putSh_wave (o e v : Nat) : (d.putSh o e v).wave = d.wave := rfl
@[simp] theorem putSh_pow (o e v : Nat) : (d.putSh o e v).pow = d.pow := rfl
@[simp] theorem putSh_spi (o e v : Nat) : (d.putSh o e v).spi = d.spi := rfl
@[simp] theorem putSh_accessPart (o e v : Nat) : (d.putSh o e v).accessPart = d.accessPart := rfl
@[simp] theorem putSh_flyingPart (o e v : Nat) : (d.putSh o e v).flyingPart = d.flyingPart := rfl
@[simp] theorem putSh_livePart (o e v : Nat) : (d.putSh o e v).livePart = d.livePart := rfl
@[simp] theorem putSh_faultsPart (o e v : Nat) : (d.putSh o e v).faultsPart = d.faultsPart := rfl
@[simp] theorem putSh_now (o e v : Nat) : (d.putSh o e v).now = d.now := rfl

/-! ### d.putShB -/
@[simp] theorem putShB_fresh (o e : Nat) (v : List Byte) : (d.putShB o e v).fresh = d.fresh := rfl
@[simp] theorem putShB_out (o e : Nat) (v : List Byte) : (d.putShB o e v).out = d.out := rfl
@[simp] theorem putShB_tim (o e : Nat) (v : List Byte) : (d.putShB o e v).tim = d.tim := rfl
@[simp] theorem putShB_arch (o e : Nat) (v : List Byte) : (d.putShB o e v).arch = d.arch := rfl
@[simp] theorem putShB_flt (o e : Nat) (v : List Byte) : (d.putShB o e v).flt = d.flt := rfl
@[simp] theorem putShB_net (o e : Nat) (v : List Byte) : (d.putShB o e v).net = d.net := rfl
@[simp] theorem putShB_host (o e : Nat) (v : List Byte) : (d.putShB o e v).host = d.host := rfl
@[simp] theorem putShB_lan (o e : Nat) (v : List Byte) : (d.putShB o e v).lan = d.lan := rfl
@[simp] theorem putShB_ecl (o e : Nat) (v : List Byte) : (d.putShB o e v).ecl = d.ecl := rfl
@[simp] theorem putShB_rings (o e : Nat) (v : List Byte) : (d.putShB o e v).rings = d.rings := rfl
@[simp] theorem putShB_ing (o e : Nat) (v : List Byte) : (d.putShB o e v).ing = d.ing := rfl
@[simp] theorem putShB_tab (o e : Nat) (v : List Byte) : (d.putShB o e v).tab = d.tab := rfl
@[simp] theorem putShB_eng (o e : Nat) (v : List Byte) : (d.putShB o e v).eng = d.eng := rfl
@[simp] theorem putShB_wave (o e : Nat) (v : List Byte) : (d.putShB o e v).wave = d.wave := rfl
@[simp] theorem putShB_pow (o e : Nat) (v : List Byte) : (d.putShB o e v).pow = d.pow := rfl
@[simp] theorem putShB_spi (o e : Nat) (v : List Byte) : (d.putShB o e v).spi = d.spi := rfl
@[simp] theorem putShB_accessPart (o e : Nat) (v : List Byte) : (d.putShB o e v).accessPart = d.accessPart := rfl
@[simp] theorem putShB_flyingPart (o e : Nat) (v : List Byte) : (d.putShB o e v).flyingPart = d.flyingPart := rfl
@[simp] theorem putShB_livePart (o e : Nat) (v : List Byte) : (d.putShB o e v).livePart = d.livePart := rfl
@[simp] theorem putShB_faultsPart (o e : Nat) (v : List Byte) : (d.putShB o e v).faultsPart = d.faultsPart := rfl
@[simp] theorem putShB_now (o e : Nat) (v : List Byte) : (d.putShB o e v).now = d.now := rfl

/-! ### d.puti -/
@[simp] theorem puti_fresh (o e : Nat) (v : Int) : (d.puti o e v).fresh = d.fresh := rfl
@[simp] theorem puti_out (o e : Nat) (v : Int) : (d.puti o e v).out = d.out := rfl
@[simp] theorem puti_tim (o e : Nat) (v : Int) : (d.puti o e v).tim = d.tim := rfl
@[simp] theorem puti_arch (o e : Nat) (v : Int) : (d.puti o e v).arch = d.arch := rfl
@[simp] theorem puti_flt (o e : Nat) (v : Int) : (d.puti o e v).flt = d.flt := rfl
@[simp] theorem puti_net (o e : Nat) (v : Int) : (d.puti o e v).net = d.net := rfl
@[simp] theorem puti_host (o e : Nat) (v : Int) : (d.puti o e v).host = d.host := rfl
@[simp] theorem puti_lan (o e : Nat) (v : Int) : (d.puti o e v).lan = d.lan := rfl
@[simp] theorem puti_ecl (o e : Nat) (v : Int) : (d.puti o e v).ecl = d.ecl := rfl
@[simp] theorem puti_rings (o e : Nat) (v : Int) : (d.puti o e v).rings = d.rings := rfl
@[simp] theorem puti_ing (o e : Nat) (v : Int) : (d.puti o e v).ing = d.ing := rfl
@[simp] theorem puti_tab (o e : Nat) (v : Int) : (d.puti o e v).tab = d.tab := rfl
@[simp] theorem puti_eng (o e : Nat) (v : Int) : (d.puti o e v).eng = d.eng := rfl
@[simp] theorem puti_wave (o e : Nat) (v : Int) : (d.puti o e v).wave = d.wave := rfl
@[simp] theorem puti_pow (o e : Nat) (v : Int) : (d.puti o e v).pow = d.pow := rfl
@[simp] theorem puti_spi (o e : Nat) (v : Int) : (d.puti o e v).spi = d.spi := rfl
@[simp] theorem puti_accessPart (o e : Nat) (v : Int) : (d.puti o e v).accessPart = d.accessPart := rfl
@[simp] theorem puti_flyingPart (o e : Nat) (v : Int) : (d.puti o e v).flyingPart = d.flyingPart := rfl
@[simp] theorem puti_livePart (o e : Nat) (v : Int) : (d.puti o e v).livePart = d.livePart := rfl
@[simp] theorem puti_faultsPart (o e : Nat) (v : Int) : (d.puti o e v).faultsPart = d.faultsPart := rfl
@[simp] theorem puti_now (o e : Nat) (v : Int) : (d.puti o e v).now = d.now := rfl

/-! ### d.add -/
@[simp] theorem add_fresh (o e n : Nat) : (d.add o e n).fresh = d.fresh := rfl
@[simp] theorem add_out (o e n : Nat) : (d.add o e n).out = d.out := rfl
@[simp] theorem add_tim (o e n : Nat) : (d.add o e n).tim = d.tim := rfl
@[simp] theorem add_arch (o e n : Nat) : (d.add o e n).arch = d.arch := rfl
@[simp] theorem add_flt (o e n : Nat) : (d.add o e n).flt = d.flt := rfl
@[simp] theorem add_net (o e n : Nat) : (d.add o e n).net = d.net := rfl
@[simp] theorem add_host (o e n : Nat) : (d.add o e n).host = d.host := rfl
@[simp] theorem add_lan (o e n : Nat) : (d.add o e n).lan = d.lan := rfl
@[simp] theorem add_ecl (o e n : Nat) : (d.add o e n).ecl = d.ecl := rfl
@[simp] theorem add_rings (o e n : Nat) : (d.add o e n).rings = d.rings := rfl
@[simp] theorem add_ing (o e n : Nat) : (d.add o e n).ing = d.ing := rfl
@[simp] theorem add_tab (o e n : Nat) : (d.add o e n).tab = d.tab := rfl
@[simp] theorem add_eng (o e n : Nat) : (d.add o e n).eng = d.eng := rfl
@[simp] theorem add_wave (o e n : Nat) : (d.add o e n).wave = d.wave := rfl
@[simp] theorem add_pow (o e n : Nat) : (d.add o e n).pow = d.pow := rfl
@[simp] theorem add_spi (o e n : Nat) : (d.add o e n).spi = d.spi := rfl
@[simp] theorem add_accessPart (o e n : Nat) : (d.add o e n).accessPart = d.accessPart := rfl
@[simp] theorem add_flyingPart (o e n : Nat) : (d.add o e n).flyingPart = d.flyingPart := rfl
@[simp] theorem add_livePart (o e n : Nat) : (d.add o e n).livePart = d.livePart := rfl
@[simp] theorem add_faultsPart (o e n : Nat) : (d.add o e n).faultsPart = d.faultsPart := rfl
@[simp] theorem add_now (o e n : Nat) : (d.add o e n).now = d.now := rfl

/-! ### d.inc -/
@[simp] theorem inc_fresh (o e : Nat) : (d.inc o e).fresh = d.fresh := rfl
@[simp] theorem inc_out (o e : Nat) : (d.inc o e).out = d.out := rfl
@[simp] theorem inc_tim (o e : Nat) : (d.inc o e).tim = d.tim := rfl
@[simp] theorem inc_arch (o e : Nat) : (d.inc o e).arch = d.arch := rfl
@[simp] theorem inc_flt (o e : Nat) : (d.inc o e).flt = d.flt := rfl
@[simp] theorem inc_net (o e : Nat) : (d.inc o e).net = d.net := rfl
@[simp] theorem inc_host (o e : Nat) : (d.inc o e).host = d.host := rfl
@[simp] theorem inc_lan (o e : Nat) : (d.inc o e).lan = d.lan := rfl
@[simp] theorem inc_ecl (o e : Nat) : (d.inc o e).ecl = d.ecl := rfl
@[simp] theorem inc_rings (o e : Nat) : (d.inc o e).rings = d.rings := rfl
@[simp] theorem inc_ing (o e : Nat) : (d.inc o e).ing = d.ing := rfl
@[simp] theorem inc_tab (o e : Nat) : (d.inc o e).tab = d.tab := rfl
@[simp] theorem inc_eng (o e : Nat) : (d.inc o e).eng = d.eng := rfl
@[simp] theorem inc_wave (o e : Nat) : (d.inc o e).wave = d.wave := rfl
@[simp] theorem inc_pow (o e : Nat) : (d.inc o e).pow = d.pow := rfl
@[simp] theorem inc_spi (o e : Nat) : (d.inc o e).spi = d.spi := rfl
@[simp] theorem inc_accessPart (o e : Nat) : (d.inc o e).accessPart = d.accessPart := rfl
@[simp] theorem inc_flyingPart (o e : Nat) : (d.inc o e).flyingPart = d.flyingPart := rfl
@[simp] theorem inc_livePart (o e : Nat) : (d.inc o e).livePart = d.livePart := rfl
@[simp] theorem inc_faultsPart (o e : Nat) : (d.inc o e).faultsPart = d.faultsPart := rfl
@[simp] theorem inc_now (o e : Nat) : (d.inc o e).now = d.now := rfl

/-! ### d.raiseAt -/
@[simp] theorem raiseAt_fresh (t a b c x : Nat) : (d.raiseAt t a b c x).fresh = d.fresh := rfl
@[simp] theorem raiseAt_out (t a b c x : Nat) : (d.raiseAt t a b c x).out = d.out := rfl
@[simp] theorem raiseAt_obj (t a b c x : Nat) : (d.raiseAt t a b c x).obj = d.obj := rfl
@[simp] theorem raiseAt_tim (t a b c x : Nat) : (d.raiseAt t a b c x).tim = d.tim := rfl
@[simp] theorem raiseAt_arch (t a b c x : Nat) : (d.raiseAt t a b c x).arch = d.arch := rfl
@[simp] theorem raiseAt_net (t a b c x : Nat) : (d.raiseAt t a b c x).net = d.net := rfl
@[simp] theorem raiseAt_host (t a b c x : Nat) : (d.raiseAt t a b c x).host = d.host := rfl
@[simp] theorem raiseAt_lan (t a b c x : Nat) : (d.raiseAt t a b c x).lan = d.lan := rfl
@[simp] theorem raiseAt_ecl (t a b c x : Nat) : (d.raiseAt t a b c x).ecl = d.ecl := rfl
@[simp] theorem raiseAt_rings (t a b c x : Nat) : (d.raiseAt t a b c x).rings = d.rings := rfl
@[simp] theorem raiseAt_ing (t a b c x : Nat) : (d.raiseAt t a b c x).ing = d.ing := rfl
@[simp] theorem raiseAt_tab (t a b c x : Nat) : (d.raiseAt t a b c x).tab = d.tab := rfl
@[simp] theorem raiseAt_eng (t a b c x : Nat) : (d.raiseAt t a b c x).eng = d.eng := rfl
@[simp] theorem raiseAt_wave (t a b c x : Nat) : (d.raiseAt t a b c x).wave = d.wave := rfl
@[simp] theorem raiseAt_pow (t a b c x : Nat) : (d.raiseAt t a b c x).pow = d.pow := rfl
@[simp] theorem raiseAt_spi (t a b c x : Nat) : (d.raiseAt t a b c x).spi = d.spi := rfl
@[simp] theorem raiseAt_dictPart (t a b c x : Nat) : (d.raiseAt t a b c x).dictPart = d.dictPart := rfl
@[simp] theorem raiseAt_accessPart (t a b c x : Nat) : (d.raiseAt t a b c x).accessPart = d.accessPart := rfl
@[simp] theorem raiseAt_livePart (t a b c x : Nat) : (d.raiseAt t a b c x).livePart = d.livePart := rfl
@[simp] theorem raiseAt_faultsPart (t a b c x : Nat) : (d.raiseAt t a b c x).faultsPart = d.faultsPart := rfl
@[simp] theorem raiseAt_now (t a b c x : Nat) : (d.raiseAt t a b c x).now = d.now := rfl
@[simp] theorem raiseAt_get (t a b c x : Nat) : (d.raiseAt t a b c x).get = d.get := rfl
@[simp] theorem raiseAt_getB (t a b c x : Nat) : (d.raiseAt t a b c x).getB = d.getB := rfl

/-! ### d.raise -/
@[simp] theorem raise_fresh (a b c x : Nat) : (d.raise a b c x).fresh = d.fresh := rfl
@[simp] theorem raise_out (a b c x : Nat) : (d.raise a b c x).out = d.out := rfl
@[simp] theorem raise_obj (a b c x : Nat) : (d.raise a b c x).obj = d.obj := rfl
@[simp] theorem raise_tim (a b c x : Nat) : (d.raise a b c x).tim = d.tim := rfl
@[simp] theorem raise_arch (a b c x : Nat) : (d.raise a b c x).arch = d.arch := rfl
@[simp] theorem raise_net (a b c x : Nat) : (d.raise a b c x).net = d.net := rfl
@[simp] theorem raise_host (a b c x : Nat) : (d.raise a b c x).host = d.host := rfl
@[simp] theorem raise_lan (a b c x : Nat) : (d.raise a b c x).lan = d.lan := rfl
@[simp] theorem raise_ecl (a b c x : Nat) : (d.raise a b c x).ecl = d.ecl := rfl
@[simp] theorem raise_rings (a b c x : Nat) : (d.raise a b c x).rings = d.rings := rfl
@[simp] theorem raise_ing (a b c x : Nat) : (d.raise a b c x).ing = d.ing := rfl
@[simp] theorem raise_tab (a b c x : Nat) : (d.raise a b c x).tab = d.tab := rfl
@[simp] theorem raise_eng (a b c x : Nat) : (d.raise a b c x).eng = d.eng := rfl
@[simp] theorem raise_wave (a b c x : Nat) : (d.raise a b c x).wave = d.wave := rfl
@[simp] theorem raise_pow (a b c x : Nat) : (d.raise a b c x).pow = d.pow := rfl
@[simp] theorem raise_spi (a b c x : Nat) : (d.raise a b c x).spi = d.spi := rfl
@[simp] theorem raise_dictPart (a b c x : Nat) : (d.raise a b c x).dictPart = d.dictPart := rfl
@[simp] theorem raise_accessPart (a b c x : Nat) : (d.raise a b c x).accessPart = d.accessPart := rfl
@[simp] theorem raise_livePart (a b c x : Nat) : (d.raise a b c x).livePart = d.livePart := rfl
@[simp] theorem raise_faultsPart (a b c x : Nat) : (d.raise a b c x).faultsPart = d.faultsPart := rfl
@[simp] theorem raise_now (a b c x : Nat) : (d.raise a b c x).now = d.now := rfl
@[simp] theorem raise_get (a b c x : Nat) : (d.raise a b c x).get = d.get := rfl
@[simp] theorem raise_getB (a b c x : Nat) : (d.raise a b c x).getB = d.getB := rfl

/-! ### d.setLive -/
@[simp] theorem setLive_fresh (a b : Nat) (v : Bool) : (d.setLive a b v).fresh = d.fresh := rfl
@[simp] theorem setLive_out (a b : Nat) (v : Bool) : (d.setLive a b v).out = d.out := rfl
@[simp] theorem setLive_tim (a b : Nat) (v : Bool) : (d.setLive a b v).tim = d.tim := rfl
@[simp] theorem setLive_arch (a b : Nat) (v : Bool) : (d.setLive a b v).arch = d.arch := rfl
@[simp] theorem setLive_net (a b : Nat) (v : Bool) : (d.setLive a b v).net = d.net := rfl
@[simp] theorem setLive_host (a b : Nat) (v : Bool) : (d.setLive a b v).host = d.host := rfl
@[simp] theorem setLive_lan (a b : Nat) (v : Bool) : (d.setLive a b v).lan = d.lan := rfl
@[simp] theorem setLive_ecl (a b : Nat) (v : Bool) : (d.setLive a b v).ecl = d.ecl := rfl
@[simp] theorem setLive_rings (a b : Nat) (v : Bool) : (d.setLive a b v).rings = d.rings := rfl
@[simp] theorem setLive_ing (a b : Nat) (v : Bool) : (d.setLive a b v).ing = d.ing := rfl
@[simp] theorem setLive_tab (a b : Nat) (v : Bool) : (d.setLive a b v).tab = d.tab := rfl
@[simp] theorem setLive_eng (a b : Nat) (v : Bool) : (d.setLive a b v).eng = d.eng := rfl
@[simp] theorem setLive_wave (a b : Nat) (v : Bool) : (d.setLive a b v).wave = d.wave := rfl
@[simp] theorem setLive_pow (a b : Nat) (v : Bool) : (d.setLive a b v).pow = d.pow := rfl
@[simp] theorem setLive_spi (a b : Nat) (v : Bool) : (d.setLive a b v).spi = d.spi := rfl
@[simp] theorem setLive_accessPart (a b : Nat) (v : Bool) : (d.setLive a b v).accessPart = d.accessPart := rfl
@[simp] theorem setLive_flyingPart (a b : Nat) (v : Bool) : (d.setLive a b v).flyingPart = d.flyingPart := rfl
@[simp] theorem setLive_faultsPart (a b : Nat) (v : Bool) : (d.setLive a b v).faultsPart = d.faultsPart := rfl
@[simp] theorem setLive_now (a b : Nat) (v : Bool) : (d.setLive a b v).now = d.now := rfl

/-! ### d.emit -/
@[simp] theorem emit_fresh (x : Out) : (d.emit x).fresh = d.fresh := rfl
@[simp] theorem emit_obj (x : Out) : (d.emit x).obj = d.obj := rfl
@[simp] theorem emit_tim (x : Out) : (d.emit x).tim = d.tim := rfl
@[simp] theorem emit_arch (x : Out) : (d.emit x).arch = d.arch := rfl
@[simp] theorem emit_flt (x : Out) : (d.emit x).flt = d.flt := rfl
@[simp] theorem emit_net (x : Out) : (d.emit x).net = d.net := rfl
@[simp] theorem emit_host (x : Out) : (d.emit x).host = d.host := rfl
@[simp] theorem emit_lan (x : Out) : (d.emit x).lan = d.lan := rfl
@[simp] theorem emit_ecl (x : Out) : (d.emit x).ecl = d.ecl := rfl
@[simp] theorem emit_rings (x : Out) : (d.emit x).rings = d.rings := rfl
@[simp] theorem emit_ing (x : Out) : (d.emit x).ing = d.ing := rfl
@[simp] theorem emit_tab (x : Out) : (d.emit x).tab = d.tab := rfl
@[simp] theorem emit_eng (x : Out) : (d.emit x).eng = d.eng := rfl
@[simp] theorem emit_wave (x : Out) : (d.emit x).wave = d.wave := rfl
@[simp] theorem emit_pow (x : Out) : (d.emit x).pow = d.pow := rfl
@[simp] theorem emit_spi (x : Out) : (d.emit x).spi = d.spi := rfl
@[simp] theorem emit_dictPart (x : Out) : (d.emit x).dictPart = d.dictPart := rfl
@[simp] theorem emit_accessPart (x : Out) : (d.emit x).accessPart = d.accessPart := rfl
@[simp] theorem emit_flyingPart (x : Out) : (d.emit x).flyingPart = d.flyingPart := rfl
@[simp] theorem emit_livePart (x : Out) : (d.emit x).livePart = d.livePart := rfl
@[simp] theorem emit_faultsPart (x : Out) : (d.emit x).faultsPart = d.faultsPart := rfl
@[simp] theorem emit_now (x : Out) : (d.emit x).now = d.now := rfl
@[simp] theorem emit_get (x : Out) : (d.emit x).get = d.get := rfl
@[simp] theorem emit_getB (x : Out) : (d.emit x).getB = d.getB := rfl

/-! ### d.at_ -/
@[simp] theorem at_fresh (t : Nat) : (d.at_ t).fresh = d.fresh := rfl
@[simp] theorem at_out (t : Nat) : (d.at_ t).out = d.out := rfl
@[simp] theorem at_obj (t : Nat) : (d.at_ t).obj = d.obj := rfl
@[simp] theorem at_arch (t : Nat) : (d.at_ t).arch = d.arch := rfl
@[simp] theorem at_flt (t : Nat) : (d.at_ t).flt = d.flt := rfl
@[simp] theorem at_net (t : Nat) : (d.at_ t).net = d.net := rfl
@[simp] theorem at_host (t : Nat) : (d.at_ t).host = d.host := rfl
@[simp] theorem at_lan (t : Nat) : (d.at_ t).lan = d.lan := rfl
@[simp] theorem at_ecl (t : Nat) : (d.at_ t).ecl = d.ecl := rfl
@[simp] theorem at_rings (t : Nat) : (d.at_ t).rings = d.rings := rfl
@[simp] theorem at_ing (t : Nat) : (d.at_ t).ing = d.ing := rfl
@[simp] theorem at_tab (t : Nat) : (d.at_ t).tab = d.tab := rfl
@[simp] theorem at_eng (t : Nat) : (d.at_ t).eng = d.eng := rfl
@[simp] theorem at_wave (t : Nat) : (d.at_ t).wave = d.wave := rfl
@[simp] theorem at_pow (t : Nat) : (d.at_ t).pow = d.pow := rfl
@[simp] theorem at_spi (t : Nat) : (d.at_ t).spi = d.spi := rfl
@[simp] theorem at_dictPart (t : Nat) : (d.at_ t).dictPart = d.dictPart := rfl
@[simp] theorem at_accessPart (t : Nat) : (d.at_ t).accessPart = d.accessPart := rfl
@[simp] theorem at_flyingPart (t : Nat) : (d.at_ t).flyingPart = d.flyingPart := rfl
@[simp] theorem at_livePart (t : Nat) : (d.at_ t).livePart = d.livePart := rfl
@[simp] theorem at_faultsPart (t : Nat) : (d.at_ t).faultsPart = d.faultsPart := rfl
@[simp] theorem at_get (t : Nat) : (d.at_ t).get = d.get := rfl
@[simp] theorem at_getB (t : Nat) : (d.at_ t).getB = d.getB := rfl

/-! ### d.setObj -/
@[simp] theorem setObj_fresh (x : ObjSt) : (d.setObj x).fresh = d.fresh := rfl
@[simp] theorem setObj_out (x : ObjSt) : (d.setObj x).out = d.out := rfl
@[simp] theorem setObj_tim (x : ObjSt) : (d.setObj x).tim = d.tim := rfl
@[simp] theorem setObj_arch (x : ObjSt) : (d.setObj x).arch = d.arch := rfl
@[simp] theorem setObj_flt (x : ObjSt) : (d.setObj x).flt = d.flt := rfl
@[simp] theorem setObj_net (x : ObjSt) : (d.setObj x).net = d.net := rfl
@[simp] theorem setObj_host (x : ObjSt) : (d.setObj x).host = d.host := rfl
@[simp] theorem setObj_lan (x : ObjSt) : (d.setObj x).lan = d.lan := rfl
@[simp] theorem setObj_ecl (x : ObjSt) : (d.setObj x).ecl = d.ecl := rfl
@[simp] theorem setObj_rings (x : ObjSt) : (d.setObj x).rings = d.rings := rfl
@[simp] theorem setObj_ing (x : ObjSt) : (d.setObj x).ing = d.ing := rfl
@[simp] theorem setObj_tab (x : ObjSt) : (d.setObj x).tab = d.tab := rfl
@[simp] theorem setObj_eng (x : ObjSt) : (d.setObj x).eng = d.eng := rfl
@[simp] theorem setObj_wave (x : ObjSt) : (d.setObj x).wave = d.wave := rfl
@[simp] theorem setObj_pow (x : ObjSt) : (d.setObj x).pow = d.pow := rfl
@[simp] theorem setObj_spi (x : ObjSt) : (d.setObj x).spi = d.spi := rfl
@[simp] theorem setObj_flyingPart (x : ObjSt) : (d.setObj x).flyingPart = d.flyingPart := rfl
@[simp] theorem setObj_livePart (x : ObjSt) : (d.setObj x).livePart = d.livePart := rfl
@[simp] theorem setObj_faultsPart (x : ObjSt) : (d.setObj x).faultsPart = d.faultsPart := rfl
@[simp] theorem setObj_now (x : ObjSt) : (d.setObj x).now = d.now := rfl

/-! ### d.setTim -/
@[simp] theorem setTim_fresh (x : TimeSt) : (d.setTim x).fresh = d.fresh := rfl
@[simp] theorem setTim_out (x : TimeSt) : (d.setTim x).out = d.out := rfl
@[simp] theorem setTim_obj (x : TimeSt) : (d.setTim x).obj = d.obj := rfl
@[simp] theorem setTim_arch (x : TimeSt) : (d.setTim x).arch = d.arch := rfl
@[simp] theorem setTim_flt (x : TimeSt) : (d.setTim x).flt = d.flt := rfl
@[simp] theorem setTim_net (x : TimeSt) : (d.setTim x).net = d.net := rfl
@[simp] theorem setTim_host (x : TimeSt) : (d.setTim x).host = d.host := rfl
@[simp] theorem setTim_lan (x : TimeSt) : (d.setTim x).lan = d.lan := rfl
@[simp] theorem setTim_ecl (x : TimeSt) : (d.setTim x).ecl = d.ecl := rfl
@[simp] theorem setTim_rings (x : TimeSt) : (d.setTim x).rings = d.rings := rfl
@[simp] theorem setTim_ing (x : TimeSt) : (d.setTim x).ing = d.ing := rfl
@[simp] theorem setTim_tab (x : TimeSt) : (d.setTim x).tab = d.tab := rfl
@[simp] theorem setTim_eng (x : TimeSt) : (d.setTim x).eng = d.eng := rfl
@[simp] theorem setTim_wave (x : TimeSt) : (d.setTim x).wave = d.wave := rfl
@[simp] theorem setTim_pow (x : TimeSt) : (d.setTim x).pow = d.pow := rfl
@[simp] theorem setTim_spi (x : TimeSt) : (d.setTim x).spi = d.spi := rfl
@[simp] theorem setTim_dictPart (x : TimeSt) : (d.setTim x).dictPart = d.dictPart := rfl
@[simp] theorem setTim_accessPart (x : TimeSt) : (d.setTim x).accessPart = d.accessPart := rfl
@[simp] theorem setTim_flyingPart (x : TimeSt) : (d.setTim x).flyingPart = d.flyingPart := rfl
@[simp] theorem setTim_livePart (x : TimeSt) : (d.setTim x).livePart = d.livePart := rfl
@[simp] theorem setTim_faultsPart (x : TimeSt) : (d.setTim x).faultsPart = d.faultsPart := rfl
@[simp] theorem setTim_get (x : TimeSt) : (d.setTim x).get = d.get := rfl
@[simp] theorem setTim_getB (x : TimeSt) : (d.setTim x).getB = d.getB := rfl

/-! ### d.updTk -/
@[simp] theorem updTk_fresh (k : TkId) (f : Tk → Tk) : (d.updTk k f).fresh = d.fresh := rfl
@[simp] theorem updTk_out (k : TkId) (f : Tk → Tk) : (d.updTk k f).out = d.out := rfl
@[simp] theorem updTk_obj (k : TkId) (f : Tk → Tk) : (d.updTk k f).obj = d.obj := rfl
@[simp] theorem updTk_arch (k : TkId) (f : Tk → Tk) : (d.updTk k f).arch = d.arch := rfl
@[simp] theorem updTk_flt (k : TkId) (f : Tk → Tk) : (d.updTk k f).flt = d.flt := rfl
@[simp] theorem updTk_net (k : TkId) (f : Tk → Tk) : (d.updTk k f).net = d.net := rfl
@[simp] theorem updTk_host (k : TkId) (f : Tk → Tk) : (d.updTk k f).host = d.host := rfl
@[simp] theorem updTk_lan (k : TkId) (f : Tk → Tk) : (d.updTk k f).lan = d.lan := rfl
@[simp] theorem updTk_ecl (k : TkId) (f : Tk → Tk) : (d.updTk k f).ecl = d.ecl := rfl
@[simp] theorem updTk_rings (k : TkId) (f : Tk → Tk) : (d.updTk k f).rings = d.rings := rfl
@[simp] theorem updTk_ing (k : TkId) (f : Tk → Tk) : (d.updTk k f).ing = d.ing := rfl
@[simp] theorem updTk_tab (k : TkId) (f : Tk → Tk) : (d.updTk k f).tab = d.tab := rfl
@[simp] theorem updTk_eng (k : TkId) (f : Tk → Tk) : (d.updTk k f).eng = d.eng := rfl
@[simp] theorem updTk_wave (k : TkId) (f : Tk → Tk) : (d.updTk k f).wave = d.wave := rfl
@[simp] theorem updTk_pow (k : TkId) (f : Tk → Tk) : (d.updTk k f).pow = d.pow := rfl
@[simp] theorem updTk_spi (k : TkId) (f : Tk → Tk) : (d.updTk k f).spi = d.spi := rfl
@[simp] theorem updTk_dictPart (k : TkId) (f : Tk → Tk) : (d.updTk k f).dictPart = d.dictPart := rfl
@[simp] theorem updTk_accessPart (k : TkId) (f : Tk → Tk) : (d.updTk k f).accessPart = d.accessPart := rfl
@[simp] theorem updTk_flyingPart (k : TkId) (f : Tk → Tk) : (d.updTk k f).flyingPart = d.flyingPart := rfl
@[simp] theorem updTk_livePart (k : TkId) (f : Tk → Tk) : (d.updTk k f).livePart = d.livePart := rfl
@[simp] theorem updTk_faultsPart (k : TkId) (f : Tk → Tk) : (d.updTk k f).faultsPart = d.faultsPart := rfl
@[simp] theorem updTk_get (k : TkId) (f : Tk → Tk) : (d.updTk k f).get = d.get := rfl
@[simp] theorem updTk_getB (k : TkId) (f : Tk → Tk) : (d.updTk k f).getB = d.getB := rfl

/-! ### d.setRef -/
@[simp] theorem setRef_fresh (r : Nat) (x : RefRun) : (d.setRef r x).fresh = d.fresh := rfl
@[simp] theorem setRef_out (r : Nat) (x : RefRun) : (d.setRef r x).out = d.out := rfl
@[simp] theorem setRef_obj (r : Nat) (x : RefRun) : (d.setRef r x).obj = d.obj := rfl
@[simp] theorem setRef_arch (r : Nat) (x : RefRun) : (d.setRef r x).arch = d.arch := rfl
@[simp] theorem setRef_flt (r : Nat) (x : RefRun) : (d.setRef r x).flt = d.flt := rfl
@[simp] theorem setRef_net (r : Nat) (x : RefRun) : (d.setRef r x).net = d.net := rfl
@[simp] theorem setRef_host (r : Nat) (x : RefRun) : (d.setRef r x).host = d.host := rfl
@[simp] theorem setRef_lan (r : Nat) (x : RefRun) : (d.setRef r x).lan = d.lan := rfl
@[simp] theorem setRef_ecl (r : Nat) (x : RefRun) : (d.setRef r x).ecl = d.ecl := rfl
@[simp] theorem setRef_rings (r : Nat) (x : RefRun) : (d.setRef r x).rings = d.rings := rfl
@[simp] theorem setRef_ing (r : Nat) (x : RefRun) : (d.setRef r x).ing = d.ing := rfl
@[simp] theorem setRef_tab (r : Nat) (x : RefRun) : (d.setRef r x).tab = d.tab := rfl
@[simp] theorem setRef_eng (r : Nat) (x : RefRun) : (d.setRef r x).eng = d.eng := rfl
@[simp] theorem setRef_wave (r : Nat) (x : RefRun) : (d.setRef r x).wave = d.wave := rfl
@[simp] theorem setRef_pow (r : Nat) (x : RefRun) : (d.setRef r x).pow = d.pow := rfl
@[simp] theorem setRef_spi (r : Nat) (x : RefRun) : (d.setRef r x).spi = d.spi := rfl
@[simp] theorem setRef_dictPart (r : Nat) (x : RefRun) : (d.setRef r x).dictPart = d.dictPart := rfl
@[simp] theorem setRef_accessPart (r : Nat) (x : RefRun) : (d.setRef r x).accessPart = d.accessPart := rfl
@[simp] theorem setRef_flyingPart (r : Nat) (x : RefRun) : (d.setRef r x).flyingPart = d.flyingPart := rfl
@[simp] theorem setRef_livePart (r : Nat) (x : RefRun) : (d.setRef r x).livePart = d.livePart := rfl
@[simp] theorem setRef_faultsPart (r : Nat) (x : RefRun) : (d.setRef r x).faultsPart = d.faultsPart := rfl
@[simp] theorem setRef_get (r : Nat) (x : RefRun) : (d.setRef r x).get = d.get := rfl
@[simp] theorem setRef_getB (r : Nat) (x : RefRun) : (d.setRef r x).getB = d.getB := rfl

/-! ### d.setRep -/
@[simp] theorem setRep_fresh (r : Nat) (x : Replica) : (d.setRep r x).fresh = d.fresh := rfl
@[simp] theorem setRep_out (r : Nat) (x : Replica) : (d.setRep r x).out = d.out := rfl
@[simp] theorem setRep_obj (r : Nat) (x : Replica) : (d.setRep r x).obj = d.obj := rfl
@[simp] theorem setRep_tim (r : Nat) (x : Replica) : (d.setRep r x).tim = d.tim := rfl
@[simp] theorem setRep_flt (r : Nat) (x : Replica) : (d.setRep r x).flt = d.flt := rfl
@[simp] theorem setRep_net (r : Nat) (x : Replica) : (d.setRep r x).net = d.net := rfl
@[simp] theorem setRep_host (r : Nat) (x : Replica) : (d.setRep r x).host = d.host := rfl
@[simp] theorem setRep_lan (r : Nat) (x : Replica) : (d.setRep r x).lan = d.lan := rfl
@[simp] theorem setRep_ecl (r : Nat) (x : Replica) : (d.setRep r x).ecl = d.ecl := rfl
@[simp] theorem setRep_rings (r : Nat) (x : Replica) : (d.setRep r x).rings = d.rings := rfl
@[simp] theorem setRep_ing (r : Nat) (x : Replica) : (d.setRep r x).ing = d.ing := rfl
@[simp] theorem setRep_tab (r : Nat) (x : Replica) : (d.setRep r x).tab = d.tab := rfl
@[simp] theorem setRep_eng (r : Nat) (x : Replica) : (d.setRep r x).eng = d.eng := rfl
@[simp] theorem setRep_wave (r : Nat) (x : Replica) : (d.setRep r x).wave = d.wave := rfl
@[simp] theorem setRep_pow (r : Nat) (x : Replica) : (d.setRep r x).pow = d.pow := rfl
@[simp] theorem setRep_spi (r : Nat) (x : Replica) : (d.setRep r x).spi = d.spi := rfl
@[simp] theorem setRep_dictPart (r : Nat) (x : Replica) : (d.setRep r x).dictPart = d.dictPart := rfl
@[simp] theorem setRep_accessPart (r : Nat) (x : Replica) : (d.setRep r x).accessPart = d.accessPart := rfl
@[simp] theorem setRep_flyingPart (r : Nat) (x : Replica) : (d.setRep r x).flyingPart = d.flyingPart := rfl
@[simp] theorem setRep_livePart (r : Nat) (x : Replica) : (d.setRep r x).livePart = d.livePart := rfl
@[simp] theorem setRep_faultsPart (r : Nat) (x : Replica) : (d.setRep r x).faultsPart = d.faultsPart := rfl
@[simp] theorem setRep_now (r : Nat) (x : Replica) : (d.setRep r x).now = d.now := rfl
@[simp] theorem setRep_get (r : Nat) (x : Replica) : (d.setRep r x).get = d.get := rfl
@[simp] theorem setRep_getB (r : Nat) (x : Replica) : (d.setRep r x).getB = d.getB := rfl

/-! ### d.setTether -/
@[simp] theorem setTether_fresh (r : Nat) (x : TetherRep) : (d.setTether r x).fresh = d.fresh := rfl
@[simp] theorem setTether_out (r : Nat) (x : TetherRep) : (d.setTether r x).out = d.out := rfl
@[simp] theorem setTether_obj (r : Nat) (x : TetherRep) : (d.setTether r x).obj = d.obj := rfl
@[simp] theorem setTether_tim (r : Nat) (x : TetherRep) : (d.setTether r x).tim = d.tim := rfl
@[simp] theorem setTether_flt (r : Nat) (x : TetherRep) : (d.setTether r x).flt = d.flt := rfl
@[simp] theorem setTether_net (r : Nat) (x : TetherRep) : (d.setTether r x).net = d.net := rfl
@[simp] theorem setTether_host (r : Nat) (x : TetherRep) : (d.setTether r x).host = d.host := rfl
@[simp] theorem setTether_lan (r : Nat) (x : TetherRep) : (d.setTether r x).lan = d.lan := rfl
@[simp] theorem setTether_ecl (r : Nat) (x : TetherRep) : (d.setTether r x).ecl = d.ecl := rfl
@[simp] theorem setTether_rings (r : Nat) (x : TetherRep) : (d.setTether r x).rings = d.rings := rfl
@[simp] theorem setTether_ing (r : Nat) (x : TetherRep) : (d.setTether r x).ing = d.ing := rfl
@[simp] theorem setTether_tab (r : Nat) (x : TetherRep) : (d.setTether r x).tab = d.tab := rfl
@[simp] theorem setTether_eng (r : Nat) (x : TetherRep) : (d.setTether r x).eng = d.eng := rfl
@[simp] theorem setTether_wave (r : Nat) (x : TetherRep) : (d.setTether r x).wave = d.wave := rfl
@[simp] theorem setTether_pow (r : Nat) (x : TetherRep) : (d.setTether r x).pow = d.pow := rfl
@[simp] theorem setTether_spi (r : Nat) (x : TetherRep) : (d.setTether r x).spi = d.spi := rfl
@[simp] theorem setTether_dictPart (r : Nat) (x : TetherRep) : (d.setTether r x).dictPart = d.dictPart := rfl
@[simp] theorem setTether_accessPart (r : Nat) (x : TetherRep) : (d.setTether r x).accessPart = d.accessPart := rfl
@[simp] theorem setTether_flyingPart (r : Nat) (x : TetherRep) : (d.setTether r x).flyingPart = d.flyingPart := rfl
@[simp] theorem setTether_livePart (r : Nat) (x : TetherRep) : (d.setTether r x).livePart = d.livePart := rfl
@[simp] theorem setTether_faultsPart (r : Nat) (x : TetherRep) : (d.setTether r x).faultsPart = d.faultsPart := rfl
@[simp] theorem setTether_now (r : Nat) (x : TetherRep) : (d.setTether r x).now = d.now := rfl
@[simp] theorem setTether_get (r : Nat) (x : TetherRep) : (d.setTether r x).get = d.get := rfl
@[simp] theorem setTether_getB (r : Nat) (x : TetherRep) : (d.setTether r x).getB = d.getB := rfl

/-! ### d.setLink -/
@[simp] theorem setLink_fresh (r : Nat) (x : D2d) : (d.setLink r x).fresh = d.fresh := rfl
@[simp] theorem setLink_out (r : Nat) (x : D2d) : (d.setLink r x).out = d.out := rfl
@[simp] theorem setLink_obj (r : Nat) (x : D2d) : (d.setLink r x).obj = d.obj := rfl
@[simp] theorem setLink_tim (r : Nat) (x : D2d) : (d.setLink r x).tim = d.tim := rfl
@[simp] theorem setLink_flt (r : Nat) (x : D2d) : (d.setLink r x).flt = d.flt := rfl
@[simp] theorem setLink_net (r : Nat) (x : D2d) : (d.setLink r x).net = d.net := rfl
@[simp] theorem setLink_host (r : Nat) (x : D2d) : (d.setLink r x).host = d.host := rfl
@[simp] theorem setLink_lan (r : Nat) (x : D2d) : (d.setLink r x).lan = d.lan := rfl
@[simp] theorem setLink_ecl (r : Nat) (x : D2d) : (d.setLink r x).ecl = d.ecl := rfl
@[simp] theorem setLink_rings (r : Nat) (x : D2d) : (d.setLink r x).rings = d.rings := rfl
@[simp] theorem setLink_ing (r : Nat) (x : D2d) : (d.setLink r x).ing = d.ing := rfl
@[simp] theorem setLink_tab (r : Nat) (x : D2d) : (d.setLink r x).tab = d.tab := rfl
@[simp] theorem setLink_eng (r : Nat) (x : D2d) : (d.setLink r x).eng = d.eng := rfl
@[simp] theorem setLink_wave (r : Nat) (x : D2d) : (d.setLink r x).wave = d.wave := rfl
@[simp] theorem setLink_pow (r : Nat) (x : D2d) : (d.setLink r x).pow = d.pow := rfl
@[simp] theorem setLink_spi (r : Nat) (x : D2d) : (d.setLink r x).spi = d.spi := rfl
@[simp] theorem setLink_dictPart (r : Nat) (x : D2d) : (d.setLink r x).dictPart = d.dictPart := rfl
@[simp] theorem setLink_accessPart (r : Nat) (x : D2d) : (d.setLink r x).accessPart = d.accessPart := rfl
@[simp] theorem setLink_flyingPart (r : Nat) (x : D2d) : (d.setLink r x).flyingPart = d.flyingPart := rfl
@[simp] theorem setLink_livePart (r : Nat) (x : D2d) : (d.setLink r x).livePart = d.livePart := rfl
@[simp] theorem setLink_faultsPart (r : Nat) (x : D2d) : (d.setLink r x).faultsPart = d.faultsPart := rfl
@[simp] theorem setLink_now (r : Nat) (x : D2d) : (d.setLink r x).now = d.now := rfl
@[simp] theorem setLink_get (r : Nat) (x : D2d) : (d.setLink r x).get = d.get := rfl
@[simp] theorem setLink_getB (r : Nat) (x : D2d) : (d.setLink r x).getB = d.getB := rfl

/-! ### d.setFlt -/
@[simp] theorem setFlt_fresh (x : FaultSt) : (d.setFlt x).fresh = d.fresh := rfl
@[simp] theorem setFlt_out (x : FaultSt) : (d.setFlt x).out = d.out := rfl
@[simp] theorem setFlt_obj (x : FaultSt) : (d.setFlt x).obj = d.obj := rfl
@[simp] theorem setFlt_tim (x : FaultSt) : (d.setFlt x).tim = d.tim := rfl
@[simp] theorem setFlt_arch (x : FaultSt) : (d.setFlt x).arch = d.arch := rfl
@[simp] theorem setFlt_net (x : FaultSt) : (d.setFlt x).net = d.net := rfl
@[simp] theorem setFlt_host (x : FaultSt) : (d.setFlt x).host = d.host := rfl
@[simp] theorem setFlt_lan (x : FaultSt) : (d.setFlt x).lan = d.lan := rfl
@[simp] theorem setFlt_ecl (x : FaultSt) : (d.setFlt x).ecl = d.ecl := rfl
@[simp] theorem setFlt_rings (x : FaultSt) : (d.setFlt x).rings = d.rings := rfl
@[simp] theorem setFlt_ing (x : FaultSt) : (d.setFlt x).ing = d.ing := rfl
@[simp] theorem setFlt_tab (x : FaultSt) : (d.setFlt x).tab = d.tab := rfl
@[simp] theorem setFlt_eng (x : FaultSt) : (d.setFlt x).eng = d.eng := rfl
@[simp] theorem setFlt_wave (x : FaultSt) : (d.setFlt x).wave = d.wave := rfl
@[simp] theorem setFlt_pow (x : FaultSt) : (d.setFlt x).pow = d.pow := rfl
@[simp] theorem setFlt_spi (x : FaultSt) : (d.setFlt x).spi = d.spi := rfl
@[simp] theorem setFlt_dictPart (x : FaultSt) : (d.setFlt x).dictPart = d.dictPart := rfl
@[simp] theorem setFlt_accessPart (x : FaultSt) : (d.setFlt x).accessPart = d.accessPart := rfl
@[simp] theorem setFlt_now (x : FaultSt) : (d.setFlt x).now = d.now := rfl
@[simp] theorem setFlt_get (x : FaultSt) : (d.setFlt x).get = d.get := rfl
@[simp] theorem setFlt_getB (x : FaultSt) : (d.setFlt x).getB = d.getB := rfl

/-! ### d.setNet -/
@[simp] theorem setNet_fresh (x : NetSt) : (d.setNet x).fresh = d.fresh := rfl
@[simp] theorem setNet_out (x : NetSt) : (d.setNet x).out = d.out := rfl
@[simp] theorem setNet_obj (x : NetSt) : (d.setNet x).obj = d.obj := rfl
@[simp] theorem setNet_tim (x : NetSt) : (d.setNet x).tim = d.tim := rfl
@[simp] theorem setNet_arch (x : NetSt) : (d.setNet x).arch = d.arch := rfl
@[simp] theorem setNet_flt (x : NetSt) : (d.setNet x).flt = d.flt := rfl
@[simp] theorem setNet_host (x : NetSt) : (d.setNet x).host = d.host := rfl
@[simp] theorem setNet_lan (x : NetSt) : (d.setNet x).lan = d.lan := rfl
@[simp] theorem setNet_ecl (x : NetSt) : (d.setNet x).ecl = d.ecl := rfl
@[simp] theorem setNet_rings (x : NetSt) : (d.setNet x).rings = d.rings := rfl
@[simp] theorem setNet_ing (x : NetSt) : (d.setNet x).ing = d.ing := rfl
@[simp] theorem setNet_tab (x : NetSt) : (d.setNet x).tab = d.tab := rfl
@[simp] theorem setNet_eng (x : NetSt) : (d.setNet x).eng = d.eng := rfl
@[simp] theorem setNet_wave (x : NetSt) : (d.setNet x).wave = d.wave := rfl
@[simp] theorem setNet_pow (x : NetSt) : (d.setNet x).pow = d.pow := rfl
@[simp] theorem setNet_spi (x : NetSt) : (d.setNet x).spi = d.spi := rfl
@[simp] theorem setNet_dictPart (x : NetSt) : (d.setNet x).dictPart = d.dictPart := rfl
@[simp] theorem setNet_accessPart (x : NetSt) : (d.setNet x).accessPart = d.accessPart := rfl
@[simp] theorem setNet_flyingPart (x : NetSt) : (d.setNet x).flyingPart = d.flyingPart := rfl
@[simp] theorem setNet_livePart (x : NetSt) : (d.setNet x).livePart = d.livePart := rfl
@[simp] theorem setNet_faultsPart (x : NetSt) : (d.setNet x).faultsPart = d.faultsPart := rfl
@[simp] theorem setNet_now (x : NetSt) : (d.setNet x).now = d.now := rfl
@[simp] theorem setNet_get (x : NetSt) : (d.setNet x).get = d.get := rfl
@[simp] theorem setNet_getB (x : NetSt) : (d.setNet x).getB = d.getB := rfl

/-! ### d.setPtp -/
@[simp] theorem setPtp_fresh (i p : Nat) (x : PtpPort) : (d.setPtp i p x).fresh = d.fresh := rfl
@[simp] theorem setPtp_out (i p : Nat) (x : PtpPort) : (d.setPtp i p x).out = d.out := rfl
@[simp] theorem setPtp_obj (i p : Nat) (x : PtpPort) : (d.setPtp i p x).obj = d.obj := rfl
@[simp] theorem setPtp_tim (i p : Nat) (x : PtpPort) : (d.setPtp i p x).tim = d.tim := rfl
@[simp] theorem setPtp_arch (i p : Nat) (x : PtpPort) : (d.setPtp i p x).arch = d.arch := rfl
@[simp] theorem setPtp_flt (i p : Nat) (x : PtpPort) : (d.setPtp i p x).flt = d.flt := rfl
@[simp] theorem setPtp_host (i p : Nat) (x : PtpPort) : (d.setPtp i p x).host = d.host := rfl
@[simp] theorem setPtp_lan (i p : Nat) (x : PtpPort) : (d.setPtp i p x).lan = d.lan := rfl
@[simp] theorem setPtp_ecl (i p : Nat) (x : PtpPort) : (d.setPtp i p x).ecl = d.ecl := rfl
@[simp] theorem setPtp_rings (i p : Nat) (x : PtpPort) : (d.setPtp i p x).rings = d.rings := rfl
@[simp] theorem setPtp_ing (i p : Nat) (x : PtpPort) : (d.setPtp i p x).ing = d.ing := rfl
@[simp] theorem setPtp_tab (i p : Nat) (x : PtpPort) : (d.setPtp i p x).tab = d.tab := rfl
@[simp] theorem setPtp_eng (i p : Nat) (x : PtpPort) : (d.setPtp i p x).eng = d.eng := rfl
@[simp] theorem setPtp_wave (i p : Nat) (x : PtpPort) : (d.setPtp i p x).wave = d.wave := rfl
@[simp] theorem setPtp_pow (i p : Nat) (x : PtpPort) : (d.setPtp i p x).pow = d.pow := rfl
@[simp] theorem setPtp_spi (i p : Nat) (x : PtpPort) : (d.setPtp i p x).spi = d.spi := rfl
@[simp] theorem setPtp_dictPart (i p : Nat) (x : PtpPort) : (d.setPtp i p x).dictPart = d.dictPart := rfl
@[simp] theorem setPtp_accessPart (i p : Nat) (x : PtpPort) : (d.setPtp i p x).accessPart = d.accessPart := rfl
@[simp] theorem setPtp_flyingPart (i p : Nat) (x : PtpPort) : (d.setPtp i p x).flyingPart = d.flyingPart := rfl
@[simp] theorem setPtp_livePart (i p : Nat) (x : PtpPort) : (d.setPtp i p x).livePart = d.livePart := rfl
@[simp] theorem setPtp_faultsPart (i p : Nat) (x : PtpPort) : (d.setPtp i p x).faultsPart = d.faultsPart := rfl
@[simp] theorem setPtp_now (i p : Nat) (x : PtpPort) : (d.setPtp i p x).now = d.now := rfl
@[simp] theorem setPtp_get (i p : Nat) (x : PtpPort) : (d.setPtp i p x).get = d.get := rfl
@[simp] theorem setPtp_getB (i p : Nat) (x : PtpPort) : (d.setPtp i p x).getB = d.getB := rfl

/-! ### d.setTsq -/
@[simp] theorem setTsq_fresh (p : Nat) (x : Tsq) : (d.setTsq p x).fresh = d.fresh := rfl
@[simp] theorem setTsq_out (p : Nat) (x : Tsq) : (d.setTsq p x).out = d.out := rfl
@[simp] theorem setTsq_obj (p : Nat) (x : Tsq) : (d.setTsq p x).obj = d.obj := rfl
@[simp] theorem setTsq_tim (p : Nat) (x : Tsq) : (d.setTsq p x).tim = d.tim := rfl
@[simp] theorem setTsq_arch (p : Nat) (x : Tsq) : (d.setTsq p x).arch = d.arch := rfl
@[simp] theorem setTsq_flt (p : Nat) (x : Tsq) : (d.setTsq p x).flt = d.flt := rfl
@[simp] theorem setTsq_host (p : Nat) (x : Tsq) : (d.setTsq p x).host = d.host := rfl
@[simp] theorem setTsq_lan (p : Nat) (x : Tsq) : (d.setTsq p x).lan = d.lan := rfl
@[simp] theorem setTsq_ecl (p : Nat) (x : Tsq) : (d.setTsq p x).ecl = d.ecl := rfl
@[simp] theorem setTsq_rings (p : Nat) (x : Tsq) : (d.setTsq p x).rings = d.rings := rfl
@[simp] theorem setTsq_ing (p : Nat) (x : Tsq) : (d.setTsq p x).ing = d.ing := rfl
@[simp] theorem setTsq_tab (p : Nat) (x : Tsq) : (d.setTsq p x).tab = d.tab := rfl
@[simp] theorem setTsq_eng (p : Nat) (x : Tsq) : (d.setTsq p x).eng = d.eng := rfl
@[simp] theorem setTsq_wave (p : Nat) (x : Tsq) : (d.setTsq p x).wave = d.wave := rfl
@[simp] theorem setTsq_pow (p : Nat) (x : Tsq) : (d.setTsq p x).pow = d.pow := rfl
@[simp] theorem setTsq_spi (p : Nat) (x : Tsq) : (d.setTsq p x).spi = d.spi := rfl
@[simp] theorem setTsq_dictPart (p : Nat) (x : Tsq) : (d.setTsq p x).dictPart = d.dictPart := rfl
@[simp] theorem setTsq_accessPart (p : Nat) (x : Tsq) : (d.setTsq p x).accessPart = d.accessPart := rfl
@[simp] theorem setTsq_flyingPart (p : Nat) (x : Tsq) : (d.setTsq p x).flyingPart = d.flyingPart := rfl
@[simp] theorem setTsq_livePart (p : Nat) (x : Tsq) : (d.setTsq p x).livePart = d.livePart := rfl
@[simp] theorem setTsq_faultsPart (p : Nat) (x : Tsq) : (d.setTsq p x).faultsPart = d.faultsPart := rfl
@[simp] theorem setTsq_now (p : Nat) (x : Tsq) : (d.setTsq p x).now = d.now := rfl
@[simp] theorem setTsq_get (p : Nat) (x : Tsq) : (d.setTsq p x).get = d.get := rfl
@[simp] theorem setTsq_getB (p : Nat) (x : Tsq) : (d.setTsq p x).getB = d.getB := rfl

/-! ### d.setHost -/
@[simp] theorem setHost_fresh (x : HostSt) : (d.setHost x).fresh = d.fresh := rfl
@[simp] theorem setHost_out (x : HostSt) : (d.setHost x).out = d.out := rfl
@[simp] theorem setHost_obj (x : HostSt) : (d.setHost x).obj = d.obj := rfl
@[simp] theorem setHost_tim (x : HostSt) : (d.setHost x).tim = d.tim := rfl
@[simp] theorem setHost_arch (x : HostSt) : (d.setHost x).arch = d.arch := rfl
@[simp] theorem setHost_flt (x : HostSt) : (d.setHost x).flt = d.flt := rfl
@[simp] theorem setHost_net (x : HostSt) : (d.setHost x).net = d.net := rfl
@[simp] theorem setHost_lan (x : HostSt) : (d.setHost x).lan = d.lan := rfl
@[simp] theorem setHost_ecl (x : HostSt) : (d.setHost x).ecl = d.ecl := rfl
@[simp] theorem setHost_rings (x : HostSt) : (d.setHost x).rings = d.rings := rfl
@[simp] theorem setHost_ing (x : HostSt) : (d.setHost x).ing = d.ing := rfl
@[simp] theorem setHost_tab (x : HostSt) : (d.setHost x).tab = d.tab := rfl
@[simp] theorem setHost_eng (x : HostSt) : (d.setHost x).eng = d.eng := rfl
@[simp] theorem setHost_wave (x : HostSt) : (d.setHost x).wave = d.wave := rfl
@[simp] theorem setHost_pow (x : HostSt) : (d.setHost x).pow = d.pow := rfl
@[simp] theorem setHost_spi (x : HostSt) : (d.setHost x).spi = d.spi := rfl
@[simp] theorem setHost_dictPart (x : HostSt) : (d.setHost x).dictPart = d.dictPart := rfl
@[simp] theorem setHost_accessPart (x : HostSt) : (d.setHost x).accessPart = d.accessPart := rfl
@[simp] theorem setHost_flyingPart (x : HostSt) : (d.setHost x).flyingPart = d.flyingPart := rfl
@[simp] theorem setHost_livePart (x : HostSt) : (d.setHost x).livePart = d.livePart := rfl
@[simp] theorem setHost_faultsPart (x : HostSt) : (d.setHost x).faultsPart = d.faultsPart := rfl
@[simp] theorem setHost_now (x : HostSt) : (d.setHost x).now = d.now := rfl
@[simp] theorem setHost_get (x : HostSt) : (d.setHost x).get = d.get := rfl
@[simp] theorem setHost_getB (x : HostSt) : (d.setHost x).getB = d.getB := rfl

/-! ### d.setPcie -/
@[simp] theorem setPcie_fresh (x : PcieSt) : (d.setPcie x).fresh = d.fresh := rfl
@[simp] theorem setPcie_out (x : PcieSt) : (d.setPcie x).out = d.out := rfl
@[simp] theorem setPcie_obj (x : PcieSt) : (d.setPcie x).obj = d.obj := rfl
@[simp] theorem setPcie_tim (x : PcieSt) : (d.setPcie x).tim = d.tim := rfl
@[simp] theorem setPcie_arch (x : PcieSt) : (d.setPcie x).arch = d.arch := rfl
@[simp] theorem setPcie_flt (x : PcieSt) : (d.setPcie x).flt = d.flt := rfl
@[simp] theorem setPcie_net (x : PcieSt) : (d.setPcie x).net = d.net := rfl
@[simp] theorem setPcie_lan (x : PcieSt) : (d.setPcie x).lan = d.lan := rfl
@[simp] theorem setPcie_ecl (x : PcieSt) : (d.setPcie x).ecl = d.ecl := rfl
@[simp] theorem setPcie_rings (x : PcieSt) : (d.setPcie x).rings = d.rings := rfl
@[simp] theorem setPcie_ing (x : PcieSt) : (d.setPcie x).ing = d.ing := rfl
@[simp] theorem setPcie_tab (x : PcieSt) : (d.setPcie x).tab = d.tab := rfl
@[simp] theorem setPcie_eng (x : PcieSt) : (d.setPcie x).eng = d.eng := rfl
@[simp] theorem setPcie_wave (x : PcieSt) : (d.setPcie x).wave = d.wave := rfl
@[simp] theorem setPcie_pow (x : PcieSt) : (d.setPcie x).pow = d.pow := rfl
@[simp] theorem setPcie_spi (x : PcieSt) : (d.setPcie x).spi = d.spi := rfl
@[simp] theorem setPcie_dictPart (x : PcieSt) : (d.setPcie x).dictPart = d.dictPart := rfl
@[simp] theorem setPcie_accessPart (x : PcieSt) : (d.setPcie x).accessPart = d.accessPart := rfl
@[simp] theorem setPcie_flyingPart (x : PcieSt) : (d.setPcie x).flyingPart = d.flyingPart := rfl
@[simp] theorem setPcie_livePart (x : PcieSt) : (d.setPcie x).livePart = d.livePart := rfl
@[simp] theorem setPcie_faultsPart (x : PcieSt) : (d.setPcie x).faultsPart = d.faultsPart := rfl
@[simp] theorem setPcie_now (x : PcieSt) : (d.setPcie x).now = d.now := rfl
@[simp] theorem setPcie_get (x : PcieSt) : (d.setPcie x).get = d.get := rfl
@[simp] theorem setPcie_getB (x : PcieSt) : (d.setPcie x).getB = d.getB := rfl

/-! ### d.setQueue -/
@[simp] theorem setQueue_fresh (q : Nat) (x : Queue) : (d.setQueue q x).fresh = d.fresh := rfl
@[simp] theorem setQueue_out (q : Nat) (x : Queue) : (d.setQueue q x).out = d.out := rfl
@[simp] theorem setQueue_tim (q : Nat) (x : Queue) : (d.setQueue q x).tim = d.tim := rfl
@[simp] theorem setQueue_arch (q : Nat) (x : Queue) : (d.setQueue q x).arch = d.arch := rfl
@[simp] theorem setQueue_flt (q : Nat) (x : Queue) : (d.setQueue q x).flt = d.flt := rfl
@[simp] theorem setQueue_net (q : Nat) (x : Queue) : (d.setQueue q x).net = d.net := rfl
@[simp] theorem setQueue_lan (q : Nat) (x : Queue) : (d.setQueue q x).lan = d.lan := rfl
@[simp] theorem setQueue_ecl (q : Nat) (x : Queue) : (d.setQueue q x).ecl = d.ecl := rfl
@[simp] theorem setQueue_rings (q : Nat) (x : Queue) : (d.setQueue q x).rings = d.rings := rfl
@[simp] theorem setQueue_ing (q : Nat) (x : Queue) : (d.setQueue q x).ing = d.ing := rfl
@[simp] theorem setQueue_tab (q : Nat) (x : Queue) : (d.setQueue q x).tab = d.tab := rfl
@[simp] theorem setQueue_eng (q : Nat) (x : Queue) : (d.setQueue q x).eng = d.eng := rfl
@[simp] theorem setQueue_wave (q : Nat) (x : Queue) : (d.setQueue q x).wave = d.wave := rfl
@[simp] theorem setQueue_pow (q : Nat) (x : Queue) : (d.setQueue q x).pow = d.pow := rfl
@[simp] theorem setQueue_spi (q : Nat) (x : Queue) : (d.setQueue q x).spi = d.spi := rfl
@[simp] theorem setQueue_accessPart (q : Nat) (x : Queue) : (d.setQueue q x).accessPart = d.accessPart := rfl
@[simp] theorem setQueue_flyingPart (q : Nat) (x : Queue) : (d.setQueue q x).flyingPart = d.flyingPart := rfl
@[simp] theorem setQueue_livePart (q : Nat) (x : Queue) : (d.setQueue q x).livePart = d.livePart := rfl
@[simp] theorem setQueue_faultsPart (q : Nat) (x : Queue) : (d.setQueue q x).faultsPart = d.faultsPart := rfl
@[simp] theorem setQueue_now (q : Nat) (x : Queue) : (d.setQueue q x).now = d.now := rfl

/-! ### d.setLan -/
@[simp] theorem setLan_fresh (x : LanSt) : (d.setLan x).fresh = d.fresh := rfl
@[simp] theorem setLan_out (x : LanSt) : (d.setLan x).out = d.out := rfl
@[simp] theorem setLan_obj (x : LanSt) : (d.setLan x).obj = d.obj := rfl
@[simp] theorem setLan_tim (x : LanSt) : (d.setLan x).tim = d.tim := rfl
@[simp] theorem setLan_arch (x : LanSt) : (d.setLan x).arch = d.arch := rfl
@[simp] theorem setLan_flt (x : LanSt) : (d.setLan x).flt = d.flt := rfl
@[simp] theorem setLan_net (x : LanSt) : (d.setLan x).net = d.net := rfl
@[simp] theorem setLan_host (x : LanSt) : (d.setLan x).host = d.host := rfl
@[simp] theorem setLan_ecl (x : LanSt) : (d.setLan x).ecl = d.ecl := rfl
@[simp] theorem setLan_rings (x : LanSt) : (d.setLan x).rings = d.rings := rfl
@[simp] theorem setLan_ing (x : LanSt) : (d.setLan x).ing = d.ing := rfl
@[simp] theorem setLan_tab (x : LanSt) : (d.setLan x).tab = d.tab := rfl
@[simp] theorem setLan_eng (x : LanSt) : (d.setLan x).eng = d.eng := rfl
@[simp] theorem setLan_wave (x : LanSt) : (d.setLan x).wave = d.wave := rfl
@[simp] theorem setLan_pow (x : LanSt) : (d.setLan x).pow = d.pow := rfl
@[simp] theorem setLan_spi (x : LanSt) : (d.setLan x).spi = d.spi := rfl
@[simp] theorem setLan_dictPart (x : LanSt) : (d.setLan x).dictPart = d.dictPart := rfl
@[simp] theorem setLan_accessPart (x : LanSt) : (d.setLan x).accessPart = d.accessPart := rfl
@[simp] theorem setLan_flyingPart (x : LanSt) : (d.setLan x).flyingPart = d.flyingPart := rfl
@[simp] theorem setLan_livePart (x : LanSt) : (d.setLan x).livePart = d.livePart := rfl
@[simp] theorem setLan_faultsPart (x : LanSt) : (d.setLan x).faultsPart = d.faultsPart := rfl
@[simp] theorem setLan_now (x : LanSt) : (d.setLan x).now = d.now := rfl
@[simp] theorem setLan_get (x : LanSt) : (d.setLan x).get = d.get := rfl
@[simp] theorem setLan_getB (x : LanSt) : (d.setLan x).getB = d.getB := rfl

/-! ### d.setPort -/
@[simp] theorem setPort_fresh (p : Nat) (x : PortSt) : (d.setPort p x).fresh = d.fresh := rfl
@[simp] theorem setPort_out (p : Nat) (x : PortSt) : (d.setPort p x).out = d.out := rfl
@[simp] theorem setPort_obj (p : Nat) (x : PortSt) : (d.setPort p x).obj = d.obj := rfl
@[simp] theorem setPort_tim (p : Nat) (x : PortSt) : (d.setPort p x).tim = d.tim := rfl
@[simp] theorem setPort_arch (p : Nat) (x : PortSt) : (d.setPort p x).arch = d.arch := rfl
@[simp] theorem setPort_flt (p : Nat) (x : PortSt) : (d.setPort p x).flt = d.flt := rfl
@[simp] theorem setPort_net (p : Nat) (x : PortSt) : (d.setPort p x).net = d.net := rfl
@[simp] theorem setPort_host (p : Nat) (x : PortSt) : (d.setPort p x).host = d.host := rfl
@[simp] theorem setPort_ecl (p : Nat) (x : PortSt) : (d.setPort p x).ecl = d.ecl := rfl
@[simp] theorem setPort_rings (p : Nat) (x : PortSt) : (d.setPort p x).rings = d.rings := rfl
@[simp] theorem setPort_ing (p : Nat) (x : PortSt) : (d.setPort p x).ing = d.ing := rfl
@[simp] theorem setPort_tab (p : Nat) (x : PortSt) : (d.setPort p x).tab = d.tab := rfl
@[simp] theorem setPort_eng (p : Nat) (x : PortSt) : (d.setPort p x).eng = d.eng := rfl
@[simp] theorem setPort_wave (p : Nat) (x : PortSt) : (d.setPort p x).wave = d.wave := rfl
@[simp] theorem setPort_pow (p : Nat) (x : PortSt) : (d.setPort p x).pow = d.pow := rfl
@[simp] theorem setPort_spi (p : Nat) (x : PortSt) : (d.setPort p x).spi = d.spi := rfl
@[simp] theorem setPort_dictPart (p : Nat) (x : PortSt) : (d.setPort p x).dictPart = d.dictPart := rfl
@[simp] theorem setPort_accessPart (p : Nat) (x : PortSt) : (d.setPort p x).accessPart = d.accessPart := rfl
@[simp] theorem setPort_flyingPart (p : Nat) (x : PortSt) : (d.setPort p x).flyingPart = d.flyingPart := rfl
@[simp] theorem setPort_livePart (p : Nat) (x : PortSt) : (d.setPort p x).livePart = d.livePart := rfl
@[simp] theorem setPort_faultsPart (p : Nat) (x : PortSt) : (d.setPort p x).faultsPart = d.faultsPart := rfl
@[simp] theorem setPort_now (p : Nat) (x : PortSt) : (d.setPort p x).now = d.now := rfl
@[simp] theorem setPort_get (p : Nat) (x : PortSt) : (d.setPort p x).get = d.get := rfl
@[simp] theorem setPort_getB (p : Nat) (x : PortSt) : (d.setPort p x).getB = d.getB := rfl

/-! ### d.setSession -/
@[simp] theorem setSession_fresh (p : Nat) (x : Session) : (d.setSession p x).fresh = d.fresh := rfl
@[simp] theorem setSession_out (p : Nat) (x : Session) : (d.setSession p x).out = d.out := rfl
@[simp] theorem setSession_obj (p : Nat) (x : Session) : (d.setSession p x).obj = d.obj := rfl
@[simp] theorem setSession_tim (p : Nat) (x : Session) : (d.setSession p x).tim = d.tim := rfl
@[simp] theorem setSession_arch (p : Nat) (x : Session) : (d.setSession p x).arch = d.arch := rfl
@[simp] theorem setSession_flt (p : Nat) (x : Session) : (d.setSession p x).flt = d.flt := rfl
@[simp] theorem setSession_net (p : Nat) (x : Session) : (d.setSession p x).net = d.net := rfl
@[simp] theorem setSession_host (p : Nat) (x : Session) : (d.setSession p x).host = d.host := rfl
@[simp] theorem setSession_ecl (p : Nat) (x : Session) : (d.setSession p x).ecl = d.ecl := rfl
@[simp] theorem setSession_rings (p : Nat) (x : Session) : (d.setSession p x).rings = d.rings := rfl
@[simp] theorem setSession_ing (p : Nat) (x : Session) : (d.setSession p x).ing = d.ing := rfl
@[simp] theorem setSession_tab (p : Nat) (x : Session) : (d.setSession p x).tab = d.tab := rfl
@[simp] theorem setSession_eng (p : Nat) (x : Session) : (d.setSession p x).eng = d.eng := rfl
@[simp] theorem setSession_wave (p : Nat) (x : Session) : (d.setSession p x).wave = d.wave := rfl
@[simp] theorem setSession_pow (p : Nat) (x : Session) : (d.setSession p x).pow = d.pow := rfl
@[simp] theorem setSession_spi (p : Nat) (x : Session) : (d.setSession p x).spi = d.spi := rfl
@[simp] theorem setSession_dictPart (p : Nat) (x : Session) : (d.setSession p x).dictPart = d.dictPart := rfl
@[simp] theorem setSession_accessPart (p : Nat) (x : Session) : (d.setSession p x).accessPart = d.accessPart := rfl
@[simp] theorem setSession_flyingPart (p : Nat) (x : Session) : (d.setSession p x).flyingPart = d.flyingPart := rfl
@[simp] theorem setSession_livePart (p : Nat) (x : Session) : (d.setSession p x).livePart = d.livePart := rfl
@[simp] theorem setSession_faultsPart (p : Nat) (x : Session) : (d.setSession p x).faultsPart = d.faultsPart := rfl
@[simp] theorem setSession_now (p : Nat) (x : Session) : (d.setSession p x).now = d.now := rfl
@[simp] theorem setSession_get (p : Nat) (x : Session) : (d.setSession p x).get = d.get := rfl
@[simp] theorem setSession_getB (p : Nat) (x : Session) : (d.setSession p x).getB = d.getB := rfl

/-! ### d.setEcl -/
@[simp] theorem setEcl_fresh (x : EclSt) : (d.setEcl x).fresh = d.fresh := rfl
@[simp] theorem setEcl_out (x : EclSt) : (d.setEcl x).out = d.out := rfl
@[simp] theorem setEcl_obj (x : EclSt) : (d.setEcl x).obj = d.obj := rfl
@[simp] theorem setEcl_tim (x : EclSt) : (d.setEcl x).tim = d.tim := rfl
@[simp] theorem setEcl_arch (x : EclSt) : (d.setEcl x).arch = d.arch := rfl
@[simp] theorem setEcl_flt (x : EclSt) : (d.setEcl x).flt = d.flt := rfl
@[simp] theorem setEcl_net (x : EclSt) : (d.setEcl x).net = d.net := rfl
@[simp] theorem setEcl_host (x : EclSt) : (d.setEcl x).host = d.host := rfl
@[simp] theorem setEcl_lan (x : EclSt) : (d.setEcl x).lan = d.lan := rfl
@[simp] theorem setEcl_rings (x : EclSt) : (d.setEcl x).rings = d.rings := rfl
@[simp] theorem setEcl_ing (x : EclSt) : (d.setEcl x).ing = d.ing := rfl
@[simp] theorem setEcl_tab (x : EclSt) : (d.setEcl x).tab = d.tab := rfl
@[simp] theorem setEcl_eng (x : EclSt) : (d.setEcl x).eng = d.eng := rfl
@[simp] theorem setEcl_wave (x : EclSt) : (d.setEcl x).wave = d.wave := rfl
@[simp] theorem setEcl_pow (x : EclSt) : (d.setEcl x).pow = d.pow := rfl
@[simp] theorem setEcl_spi (x : EclSt) : (d.setEcl x).spi = d.spi := rfl
@[simp] theorem setEcl_dictPart (x : EclSt) : (d.setEcl x).dictPart = d.dictPart := rfl
@[simp] theorem setEcl_accessPart (x : EclSt) : (d.setEcl x).accessPart = d.accessPart := rfl
@[simp] theorem setEcl_flyingPart (x : EclSt) : (d.setEcl x).flyingPart = d.flyingPart := rfl
@[simp] theorem setEcl_livePart (x : EclSt) : (d.setEcl x).livePart = d.livePart := rfl
@[simp] theorem setEcl_faultsPart (x : EclSt) : (d.setEcl x).faultsPart = d.faultsPart := rfl
@[simp] theorem setEcl_now (x : EclSt) : (d.setEcl x).now = d.now := rfl
@[simp] theorem setEcl_get (x : EclSt) : (d.setEcl x).get = d.get := rfl
@[simp] theorem setEcl_getB (x : EclSt) : (d.setEcl x).getB = d.getB := rfl

/-! ### d.setFn -/
@[simp] theorem setFn_fresh (p : Nat) (x : RecFn) : (d.setFn p x).fresh = d.fresh := rfl
@[simp] theorem setFn_out (p : Nat) (x : RecFn) : (d.setFn p x).out = d.out := rfl
@[simp] theorem setFn_obj (p : Nat) (x : RecFn) : (d.setFn p x).obj = d.obj := rfl
@[simp] theorem setFn_tim (p : Nat) (x : RecFn) : (d.setFn p x).tim = d.tim := rfl
@[simp] theorem setFn_arch (p : Nat) (x : RecFn) : (d.setFn p x).arch = d.arch := rfl
@[simp] theorem setFn_flt (p : Nat) (x : RecFn) : (d.setFn p x).flt = d.flt := rfl
@[simp] theorem setFn_net (p : Nat) (x : RecFn) : (d.setFn p x).net = d.net := rfl
@[simp] theorem setFn_host (p : Nat) (x : RecFn) : (d.setFn p x).host = d.host := rfl
@[simp] theorem setFn_lan (p : Nat) (x : RecFn) : (d.setFn p x).lan = d.lan := rfl
@[simp] theorem setFn_rings (p : Nat) (x : RecFn) : (d.setFn p x).rings = d.rings := rfl
@[simp] theorem setFn_ing (p : Nat) (x : RecFn) : (d.setFn p x).ing = d.ing := rfl
@[simp] theorem setFn_tab (p : Nat) (x : RecFn) : (d.setFn p x).tab = d.tab := rfl
@[simp] theorem setFn_eng (p : Nat) (x : RecFn) : (d.setFn p x).eng = d.eng := rfl
@[simp] theorem setFn_wave (p : Nat) (x : RecFn) : (d.setFn p x).wave = d.wave := rfl
@[simp] theorem setFn_pow (p : Nat) (x : RecFn) : (d.setFn p x).pow = d.pow := rfl
@[simp] theorem setFn_spi (p : Nat) (x : RecFn) : (d.setFn p x).spi = d.spi := rfl
@[simp] theorem setFn_dictPart (p : Nat) (x : RecFn) : (d.setFn p x).dictPart = d.dictPart := rfl
@[simp] theorem setFn_accessPart (p : Nat) (x : RecFn) : (d.setFn p x).accessPart = d.accessPart := rfl
@[simp] theorem setFn_flyingPart (p : Nat) (x : RecFn) : (d.setFn p x).flyingPart = d.flyingPart := rfl
@[simp] theorem setFn_livePart (p : Nat) (x : RecFn) : (d.setFn p x).livePart = d.livePart := rfl
@[simp] theorem setFn_faultsPart (p : Nat) (x : RecFn) : (d.setFn p x).faultsPart = d.faultsPart := rfl
@[simp] theorem setFn_now (p : Nat) (x : RecFn) : (d.setFn p x).now = d.now := rfl
@[simp] theorem setFn_get (p : Nat) (x : RecFn) : (d.setFn p x).get = d.get := rfl
@[simp] theorem setFn_getB (p : Nat) (x : RecFn) : (d.setFn p x).getB = d.getB := rfl

/-! ### d.setPair -/
@[simp] theorem setPair_fresh (p : Nat) (x : Pair) : (d.setPair p x).fresh = d.fresh := rfl
@[simp] theorem setPair_out (p : Nat) (x : Pair) : (d.setPair p x).out = d.out := rfl
@[simp] theorem setPair_obj (p : Nat) (x : Pair) : (d.setPair p x).obj = d.obj := rfl
@[simp] theorem setPair_tim (p : Nat) (x : Pair) : (d.setPair p x).tim = d.tim := rfl
@[simp] theorem setPair_arch (p : Nat) (x : Pair) : (d.setPair p x).arch = d.arch := rfl
@[simp] theorem setPair_flt (p : Nat) (x : Pair) : (d.setPair p x).flt = d.flt := rfl
@[simp] theorem setPair_net (p : Nat) (x : Pair) : (d.setPair p x).net = d.net := rfl
@[simp] theorem setPair_host (p : Nat) (x : Pair) : (d.setPair p x).host = d.host := rfl
@[simp] theorem setPair_lan (p : Nat) (x : Pair) : (d.setPair p x).lan = d.lan := rfl
@[simp] theorem setPair_rings (p : Nat) (x : Pair) : (d.setPair p x).rings = d.rings := rfl
@[simp] theorem setPair_ing (p : Nat) (x : Pair) : (d.setPair p x).ing = d.ing := rfl
@[simp] theorem setPair_tab (p : Nat) (x : Pair) : (d.setPair p x).tab = d.tab := rfl
@[simp] theorem setPair_eng (p : Nat) (x : Pair) : (d.setPair p x).eng = d.eng := rfl
@[simp] theorem setPair_wave (p : Nat) (x : Pair) : (d.setPair p x).wave = d.wave := rfl
@[simp] theorem setPair_pow (p : Nat) (x : Pair) : (d.setPair p x).pow = d.pow := rfl
@[simp] theorem setPair_spi (p : Nat) (x : Pair) : (d.setPair p x).spi = d.spi := rfl
@[simp] theorem setPair_dictPart (p : Nat) (x : Pair) : (d.setPair p x).dictPart = d.dictPart := rfl
@[simp] theorem setPair_accessPart (p : Nat) (x : Pair) : (d.setPair p x).accessPart = d.accessPart := rfl
@[simp] theorem setPair_flyingPart (p : Nat) (x : Pair) : (d.setPair p x).flyingPart = d.flyingPart := rfl
@[simp] theorem setPair_livePart (p : Nat) (x : Pair) : (d.setPair p x).livePart = d.livePart := rfl
@[simp] theorem setPair_faultsPart (p : Nat) (x : Pair) : (d.setPair p x).faultsPart = d.faultsPart := rfl
@[simp] theorem setPair_now (p : Nat) (x : Pair) : (d.setPair p x).now = d.now := rfl
@[simp] theorem setPair_get (p : Nat) (x : Pair) : (d.setPair p x).get = d.get := rfl
@[simp] theorem setPair_getB (p : Nat) (x : Pair) : (d.setPair p x).getB = d.getB := rfl

/-! ### d.setRing -/
@[simp] theorem setRing_fresh (p : Nat) (x : Ring) : (d.setRing p x).fresh = d.fresh := rfl
@[simp] theorem setRing_out (p : Nat) (x : Ring) : (d.setRing p x).out = d.out := rfl
@[simp] theorem setRing_obj (p : Nat) (x : Ring) : (d.setRing p x).obj = d.obj := rfl
@[simp] theorem setRing_tim (p : Nat) (x : Ring) : (d.setRing p x).tim = d.tim := rfl
@[simp] theorem setRing_arch (p : Nat) (x : Ring) : (d.setRing p x).arch = d.arch := rfl
@[simp] theorem setRing_flt (p : Nat) (x : Ring) : (d.setRing p x).flt = d.flt := rfl
@[simp] theorem setRing_net (p : Nat) (x : Ring) : (d.setRing p x).net = d.net := rfl
@[simp] theorem setRing_host (p : Nat) (x : Ring) : (d.setRing p x).host = d.host := rfl
@[simp] theorem setRing_lan (p : Nat) (x : Ring) : (d.setRing p x).lan = d.lan := rfl
@[simp] theorem setRing_ecl (p : Nat) (x : Ring) : (d.setRing p x).ecl = d.ecl := rfl
@[simp] theorem setRing_ing (p : Nat) (x : Ring) : (d.setRing p x).ing = d.ing := rfl
@[simp] theorem setRing_tab (p : Nat) (x : Ring) : (d.setRing p x).tab = d.tab := rfl
@[simp] theorem setRing_eng (p : Nat) (x : Ring) : (d.setRing p x).eng = d.eng := rfl
@[simp] theorem setRing_wave (p : Nat) (x : Ring) : (d.setRing p x).wave = d.wave := rfl
@[simp] theorem setRing_pow (p : Nat) (x : Ring) : (d.setRing p x).pow = d.pow := rfl
@[simp] theorem setRing_spi (p : Nat) (x : Ring) : (d.setRing p x).spi = d.spi := rfl
@[simp] theorem setRing_dictPart (p : Nat) (x : Ring) : (d.setRing p x).dictPart = d.dictPart := rfl
@[simp] theorem setRing_accessPart (p : Nat) (x : Ring) : (d.setRing p x).accessPart = d.accessPart := rfl
@[simp] theorem setRing_flyingPart (p : Nat) (x : Ring) : (d.setRing p x).flyingPart = d.flyingPart := rfl
@[simp] theorem setRing_livePart (p : Nat) (x : Ring) : (d.setRing p x).livePart = d.livePart := rfl
@[simp] theorem setRing_faultsPart (p : Nat) (x : Ring) : (d.setRing p x).faultsPart = d.faultsPart := rfl
@[simp] theorem setRing_now (p : Nat) (x : Ring) : (d.setRing p x).now = d.now := rfl
@[simp] theorem setRing_get (p : Nat) (x : Ring) : (d.setRing p x).get = d.get := rfl
@[simp] theorem setRing_getB (p : Nat) (x : Ring) : (d.setRing p x).getB = d.getB := rfl

/-! ### d.setIng -/
@[simp] theorem setIng_fresh (x : IngestSt) : (d.setIng x).fresh = d.fresh := rfl
@[simp] theorem setIng_out (x : IngestSt) : (d.setIng x).out = d.out := rfl
@[simp] theorem setIng_obj (x : IngestSt) : (d.setIng x).obj = d.obj := rfl
@[simp] theorem setIng_tim (x : IngestSt) : (d.setIng x).tim = d.tim := rfl
@[simp] theorem setIng_arch (x : IngestSt) : (d.setIng x).arch = d.arch := rfl
@[simp] theorem setIng_flt (x : IngestSt) : (d.setIng x).flt = d.flt := rfl
@[simp] theorem setIng_net (x : IngestSt) : (d.setIng x).net = d.net := rfl
@[simp] theorem setIng_host (x : IngestSt) : (d.setIng x).host = d.host := rfl
@[simp] theorem setIng_lan (x : IngestSt) : (d.setIng x).lan = d.lan := rfl
@[simp] theorem setIng_ecl (x : IngestSt) : (d.setIng x).ecl = d.ecl := rfl
@[simp] theorem setIng_rings (x : IngestSt) : (d.setIng x).rings = d.rings := rfl
@[simp] theorem setIng_tab (x : IngestSt) : (d.setIng x).tab = d.tab := rfl
@[simp] theorem setIng_eng (x : IngestSt) : (d.setIng x).eng = d.eng := rfl
@[simp] theorem setIng_wave (x : IngestSt) : (d.setIng x).wave = d.wave := rfl
@[simp] theorem setIng_pow (x : IngestSt) : (d.setIng x).pow = d.pow := rfl
@[simp] theorem setIng_spi (x : IngestSt) : (d.setIng x).spi = d.spi := rfl
@[simp] theorem setIng_dictPart (x : IngestSt) : (d.setIng x).dictPart = d.dictPart := rfl
@[simp] theorem setIng_accessPart (x : IngestSt) : (d.setIng x).accessPart = d.accessPart := rfl
@[simp] theorem setIng_flyingPart (x : IngestSt) : (d.setIng x).flyingPart = d.flyingPart := rfl
@[simp] theorem setIng_livePart (x : IngestSt) : (d.setIng x).livePart = d.livePart := rfl
@[simp] theorem setIng_faultsPart (x : IngestSt) : (d.setIng x).faultsPart = d.faultsPart := rfl
@[simp] theorem setIng_now (x : IngestSt) : (d.setIng x).now = d.now := rfl
@[simp] theorem setIng_get (x : IngestSt) : (d.setIng x).get = d.get := rfl
@[simp] theorem setIng_getB (x : IngestSt) : (d.setIng x).getB = d.getB := rfl

/-! ### d.setPmu -/
@[simp] theorem setPmu_fresh (p : Nat) (x : PmuRun) : (d.setPmu p x).fresh = d.fresh := rfl
@[simp] theorem setPmu_out (p : Nat) (x : PmuRun) : (d.setPmu p x).out = d.out := rfl
@[simp] theorem setPmu_obj (p : Nat) (x : PmuRun) : (d.setPmu p x).obj = d.obj := rfl
@[simp] theorem setPmu_tim (p : Nat) (x : PmuRun) : (d.setPmu p x).tim = d.tim := rfl
@[simp] theorem setPmu_arch (p : Nat) (x : PmuRun) : (d.setPmu p x).arch = d.arch := rfl
@[simp] theorem setPmu_flt (p : Nat) (x : PmuRun) : (d.setPmu p x).flt = d.flt := rfl
@[simp] theorem setPmu_net (p : Nat) (x : PmuRun) : (d.setPmu p x).net = d.net := rfl
@[simp] theorem setPmu_host (p : Nat) (x : PmuRun) : (d.setPmu p x).host = d.host := rfl
@[simp] theorem setPmu_lan (p : Nat) (x : PmuRun) : (d.setPmu p x).lan = d.lan := rfl
@[simp] theorem setPmu_ecl (p : Nat) (x : PmuRun) : (d.setPmu p x).ecl = d.ecl := rfl
@[simp] theorem setPmu_rings (p : Nat) (x : PmuRun) : (d.setPmu p x).rings = d.rings := rfl
@[simp] theorem setPmu_tab (p : Nat) (x : PmuRun) : (d.setPmu p x).tab = d.tab := rfl
@[simp] theorem setPmu_eng (p : Nat) (x : PmuRun) : (d.setPmu p x).eng = d.eng := rfl
@[simp] theorem setPmu_wave (p : Nat) (x : PmuRun) : (d.setPmu p x).wave = d.wave := rfl
@[simp] theorem setPmu_pow (p : Nat) (x : PmuRun) : (d.setPmu p x).pow = d.pow := rfl
@[simp] theorem setPmu_spi (p : Nat) (x : PmuRun) : (d.setPmu p x).spi = d.spi := rfl
@[simp] theorem setPmu_dictPart (p : Nat) (x : PmuRun) : (d.setPmu p x).dictPart = d.dictPart := rfl
@[simp] theorem setPmu_accessPart (p : Nat) (x : PmuRun) : (d.setPmu p x).accessPart = d.accessPart := rfl
@[simp] theorem setPmu_flyingPart (p : Nat) (x : PmuRun) : (d.setPmu p x).flyingPart = d.flyingPart := rfl
@[simp] theorem setPmu_livePart (p : Nat) (x : PmuRun) : (d.setPmu p x).livePart = d.livePart := rfl
@[simp] theorem setPmu_faultsPart (p : Nat) (x : PmuRun) : (d.setPmu p x).faultsPart = d.faultsPart := rfl
@[simp] theorem setPmu_now (p : Nat) (x : PmuRun) : (d.setPmu p x).now = d.now := rfl
@[simp] theorem setPmu_get (p : Nat) (x : PmuRun) : (d.setPmu p x).get = d.get := rfl
@[simp] theorem setPmu_getB (p : Nat) (x : PmuRun) : (d.setPmu p x).getB = d.getB := rfl

/-! ### d.setTab -/
@[simp] theorem setTab_fresh (x : TableSt) : (d.setTab x).fresh = d.fresh := rfl
@[simp] theorem setTab_out (x : TableSt) : (d.setTab x).out = d.out := rfl
@[simp] theorem setTab_obj (x : TableSt) : (d.setTab x).obj = d.obj := rfl
@[simp] theorem setTab_tim (x : TableSt) : (d.setTab x).tim = d.tim := rfl
@[simp] theorem setTab_arch (x : TableSt) : (d.setTab x).arch = d.arch := rfl
@[simp] theorem setTab_flt (x : TableSt) : (d.setTab x).flt = d.flt := rfl
@[simp] theorem setTab_net (x : TableSt) : (d.setTab x).net = d.net := rfl
@[simp] theorem setTab_host (x : TableSt) : (d.setTab x).host = d.host := rfl
@[simp] theorem setTab_lan (x : TableSt) : (d.setTab x).lan = d.lan := rfl
@[simp] theorem setTab_ecl (x : TableSt) : (d.setTab x).ecl = d.ecl := rfl
@[simp] theorem setTab_rings (x : TableSt) : (d.setTab x).rings = d.rings := rfl
@[simp] theorem setTab_ing (x : TableSt) : (d.setTab x).ing = d.ing := rfl
@[simp] theorem setTab_eng (x : TableSt) : (d.setTab x).eng = d.eng := rfl
@[simp] theorem setTab_wave (x : TableSt) : (d.setTab x).wave = d.wave := rfl
@[simp] theorem setTab_pow (x : TableSt) : (d.setTab x).pow = d.pow := rfl
@[simp] theorem setTab_spi (x : TableSt) : (d.setTab x).spi = d.spi := rfl
@[simp] theorem setTab_dictPart (x : TableSt) : (d.setTab x).dictPart = d.dictPart := rfl
@[simp] theorem setTab_accessPart (x : TableSt) : (d.setTab x).accessPart = d.accessPart := rfl
@[simp] theorem setTab_flyingPart (x : TableSt) : (d.setTab x).flyingPart = d.flyingPart := rfl
@[simp] theorem setTab_livePart (x : TableSt) : (d.setTab x).livePart = d.livePart := rfl
@[simp] theorem setTab_faultsPart (x : TableSt) : (d.setTab x).faultsPart = d.faultsPart := rfl
@[simp] theorem setTab_now (x : TableSt) : (d.setTab x).now = d.now := rfl
@[simp] theorem setTab_get (x : TableSt) : (d.setTab x).get = d.get := rfl
@[simp] theorem setTab_getB (x : TableSt) : (d.setTab x).getB = d.getB := rfl

/-! ### d.setRegion -/
@[simp] theorem setRegion_fresh (p : Nat) (x : Region) : (d.setRegion p x).fresh = d.fresh := rfl
@[simp] theorem setRegion_out (p : Nat) (x : Region) : (d.setRegion p x).out = d.out := rfl
@[simp] theorem setRegion_obj (p : Nat) (x : Region) : (d.setRegion p x).obj = d.obj := rfl
@[simp] theorem setRegion_tim (p : Nat) (x : Region) : (d.setRegion p x).tim = d.tim := rfl
@[simp] theorem setRegion_arch (p : Nat) (x : Region) : (d.setRegion p x).arch = d.arch := rfl
@[simp] theorem setRegion_flt (p : Nat) (x : Region) : (d.setRegion p x).flt = d.flt := rfl
@[simp] theorem setRegion_net (p : Nat) (x : Region) : (d.setRegion p x).net = d.net := rfl
@[simp] theorem setRegion_host (p : Nat) (x : Region) : (d.setRegion p x).host = d.host := rfl
@[simp] theorem setRegion_lan (p : Nat) (x : Region) : (d.setRegion p x).lan = d.lan := rfl
@[simp] theorem setRegion_ecl (p : Nat) (x : Region) : (d.setRegion p x).ecl = d.ecl := rfl
@[simp] theorem setRegion_rings (p : Nat) (x : Region) : (d.setRegion p x).rings = d.rings := rfl
@[simp] theorem setRegion_ing (p : Nat) (x : Region) : (d.setRegion p x).ing = d.ing := rfl
@[simp] theorem setRegion_eng (p : Nat) (x : Region) : (d.setRegion p x).eng = d.eng := rfl
@[simp] theorem setRegion_wave (p : Nat) (x : Region) : (d.setRegion p x).wave = d.wave := rfl
@[simp] theorem setRegion_pow (p : Nat) (x : Region) : (d.setRegion p x).pow = d.pow := rfl
@[simp] theorem setRegion_spi (p : Nat) (x : Region) : (d.setRegion p x).spi = d.spi := rfl
@[simp] theorem setRegion_dictPart (p : Nat) (x : Region) : (d.setRegion p x).dictPart = d.dictPart := rfl
@[simp] theorem setRegion_accessPart (p : Nat) (x : Region) : (d.setRegion p x).accessPart = d.accessPart := rfl
@[simp] theorem setRegion_flyingPart (p : Nat) (x : Region) : (d.setRegion p x).flyingPart = d.flyingPart := rfl
@[simp] theorem setRegion_livePart (p : Nat) (x : Region) : (d.setRegion p x).livePart = d.livePart := rfl
@[simp] theorem setRegion_faultsPart (p : Nat) (x : Region) : (d.setRegion p x).faultsPart = d.faultsPart := rfl
@[simp] theorem setRegion_now (p : Nat) (x : Region) : (d.setRegion p x).now = d.now := rfl
@[simp] theorem setRegion_get (p : Nat) (x : Region) : (d.setRegion p x).get = d.get := rfl
@[simp] theorem setRegion_getB (p : Nat) (x : Region) : (d.setRegion p x).getB = d.getB := rfl

/-! ### d.setRec -/
@[simp] theorem setRec_fresh (p : Nat) (x : SigRec) : (d.setRec p x).fresh = d.fresh := rfl
@[simp] theorem setRec_out (p : Nat) (x : SigRec) : (d.setRec p x).out = d.out := rfl
@[simp] theorem setRec_obj (p : Nat) (x : SigRec) : (d.setRec p x).obj = d.obj := rfl
@[simp] theorem setRec_tim (p : Nat) (x : SigRec) : (d.setRec p x).tim = d.tim := rfl
@[simp] theorem setRec_arch (p : Nat) (x : SigRec) : (d.setRec p x).arch = d.arch := rfl
@[simp] theorem setRec_flt (p : Nat) (x : SigRec) : (d.setRec p x).flt = d.flt := rfl
@[simp] theorem setRec_net (p : Nat) (x : SigRec) : (d.setRec p x).net = d.net := rfl
@[simp] theorem setRec_host (p : Nat) (x : SigRec) : (d.setRec p x).host = d.host := rfl
@[simp] theorem setRec_lan (p : Nat) (x : SigRec) : (d.setRec p x).lan = d.lan := rfl
@[simp] theorem setRec_ecl (p : Nat) (x : SigRec) : (d.setRec p x).ecl = d.ecl := rfl
@[simp] theorem setRec_rings (p : Nat) (x : SigRec) : (d.setRec p x).rings = d.rings := rfl
@[simp] theorem setRec_ing (p : Nat) (x : SigRec) : (d.setRec p x).ing = d.ing := rfl
@[simp] theorem setRec_eng (p : Nat) (x : SigRec) : (d.setRec p x).eng = d.eng := rfl
@[simp] theorem setRec_wave (p : Nat) (x : SigRec) : (d.setRec p x).wave = d.wave := rfl
@[simp] theorem setRec_pow (p : Nat) (x : SigRec) : (d.setRec p x).pow = d.pow := rfl
@[simp] theorem setRec_spi (p : Nat) (x : SigRec) : (d.setRec p x).spi = d.spi := rfl
@[simp] theorem setRec_dictPart (p : Nat) (x : SigRec) : (d.setRec p x).dictPart = d.dictPart := rfl
@[simp] theorem setRec_accessPart (p : Nat) (x : SigRec) : (d.setRec p x).accessPart = d.accessPart := rfl
@[simp] theorem setRec_flyingPart (p : Nat) (x : SigRec) : (d.setRec p x).flyingPart = d.flyingPart := rfl
@[simp] theorem setRec_livePart (p : Nat) (x : SigRec) : (d.setRec p x).livePart = d.livePart := rfl
@[simp] theorem setRec_faultsPart (p : Nat) (x : SigRec) : (d.setRec p x).faultsPart = d.faultsPart := rfl
@[simp] theorem setRec_now (p : Nat) (x : SigRec) : (d.setRec p x).now = d.now := rfl
@[simp] theorem setRec_get (p : Nat) (x : SigRec) : (d.setRec p x).get = d.get := rfl
@[simp] theorem setRec_getB (p : Nat) (x : SigRec) : (d.setRec p x).getB = d.getB := rfl

/-! ### d.setEng -/
@[simp] theorem setEng_fresh (x : EngSt) : (d.setEng x).fresh = d.fresh := rfl
@[simp] theorem setEng_out (x : EngSt) : (d.setEng x).out = d.out := rfl
@[simp] theorem setEng_obj (x : EngSt) : (d.setEng x).obj = d.obj := rfl
@[simp] theorem setEng_tim (x : EngSt) : (d.setEng x).tim = d.tim := rfl
@[simp] theorem setEng_arch (x : EngSt) : (d.setEng x).arch = d.arch := rfl
@[simp] theorem setEng_flt (x : EngSt) : (d.setEng x).flt = d.flt := rfl
@[simp] theorem setEng_net (x : EngSt) : (d.setEng x).net = d.net := rfl
@[simp] theorem setEng_host (x : EngSt) : (d.setEng x).host = d.host := rfl
@[simp] theorem setEng_lan (x : EngSt) : (d.setEng x).lan = d.lan := rfl
@[simp] theorem setEng_ecl (x : EngSt) : (d.setEng x).ecl = d.ecl := rfl
@[simp] theorem setEng_rings (x : EngSt) : (d.setEng x).rings = d.rings := rfl
@[simp] theorem setEng_ing (x : EngSt) : (d.setEng x).ing = d.ing := rfl
@[simp] theorem setEng_tab (x : EngSt) : (d.setEng x).tab = d.tab := rfl
@[simp] theorem setEng_wave (x : EngSt) : (d.setEng x).wave = d.wave := rfl
@[simp] theorem setEng_pow (x : EngSt) : (d.setEng x).pow = d.pow := rfl
@[simp] theorem setEng_spi (x : EngSt) : (d.setEng x).spi = d.spi := rfl
@[simp] theorem setEng_dictPart (x : EngSt) : (d.setEng x).dictPart = d.dictPart := rfl
@[simp] theorem setEng_accessPart (x : EngSt) : (d.setEng x).accessPart = d.accessPart := rfl
@[simp] theorem setEng_flyingPart (x : EngSt) : (d.setEng x).flyingPart = d.flyingPart := rfl
@[simp] theorem setEng_livePart (x : EngSt) : (d.setEng x).livePart = d.livePart := rfl
@[simp] theorem setEng_faultsPart (x : EngSt) : (d.setEng x).faultsPart = d.faultsPart := rfl
@[simp] theorem setEng_now (x : EngSt) : (d.setEng x).now = d.now := rfl
@[simp] theorem setEng_get (x : EngSt) : (d.setEng x).get = d.get := rfl
@[simp] theorem setEng_getB (x : EngSt) : (d.setEng x).getB = d.getB := rfl

/-! ### d.setKslot -/
@[simp] theorem setKslot_fresh (p : Nat) (x : KSlot) : (d.setKslot p x).fresh = d.fresh := rfl
@[simp] theorem setKslot_out (p : Nat) (x : KSlot) : (d.setKslot p x).out = d.out := rfl
@[simp] theorem setKslot_obj (p : Nat) (x : KSlot) : (d.setKslot p x).obj = d.obj := rfl
@[simp] theorem setKslot_tim (p : Nat) (x : KSlot) : (d.setKslot p x).tim = d.tim := rfl
@[simp] theorem setKslot_arch (p : Nat) (x : KSlot) : (d.setKslot p x).arch = d.arch := rfl
@[simp] theorem setKslot_flt (p : Nat) (x : KSlot) : (d.setKslot p x).flt = d.flt := rfl
@[simp] theorem setKslot_net (p : Nat) (x : KSlot) : (d.setKslot p x).net = d.net := rfl
@[simp] theorem setKslot_host (p : Nat) (x : KSlot) : (d.setKslot p x).host = d.host := rfl
@[simp] theorem setKslot_lan (p : Nat) (x : KSlot) : (d.setKslot p x).lan = d.lan := rfl
@[simp] theorem setKslot_ecl (p : Nat) (x : KSlot) : (d.setKslot p x).ecl = d.ecl := rfl
@[simp] theorem setKslot_rings (p : Nat) (x : KSlot) : (d.setKslot p x).rings = d.rings := rfl
@[simp] theorem setKslot_ing (p : Nat) (x : KSlot) : (d.setKslot p x).ing = d.ing := rfl
@[simp] theorem setKslot_tab (p : Nat) (x : KSlot) : (d.setKslot p x).tab = d.tab := rfl
@[simp] theorem setKslot_wave (p : Nat) (x : KSlot) : (d.setKslot p x).wave = d.wave := rfl
@[simp] theorem setKslot_pow (p : Nat) (x : KSlot) : (d.setKslot p x).pow = d.pow := rfl
@[simp] theorem setKslot_spi (p : Nat) (x : KSlot) : (d.setKslot p x).spi = d.spi := rfl
@[simp] theorem setKslot_dictPart (p : Nat) (x : KSlot) : (d.setKslot p x).dictPart = d.dictPart := rfl
@[simp] theorem setKslot_accessPart (p : Nat) (x : KSlot) : (d.setKslot p x).accessPart = d.accessPart := rfl
@[simp] theorem setKslot_flyingPart (p : Nat) (x : KSlot) : (d.setKslot p x).flyingPart = d.flyingPart := rfl
@[simp] theorem setKslot_livePart (p : Nat) (x : KSlot) : (d.setKslot p x).livePart = d.livePart := rfl
@[simp] theorem setKslot_faultsPart (p : Nat) (x : KSlot) : (d.setKslot p x).faultsPart = d.faultsPart := rfl
@[simp] theorem setKslot_now (p : Nat) (x : KSlot) : (d.setKslot p x).now = d.now := rfl
@[simp] theorem setKslot_get (p : Nat) (x : KSlot) : (d.setKslot p x).get = d.get := rfl
@[simp] theorem setKslot_getB (p : Nat) (x : KSlot) : (d.setKslot p x).getB = d.getB := rfl

/-! ### d.setBind -/
@[simp] theorem setBind_fresh (p : Nat) (x : BindRun) : (d.setBind p x).fresh = d.fresh := rfl
@[simp] theorem setBind_out (p : Nat) (x : BindRun) : (d.setBind p x).out = d.out := rfl
@[simp] theorem setBind_obj (p : Nat) (x : BindRun) : (d.setBind p x).obj = d.obj := rfl
@[simp] theorem setBind_tim (p : Nat) (x : BindRun) : (d.setBind p x).tim = d.tim := rfl
@[simp] theorem setBind_arch (p : Nat) (x : BindRun) : (d.setBind p x).arch = d.arch := rfl
@[simp] theorem setBind_flt (p : Nat) (x : BindRun) : (d.setBind p x).flt = d.flt := rfl
@[simp] theorem setBind_net (p : Nat) (x : BindRun) : (d.setBind p x).net = d.net := rfl
@[simp] theorem setBind_host (p : Nat) (x : BindRun) : (d.setBind p x).host = d.host := rfl
@[simp] theorem setBind_lan (p : Nat) (x : BindRun) : (d.setBind p x).lan = d.lan := rfl
@[simp] theorem setBind_ecl (p : Nat) (x : BindRun) : (d.setBind p x).ecl = d.ecl := rfl
@[simp] theorem setBind_rings (p : Nat) (x : BindRun) : (d.setBind p x).rings = d.rings := rfl
@[simp] theorem setBind_ing (p : Nat) (x : BindRun) : (d.setBind p x).ing = d.ing := rfl
@[simp] theorem setBind_tab (p : Nat) (x : BindRun) : (d.setBind p x).tab = d.tab := rfl
@[simp] theorem setBind_wave (p : Nat) (x : BindRun) : (d.setBind p x).wave = d.wave := rfl
@[simp] theorem setBind_pow (p : Nat) (x : BindRun) : (d.setBind p x).pow = d.pow := rfl
@[simp] theorem setBind_spi (p : Nat) (x : BindRun) : (d.setBind p x).spi = d.spi := rfl
@[simp] theorem setBind_dictPart (p : Nat) (x : BindRun) : (d.setBind p x).dictPart = d.dictPart := rfl
@[simp] theorem setBind_accessPart (p : Nat) (x : BindRun) : (d.setBind p x).accessPart = d.accessPart := rfl
@[simp] theorem setBind_flyingPart (p : Nat) (x : BindRun) : (d.setBind p x).flyingPart = d.flyingPart := rfl
@[simp] theorem setBind_livePart (p : Nat) (x : BindRun) : (d.setBind p x).livePart = d.livePart := rfl
@[simp] theorem setBind_faultsPart (p : Nat) (x : BindRun) : (d.setBind p x).faultsPart = d.faultsPart := rfl
@[simp] theorem setBind_now (p : Nat) (x : BindRun) : (d.setBind p x).now = d.now := rfl
@[simp] theorem setBind_get (p : Nat) (x : BindRun) : (d.setBind p x).get = d.get := rfl
@[simp] theorem setBind_getB (p : Nat) (x : BindRun) : (d.setBind p x).getB = d.getB := rfl

/-! ### d.setEngine -/
@[simp] theorem setEngine_fresh (p : Nat) (x : Engine) : (d.setEngine p x).fresh = d.fresh := rfl
@[simp] theorem setEngine_out (p : Nat) (x : Engine) : (d.setEngine p x).out = d.out := rfl
@[simp] theorem setEngine_obj (p : Nat) (x : Engine) : (d.setEngine p x).obj = d.obj := rfl
@[simp] theorem setEngine_tim (p : Nat) (x : Engine) : (d.setEngine p x).tim = d.tim := rfl
@[simp] theorem setEngine_arch (p : Nat) (x : Engine) : (d.setEngine p x).arch = d.arch := rfl
@[simp] theorem setEngine_flt (p : Nat) (x : Engine) : (d.setEngine p x).flt = d.flt := rfl
@[simp] theorem setEngine_net (p : Nat) (x : Engine) : (d.setEngine p x).net = d.net := rfl
@[simp] theorem setEngine_host (p : Nat) (x : Engine) : (d.setEngine p x).host = d.host := rfl
@[simp] theorem setEngine_lan (p : Nat) (x : Engine) : (d.setEngine p x).lan = d.lan := rfl
@[simp] theorem setEngine_ecl (p : Nat) (x : Engine) : (d.setEngine p x).ecl = d.ecl := rfl
@[simp] theorem setEngine_rings (p : Nat) (x : Engine) : (d.setEngine p x).rings = d.rings := rfl
@[simp] theorem setEngine_ing (p : Nat) (x : Engine) : (d.setEngine p x).ing = d.ing := rfl
@[simp] theorem setEngine_tab (p : Nat) (x : Engine) : (d.setEngine p x).tab = d.tab := rfl
@[simp] theorem setEngine_wave (p : Nat) (x : Engine) : (d.setEngine p x).wave = d.wave := rfl
@[simp] theorem setEngine_pow (p : Nat) (x : Engine) : (d.setEngine p x).pow = d.pow := rfl
@[simp] theorem setEngine_spi (p : Nat) (x : Engine) : (d.setEngine p x).spi = d.spi := rfl
@[simp] theorem setEngine_dictPart (p : Nat) (x : Engine) : (d.setEngine p x).dictPart = d.dictPart := rfl
@[simp] theorem setEngine_accessPart (p : Nat) (x : Engine) : (d.setEngine p x).accessPart = d.accessPart := rfl
@[simp] theorem setEngine_flyingPart (p : Nat) (x : Engine) : (d.setEngine p x).flyingPart = d.flyingPart := rfl
@[simp] theorem setEngine_livePart (p : Nat) (x : Engine) : (d.setEngine p x).livePart = d.livePart := rfl
@[simp] theorem setEngine_faultsPart (p : Nat) (x : Engine) : (d.setEngine p x).faultsPart = d.faultsPart := rfl
@[simp] theorem setEngine_now (p : Nat) (x : Engine) : (d.setEngine p x).now = d.now := rfl
@[simp] theorem setEngine_get (p : Nat) (x : Engine) : (d.setEngine p x).get = d.get := rfl
@[simp] theorem setEngine_getB (p : Nat) (x : Engine) : (d.setEngine p x).getB = d.getB := rfl

/-! ### d.setWave -/
@[simp] theorem setWave_fresh (x : WaveSt) : (d.setWave x).fresh = d.fresh := rfl
@[simp] theorem setWave_out (x : WaveSt) : (d.setWave x).out = d.out := rfl
@[simp] theorem setWave_obj (x : WaveSt) : (d.setWave x).obj = d.obj := rfl
@[simp] theorem setWave_tim (x : WaveSt) : (d.setWave x).tim = d.tim := rfl
@[simp] theorem setWave_arch (x : WaveSt) : (d.setWave x).arch = d.arch := rfl
@[simp] theorem setWave_flt (x : WaveSt) : (d.setWave x).flt = d.flt := rfl
@[simp] theorem setWave_net (x : WaveSt) : (d.setWave x).net = d.net := rfl
@[simp] theorem setWave_host (x : WaveSt) : (d.setWave x).host = d.host := rfl
@[simp] theorem setWave_lan (x : WaveSt) : (d.setWave x).lan = d.lan := rfl
@[simp] theorem setWave_ecl (x : WaveSt) : (d.setWave x).ecl = d.ecl := rfl
@[simp] theorem setWave_rings (x : WaveSt) : (d.setWave x).rings = d.rings := rfl
@[simp] theorem setWave_ing (x : WaveSt) : (d.setWave x).ing = d.ing := rfl
@[simp] theorem setWave_tab (x : WaveSt) : (d.setWave x).tab = d.tab := rfl
@[simp] theorem setWave_eng (x : WaveSt) : (d.setWave x).eng = d.eng := rfl
@[simp] theorem setWave_pow (x : WaveSt) : (d.setWave x).pow = d.pow := rfl
@[simp] theorem setWave_spi (x : WaveSt) : (d.setWave x).spi = d.spi := rfl
@[simp] theorem setWave_dictPart (x : WaveSt) : (d.setWave x).dictPart = d.dictPart := rfl
@[simp] theorem setWave_accessPart (x : WaveSt) : (d.setWave x).accessPart = d.accessPart := rfl
@[simp] theorem setWave_flyingPart (x : WaveSt) : (d.setWave x).flyingPart = d.flyingPart := rfl
@[simp] theorem setWave_livePart (x : WaveSt) : (d.setWave x).livePart = d.livePart := rfl
@[simp] theorem setWave_faultsPart (x : WaveSt) : (d.setWave x).faultsPart = d.faultsPart := rfl
@[simp] theorem setWave_now (x : WaveSt) : (d.setWave x).now = d.now := rfl
@[simp] theorem setWave_get (x : WaveSt) : (d.setWave x).get = d.get := rfl
@[simp] theorem setWave_getB (x : WaveSt) : (d.setWave x).getB = d.getB := rfl

/-! ### d.setWchan -/
@[simp] theorem setWchan_fresh (p : Nat) (x : WChan) : (d.setWchan p x).fresh = d.fresh := rfl
@[simp] theorem setWchan_out (p : Nat) (x : WChan) : (d.setWchan p x).out = d.out := rfl
@[simp] theorem setWchan_obj (p : Nat) (x : WChan) : (d.setWchan p x).obj = d.obj := rfl
@[simp] theorem setWchan_tim (p : Nat) (x : WChan) : (d.setWchan p x).tim = d.tim := rfl
@[simp] theorem setWchan_arch (p : Nat) (x : WChan) : (d.setWchan p x).arch = d.arch := rfl
@[simp] theorem setWchan_flt (p : Nat) (x : WChan) : (d.setWchan p x).flt = d.flt := rfl
@[simp] theorem setWchan_net (p : Nat) (x : WChan) : (d.setWchan p x).net = d.net := rfl
@[simp] theorem setWchan_host (p : Nat) (x : WChan) : (d.setWchan p x).host = d.host := rfl
@[simp] theorem setWchan_lan (p : Nat) (x : WChan) : (d.setWchan p x).lan = d.lan := rfl
@[simp] theorem setWchan_ecl (p : Nat) (x : WChan) : (d.setWchan p x).ecl = d.ecl := rfl
@[simp] theorem setWchan_rings (p : Nat) (x : WChan) : (d.setWchan p x).rings = d.rings := rfl
@[simp] theorem setWchan_ing (p : Nat) (x : WChan) : (d.setWchan p x).ing = d.ing := rfl
@[simp] theorem setWchan_tab (p : Nat) (x : WChan) : (d.setWchan p x).tab = d.tab := rfl
@[simp] theorem setWchan_eng (p : Nat) (x : WChan) : (d.setWchan p x).eng = d.eng := rfl
@[simp] theorem setWchan_pow (p : Nat) (x : WChan) : (d.setWchan p x).pow = d.pow := rfl
@[simp] theorem setWchan_spi (p : Nat) (x : WChan) : (d.setWchan p x).spi = d.spi := rfl
@[simp] theorem setWchan_dictPart (p : Nat) (x : WChan) : (d.setWchan p x).dictPart = d.dictPart := rfl
@[simp] theorem setWchan_accessPart (p : Nat) (x : WChan) : (d.setWchan p x).accessPart = d.accessPart := rfl
@[simp] theorem setWchan_flyingPart (p : Nat) (x : WChan) : (d.setWchan p x).flyingPart = d.flyingPart := rfl
@[simp] theorem setWchan_livePart (p : Nat) (x : WChan) : (d.setWchan p x).livePart = d.livePart := rfl
@[simp] theorem setWchan_faultsPart (p : Nat) (x : WChan) : (d.setWchan p x).faultsPart = d.faultsPart := rfl
@[simp] theorem setWchan_now (p : Nat) (x : WChan) : (d.setWchan p x).now = d.now := rfl
@[simp] theorem setWchan_get (p : Nat) (x : WChan) : (d.setWchan p x).get = d.get := rfl
@[simp] theorem setWchan_getB (p : Nat) (x : WChan) : (d.setWchan p x).getB = d.getB := rfl

/-! ### d.setCapture -/
@[simp] theorem setCapture_fresh (p : Nat) (x : Capture) : (d.setCapture p x).fresh = d.fresh := rfl
@[simp] theorem setCapture_out (p : Nat) (x : Capture) : (d.setCapture p x).out = d.out := rfl
@[simp] theorem setCapture_obj (p : Nat) (x : Capture) : (d.setCapture p x).obj = d.obj := rfl
@[simp] theorem setCapture_tim (p : Nat) (x : Capture) : (d.setCapture p x).tim = d.tim := rfl
@[simp] theorem setCapture_arch (p : Nat) (x : Capture) : (d.setCapture p x).arch = d.arch := rfl
@[simp] theorem setCapture_flt (p : Nat) (x : Capture) : (d.setCapture p x).flt = d.flt := rfl
@[simp] theorem setCapture_net (p : Nat) (x : Capture) : (d.setCapture p x).net = d.net := rfl
@[simp] theorem setCapture_host (p : Nat) (x : Capture) : (d.setCapture p x).host = d.host := rfl
@[simp] theorem setCapture_lan (p : Nat) (x : Capture) : (d.setCapture p x).lan = d.lan := rfl
@[simp] theorem setCapture_ecl (p : Nat) (x : Capture) : (d.setCapture p x).ecl = d.ecl := rfl
@[simp] theorem setCapture_rings (p : Nat) (x : Capture) : (d.setCapture p x).rings = d.rings := rfl
@[simp] theorem setCapture_ing (p : Nat) (x : Capture) : (d.setCapture p x).ing = d.ing := rfl
@[simp] theorem setCapture_tab (p : Nat) (x : Capture) : (d.setCapture p x).tab = d.tab := rfl
@[simp] theorem setCapture_eng (p : Nat) (x : Capture) : (d.setCapture p x).eng = d.eng := rfl
@[simp] theorem setCapture_pow (p : Nat) (x : Capture) : (d.setCapture p x).pow = d.pow := rfl
@[simp] theorem setCapture_spi (p : Nat) (x : Capture) : (d.setCapture p x).spi = d.spi := rfl
@[simp] theorem setCapture_dictPart (p : Nat) (x : Capture) : (d.setCapture p x).dictPart = d.dictPart := rfl
@[simp] theorem setCapture_accessPart (p : Nat) (x : Capture) : (d.setCapture p x).accessPart = d.accessPart := rfl
@[simp] theorem setCapture_flyingPart (p : Nat) (x : Capture) : (d.setCapture p x).flyingPart = d.flyingPart := rfl
@[simp] theorem setCapture_livePart (p : Nat) (x : Capture) : (d.setCapture p x).livePart = d.livePart := rfl
@[simp] theorem setCapture_faultsPart (p : Nat) (x : Capture) : (d.setCapture p x).faultsPart = d.faultsPart := rfl
@[simp] theorem setCapture_now (p : Nat) (x : Capture) : (d.setCapture p x).now = d.now := rfl
@[simp] theorem setCapture_get (p : Nat) (x : Capture) : (d.setCapture p x).get = d.get := rfl
@[simp] theorem setCapture_getB (p : Nat) (x : Capture) : (d.setCapture p x).getB = d.getB := rfl

/-! ### d.setLine -/
@[simp] theorem setLine_fresh (p : Nat) (x : Line) : (d.setLine p x).fresh = d.fresh := rfl
@[simp] theorem setLine_out (p : Nat) (x : Line) : (d.setLine p x).out = d.out := rfl
@[simp] theorem setLine_obj (p : Nat) (x : Line) : (d.setLine p x).obj = d.obj := rfl
@[simp] theorem setLine_tim (p : Nat) (x : Line) : (d.setLine p x).tim = d.tim := rfl
@[simp] theorem setLine_arch (p : Nat) (x : Line) : (d.setLine p x).arch = d.arch := rfl
@[simp] theorem setLine_flt (p : Nat) (x : Line) : (d.setLine p x).flt = d.flt := rfl
@[simp] theorem setLine_net (p : Nat) (x : Line) : (d.setLine p x).net = d.net := rfl
@[simp] theorem setLine_host (p : Nat) (x : Line) : (d.setLine p x).host = d.host := rfl
@[simp] theorem setLine_lan (p : Nat) (x : Line) : (d.setLine p x).lan = d.lan := rfl
@[simp] theorem setLine_ecl (p : Nat) (x : Line) : (d.setLine p x).ecl = d.ecl := rfl
@[simp] theorem setLine_rings (p : Nat) (x : Line) : (d.setLine p x).rings = d.rings := rfl
@[simp] theorem setLine_ing (p : Nat) (x : Line) : (d.setLine p x).ing = d.ing := rfl
@[simp] theorem setLine_tab (p : Nat) (x : Line) : (d.setLine p x).tab = d.tab := rfl
@[simp] theorem setLine_eng (p : Nat) (x : Line) : (d.setLine p x).eng = d.eng := rfl
@[simp] theorem setLine_pow (p : Nat) (x : Line) : (d.setLine p x).pow = d.pow := rfl
@[simp] theorem setLine_spi (p : Nat) (x : Line) : (d.setLine p x).spi = d.spi := rfl
@[simp] theorem setLine_dictPart (p : Nat) (x : Line) : (d.setLine p x).dictPart = d.dictPart := rfl
@[simp] theorem setLine_accessPart (p : Nat) (x : Line) : (d.setLine p x).accessPart = d.accessPart := rfl
@[simp] theorem setLine_flyingPart (p : Nat) (x : Line) : (d.setLine p x).flyingPart = d.flyingPart := rfl
@[simp] theorem setLine_livePart (p : Nat) (x : Line) : (d.setLine p x).livePart = d.livePart := rfl
@[simp] theorem setLine_faultsPart (p : Nat) (x : Line) : (d.setLine p x).faultsPart = d.faultsPart := rfl
@[simp] theorem setLine_now (p : Nat) (x : Line) : (d.setLine p x).now = d.now := rfl
@[simp] theorem setLine_get (p : Nat) (x : Line) : (d.setLine p x).get = d.get := rfl
@[simp] theorem setLine_getB (p : Nat) (x : Line) : (d.setLine p x).getB = d.getB := rfl

/-! ### d.setPow -/
@[simp] theorem setPow_fresh (x : PowerSt) : (d.setPow x).fresh = d.fresh := rfl
@[simp] theorem setPow_out (x : PowerSt) : (d.setPow x).out = d.out := rfl
@[simp] theorem setPow_obj (x : PowerSt) : (d.setPow x).obj = d.obj := rfl
@[simp] theorem setPow_tim (x : PowerSt) : (d.setPow x).tim = d.tim := rfl
@[simp] theorem setPow_arch (x : PowerSt) : (d.setPow x).arch = d.arch := rfl
@[simp] theorem setPow_flt (x : PowerSt) : (d.setPow x).flt = d.flt := rfl
@[simp] theorem setPow_net (x : PowerSt) : (d.setPow x).net = d.net := rfl
@[simp] theorem setPow_host (x : PowerSt) : (d.setPow x).host = d.host := rfl
@[simp] theorem setPow_lan (x : PowerSt) : (d.setPow x).lan = d.lan := rfl
@[simp] theorem setPow_ecl (x : PowerSt) : (d.setPow x).ecl = d.ecl := rfl
@[simp] theorem setPow_rings (x : PowerSt) : (d.setPow x).rings = d.rings := rfl
@[simp] theorem setPow_ing (x : PowerSt) : (d.setPow x).ing = d.ing := rfl
@[simp] theorem setPow_tab (x : PowerSt) : (d.setPow x).tab = d.tab := rfl
@[simp] theorem setPow_eng (x : PowerSt) : (d.setPow x).eng = d.eng := rfl
@[simp] theorem setPow_wave (x : PowerSt) : (d.setPow x).wave = d.wave := rfl
@[simp] theorem setPow_spi (x : PowerSt) : (d.setPow x).spi = d.spi := rfl
@[simp] theorem setPow_dictPart (x : PowerSt) : (d.setPow x).dictPart = d.dictPart := rfl
@[simp] theorem setPow_accessPart (x : PowerSt) : (d.setPow x).accessPart = d.accessPart := rfl
@[simp] theorem setPow_flyingPart (x : PowerSt) : (d.setPow x).flyingPart = d.flyingPart := rfl
@[simp] theorem setPow_livePart (x : PowerSt) : (d.setPow x).livePart = d.livePart := rfl
@[simp] theorem setPow_faultsPart (x : PowerSt) : (d.setPow x).faultsPart = d.faultsPart := rfl
@[simp] theorem setPow_now (x : PowerSt) : (d.setPow x).now = d.now := rfl
@[simp] theorem setPow_get (x : PowerSt) : (d.setPow x).get = d.get := rfl
@[simp] theorem setPow_getB (x : PowerSt) : (d.setPow x).getB = d.getB := rfl

/-! ### d.setSlot -/
@[simp] theorem setSlot_fresh (k : Nat) (x : Slot) : (d.setSlot k x).fresh = d.fresh := rfl
@[simp] theorem setSlot_out (k : Nat) (x : Slot) : (d.setSlot k x).out = d.out := rfl
@[simp] theorem setSlot_tim (k : Nat) (x : Slot) : (d.setSlot k x).tim = d.tim := rfl
@[simp] theorem setSlot_arch (k : Nat) (x : Slot) : (d.setSlot k x).arch = d.arch := rfl
@[simp] theorem setSlot_flt (k : Nat) (x : Slot) : (d.setSlot k x).flt = d.flt := rfl
@[simp] theorem setSlot_net (k : Nat) (x : Slot) : (d.setSlot k x).net = d.net := rfl
@[simp] theorem setSlot_host (k : Nat) (x : Slot) : (d.setSlot k x).host = d.host := rfl
@[simp] theorem setSlot_lan (k : Nat) (x : Slot) : (d.setSlot k x).lan = d.lan := rfl
@[simp] theorem setSlot_ecl (k : Nat) (x : Slot) : (d.setSlot k x).ecl = d.ecl := rfl
@[simp] theorem setSlot_rings (k : Nat) (x : Slot) : (d.setSlot k x).rings = d.rings := rfl
@[simp] theorem setSlot_ing (k : Nat) (x : Slot) : (d.setSlot k x).ing = d.ing := rfl
@[simp] theorem setSlot_tab (k : Nat) (x : Slot) : (d.setSlot k x).tab = d.tab := rfl
@[simp] theorem setSlot_eng (k : Nat) (x : Slot) : (d.setSlot k x).eng = d.eng := rfl
@[simp] theorem setSlot_wave (k : Nat) (x : Slot) : (d.setSlot k x).wave = d.wave := rfl
@[simp] theorem setSlot_pow (k : Nat) (x : Slot) : (d.setSlot k x).pow = d.pow := rfl
@[simp] theorem setSlot_spi (k : Nat) (x : Slot) : (d.setSlot k x).spi = d.spi := rfl
@[simp] theorem setSlot_dictPart (k : Nat) (x : Slot) : (d.setSlot k x).dictPart = d.dictPart := rfl
@[simp] theorem setSlot_flyingPart (k : Nat) (x : Slot) : (d.setSlot k x).flyingPart = d.flyingPart := rfl
@[simp] theorem setSlot_livePart (k : Nat) (x : Slot) : (d.setSlot k x).livePart = d.livePart := rfl
@[simp] theorem setSlot_faultsPart (k : Nat) (x : Slot) : (d.setSlot k x).faultsPart = d.faultsPart := rfl
@[simp] theorem setSlot_now (k : Nat) (x : Slot) : (d.setSlot k x).now = d.now := rfl

/-! ### d.setMbx -/
@[simp] theorem setMbx_fresh (k : Nat) (x : Mailbox) : (d.setMbx k x).fresh = d.fresh := rfl
@[simp] theorem setMbx_out (k : Nat) (x : Mailbox) : (d.setMbx k x).out = d.out := rfl
@[simp] theorem setMbx_tim (k : Nat) (x : Mailbox) : (d.setMbx k x).tim = d.tim := rfl
@[simp] theorem setMbx_arch (k : Nat) (x : Mailbox) : (d.setMbx k x).arch = d.arch := rfl
@[simp] theorem setMbx_flt (k : Nat) (x : Mailbox) : (d.setMbx k x).flt = d.flt := rfl
@[simp] theorem setMbx_net (k : Nat) (x : Mailbox) : (d.setMbx k x).net = d.net := rfl
@[simp] theorem setMbx_host (k : Nat) (x : Mailbox) : (d.setMbx k x).host = d.host := rfl
@[simp] theorem setMbx_lan (k : Nat) (x : Mailbox) : (d.setMbx k x).lan = d.lan := rfl
@[simp] theorem setMbx_ecl (k : Nat) (x : Mailbox) : (d.setMbx k x).ecl = d.ecl := rfl
@[simp] theorem setMbx_rings (k : Nat) (x : Mailbox) : (d.setMbx k x).rings = d.rings := rfl
@[simp] theorem setMbx_ing (k : Nat) (x : Mailbox) : (d.setMbx k x).ing = d.ing := rfl
@[simp] theorem setMbx_tab (k : Nat) (x : Mailbox) : (d.setMbx k x).tab = d.tab := rfl
@[simp] theorem setMbx_eng (k : Nat) (x : Mailbox) : (d.setMbx k x).eng = d.eng := rfl
@[simp] theorem setMbx_wave (k : Nat) (x : Mailbox) : (d.setMbx k x).wave = d.wave := rfl
@[simp] theorem setMbx_pow (k : Nat) (x : Mailbox) : (d.setMbx k x).pow = d.pow := rfl
@[simp] theorem setMbx_spi (k : Nat) (x : Mailbox) : (d.setMbx k x).spi = d.spi := rfl
@[simp] theorem setMbx_dictPart (k : Nat) (x : Mailbox) : (d.setMbx k x).dictPart = d.dictPart := rfl
@[simp] theorem setMbx_flyingPart (k : Nat) (x : Mailbox) : (d.setMbx k x).flyingPart = d.flyingPart := rfl
@[simp] theorem setMbx_livePart (k : Nat) (x : Mailbox) : (d.setMbx k x).livePart = d.livePart := rfl
@[simp] theorem setMbx_faultsPart (k : Nat) (x : Mailbox) : (d.setMbx k x).faultsPart = d.faultsPart := rfl
@[simp] theorem setMbx_now (k : Nat) (x : Mailbox) : (d.setMbx k x).now = d.now := rfl

/-! ### Reads of the numbered parts after a write -/
@[simp] theorem setRep_rep_same (k : Nat) (x : Replica) : (d.setRep k x).rep k = x := tget_tput_same _ _ _ _
theorem setRep_rep_ne {k m : Nat} (x : Replica) (h : m ≠ k) : (d.setRep k x).rep m = d.rep m := tget_tput_ne _ _ _ _ h
@[simp] theorem put_rep (o e v : Nat) : (d.put o e v).rep = d.rep := rfl
@[simp] theorem putB_rep (o e : Nat) (v : List Byte) : (d.putB o e v).rep = d.rep := rfl
@[simp] theorem putSh_rep (o e v : Nat) : (d.putSh o e v).rep = d.rep := rfl
@[simp] theorem putShB_rep (o e : Nat) (v : List Byte) : (d.putShB o e v).rep = d.rep := rfl
@[simp] theorem puti_rep (o e : Nat) (v : Int) : (d.puti o e v).rep = d.rep := rfl
@[simp] theorem add_rep (o e n : Nat) : (d.add o e n).rep = d.rep := rfl
@[simp] theorem inc_rep (o e : Nat) : (d.inc o e).rep = d.rep := rfl
@[simp] theorem raiseAt_rep (t a b c x : Nat) : (d.raiseAt t a b c x).rep = d.rep := rfl
@[simp] theorem raise_rep (a b c x : Nat) : (d.raise a b c x).rep = d.rep := rfl
@[simp] theorem setLive_rep (a b : Nat) (v : Bool) : (d.setLive a b v).rep = d.rep := rfl
@[simp] theorem emit_rep (x : Out) : (d.emit x).rep = d.rep := rfl
@[simp] theorem at_rep (t : Nat) : (d.at_ t).rep = d.rep := rfl
@[simp] theorem setObj_rep (x : ObjSt) : (d.setObj x).rep = d.rep := rfl
@[simp] theorem setTim_rep (x : TimeSt) : (d.setTim x).rep = d.rep := rfl
@[simp] theorem updTk_rep (k : TkId) (f : Tk → Tk) : (d.updTk k f).rep = d.rep := rfl
@[simp] theorem setRef_rep (r : Nat) (x : RefRun) : (d.setRef r x).rep = d.rep := rfl
@[simp] theorem setTether_rep (r : Nat) (x : TetherRep) : (d.setTether r x).rep = d.rep := rfl
@[simp] theorem setLink_rep (r : Nat) (x : D2d) : (d.setLink r x).rep = d.rep := rfl
@[simp] theorem setFlt_rep (x : FaultSt) : (d.setFlt x).rep = d.rep := rfl
@[simp] theorem setNet_rep (x : NetSt) : (d.setNet x).rep = d.rep := rfl
@[simp] theorem setPtp_rep (i p : Nat) (x : PtpPort) : (d.setPtp i p x).rep = d.rep := rfl
@[simp] theorem setTsq_rep (p : Nat) (x : Tsq) : (d.setTsq p x).rep = d.rep := rfl
@[simp] theorem setHost_rep (x : HostSt) : (d.setHost x).rep = d.rep := rfl
@[simp] theorem setPcie_rep (x : PcieSt) : (d.setPcie x).rep = d.rep := rfl
@[simp] theorem setQueue_rep (q : Nat) (x : Queue) : (d.setQueue q x).rep = d.rep := rfl
@[simp] theorem setLan_rep (x : LanSt) : (d.setLan x).rep = d.rep := rfl
@[simp] theorem setPort_rep (p : Nat) (x : PortSt) : (d.setPort p x).rep = d.rep := rfl
@[simp] theorem setSession_rep (p : Nat) (x : Session) : (d.setSession p x).rep = d.rep := rfl
@[simp] theorem setEcl_rep (x : EclSt) : (d.setEcl x).rep = d.rep := rfl
@[simp] theorem setFn_rep (p : Nat) (x : RecFn) : (d.setFn p x).rep = d.rep := rfl
@[simp] theorem setPair_rep (p : Nat) (x : Pair) : (d.setPair p x).rep = d.rep := rfl
@[simp] theorem setRing_rep (p : Nat) (x : Ring) : (d.setRing p x).rep = d.rep := rfl
@[simp] theorem setIng_rep (x : IngestSt) : (d.setIng x).rep = d.rep := rfl
@[simp] theorem setPmu_rep (p : Nat) (x : PmuRun) : (d.setPmu p x).rep = d.rep := rfl
@[simp] theorem setTab_rep (x : TableSt) : (d.setTab x).rep = d.rep := rfl
@[simp] theorem setRegion_rep (p : Nat) (x : Region) : (d.setRegion p x).rep = d.rep := rfl
@[simp] theorem setRec_rep (p : Nat) (x : SigRec) : (d.setRec p x).rep = d.rep := rfl
@[simp] theorem setEng_rep (x : EngSt) : (d.setEng x).rep = d.rep := rfl
@[simp] theorem setKslot_rep (p : Nat) (x : KSlot) : (d.setKslot p x).rep = d.rep := rfl
@[simp] theorem setBind_rep (p : Nat) (x : BindRun) : (d.setBind p x).rep = d.rep := rfl
@[simp] theorem setEngine_rep (p : Nat) (x : Engine) : (d.setEngine p x).rep = d.rep := rfl
@[simp] theorem setWave_rep (x : WaveSt) : (d.setWave x).rep = d.rep := rfl
@[simp] theorem setWchan_rep (p : Nat) (x : WChan) : (d.setWchan p x).rep = d.rep := rfl
@[simp] theorem setCapture_rep (p : Nat) (x : Capture) : (d.setCapture p x).rep = d.rep := rfl
@[simp] theorem setLine_rep (p : Nat) (x : Line) : (d.setLine p x).rep = d.rep := rfl
@[simp] theorem setPow_rep (x : PowerSt) : (d.setPow x).rep = d.rep := rfl
@[simp] theorem setSlot_rep (k : Nat) (x : Slot) : (d.setSlot k x).rep = d.rep := rfl
@[simp] theorem setMbx_rep (k : Nat) (x : Mailbox) : (d.setMbx k x).rep = d.rep := rfl
@[simp] theorem setTether_tether_same (k : Nat) (x : TetherRep) : (d.setTether k x).tether k = x := tget_tput_same _ _ _ _
theorem setTether_tether_ne {k m : Nat} (x : TetherRep) (h : m ≠ k) : (d.setTether k x).tether m = d.tether m := tget_tput_ne _ _ _ _ h
@[simp] theorem put_tether (o e v : Nat) : (d.put o e v).tether = d.tether := rfl
@[simp] theorem putB_tether (o e : Nat) (v : List Byte) : (d.putB o e v).tether = d.tether := rfl
@[simp] theorem putSh_tether (o e v : Nat) : (d.putSh o e v).tether = d.tether := rfl
@[simp] theorem putShB_tether (o e : Nat) (v : List Byte) : (d.putShB o e v).tether = d.tether := rfl
@[simp] theorem puti_tether (o e : Nat) (v : Int) : (d.puti o e v).tether = d.tether := rfl
@[simp] theorem add_tether (o e n : Nat) : (d.add o e n).tether = d.tether := rfl
@[simp] theorem inc_tether (o e : Nat) : (d.inc o e).tether = d.tether := rfl
@[simp] theorem raiseAt_tether (t a b c x : Nat) : (d.raiseAt t a b c x).tether = d.tether := rfl
@[simp] theorem raise_tether (a b c x : Nat) : (d.raise a b c x).tether = d.tether := rfl
@[simp] theorem setLive_tether (a b : Nat) (v : Bool) : (d.setLive a b v).tether = d.tether := rfl
@[simp] theorem emit_tether (x : Out) : (d.emit x).tether = d.tether := rfl
@[simp] theorem at_tether (t : Nat) : (d.at_ t).tether = d.tether := rfl
@[simp] theorem setObj_tether (x : ObjSt) : (d.setObj x).tether = d.tether := rfl
@[simp] theorem setTim_tether (x : TimeSt) : (d.setTim x).tether = d.tether := rfl
@[simp] theorem updTk_tether (k : TkId) (f : Tk → Tk) : (d.updTk k f).tether = d.tether := rfl
@[simp] theorem setRef_tether (r : Nat) (x : RefRun) : (d.setRef r x).tether = d.tether := rfl
@[simp] theorem setRep_tether (r : Nat) (x : Replica) : (d.setRep r x).tether = d.tether := rfl
@[simp] theorem setLink_tether (r : Nat) (x : D2d) : (d.setLink r x).tether = d.tether := rfl
@[simp] theorem setFlt_tether (x : FaultSt) : (d.setFlt x).tether = d.tether := rfl
@[simp] theorem setNet_tether (x : NetSt) : (d.setNet x).tether = d.tether := rfl
@[simp] theorem setPtp_tether (i p : Nat) (x : PtpPort) : (d.setPtp i p x).tether = d.tether := rfl
@[simp] theorem setTsq_tether (p : Nat) (x : Tsq) : (d.setTsq p x).tether = d.tether := rfl
@[simp] theorem setHost_tether (x : HostSt) : (d.setHost x).tether = d.tether := rfl
@[simp] theorem setPcie_tether (x : PcieSt) : (d.setPcie x).tether = d.tether := rfl
@[simp] theorem setQueue_tether (q : Nat) (x : Queue) : (d.setQueue q x).tether = d.tether := rfl
@[simp] theorem setLan_tether (x : LanSt) : (d.setLan x).tether = d.tether := rfl
@[simp] theorem setPort_tether (p : Nat) (x : PortSt) : (d.setPort p x).tether = d.tether := rfl
@[simp] theorem setSession_tether (p : Nat) (x : Session) : (d.setSession p x).tether = d.tether := rfl
@[simp] theorem setEcl_tether (x : EclSt) : (d.setEcl x).tether = d.tether := rfl
@[simp] theorem setFn_tether (p : Nat) (x : RecFn) : (d.setFn p x).tether = d.tether := rfl
@[simp] theorem setPair_tether (p : Nat) (x : Pair) : (d.setPair p x).tether = d.tether := rfl
@[simp] theorem setRing_tether (p : Nat) (x : Ring) : (d.setRing p x).tether = d.tether := rfl
@[simp] theorem setIng_tether (x : IngestSt) : (d.setIng x).tether = d.tether := rfl
@[simp] theorem setPmu_tether (p : Nat) (x : PmuRun) : (d.setPmu p x).tether = d.tether := rfl
@[simp] theorem setTab_tether (x : TableSt) : (d.setTab x).tether = d.tether := rfl
@[simp] theorem setRegion_tether (p : Nat) (x : Region) : (d.setRegion p x).tether = d.tether := rfl
@[simp] theorem setRec_tether (p : Nat) (x : SigRec) : (d.setRec p x).tether = d.tether := rfl
@[simp] theorem setEng_tether (x : EngSt) : (d.setEng x).tether = d.tether := rfl
@[simp] theorem setKslot_tether (p : Nat) (x : KSlot) : (d.setKslot p x).tether = d.tether := rfl
@[simp] theorem setBind_tether (p : Nat) (x : BindRun) : (d.setBind p x).tether = d.tether := rfl
@[simp] theorem setEngine_tether (p : Nat) (x : Engine) : (d.setEngine p x).tether = d.tether := rfl
@[simp] theorem setWave_tether (x : WaveSt) : (d.setWave x).tether = d.tether := rfl
@[simp] theorem setWchan_tether (p : Nat) (x : WChan) : (d.setWchan p x).tether = d.tether := rfl
@[simp] theorem setCapture_tether (p : Nat) (x : Capture) : (d.setCapture p x).tether = d.tether := rfl
@[simp] theorem setLine_tether (p : Nat) (x : Line) : (d.setLine p x).tether = d.tether := rfl
@[simp] theorem setPow_tether (x : PowerSt) : (d.setPow x).tether = d.tether := rfl
@[simp] theorem setSlot_tether (k : Nat) (x : Slot) : (d.setSlot k x).tether = d.tether := rfl
@[simp] theorem setMbx_tether (k : Nat) (x : Mailbox) : (d.setMbx k x).tether = d.tether := rfl
@[simp] theorem setLink_link_same (k : Nat) (x : D2d) : (d.setLink k x).link k = x := tget_tput_same _ _ _ _
theorem setLink_link_ne {k m : Nat} (x : D2d) (h : m ≠ k) : (d.setLink k x).link m = d.link m := tget_tput_ne _ _ _ _ h
@[simp] theorem put_link (o e v : Nat) : (d.put o e v).link = d.link := rfl
@[simp] theorem putB_link (o e : Nat) (v : List Byte) : (d.putB o e v).link = d.link := rfl
@[simp] theorem putSh_link (o e v : Nat) : (d.putSh o e v).link = d.link := rfl
@[simp] theorem putShB_link (o e : Nat) (v : List Byte) : (d.putShB o e v).link = d.link := rfl
@[simp] theorem puti_link (o e : Nat) (v : Int) : (d.puti o e v).link = d.link := rfl
@[simp] theorem add_link (o e n : Nat) : (d.add o e n).link = d.link := rfl
@[simp] theorem inc_link (o e : Nat) : (d.inc o e).link = d.link := rfl
@[simp] theorem raiseAt_link (t a b c x : Nat) : (d.raiseAt t a b c x).link = d.link := rfl
@[simp] theorem raise_link (a b c x : Nat) : (d.raise a b c x).link = d.link := rfl
@[simp] theorem setLive_link (a b : Nat) (v : Bool) : (d.setLive a b v).link = d.link := rfl
@[simp] theorem emit_link (x : Out) : (d.emit x).link = d.link := rfl
@[simp] theorem at_link (t : Nat) : (d.at_ t).link = d.link := rfl
@[simp] theorem setObj_link (x : ObjSt) : (d.setObj x).link = d.link := rfl
@[simp] theorem setTim_link (x : TimeSt) : (d.setTim x).link = d.link := rfl
@[simp] theorem updTk_link (k : TkId) (f : Tk → Tk) : (d.updTk k f).link = d.link := rfl
@[simp] theorem setRef_link (r : Nat) (x : RefRun) : (d.setRef r x).link = d.link := rfl
@[simp] theorem setRep_link (r : Nat) (x : Replica) : (d.setRep r x).link = d.link := rfl
@[simp] theorem setTether_link (r : Nat) (x : TetherRep) : (d.setTether r x).link = d.link := rfl
@[simp] theorem setFlt_link (x : FaultSt) : (d.setFlt x).link = d.link := rfl
@[simp] theorem setNet_link (x : NetSt) : (d.setNet x).link = d.link := rfl
@[simp] theorem setPtp_link (i p : Nat) (x : PtpPort) : (d.setPtp i p x).link = d.link := rfl
@[simp] theorem setTsq_link (p : Nat) (x : Tsq) : (d.setTsq p x).link = d.link := rfl
@[simp] theorem setHost_link (x : HostSt) : (d.setHost x).link = d.link := rfl
@[simp] theorem setPcie_link (x : PcieSt) : (d.setPcie x).link = d.link := rfl
@[simp] theorem setQueue_link (q : Nat) (x : Queue) : (d.setQueue q x).link = d.link := rfl
@[simp] theorem setLan_link (x : LanSt) : (d.setLan x).link = d.link := rfl
@[simp] theorem setPort_link (p : Nat) (x : PortSt) : (d.setPort p x).link = d.link := rfl
@[simp] theorem setSession_link (p : Nat) (x : Session) : (d.setSession p x).link = d.link := rfl
@[simp] theorem setEcl_link (x : EclSt) : (d.setEcl x).link = d.link := rfl
@[simp] theorem setFn_link (p : Nat) (x : RecFn) : (d.setFn p x).link = d.link := rfl
@[simp] theorem setPair_link (p : Nat) (x : Pair) : (d.setPair p x).link = d.link := rfl
@[simp] theorem setRing_link (p : Nat) (x : Ring) : (d.setRing p x).link = d.link := rfl
@[simp] theorem setIng_link (x : IngestSt) : (d.setIng x).link = d.link := rfl
@[simp] theorem setPmu_link (p : Nat) (x : PmuRun) : (d.setPmu p x).link = d.link := rfl
@[simp] theorem setTab_link (x : TableSt) : (d.setTab x).link = d.link := rfl
@[simp] theorem setRegion_link (p : Nat) (x : Region) : (d.setRegion p x).link = d.link := rfl
@[simp] theorem setRec_link (p : Nat) (x : SigRec) : (d.setRec p x).link = d.link := rfl
@[simp] theorem setEng_link (x : EngSt) : (d.setEng x).link = d.link := rfl
@[simp] theorem setKslot_link (p : Nat) (x : KSlot) : (d.setKslot p x).link = d.link := rfl
@[simp] theorem setBind_link (p : Nat) (x : BindRun) : (d.setBind p x).link = d.link := rfl
@[simp] theorem setEngine_link (p : Nat) (x : Engine) : (d.setEngine p x).link = d.link := rfl
@[simp] theorem setWave_link (x : WaveSt) : (d.setWave x).link = d.link := rfl
@[simp] theorem setWchan_link (p : Nat) (x : WChan) : (d.setWchan p x).link = d.link := rfl
@[simp] theorem setCapture_link (p : Nat) (x : Capture) : (d.setCapture p x).link = d.link := rfl
@[simp] theorem setLine_link (p : Nat) (x : Line) : (d.setLine p x).link = d.link := rfl
@[simp] theorem setPow_link (x : PowerSt) : (d.setPow x).link = d.link := rfl
@[simp] theorem setSlot_link (k : Nat) (x : Slot) : (d.setSlot k x).link = d.link := rfl
@[simp] theorem setMbx_link (k : Nat) (x : Mailbox) : (d.setMbx k x).link = d.link := rfl
@[simp] theorem setSlot_slot_same (k : Nat) (x : Slot) : (d.setSlot k x).slot k = x := tget_tput_same _ _ _ _
theorem setSlot_slot_ne {k m : Nat} (x : Slot) (h : m ≠ k) : (d.setSlot k x).slot m = d.slot m := tget_tput_ne _ _ _ _ h
@[simp] theorem put_slot (o e v : Nat) : (d.put o e v).slot = d.slot := rfl
@[simp] theorem putB_slot (o e : Nat) (v : List Byte) : (d.putB o e v).slot = d.slot := rfl
@[simp] theorem putSh_slot (o e v : Nat) : (d.putSh o e v).slot = d.slot := rfl
@[simp] theorem putShB_slot (o e : Nat) (v : List Byte) : (d.putShB o e v).slot = d.slot := rfl
@[simp] theorem puti_slot (o e : Nat) (v : Int) : (d.puti o e v).slot = d.slot := rfl
@[simp] theorem add_slot (o e n : Nat) : (d.add o e n).slot = d.slot := rfl
@[simp] theorem inc_slot (o e : Nat) : (d.inc o e).slot = d.slot := rfl
@[simp] theorem raiseAt_slot (t a b c x : Nat) : (d.raiseAt t a b c x).slot = d.slot := rfl
@[simp] theorem raise_slot (a b c x : Nat) : (d.raise a b c x).slot = d.slot := rfl
@[simp] theorem setLive_slot (a b : Nat) (v : Bool) : (d.setLive a b v).slot = d.slot := rfl
@[simp] theorem emit_slot (x : Out) : (d.emit x).slot = d.slot := rfl
@[simp] theorem at_slot (t : Nat) : (d.at_ t).slot = d.slot := rfl
@[simp] theorem setTim_slot (x : TimeSt) : (d.setTim x).slot = d.slot := rfl
@[simp] theorem updTk_slot (k : TkId) (f : Tk → Tk) : (d.updTk k f).slot = d.slot := rfl
@[simp] theorem setRef_slot (r : Nat) (x : RefRun) : (d.setRef r x).slot = d.slot := rfl
@[simp] theorem setRep_slot (r : Nat) (x : Replica) : (d.setRep r x).slot = d.slot := rfl
@[simp] theorem setTether_slot (r : Nat) (x : TetherRep) : (d.setTether r x).slot = d.slot := rfl
@[simp] theorem setLink_slot (r : Nat) (x : D2d) : (d.setLink r x).slot = d.slot := rfl
@[simp] theorem setFlt_slot (x : FaultSt) : (d.setFlt x).slot = d.slot := rfl
@[simp] theorem setNet_slot (x : NetSt) : (d.setNet x).slot = d.slot := rfl
@[simp] theorem setPtp_slot (i p : Nat) (x : PtpPort) : (d.setPtp i p x).slot = d.slot := rfl
@[simp] theorem setTsq_slot (p : Nat) (x : Tsq) : (d.setTsq p x).slot = d.slot := rfl
@[simp] theorem setHost_slot (x : HostSt) : (d.setHost x).slot = d.slot := rfl
@[simp] theorem setPcie_slot (x : PcieSt) : (d.setPcie x).slot = d.slot := rfl
@[simp] theorem setQueue_slot (q : Nat) (x : Queue) : (d.setQueue q x).slot = d.slot := rfl
@[simp] theorem setLan_slot (x : LanSt) : (d.setLan x).slot = d.slot := rfl
@[simp] theorem setPort_slot (p : Nat) (x : PortSt) : (d.setPort p x).slot = d.slot := rfl
@[simp] theorem setSession_slot (p : Nat) (x : Session) : (d.setSession p x).slot = d.slot := rfl
@[simp] theorem setEcl_slot (x : EclSt) : (d.setEcl x).slot = d.slot := rfl
@[simp] theorem setFn_slot (p : Nat) (x : RecFn) : (d.setFn p x).slot = d.slot := rfl
@[simp] theorem setPair_slot (p : Nat) (x : Pair) : (d.setPair p x).slot = d.slot := rfl
@[simp] theorem setRing_slot (p : Nat) (x : Ring) : (d.setRing p x).slot = d.slot := rfl
@[simp] theorem setIng_slot (x : IngestSt) : (d.setIng x).slot = d.slot := rfl
@[simp] theorem setPmu_slot (p : Nat) (x : PmuRun) : (d.setPmu p x).slot = d.slot := rfl
@[simp] theorem setTab_slot (x : TableSt) : (d.setTab x).slot = d.slot := rfl
@[simp] theorem setRegion_slot (p : Nat) (x : Region) : (d.setRegion p x).slot = d.slot := rfl
@[simp] theorem setRec_slot (p : Nat) (x : SigRec) : (d.setRec p x).slot = d.slot := rfl
@[simp] theorem setEng_slot (x : EngSt) : (d.setEng x).slot = d.slot := rfl
@[simp] theorem setKslot_slot (p : Nat) (x : KSlot) : (d.setKslot p x).slot = d.slot := rfl
@[simp] theorem setBind_slot (p : Nat) (x : BindRun) : (d.setBind p x).slot = d.slot := rfl
@[simp] theorem setEngine_slot (p : Nat) (x : Engine) : (d.setEngine p x).slot = d.slot := rfl
@[simp] theorem setWave_slot (x : WaveSt) : (d.setWave x).slot = d.slot := rfl
@[simp] theorem setWchan_slot (p : Nat) (x : WChan) : (d.setWchan p x).slot = d.slot := rfl
@[simp] theorem setCapture_slot (p : Nat) (x : Capture) : (d.setCapture p x).slot = d.slot := rfl
@[simp] theorem setLine_slot (p : Nat) (x : Line) : (d.setLine p x).slot = d.slot := rfl
@[simp] theorem setPow_slot (x : PowerSt) : (d.setPow x).slot = d.slot := rfl
@[simp] theorem setMbx_slot (k : Nat) (x : Mailbox) : (d.setMbx k x).slot = d.slot := rfl
@[simp] theorem setPort_port_same (k : Nat) (x : PortSt) : (d.setPort k x).port k = x := tget_tput_same _ _ _ _
theorem setPort_port_ne {k m : Nat} (x : PortSt) (h : m ≠ k) : (d.setPort k x).port m = d.port m := tget_tput_ne _ _ _ _ h
@[simp] theorem put_port (o e v : Nat) : (d.put o e v).port = d.port := rfl
@[simp] theorem putB_port (o e : Nat) (v : List Byte) : (d.putB o e v).port = d.port := rfl
@[simp] theorem putSh_port (o e v : Nat) : (d.putSh o e v).port = d.port := rfl
@[simp] theorem putShB_port (o e : Nat) (v : List Byte) : (d.putShB o e v).port = d.port := rfl
@[simp] theorem puti_port (o e : Nat) (v : Int) : (d.puti o e v).port = d.port := rfl
@[simp] theorem add_port (o e n : Nat) : (d.add o e n).port = d.port := rfl
@[simp] theorem inc_port (o e : Nat) : (d.inc o e).port = d.port := rfl
@[simp] theorem raiseAt_port (t a b c x : Nat) : (d.raiseAt t a b c x).port = d.port := rfl
@[simp] theorem raise_port (a b c x : Nat) : (d.raise a b c x).port = d.port := rfl
@[simp] theorem setLive_port (a b : Nat) (v : Bool) : (d.setLive a b v).port = d.port := rfl
@[simp] theorem emit_port (x : Out) : (d.emit x).port = d.port := rfl
@[simp] theorem at_port (t : Nat) : (d.at_ t).port = d.port := rfl
@[simp] theorem setObj_port (x : ObjSt) : (d.setObj x).port = d.port := rfl
@[simp] theorem setTim_port (x : TimeSt) : (d.setTim x).port = d.port := rfl
@[simp] theorem updTk_port (k : TkId) (f : Tk → Tk) : (d.updTk k f).port = d.port := rfl
@[simp] theorem setRef_port (r : Nat) (x : RefRun) : (d.setRef r x).port = d.port := rfl
@[simp] theorem setRep_port (r : Nat) (x : Replica) : (d.setRep r x).port = d.port := rfl
@[simp] theorem setTether_port (r : Nat) (x : TetherRep) : (d.setTether r x).port = d.port := rfl
@[simp] theorem setLink_port (r : Nat) (x : D2d) : (d.setLink r x).port = d.port := rfl
@[simp] theorem setFlt_port (x : FaultSt) : (d.setFlt x).port = d.port := rfl
@[simp] theorem setNet_port (x : NetSt) : (d.setNet x).port = d.port := rfl
@[simp] theorem setPtp_port (i p : Nat) (x : PtpPort) : (d.setPtp i p x).port = d.port := rfl
@[simp] theorem setTsq_port (p : Nat) (x : Tsq) : (d.setTsq p x).port = d.port := rfl
@[simp] theorem setHost_port (x : HostSt) : (d.setHost x).port = d.port := rfl
@[simp] theorem setPcie_port (x : PcieSt) : (d.setPcie x).port = d.port := rfl
@[simp] theorem setQueue_port (q : Nat) (x : Queue) : (d.setQueue q x).port = d.port := rfl
@[simp] theorem setSession_port (p : Nat) (x : Session) : (d.setSession p x).port = d.port := rfl
@[simp] theorem setEcl_port (x : EclSt) : (d.setEcl x).port = d.port := rfl
@[simp] theorem setFn_port (p : Nat) (x : RecFn) : (d.setFn p x).port = d.port := rfl
@[simp] theorem setPair_port (p : Nat) (x : Pair) : (d.setPair p x).port = d.port := rfl
@[simp] theorem setRing_port (p : Nat) (x : Ring) : (d.setRing p x).port = d.port := rfl
@[simp] theorem setIng_port (x : IngestSt) : (d.setIng x).port = d.port := rfl
@[simp] theorem setPmu_port (p : Nat) (x : PmuRun) : (d.setPmu p x).port = d.port := rfl
@[simp] theorem setTab_port (x : TableSt) : (d.setTab x).port = d.port := rfl
@[simp] theorem setRegion_port (p : Nat) (x : Region) : (d.setRegion p x).port = d.port := rfl
@[simp] theorem setRec_port (p : Nat) (x : SigRec) : (d.setRec p x).port = d.port := rfl
@[simp] theorem setEng_port (x : EngSt) : (d.setEng x).port = d.port := rfl
@[simp] theorem setKslot_port (p : Nat) (x : KSlot) : (d.setKslot p x).port = d.port := rfl
@[simp] theorem setBind_port (p : Nat) (x : BindRun) : (d.setBind p x).port = d.port := rfl
@[simp] theorem setEngine_port (p : Nat) (x : Engine) : (d.setEngine p x).port = d.port := rfl
@[simp] theorem setWave_port (x : WaveSt) : (d.setWave x).port = d.port := rfl
@[simp] theorem setWchan_port (p : Nat) (x : WChan) : (d.setWchan p x).port = d.port := rfl
@[simp] theorem setCapture_port (p : Nat) (x : Capture) : (d.setCapture p x).port = d.port := rfl
@[simp] theorem setLine_port (p : Nat) (x : Line) : (d.setLine p x).port = d.port := rfl
@[simp] theorem setPow_port (x : PowerSt) : (d.setPow x).port = d.port := rfl
@[simp] theorem setSlot_port (k : Nat) (x : Slot) : (d.setSlot k x).port = d.port := rfl
@[simp] theorem setMbx_port (k : Nat) (x : Mailbox) : (d.setMbx k x).port = d.port := rfl
@[simp] theorem setSession_session_same (k : Nat) (x : Session) : (d.setSession k x).session k = x := tget_tput_same _ _ _ _
theorem setSession_session_ne {k m : Nat} (x : Session) (h : m ≠ k) : (d.setSession k x).session m = d.session m := tget_tput_ne _ _ _ _ h
@[simp] theorem put_session (o e v : Nat) : (d.put o e v).session = d.session := rfl
@[simp] theorem putB_session (o e : Nat) (v : List Byte) : (d.putB o e v).session = d.session := rfl
@[simp] theorem putSh_session (o e v : Nat) : (d.putSh o e v).session = d.session := rfl
@[simp] theorem putShB_session (o e : Nat) (v : List Byte) : (d.putShB o e v).session = d.session := rfl
@[simp] theorem puti_session (o e : Nat) (v : Int) : (d.puti o e v).session = d.session := rfl
@[simp] theorem add_session (o e n : Nat) : (d.add o e n).session = d.session := rfl
@[simp] theorem inc_session (o e : Nat) : (d.inc o e).session = d.session := rfl
@[simp] theorem raiseAt_session (t a b c x : Nat) : (d.raiseAt t a b c x).session = d.session := rfl
@[simp] theorem raise_session (a b c x : Nat) : (d.raise a b c x).session = d.session := rfl
@[simp] theorem setLive_session (a b : Nat) (v : Bool) : (d.setLive a b v).session = d.session := rfl
@[simp] theorem emit_session (x : Out) : (d.emit x).session = d.session := rfl
@[simp] theorem at_session (t : Nat) : (d.at_ t).session = d.session := rfl
@[simp] theorem setObj_session (x : ObjSt) : (d.setObj x).session = d.session := rfl
@[simp] theorem setTim_session (x : TimeSt) : (d.setTim x).session = d.session := rfl
@[simp] theorem updTk_session (k : TkId) (f : Tk → Tk) : (d.updTk k f).session = d.session := rfl
@[simp] theorem setRef_session (r : Nat) (x : RefRun) : (d.setRef r x).session = d.session := rfl
@[simp] theorem setRep_session (r : Nat) (x : Replica) : (d.setRep r x).session = d.session := rfl
@[simp] theorem setTether_session (r : Nat) (x : TetherRep) : (d.setTether r x).session = d.session := rfl
@[simp] theorem setLink_session (r : Nat) (x : D2d) : (d.setLink r x).session = d.session := rfl
@[simp] theorem setFlt_session (x : FaultSt) : (d.setFlt x).session = d.session := rfl
@[simp] theorem setNet_session (x : NetSt) : (d.setNet x).session = d.session := rfl
@[simp] theorem setPtp_session (i p : Nat) (x : PtpPort) : (d.setPtp i p x).session = d.session := rfl
@[simp] theorem setTsq_session (p : Nat) (x : Tsq) : (d.setTsq p x).session = d.session := rfl
@[simp] theorem setHost_session (x : HostSt) : (d.setHost x).session = d.session := rfl
@[simp] theorem setPcie_session (x : PcieSt) : (d.setPcie x).session = d.session := rfl
@[simp] theorem setQueue_session (q : Nat) (x : Queue) : (d.setQueue q x).session = d.session := rfl
@[simp] theorem setPort_session (p : Nat) (x : PortSt) : (d.setPort p x).session = d.session := rfl
@[simp] theorem setEcl_session (x : EclSt) : (d.setEcl x).session = d.session := rfl
@[simp] theorem setFn_session (p : Nat) (x : RecFn) : (d.setFn p x).session = d.session := rfl
@[simp] theorem setPair_session (p : Nat) (x : Pair) : (d.setPair p x).session = d.session := rfl
@[simp] theorem setRing_session (p : Nat) (x : Ring) : (d.setRing p x).session = d.session := rfl
@[simp] theorem setIng_session (x : IngestSt) : (d.setIng x).session = d.session := rfl
@[simp] theorem setPmu_session (p : Nat) (x : PmuRun) : (d.setPmu p x).session = d.session := rfl
@[simp] theorem setTab_session (x : TableSt) : (d.setTab x).session = d.session := rfl
@[simp] theorem setRegion_session (p : Nat) (x : Region) : (d.setRegion p x).session = d.session := rfl
@[simp] theorem setRec_session (p : Nat) (x : SigRec) : (d.setRec p x).session = d.session := rfl
@[simp] theorem setEng_session (x : EngSt) : (d.setEng x).session = d.session := rfl
@[simp] theorem setKslot_session (p : Nat) (x : KSlot) : (d.setKslot p x).session = d.session := rfl
@[simp] theorem setBind_session (p : Nat) (x : BindRun) : (d.setBind p x).session = d.session := rfl
@[simp] theorem setEngine_session (p : Nat) (x : Engine) : (d.setEngine p x).session = d.session := rfl
@[simp] theorem setWave_session (x : WaveSt) : (d.setWave x).session = d.session := rfl
@[simp] theorem setWchan_session (p : Nat) (x : WChan) : (d.setWchan p x).session = d.session := rfl
@[simp] theorem setCapture_session (p : Nat) (x : Capture) : (d.setCapture p x).session = d.session := rfl
@[simp] theorem setLine_session (p : Nat) (x : Line) : (d.setLine p x).session = d.session := rfl
@[simp] theorem setPow_session (x : PowerSt) : (d.setPow x).session = d.session := rfl
@[simp] theorem setSlot_session (k : Nat) (x : Slot) : (d.setSlot k x).session = d.session := rfl
@[simp] theorem setMbx_session (k : Nat) (x : Mailbox) : (d.setMbx k x).session = d.session := rfl
@[simp] theorem setRing_ring_same (k : Nat) (x : Ring) : (d.setRing k x).ring k = x := tget_tput_same _ _ _ _
theorem setRing_ring_ne {k m : Nat} (x : Ring) (h : m ≠ k) : (d.setRing k x).ring m = d.ring m := tget_tput_ne _ _ _ _ h
@[simp] theorem put_ring (o e v : Nat) : (d.put o e v).ring = d.ring := rfl
@[simp] theorem putB_ring (o e : Nat) (v : List Byte) : (d.putB o e v).ring = d.ring := rfl
@[simp] theorem putSh_ring (o e v : Nat) : (d.putSh o e v).ring = d.ring := rfl
@[simp] theorem putShB_ring (o e : Nat) (v : List Byte) : (d.putShB o e v).ring = d.ring := rfl
@[simp] theorem puti_ring (o e : Nat) (v : Int) : (d.puti o e v).ring = d.ring := rfl
@[simp] theorem add_ring (o e n : Nat) : (d.add o e n).ring = d.ring := rfl
@[simp] theorem inc_ring (o e : Nat) : (d.inc o e).ring = d.ring := rfl
@[simp] theorem raiseAt_ring (t a b c x : Nat) : (d.raiseAt t a b c x).ring = d.ring := rfl
@[simp] theorem raise_ring (a b c x : Nat) : (d.raise a b c x).ring = d.ring := rfl
@[simp] theorem setLive_ring (a b : Nat) (v : Bool) : (d.setLive a b v).ring = d.ring := rfl
@[simp] theorem emit_ring (x : Out) : (d.emit x).ring = d.ring := rfl
@[simp] theorem at_ring (t : Nat) : (d.at_ t).ring = d.ring := rfl
@[simp] theorem setObj_ring (x : ObjSt) : (d.setObj x).ring = d.ring := rfl
@[simp] theorem setTim_ring (x : TimeSt) : (d.setTim x).ring = d.ring := rfl
@[simp] theorem updTk_ring (k : TkId) (f : Tk → Tk) : (d.updTk k f).ring = d.ring := rfl
@[simp] theorem setRef_ring (r : Nat) (x : RefRun) : (d.setRef r x).ring = d.ring := rfl
@[simp] theorem setRep_ring (r : Nat) (x : Replica) : (d.setRep r x).ring = d.ring := rfl
@[simp] theorem setTether_ring (r : Nat) (x : TetherRep) : (d.setTether r x).ring = d.ring := rfl
@[simp] theorem setLink_ring (r : Nat) (x : D2d) : (d.setLink r x).ring = d.ring := rfl
@[simp] theorem setFlt_ring (x : FaultSt) : (d.setFlt x).ring = d.ring := rfl
@[simp] theorem setNet_ring (x : NetSt) : (d.setNet x).ring = d.ring := rfl
@[simp] theorem setPtp_ring (i p : Nat) (x : PtpPort) : (d.setPtp i p x).ring = d.ring := rfl
@[simp] theorem setTsq_ring (p : Nat) (x : Tsq) : (d.setTsq p x).ring = d.ring := rfl
@[simp] theorem setHost_ring (x : HostSt) : (d.setHost x).ring = d.ring := rfl
@[simp] theorem setPcie_ring (x : PcieSt) : (d.setPcie x).ring = d.ring := rfl
@[simp] theorem setQueue_ring (q : Nat) (x : Queue) : (d.setQueue q x).ring = d.ring := rfl
@[simp] theorem setLan_ring (x : LanSt) : (d.setLan x).ring = d.ring := rfl
@[simp] theorem setPort_ring (p : Nat) (x : PortSt) : (d.setPort p x).ring = d.ring := rfl
@[simp] theorem setSession_ring (p : Nat) (x : Session) : (d.setSession p x).ring = d.ring := rfl
@[simp] theorem setEcl_ring (x : EclSt) : (d.setEcl x).ring = d.ring := rfl
@[simp] theorem setFn_ring (p : Nat) (x : RecFn) : (d.setFn p x).ring = d.ring := rfl
@[simp] theorem setPair_ring (p : Nat) (x : Pair) : (d.setPair p x).ring = d.ring := rfl
@[simp] theorem setIng_ring (x : IngestSt) : (d.setIng x).ring = d.ring := rfl
@[simp] theorem setPmu_ring (p : Nat) (x : PmuRun) : (d.setPmu p x).ring = d.ring := rfl
@[simp] theorem setTab_ring (x : TableSt) : (d.setTab x).ring = d.ring := rfl
@[simp] theorem setRegion_ring (p : Nat) (x : Region) : (d.setRegion p x).ring = d.ring := rfl
@[simp] theorem setRec_ring (p : Nat) (x : SigRec) : (d.setRec p x).ring = d.ring := rfl
@[simp] theorem setEng_ring (x : EngSt) : (d.setEng x).ring = d.ring := rfl
@[simp] theorem setKslot_ring (p : Nat) (x : KSlot) : (d.setKslot p x).ring = d.ring := rfl
@[simp] theorem setBind_ring (p : Nat) (x : BindRun) : (d.setBind p x).ring = d.ring := rfl
@[simp] theorem setEngine_ring (p : Nat) (x : Engine) : (d.setEngine p x).ring = d.ring := rfl
@[simp] theorem setWave_ring (x : WaveSt) : (d.setWave x).ring = d.ring := rfl
@[simp] theorem setWchan_ring (p : Nat) (x : WChan) : (d.setWchan p x).ring = d.ring := rfl
@[simp] theorem setCapture_ring (p : Nat) (x : Capture) : (d.setCapture p x).ring = d.ring := rfl
@[simp] theorem setLine_ring (p : Nat) (x : Line) : (d.setLine p x).ring = d.ring := rfl
@[simp] theorem setPow_ring (x : PowerSt) : (d.setPow x).ring = d.ring := rfl
@[simp] theorem setSlot_ring (k : Nat) (x : Slot) : (d.setSlot k x).ring = d.ring := rfl
@[simp] theorem setMbx_ring (k : Nat) (x : Mailbox) : (d.setMbx k x).ring = d.ring := rfl
@[simp] theorem setRegion_region_same (k : Nat) (x : Region) : (d.setRegion k x).region k = x := tget_tput_same _ _ _ _
theorem setRegion_region_ne {k m : Nat} (x : Region) (h : m ≠ k) : (d.setRegion k x).region m = d.region m := tget_tput_ne _ _ _ _ h
@[simp] theorem put_region (o e v : Nat) : (d.put o e v).region = d.region := rfl
@[simp] theorem putB_region (o e : Nat) (v : List Byte) : (d.putB o e v).region = d.region := rfl
@[simp] theorem putSh_region (o e v : Nat) : (d.putSh o e v).region = d.region := rfl
@[simp] theorem putShB_region (o e : Nat) (v : List Byte) : (d.putShB o e v).region = d.region := rfl
@[simp] theorem puti_region (o e : Nat) (v : Int) : (d.puti o e v).region = d.region := rfl
@[simp] theorem add_region (o e n : Nat) : (d.add o e n).region = d.region := rfl
@[simp] theorem inc_region (o e : Nat) : (d.inc o e).region = d.region := rfl
@[simp] theorem raiseAt_region (t a b c x : Nat) : (d.raiseAt t a b c x).region = d.region := rfl
@[simp] theorem raise_region (a b c x : Nat) : (d.raise a b c x).region = d.region := rfl
@[simp] theorem setLive_region (a b : Nat) (v : Bool) : (d.setLive a b v).region = d.region := rfl
@[simp] theorem emit_region (x : Out) : (d.emit x).region = d.region := rfl
@[simp] theorem at_region (t : Nat) : (d.at_ t).region = d.region := rfl
@[simp] theorem setObj_region (x : ObjSt) : (d.setObj x).region = d.region := rfl
@[simp] theorem setTim_region (x : TimeSt) : (d.setTim x).region = d.region := rfl
@[simp] theorem updTk_region (k : TkId) (f : Tk → Tk) : (d.updTk k f).region = d.region := rfl
@[simp] theorem setRef_region (r : Nat) (x : RefRun) : (d.setRef r x).region = d.region := rfl
@[simp] theorem setRep_region (r : Nat) (x : Replica) : (d.setRep r x).region = d.region := rfl
@[simp] theorem setTether_region (r : Nat) (x : TetherRep) : (d.setTether r x).region = d.region := rfl
@[simp] theorem setLink_region (r : Nat) (x : D2d) : (d.setLink r x).region = d.region := rfl
@[simp] theorem setFlt_region (x : FaultSt) : (d.setFlt x).region = d.region := rfl
@[simp] theorem setNet_region (x : NetSt) : (d.setNet x).region = d.region := rfl
@[simp] theorem setPtp_region (i p : Nat) (x : PtpPort) : (d.setPtp i p x).region = d.region := rfl
@[simp] theorem setTsq_region (p : Nat) (x : Tsq) : (d.setTsq p x).region = d.region := rfl
@[simp] theorem setHost_region (x : HostSt) : (d.setHost x).region = d.region := rfl
@[simp] theorem setPcie_region (x : PcieSt) : (d.setPcie x).region = d.region := rfl
@[simp] theorem setQueue_region (q : Nat) (x : Queue) : (d.setQueue q x).region = d.region := rfl
@[simp] theorem setLan_region (x : LanSt) : (d.setLan x).region = d.region := rfl
@[simp] theorem setPort_region (p : Nat) (x : PortSt) : (d.setPort p x).region = d.region := rfl
@[simp] theorem setSession_region (p : Nat) (x : Session) : (d.setSession p x).region = d.region := rfl
@[simp] theorem setEcl_region (x : EclSt) : (d.setEcl x).region = d.region := rfl
@[simp] theorem setFn_region (p : Nat) (x : RecFn) : (d.setFn p x).region = d.region := rfl
@[simp] theorem setPair_region (p : Nat) (x : Pair) : (d.setPair p x).region = d.region := rfl
@[simp] theorem setRing_region (p : Nat) (x : Ring) : (d.setRing p x).region = d.region := rfl
@[simp] theorem setIng_region (x : IngestSt) : (d.setIng x).region = d.region := rfl
@[simp] theorem setPmu_region (p : Nat) (x : PmuRun) : (d.setPmu p x).region = d.region := rfl
@[simp] theorem setRec_region (p : Nat) (x : SigRec) : (d.setRec p x).region = d.region := rfl
@[simp] theorem setEng_region (x : EngSt) : (d.setEng x).region = d.region := rfl
@[simp] theorem setKslot_region (p : Nat) (x : KSlot) : (d.setKslot p x).region = d.region := rfl
@[simp] theorem setBind_region (p : Nat) (x : BindRun) : (d.setBind p x).region = d.region := rfl
@[simp] theorem setEngine_region (p : Nat) (x : Engine) : (d.setEngine p x).region = d.region := rfl
@[simp] theorem setWave_region (x : WaveSt) : (d.setWave x).region = d.region := rfl
@[simp] theorem setWchan_region (p : Nat) (x : WChan) : (d.setWchan p x).region = d.region := rfl
@[simp] theorem setCapture_region (p : Nat) (x : Capture) : (d.setCapture p x).region = d.region := rfl
@[simp] theorem setLine_region (p : Nat) (x : Line) : (d.setLine p x).region = d.region := rfl
@[simp] theorem setPow_region (x : PowerSt) : (d.setPow x).region = d.region := rfl
@[simp] theorem setSlot_region (k : Nat) (x : Slot) : (d.setSlot k x).region = d.region := rfl
@[simp] theorem setMbx_region (k : Nat) (x : Mailbox) : (d.setMbx k x).region = d.region := rfl
@[simp] theorem setRec_rec_same (k : Nat) (x : SigRec) : (d.setRec k x).rec_ k = x := tget_tput_same _ _ _ _
theorem setRec_rec_ne {k m : Nat} (x : SigRec) (h : m ≠ k) : (d.setRec k x).rec_ m = d.rec_ m := tget_tput_ne _ _ _ _ h
@[simp] theorem put_rec_ (o e v : Nat) : (d.put o e v).rec_ = d.rec_ := rfl
@[simp] theorem putB_rec_ (o e : Nat) (v : List Byte) : (d.putB o e v).rec_ = d.rec_ := rfl
@[simp] theorem putSh_rec_ (o e v : Nat) : (d.putSh o e v).rec_ = d.rec_ := rfl
@[simp] theorem putShB_rec_ (o e : Nat) (v : List Byte) : (d.putShB o e v).rec_ = d.rec_ := rfl
@[simp] theorem puti_rec_ (o e : Nat) (v : Int) : (d.puti o e v).rec_ = d.rec_ := rfl
@[simp] theorem add_rec_ (o e n : Nat) : (d.add o e n).rec_ = d.rec_ := rfl
@[simp] theorem inc_rec_ (o e : Nat) : (d.inc o e).rec_ = d.rec_ := rfl
@[simp] theorem raiseAt_rec_ (t a b c x : Nat) : (d.raiseAt t a b c x).rec_ = d.rec_ := rfl
@[simp] theorem raise_rec_ (a b c x : Nat) : (d.raise a b c x).rec_ = d.rec_ := rfl
@[simp] theorem setLive_rec_ (a b : Nat) (v : Bool) : (d.setLive a b v).rec_ = d.rec_ := rfl
@[simp] theorem emit_rec_ (x : Out) : (d.emit x).rec_ = d.rec_ := rfl
@[simp] theorem at_rec_ (t : Nat) : (d.at_ t).rec_ = d.rec_ := rfl
@[simp] theorem setObj_rec_ (x : ObjSt) : (d.setObj x).rec_ = d.rec_ := rfl
@[simp] theorem setTim_rec_ (x : TimeSt) : (d.setTim x).rec_ = d.rec_ := rfl
@[simp] theorem updTk_rec_ (k : TkId) (f : Tk → Tk) : (d.updTk k f).rec_ = d.rec_ := rfl
@[simp] theorem setRef_rec_ (r : Nat) (x : RefRun) : (d.setRef r x).rec_ = d.rec_ := rfl
@[simp] theorem setRep_rec_ (r : Nat) (x : Replica) : (d.setRep r x).rec_ = d.rec_ := rfl
@[simp] theorem setTether_rec_ (r : Nat) (x : TetherRep) : (d.setTether r x).rec_ = d.rec_ := rfl
@[simp] theorem setLink_rec_ (r : Nat) (x : D2d) : (d.setLink r x).rec_ = d.rec_ := rfl
@[simp] theorem setFlt_rec_ (x : FaultSt) : (d.setFlt x).rec_ = d.rec_ := rfl
@[simp] theorem setNet_rec_ (x : NetSt) : (d.setNet x).rec_ = d.rec_ := rfl
@[simp] theorem setPtp_rec_ (i p : Nat) (x : PtpPort) : (d.setPtp i p x).rec_ = d.rec_ := rfl
@[simp] theorem setTsq_rec_ (p : Nat) (x : Tsq) : (d.setTsq p x).rec_ = d.rec_ := rfl
@[simp] theorem setHost_rec_ (x : HostSt) : (d.setHost x).rec_ = d.rec_ := rfl
@[simp] theorem setPcie_rec_ (x : PcieSt) : (d.setPcie x).rec_ = d.rec_ := rfl
@[simp] theorem setQueue_rec_ (q : Nat) (x : Queue) : (d.setQueue q x).rec_ = d.rec_ := rfl
@[simp] theorem setLan_rec_ (x : LanSt) : (d.setLan x).rec_ = d.rec_ := rfl
@[simp] theorem setPort_rec_ (p : Nat) (x : PortSt) : (d.setPort p x).rec_ = d.rec_ := rfl
@[simp] theorem setSession_rec_ (p : Nat) (x : Session) : (d.setSession p x).rec_ = d.rec_ := rfl
@[simp] theorem setEcl_rec_ (x : EclSt) : (d.setEcl x).rec_ = d.rec_ := rfl
@[simp] theorem setFn_rec_ (p : Nat) (x : RecFn) : (d.setFn p x).rec_ = d.rec_ := rfl
@[simp] theorem setPair_rec_ (p : Nat) (x : Pair) : (d.setPair p x).rec_ = d.rec_ := rfl
@[simp] theorem setRing_rec_ (p : Nat) (x : Ring) : (d.setRing p x).rec_ = d.rec_ := rfl
@[simp] theorem setIng_rec_ (x : IngestSt) : (d.setIng x).rec_ = d.rec_ := rfl
@[simp] theorem setPmu_rec_ (p : Nat) (x : PmuRun) : (d.setPmu p x).rec_ = d.rec_ := rfl
@[simp] theorem setRegion_rec_ (p : Nat) (x : Region) : (d.setRegion p x).rec_ = d.rec_ := rfl
@[simp] theorem setEng_rec_ (x : EngSt) : (d.setEng x).rec_ = d.rec_ := rfl
@[simp] theorem setKslot_rec_ (p : Nat) (x : KSlot) : (d.setKslot p x).rec_ = d.rec_ := rfl
@[simp] theorem setBind_rec_ (p : Nat) (x : BindRun) : (d.setBind p x).rec_ = d.rec_ := rfl
@[simp] theorem setEngine_rec_ (p : Nat) (x : Engine) : (d.setEngine p x).rec_ = d.rec_ := rfl
@[simp] theorem setWave_rec_ (x : WaveSt) : (d.setWave x).rec_ = d.rec_ := rfl
@[simp] theorem setWchan_rec_ (p : Nat) (x : WChan) : (d.setWchan p x).rec_ = d.rec_ := rfl
@[simp] theorem setCapture_rec_ (p : Nat) (x : Capture) : (d.setCapture p x).rec_ = d.rec_ := rfl
@[simp] theorem setLine_rec_ (p : Nat) (x : Line) : (d.setLine p x).rec_ = d.rec_ := rfl
@[simp] theorem setPow_rec_ (x : PowerSt) : (d.setPow x).rec_ = d.rec_ := rfl
@[simp] theorem setSlot_rec_ (k : Nat) (x : Slot) : (d.setSlot k x).rec_ = d.rec_ := rfl
@[simp] theorem setMbx_rec_ (k : Nat) (x : Mailbox) : (d.setMbx k x).rec_ = d.rec_ := rfl
@[simp] theorem setKslot_kslot_same (k : Nat) (x : KSlot) : (d.setKslot k x).kslot k = x := tget_tput_same _ _ _ _
theorem setKslot_kslot_ne {k m : Nat} (x : KSlot) (h : m ≠ k) : (d.setKslot k x).kslot m = d.kslot m := tget_tput_ne _ _ _ _ h
@[simp] theorem put_kslot (o e v : Nat) : (d.put o e v).kslot = d.kslot := rfl
@[simp] theorem putB_kslot (o e : Nat) (v : List Byte) : (d.putB o e v).kslot = d.kslot := rfl
@[simp] theorem putSh_kslot (o e v : Nat) : (d.putSh o e v).kslot = d.kslot := rfl
@[simp] theorem putShB_kslot (o e : Nat) (v : List Byte) : (d.putShB o e v).kslot = d.kslot := rfl
@[simp] theorem puti_kslot (o e : Nat) (v : Int) : (d.puti o e v).kslot = d.kslot := rfl
@[simp] theorem add_kslot (o e n : Nat) : (d.add o e n).kslot = d.kslot := rfl
@[simp] theorem inc_kslot (o e : Nat) : (d.inc o e).kslot = d.kslot := rfl
@[simp] theorem raiseAt_kslot (t a b c x : Nat) : (d.raiseAt t a b c x).kslot = d.kslot := rfl
@[simp] theorem raise_kslot (a b c x : Nat) : (d.raise a b c x).kslot = d.kslot := rfl
@[simp] theorem setLive_kslot (a b : Nat) (v : Bool) : (d.setLive a b v).kslot = d.kslot := rfl
@[simp] theorem emit_kslot (x : Out) : (d.emit x).kslot = d.kslot := rfl
@[simp] theorem at_kslot (t : Nat) : (d.at_ t).kslot = d.kslot := rfl
@[simp] theorem setObj_kslot (x : ObjSt) : (d.setObj x).kslot = d.kslot := rfl
@[simp] theorem setTim_kslot (x : TimeSt) : (d.setTim x).kslot = d.kslot := rfl
@[simp] theorem updTk_kslot (k : TkId) (f : Tk → Tk) : (d.updTk k f).kslot = d.kslot := rfl
@[simp] theorem setRef_kslot (r : Nat) (x : RefRun) : (d.setRef r x).kslot = d.kslot := rfl
@[simp] theorem setRep_kslot (r : Nat) (x : Replica) : (d.setRep r x).kslot = d.kslot := rfl
@[simp] theorem setTether_kslot (r : Nat) (x : TetherRep) : (d.setTether r x).kslot = d.kslot := rfl
@[simp] theorem setLink_kslot (r : Nat) (x : D2d) : (d.setLink r x).kslot = d.kslot := rfl
@[simp] theorem setFlt_kslot (x : FaultSt) : (d.setFlt x).kslot = d.kslot := rfl
@[simp] theorem setNet_kslot (x : NetSt) : (d.setNet x).kslot = d.kslot := rfl
@[simp] theorem setPtp_kslot (i p : Nat) (x : PtpPort) : (d.setPtp i p x).kslot = d.kslot := rfl
@[simp] theorem setTsq_kslot (p : Nat) (x : Tsq) : (d.setTsq p x).kslot = d.kslot := rfl
@[simp] theorem setHost_kslot (x : HostSt) : (d.setHost x).kslot = d.kslot := rfl
@[simp] theorem setPcie_kslot (x : PcieSt) : (d.setPcie x).kslot = d.kslot := rfl
@[simp] theorem setQueue_kslot (q : Nat) (x : Queue) : (d.setQueue q x).kslot = d.kslot := rfl
@[simp] theorem setLan_kslot (x : LanSt) : (d.setLan x).kslot = d.kslot := rfl
@[simp] theorem setPort_kslot (p : Nat) (x : PortSt) : (d.setPort p x).kslot = d.kslot := rfl
@[simp] theorem setSession_kslot (p : Nat) (x : Session) : (d.setSession p x).kslot = d.kslot := rfl
@[simp] theorem setEcl_kslot (x : EclSt) : (d.setEcl x).kslot = d.kslot := rfl
@[simp] theorem setFn_kslot (p : Nat) (x : RecFn) : (d.setFn p x).kslot = d.kslot := rfl
@[simp] theorem setPair_kslot (p : Nat) (x : Pair) : (d.setPair p x).kslot = d.kslot := rfl
@[simp] theorem setRing_kslot (p : Nat) (x : Ring) : (d.setRing p x).kslot = d.kslot := rfl
@[simp] theorem setIng_kslot (x : IngestSt) : (d.setIng x).kslot = d.kslot := rfl
@[simp] theorem setPmu_kslot (p : Nat) (x : PmuRun) : (d.setPmu p x).kslot = d.kslot := rfl
@[simp] theorem setTab_kslot (x : TableSt) : (d.setTab x).kslot = d.kslot := rfl
@[simp] theorem setRegion_kslot (p : Nat) (x : Region) : (d.setRegion p x).kslot = d.kslot := rfl
@[simp] theorem setRec_kslot (p : Nat) (x : SigRec) : (d.setRec p x).kslot = d.kslot := rfl
@[simp] theorem setBind_kslot (p : Nat) (x : BindRun) : (d.setBind p x).kslot = d.kslot := rfl
@[simp] theorem setEngine_kslot (p : Nat) (x : Engine) : (d.setEngine p x).kslot = d.kslot := rfl
@[simp] theorem setWave_kslot (x : WaveSt) : (d.setWave x).kslot = d.kslot := rfl
@[simp] theorem setWchan_kslot (p : Nat) (x : WChan) : (d.setWchan p x).kslot = d.kslot := rfl
@[simp] theorem setCapture_kslot (p : Nat) (x : Capture) : (d.setCapture p x).kslot = d.kslot := rfl
@[simp] theorem setLine_kslot (p : Nat) (x : Line) : (d.setLine p x).kslot = d.kslot := rfl
@[simp] theorem setPow_kslot (x : PowerSt) : (d.setPow x).kslot = d.kslot := rfl
@[simp] theorem setSlot_kslot (k : Nat) (x : Slot) : (d.setSlot k x).kslot = d.kslot := rfl
@[simp] theorem setMbx_kslot (k : Nat) (x : Mailbox) : (d.setMbx k x).kslot = d.kslot := rfl
@[simp] theorem setEngine_engine_same (k : Nat) (x : Engine) : (d.setEngine k x).engine k = x := tget_tput_same _ _ _ _
theorem setEngine_engine_ne {k m : Nat} (x : Engine) (h : m ≠ k) : (d.setEngine k x).engine m = d.engine m := tget_tput_ne _ _ _ _ h
@[simp] theorem put_engine (o e v : Nat) : (d.put o e v).engine = d.engine := rfl
@[simp] theorem putB_engine (o e : Nat) (v : List Byte) : (d.putB o e v).engine = d.engine := rfl
@[simp] theorem putSh_engine (o e v : Nat) : (d.putSh o e v).engine = d.engine := rfl
@[simp] theorem putShB_engine (o e : Nat) (v : List Byte) : (d.putShB o e v).engine = d.engine := rfl
@[simp] theorem puti_engine (o e : Nat) (v : Int) : (d.puti o e v).engine = d.engine := rfl
@[simp] theorem add_engine (o e n : Nat) : (d.add o e n).engine = d.engine := rfl
@[simp] theorem inc_engine (o e : Nat) : (d.inc o e).engine = d.engine := rfl
@[simp] theorem raiseAt_engine (t a b c x : Nat) : (d.raiseAt t a b c x).engine = d.engine := rfl
@[simp] theorem raise_engine (a b c x : Nat) : (d.raise a b c x).engine = d.engine := rfl
@[simp] theorem setLive_engine (a b : Nat) (v : Bool) : (d.setLive a b v).engine = d.engine := rfl
@[simp] theorem emit_engine (x : Out) : (d.emit x).engine = d.engine := rfl
@[simp] theorem at_engine (t : Nat) : (d.at_ t).engine = d.engine := rfl
@[simp] theorem setObj_engine (x : ObjSt) : (d.setObj x).engine = d.engine := rfl
@[simp] theorem setTim_engine (x : TimeSt) : (d.setTim x).engine = d.engine := rfl
@[simp] theorem updTk_engine (k : TkId) (f : Tk → Tk) : (d.updTk k f).engine = d.engine := rfl
@[simp] theorem setRef_engine (r : Nat) (x : RefRun) : (d.setRef r x).engine = d.engine := rfl
@[simp] theorem setRep_engine (r : Nat) (x : Replica) : (d.setRep r x).engine = d.engine := rfl
@[simp] theorem setTether_engine (r : Nat) (x : TetherRep) : (d.setTether r x).engine = d.engine := rfl
@[simp] theorem setLink_engine (r : Nat) (x : D2d) : (d.setLink r x).engine = d.engine := rfl
@[simp] theorem setFlt_engine (x : FaultSt) : (d.setFlt x).engine = d.engine := rfl
@[simp] theorem setNet_engine (x : NetSt) : (d.setNet x).engine = d.engine := rfl
@[simp] theorem setPtp_engine (i p : Nat) (x : PtpPort) : (d.setPtp i p x).engine = d.engine := rfl
@[simp] theorem setTsq_engine (p : Nat) (x : Tsq) : (d.setTsq p x).engine = d.engine := rfl
@[simp] theorem setHost_engine (x : HostSt) : (d.setHost x).engine = d.engine := rfl
@[simp] theorem setPcie_engine (x : PcieSt) : (d.setPcie x).engine = d.engine := rfl
@[simp] theorem setQueue_engine (q : Nat) (x : Queue) : (d.setQueue q x).engine = d.engine := rfl
@[simp] theorem setLan_engine (x : LanSt) : (d.setLan x).engine = d.engine := rfl
@[simp] theorem setPort_engine (p : Nat) (x : PortSt) : (d.setPort p x).engine = d.engine := rfl
@[simp] theorem setSession_engine (p : Nat) (x : Session) : (d.setSession p x).engine = d.engine := rfl
@[simp] theorem setEcl_engine (x : EclSt) : (d.setEcl x).engine = d.engine := rfl
@[simp] theorem setFn_engine (p : Nat) (x : RecFn) : (d.setFn p x).engine = d.engine := rfl
@[simp] theorem setPair_engine (p : Nat) (x : Pair) : (d.setPair p x).engine = d.engine := rfl
@[simp] theorem setRing_engine (p : Nat) (x : Ring) : (d.setRing p x).engine = d.engine := rfl
@[simp] theorem setIng_engine (x : IngestSt) : (d.setIng x).engine = d.engine := rfl
@[simp] theorem setPmu_engine (p : Nat) (x : PmuRun) : (d.setPmu p x).engine = d.engine := rfl
@[simp] theorem setTab_engine (x : TableSt) : (d.setTab x).engine = d.engine := rfl
@[simp] theorem setRegion_engine (p : Nat) (x : Region) : (d.setRegion p x).engine = d.engine := rfl
@[simp] theorem setRec_engine (p : Nat) (x : SigRec) : (d.setRec p x).engine = d.engine := rfl
@[simp] theorem setKslot_engine (p : Nat) (x : KSlot) : (d.setKslot p x).engine = d.engine := rfl
@[simp] theorem setBind_engine (p : Nat) (x : BindRun) : (d.setBind p x).engine = d.engine := rfl
@[simp] theorem setWave_engine (x : WaveSt) : (d.setWave x).engine = d.engine := rfl
@[simp] theorem setWchan_engine (p : Nat) (x : WChan) : (d.setWchan p x).engine = d.engine := rfl
@[simp] theorem setCapture_engine (p : Nat) (x : Capture) : (d.setCapture p x).engine = d.engine := rfl
@[simp] theorem setLine_engine (p : Nat) (x : Line) : (d.setLine p x).engine = d.engine := rfl
@[simp] theorem setPow_engine (x : PowerSt) : (d.setPow x).engine = d.engine := rfl
@[simp] theorem setSlot_engine (k : Nat) (x : Slot) : (d.setSlot k x).engine = d.engine := rfl
@[simp] theorem setMbx_engine (k : Nat) (x : Mailbox) : (d.setMbx k x).engine = d.engine := rfl
@[simp] theorem setBind_bind_same (k : Nat) (x : BindRun) : (d.setBind k x).bind_ k = x := tget_tput_same _ _ _ _
theorem setBind_bind_ne {k m : Nat} (x : BindRun) (h : m ≠ k) : (d.setBind k x).bind_ m = d.bind_ m := tget_tput_ne _ _ _ _ h
@[simp] theorem put_bind_ (o e v : Nat) : (d.put o e v).bind_ = d.bind_ := rfl
@[simp] theorem putB_bind_ (o e : Nat) (v : List Byte) : (d.putB o e v).bind_ = d.bind_ := rfl
@[simp] theorem putSh_bind_ (o e v : Nat) : (d.putSh o e v).bind_ = d.bind_ := rfl
@[simp] theorem putShB_bind_ (o e : Nat) (v : List Byte) : (d.putShB o e v).bind_ = d.bind_ := rfl
@[simp] theorem puti_bind_ (o e : Nat) (v : Int) : (d.puti o e v).bind_ = d.bind_ := rfl
@[simp] theorem add_bind_ (o e n : Nat) : (d.add o e n).bind_ = d.bind_ := rfl
@[simp] theorem inc_bind_ (o e : Nat) : (d.inc o e).bind_ = d.bind_ := rfl
@[simp] theorem raiseAt_bind_ (t a b c x : Nat) : (d.raiseAt t a b c x).bind_ = d.bind_ := rfl
@[simp] theorem raise_bind_ (a b c x : Nat) : (d.raise a b c x).bind_ = d.bind_ := rfl
@[simp] theorem setLive_bind_ (a b : Nat) (v : Bool) : (d.setLive a b v).bind_ = d.bind_ := rfl
@[simp] theorem emit_bind_ (x : Out) : (d.emit x).bind_ = d.bind_ := rfl
@[simp] theorem at_bind_ (t : Nat) : (d.at_ t).bind_ = d.bind_ := rfl
@[simp] theorem setObj_bind_ (x : ObjSt) : (d.setObj x).bind_ = d.bind_ := rfl
@[simp] theorem setTim_bind_ (x : TimeSt) : (d.setTim x).bind_ = d.bind_ := rfl
@[simp] theorem updTk_bind_ (k : TkId) (f : Tk → Tk) : (d.updTk k f).bind_ = d.bind_ := rfl
@[simp] theorem setRef_bind_ (r : Nat) (x : RefRun) : (d.setRef r x).bind_ = d.bind_ := rfl
@[simp] theorem setRep_bind_ (r : Nat) (x : Replica) : (d.setRep r x).bind_ = d.bind_ := rfl
@[simp] theorem setTether_bind_ (r : Nat) (x : TetherRep) : (d.setTether r x).bind_ = d.bind_ := rfl
@[simp] theorem setLink_bind_ (r : Nat) (x : D2d) : (d.setLink r x).bind_ = d.bind_ := rfl
@[simp] theorem setFlt_bind_ (x : FaultSt) : (d.setFlt x).bind_ = d.bind_ := rfl
@[simp] theorem setNet_bind_ (x : NetSt) : (d.setNet x).bind_ = d.bind_ := rfl
@[simp] theorem setPtp_bind_ (i p : Nat) (x : PtpPort) : (d.setPtp i p x).bind_ = d.bind_ := rfl
@[simp] theorem setTsq_bind_ (p : Nat) (x : Tsq) : (d.setTsq p x).bind_ = d.bind_ := rfl
@[simp] theorem setHost_bind_ (x : HostSt) : (d.setHost x).bind_ = d.bind_ := rfl
@[simp] theorem setPcie_bind_ (x : PcieSt) : (d.setPcie x).bind_ = d.bind_ := rfl
@[simp] theorem setQueue_bind_ (q : Nat) (x : Queue) : (d.setQueue q x).bind_ = d.bind_ := rfl
@[simp] theorem setLan_bind_ (x : LanSt) : (d.setLan x).bind_ = d.bind_ := rfl
@[simp] theorem setPort_bind_ (p : Nat) (x : PortSt) : (d.setPort p x).bind_ = d.bind_ := rfl
@[simp] theorem setSession_bind_ (p : Nat) (x : Session) : (d.setSession p x).bind_ = d.bind_ := rfl
@[simp] theorem setEcl_bind_ (x : EclSt) : (d.setEcl x).bind_ = d.bind_ := rfl
@[simp] theorem setFn_bind_ (p : Nat) (x : RecFn) : (d.setFn p x).bind_ = d.bind_ := rfl
@[simp] theorem setPair_bind_ (p : Nat) (x : Pair) : (d.setPair p x).bind_ = d.bind_ := rfl
@[simp] theorem setRing_bind_ (p : Nat) (x : Ring) : (d.setRing p x).bind_ = d.bind_ := rfl
@[simp] theorem setIng_bind_ (x : IngestSt) : (d.setIng x).bind_ = d.bind_ := rfl
@[simp] theorem setPmu_bind_ (p : Nat) (x : PmuRun) : (d.setPmu p x).bind_ = d.bind_ := rfl
@[simp] theorem setTab_bind_ (x : TableSt) : (d.setTab x).bind_ = d.bind_ := rfl
@[simp] theorem setRegion_bind_ (p : Nat) (x : Region) : (d.setRegion p x).bind_ = d.bind_ := rfl
@[simp] theorem setRec_bind_ (p : Nat) (x : SigRec) : (d.setRec p x).bind_ = d.bind_ := rfl
@[simp] theorem setKslot_bind_ (p : Nat) (x : KSlot) : (d.setKslot p x).bind_ = d.bind_ := rfl
@[simp] theorem setEngine_bind_ (p : Nat) (x : Engine) : (d.setEngine p x).bind_ = d.bind_ := rfl
@[simp] theorem setWave_bind_ (x : WaveSt) : (d.setWave x).bind_ = d.bind_ := rfl
@[simp] theorem setWchan_bind_ (p : Nat) (x : WChan) : (d.setWchan p x).bind_ = d.bind_ := rfl
@[simp] theorem setCapture_bind_ (p : Nat) (x : Capture) : (d.setCapture p x).bind_ = d.bind_ := rfl
@[simp] theorem setLine_bind_ (p : Nat) (x : Line) : (d.setLine p x).bind_ = d.bind_ := rfl
@[simp] theorem setPow_bind_ (x : PowerSt) : (d.setPow x).bind_ = d.bind_ := rfl
@[simp] theorem setSlot_bind_ (k : Nat) (x : Slot) : (d.setSlot k x).bind_ = d.bind_ := rfl
@[simp] theorem setMbx_bind_ (k : Nat) (x : Mailbox) : (d.setMbx k x).bind_ = d.bind_ := rfl
@[simp] theorem setTsq_tsq_same (k : Nat) (x : Tsq) : (d.setTsq k x).tsq k = x := tget_tput_same _ _ _ _
theorem setTsq_tsq_ne {k m : Nat} (x : Tsq) (h : m ≠ k) : (d.setTsq k x).tsq m = d.tsq m := tget_tput_ne _ _ _ _ h
@[simp] theorem put_tsq (o e v : Nat) : (d.put o e v).tsq = d.tsq := rfl
@[simp] theorem putB_tsq (o e : Nat) (v : List Byte) : (d.putB o e v).tsq = d.tsq := rfl
@[simp] theorem putSh_tsq (o e v : Nat) : (d.putSh o e v).tsq = d.tsq := rfl
@[simp] theorem putShB_tsq (o e : Nat) (v : List Byte) : (d.putShB o e v).tsq = d.tsq := rfl
@[simp] theorem puti_tsq (o e : Nat) (v : Int) : (d.puti o e v).tsq = d.tsq := rfl
@[simp] theorem add_tsq (o e n : Nat) : (d.add o e n).tsq = d.tsq := rfl
@[simp] theorem inc_tsq (o e : Nat) : (d.inc o e).tsq = d.tsq := rfl
@[simp] theorem raiseAt_tsq (t a b c x : Nat) : (d.raiseAt t a b c x).tsq = d.tsq := rfl
@[simp] theorem raise_tsq (a b c x : Nat) : (d.raise a b c x).tsq = d.tsq := rfl
@[simp] theorem setLive_tsq (a b : Nat) (v : Bool) : (d.setLive a b v).tsq = d.tsq := rfl
@[simp] theorem emit_tsq (x : Out) : (d.emit x).tsq = d.tsq := rfl
@[simp] theorem at_tsq (t : Nat) : (d.at_ t).tsq = d.tsq := rfl
@[simp] theorem setObj_tsq (x : ObjSt) : (d.setObj x).tsq = d.tsq := rfl
@[simp] theorem setTim_tsq (x : TimeSt) : (d.setTim x).tsq = d.tsq := rfl
@[simp] theorem updTk_tsq (k : TkId) (f : Tk → Tk) : (d.updTk k f).tsq = d.tsq := rfl
@[simp] theorem setRef_tsq (r : Nat) (x : RefRun) : (d.setRef r x).tsq = d.tsq := rfl
@[simp] theorem setRep_tsq (r : Nat) (x : Replica) : (d.setRep r x).tsq = d.tsq := rfl
@[simp] theorem setTether_tsq (r : Nat) (x : TetherRep) : (d.setTether r x).tsq = d.tsq := rfl
@[simp] theorem setLink_tsq (r : Nat) (x : D2d) : (d.setLink r x).tsq = d.tsq := rfl
@[simp] theorem setFlt_tsq (x : FaultSt) : (d.setFlt x).tsq = d.tsq := rfl
@[simp] theorem setPtp_tsq (i p : Nat) (x : PtpPort) : (d.setPtp i p x).tsq = d.tsq := rfl
@[simp] theorem setHost_tsq (x : HostSt) : (d.setHost x).tsq = d.tsq := rfl
@[simp] theorem setPcie_tsq (x : PcieSt) : (d.setPcie x).tsq = d.tsq := rfl
@[simp] theorem setQueue_tsq (q : Nat) (x : Queue) : (d.setQueue q x).tsq = d.tsq := rfl
@[simp] theorem setLan_tsq (x : LanSt) : (d.setLan x).tsq = d.tsq := rfl
@[simp] theorem setPort_tsq (p : Nat) (x : PortSt) : (d.setPort p x).tsq = d.tsq := rfl
@[simp] theorem setSession_tsq (p : Nat) (x : Session) : (d.setSession p x).tsq = d.tsq := rfl
@[simp] theorem setEcl_tsq (x : EclSt) : (d.setEcl x).tsq = d.tsq := rfl
@[simp] theorem setFn_tsq (p : Nat) (x : RecFn) : (d.setFn p x).tsq = d.tsq := rfl
@[simp] theorem setPair_tsq (p : Nat) (x : Pair) : (d.setPair p x).tsq = d.tsq := rfl
@[simp] theorem setRing_tsq (p : Nat) (x : Ring) : (d.setRing p x).tsq = d.tsq := rfl
@[simp] theorem setIng_tsq (x : IngestSt) : (d.setIng x).tsq = d.tsq := rfl
@[simp] theorem setPmu_tsq (p : Nat) (x : PmuRun) : (d.setPmu p x).tsq = d.tsq := rfl
@[simp] theorem setTab_tsq (x : TableSt) : (d.setTab x).tsq = d.tsq := rfl
@[simp] theorem setRegion_tsq (p : Nat) (x : Region) : (d.setRegion p x).tsq = d.tsq := rfl
@[simp] theorem setRec_tsq (p : Nat) (x : SigRec) : (d.setRec p x).tsq = d.tsq := rfl
@[simp] theorem setEng_tsq (x : EngSt) : (d.setEng x).tsq = d.tsq := rfl
@[simp] theorem setKslot_tsq (p : Nat) (x : KSlot) : (d.setKslot p x).tsq = d.tsq := rfl
@[simp] theorem setBind_tsq (p : Nat) (x : BindRun) : (d.setBind p x).tsq = d.tsq := rfl
@[simp] theorem setEngine_tsq (p : Nat) (x : Engine) : (d.setEngine p x).tsq = d.tsq := rfl
@[simp] theorem setWave_tsq (x : WaveSt) : (d.setWave x).tsq = d.tsq := rfl
@[simp] theorem setWchan_tsq (p : Nat) (x : WChan) : (d.setWchan p x).tsq = d.tsq := rfl
@[simp] theorem setCapture_tsq (p : Nat) (x : Capture) : (d.setCapture p x).tsq = d.tsq := rfl
@[simp] theorem setLine_tsq (p : Nat) (x : Line) : (d.setLine p x).tsq = d.tsq := rfl
@[simp] theorem setPow_tsq (x : PowerSt) : (d.setPow x).tsq = d.tsq := rfl
@[simp] theorem setSlot_tsq (k : Nat) (x : Slot) : (d.setSlot k x).tsq = d.tsq := rfl
@[simp] theorem setMbx_tsq (k : Nat) (x : Mailbox) : (d.setMbx k x).tsq = d.tsq := rfl
@[simp] theorem setWchan_wchan_same (k : Nat) (x : WChan) : (d.setWchan k x).wchan k = x := tget_tput_same _ _ _ _
theorem setWchan_wchan_ne {k m : Nat} (x : WChan) (h : m ≠ k) : (d.setWchan k x).wchan m = d.wchan m := tget_tput_ne _ _ _ _ h
@[simp] theorem put_wchan (o e v : Nat) : (d.put o e v).wchan = d.wchan := rfl
@[simp] theorem putB_wchan (o e : Nat) (v : List Byte) : (d.putB o e v).wchan = d.wchan := rfl
@[simp] theorem putSh_wchan (o e v : Nat) : (d.putSh o e v).wchan = d.wchan := rfl
@[simp] theorem putShB_wchan (o e : Nat) (v : List Byte) : (d.putShB o e v).wchan = d.wchan := rfl
@[simp] theorem puti_wchan (o e : Nat) (v : Int) : (d.puti o e v).wchan = d.wchan := rfl
@[simp] theorem add_wchan (o e n : Nat) : (d.add o e n).wchan = d.wchan := rfl
@[simp] theorem inc_wchan (o e : Nat) : (d.inc o e).wchan = d.wchan := rfl
@[simp] theorem raiseAt_wchan (t a b c x : Nat) : (d.raiseAt t a b c x).wchan = d.wchan := rfl
@[simp] theorem raise_wchan (a b c x : Nat) : (d.raise a b c x).wchan = d.wchan := rfl
@[simp] theorem setLive_wchan (a b : Nat) (v : Bool) : (d.setLive a b v).wchan = d.wchan := rfl
@[simp] theorem emit_wchan (x : Out) : (d.emit x).wchan = d.wchan := rfl
@[simp] theorem at_wchan (t : Nat) : (d.at_ t).wchan = d.wchan := rfl
@[simp] theorem setObj_wchan (x : ObjSt) : (d.setObj x).wchan = d.wchan := rfl
@[simp] theorem setTim_wchan (x : TimeSt) : (d.setTim x).wchan = d.wchan := rfl
@[simp] theorem updTk_wchan (k : TkId) (f : Tk → Tk) : (d.updTk k f).wchan = d.wchan := rfl
@[simp] theorem setRef_wchan (r : Nat) (x : RefRun) : (d.setRef r x).wchan = d.wchan := rfl
@[simp] theorem setRep_wchan (r : Nat) (x : Replica) : (d.setRep r x).wchan = d.wchan := rfl
@[simp] theorem setTether_wchan (r : Nat) (x : TetherRep) : (d.setTether r x).wchan = d.wchan := rfl
@[simp] theorem setLink_wchan (r : Nat) (x : D2d) : (d.setLink r x).wchan = d.wchan := rfl
@[simp] theorem setFlt_wchan (x : FaultSt) : (d.setFlt x).wchan = d.wchan := rfl
@[simp] theorem setNet_wchan (x : NetSt) : (d.setNet x).wchan = d.wchan := rfl
@[simp] theorem setPtp_wchan (i p : Nat) (x : PtpPort) : (d.setPtp i p x).wchan = d.wchan := rfl
@[simp] theorem setTsq_wchan (p : Nat) (x : Tsq) : (d.setTsq p x).wchan = d.wchan := rfl
@[simp] theorem setHost_wchan (x : HostSt) : (d.setHost x).wchan = d.wchan := rfl
@[simp] theorem setPcie_wchan (x : PcieSt) : (d.setPcie x).wchan = d.wchan := rfl
@[simp] theorem setQueue_wchan (q : Nat) (x : Queue) : (d.setQueue q x).wchan = d.wchan := rfl
@[simp] theorem setLan_wchan (x : LanSt) : (d.setLan x).wchan = d.wchan := rfl
@[simp] theorem setPort_wchan (p : Nat) (x : PortSt) : (d.setPort p x).wchan = d.wchan := rfl
@[simp] theorem setSession_wchan (p : Nat) (x : Session) : (d.setSession p x).wchan = d.wchan := rfl
@[simp] theorem setEcl_wchan (x : EclSt) : (d.setEcl x).wchan = d.wchan := rfl
@[simp] theorem setFn_wchan (p : Nat) (x : RecFn) : (d.setFn p x).wchan = d.wchan := rfl
@[simp] theorem setPair_wchan (p : Nat) (x : Pair) : (d.setPair p x).wchan = d.wchan := rfl
@[simp] theorem setRing_wchan (p : Nat) (x : Ring) : (d.setRing p x).wchan = d.wchan := rfl
@[simp] theorem setIng_wchan (x : IngestSt) : (d.setIng x).wchan = d.wchan := rfl
@[simp] theorem setPmu_wchan (p : Nat) (x : PmuRun) : (d.setPmu p x).wchan = d.wchan := rfl
@[simp] theorem setTab_wchan (x : TableSt) : (d.setTab x).wchan = d.wchan := rfl
@[simp] theorem setRegion_wchan (p : Nat) (x : Region) : (d.setRegion p x).wchan = d.wchan := rfl
@[simp] theorem setRec_wchan (p : Nat) (x : SigRec) : (d.setRec p x).wchan = d.wchan := rfl
@[simp] theorem setEng_wchan (x : EngSt) : (d.setEng x).wchan = d.wchan := rfl
@[simp] theorem setKslot_wchan (p : Nat) (x : KSlot) : (d.setKslot p x).wchan = d.wchan := rfl
@[simp] theorem setBind_wchan (p : Nat) (x : BindRun) : (d.setBind p x).wchan = d.wchan := rfl
@[simp] theorem setEngine_wchan (p : Nat) (x : Engine) : (d.setEngine p x).wchan = d.wchan := rfl
@[simp] theorem setCapture_wchan (p : Nat) (x : Capture) : (d.setCapture p x).wchan = d.wchan := rfl
@[simp] theorem setLine_wchan (p : Nat) (x : Line) : (d.setLine p x).wchan = d.wchan := rfl
@[simp] theorem setPow_wchan (x : PowerSt) : (d.setPow x).wchan = d.wchan := rfl
@[simp] theorem setSlot_wchan (k : Nat) (x : Slot) : (d.setSlot k x).wchan = d.wchan := rfl
@[simp] theorem setMbx_wchan (k : Nat) (x : Mailbox) : (d.setMbx k x).wchan = d.wchan := rfl
@[simp] theorem setCapture_capture_same (k : Nat) (x : Capture) : (d.setCapture k x).capture k = x := tget_tput_same _ _ _ _
theorem setCapture_capture_ne {k m : Nat} (x : Capture) (h : m ≠ k) : (d.setCapture k x).capture m = d.capture m := tget_tput_ne _ _ _ _ h
@[simp] theorem put_capture (o e v : Nat) : (d.put o e v).capture = d.capture := rfl
@[simp] theorem putB_capture (o e : Nat) (v : List Byte) : (d.putB o e v).capture = d.capture := rfl
@[simp] theorem putSh_capture (o e v : Nat) : (d.putSh o e v).capture = d.capture := rfl
@[simp] theorem putShB_capture (o e : Nat) (v : List Byte) : (d.putShB o e v).capture = d.capture := rfl
@[simp] theorem puti_capture (o e : Nat) (v : Int) : (d.puti o e v).capture = d.capture := rfl
@[simp] theorem add_capture (o e n : Nat) : (d.add o e n).capture = d.capture := rfl
@[simp] theorem inc_capture (o e : Nat) : (d.inc o e).capture = d.capture := rfl
@[simp] theorem raiseAt_capture (t a b c x : Nat) : (d.raiseAt t a b c x).capture = d.capture := rfl
@[simp] theorem raise_capture (a b c x : Nat) : (d.raise a b c x).capture = d.capture := rfl
@[simp] theorem setLive_capture (a b : Nat) (v : Bool) : (d.setLive a b v).capture = d.capture := rfl
@[simp] theorem emit_capture (x : Out) : (d.emit x).capture = d.capture := rfl
@[simp] theorem at_capture (t : Nat) : (d.at_ t).capture = d.capture := rfl
@[simp] theorem setObj_capture (x : ObjSt) : (d.setObj x).capture = d.capture := rfl
@[simp] theorem setTim_capture (x : TimeSt) : (d.setTim x).capture = d.capture := rfl
@[simp] theorem updTk_capture (k : TkId) (f : Tk → Tk) : (d.updTk k f).capture = d.capture := rfl
@[simp] theorem setRef_capture (r : Nat) (x : RefRun) : (d.setRef r x).capture = d.capture := rfl
@[simp] theorem setRep_capture (r : Nat) (x : Replica) : (d.setRep r x).capture = d.capture := rfl
@[simp] theorem setTether_capture (r : Nat) (x : TetherRep) : (d.setTether r x).capture = d.capture := rfl
@[simp] theorem setLink_capture (r : Nat) (x : D2d) : (d.setLink r x).capture = d.capture := rfl
@[simp] theorem setFlt_capture (x : FaultSt) : (d.setFlt x).capture = d.capture := rfl
@[simp] theorem setNet_capture (x : NetSt) : (d.setNet x).capture = d.capture := rfl
@[simp] theorem setPtp_capture (i p : Nat) (x : PtpPort) : (d.setPtp i p x).capture = d.capture := rfl
@[simp] theorem setTsq_capture (p : Nat) (x : Tsq) : (d.setTsq p x).capture = d.capture := rfl
@[simp] theorem setHost_capture (x : HostSt) : (d.setHost x).capture = d.capture := rfl
@[simp] theorem setPcie_capture (x : PcieSt) : (d.setPcie x).capture = d.capture := rfl
@[simp] theorem setQueue_capture (q : Nat) (x : Queue) : (d.setQueue q x).capture = d.capture := rfl
@[simp] theorem setLan_capture (x : LanSt) : (d.setLan x).capture = d.capture := rfl
@[simp] theorem setPort_capture (p : Nat) (x : PortSt) : (d.setPort p x).capture = d.capture := rfl
@[simp] theorem setSession_capture (p : Nat) (x : Session) : (d.setSession p x).capture = d.capture := rfl
@[simp] theorem setEcl_capture (x : EclSt) : (d.setEcl x).capture = d.capture := rfl
@[simp] theorem setFn_capture (p : Nat) (x : RecFn) : (d.setFn p x).capture = d.capture := rfl
@[simp] theorem setPair_capture (p : Nat) (x : Pair) : (d.setPair p x).capture = d.capture := rfl
@[simp] theorem setRing_capture (p : Nat) (x : Ring) : (d.setRing p x).capture = d.capture := rfl
@[simp] theorem setIng_capture (x : IngestSt) : (d.setIng x).capture = d.capture := rfl
@[simp] theorem setPmu_capture (p : Nat) (x : PmuRun) : (d.setPmu p x).capture = d.capture := rfl
@[simp] theorem setTab_capture (x : TableSt) : (d.setTab x).capture = d.capture := rfl
@[simp] theorem setRegion_capture (p : Nat) (x : Region) : (d.setRegion p x).capture = d.capture := rfl
@[simp] theorem setRec_capture (p : Nat) (x : SigRec) : (d.setRec p x).capture = d.capture := rfl
@[simp] theorem setEng_capture (x : EngSt) : (d.setEng x).capture = d.capture := rfl
@[simp] theorem setKslot_capture (p : Nat) (x : KSlot) : (d.setKslot p x).capture = d.capture := rfl
@[simp] theorem setBind_capture (p : Nat) (x : BindRun) : (d.setBind p x).capture = d.capture := rfl
@[simp] theorem setEngine_capture (p : Nat) (x : Engine) : (d.setEngine p x).capture = d.capture := rfl
@[simp] theorem setWchan_capture (p : Nat) (x : WChan) : (d.setWchan p x).capture = d.capture := rfl
@[simp] theorem setLine_capture (p : Nat) (x : Line) : (d.setLine p x).capture = d.capture := rfl
@[simp] theorem setPow_capture (x : PowerSt) : (d.setPow x).capture = d.capture := rfl
@[simp] theorem setSlot_capture (k : Nat) (x : Slot) : (d.setSlot k x).capture = d.capture := rfl
@[simp] theorem setMbx_capture (k : Nat) (x : Mailbox) : (d.setMbx k x).capture = d.capture := rfl
@[simp] theorem setLine_line_same (k : Nat) (x : Line) : (d.setLine k x).line k = x := tget_tput_same _ _ _ _
theorem setLine_line_ne {k m : Nat} (x : Line) (h : m ≠ k) : (d.setLine k x).line m = d.line m := tget_tput_ne _ _ _ _ h
@[simp] theorem put_line (o e v : Nat) : (d.put o e v).line = d.line := rfl
@[simp] theorem putB_line (o e : Nat) (v : List Byte) : (d.putB o e v).line = d.line := rfl
@[simp] theorem putSh_line (o e v : Nat) : (d.putSh o e v).line = d.line := rfl
@[simp] theorem putShB_line (o e : Nat) (v : List Byte) : (d.putShB o e v).line = d.line := rfl
@[simp] theorem puti_line (o e : Nat) (v : Int) : (d.puti o e v).line = d.line := rfl
@[simp] theorem add_line (o e n : Nat) : (d.add o e n).line = d.line := rfl
@[simp] theorem inc_line (o e : Nat) : (d.inc o e).line = d.line := rfl
@[simp] theorem raiseAt_line (t a b c x : Nat) : (d.raiseAt t a b c x).line = d.line := rfl
@[simp] theorem raise_line (a b c x : Nat) : (d.raise a b c x).line = d.line := rfl
@[simp] theorem setLive_line (a b : Nat) (v : Bool) : (d.setLive a b v).line = d.line := rfl
@[simp] theorem emit_line (x : Out) : (d.emit x).line = d.line := rfl
@[simp] theorem at_line (t : Nat) : (d.at_ t).line = d.line := rfl
@[simp] theorem setObj_line (x : ObjSt) : (d.setObj x).line = d.line := rfl
@[simp] theorem setTim_line (x : TimeSt) : (d.setTim x).line = d.line := rfl
@[simp] theorem updTk_line (k : TkId) (f : Tk → Tk) : (d.updTk k f).line = d.line := rfl
@[simp] theorem setRef_line (r : Nat) (x : RefRun) : (d.setRef r x).line = d.line := rfl
@[simp] theorem setRep_line (r : Nat) (x : Replica) : (d.setRep r x).line = d.line := rfl
@[simp] theorem setTether_line (r : Nat) (x : TetherRep) : (d.setTether r x).line = d.line := rfl
@[simp] theorem setLink_line (r : Nat) (x : D2d) : (d.setLink r x).line = d.line := rfl
@[simp] theorem setFlt_line (x : FaultSt) : (d.setFlt x).line = d.line := rfl
@[simp] theorem setNet_line (x : NetSt) : (d.setNet x).line = d.line := rfl
@[simp] theorem setPtp_line (i p : Nat) (x : PtpPort) : (d.setPtp i p x).line = d.line := rfl
@[simp] theorem setTsq_line (p : Nat) (x : Tsq) : (d.setTsq p x).line = d.line := rfl
@[simp] theorem setHost_line (x : HostSt) : (d.setHost x).line = d.line := rfl
@[simp] theorem setPcie_line (x : PcieSt) : (d.setPcie x).line = d.line := rfl
@[simp] theorem setQueue_line (q : Nat) (x : Queue) : (d.setQueue q x).line = d.line := rfl
@[simp] theorem setLan_line (x : LanSt) : (d.setLan x).line = d.line := rfl
@[simp] theorem setPort_line (p : Nat) (x : PortSt) : (d.setPort p x).line = d.line := rfl
@[simp] theorem setSession_line (p : Nat) (x : Session) : (d.setSession p x).line = d.line := rfl
@[simp] theorem setEcl_line (x : EclSt) : (d.setEcl x).line = d.line := rfl
@[simp] theorem setFn_line (p : Nat) (x : RecFn) : (d.setFn p x).line = d.line := rfl
@[simp] theorem setPair_line (p : Nat) (x : Pair) : (d.setPair p x).line = d.line := rfl
@[simp] theorem setRing_line (p : Nat) (x : Ring) : (d.setRing p x).line = d.line := rfl
@[simp] theorem setIng_line (x : IngestSt) : (d.setIng x).line = d.line := rfl
@[simp] theorem setPmu_line (p : Nat) (x : PmuRun) : (d.setPmu p x).line = d.line := rfl
@[simp] theorem setTab_line (x : TableSt) : (d.setTab x).line = d.line := rfl
@[simp] theorem setRegion_line (p : Nat) (x : Region) : (d.setRegion p x).line = d.line := rfl
@[simp] theorem setRec_line (p : Nat) (x : SigRec) : (d.setRec p x).line = d.line := rfl
@[simp] theorem setEng_line (x : EngSt) : (d.setEng x).line = d.line := rfl
@[simp] theorem setKslot_line (p : Nat) (x : KSlot) : (d.setKslot p x).line = d.line := rfl
@[simp] theorem setBind_line (p : Nat) (x : BindRun) : (d.setBind p x).line = d.line := rfl
@[simp] theorem setEngine_line (p : Nat) (x : Engine) : (d.setEngine p x).line = d.line := rfl
@[simp] theorem setWchan_line (p : Nat) (x : WChan) : (d.setWchan p x).line = d.line := rfl
@[simp] theorem setCapture_line (p : Nat) (x : Capture) : (d.setCapture p x).line = d.line := rfl
@[simp] theorem setPow_line (x : PowerSt) : (d.setPow x).line = d.line := rfl
@[simp] theorem setSlot_line (k : Nat) (x : Slot) : (d.setSlot k x).line = d.line := rfl
@[simp] theorem setMbx_line (k : Nat) (x : Mailbox) : (d.setMbx k x).line = d.line := rfl
@[simp] theorem setMbx_mbx_same (k : Nat) (x : Mailbox) : (d.setMbx k x).mbx k = x := tget_tput_same _ _ _ _
theorem setMbx_mbx_ne {k m : Nat} (x : Mailbox) (h : m ≠ k) : (d.setMbx k x).mbx m = d.mbx m := tget_tput_ne _ _ _ _ h
@[simp] theorem put_mbx (o e v : Nat) : (d.put o e v).mbx = d.mbx := rfl
@[simp] theorem putB_mbx (o e : Nat) (v : List Byte) : (d.putB o e v).mbx = d.mbx := rfl
@[simp] theorem putSh_mbx (o e v : Nat) : (d.putSh o e v).mbx = d.mbx := rfl
@[simp] theorem putShB_mbx (o e : Nat) (v : List Byte) : (d.putShB o e v).mbx = d.mbx := rfl
@[simp] theorem puti_mbx (o e : Nat) (v : Int) : (d.puti o e v).mbx = d.mbx := rfl
@[simp] theorem add_mbx (o e n : Nat) : (d.add o e n).mbx = d.mbx := rfl
@[simp] theorem inc_mbx (o e : Nat) : (d.inc o e).mbx = d.mbx := rfl
@[simp] theorem raiseAt_mbx (t a b c x : Nat) : (d.raiseAt t a b c x).mbx = d.mbx := rfl
@[simp] theorem raise_mbx (a b c x : Nat) : (d.raise a b c x).mbx = d.mbx := rfl
@[simp] theorem setLive_mbx (a b : Nat) (v : Bool) : (d.setLive a b v).mbx = d.mbx := rfl
@[simp] theorem emit_mbx (x : Out) : (d.emit x).mbx = d.mbx := rfl
@[simp] theorem at_mbx (t : Nat) : (d.at_ t).mbx = d.mbx := rfl
@[simp] theorem setTim_mbx (x : TimeSt) : (d.setTim x).mbx = d.mbx := rfl
@[simp] theorem updTk_mbx (k : TkId) (f : Tk → Tk) : (d.updTk k f).mbx = d.mbx := rfl
@[simp] theorem setRef_mbx (r : Nat) (x : RefRun) : (d.setRef r x).mbx = d.mbx := rfl
@[simp] theorem setRep_mbx (r : Nat) (x : Replica) : (d.setRep r x).mbx = d.mbx := rfl
@[simp] theorem setTether_mbx (r : Nat) (x : TetherRep) : (d.setTether r x).mbx = d.mbx := rfl
@[simp] theorem setLink_mbx (r : Nat) (x : D2d) : (d.setLink r x).mbx = d.mbx := rfl
@[simp] theorem setFlt_mbx (x : FaultSt) : (d.setFlt x).mbx = d.mbx := rfl
@[simp] theorem setNet_mbx (x : NetSt) : (d.setNet x).mbx = d.mbx := rfl
@[simp] theorem setPtp_mbx (i p : Nat) (x : PtpPort) : (d.setPtp i p x).mbx = d.mbx := rfl
@[simp] theorem setTsq_mbx (p : Nat) (x : Tsq) : (d.setTsq p x).mbx = d.mbx := rfl
@[simp] theorem setHost_mbx (x : HostSt) : (d.setHost x).mbx = d.mbx := rfl
@[simp] theorem setPcie_mbx (x : PcieSt) : (d.setPcie x).mbx = d.mbx := rfl
@[simp] theorem setQueue_mbx (q : Nat) (x : Queue) : (d.setQueue q x).mbx = d.mbx := rfl
@[simp] theorem setLan_mbx (x : LanSt) : (d.setLan x).mbx = d.mbx := rfl
@[simp] theorem setPort_mbx (p : Nat) (x : PortSt) : (d.setPort p x).mbx = d.mbx := rfl
@[simp] theorem setSession_mbx (p : Nat) (x : Session) : (d.setSession p x).mbx = d.mbx := rfl
@[simp] theorem setEcl_mbx (x : EclSt) : (d.setEcl x).mbx = d.mbx := rfl
@[simp] theorem setFn_mbx (p : Nat) (x : RecFn) : (d.setFn p x).mbx = d.mbx := rfl
@[simp] theorem setPair_mbx (p : Nat) (x : Pair) : (d.setPair p x).mbx = d.mbx := rfl
@[simp] theorem setRing_mbx (p : Nat) (x : Ring) : (d.setRing p x).mbx = d.mbx := rfl
@[simp] theorem setIng_mbx (x : IngestSt) : (d.setIng x).mbx = d.mbx := rfl
@[simp] theorem setPmu_mbx (p : Nat) (x : PmuRun) : (d.setPmu p x).mbx = d.mbx := rfl
@[simp] theorem setTab_mbx (x : TableSt) : (d.setTab x).mbx = d.mbx := rfl
@[simp] theorem setRegion_mbx (p : Nat) (x : Region) : (d.setRegion p x).mbx = d.mbx := rfl
@[simp] theorem setRec_mbx (p : Nat) (x : SigRec) : (d.setRec p x).mbx = d.mbx := rfl
@[simp] theorem setEng_mbx (x : EngSt) : (d.setEng x).mbx = d.mbx := rfl
@[simp] theorem setKslot_mbx (p : Nat) (x : KSlot) : (d.setKslot p x).mbx = d.mbx := rfl
@[simp] theorem setBind_mbx (p : Nat) (x : BindRun) : (d.setBind p x).mbx = d.mbx := rfl
@[simp] theorem setEngine_mbx (p : Nat) (x : Engine) : (d.setEngine p x).mbx = d.mbx := rfl
@[simp] theorem setWave_mbx (x : WaveSt) : (d.setWave x).mbx = d.mbx := rfl
@[simp] theorem setWchan_mbx (p : Nat) (x : WChan) : (d.setWchan p x).mbx = d.mbx := rfl
@[simp] theorem setCapture_mbx (p : Nat) (x : Capture) : (d.setCapture p x).mbx = d.mbx := rfl
@[simp] theorem setLine_mbx (p : Nat) (x : Line) : (d.setLine p x).mbx = d.mbx := rfl
@[simp] theorem setPow_mbx (x : PowerSt) : (d.setPow x).mbx = d.mbx := rfl
@[simp] theorem setSlot_mbx (k : Nat) (x : Slot) : (d.setSlot k x).mbx = d.mbx := rfl
@[simp] theorem setQueue_queue_same (k : Nat) (x : Queue) : (d.setQueue k x).queue k = x := tget_tput_same _ _ _ _
theorem setQueue_queue_ne {k m : Nat} (x : Queue) (h : m ≠ k) : (d.setQueue k x).queue m = d.queue m := tget_tput_ne _ _ _ _ h
@[simp] theorem put_queue (o e v : Nat) : (d.put o e v).queue = d.queue := rfl
@[simp] theorem putB_queue (o e : Nat) (v : List Byte) : (d.putB o e v).queue = d.queue := rfl
@[simp] theorem putSh_queue (o e v : Nat) : (d.putSh o e v).queue = d.queue := rfl
@[simp] theorem putShB_queue (o e : Nat) (v : List Byte) : (d.putShB o e v).queue = d.queue := rfl
@[simp] theorem puti_queue (o e : Nat) (v : Int) : (d.puti o e v).queue = d.queue := rfl
@[simp] theorem add_queue (o e n : Nat) : (d.add o e n).queue = d.queue := rfl
@[simp] theorem inc_queue (o e : Nat) : (d.inc o e).queue = d.queue := rfl
@[simp] theorem raiseAt_queue (t a b c x : Nat) : (d.raiseAt t a b c x).queue = d.queue := rfl
@[simp] theorem raise_queue (a b c x : Nat) : (d.raise a b c x).queue = d.queue := rfl
@[simp] theorem setLive_queue (a b : Nat) (v : Bool) : (d.setLive a b v).queue = d.queue := rfl
@[simp] theorem emit_queue (x : Out) : (d.emit x).queue = d.queue := rfl
@[simp] theorem at_queue (t : Nat) : (d.at_ t).queue = d.queue := rfl
@[simp] theorem setObj_queue (x : ObjSt) : (d.setObj x).queue = d.queue := rfl
@[simp] theorem setTim_queue (x : TimeSt) : (d.setTim x).queue = d.queue := rfl
@[simp] theorem updTk_queue (k : TkId) (f : Tk → Tk) : (d.updTk k f).queue = d.queue := rfl
@[simp] theorem setRef_queue (r : Nat) (x : RefRun) : (d.setRef r x).queue = d.queue := rfl
@[simp] theorem setRep_queue (r : Nat) (x : Replica) : (d.setRep r x).queue = d.queue := rfl
@[simp] theorem setTether_queue (r : Nat) (x : TetherRep) : (d.setTether r x).queue = d.queue := rfl
@[simp] theorem setLink_queue (r : Nat) (x : D2d) : (d.setLink r x).queue = d.queue := rfl
@[simp] theorem setFlt_queue (x : FaultSt) : (d.setFlt x).queue = d.queue := rfl
@[simp] theorem setNet_queue (x : NetSt) : (d.setNet x).queue = d.queue := rfl
@[simp] theorem setPtp_queue (i p : Nat) (x : PtpPort) : (d.setPtp i p x).queue = d.queue := rfl
@[simp] theorem setTsq_queue (p : Nat) (x : Tsq) : (d.setTsq p x).queue = d.queue := rfl
@[simp] theorem setPcie_queue (x : PcieSt) : (d.setPcie x).queue = d.queue := rfl
@[simp] theorem setLan_queue (x : LanSt) : (d.setLan x).queue = d.queue := rfl
@[simp] theorem setPort_queue (p : Nat) (x : PortSt) : (d.setPort p x).queue = d.queue := rfl
@[simp] theorem setSession_queue (p : Nat) (x : Session) : (d.setSession p x).queue = d.queue := rfl
@[simp] theorem setEcl_queue (x : EclSt) : (d.setEcl x).queue = d.queue := rfl
@[simp] theorem setFn_queue (p : Nat) (x : RecFn) : (d.setFn p x).queue = d.queue := rfl
@[simp] theorem setPair_queue (p : Nat) (x : Pair) : (d.setPair p x).queue = d.queue := rfl
@[simp] theorem setRing_queue (p : Nat) (x : Ring) : (d.setRing p x).queue = d.queue := rfl
@[simp] theorem setIng_queue (x : IngestSt) : (d.setIng x).queue = d.queue := rfl
@[simp] theorem setPmu_queue (p : Nat) (x : PmuRun) : (d.setPmu p x).queue = d.queue := rfl
@[simp] theorem setTab_queue (x : TableSt) : (d.setTab x).queue = d.queue := rfl
@[simp] theorem setRegion_queue (p : Nat) (x : Region) : (d.setRegion p x).queue = d.queue := rfl
@[simp] theorem setRec_queue (p : Nat) (x : SigRec) : (d.setRec p x).queue = d.queue := rfl
@[simp] theorem setEng_queue (x : EngSt) : (d.setEng x).queue = d.queue := rfl
@[simp] theorem setKslot_queue (p : Nat) (x : KSlot) : (d.setKslot p x).queue = d.queue := rfl
@[simp] theorem setBind_queue (p : Nat) (x : BindRun) : (d.setBind p x).queue = d.queue := rfl
@[simp] theorem setEngine_queue (p : Nat) (x : Engine) : (d.setEngine p x).queue = d.queue := rfl
@[simp] theorem setWave_queue (x : WaveSt) : (d.setWave x).queue = d.queue := rfl
@[simp] theorem setWchan_queue (p : Nat) (x : WChan) : (d.setWchan p x).queue = d.queue := rfl
@[simp] theorem setCapture_queue (p : Nat) (x : Capture) : (d.setCapture p x).queue = d.queue := rfl
@[simp] theorem setLine_queue (p : Nat) (x : Line) : (d.setLine p x).queue = d.queue := rfl
@[simp] theorem setPow_queue (x : PowerSt) : (d.setPow x).queue = d.queue := rfl
@[simp] theorem setSlot_queue (k : Nat) (x : Slot) : (d.setSlot k x).queue = d.queue := rfl
@[simp] theorem setMbx_queue (k : Nat) (x : Mailbox) : (d.setMbx k x).queue = d.queue := rfl
@[simp] theorem setPmu_pmu_same (k : Nat) (x : PmuRun) : (d.setPmu k x).pmu k = x := tget_tput_same _ _ _ _
theorem setPmu_pmu_ne {k m : Nat} (x : PmuRun) (h : m ≠ k) : (d.setPmu k x).pmu m = d.pmu m := tget_tput_ne _ _ _ _ h
@[simp] theorem put_pmu (o e v : Nat) : (d.put o e v).pmu = d.pmu := rfl
@[simp] theorem putB_pmu (o e : Nat) (v : List Byte) : (d.putB o e v).pmu = d.pmu := rfl
@[simp] theorem putSh_pmu (o e v : Nat) : (d.putSh o e v).pmu = d.pmu := rfl
@[simp] theorem putShB_pmu (o e : Nat) (v : List Byte) : (d.putShB o e v).pmu = d.pmu := rfl
@[simp] theorem puti_pmu (o e : Nat) (v : Int) : (d.puti o e v).pmu = d.pmu := rfl
@[simp] theorem add_pmu (o e n : Nat) : (d.add o e n).pmu = d.pmu := rfl
@[simp] theorem inc_pmu (o e : Nat) : (d.inc o e).pmu = d.pmu := rfl
@[simp] theorem raiseAt_pmu (t a b c x : Nat) : (d.raiseAt t a b c x).pmu = d.pmu := rfl
@[simp] theorem raise_pmu (a b c x : Nat) : (d.raise a b c x).pmu = d.pmu := rfl
@[simp] theorem setLive_pmu (a b : Nat) (v : Bool) : (d.setLive a b v).pmu = d.pmu := rfl
@[simp] theorem emit_pmu (x : Out) : (d.emit x).pmu = d.pmu := rfl
@[simp] theorem at_pmu (t : Nat) : (d.at_ t).pmu = d.pmu := rfl
@[simp] theorem setObj_pmu (x : ObjSt) : (d.setObj x).pmu = d.pmu := rfl
@[simp] theorem setTim_pmu (x : TimeSt) : (d.setTim x).pmu = d.pmu := rfl
@[simp] theorem updTk_pmu (k : TkId) (f : Tk → Tk) : (d.updTk k f).pmu = d.pmu := rfl
@[simp] theorem setRef_pmu (r : Nat) (x : RefRun) : (d.setRef r x).pmu = d.pmu := rfl
@[simp] theorem setRep_pmu (r : Nat) (x : Replica) : (d.setRep r x).pmu = d.pmu := rfl
@[simp] theorem setTether_pmu (r : Nat) (x : TetherRep) : (d.setTether r x).pmu = d.pmu := rfl
@[simp] theorem setLink_pmu (r : Nat) (x : D2d) : (d.setLink r x).pmu = d.pmu := rfl
@[simp] theorem setFlt_pmu (x : FaultSt) : (d.setFlt x).pmu = d.pmu := rfl
@[simp] theorem setNet_pmu (x : NetSt) : (d.setNet x).pmu = d.pmu := rfl
@[simp] theorem setPtp_pmu (i p : Nat) (x : PtpPort) : (d.setPtp i p x).pmu = d.pmu := rfl
@[simp] theorem setTsq_pmu (p : Nat) (x : Tsq) : (d.setTsq p x).pmu = d.pmu := rfl
@[simp] theorem setHost_pmu (x : HostSt) : (d.setHost x).pmu = d.pmu := rfl
@[simp] theorem setPcie_pmu (x : PcieSt) : (d.setPcie x).pmu = d.pmu := rfl
@[simp] theorem setQueue_pmu (q : Nat) (x : Queue) : (d.setQueue q x).pmu = d.pmu := rfl
@[simp] theorem setLan_pmu (x : LanSt) : (d.setLan x).pmu = d.pmu := rfl
@[simp] theorem setPort_pmu (p : Nat) (x : PortSt) : (d.setPort p x).pmu = d.pmu := rfl
@[simp] theorem setSession_pmu (p : Nat) (x : Session) : (d.setSession p x).pmu = d.pmu := rfl
@[simp] theorem setEcl_pmu (x : EclSt) : (d.setEcl x).pmu = d.pmu := rfl
@[simp] theorem setFn_pmu (p : Nat) (x : RecFn) : (d.setFn p x).pmu = d.pmu := rfl
@[simp] theorem setPair_pmu (p : Nat) (x : Pair) : (d.setPair p x).pmu = d.pmu := rfl
@[simp] theorem setRing_pmu (p : Nat) (x : Ring) : (d.setRing p x).pmu = d.pmu := rfl
@[simp] theorem setTab_pmu (x : TableSt) : (d.setTab x).pmu = d.pmu := rfl
@[simp] theorem setRegion_pmu (p : Nat) (x : Region) : (d.setRegion p x).pmu = d.pmu := rfl
@[simp] theorem setRec_pmu (p : Nat) (x : SigRec) : (d.setRec p x).pmu = d.pmu := rfl
@[simp] theorem setEng_pmu (x : EngSt) : (d.setEng x).pmu = d.pmu := rfl
@[simp] theorem setKslot_pmu (p : Nat) (x : KSlot) : (d.setKslot p x).pmu = d.pmu := rfl
@[simp] theorem setBind_pmu (p : Nat) (x : BindRun) : (d.setBind p x).pmu = d.pmu := rfl
@[simp] theorem setEngine_pmu (p : Nat) (x : Engine) : (d.setEngine p x).pmu = d.pmu := rfl
@[simp] theorem setWave_pmu (x : WaveSt) : (d.setWave x).pmu = d.pmu := rfl
@[simp] theorem setWchan_pmu (p : Nat) (x : WChan) : (d.setWchan p x).pmu = d.pmu := rfl
@[simp] theorem setCapture_pmu (p : Nat) (x : Capture) : (d.setCapture p x).pmu = d.pmu := rfl
@[simp] theorem setLine_pmu (p : Nat) (x : Line) : (d.setLine p x).pmu = d.pmu := rfl
@[simp] theorem setPow_pmu (x : PowerSt) : (d.setPow x).pmu = d.pmu := rfl
@[simp] theorem setSlot_pmu (k : Nat) (x : Slot) : (d.setSlot k x).pmu = d.pmu := rfl
@[simp] theorem setMbx_pmu (k : Nat) (x : Mailbox) : (d.setMbx k x).pmu = d.pmu := rfl
@[simp] theorem setFn_fn_same (k : Nat) (x : RecFn) : (d.setFn k x).fn k = x := tget_tput_same _ _ _ _
theorem setFn_fn_ne {k m : Nat} (x : RecFn) (h : m ≠ k) : (d.setFn k x).fn m = d.fn m := tget_tput_ne _ _ _ _ h
@[simp] theorem put_fn (o e v : Nat) : (d.put o e v).fn = d.fn := rfl
@[simp] theorem putB_fn (o e : Nat) (v : List Byte) : (d.putB o e v).fn = d.fn := rfl
@[simp] theorem putSh_fn (o e v : Nat) : (d.putSh o e v).fn = d.fn := rfl
@[simp] theorem putShB_fn (o e : Nat) (v : List Byte) : (d.putShB o e v).fn = d.fn := rfl
@[simp] theorem puti_fn (o e : Nat) (v : Int) : (d.puti o e v).fn = d.fn := rfl
@[simp] theorem add_fn (o e n : Nat) : (d.add o e n).fn = d.fn := rfl
@[simp] theorem inc_fn (o e : Nat) : (d.inc o e).fn = d.fn := rfl
@[simp] theorem raiseAt_fn (t a b c x : Nat) : (d.raiseAt t a b c x).fn = d.fn := rfl
@[simp] theorem raise_fn (a b c x : Nat) : (d.raise a b c x).fn = d.fn := rfl
@[simp] theorem setLive_fn (a b : Nat) (v : Bool) : (d.setLive a b v).fn = d.fn := rfl
@[simp] theorem emit_fn (x : Out) : (d.emit x).fn = d.fn := rfl
@[simp] theorem at_fn (t : Nat) : (d.at_ t).fn = d.fn := rfl
@[simp] theorem setObj_fn (x : ObjSt) : (d.setObj x).fn = d.fn := rfl
@[simp] theorem setTim_fn (x : TimeSt) : (d.setTim x).fn = d.fn := rfl
@[simp] theorem updTk_fn (k : TkId) (f : Tk → Tk) : (d.updTk k f).fn = d.fn := rfl
@[simp] theorem setRef_fn (r : Nat) (x : RefRun) : (d.setRef r x).fn = d.fn := rfl
@[simp] theorem setRep_fn (r : Nat) (x : Replica) : (d.setRep r x).fn = d.fn := rfl
@[simp] theorem setTether_fn (r : Nat) (x : TetherRep) : (d.setTether r x).fn = d.fn := rfl
@[simp] theorem setLink_fn (r : Nat) (x : D2d) : (d.setLink r x).fn = d.fn := rfl
@[simp] theorem setFlt_fn (x : FaultSt) : (d.setFlt x).fn = d.fn := rfl
@[simp] theorem setNet_fn (x : NetSt) : (d.setNet x).fn = d.fn := rfl
@[simp] theorem setPtp_fn (i p : Nat) (x : PtpPort) : (d.setPtp i p x).fn = d.fn := rfl
@[simp] theorem setTsq_fn (p : Nat) (x : Tsq) : (d.setTsq p x).fn = d.fn := rfl
@[simp] theorem setHost_fn (x : HostSt) : (d.setHost x).fn = d.fn := rfl
@[simp] theorem setPcie_fn (x : PcieSt) : (d.setPcie x).fn = d.fn := rfl
@[simp] theorem setQueue_fn (q : Nat) (x : Queue) : (d.setQueue q x).fn = d.fn := rfl
@[simp] theorem setLan_fn (x : LanSt) : (d.setLan x).fn = d.fn := rfl
@[simp] theorem setPort_fn (p : Nat) (x : PortSt) : (d.setPort p x).fn = d.fn := rfl
@[simp] theorem setSession_fn (p : Nat) (x : Session) : (d.setSession p x).fn = d.fn := rfl
@[simp] theorem setPair_fn (p : Nat) (x : Pair) : (d.setPair p x).fn = d.fn := rfl
@[simp] theorem setRing_fn (p : Nat) (x : Ring) : (d.setRing p x).fn = d.fn := rfl
@[simp] theorem setIng_fn (x : IngestSt) : (d.setIng x).fn = d.fn := rfl
@[simp] theorem setPmu_fn (p : Nat) (x : PmuRun) : (d.setPmu p x).fn = d.fn := rfl
@[simp] theorem setTab_fn (x : TableSt) : (d.setTab x).fn = d.fn := rfl
@[simp] theorem setRegion_fn (p : Nat) (x : Region) : (d.setRegion p x).fn = d.fn := rfl
@[simp] theorem setRec_fn (p : Nat) (x : SigRec) : (d.setRec p x).fn = d.fn := rfl
@[simp] theorem setEng_fn (x : EngSt) : (d.setEng x).fn = d.fn := rfl
@[simp] theorem setKslot_fn (p : Nat) (x : KSlot) : (d.setKslot p x).fn = d.fn := rfl
@[simp] theorem setBind_fn (p : Nat) (x : BindRun) : (d.setBind p x).fn = d.fn := rfl
@[simp] theorem setEngine_fn (p : Nat) (x : Engine) : (d.setEngine p x).fn = d.fn := rfl
@[simp] theorem setWave_fn (x : WaveSt) : (d.setWave x).fn = d.fn := rfl
@[simp] theorem setWchan_fn (p : Nat) (x : WChan) : (d.setWchan p x).fn = d.fn := rfl
@[simp] theorem setCapture_fn (p : Nat) (x : Capture) : (d.setCapture p x).fn = d.fn := rfl
@[simp] theorem setLine_fn (p : Nat) (x : Line) : (d.setLine p x).fn = d.fn := rfl
@[simp] theorem setPow_fn (x : PowerSt) : (d.setPow x).fn = d.fn := rfl
@[simp] theorem setSlot_fn (k : Nat) (x : Slot) : (d.setSlot k x).fn = d.fn := rfl
@[simp] theorem setMbx_fn (k : Nat) (x : Mailbox) : (d.setMbx k x).fn = d.fn := rfl
@[simp] theorem setPair_pair_same (k : Nat) (x : Pair) : (d.setPair k x).pair k = x := tget_tput_same _ _ _ _
theorem setPair_pair_ne {k m : Nat} (x : Pair) (h : m ≠ k) : (d.setPair k x).pair m = d.pair m := tget_tput_ne _ _ _ _ h
@[simp] theorem put_pair (o e v : Nat) : (d.put o e v).pair = d.pair := rfl
@[simp] theorem putB_pair (o e : Nat) (v : List Byte) : (d.putB o e v).pair = d.pair := rfl
@[simp] theorem putSh_pair (o e v : Nat) : (d.putSh o e v).pair = d.pair := rfl
@[simp] theorem putShB_pair (o e : Nat) (v : List Byte) : (d.putShB o e v).pair = d.pair := rfl
@[simp] theorem puti_pair (o e : Nat) (v : Int) : (d.puti o e v).pair = d.pair := rfl
@[simp] theorem add_pair (o e n : Nat) : (d.add o e n).pair = d.pair := rfl
@[simp] theorem inc_pair (o e : Nat) : (d.inc o e).pair = d.pair := rfl
@[simp] theorem raiseAt_pair (t a b c x : Nat) : (d.raiseAt t a b c x).pair = d.pair := rfl
@[simp] theorem raise_pair (a b c x : Nat) : (d.raise a b c x).pair = d.pair := rfl
@[simp] theorem setLive_pair (a b : Nat) (v : Bool) : (d.setLive a b v).pair = d.pair := rfl
@[simp] theorem emit_pair (x : Out) : (d.emit x).pair = d.pair := rfl
@[simp] theorem at_pair (t : Nat) : (d.at_ t).pair = d.pair := rfl
@[simp] theorem setObj_pair (x : ObjSt) : (d.setObj x).pair = d.pair := rfl
@[simp] theorem setTim_pair (x : TimeSt) : (d.setTim x).pair = d.pair := rfl
@[simp] theorem updTk_pair (k : TkId) (f : Tk → Tk) : (d.updTk k f).pair = d.pair := rfl
@[simp] theorem setRef_pair (r : Nat) (x : RefRun) : (d.setRef r x).pair = d.pair := rfl
@[simp] theorem setRep_pair (r : Nat) (x : Replica) : (d.setRep r x).pair = d.pair := rfl
@[simp] theorem setTether_pair (r : Nat) (x : TetherRep) : (d.setTether r x).pair = d.pair := rfl
@[simp] theorem setLink_pair (r : Nat) (x : D2d) : (d.setLink r x).pair = d.pair := rfl
@[simp] theorem setFlt_pair (x : FaultSt) : (d.setFlt x).pair = d.pair := rfl
@[simp] theorem setNet_pair (x : NetSt) : (d.setNet x).pair = d.pair := rfl
@[simp] theorem setPtp_pair (i p : Nat) (x : PtpPort) : (d.setPtp i p x).pair = d.pair := rfl
@[simp] theorem setTsq_pair (p : Nat) (x : Tsq) : (d.setTsq p x).pair = d.pair := rfl
@[simp] theorem setHost_pair (x : HostSt) : (d.setHost x).pair = d.pair := rfl
@[simp] theorem setPcie_pair (x : PcieSt) : (d.setPcie x).pair = d.pair := rfl
@[simp] theorem setQueue_pair (q : Nat) (x : Queue) : (d.setQueue q x).pair = d.pair := rfl
@[simp] theorem setLan_pair (x : LanSt) : (d.setLan x).pair = d.pair := rfl
@[simp] theorem setPort_pair (p : Nat) (x : PortSt) : (d.setPort p x).pair = d.pair := rfl
@[simp] theorem setSession_pair (p : Nat) (x : Session) : (d.setSession p x).pair = d.pair := rfl
@[simp] theorem setFn_pair (p : Nat) (x : RecFn) : (d.setFn p x).pair = d.pair := rfl
@[simp] theorem setRing_pair (p : Nat) (x : Ring) : (d.setRing p x).pair = d.pair := rfl
@[simp] theorem setIng_pair (x : IngestSt) : (d.setIng x).pair = d.pair := rfl
@[simp] theorem setPmu_pair (p : Nat) (x : PmuRun) : (d.setPmu p x).pair = d.pair := rfl
@[simp] theorem setTab_pair (x : TableSt) : (d.setTab x).pair = d.pair := rfl
@[simp] theorem setRegion_pair (p : Nat) (x : Region) : (d.setRegion p x).pair = d.pair := rfl
@[simp] theorem setRec_pair (p : Nat) (x : SigRec) : (d.setRec p x).pair = d.pair := rfl
@[simp] theorem setEng_pair (x : EngSt) : (d.setEng x).pair = d.pair := rfl
@[simp] theorem setKslot_pair (p : Nat) (x : KSlot) : (d.setKslot p x).pair = d.pair := rfl
@[simp] theorem setBind_pair (p : Nat) (x : BindRun) : (d.setBind p x).pair = d.pair := rfl
@[simp] theorem setEngine_pair (p : Nat) (x : Engine) : (d.setEngine p x).pair = d.pair := rfl
@[simp] theorem setWave_pair (x : WaveSt) : (d.setWave x).pair = d.pair := rfl
@[simp] theorem setWchan_pair (p : Nat) (x : WChan) : (d.setWchan p x).pair = d.pair := rfl
@[simp] theorem setCapture_pair (p : Nat) (x : Capture) : (d.setCapture p x).pair = d.pair := rfl
@[simp] theorem setLine_pair (p : Nat) (x : Line) : (d.setLine p x).pair = d.pair := rfl
@[simp] theorem setPow_pair (x : PowerSt) : (d.setPow x).pair = d.pair := rfl
@[simp] theorem setSlot_pair (k : Nat) (x : Slot) : (d.setSlot k x).pair = d.pair := rfl
@[simp] theorem setMbx_pair (k : Nat) (x : Mailbox) : (d.setMbx k x).pair = d.pair := rfl

/-! ### Cases -/
@[simp] theorem ite_fresh (c : Prop) [Decidable c] (x y : Dev) : (if c then x else y).fresh = if c then x.fresh else y.fresh := by split <;> rfl
@[simp] theorem ite_out (c : Prop) [Decidable c] (x y : Dev) : (if c then x else y).out = if c then x.out else y.out := by split <;> rfl
@[simp] theorem ite_obj (c : Prop) [Decidable c] (x y : Dev) : (if c then x else y).obj = if c then x.obj else y.obj := by split <;> rfl
@[simp] theorem ite_tim (c : Prop) [Decidable c] (x y : Dev) : (if c then x else y).tim = if c then x.tim else y.tim := by split <;> rfl
@[simp] theorem ite_arch (c : Prop) [Decidable c] (x y : Dev) : (if c then x else y).arch = if c then x.arch else y.arch := by split <;> rfl
@[simp] theorem ite_flt (c : Prop) [Decidable c] (x y : Dev) : (if c then x else y).flt = if c then x.flt else y.flt := by split <;> rfl
@[simp] theorem ite_net (c : Prop) [Decidable c] (x y : Dev) : (if c then x else y).net = if c then x.net else y.net := by split <;> rfl
@[simp] theorem ite_host (c : Prop) [Decidable c] (x y : Dev) : (if c then x else y).host = if c then x.host else y.host := by split <;> rfl
@[simp] theorem ite_lan (c : Prop) [Decidable c] (x y : Dev) : (if c then x else y).lan = if c then x.lan else y.lan := by split <;> rfl
@[simp] theorem ite_ecl (c : Prop) [Decidable c] (x y : Dev) : (if c then x else y).ecl = if c then x.ecl else y.ecl := by split <;> rfl
@[simp] theorem ite_rings (c : Prop) [Decidable c] (x y : Dev) : (if c then x else y).rings = if c then x.rings else y.rings := by split <;> rfl
@[simp] theorem ite_ing (c : Prop) [Decidable c] (x y : Dev) : (if c then x else y).ing = if c then x.ing else y.ing := by split <;> rfl
@[simp] theorem ite_tab (c : Prop) [Decidable c] (x y : Dev) : (if c then x else y).tab = if c then x.tab else y.tab := by split <;> rfl
@[simp] theorem ite_eng (c : Prop) [Decidable c] (x y : Dev) : (if c then x else y).eng = if c then x.eng else y.eng := by split <;> rfl
@[simp] theorem ite_wave (c : Prop) [Decidable c] (x y : Dev) : (if c then x else y).wave = if c then x.wave else y.wave := by split <;> rfl
@[simp] theorem ite_pow (c : Prop) [Decidable c] (x y : Dev) : (if c then x else y).pow = if c then x.pow else y.pow := by split <;> rfl
@[simp] theorem ite_spi (c : Prop) [Decidable c] (x y : Dev) : (if c then x else y).spi = if c then x.spi else y.spi := by split <;> rfl
@[simp] theorem ite_dictPart (c : Prop) [Decidable c] (x y : Dev) : (if c then x else y).dictPart = if c then x.dictPart else y.dictPart := by split <;> rfl
@[simp] theorem ite_accessPart (c : Prop) [Decidable c] (x y : Dev) : (if c then x else y).accessPart = if c then x.accessPart else y.accessPart := by split <;> rfl
@[simp] theorem ite_flyingPart (c : Prop) [Decidable c] (x y : Dev) : (if c then x else y).flyingPart = if c then x.flyingPart else y.flyingPart := by split <;> rfl
@[simp] theorem ite_livePart (c : Prop) [Decidable c] (x y : Dev) : (if c then x else y).livePart = if c then x.livePart else y.livePart := by split <;> rfl
@[simp] theorem ite_faultsPart (c : Prop) [Decidable c] (x y : Dev) : (if c then x else y).faultsPart = if c then x.faultsPart else y.faultsPart := by split <;> rfl
@[simp] theorem ite_now (c : Prop) [Decidable c] (x y : Dev) : (if c then x else y).now = if c then x.now else y.now := by split <;> rfl
@[simp] theorem ite_rep (c : Prop) [Decidable c] (x y : Dev) (k : Nat) : (if c then x else y).rep k = if c then x.rep k else y.rep k := by split <;> rfl
@[simp] theorem ite_tether (c : Prop) [Decidable c] (x y : Dev) (k : Nat) : (if c then x else y).tether k = if c then x.tether k else y.tether k := by split <;> rfl
@[simp] theorem ite_link (c : Prop) [Decidable c] (x y : Dev) (k : Nat) : (if c then x else y).link k = if c then x.link k else y.link k := by split <;> rfl
@[simp] theorem ite_slot (c : Prop) [Decidable c] (x y : Dev) (k : Nat) : (if c then x else y).slot k = if c then x.slot k else y.slot k := by split <;> rfl
@[simp] theorem ite_port (c : Prop) [Decidable c] (x y : Dev) (k : Nat) : (if c then x else y).port k = if c then x.port k else y.port k := by split <;> rfl
@[simp] theorem ite_session (c : Prop) [Decidable c] (x y : Dev) (k : Nat) : (if c then x else y).session k = if c then x.session k else y.session k := by split <;> rfl
@[simp] theorem ite_ring (c : Prop) [Decidable c] (x y : Dev) (k : Nat) : (if c then x else y).ring k = if c then x.ring k else y.ring k := by split <;> rfl
@[simp] theorem ite_region (c : Prop) [Decidable c] (x y : Dev) (k : Nat) : (if c then x else y).region k = if c then x.region k else y.region k := by split <;> rfl
@[simp] theorem ite_rec_ (c : Prop) [Decidable c] (x y : Dev) (k : Nat) : (if c then x else y).rec_ k = if c then x.rec_ k else y.rec_ k := by split <;> rfl
@[simp] theorem ite_kslot (c : Prop) [Decidable c] (x y : Dev) (k : Nat) : (if c then x else y).kslot k = if c then x.kslot k else y.kslot k := by split <;> rfl
@[simp] theorem ite_engine (c : Prop) [Decidable c] (x y : Dev) (k : Nat) : (if c then x else y).engine k = if c then x.engine k else y.engine k := by split <;> rfl
@[simp] theorem ite_bind_ (c : Prop) [Decidable c] (x y : Dev) (k : Nat) : (if c then x else y).bind_ k = if c then x.bind_ k else y.bind_ k := by split <;> rfl
@[simp] theorem ite_tsq (c : Prop) [Decidable c] (x y : Dev) (k : Nat) : (if c then x else y).tsq k = if c then x.tsq k else y.tsq k := by split <;> rfl
@[simp] theorem ite_wchan (c : Prop) [Decidable c] (x y : Dev) (k : Nat) : (if c then x else y).wchan k = if c then x.wchan k else y.wchan k := by split <;> rfl
@[simp] theorem ite_capture (c : Prop) [Decidable c] (x y : Dev) (k : Nat) : (if c then x else y).capture k = if c then x.capture k else y.capture k := by split <;> rfl
@[simp] theorem ite_line (c : Prop) [Decidable c] (x y : Dev) (k : Nat) : (if c then x else y).line k = if c then x.line k else y.line k := by split <;> rfl
@[simp] theorem ite_mbx (c : Prop) [Decidable c] (x y : Dev) (k : Nat) : (if c then x else y).mbx k = if c then x.mbx k else y.mbx k := by split <;> rfl
@[simp] theorem ite_queue (c : Prop) [Decidable c] (x y : Dev) (k : Nat) : (if c then x else y).queue k = if c then x.queue k else y.queue k := by split <;> rfl
@[simp] theorem ite_pmu (c : Prop) [Decidable c] (x y : Dev) (k : Nat) : (if c then x else y).pmu k = if c then x.pmu k else y.pmu k := by split <;> rfl
@[simp] theorem ite_fn (c : Prop) [Decidable c] (x y : Dev) (k : Nat) : (if c then x else y).fn k = if c then x.fn k else y.fn k := by split <;> rfl
@[simp] theorem ite_pair (c : Prop) [Decidable c] (x y : Dev) (k : Nat) : (if c then x else y).pair k = if c then x.pair k else y.pair k := by split <;> rfl
@[simp] theorem ite_get (c : Prop) [Decidable c] (x y : Dev) (o e : Nat) : (if c then x else y).get o e = if c then x.get o e else y.get o e := by split <;> rfl
@[simp] theorem ite_getB (c : Prop) [Decidable c] (x y : Dev) (o e : Nat) : (if c then x else y).getB o e = if c then x.getB o e else y.getB o e := by split <;> rfl

/-! ### The dictionary -/

/-- Elements below 2^32 of different objects, or different elements of one, have different keys. -/
theorem okey_ne {o e o' e' : Nat} (h : e < 4294967296) (h' : e' < 4294967296) (hne : o ≠ o' ∨ e ≠ e') : okey o e ≠ okey o' e' := by
  unfold okey; omega

@[simp] theorem put_get_same (o e v : Nat) : (d.put o e v).get o e = v := tget_tput_same _ _ _ _
theorem put_get_ne {o e o' e' : Nat} (v : Nat) (h : okey o' e' ≠ okey o e) : (d.put o e v).get o' e' = d.get o' e' :=
  tget_tput_ne _ _ _ _ h
@[simp] theorem put_getB (o e v : Nat) : (d.put o e v).getB = d.getB := rfl
@[simp] theorem put_getSh (o e v : Nat) : (d.put o e v).getSh = d.getSh := rfl
@[simp] theorem putB_getB_same (o e : Nat) (v : List Byte) : (d.putB o e v).getB o e = v := tget_tput_same _ _ _ _
theorem putB_getB_ne {o e o' e' : Nat} (v : List Byte) (h : okey o' e' ≠ okey o e) : (d.putB o e v).getB o' e' = d.getB o' e' :=
  tget_tput_ne _ _ _ _ h
@[simp] theorem putB_get (o e : Nat) (v : List Byte) : (d.putB o e v).get = d.get := rfl
@[simp] theorem putSh_get (o e v : Nat) : (d.putSh o e v).get = d.get := rfl
@[simp] theorem putShB_get (o e : Nat) (v : List Byte) : (d.putShB o e v).get = d.get := rfl
@[simp] theorem setSlot_get (k : Nat) (x : Slot) : (d.setSlot k x).get = d.get := rfl
@[simp] theorem setMbx_get (k : Nat) (x : Mailbox) : (d.setMbx k x).get = d.get := rfl

end Sys2Proof.Machine
end

