-- ==== Sys2Proof/Laws/Frame.lean ====
section
/-! SUPPORT. How a command runs, and lemmas that build the frame of a composition of updates. -/
namespace Sys2Proof.Machine
open Sys2Proof

/-- With Ballast power-on reset released a command takes effect on the device. -/
theorem run_on {s : State} (h : s.por = false) (f : Dev → Dev) : run s f = .next { s with dev := f s.dev } := by
  simp [run, h]

/-- With Ballast power-on reset asserted a command changes nothing. -/
theorem run_off {s : State} (h : s.por = true) (f : Dev → Dev) : run s f = .next s := by simp [run, h]

/-- A pin's change takes effect on the device once Ballast power-on reset is released. -/
theorem runPin_on {s : State} (h : s.por = false) (l f : Dev → Dev) : runPin s l f = .next { s with dev := f s.dev } := by
  simp [runPin, h]

theorem objectsBut_refl (d : Dev) (l : List (Nat × Nat)) : d.objectsBut l d := ⟨rfl, rfl, fun _ _ _ _ => ⟨rfl, rfl⟩⟩

/-- A write of a listed element keeps the others. -/
theorem objectsBut_put {d x : Dev} {l : List (Nat × Nat)} (h : d.objectsBut l x) (o k v : Nat) (hm : (o, k) ∈ l)
    (hk : k < 4294967296) : d.objectsBut l (x.put o k v) := by
  refine ⟨h.1, h.2.1, fun o' k' hk' hn => ?_⟩
  have : okey o' k' ≠ okey o k := okey_ne hk' hk (by by_contra hc; push Not at hc; obtain ⟨rfl, rfl⟩ := hc; exact hn hm)
  rw [put_get_ne _ _ this]; exact h.2.2 o' k' hk' hn

/-- An update that leaves the dictionary alone keeps every object. -/
theorem objectsBut_of_dict {d x y : Dev} {l : List (Nat × Nat)} (h : d.objectsBut l x) (hd : y.obj.dict = x.obj.dict) :
    d.objectsBut l y := by
  refine ⟨by rw [hd]; exact h.1, by rw [hd]; exact h.2.1, fun o k hk hn => ?_⟩
  have := h.2.2 o k hk hn
  simpa [Dev.get, Dev.getB, hd] using this

theorem changesOnly_refl (d : Dev) (l : List Part) : d.changesOnly l d := fun p _ => by cases p <;> rfl

/-- Detections raised join those under way. -/
@[simp] theorem raise_flying (d : Dev) (a b c x : Nat) :
    (d.raise a b c x).flt.flying = d.flt.flying ++ [⟨a, b, c, x, d.now, false⟩] := rfl
@[simp] theorem raiseAt_flying (d : Dev) (t a b c x : Nat) :
    (d.raiseAt t a b c x).flt.flying = d.flt.flying ++ [⟨a, b, c, x, t, false⟩] := rfl
@[simp] theorem raise_live (d : Dev) (a b c x : Nat) : (d.raise a b c x).flt.live = d.flt.live := rfl
@[simp] theorem setLive_flying (d : Dev) (a b : Nat) (v : Bool) : (d.setLive a b v).flt.flying = d.flt.flying := rfl

/-- A condition that begins is live; one that ends is not. -/
theorem setLive_mem (d : Dev) (a b : Nat) : (a, b) ∈ (d.setLive a b true).flt.live := by
  simp [Dev.setLive, Dev.put, Dev.setDict]
theorem setLive_not_mem (d : Dev) (a b : Nat) : (a, b) ∉ (d.setLive a b false).flt.live := by
  simp [Dev.setLive, Dev.put, Dev.setDict]

/-- `setLive` writes object 0x8010:06 of its source alone. -/
theorem objectsBut_setLive {d x : Dev} {l : List (Nat × Nat)} (h : d.objectsBut l x) (a b : Nat) (v : Bool)
    (hm : (0x801006, a) ∈ l) (hk : a < 4294967296) : d.objectsBut l (x.setLive a b v) :=
  objectsBut_put (objectsBut_of_dict h rfl) _ _ _ hm hk

end Sys2Proof.Machine
end

