-- ==== Sys2Proof/Laws/Parts.lean ====
section
/-! SUPPORT. What each operation of the device can change: one lemma for each, by the parts of the device. -/
namespace Sys2Proof.Machine
open Sys2Proof

/-- A device that agrees with another outside a list of parts may stand for it. -/
theorem fr_of {d x y : Dev} {l : List Part} (h : ∀ p, p ∉ l → x.same y p) : d.changesOnly l y ↔ d.changesOnly l x := by
  have hs : ∀ p, p ∉ l → (d.same y p ↔ d.same x p) := by
    intro p hp; have := h p hp; cases p <;> simp_all [Dev.same]
  exact ⟨fun g p hp => (hs p hp).1 (g p hp), fun g p hp => (hs p hp).2 (g p hp)⟩

theorem fr_ite {d x y : Dev} {l : List Part} {c : Prop} [Decidable c] :
    d.changesOnly l (if c then x else y) ↔ if c then d.changesOnly l x else d.changesOnly l y := by split <;> rfl

theorem fr_foldl {α : Type} {d x : Dev} {l : List Part} {f : Dev → α → Dev} {as : List α}
    (h : ∀ x a, d.changesOnly l (f x a) ↔ d.changesOnly l x) : d.changesOnly l (as.foldl f x) ↔ d.changesOnly l x := by
  induction as generalizing x with
  | nil => rfl
  | cons a t ih => simp only [List.foldl_cons, ih, h]

theorem fr_foldl_snd {α β : Type} {d : Dev} {x : β × Dev} {l : List Part} {f : β × Dev → α → β × Dev} {as : List α}
    (h : ∀ x a, d.changesOnly l (f x a).2 ↔ d.changesOnly l x.2) : d.changesOnly l (as.foldl f x).2 ↔ d.changesOnly l x.2 := by
  induction as generalizing x with
  | nil => rfl
  | cons a t ih => simp only [List.foldl_cons, ih, h]

theorem fr_ite_snd {β : Type} {d : Dev} {x y : β × Dev} {l : List Part} {c : Prop} [Decidable c] :
    d.changesOnly l (if c then x else y).2 ↔ if c then d.changesOnly l x.2 else d.changesOnly l y.2 := by split <;> rfl

theorem fr_pair {β : Type} {d y : Dev} {p : β × Dev} {b : β} {l : List Part} (h : p = (b, y)) :
    d.changesOnly l y ↔ d.changesOnly l p.2 := by rw [h]

theorem fr_setObj {d x : Dev} {l : List Part} (y : ObjSt) (h : .access ∈ l) (hd : .dict ∈ l ∨ y.dict = x.obj.dict) :
    d.changesOnly l (x.setObj y) ↔ d.changesOnly l x :=
  fr_of (fun p hp => by cases p <;> first | rfl | (exact absurd h hp) | (rcases hd with hd | hd <;> [exact absurd hd hp; exact hd]))

theorem fr_setFlt {d x : Dev} {l : List Part} (y : FaultSt) (hy : .flying ∈ l ∨ y.flying = x.flt.flying)
    (hl : .live ∈ l ∨ y.live = x.flt.live)
    (hf : .faults ∈ l ∨ ({ y with flying := [], live := [] } : FaultSt) = { x.flt with flying := [], live := [] }) :
    d.changesOnly l (x.setFlt y) ↔ d.changesOnly l x :=
  fr_of (fun p hp => by
    cases p <;> first
      | rfl
      | (rcases hy with hd | hd <;> [exact absurd hd hp; exact hd])
      | (rcases hl with hd | hd <;> [exact absurd hd hp; exact hd])
      | (rcases hf with hd | hd <;> [exact absurd hd hp; exact hd]))

theorem fr_rec_obj {d x : Dev} {l : List Part} (y : ObjSt) (h : .access ∈ l) (hd : .dict ∈ l ∨ y.dict = x.obj.dict) :
    d.changesOnly l { x with obj := y } ↔ d.changesOnly l x := fr_setObj y h hd

theorem fr_rec_flt {d x : Dev} {l : List Part} (y : FaultSt) (hy : .flying ∈ l ∨ y.flying = x.flt.flying)
    (hl : .live ∈ l ∨ y.live = x.flt.live)
    (hf : .faults ∈ l ∨ ({ y with flying := [], live := [] } : FaultSt) = { x.flt with flying := [], live := [] }) :
    d.changesOnly l { x with flt := y } ↔ d.changesOnly l x := fr_setFlt y hy hl hf

/-! Record updates of one field. -/
theorem fr_rec_fresh {d x : Dev} {l : List Part} (y : _) (h : .fresh ∈ l) : d.changesOnly l { x with fresh := y } ↔ d.changesOnly l x :=
  fr_of (fun p hp => by cases p <;> first | rfl | exact absurd h hp)
theorem fr_rec_out {d x : Dev} {l : List Part} (y : _) (h : .out ∈ l) : d.changesOnly l { x with out := y } ↔ d.changesOnly l x :=
  fr_of (fun p hp => by cases p <;> first | rfl | exact absurd h hp)
theorem fr_rec_tim {d x : Dev} {l : List Part} (y : _) (h : .tim ∈ l) : d.changesOnly l { x with tim := y } ↔ d.changesOnly l x :=
  fr_of (fun p hp => by cases p <;> first | rfl | exact absurd h hp)
theorem fr_rec_arch {d x : Dev} {l : List Part} (y : _) (h : .arch ∈ l) : d.changesOnly l { x with arch := y } ↔ d.changesOnly l x :=
  fr_of (fun p hp => by cases p <;> first | rfl | exact absurd h hp)
theorem fr_rec_net {d x : Dev} {l : List Part} (y : _) (h : .net ∈ l) : d.changesOnly l { x with net := y } ↔ d.changesOnly l x :=
  fr_of (fun p hp => by cases p <;> first | rfl | exact absurd h hp)
theorem fr_rec_host {d x : Dev} {l : List Part} (y : _) (h : .host ∈ l) : d.changesOnly l { x with host := y } ↔ d.changesOnly l x :=
  fr_of (fun p hp => by cases p <;> first | rfl | exact absurd h hp)
theorem fr_rec_lan {d x : Dev} {l : List Part} (y : _) (h : .lan ∈ l) : d.changesOnly l { x with lan := y } ↔ d.changesOnly l x :=
  fr_of (fun p hp => by cases p <;> first | rfl | exact absurd h hp)
theorem fr_rec_ecl {d x : Dev} {l : List Part} (y : _) (h : .ecl ∈ l) : d.changesOnly l { x with ecl := y } ↔ d.changesOnly l x :=
  fr_of (fun p hp => by cases p <;> first | rfl | exact absurd h hp)
theorem fr_rec_rings {d x : Dev} {l : List Part} (y : _) (h : .rings ∈ l) : d.changesOnly l { x with rings := y } ↔ d.changesOnly l x :=
  fr_of (fun p hp => by cases p <;> first | rfl | exact absurd h hp)
theorem fr_rec_ing {d x : Dev} {l : List Part} (y : _) (h : .ing ∈ l) : d.changesOnly l { x with ing := y } ↔ d.changesOnly l x :=
  fr_of (fun p hp => by cases p <;> first | rfl | exact absurd h hp)
theorem fr_rec_tab {d x : Dev} {l : List Part} (y : _) (h : .tab ∈ l) : d.changesOnly l { x with tab := y } ↔ d.changesOnly l x :=
  fr_of (fun p hp => by cases p <;> first | rfl | exact absurd h hp)
theorem fr_rec_eng {d x : Dev} {l : List Part} (y : _) (h : .eng ∈ l) : d.changesOnly l { x with eng := y } ↔ d.changesOnly l x :=
  fr_of (fun p hp => by cases p <;> first | rfl | exact absurd h hp)
theorem fr_rec_wave {d x : Dev} {l : List Part} (y : _) (h : .wave ∈ l) : d.changesOnly l { x with wave := y } ↔ d.changesOnly l x :=
  fr_of (fun p hp => by cases p <;> first | rfl | exact absurd h hp)
theorem fr_rec_pow {d x : Dev} {l : List Part} (y : _) (h : .pow ∈ l) : d.changesOnly l { x with pow := y } ↔ d.changesOnly l x :=
  fr_of (fun p hp => by cases p <;> first | rfl | exact absurd h hp)
theorem fr_rec_spi {d x : Dev} {l : List Part} (y : _) (h : .spi ∈ l) : d.changesOnly l { x with spi := y } ↔ d.changesOnly l x :=
  fr_of (fun p hp => by cases p <;> first | rfl | exact absurd h hp)

theorem fr_setDict {dz : Dev} {lz : List Part} (d : Dev) (x : Dict) (h0 : .dict ∈ lz) :
    dz.changesOnly lz (Dev.setDict d x) ↔ dz.changesOnly lz d :=
  fr_of (fun p hp => by cases p <;> first | rfl | (exact absurd ‹_› hp))

theorem fr_put {dz : Dev} {lz : List Part} (d : Dev) (o e v : Nat) (h0 : .dict ∈ lz) :
    dz.changesOnly lz (Dev.put d o e v) ↔ dz.changesOnly lz d := by
  simp only [Dev.put, iff_self, fr_setDict, h0]

theorem fr_reportHoldover {dz : Dev} {lz : List Part} (d : Dev) (k : TkId) (h0 : .dict ∈ lz) :
    dz.changesOnly lz (Dev.reportHoldover d k) ↔ dz.changesOnly lz d := by
  simp only [Dev.reportHoldover, iff_self, fr_put, h0]

theorem fr_refresh {dz : Dev} {lz : List Part} (d : Dev) (o e : Nat) (h0 : .dict ∈ lz) :
    dz.changesOnly lz (Dev.refresh d o e) ↔ dz.changesOnly lz d := by
  simp only [Dev.refresh, iff_self, ite_self, fr_ite, fr_put, fr_reportHoldover, h0]

theorem fr_setRing {dz : Dev} {lz : List Part} (d : Dev) (r : Nat) (x : Ring) (h0 : .rings ∈ lz) :
    dz.changesOnly lz (Dev.setRing d r x) ↔ dz.changesOnly lz d :=
  fr_of (fun p hp => by cases p <;> first | rfl | (exact absurd ‹_› hp))

theorem fr_updRing {dz : Dev} {lz : List Part} (d : Dev) (r : Nat) (f : Ring → Ring) (h0 : .rings ∈ lz) :
    dz.changesOnly lz (Dev.updRing d r f) ↔ dz.changesOnly lz d := by
  simp only [Dev.updRing, iff_self, fr_setRing, h0]

theorem fr_takeResponse {dz : Dev} {lz : List Part} (d : Dev) (r : Nat) (h0 : .rings ∈ lz) :
    dz.changesOnly lz (Dev.takeResponse d r).2 ↔ dz.changesOnly lz d := by
  unfold Dev.takeResponse; repeat' (first | (simp only [iff_self, fr_updRing, h0]; done) | (with_reducible rfl) | (with_reducible refine (fr_foldl (fun _ _ => ?_)).trans ?_) | (with_reducible refine (fr_foldl_snd (fun _ _ => ?_)).trans ?_) | (with_reducible refine Iff.trans (fr_pair (by assumption)) ?_) | split | simp only [eq_self, iff_self, implies_true, forall_const, ite_self, true_or, or_true, fr_ite, fr_ite_snd, fr_foldl, fr_foldl_snd, fr_updRing, h0])

theorem fr_setTim {dz : Dev} {lz : List Part} (d : Dev) (t : TimeSt) (h0 : .tim ∈ lz) :
    dz.changesOnly lz (Dev.setTim d t) ↔ dz.changesOnly lz d :=
  fr_of (fun p hp => by cases p <;> first | rfl | (exact absurd ‹_› hp))

theorem fr_takeTrig {dz : Dev} {lz : List Part} (d : Dev) (n : Nat) (h0 : .tim ∈ lz) :
    dz.changesOnly lz (Dev.takeTrig d n).2 ↔ dz.changesOnly lz d := by
  simp only [Dev.takeTrig, iff_self, fr_setTim, h0]

theorem fr_read {dz : Dev} {lz : List Part} (d : Dev) (p : Path) (role : Role) (q : Req) (h0 : .dict ∈ lz) (h1 : .tim ∈ lz) (h2 : .rings ∈ lz) :
    dz.changesOnly lz (Dev.read d p role q).2 ↔ dz.changesOnly lz d := by
  unfold Dev.read; repeat' (first | (simp only [iff_self, ite_self, fr_ite_snd, fr_refresh, fr_takeResponse, fr_takeTrig, h0, h1, h2]; done) | (with_reducible rfl) | (with_reducible refine (fr_foldl (fun _ _ => ?_)).trans ?_) | (with_reducible refine (fr_foldl_snd (fun _ _ => ?_)).trans ?_) | (with_reducible refine Iff.trans (fr_pair (by assumption)) ?_) | split | simp only [eq_self])

theorem fr_add {dz : Dev} {lz : List Part} (d : Dev) (o e n : Nat) (h0 : .dict ∈ lz) :
    dz.changesOnly lz (Dev.add d o e n) ↔ dz.changesOnly lz d := by
  simp only [Dev.add, iff_self, fr_put, h0]

theorem fr_inc {dz : Dev} {lz : List Part} (d : Dev) (o e : Nat) (h0 : .dict ∈ lz) :
    dz.changesOnly lz (Dev.inc d o e) ↔ dz.changesOnly lz d := by
  simp only [Dev.inc, iff_self, fr_add, h0]

theorem fr_setEng {dz : Dev} {lz : List Part} (d : Dev) (x : EngSt) (h0 : .eng ∈ lz) :
    dz.changesOnly lz (Dev.setEng d x) ↔ dz.changesOnly lz d :=
  fr_of (fun p hp => by cases p <;> first | rfl | (exact absurd ‹_› hp))

theorem fr_setEngine {dz : Dev} {lz : List Part} (d : Dev) (f : Nat) (x : Engine) (h0 : .eng ∈ lz) :
    dz.changesOnly lz (Dev.setEngine d f x) ↔ dz.changesOnly lz d := by
  simp only [Dev.setEngine, iff_self, fr_setEng, h0]

theorem fr_abandonAct {dz : Dev} {lz : List Part} (d : Dev) (f : Nat) (h0 : .dict ∈ lz) (h1 : .eng ∈ lz) :
    dz.changesOnly lz (Dev.abandonAct d f) ↔ dz.changesOnly lz d := by
  unfold Dev.abandonAct; repeat' (first | (simp only [iff_self, ite_self, fr_ite, fr_add, fr_inc, fr_put, fr_setEngine, h0, h1]; done) | (with_reducible rfl) | (with_reducible refine (fr_foldl (fun _ _ => ?_)).trans ?_) | (with_reducible refine (fr_foldl_snd (fun _ _ => ?_)).trans ?_) | (with_reducible refine Iff.trans (fr_pair (by assumption)) ?_) | split | simp only [eq_self])

theorem fr_setKslot {dz : Dev} {lz : List Part} (d : Dev) (k : Nat) (x : KSlot) (h0 : .eng ∈ lz) :
    dz.changesOnly lz (Dev.setKslot d k x) ↔ dz.changesOnly lz d := by
  simp only [Dev.setKslot, iff_self, fr_setEng, h0]

theorem fr_rebuildAll {dz : Dev} {lz : List Part} (d : Dev) (l : Nat) (h0 : .eng ∈ lz) :
    dz.changesOnly lz (Dev.rebuildAll d l) ↔ dz.changesOnly lz d := by
  unfold Dev.rebuildAll; repeat' (first | (simp only [iff_self, fr_setKslot, h0]; done) | (with_reducible rfl) | (with_reducible refine (fr_foldl (fun _ _ => ?_)).trans ?_) | (with_reducible refine (fr_foldl_snd (fun _ _ => ?_)).trans ?_) | (with_reducible refine Iff.trans (fr_pair (by assumption)) ?_) | split | simp only [eq_self])

theorem fr_engineReset {dz : Dev} {lz : List Part} (d : Dev) (l : Nat) (h0 : .dict ∈ lz) (h1 : .eng ∈ lz) :
    dz.changesOnly lz (Dev.engineReset d l) ↔ dz.changesOnly lz d := by
  simp only [Dev.engineReset, iff_self, ite_self, fr_ite, fr_abandonAct, fr_add, fr_rebuildAll, fr_setEngine, h0, h1]

theorem fr_clearCluster {dz : Dev} {lz : List Part} (d : Dev) (k : Nat) (h0 : .dict ∈ lz) (h1 : .eng ∈ lz) :
    dz.changesOnly lz (Dev.clearCluster d k) ↔ dz.changesOnly lz d := by
  simp only [Dev.clearCluster, iff_self, implies_true, fr_foldl, fr_engineReset, h0, h1]

theorem fr_setLive {dz : Dev} {lz : List Part} (d : Dev) (a b : Nat) (v : Bool) (h0 : .dict ∈ lz) (h1 : .live ∈ lz) :
    dz.changesOnly lz (Dev.setLive d a b v) ↔ dz.changesOnly lz d :=
  fr_of (fun p hp => by cases p <;> first | rfl | exact absurd ‹_› hp)

theorem fr_setRep {dz : Dev} {lz : List Part} (d : Dev) (r : Nat) (x : Replica) (h0 : .arch ∈ lz) :
    dz.changesOnly lz (Dev.setRep d r x) ↔ dz.changesOnly lz d :=
  fr_of (fun p hp => by cases p <;> first | rfl | (exact absurd ‹_› hp))

theorem fr_clearReplica {dz : Dev} {lz : List Part} (d : Dev) (r : Nat) (h0 : .dict ∈ lz) (h1 : .arch ∈ lz) (h2 : .live ∈ lz) :
    dz.changesOnly lz (Dev.clearReplica d r) ↔ dz.changesOnly lz d := by
  simp only [Dev.clearReplica, iff_self, fr_setLive, fr_setRep, h0, h1, h2]

theorem fr_takeFree {dz : Dev} {lz : List Part} (d : Dev) (h0 : .fresh ∈ lz) :
    dz.changesOnly lz (Dev.takeFree d).2 ↔ dz.changesOnly lz d :=
  fr_of (fun p hp => by cases p <;> first | rfl | (exact absurd ‹_› hp))

theorem fr_newTxId {dz : Dev} {lz : List Part} (d : Dev) (h0 : .fresh ∈ lz) :
    dz.changesOnly lz (Dev.newTxId d).2 ↔ dz.changesOnly lz d := by
  simp only [Dev.newTxId, iff_self, fr_takeFree, h0]

theorem fr_setSlot {dz : Dev} {lz : List Part} (d : Dev) (k : Nat) (x : Slot) (h0 : .access ∈ lz) :
    dz.changesOnly lz (Dev.setSlot d k x) ↔ dz.changesOnly lz d := by
  simp only [Dev.setSlot, eq_self, iff_self, or_true, fr_setObj, h0]

theorem fr_openSlot_some {dz : Dev} {lz : List Part} {d y : Dev} {id k : Nat} {i : Bool} (h : d.openSlot id i = some (k, y)) (h0 : .fresh ∈ lz)
    (h1 : .dict ∈ lz) (h2 : .access ∈ lz) : dz.changesOnly lz y ↔ dz.changesOnly lz d := by
  simp only [Dev.openSlot] at h
  split at h
  · exact absurd h (by simp)
  · obtain ⟨-, rfl⟩ := Prod.mk.injEq .. ▸ Option.some.inj h
    simp only [fr_put, fr_setSlot, fr_takeFree, h0, h1, h2]

theorem fr_open_ {dz : Dev} {lz : List Part} (d : Dev) (q : Req) (h0 : .fresh ∈ lz) (h1 : .dict ∈ lz) (h2 : .access ∈ lz) :
    dz.changesOnly lz (Dev.open_ d q).2 ↔ dz.changesOnly lz d := by
  unfold Dev.open_; repeat' (first | (simp only [iff_self, fr_ite_snd, fr_newTxId, h0]; done) | (with_reducible rfl) | (with_reducible refine (fr_foldl (fun _ _ => ?_)).trans ?_) | (with_reducible refine (fr_foldl_snd (fun _ _ => ?_)).trans ?_) | (with_reducible refine Iff.trans (fr_pair (by assumption)) ?_) | (with_reducible refine Iff.trans (fr_openSlot_some (by assumption) ‹_› ‹_› ‹_›) ?_) | split | simp only [eq_self])

theorem fr_setTab {dz : Dev} {lz : List Part} (d : Dev) (x : TableSt) (h0 : .tab ∈ lz) :
    dz.changesOnly lz (Dev.setTab d x) ↔ dz.changesOnly lz d :=
  fr_of (fun p hp => by cases p <;> first | rfl | (exact absurd ‹_› hp))

theorem fr_setRegion {dz : Dev} {lz : List Part} (d : Dev) (g : Nat) (x : Region) (h0 : .tab ∈ lz) :
    dz.changesOnly lz (Dev.setRegion d g x) ↔ dz.changesOnly lz d := by
  simp only [Dev.setRegion, iff_self, fr_setTab, h0]

theorem fr_setWave {dz : Dev} {lz : List Part} (d : Dev) (x : WaveSt) (h0 : .wave ∈ lz) :
    dz.changesOnly lz (Dev.setWave d x) ↔ dz.changesOnly lz d :=
  fr_of (fun p hp => by cases p <;> first | rfl | (exact absurd ‹_› hp))

theorem fr_setCapture {dz : Dev} {lz : List Part} (d : Dev) (e : Nat) (x : Capture) (h0 : .wave ∈ lz) :
    dz.changesOnly lz (Dev.setCapture d e x) ↔ dz.changesOnly lz d := by
  simp only [Dev.setCapture, iff_self, fr_setWave, h0]

theorem fr_putB {dz : Dev} {lz : List Part} (d : Dev) (o e : Nat) (v : List Byte) (h0 : .dict ∈ lz) :
    dz.changesOnly lz (Dev.putB d o e v) ↔ dz.changesOnly lz d := by
  simp only [Dev.putB, iff_self, fr_setDict, h0]

theorem fr_showCapture {dz : Dev} {lz : List Part} (d : Dev) (e : Nat) (h0 : .dict ∈ lz) :
    dz.changesOnly lz (Dev.showCapture d e) ↔ dz.changesOnly lz d := by
  simp only [Dev.showCapture, iff_self, fr_put, fr_putB, h0]

theorem fr_waveRegionReset {dz : Dev} {lz : List Part} (d : Dev) (g : Nat) (h0 : .dict ∈ lz) (h1 : .wave ∈ lz) :
    dz.changesOnly lz (Dev.waveRegionReset d g) ↔ dz.changesOnly lz d := by
  simp only [Dev.waveRegionReset, iff_self, implies_true, ite_self, fr_ite, fr_foldl, fr_put, fr_setCapture, fr_setWave, fr_showCapture, h0, h1]

theorem fr_clearRegion {dz : Dev} {lz : List Part} (d : Dev) (g : Nat) (h0 : .fresh ∈ lz) (h1 : .dict ∈ lz) (h2 : .access ∈ lz) (h3 : .arch ∈ lz) (h4 : .live ∈ lz) (h5 : .tab ∈ lz) (h6 : .eng ∈ lz) (h7 : .wave ∈ lz) :
    dz.changesOnly lz (Dev.clearRegion d g) ↔ dz.changesOnly lz d := by
  simp only [Dev.clearRegion, iff_self, implies_true, fr_foldl, fr_rec_arch, fr_clearCluster, fr_clearReplica, fr_setRegion, fr_setTab, fr_waveRegionReset, h1, h3, h4, h5, h6, h7]

theorem fr_clearDie {dz : Dev} {lz : List Part} (d : Dev) (c : Nat) (h0 : .fresh ∈ lz) (h1 : .dict ∈ lz) (h2 : .access ∈ lz) (h3 : .arch ∈ lz) (h4 : .live ∈ lz) (h5 : .tab ∈ lz) (h6 : .eng ∈ lz) (h7 : .wave ∈ lz) :
    dz.changesOnly lz (Dev.clearDie d c) ↔ dz.changesOnly lz d := by
  simp only [Dev.clearDie, iff_self, fr_rec_arch, fr_clearRegion, h0, h1, h2, h3, h4, h5, h6, h7]

theorem fr_setHost {dz : Dev} {lz : List Part} (d : Dev) (x : HostSt) (h0 : .host ∈ lz) :
    dz.changesOnly lz (Dev.setHost d x) ↔ dz.changesOnly lz d :=
  fr_of (fun p hp => by cases p <;> first | rfl | (exact absurd ‹_› hp))

theorem fr_freeCells {dz : Dev} {lz : List Part} (d : Dev) (owner n : Nat) (h0 : .host ∈ lz) :
    dz.changesOnly lz (Dev.freeCells d owner n) ↔ dz.changesOnly lz d := by
  simp only [Dev.freeCells, iff_self, fr_setHost, h0]

theorem fr_setLan {dz : Dev} {lz : List Part} (d : Dev) (x : LanSt) (h0 : .lan ∈ lz) :
    dz.changesOnly lz (Dev.setLan d x) ↔ dz.changesOnly lz d :=
  fr_of (fun p hp => by cases p <;> first | rfl | (exact absurd ‹_› hp))

theorem fr_setPort {dz : Dev} {lz : List Part} (d : Dev) (p : Nat) (x : PortSt) (h0 : .lan ∈ lz) :
    dz.changesOnly lz (Dev.setPort d p x) ↔ dz.changesOnly lz d := by
  simp only [Dev.setPort, iff_self, fr_setLan, h0]

theorem fr_updLedger {dz : Dev} {lz : List Part} (d : Dev) (p : Nat) (f : PortLedger → PortLedger) (h0 : .lan ∈ lz) :
    dz.changesOnly lz (Dev.updLedger d p f) ↔ dz.changesOnly lz d := by
  simp only [Dev.updLedger, iff_self, fr_setPort, h0]

theorem fr_countPortDrop {dz : Dev} {lz : List Part} (d : Dev) (p reason : Nat) (h0 : .lan ∈ lz) :
    dz.changesOnly lz (Dev.countPortDrop d p reason) ↔ dz.changesOnly lz d := by
  simp only [Dev.countPortDrop, iff_self, fr_updLedger, h0]

theorem fr_hubSettle {dz : Dev} {lz : List Part} (d : Dev) (id : Nat) (h0 : .host ∈ lz) (h1 : .lan ∈ lz) :
    dz.changesOnly lz (Dev.hubSettle d id) ↔ dz.changesOnly lz d := by
  simp only [Dev.hubSettle, iff_self, ite_self, fr_ite, fr_countPortDrop, fr_freeCells, fr_setLan, fr_updLedger, h0, h1]

theorem fr_hubCopy {dz : Dev} {lz : List Part} (d : Dev) (id reason : Nat) (h0 : .host ∈ lz) (h1 : .lan ∈ lz) :
    dz.changesOnly lz (Dev.hubCopy d id reason) ↔ dz.changesOnly lz d := by
  simp only [Dev.hubCopy, iff_self, ite_self, fr_ite, fr_hubSettle, fr_setLan, h0, h1]

theorem fr_setNet {dz : Dev} {lz : List Part} (d : Dev) (x : NetSt) (h0 : .net ∈ lz) :
    dz.changesOnly lz (Dev.setNet d x) ↔ dz.changesOnly lz d :=
  fr_of (fun p hp => by cases p <;> first | rfl | (exact absurd ‹_› hp))

theorem fr_setTsq {dz : Dev} {lz : List Part} (d : Dev) (p : Nat) (x : Tsq) (h0 : .net ∈ lz) :
    dz.changesOnly lz (Dev.setTsq d p x) ↔ dz.changesOnly lz d := by
  simp only [Dev.setTsq, iff_self, fr_setNet, h0]

theorem fr_tsqPush {dz : Dev} {lz : List Part} (d : Dev) (p : Nat) (e : TsqEntry) (h0 : .net ∈ lz) :
    dz.changesOnly lz (Dev.tsqPush d p e) ↔ dz.changesOnly lz d := by
  simp only [Dev.tsqPush, iff_self, ite_self, fr_ite, fr_setTsq, h0]

theorem fr_setQueue {dz : Dev} {lz : List Part} (d : Dev) (q : Nat) (x : Queue) (h0 : .dict ∈ lz) (h1 : .host ∈ lz) :
    dz.changesOnly lz (Dev.setQueue d q x) ↔ dz.changesOnly lz d := by
  simp only [Dev.setQueue, iff_self, fr_put, fr_setHost, h0, h1]

theorem fr_emit {dz : Dev} {lz : List Part} (d : Dev) (o : Out) (h0 : .out ∈ lz) :
    dz.changesOnly lz (Dev.emit d o) ↔ dz.changesOnly lz d :=
  fr_of (fun p hp => by cases p <;> first | rfl | (exact absurd ‹_› hp))

theorem fr_hostWrite {dz : Dev} {lz : List Part} (d : Dev) (addr : Nat) (bs : List Byte) (h0 : .out ∈ lz) :
    dz.changesOnly lz (Dev.hostWrite d addr bs) ↔ dz.changesOnly lz d := by
  simp only [Dev.hostWrite, iff_self, implies_true, fr_foldl, fr_emit, h0]

theorem fr_setPcie {dz : Dev} {lz : List Part} (d : Dev) (x : PcieSt) (h0 : .host ∈ lz) :
    dz.changesOnly lz (Dev.setPcie d x) ↔ dz.changesOnly lz d :=
  fr_of (fun p hp => by cases p <;> first | rfl | (exact absurd ‹_› hp))

theorem fr_driveIntx {dz : Dev} {lz : List Part} (d : Dev) (h0 : .out ∈ lz) (h1 : .host ∈ lz) :
    dz.changesOnly lz (Dev.driveIntx d) ↔ dz.changesOnly lz d := by
  simp only [Dev.driveIntx, iff_self, ite_self, fr_ite, fr_emit, fr_setPcie, h0, h1]

theorem fr_interrupt {dz : Dev} {lz : List Part} (d : Dev) (p : Nat) (h0 : .lan ∈ lz) :
    dz.changesOnly lz (Dev.interrupt d p) ↔ dz.changesOnly lz d := by
  unfold Dev.interrupt; repeat' (first | (simp only [iff_self, ite_self, fr_ite, fr_setPort, h0]; done) | (with_reducible rfl) | (with_reducible refine (fr_foldl (fun _ _ => ?_)).trans ?_) | (with_reducible refine (fr_foldl_snd (fun _ _ => ?_)).trans ?_) | (with_reducible refine Iff.trans (fr_pair (by assumption)) ?_) | split | simp only [eq_self])

theorem fr_sendMessage {dz : Dev} {lz : List Part} (d : Dev) (v : Nat) (h0 : .out ∈ lz) (h1 : .dict ∈ lz) (h2 : .host ∈ lz) (h3 : .lan ∈ lz) :
    dz.changesOnly lz (Dev.sendMessage d v) ↔ dz.changesOnly lz d := by
  simp only [Dev.sendMessage, iff_self, ite_self, fr_ite, fr_driveIntx, fr_emit, fr_inc, fr_setPcie, h0, h1, h2]

theorem fr_requestInt {dz : Dev} {lz : List Part} (d : Dev) (v : Nat) (h0 : .out ∈ lz) (h1 : .dict ∈ lz) (h2 : .host ∈ lz) (h3 : .lan ∈ lz) :
    dz.changesOnly lz (Dev.requestInt d v) ↔ dz.changesOnly lz d := by
  simp only [Dev.requestInt, iff_self, ite_self, fr_ite, fr_inc, fr_sendMessage, fr_setPcie, h0, h1, h2, h3]

theorem fr_announce {dz : Dev} {lz : List Part} (d : Dev) (q : Nat) (h0 : .out ∈ lz) (h1 : .dict ∈ lz) (h2 : .host ∈ lz) (h3 : .lan ∈ lz) :
    dz.changesOnly lz (Dev.announce d q) ↔ dz.changesOnly lz d := by
  simp only [Dev.announce, iff_self, ite_self, fr_ite, fr_hostWrite, fr_requestInt, fr_setQueue, h0, h1, h2, h3]

theorem fr_advanceHead {dz : Dev} {lz : List Part} (d : Dev) (q : Nat) (h0 : .out ∈ lz) (h1 : .dict ∈ lz) (h2 : .host ∈ lz) (h3 : .lan ∈ lz) :
    dz.changesOnly lz (Dev.advanceHead d q) ↔ dz.changesOnly lz d := by
  simp only [Dev.advanceHead, iff_self, ite_self, fr_ite, fr_add, fr_announce, fr_setQueue, h0, h1, h2, h3]

theorem fr_writeBack {dz : Dev} {lz : List Part} (d : Dev) (q idx : Nat) (bs : List Byte) (h0 : .out ∈ lz) (h1 : .dict ∈ lz) (h2 : .host ∈ lz) (h3 : .lan ∈ lz) :
    dz.changesOnly lz (Dev.writeBack d q idx bs) ↔ dz.changesOnly lz d := by
  simp only [Dev.writeBack, iff_self, fr_advanceHead, fr_hostWrite, fr_setQueue, h0, h1, h2, h3]

theorem fr_settleTx {dz : Dev} {lz : List Part} (d : Dev) (q : Nat) (h0 : .out ∈ lz) (h1 : .dict ∈ lz) (h2 : .host ∈ lz) (h3 : .lan ∈ lz) :
    dz.changesOnly lz (Dev.settleTx d q) ↔ dz.changesOnly lz d := by
  simp only [Dev.settleTx, iff_self, implies_true, ite_self, fr_ite, fr_foldl, fr_writeBack, h0, h1, h2, h3]

theorem fr_txOutcome {dz : Dev} {lz : List Part} (d : Dev) (q idx : Nat) (second : Bool) (code : Nat) (h0 : .out ∈ lz) (h1 : .dict ∈ lz) (h2 : .host ∈ lz) (h3 : .lan ∈ lz) :
    dz.changesOnly lz (Dev.txOutcome d q idx second code) ↔ dz.changesOnly lz d := by
  simp only [Dev.txOutcome, iff_self, fr_setQueue, fr_settleTx, h0, h1, h2, h3]

theorem fr_dropTx {dz : Dev} {lz : List Part} (d : Dev) (p : Nat) (f : QFrame) (reason : Nat) (h0 : .out ∈ lz) (h1 : .dict ∈ lz) (h2 : .net ∈ lz) (h3 : .host ∈ lz) (h4 : .lan ∈ lz) :
    dz.changesOnly lz (Dev.dropTx d p f reason) ↔ dz.changesOnly lz d := by
  unfold Dev.dropTx; repeat' (first | (simp only [iff_self, fr_freeCells, fr_hubCopy, fr_tsqPush, fr_txOutcome, h0, h1, h2, h3, h4]; done) | (with_reducible rfl) | (with_reducible refine (fr_foldl (fun _ _ => ?_)).trans ?_) | (with_reducible refine (fr_foldl_snd (fun _ _ => ?_)).trans ?_) | (with_reducible refine Iff.trans (fr_pair (by assumption)) ?_) | split | simp only [eq_self, iff_self, implies_true, forall_const, ite_self, true_or, or_true, fr_ite, fr_ite_snd, fr_foldl, fr_foldl_snd, fr_freeCells, fr_hubCopy, fr_tsqPush, fr_txOutcome, h0, h1, h2, h3, h4])

theorem fr_dropWaitingTx {dz : Dev} {lz : List Part} (d : Dev) (p reason : Nat) (pick : QFrame → Bool) (h0 : .out ∈ lz) (h1 : .dict ∈ lz) (h2 : .net ∈ lz) (h3 : .host ∈ lz) (h4 : .lan ∈ lz) :
    dz.changesOnly lz (Dev.dropWaitingTx d p reason pick) ↔ dz.changesOnly lz d := by
  simp only [Dev.dropWaitingTx, iff_self, implies_true, fr_foldl, fr_dropTx, fr_setPort, h0, h1, h2, h3, h4]

theorem fr_setTether {dz : Dev} {lz : List Part} (d : Dev) (i : Nat) (x : TetherRep) (h0 : .arch ∈ lz) :
    dz.changesOnly lz (Dev.setTether d i x) ↔ dz.changesOnly lz d :=
  fr_of (fun p hp => by cases p <;> first | rfl | (exact absurd ‹_› hp))

theorem fr_tsqFlush {dz : Dev} {lz : List Part} (d : Dev) (p : Nat) (h0 : .net ∈ lz) :
    dz.changesOnly lz (Dev.tsqFlush d p) ↔ dz.changesOnly lz d := by
  simp only [Dev.tsqFlush, iff_self, fr_setTsq, h0]

theorem fr_clearPort {dz : Dev} {lz : List Part} (d : Dev) (p : Nat) (h0 : .out ∈ lz) (h1 : .dict ∈ lz) (h2 : .arch ∈ lz) (h3 : .live ∈ lz) (h4 : .net ∈ lz) (h5 : .host ∈ lz) (h6 : .lan ∈ lz) :
    dz.changesOnly lz (Dev.clearPort d p) ↔ dz.changesOnly lz d := by
  simp only [Dev.clearPort, iff_self, implies_true, fr_foldl, fr_clearReplica, fr_dropTx, fr_dropWaitingTx, fr_setPort, fr_setTether, fr_tsqFlush, h0, h1, h2, h3, h4, h5, h6]

theorem fr_ringGo {dz : Dev} {lz : List Part} (d : Dev) (r st : Nat) (h0 : .dict ∈ lz) (h1 : .rings ∈ lz) :
    dz.changesOnly lz (Dev.ringGo d r st) ↔ dz.changesOnly lz d := by
  simp only [Dev.ringGo, iff_self, ite_self, fr_ite, fr_put, fr_updRing, h0, h1]

theorem fr_ringPortReset {dz : Dev} {lz : List Part} (d : Dev) (r : Nat) (h0 : .dict ∈ lz) (h1 : .rings ∈ lz) :
    dz.changesOnly lz (Dev.ringPortReset d r) ↔ dz.changesOnly lz d := by
  simp only [Dev.ringPortReset, iff_self, ite_self, fr_ite, fr_put, fr_ringGo, fr_updRing, h0, h1]

theorem fr_clearRingPort {dz : Dev} {lz : List Part} (d : Dev) (i : Nat) (h0 : .dict ∈ lz) (h1 : .arch ∈ lz) (h2 : .live ∈ lz) (h3 : .rings ∈ lz) :
    dz.changesOnly lz (Dev.clearRingPort d i) ↔ dz.changesOnly lz d := by
  simp only [Dev.clearRingPort, iff_self, fr_clearReplica, fr_ringPortReset, fr_setTether, h0, h1, h2, h3]

theorem fr_purgeQueue {dz : Dev} {lz : List Part} (d : Dev) (q : Nat) (h0 : .out ∈ lz) (h1 : .dict ∈ lz) (h2 : .net ∈ lz) (h3 : .host ∈ lz) (h4 : .lan ∈ lz) :
    dz.changesOnly lz (Dev.purgeQueue d q) ↔ dz.changesOnly lz d := by
  simp only [Dev.purgeQueue, iff_self, implies_true, fr_foldl, fr_dropWaitingTx, h0, h1, h2, h3, h4]

theorem fr_raiseAt {dz : Dev} {lz : List Part} (d : Dev) (t src unit code detail : Nat) (h0 : .flying ∈ lz) :
    dz.changesOnly lz (Dev.raiseAt d t src unit code detail) ↔ dz.changesOnly lz d :=
  fr_of (fun p hp => by cases p <;> first | rfl | (exact absurd ‹_› hp))

theorem fr_raise {dz : Dev} {lz : List Part} (d : Dev) (src unit code detail : Nat) (h0 : .flying ∈ lz) :
    dz.changesOnly lz (Dev.raise d src unit code detail) ↔ dz.changesOnly lz d := by
  simp only [Dev.raise, iff_self, fr_raiseAt, h0]

theorem fr_abandonBlock {dz : Dev} {lz : List Part} (d : Dev) (b : Block) (h0 : .dict ∈ lz) (h1 : .flying ∈ lz) :
    dz.changesOnly lz (Dev.abandonBlock d b) ↔ dz.changesOnly lz d := by
  simp only [Dev.abandonBlock, iff_self, ite_self, fr_ite, fr_inc, fr_put, fr_raise, h0, h1]

theorem fr_abandonBlocks {dz : Dev} {lz : List Part} (d : Dev) (q : Nat) (h0 : .dict ∈ lz) (h1 : .flying ∈ lz) (h2 : .host ∈ lz) :
    dz.changesOnly lz (Dev.abandonBlocks d q) ↔ dz.changesOnly lz d := by
  simp only [Dev.abandonBlocks, iff_self, implies_true, fr_foldl, fr_abandonBlock, fr_setQueue, h0, h1, h2]

theorem fr_countDrop {dz : Dev} {lz : List Part} (d : Dev) (q : Nat) (h0 : .dict ∈ lz) (h1 : .host ∈ lz) :
    dz.changesOnly lz (Dev.countDrop d q) ↔ dz.changesOnly lz d := by
  simp only [Dev.countDrop, iff_self, fr_inc, fr_setQueue, h0, h1]

theorem fr_dropWaiting {dz : Dev} {lz : List Part} (d : Dev) (q : Nat) (h0 : .dict ∈ lz) (h1 : .host ∈ lz) :
    dz.changesOnly lz (Dev.dropWaiting d q) ↔ dz.changesOnly lz d := by
  simp only [Dev.dropWaiting, iff_self, implies_true, fr_foldl, fr_countDrop, fr_freeCells, fr_setQueue, h0, h1]

theorem fr_showDemand {dz : Dev} {lz : List Part} (d : Dev) (h0 : .dict ∈ lz) (h1 : .flying ∈ lz) (h2 : .live ∈ lz) (h3 : .host ∈ lz) :
    dz.changesOnly lz (Dev.showDemand d) ↔ dz.changesOnly lz d := by
  simp only [Dev.showDemand, iff_self, ite_self, fr_ite, fr_put, fr_raise, fr_setHost, fr_setLive, h0, h1, h2, h3]

theorem fr_resetCore {dz : Dev} {lz : List Part} (d : Dev) (q : Nat) (h0 : .dict ∈ lz) (h1 : .flying ∈ lz) (h2 : .live ∈ lz) (h3 : .host ∈ lz) :
    dz.changesOnly lz (Dev.resetCore d q) ↔ dz.changesOnly lz d := by
  simp only [Dev.resetCore, iff_self, ite_self, fr_ite, fr_abandonBlocks, fr_add, fr_dropWaiting, fr_setLive, fr_setPcie, fr_setQueue, fr_showDemand, h0, h1, h2, h3]

theorem fr_resetQueue {dz : Dev} {lz : List Part} (d : Dev) (q : Nat) (h0 : .out ∈ lz) (h1 : .dict ∈ lz) (h2 : .flying ∈ lz) (h3 : .live ∈ lz) (h4 : .net ∈ lz) (h5 : .host ∈ lz) (h6 : .lan ∈ lz) :
    dz.changesOnly lz (Dev.resetQueue d q) ↔ dz.changesOnly lz d := by
  simp only [Dev.resetQueue, iff_self, fr_purgeQueue, fr_resetCore, h0, h1, h2, h3, h4, h5, h6]

theorem fr_clearScope {dz : Dev} {lz : List Part} (d : Dev) (y0 : Scope) (h0 : .fresh ∈ lz) (h1 : .out ∈ lz) (h2 : .dict ∈ lz) (h3 : .access ∈ lz) (h4 : .arch ∈ lz) (h5 : .flying ∈ lz) (h6 : .live ∈ lz) (h7 : .net ∈ lz) (h8 : .host ∈ lz) (h9 : .lan ∈ lz) (h10 : .rings ∈ lz) (h11 : .tab ∈ lz) (h12 : .eng ∈ lz) (h13 : .wave ∈ lz) :
    dz.changesOnly lz (Dev.clearScope d y0) ↔ dz.changesOnly lz d := by
  unfold Dev.clearScope; repeat' (first | (simp only [iff_self, ite_self, fr_ite, fr_clearCluster, fr_clearDie, fr_clearPort, fr_clearRegion, fr_clearReplica, fr_clearRingPort, fr_engineReset, fr_resetQueue, h0, h1, h2, h3, h4, h5, h6, h7, h8, h9, h10, h11, h12, h13]; done) | (with_reducible rfl) | (with_reducible refine (fr_foldl (fun _ _ => ?_)).trans ?_) | (with_reducible refine (fr_foldl_snd (fun _ _ => ?_)).trans ?_) | (with_reducible refine Iff.trans (fr_pair (by assumption)) ?_) | split | simp only [eq_self, iff_self, implies_true, forall_const, ite_self, true_or, or_true, fr_ite, fr_ite_snd, fr_foldl, fr_foldl_snd, fr_clearCluster, fr_clearDie, fr_clearPort, fr_clearRegion, fr_clearReplica, fr_clearRingPort, fr_engineReset, fr_resetQueue, h0, h1, h2, h3, h4, h5, h6, h7, h8, h9, h10, h11, h12, h13])

theorem fr_beginReset {dz : Dev} {lz : List Part} (d : Dev) (s : Scope) (h0 : .fresh ∈ lz) (h1 : .out ∈ lz) (h2 : .dict ∈ lz) (h3 : .access ∈ lz) (h4 : .arch ∈ lz) (h5 : .flying ∈ lz) (h6 : .live ∈ lz) (h7 : .faults ∈ lz) (h8 : .net ∈ lz) (h9 : .host ∈ lz) (h10 : .lan ∈ lz) (h11 : .rings ∈ lz) (h12 : .tab ∈ lz) (h13 : .eng ∈ lz) (h14 : .wave ∈ lz) :
    dz.changesOnly lz (Dev.beginReset d s).2 ↔ dz.changesOnly lz d := by
  unfold Dev.beginReset; repeat' (first | (simp only [eq_self, iff_self, true_or, or_true, fr_clearScope, fr_setFlt, h0, h1, h2, h3, h4, h5, h6, h7, h8, h9, h10, h11, h12, h13, h14]; done) | (with_reducible rfl) | (with_reducible refine (fr_foldl (fun _ _ => ?_)).trans ?_) | (with_reducible refine (fr_foldl_snd (fun _ _ => ?_)).trans ?_) | (with_reducible refine Iff.trans (fr_pair (by assumption)) ?_) | split | simp only [eq_self, iff_self, implies_true, forall_const, ite_self, true_or, or_true, fr_ite, fr_ite_snd, fr_foldl, fr_foldl_snd, fr_clearScope, fr_setFlt, h0, h1, h2, h3, h4, h5, h6, h7, h8, h9, h10, h11, h12, h13, h14, put_flt])

theorem fr_beginVerify {dz : Dev} {lz : List Part} (d : Dev) (p : Nat) (h0 : .out ∈ lz) (h1 : .dict ∈ lz) (h2 : .lan ∈ lz) :
    dz.changesOnly lz (Dev.beginVerify d p) ↔ dz.changesOnly lz d := by
  simp only [Dev.beginVerify, iff_self, ite_self, fr_ite, fr_emit, fr_put, fr_setPort, h0, h1, h2]

theorem fr_regionUp {dz : Dev} {lz : List Part} (d : Dev) (g : Nat) (h0 : .tab ∈ lz) :
    dz.changesOnly lz (Dev.regionUp d g) ↔ dz.changesOnly lz d := by
  simp only [Dev.regionUp, iff_self, ite_self, fr_ite, fr_setRegion, fr_setTab, h0]

theorem fr_reloadBank {dz : Dev} {lz : List Part} (d : Dev) (p : Nat) (h0 : .lan ∈ lz) :
    dz.changesOnly lz (Dev.reloadBank d p) ↔ dz.changesOnly lz d := by
  simp only [Dev.reloadBank, iff_self, fr_setPort, h0]

theorem fr_restoreScope {dz : Dev} {lz : List Part} (d : Dev) (y0 : Scope) (h0 : .out ∈ lz) (h1 : .dict ∈ lz) (h2 : .lan ∈ lz) (h3 : .tab ∈ lz) :
    dz.changesOnly lz (Dev.restoreScope d y0) ↔ dz.changesOnly lz d := by
  unfold Dev.restoreScope; repeat' (first | (simp only [iff_self, fr_beginVerify, fr_regionUp, fr_reloadBank, h0, h1, h2, h3]; done) | (with_reducible rfl) | (with_reducible refine (fr_foldl (fun _ _ => ?_)).trans ?_) | (with_reducible refine (fr_foldl_snd (fun _ _ => ?_)).trans ?_) | (with_reducible refine Iff.trans (fr_pair (by assumption)) ?_) | split | simp only [eq_self, iff_self, implies_true, forall_const, ite_self, true_or, or_true, fr_ite, fr_ite_snd, fr_foldl, fr_foldl_snd, fr_beginVerify, fr_regionUp, fr_reloadBank, h0, h1, h2, h3])

theorem fr_endReset {dz : Dev} {lz : List Part} (d : Dev) (s : Scope) (h0 : .out ∈ lz) (h1 : .dict ∈ lz) (h2 : .faults ∈ lz) (h3 : .lan ∈ lz) (h4 : .tab ∈ lz) :
    dz.changesOnly lz (Dev.endReset d s) ↔ dz.changesOnly lz d := by
  simp only [Dev.endReset, eq_self, iff_self, true_or, or_true, fr_restoreScope, fr_setFlt, h0, h1, h2, h3, h4]

theorem fr_commandReset {dz : Dev} {lz : List Part} (d : Dev) (s : Scope) (h0 : .fresh ∈ lz) (h1 : .out ∈ lz) (h2 : .dict ∈ lz) (h3 : .access ∈ lz) (h4 : .arch ∈ lz) (h5 : .flying ∈ lz) (h6 : .live ∈ lz) (h7 : .faults ∈ lz) (h8 : .net ∈ lz) (h9 : .host ∈ lz) (h10 : .lan ∈ lz) (h11 : .rings ∈ lz) (h12 : .tab ∈ lz) (h13 : .eng ∈ lz) (h14 : .wave ∈ lz) :
    dz.changesOnly lz (Dev.commandReset d s) ↔ dz.changesOnly lz d := by
  simp only [Dev.commandReset, iff_self, ite_self, fr_ite, fr_beginReset, fr_endReset, h0, h1, h2, h3, h4, h5, h6, h7, h8, h9, h10, h11, h12, h13, h14]

theorem fr_engineUnitReset {dz : Dev} {lz : List Part} (d : Dev) (l : Nat) (h0 : .fresh ∈ lz) (h1 : .out ∈ lz) (h2 : .dict ∈ lz) (h3 : .access ∈ lz) (h4 : .arch ∈ lz) (h5 : .flying ∈ lz) (h6 : .live ∈ lz) (h7 : .faults ∈ lz) (h8 : .net ∈ lz) (h9 : .host ∈ lz) (h10 : .lan ∈ lz) (h11 : .rings ∈ lz) (h12 : .tab ∈ lz) (h13 : .eng ∈ lz) (h14 : .wave ∈ lz) :
    dz.changesOnly lz (Dev.engineUnitReset d l) ↔ dz.changesOnly lz d := by
  simp only [Dev.engineUnitReset, iff_self, fr_commandReset, h0, h1, h2, h3, h4, h5, h6, h7, h8, h9, h10, h11, h12, h13, h14]

theorem fr_armInject {dz : Dev} {lz : List Part} (d : Dev) (k : Nat) (h0 : .dict ∈ lz) (h1 : .faults ∈ lz) :
    dz.changesOnly lz (Dev.armInject d k) ↔ dz.changesOnly lz d :=
  fr_of (fun p hp => by cases p <;> first | rfl | (exact absurd ‹_› hp))

theorem fr_armTrig {dz : Dev} {lz : List Part} (d : Dev) (n : Nat) (h0 : .dict ∈ lz) (h1 : .tim ∈ lz) :
    dz.changesOnly lz (Dev.armTrig d n) ↔ dz.changesOnly lz d := by
  simp only [Dev.armTrig, iff_self, fr_put, fr_setTim, h0, h1]

theorem fr_putSh {dz : Dev} {lz : List Part} (d : Dev) (o e v : Nat) (h0 : .dict ∈ lz) :
    dz.changesOnly lz (Dev.putSh d o e v) ↔ dz.changesOnly lz d := by
  simp only [Dev.putSh, iff_self, fr_setDict, h0]

theorem fr_putShB {dz : Dev} {lz : List Part} (d : Dev) (o e : Nat) (v : List Byte) (h0 : .dict ∈ lz) :
    dz.changesOnly lz (Dev.putShB d o e v) ↔ dz.changesOnly lz d := by
  simp only [Dev.putShB, iff_self, fr_setDict, h0]

theorem fr_paramDefaults {dz : Dev} {lz : List Part} (d : Dev) (k : Nat) (b : List Byte) (h0 : .dict ∈ lz) :
    dz.changesOnly lz (Dev.paramDefaults d k b) ↔ dz.changesOnly lz d := by
  unfold Dev.paramDefaults; repeat' (first | (simp only [iff_self, ite_self, fr_ite, fr_put, fr_putB, fr_putSh, fr_putShB, h0]; done) | (with_reducible rfl) | (with_reducible refine (fr_foldl (fun _ _ => ?_)).trans ?_) | (with_reducible refine (fr_foldl_snd (fun _ _ => ?_)).trans ?_) | (with_reducible refine Iff.trans (fr_pair (by assumption)) ?_) | split | simp only [eq_self, iff_self, implies_true, forall_const, ite_self, true_or, or_true, fr_ite, fr_ite_snd, fr_foldl, fr_foldl_snd, fr_put, fr_putB, fr_putSh, fr_putShB, h0])

theorem fr_place {dz : Dev} {lz : List Part} (d : Dev) (k : Nat) (b : List Byte) (h0 : .fresh ∈ lz) (h1 : .dict ∈ lz) :
    dz.changesOnly lz (Dev.place d k b).2 ↔ dz.changesOnly lz d := by
  simp only [Dev.place, iff_self, fr_paramDefaults, fr_takeFree, h0, h1]

theorem fr_writeBlock {dz : Dev} {lz : List Part} (d : Dev) (q : Nat) (b : Block) (overrun : Bool) (bufs : List QEntry) (h0 : .fresh ∈ lz) (h1 : .out ∈ lz) (h2 : .dict ∈ lz) (h3 : .host ∈ lz) (h4 : .lan ∈ lz) :
    dz.changesOnly lz (Dev.writeBlock d q b overrun bufs) ↔ dz.changesOnly lz d := by
  unfold Dev.writeBlock; repeat' (first | (simp only [iff_self, implies_true, fr_foldl, fr_foldl_snd, fr_add, fr_announce, fr_hostWrite, fr_setQueue, h1, h2, h3, h4]; done) | (with_reducible rfl) | (with_reducible refine (fr_foldl (fun _ _ => ?_)).trans ?_) | (with_reducible refine (fr_foldl_snd (fun _ _ => ?_)).trans ?_) | (with_reducible refine Iff.trans (fr_pair (by assumption)) ?_) | split | simp only [eq_self, iff_self, implies_true, forall_const, ite_self, true_or, or_true, fr_ite, fr_ite_snd, fr_foldl, fr_foldl_snd, fr_add, fr_announce, fr_hostWrite, fr_place, fr_setQueue, h0, h1, h2, h3, h4])

theorem fr_serveBlock {dz : Dev} {lz : List Part} (d : Dev) (q : Nat) (h0 : .fresh ∈ lz) (h1 : .out ∈ lz) (h2 : .dict ∈ lz) (h3 : .host ∈ lz) (h4 : .lan ∈ lz) :
    dz.changesOnly lz (Dev.serveBlock d q).2 ↔ dz.changesOnly lz d := by
  unfold Dev.serveBlock; repeat' (first | (simp only [iff_self, ite_self, fr_ite_snd, fr_setQueue, fr_writeBlock, h0, h1, h2, h3, h4]; done) | (with_reducible rfl) | (with_reducible refine (fr_foldl (fun _ _ => ?_)).trans ?_) | (with_reducible refine (fr_foldl_snd (fun _ _ => ?_)).trans ?_) | (with_reducible refine Iff.trans (fr_pair (by assumption)) ?_) | split | simp only [eq_self])

theorem fr_serveBlocks {dz : Dev} {lz : List Part} (q : Nat) (n : Nat) (d : Dev) (h0 : .fresh ∈ lz) (h1 : .out ∈ lz) (h2 : .dict ∈ lz) (h3 : .host ∈ lz) (h4 : .lan ∈ lz) :
    dz.changesOnly lz (Dev.serveBlocks q n d) ↔ dz.changesOnly lz d := by
  induction n generalizing d with
  | zero => rfl
  | succ n ih =>
    unfold Dev.serveBlocks
    repeat' (first | (simp only [iff_self, ite_self, fr_ite, ih, fr_serveBlock, fr_inc, fr_put, h0, h1, h2, h3, h4]; done) | (with_reducible rfl) | (refine Iff.trans (fr_pair (by assumption)) ?_) | split | simp only [ih, fr_inc, fr_put, h2])

theorem fr_pushBlock {dz : Dev} {lz : List Part} (d : Dev) (q : Nat) (b : Block) (h0 : .fresh ∈ lz) (h1 : .out ∈ lz) (h2 : .dict ∈ lz) (h3 : .flying ∈ lz) (h4 : .host ∈ lz) (h5 : .lan ∈ lz) :
    dz.changesOnly lz (Dev.pushBlock d q b) ↔ dz.changesOnly lz d := by
  simp only [Dev.pushBlock, iff_self, ite_self, fr_ite, fr_abandonBlock, fr_serveBlocks, fr_setQueue, h0, h1, h2, h3, h4, h5]

theorem fr_captureExport {dz : Dev} {lz : List Part} (d : Dev) (e q : Nat) (h0 : .fresh ∈ lz) (h1 : .out ∈ lz) (h2 : .dict ∈ lz) (h3 : .flying ∈ lz) (h4 : .host ∈ lz) (h5 : .lan ∈ lz) :
    dz.changesOnly lz (Dev.captureExport d e q).2 ↔ dz.changesOnly lz d := by
  simp only [Dev.captureExport, iff_self, ite_self, fr_ite_snd, fr_pushBlock, fr_put, fr_showCapture, h0, h1, h2, h3, h4, h5]

theorem fr_captureRelease {dz : Dev} {lz : List Part} (d : Dev) (e : Nat) (h0 : .dict ∈ lz) (h1 : .wave ∈ lz) :
    dz.changesOnly lz (Dev.captureRelease d e).2 ↔ dz.changesOnly lz d := by
  simp only [Dev.captureRelease, iff_self, ite_self, fr_ite_snd, fr_put, fr_setCapture, fr_showCapture, h0, h1]

theorem fr_showFirst {dz : Dev} {lz : List Part} (d : Dev) (h0 : .dict ∈ lz) :
    dz.changesOnly lz (Dev.showFirst d) ↔ dz.changesOnly lz d := by
  simp only [Dev.showFirst, iff_self, fr_putB, h0]

theorem fr_clearFirst {dz : Dev} {lz : List Part} (d : Dev) (h0 : .dict ∈ lz) (h1 : .faults ∈ lz) :
    dz.changesOnly lz (Dev.clearFirst d) ↔ dz.changesOnly lz d := by
  simp only [Dev.clearFirst, eq_self, iff_self, true_or, or_true, fr_setFlt, fr_showFirst, h0, h1]

theorem fr_endRecord {dz : Dev} {lz : List Part} (d : Dev) (reason : Nat) (counted : Bool) (detail : Nat) (h0 : .dict ∈ lz) :
    dz.changesOnly lz (Dev.endRecord d reason counted detail) ↔ dz.changesOnly lz d := by
  simp only [Dev.endRecord, iff_self, fr_putB, h0]

theorem fr_setPow {dz : Dev} {lz : List Part} (d : Dev) (x : PowerSt) (h0 : .pow ∈ lz) :
    dz.changesOnly lz (Dev.setPow d x) ↔ dz.changesOnly lz d :=
  fr_of (fun p hp => by cases p <;> first | rfl | (exact absurd ‹_› hp))

theorem fr_mirror {dz : Dev} {lz : List Part} (d : Dev) (h0 : .pow ∈ lz) :
    dz.changesOnly lz (Dev.mirror d) ↔ dz.changesOnly lz d := by
  simp only [Dev.mirror, iff_self, fr_setPow, h0]

theorem fr_confirm {dz : Dev} {lz : List Part} (d : Dev) (h0 : .dict ∈ lz) (h1 : .tim ∈ lz) (h2 : .pow ∈ lz) :
    dz.changesOnly lz (Dev.confirm d) ↔ dz.changesOnly lz d := by
  simp only [Dev.confirm, iff_self, ite_self, fr_ite, fr_endRecord, fr_mirror, fr_put, fr_setPow, fr_setTim, h0, h1, h2]

theorem fr_dieReset {dz : Dev} {lz : List Part} (d : Dev) (c : Nat) (h0 : .fresh ∈ lz) (h1 : .out ∈ lz) (h2 : .dict ∈ lz) (h3 : .access ∈ lz) (h4 : .arch ∈ lz) (h5 : .flying ∈ lz) (h6 : .live ∈ lz) (h7 : .faults ∈ lz) (h8 : .net ∈ lz) (h9 : .host ∈ lz) (h10 : .lan ∈ lz) (h11 : .rings ∈ lz) (h12 : .tab ∈ lz) (h13 : .eng ∈ lz) (h14 : .wave ∈ lz) :
    dz.changesOnly lz (Dev.dieReset d c) ↔ dz.changesOnly lz d := by
  simp only [Dev.dieReset, iff_self, fr_beginReset, h0, h1, h2, h3, h4, h5, h6, h7, h8, h9, h10, h11, h12, h13, h14]

theorem fr_disarmInject {dz : Dev} {lz : List Part} (d : Dev) (k : Nat) (h0 : .dict ∈ lz) (h1 : .faults ∈ lz) :
    dz.changesOnly lz (Dev.disarmInject d k) ↔ dz.changesOnly lz d :=
  fr_of (fun p hp => by cases p <;> first | rfl | (exact absurd ‹_› hp))

theorem fr_disarmTrig {dz : Dev} {lz : List Part} (d : Dev) (n : Nat) (h0 : .dict ∈ lz) (h1 : .tim ∈ lz) :
    dz.changesOnly lz (Dev.disarmTrig d n) ↔ dz.changesOnly lz d := by
  simp only [Dev.disarmTrig, iff_self, ite_self, fr_ite, fr_put, fr_setTim, h0, h1]

theorem fr_setPower {dz : Dev} {lz : List Part} (d : Dev) (st : Nat) (h0 : .dict ∈ lz) :
    dz.changesOnly lz (Dev.setPower d st) ↔ dz.changesOnly lz d := by
  simp only [Dev.setPower, iff_self, fr_put, h0]

theorem fr_powerTo {dz : Dev} {lz : List Part} (d : Dev) (st cause : Nat) (h0 : .dict ∈ lz) :
    dz.changesOnly lz (Dev.powerTo d st cause) ↔ dz.changesOnly lz d := by
  simp only [Dev.powerTo, iff_self, fr_put, fr_setPower, h0]

theorem fr_dozeBegin {dz : Dev} {lz : List Part} (d : Dev) (cause : Nat) (h0 : .dict ∈ lz) (h1 : .tab ∈ lz) (h2 : .pow ∈ lz) :
    dz.changesOnly lz (Dev.dozeBegin d cause) ↔ dz.changesOnly lz d := by
  simp only [Dev.dozeBegin, iff_self, fr_powerTo, fr_setPow, fr_setTab, h0, h1, h2]

theorem fr_setReactions {dz : Dev} {lz : List Part} (d : Dev) (l : List Reaction) (h0 : .dict ∈ lz) (h1 : .faults ∈ lz) :
    dz.changesOnly lz (Dev.setReactions d l) ↔ dz.changesOnly lz d := by
  simp only [Dev.setReactions, eq_self, iff_self, true_or, or_true, fr_put, fr_setFlt, h0, h1]

theorem fr_endReaction {dz : Dev} {lz : List Part} (d : Dev) (src unit : Nat) (h0 : .dict ∈ lz) (h1 : .faults ∈ lz) :
    dz.changesOnly lz (Dev.endReaction d src unit) ↔ dz.changesOnly lz d := by
  simp only [Dev.endReaction, iff_self, fr_setReactions, h0, h1]

theorem fr_flashBlock {dz : Dev} {lz : List Part} (d : Dev) (b off : Nat) (bs : List Byte) (h0 : .dict ∈ lz) (h1 : .pow ∈ lz) :
    dz.changesOnly lz (Dev.flashBlock d b off bs) ↔ dz.changesOnly lz d := by
  simp only [Dev.flashBlock, iff_self, fr_put, fr_setPow, h0, h1]

theorem fr_selfTest {dz : Dev} {lz : List Part} (d : Dev) (f : Nat) (h0 : .eng ∈ lz) :
    dz.changesOnly lz (Dev.selfTest d f) ↔ dz.changesOnly lz d := by
  simp only [Dev.selfTest, iff_self, fr_setEngine, h0]

theorem fr_rehome {dz : Dev} {lz : List Part} (d : Dev) (f : Nat) (h0 : .dict ∈ lz) (h1 : .flying ∈ lz) (h2 : .eng ∈ lz) :
    dz.changesOnly lz (Dev.rehome d f) ↔ dz.changesOnly lz d := by
  simp only [Dev.rehome, iff_self, fr_abandonAct, fr_inc, fr_put, fr_raise, fr_selfTest, fr_setEng, fr_setEngine, h0, h1, h2]

theorem fr_forceRehome {dz : Dev} {lz : List Part} (d : Dev) (l : Nat) (h0 : .dict ∈ lz) (h1 : .flying ∈ lz) (h2 : .eng ∈ lz) :
    dz.changesOnly lz (Dev.forceRehome d l).2 ↔ dz.changesOnly lz d := by
  simp only [Dev.forceRehome, iff_self, ite_self, fr_ite_snd, fr_rehome, h0, h1, h2]

theorem fr_setEcl {dz : Dev} {lz : List Part} (d : Dev) (x : EclSt) (h0 : .ecl ∈ lz) :
    dz.changesOnly lz (Dev.setEcl d x) ↔ dz.changesOnly lz d :=
  fr_of (fun p hp => by cases p <;> first | rfl | (exact absurd ‹_› hp))

theorem fr_beginSilence {dz : Dev} {lz : List Part} (d : Dev) (g : Nat) (h0 : .ecl ∈ lz) :
    dz.changesOnly lz (Dev.beginSilence d g) ↔ dz.changesOnly lz d := by
  simp only [Dev.beginSilence, iff_self, fr_setEcl, h0]

theorem fr_generationReset {dz : Dev} {lz : List Part} (d : Dev) (g : Nat) (h0 : .dict ∈ lz) (h1 : .ecl ∈ lz) :
    dz.changesOnly lz (Dev.generationReset d g) ↔ dz.changesOnly lz d := by
  simp only [Dev.generationReset, iff_self, fr_beginSilence, fr_put, h0, h1]

theorem fr_imageWritten {dz : Dev} {lz : List Part} (d : Dev) (i : Nat) (h0 : .dict ∈ lz) :
    dz.changesOnly lz (Dev.imageWritten d i) ↔ dz.changesOnly lz d := by
  simp only [Dev.imageWritten, iff_self, implies_true, fr_foldl, fr_put, h0]

theorem fr_imageErase {dz : Dev} {lz : List Part} (d : Dev) (i : Nat) (h0 : .dict ∈ lz) (h1 : .eng ∈ lz) :
    dz.changesOnly lz (Dev.imageErase d i) ↔ dz.changesOnly lz d := by
  simp only [Dev.imageErase, iff_self, fr_imageWritten, fr_putB, fr_setEng, h0, h1]

theorem fr_imageVerify {dz : Dev} {lz : List Part} (d : Dev) (i : Nat) (h0 : .dict ∈ lz) (h1 : .eng ∈ lz) :
    dz.changesOnly lz (Dev.imageVerify d i) ↔ dz.changesOnly lz d := by
  simp only [Dev.imageVerify, iff_self, ite_self, fr_ite, fr_put, fr_setEng, h0, h1]

theorem fr_updTk {dz : Dev} {lz : List Part} (d : Dev) (k : TkId) (f : Tk → Tk) (h0 : .tim ∈ lz) :
    dz.changesOnly lz (Dev.updTk d k f) ↔ dz.changesOnly lz d := by
  simp only [Dev.updTk, iff_self, fr_setTim, h0]

theorem fr_enterHoldover {dz : Dev} {lz : List Part} (d : Dev) (k : TkId) (h0 : .dict ∈ lz) (h1 : .tim ∈ lz) :
    dz.changesOnly lz (Dev.enterHoldover d k) ↔ dz.changesOnly lz d := by
  simp only [Dev.enterHoldover, iff_self, ite_self, fr_ite, fr_put, fr_updTk, h0, h1]

theorem fr_checkHoldover {dz : Dev} {lz : List Part} (d : Dev) (h0 : .dict ∈ lz) (h1 : .tim ∈ lz) :
    dz.changesOnly lz (Dev.checkHoldover d) ↔ dz.changesOnly lz d := by
  simp only [Dev.checkHoldover, iff_self, ite_self, fr_ite, fr_enterHoldover, h0, h1]

theorem fr_resolveUtc {dz : Dev} {lz : List Part} (d : Dev) (h0 : .tim ∈ lz) :
    dz.changesOnly lz (Dev.resolveUtc d) ↔ dz.changesOnly lz d := by
  simp only [Dev.resolveUtc, iff_self, fr_setTim, h0]

theorem fr_setRef {dz : Dev} {lz : List Part} (d : Dev) (r : Nat) (x : RefRun) (h0 : .tim ∈ lz) :
    dz.changesOnly lz (Dev.setRef d r x) ↔ dz.changesOnly lz d := by
  simp only [Dev.setRef, iff_self, fr_setTim, h0]

theorem fr_showPtpRef {dz : Dev} {lz : List Part} (d : Dev) (h0 : .dict ∈ lz) :
    dz.changesOnly lz (Dev.showPtpRef d) ↔ dz.changesOnly lz d := by
  simp only [Dev.showPtpRef, iff_self, fr_put, h0]

theorem fr_ptpInvalid {dz : Dev} {lz : List Part} (d : Dev) (h0 : .dict ∈ lz) (h1 : .tim ∈ lz) (h2 : .flying ∈ lz) (h3 : .net ∈ lz) :
    dz.changesOnly lz (Dev.ptpInvalid d) ↔ dz.changesOnly lz d := by
  simp only [Dev.ptpInvalid, iff_self, ite_self, fr_ite, fr_checkHoldover, fr_raise, fr_resolveUtc, fr_setNet, fr_setRef, fr_setTim, fr_showPtpRef, h0, h1, h2, h3]

theorem fr_bmca {dz : Dev} {lz : List Part} (d : Dev) (i : Nat) (h0 : .dict ∈ lz) (h1 : .tim ∈ lz) (h2 : .flying ∈ lz) (h3 : .net ∈ lz) :
    dz.changesOnly lz (Dev.bmca d i) ↔ dz.changesOnly lz d := by
  simp only [Dev.bmca, iff_self, implies_true, ite_self, fr_ite, fr_foldl, fr_ptpInvalid, fr_put, fr_setNet, fr_showPtpRef, h0, h1, h2, h3]

theorem fr_setPtp {dz : Dev} {lz : List Part} (d : Dev) (i p : Nat) (x : PtpPort) (h0 : .net ∈ lz) :
    dz.changesOnly lz (Dev.setPtp d i p x) ↔ dz.changesOnly lz d := by
  simp only [Dev.setPtp, iff_self, fr_setNet, h0]

theorem fr_linkGone {dz : Dev} {lz : List Part} (d : Dev) (p : Nat) (h0 : .dict ∈ lz) (h1 : .tim ∈ lz) (h2 : .flying ∈ lz) (h3 : .net ∈ lz) :
    dz.changesOnly lz (Dev.linkGone d p) ↔ dz.changesOnly lz d := by
  simp only [Dev.linkGone, iff_self, implies_true, ite_self, fr_ite, fr_foldl, fr_bmca, fr_ptpInvalid, fr_setNet, fr_setPtp, h0, h1, h2, h3]

theorem fr_portDown {dz : Dev} {lz : List Part} (d : Dev) (p : Nat) (h0 : .out ∈ lz) (h1 : .dict ∈ lz) (h2 : .net ∈ lz) (h3 : .host ∈ lz) (h4 : .lan ∈ lz) :
    dz.changesOnly lz (Dev.portDown d p) ↔ dz.changesOnly lz d := by
  simp only [Dev.portDown, iff_self, implies_true, ite_self, fr_ite, fr_foldl, fr_beginVerify, fr_dropTx, fr_dropWaitingTx, fr_setPort, h0, h1, h2, h3, h4]

theorem fr_portsOff {dz : Dev} {lz : List Part} (d : Dev) (h0 : .out ∈ lz) (h1 : .dict ∈ lz) (h2 : .tim ∈ lz) (h3 : .flying ∈ lz) (h4 : .net ∈ lz) (h5 : .host ∈ lz) (h6 : .lan ∈ lz) :
    dz.changesOnly lz (Dev.portsOff d) ↔ dz.changesOnly lz d := by
  simp only [Dev.portsOff, iff_self, implies_true, fr_foldl, fr_linkGone, fr_portDown, h0, h1, h2, h3, h4, h5, h6]

theorem fr_bypass {dz : Dev} {lz : List Part} (d : Dev) (r : Nat) (released : Bool) (h0 : .out ∈ lz) :
    dz.changesOnly lz (Dev.bypass d r released) ↔ dz.changesOnly lz d := by
  simp only [Dev.bypass, iff_self, fr_emit, h0]

theorem fr_ringRemove {dz : Dev} {lz : List Part} (r : Nat) (d : Dev) (h0 : .out ∈ lz) (h1 : .dict ∈ lz) (h2 : .rings ∈ lz) :
    dz.changesOnly lz (ringRemove r d) ↔ dz.changesOnly lz d := by
  unfold ringRemove; repeat' (first | (simp only [iff_self, fr_ite, fr_bypass, fr_ringGo, fr_updRing, h0, h1, h2]; done) | (with_reducible rfl) | (with_reducible refine (fr_foldl (fun _ _ => ?_)).trans ?_) | (with_reducible refine (fr_foldl_snd (fun _ _ => ?_)).trans ?_) | (with_reducible refine Iff.trans (fr_pair (by assumption)) ?_) | split | simp only [fr_ite])

theorem fr_rec8 {d x : Dev} {l : List Part} (a : LanSt) (b : EclSt) (c : Tab Ring) (e : IngestSt) (f : TableSt) (g : EngSt) (h : WaveSt)
    (i : ArchSt) (h1 : .lan ∈ l) (h2 : .ecl ∈ l) (h3 : .rings ∈ l) (h4 : .ing ∈ l) (h5 : .tab ∈ l) (h6 : .eng ∈ l) (h7 : .wave ∈ l)
    (h8 : .arch ∈ l) : d.changesOnly l { x with lan := a, ecl := b, rings := c, ing := e, tab := f, eng := g, wave := h, arch := i } ↔
    d.changesOnly l x :=
  fr_of (fun p hp => by cases p <;> first | rfl | (exact absurd ‹_› hp))

theorem fr_lantern {dz : Dev} {lz : List Part} (d : Dev) (cause : Nat) (h0 : .out ∈ lz) (h1 : .dict ∈ lz) (h2 : .tim ∈ lz) (h3 : .arch ∈ lz) (h4 : .flying ∈ lz) (h5 : .net ∈ lz) (h6 : .host ∈ lz) (h7 : .lan ∈ lz) (h8 : .ecl ∈ lz) (h9 : .rings ∈ lz) (h10 : .ing ∈ lz) (h11 : .tab ∈ lz) (h12 : .eng ∈ lz) (h13 : .wave ∈ lz) (h14 : .pow ∈ lz) :
    dz.changesOnly lz (Dev.lantern d cause) ↔ dz.changesOnly lz d := by
  unfold Dev.lantern
  refine (fr_rec8 _ _ _ _ _ _ _ _ h7 h8 h9 h10 h11 h12 h13 h3).trans ?_
  simp only [iff_self, implies_true, fr_foldl, fr_put, fr_setPow, fr_ringRemove, fr_portsOff, fr_powerTo, h0, h1, h2, h4, h5, h6, h7, h9, h14]

theorem fr_mirrorChanged {dz : Dev} {lz : List Part} (d : Dev) (h0 : .pow ∈ lz) :
    dz.changesOnly lz (Dev.mirrorChanged d) ↔ dz.changesOnly lz d := by
  simp only [Dev.mirrorChanged, iff_self, fr_mirror, fr_setPow, h0]

theorem fr_addPart {dz : Dev} {lz : List Part} (d : Dev) (h shift width n : Nat) (h0 : .dict ∈ lz) :
    dz.changesOnly lz (Dev.addPart d h shift width n) ↔ dz.changesOnly lz d := by
  simp only [Dev.addPart, iff_self, fr_put, h0]

theorem fr_setFn {dz : Dev} {lz : List Part} (d : Dev) (h : Nat) (x : RecFn) (h0 : .ecl ∈ lz) :
    dz.changesOnly lz (Dev.setFn d h x) ↔ dz.changesOnly lz d := by
  simp only [Dev.setFn, iff_self, fr_setEcl, h0]

theorem fr_recoveryReset {dz : Dev} {lz : List Part} (d : Dev) (h : Nat) (h0 : .dict ∈ lz) (h1 : .ecl ∈ lz) :
    dz.changesOnly lz (Dev.recoveryReset d h) ↔ dz.changesOnly lz d := by
  simp only [Dev.recoveryReset, iff_self, fr_addPart, fr_setFn, h0, h1]

theorem fr_leaveSafe {dz : Dev} {lz : List Part} (d : Dev) (e : Nat) (h0 : .dict ∈ lz) (h1 : .faults ∈ lz) (h2 : .lan ∈ lz) (h3 : .rings ∈ lz) :
    dz.changesOnly lz (Dev.leaveSafe d e) ↔ dz.changesOnly lz d := by
  have hs : dz.changesOnly lz (((d.put 0x802001 e 0).put 0x802002 e 0xFFFF).setFlt { d.flt with
      causes := d.flt.causes.filter (fun c => c.scope != e) }) ↔ dz.changesOnly lz d :=
by
    refine (fr_setFlt (x := (d.put 0x802001 e 0).put 0x802002 e 0xFFFF) _ (.inr ?_) (.inr ?_) (.inl h1)).trans ((fr_put _ _ _ _ h0).trans (fr_put _ _ _ _ h0)) <;> simp only [put_flt]
  unfold Dev.leaveSafe
  dsimp only
  split
  · rfl
  · split
    · exact (fr_reloadBank _ _ h2).trans hs
    · split
      · split
        · exact hs
        · exact (fr_ringGo _ _ _ h0 h3).trans hs
      · exact hs

theorem fr_releaseSafe {dz : Dev} {lz : List Part} (d : Dev) (e : Nat) (h0 : .dict ∈ lz) (h1 : .faults ∈ lz) (h2 : .lan ∈ lz) (h3 : .rings ∈ lz) :
    dz.changesOnly lz (Dev.releaseSafe d e) ↔ dz.changesOnly lz d := by
  simp only [Dev.releaseSafe, iff_self, implies_true, ite_self, fr_ite, fr_foldl, fr_leaveSafe, h0, h1, h2, h3]

theorem fr_interruptAttempt {dz : Dev} {lz : List Part} (d : Dev) (reason : Nat) (h0 : .dict ∈ lz) (h1 : .pow ∈ lz) :
    dz.changesOnly lz (Dev.interruptAttempt d reason) ↔ dz.changesOnly lz d := by
  simp only [Dev.interruptAttempt, iff_self, ite_self, fr_ite, fr_endRecord, fr_mirror, fr_setPow, h0, h1]

theorem fr_mainReset {dz : Dev} {lz : List Part} (d : Dev) (h0 : .fresh ∈ lz) (h1 : .out ∈ lz) (h2 : .dict ∈ lz) (h3 : .access ∈ lz) (h4 : .tim ∈ lz) (h5 : .arch ∈ lz) (h6 : .flying ∈ lz) (h7 : .live ∈ lz) (h8 : .faults ∈ lz) (h9 : .net ∈ lz) (h10 : .host ∈ lz) (h11 : .lan ∈ lz) (h12 : .ecl ∈ lz) (h13 : .rings ∈ lz) (h14 : .ing ∈ lz) (h15 : .tab ∈ lz) (h16 : .eng ∈ lz) (h17 : .wave ∈ lz) (h18 : .pow ∈ lz) (h19 : .spi ∈ lz) :
    dz.changesOnly lz (Dev.mainReset d) ↔ dz.changesOnly lz d :=
  fr_of (fun p hp => absurd (by cases p <;> assumption) hp)

theorem fr_startReset {dz : Dev} {lz : List Part} (d : Dev) (h0 : .fresh ∈ lz) (h1 : .out ∈ lz) (h2 : .dict ∈ lz) (h3 : .access ∈ lz) (h4 : .tim ∈ lz) (h5 : .arch ∈ lz) (h6 : .flying ∈ lz) (h7 : .live ∈ lz) (h8 : .faults ∈ lz) (h9 : .net ∈ lz) (h10 : .host ∈ lz) (h11 : .lan ∈ lz) (h12 : .ecl ∈ lz) (h13 : .rings ∈ lz) (h14 : .ing ∈ lz) (h15 : .tab ∈ lz) (h16 : .eng ∈ lz) (h17 : .wave ∈ lz) (h18 : .pow ∈ lz) (h19 : .spi ∈ lz) :
    dz.changesOnly lz (Dev.startReset d) ↔ dz.changesOnly lz d :=
  fr_of (fun p hp => absurd (by cases p <;> assumption) hp)

theorem fr_restart {dz : Dev} {lz : List Part} (d : Dev) (h0 : .fresh ∈ lz) (h1 : .out ∈ lz) (h2 : .dict ∈ lz) (h3 : .access ∈ lz) (h4 : .tim ∈ lz) (h5 : .arch ∈ lz) (h6 : .flying ∈ lz) (h7 : .live ∈ lz) (h8 : .faults ∈ lz) (h9 : .net ∈ lz) (h10 : .host ∈ lz) (h11 : .lan ∈ lz) (h12 : .ecl ∈ lz) (h13 : .rings ∈ lz) (h14 : .ing ∈ lz) (h15 : .tab ∈ lz) (h16 : .eng ∈ lz) (h17 : .wave ∈ lz) (h18 : .pow ∈ lz) (h19 : .spi ∈ lz) :
    dz.changesOnly lz (Dev.restart d) ↔ dz.changesOnly lz d :=
  fr_of (fun p hp => absurd (by cases p <;> assumption) hp)

theorem fr_sendMessage4050 {dz : Dev} {lz : List Part} (d : Dev) (r : Nat) (bs : List Byte) (h0 : .dict ∈ lz) (h1 : .rings ∈ lz) :
    dz.changesOnly lz (Dev.sendMessage4050 d r bs).2 ↔ dz.changesOnly lz d := by
  simp only [Dev.sendMessage4050, iff_self, ite_self, fr_ite_snd, fr_put, fr_updRing, h0, h1]

theorem fr_setSession {dz : Dev} {lz : List Part} (d : Dev) (k : Nat) (x : Session) (h0 : .lan ∈ lz) :
    dz.changesOnly lz (Dev.setSession d k x) ↔ dz.changesOnly lz d := by
  simp only [Dev.setSession, iff_self, fr_setLan, h0]

theorem fr_takeTxid {dz : Dev} {lz : List Part} (d : Dev) (h0 : .fresh ∈ lz) :
    dz.changesOnly lz (Dev.takeTxid d).2 ↔ dz.changesOnly lz d := by
  simp only [Dev.takeTxid, iff_self, fr_takeFree, h0]

theorem fr_sesStart {dz : Dev} {lz : List Part} (d : Dev) (k : Nat) (h0 : .fresh ∈ lz) (h1 : .dict ∈ lz) (h2 : .lan ∈ lz) :
    dz.changesOnly lz (Dev.sesStart d k) ↔ dz.changesOnly lz d := by
  simp only [Dev.sesStart, iff_self, fr_put, fr_setSession, fr_takeTxid, h0, h1, h2]

theorem fr_kmpSend {dz : Dev} {lz : List Part} (d : Dev) (via ip udp : Nat) (m : Kmp) (h0 : .out ∈ lz) :
    dz.changesOnly lz (Dev.kmpSend d via ip udp m) ↔ dz.changesOnly lz d := by
  simp only [Dev.kmpSend, iff_self, fr_emit, h0]

theorem fr_sesNote {dz : Dev} {lz : List Part} (d : Dev) (k i kind : Nat) (h0 : .dict ∈ lz) (h1 : .lan ∈ lz) :
    dz.changesOnly lz (Dev.sesNote d k i kind) ↔ dz.changesOnly lz d := by
  simp only [Dev.sesNote, iff_self, ite_self, fr_ite, fr_put, fr_setSession, h0, h1]

theorem fr_answerWaiting {dz : Dev} {lz : List Part} (d : Dev) (k commit write : Nat) (h0 : .access ∈ lz) :
    dz.changesOnly lz (Dev.answerWaiting d k commit write) ↔ dz.changesOnly lz d := by
  simp only [Dev.answerWaiting, eq_self, iff_self, or_true, fr_setObj, h0]

theorem fr_restoreShadow {dz : Dev} {lz : List Part} (d : Dev) (x : Key) (h0 : .dict ∈ lz) :
    dz.changesOnly lz (Dev.restoreShadow d x) ↔ dz.changesOnly lz d := by
  simp only [Dev.restoreShadow, iff_self, fr_putSh, fr_putShB, h0]

theorem fr_showLoading {dz : Dev} {lz : List Part} (d : Dev) (x : Key) (h0 : .dict ∈ lz) :
    dz.changesOnly lz (Dev.showLoading d x) ↔ dz.changesOnly lz d := by
  simp only [Dev.showLoading, iff_self, ite_self, fr_ite, fr_put, h0]

theorem fr_hideLoading {dz : Dev} {lz : List Part} (d : Dev) (x : Key) (h0 : .dict ∈ lz) :
    dz.changesOnly lz (Dev.hideLoading d x) ↔ dz.changesOnly lz d := by
  simp only [Dev.hideLoading, iff_self, ite_self, fr_ite, fr_put, h0]

theorem fr_endSlot {dz : Dev} {lz : List Part} (d : Dev) (k state result code : Nat) (h0 : .dict ∈ lz) (h1 : .access ∈ lz) (h2 : .flying ∈ lz) :
    dz.changesOnly lz (Dev.endSlot d k state result code) ↔ dz.changesOnly lz d := by
  simp only [Dev.endSlot, iff_self, implies_true, ite_self, fr_ite, fr_foldl, fr_answerWaiting, fr_put, fr_raise, fr_restoreShadow, fr_hideLoading, fr_setSlot, h0, h1, h2]

theorem fr_takeAbort {dz : Dev} {lz : List Part} (d : Dev) (id t g : Nat) (h0 : .dict ∈ lz) (h1 : .access ∈ lz) (h2 : .flying ∈ lz) :
    dz.changesOnly lz (Dev.takeAbort d id t g).2 ↔ dz.changesOnly lz d := by
  unfold Dev.takeAbort; repeat' (first | (simp only [iff_self, fr_ite_snd, fr_endSlot, fr_inc, h0, h1, h2]; done) | (with_reducible rfl) | (with_reducible refine (fr_foldl (fun _ _ => ?_)).trans ?_) | (with_reducible refine (fr_foldl_snd (fun _ _ => ?_)).trans ?_) | (with_reducible refine Iff.trans (fr_pair (by assumption)) ?_) | split | simp only [eq_self, iff_self, implies_true, forall_const, ite_self, true_or, or_true, fr_ite, fr_ite_snd, fr_foldl, fr_foldl_snd, fr_endSlot, fr_inc, h0, h1, h2])

theorem fr_takePrepare {dz : Dev} {lz : List Part} (d : Dev) (id t g : Nat) (h0 : .access ∈ lz) :
    dz.changesOnly lz (Dev.takePrepare d id t g).2 ↔ dz.changesOnly lz d := by
  unfold Dev.takePrepare; repeat' (first | (simp only [iff_self, fr_setSlot, h0]; done) | (with_reducible rfl) | (with_reducible refine (fr_foldl (fun _ _ => ?_)).trans ?_) | (with_reducible refine (fr_foldl_snd (fun _ _ => ?_)).trans ?_) | (with_reducible refine Iff.trans (fr_pair (by assumption)) ?_) | split | simp only [eq_self])

theorem fr_sesSend {dz : Dev} {lz : List Part} (d : Dev) (k kind txid done : Nat) (h0 : .out ∈ lz) (h1 : .dict ∈ lz) (h2 : .access ∈ lz) (h3 : .flying ∈ lz) (h4 : .lan ∈ lz) :
    dz.changesOnly lz (Dev.sesSend d k kind txid done) ↔ dz.changesOnly lz d := by
  simp only [Dev.sesSend, iff_self, implies_true, ite_self, fr_ite, fr_foldl, fr_kmpSend, fr_sesNote, fr_setSession, fr_takeAbort, fr_takePrepare, h0, h1, h2, h3, h4]

theorem fr_sesAbort {dz : Dev} {lz : List Part} (d : Dev) (k : Nat) (h0 : .out ∈ lz) (h1 : .dict ∈ lz) (h2 : .access ∈ lz) (h3 : .flying ∈ lz) (h4 : .lan ∈ lz) :
    dz.changesOnly lz (Dev.sesAbort d k) ↔ dz.changesOnly lz d := by
  simp only [Dev.sesAbort, iff_self, fr_put, fr_sesSend, h0, h1, h2, h3, h4]

theorem fr_sesStop {dz : Dev} {lz : List Part} (d : Dev) (k : Nat) (h0 : .out ∈ lz) (h1 : .dict ∈ lz) (h2 : .access ∈ lz) (h3 : .flying ∈ lz) (h4 : .lan ∈ lz) :
    dz.changesOnly lz (Dev.sesStop d k) ↔ dz.changesOnly lz d := by
  simp only [Dev.sesStop, iff_self, ite_self, fr_ite, fr_put, fr_sesAbort, h0, h1, h2, h3, h4]

theorem fr_skipPlans {dz : Dev} {lz : List Part} (d : Dev) (old : Nat) (h0 : .dict ∈ lz) (h1 : .tim ∈ lz) :
    dz.changesOnly lz (Dev.skipPlans d old) ↔ dz.changesOnly lz d := by
  simp only [Dev.skipPlans, iff_self, implies_true, ite_self, fr_ite, fr_foldl, fr_add, fr_put, fr_setTim, h0, h1]

theorem fr_setCounters {dz : Dev} {lz : List Part} (d : Dev) (k : Nat) (h0 : .dict ∈ lz) (h1 : .tim ∈ lz) :
    dz.changesOnly lz (Dev.setCounters d k) ↔ dz.changesOnly lz d := by
  simp only [Dev.setCounters, iff_self, fr_setTim, fr_skipPlans, fr_updTk, h0, h1]

theorem fr_slotErase {dz : Dev} {lz : List Part} (d : Dev) (s : Nat) (h0 : .dict ∈ lz) (h1 : .pow ∈ lz) :
    dz.changesOnly lz (Dev.slotErase d s) ↔ dz.changesOnly lz d := by
  simp only [Dev.slotErase, iff_self, fr_put, fr_setPow, h0, h1]

theorem fr_showSlot {dz : Dev} {lz : List Part} (d : Dev) (k : Nat) (h0 : .dict ∈ lz) :
    dz.changesOnly lz (Dev.showSlot d k) ↔ dz.changesOnly lz d := by
  unfold Dev.showSlot; repeat' (first | (simp only [iff_self, fr_put, h0]; done) | (with_reducible rfl) | (with_reducible refine (fr_foldl (fun _ _ => ?_)).trans ?_) | (with_reducible refine (fr_foldl_snd (fun _ _ => ?_)).trans ?_) | (with_reducible refine Iff.trans (fr_pair (by assumption)) ?_) | split | simp only [fr_put, h0])

theorem fr_slotRestart {dz : Dev} {lz : List Part} (d : Dev) (k : Nat) (h0 : .dict ∈ lz) (h1 : .eng ∈ lz) :
    dz.changesOnly lz (Dev.slotRestart d k) ↔ dz.changesOnly lz d := by
  unfold Dev.slotRestart; repeat' (first | (simp only [iff_self, fr_ite, fr_setKslot, fr_showSlot, h0, h1]; done) | (with_reducible rfl) | (with_reducible refine (fr_foldl (fun _ _ => ?_)).trans ?_) | (with_reducible refine (fr_foldl_snd (fun _ _ => ?_)).trans ?_) | (with_reducible refine Iff.trans (fr_pair (by assumption)) ?_) | split | simp only [fr_ite])

theorem fr_slotVerify {dz : Dev} {lz : List Part} (d : Dev) (s : Nat) (h0 : .dict ∈ lz) (h1 : .pow ∈ lz) :
    dz.changesOnly lz (Dev.slotVerify d s) ↔ dz.changesOnly lz d := by
  simp only [Dev.slotVerify, iff_self, fr_put, fr_setPow, h0, h1]

theorem fr_wake {dz : Dev} {lz : List Part} (d : Dev) (cause : Nat) (h0 : .out ∈ lz) (h1 : .pow ∈ lz) :
    dz.changesOnly lz (Dev.wake d cause) ↔ dz.changesOnly lz d := by
  simp only [Dev.wake, iff_self, ite_self, fr_ite, fr_emit, fr_setPow, h0, h1]

theorem fr_directEffect {dz : Dev} {lz : List Part} (d : Dev) (o e off : Nat) (bs seg : List Byte) (h0 : .fresh ∈ lz) (h1 : .out ∈ lz) (h2 : .dict ∈ lz) (h3 : .access ∈ lz) (h4 : .tim ∈ lz) (h5 : .arch ∈ lz) (h6 : .flying ∈ lz) (h7 : .live ∈ lz) (h8 : .faults ∈ lz) (h9 : .net ∈ lz) (h10 : .host ∈ lz) (h11 : .lan ∈ lz) (h12 : .ecl ∈ lz) (h13 : .rings ∈ lz) (h14 : .ing ∈ lz) (h15 : .tab ∈ lz) (h16 : .eng ∈ lz) (h17 : .wave ∈ lz) (h18 : .pow ∈ lz) (h19 : .spi ∈ lz) :
    dz.changesOnly lz (Dev.directEffect d o e off bs seg) ↔ dz.changesOnly lz d :=
  fr_of (fun p hp => absurd (by cases p <;> assumption) hp)

theorem fr_writeDirect {dz : Dev} {lz : List Part} (d : Dev) (x : Obj) (e off : Nat) (seg : List Byte) (h0 : .fresh ∈ lz) (h1 : .out ∈ lz) (h2 : .dict ∈ lz) (h3 : .access ∈ lz) (h4 : .tim ∈ lz) (h5 : .arch ∈ lz) (h6 : .flying ∈ lz) (h7 : .live ∈ lz) (h8 : .faults ∈ lz) (h9 : .net ∈ lz) (h10 : .host ∈ lz) (h11 : .lan ∈ lz) (h12 : .ecl ∈ lz) (h13 : .rings ∈ lz) (h14 : .ing ∈ lz) (h15 : .tab ∈ lz) (h16 : .eng ∈ lz) (h17 : .wave ∈ lz) (h18 : .pow ∈ lz) (h19 : .spi ∈ lz) :
    dz.changesOnly lz (Dev.writeDirect d x e off seg) ↔ dz.changesOnly lz d :=
  fr_of (fun p hp => absurd (by cases p <;> assumption) hp)

theorem fr_writeShadow {dz : Dev} {lz : List Part} (d : Dev) (x : Obj) (q : Req) (h0 : .dict ∈ lz) :
    dz.changesOnly lz (Dev.writeShadow d x q) ↔ dz.changesOnly lz d := by
  simp only [Dev.writeShadow, iff_self, ite_self, fr_ite, fr_putSh, fr_putShB, h0]

theorem fr_accept {dz : Dev} {lz : List Part} (d : Dev) (k kind : Nat) (b : Boundary) (syz : Nat) (h0 : .dict ∈ lz) (h1 : .access ∈ lz) :
    dz.changesOnly lz (Dev.accept d k kind b syz) ↔ dz.changesOnly lz d := by
  simp only [Dev.accept, eq_self, iff_self, implies_true, fr_foldl, or_true, fr_put, fr_setObj, fr_setSlot, fr_showLoading, h0, h1]

theorem fr_stageParams {dz : Dev} {lz : List Part} (d : Dev) (k : Nat) (h0 : .eng ∈ lz) :
    dz.changesOnly lz (Dev.stageParams d k) ↔ dz.changesOnly lz d := by
  unfold Dev.stageParams; repeat' (first | (simp only [iff_self, fr_setKslot, h0]; done) | (with_reducible rfl) | (with_reducible refine (fr_foldl (fun _ _ => ?_)).trans ?_) | (with_reducible refine (fr_foldl_snd (fun _ _ => ?_)).trans ?_) | (with_reducible refine Iff.trans (fr_pair (by assumption)) ?_) | split | simp only [eq_self])

theorem fr_stage {dz : Dev} {lz : List Part} (d : Dev) (k : Nat) (x : Key) (h0 : .dict ∈ lz) (h1 : .access ∈ lz) (h2 : .eng ∈ lz) :
    dz.changesOnly lz (Dev.stage d k x) ↔ dz.changesOnly lz d := by
  simp only [Dev.stage, iff_self, ite_self, fr_ite, fr_put, fr_setSlot, fr_stageParams, h0, h1, h2]

theorem fr_writeImplicit {dz : Dev} {lz : List Part} (d : Dev) (x : Obj) (q : Req) (h0 : .fresh ∈ lz) (h1 : .dict ∈ lz) (h2 : .access ∈ lz) (h3 : .eng ∈ lz) :
    dz.changesOnly lz (Dev.writeImplicit d x q).2 ↔ dz.changesOnly lz d := by
  unfold Dev.writeImplicit; repeat' (first | (simp only [iff_self, fr_accept, fr_newTxId, fr_stage, fr_writeShadow, h0, h1, h2, h3]; done) | (with_reducible rfl) | (with_reducible refine (fr_foldl (fun _ _ => ?_)).trans ?_) | (with_reducible refine (fr_foldl_snd (fun _ _ => ?_)).trans ?_) | (with_reducible refine Iff.trans (fr_pair (by assumption)) ?_) | (with_reducible refine Iff.trans (fr_openSlot_some (by assumption) ‹_› ‹_› ‹_›) ?_) | split | simp only [fr_accept, fr_stage, fr_writeShadow, h1, h2, h3])

theorem fr_write {dz : Dev} {lz : List Part} (d : Dev) (role : Role) (q : Req) (h0 : .fresh ∈ lz) (h1 : .out ∈ lz) (h2 : .dict ∈ lz) (h3 : .access ∈ lz) (h4 : .tim ∈ lz) (h5 : .arch ∈ lz) (h6 : .flying ∈ lz) (h7 : .live ∈ lz) (h8 : .faults ∈ lz) (h9 : .net ∈ lz) (h10 : .host ∈ lz) (h11 : .lan ∈ lz) (h12 : .ecl ∈ lz) (h13 : .rings ∈ lz) (h14 : .ing ∈ lz) (h15 : .tab ∈ lz) (h16 : .eng ∈ lz) (h17 : .wave ∈ lz) (h18 : .pow ∈ lz) (h19 : .spi ∈ lz) :
    dz.changesOnly lz (Dev.write d role q).2 ↔ dz.changesOnly lz d :=
  fr_of (fun p hp => absurd (by cases p <;> assumption) hp)

theorem fr_loseSync {dz : Dev} {lz : List Part} (d : Dev) (r : Nat) (x : Replica) (h0 : .dict ∈ lz) (h1 : .arch ∈ lz) (h2 : .flying ∈ lz) (h3 : .live ∈ lz) :
    dz.changesOnly lz (Dev.loseSync d r x) ↔ dz.changesOnly lz d := by
  simp only [Dev.loseSync, iff_self, fr_raise, fr_setLive, fr_setRep, h0, h1, h2, h3]

theorem fr_goodPulse {dz : Dev} {lz : List Part} (d : Dev) (r : Nat) (x : Replica) (h0 : .dict ∈ lz) (h1 : .arch ∈ lz) (h2 : .live ∈ lz) :
    dz.changesOnly lz (Dev.goodPulse d r x) ↔ dz.changesOnly lz d := by
  simp only [Dev.goodPulse, iff_self, ite_self, fr_ite, fr_setLive, fr_setRep, h0, h1, h2]

theorem fr_replicaPulse {dz : Dev} {lz : List Part} (r : Nat) (roundTrip : Nat) (diff : Int) (d : Dev) (h0 : .dict ∈ lz) (h1 : .arch ∈ lz) (h2 : .flying ∈ lz) (h3 : .live ∈ lz) :
    dz.changesOnly lz (replicaPulse r roundTrip diff d) ↔ dz.changesOnly lz d := by
  simp only [replicaPulse, iff_self, ite_self, fr_ite, fr_goodPulse, fr_loseSync, fr_raise, fr_setRep, h0, h1, h2, h3]

theorem fr_replicaPulseMissed {dz : Dev} {lz : List Part} (r : Nat) (d : Dev) (h0 : .dict ∈ lz) (h1 : .arch ∈ lz) (h2 : .flying ∈ lz) (h3 : .live ∈ lz) :
    dz.changesOnly lz (replicaPulseMissed r d) ↔ dz.changesOnly lz d := by
  simp only [replicaPulseMissed, iff_self, ite_self, fr_ite, fr_loseSync, fr_setRep, h0, h1, h2, h3]

theorem fr_setLink {dz : Dev} {lz : List Part} (d : Dev) (l : Nat) (x : D2d) (h0 : .arch ∈ lz) :
    dz.changesOnly lz (Dev.setLink d l x) ↔ dz.changesOnly lz d :=
  fr_of (fun p hp => by cases p <;> first | rfl | (exact absurd ‹_› hp))

theorem fr_flitCrcError {dz : Dev} {lz : List Part} (l k : Nat) (d : Dev) (h0 : .flying ∈ lz) :
    dz.changesOnly lz (flitCrcError l k d) ↔ dz.changesOnly lz d := by
  simp only [flitCrcError, iff_self, fr_raise, h0]

theorem fr_remeasure {dz : Dev} {lz : List Part} (d : Dev) (r : Nat) (h0 : .dict ∈ lz) (h1 : .arch ∈ lz) (h2 : .flying ∈ lz) (h3 : .live ∈ lz) :
    dz.changesOnly lz (Dev.remeasure d r) ↔ dz.changesOnly lz d := by
  simp only [Dev.remeasure, iff_self, ite_self, fr_ite, fr_raise, fr_setLive, fr_setRep, h0, h1, h2, h3]

theorem fr_laneFailure {dz : Dev} {lz : List Part} (l k : Nat) (d : Dev) (h0 : .dict ∈ lz) (h1 : .arch ∈ lz) (h2 : .flying ∈ lz) (h3 : .live ∈ lz) :
    dz.changesOnly lz (laneFailure l k d) ↔ dz.changesOnly lz d := by
  simp only [laneFailure, iff_self, ite_self, fr_ite, fr_raise, fr_remeasure, fr_setLink, fr_setLive, h0, h1, h2, h3]

theorem fr_pushRecord {dz : Dev} {lz : List Part} (d : Dev) (b : List Byte) (h0 : .dict ∈ lz) :
    dz.changesOnly lz (Dev.pushRecord d b) ↔ dz.changesOnly lz d := by
  simp only [Dev.pushRecord, iff_self, implies_true, fr_foldl, fr_putB, h0]

theorem fr_at_ {dz : Dev} {lz : List Part} (d : Dev) (t : Nat) (h0 : .tim ∈ lz) :
    dz.changesOnly lz (Dev.at_ d t) ↔ dz.changesOnly lz d :=
  fr_of (fun p hp => by cases p <;> first | rfl | (exact absurd ‹_› hp))

theorem fr_startAttempt {dz : Dev} {lz : List Part} (sel : Nat) (d : Dev) (h0 : .out ∈ lz) (h1 : .dict ∈ lz) (h2 : .tim ∈ lz) (h3 : .arch ∈ lz) (h4 : .flying ∈ lz) (h5 : .net ∈ lz) (h6 : .host ∈ lz) (h7 : .lan ∈ lz) (h8 : .ecl ∈ lz) (h9 : .rings ∈ lz) (h10 : .ing ∈ lz) (h11 : .tab ∈ lz) (h12 : .eng ∈ lz) (h13 : .wave ∈ lz) (h14 : .pow ∈ lz) :
    dz.changesOnly lz (startAttempt sel d) ↔ dz.changesOnly lz d := by
  unfold startAttempt; repeat' (first | (simp only [iff_self, ite_self, fr_ite, fr_add, fr_at_, fr_lantern, fr_mirror, fr_pushRecord, fr_put, fr_setPow, h0, h1, h2, h3, h4, h5, h6, h7, h8, h9, h10, h11, h12, h13, h14]; done) | (with_reducible rfl) | (with_reducible refine (fr_foldl (fun _ _ => ?_)).trans ?_) | (with_reducible refine (fr_foldl_snd (fun _ _ => ?_)).trans ?_) | (with_reducible refine Iff.trans (fr_pair (by assumption)) ?_) | split | simp only [fr_ite, fr_at_, fr_lantern, fr_put, fr_setPow, h0, h1, h2, h3, h4, h5, h6, h7, h8, h9, h10, h11, h12, h13, h14])

theorem fr_failAttempt {dz : Dev} {lz : List Part} (d : Dev) (code detail : Nat) (h0 : .dict ∈ lz) (h1 : .pow ∈ lz) :
    dz.changesOnly lz (Dev.failAttempt d code detail) ↔ dz.changesOnly lz d := by
  simp only [Dev.failAttempt, iff_self, fr_add, fr_endRecord, fr_mirror, fr_put, fr_setPow, h0, h1]

theorem fr_mirrorProgramComplete {dz : Dev} {lz : List Part} (d : Dev) (h0 : .fresh ∈ lz) (h1 : .out ∈ lz) (h2 : .dict ∈ lz) (h3 : .access ∈ lz) (h4 : .tim ∈ lz) (h5 : .arch ∈ lz) (h6 : .flying ∈ lz) (h7 : .live ∈ lz) (h8 : .faults ∈ lz) (h9 : .net ∈ lz) (h10 : .host ∈ lz) (h11 : .lan ∈ lz) (h12 : .ecl ∈ lz) (h13 : .rings ∈ lz) (h14 : .ing ∈ lz) (h15 : .tab ∈ lz) (h16 : .eng ∈ lz) (h17 : .wave ∈ lz) (h18 : .pow ∈ lz) (h19 : .spi ∈ lz) :
    dz.changesOnly lz (mirrorProgramComplete d) ↔ dz.changesOnly lz d :=
  fr_of (fun p hp => absurd (by cases p <;> assumption) hp)

theorem fr_firmwareVerifyComplete {dz : Dev} {lz : List Part} (readOk : Bool) (d : Dev) (h0 : .dict ∈ lz) (h1 : .pow ∈ lz) :
    dz.changesOnly lz (firmwareVerifyComplete readOk d) ↔ dz.changesOnly lz d := by
  simp only [firmwareVerifyComplete, iff_self, ite_self, fr_ite, fr_failAttempt, fr_setPow, h0, h1]

theorem fr_bootGo {dz : Dev} {lz : List Part} (d : Dev) (h0 : .pow ∈ lz) :
    dz.changesOnly lz (bootGo d) ↔ dz.changesOnly lz d := by
  simp only [bootGo, iff_self, ite_self, fr_ite, fr_setPow, h0]

theorem fr_hostImageTimeout {dz : Dev} {lz : List Part} (d : Dev) (h0 : .dict ∈ lz) (h1 : .tim ∈ lz) (h2 : .pow ∈ lz) :
    dz.changesOnly lz (hostImageTimeout d) ↔ dz.changesOnly lz d := by
  unfold hostImageTimeout; repeat' (first | (simp only [iff_self, ite_self, fr_ite, fr_at_, fr_failAttempt, h0, h1, h2]; done) | (with_reducible rfl) | (with_reducible refine (fr_foldl (fun _ _ => ?_)).trans ?_) | (with_reducible refine (fr_foldl_snd (fun _ _ => ?_)).trans ?_) | (with_reducible refine Iff.trans (fr_pair (by assumption)) ?_) | split | simp only [eq_self, iff_self, implies_true, forall_const, ite_self, true_or, or_true, fr_ite, fr_ite_snd, fr_foldl, fr_foldl_snd, fr_at_, fr_failAttempt, h0, h1, h2])

theorem fr_startFailed {dz : Dev} {lz : List Part} (d : Dev) (src unit : Nat) (h0 : .dict ∈ lz) (h1 : .flying ∈ lz) (h2 : .live ∈ lz) (h3 : .eng ∈ lz) :
    dz.changesOnly lz (Dev.startFailed d src unit) ↔ dz.changesOnly lz d := by
  simp only [Dev.startFailed, iff_self, ite_self, fr_ite, fr_put, fr_raise, fr_setEngine, fr_setLive, h0, h1, h2, h3]

theorem fr_startSelfTest {dz : Dev} {lz : List Part} (detail : Nat) (failed : List (Nat × Nat)) (d : Dev) (h0 : .dict ∈ lz) (h1 : .flying ∈ lz) (h2 : .live ∈ lz) (h3 : .faults ∈ lz) (h4 : .tab ∈ lz) (h5 : .eng ∈ lz) (h6 : .pow ∈ lz) :
    dz.changesOnly lz (startSelfTest detail failed d) ↔ dz.changesOnly lz d := by
  simp only [startSelfTest, eq_self, iff_self, implies_true, ite_self, true_or, or_true, fr_ite, fr_foldl, fr_rec_flt, fr_failAttempt, fr_put, fr_setPow, fr_setPower, fr_setTab, fr_startFailed, h0, h1, h2, h3, h4, h5, h6]

theorem fr_confirmationDeadline {dz : Dev} {lz : List Part} (d : Dev) (h0 : .dict ∈ lz) (h1 : .tim ∈ lz) (h2 : .pow ∈ lz) :
    dz.changesOnly lz (confirmationDeadline d) ↔ dz.changesOnly lz d := by
  unfold confirmationDeadline; repeat' (first | (simp only [iff_self, ite_self, fr_ite, fr_at_, fr_failAttempt, h0, h1, h2]; done) | (with_reducible rfl) | (with_reducible refine (fr_foldl (fun _ _ => ?_)).trans ?_) | (with_reducible refine (fr_foldl_snd (fun _ _ => ?_)).trans ?_) | (with_reducible refine Iff.trans (fr_pair (by assumption)) ?_) | split | simp only [eq_self, iff_self, implies_true, forall_const, ite_self, true_or, or_true, fr_ite, fr_ite_snd, fr_foldl, fr_foldl_snd, fr_at_, fr_failAttempt, h0, h1, h2])

theorem fr_slotVerifyComplete {dz : Dev} {lz : List Part} (s : Nat) (readOk : Bool) (d : Dev) (h0 : .dict ∈ lz) (h1 : .pow ∈ lz) :
    dz.changesOnly lz (slotVerifyComplete s readOk d) ↔ dz.changesOnly lz d := by
  simp only [slotVerifyComplete, iff_self, ite_self, fr_ite, fr_put, fr_setPow, h0, h1]

theorem fr_writeWindow {dz : Dev} {lz : List Part} (d : Dev) (off : Nat) (bs : List Byte) (h0 : .pow ∈ lz) :
    dz.changesOnly lz (Dev.writeWindow d off bs) ↔ dz.changesOnly lz d := by
  simp only [Dev.writeWindow, iff_self, ite_self, fr_ite, fr_setPow, h0]

theorem fr_fire {dz : Dev} {lz : List Part} (d : Dev) (c unit addr : Nat) (h0 : .dict ∈ lz) (h1 : .flying ∈ lz) (h2 : .faults ∈ lz) :
    dz.changesOnly lz (Dev.fire d c unit addr).2 ↔ dz.changesOnly lz d := by
  unfold Dev.fire; repeat' (first | (simp only [eq_self, iff_self, ite_self, true_or, or_true, fr_ite, fr_put, fr_raise, fr_setFlt, h0, h1, h2]; done) | (with_reducible rfl) | (with_reducible refine (fr_foldl (fun _ _ => ?_)).trans ?_) | (with_reducible refine (fr_foldl_snd (fun _ _ => ?_)).trans ?_) | (with_reducible refine Iff.trans (fr_pair (by assumption)) ?_) | split | simp only [eq_self, iff_self, implies_true, forall_const, ite_self, true_or, or_true, fr_ite, fr_ite_snd, fr_foldl, fr_foldl_snd, fr_put, fr_raise, fr_setFlt, h0, h1, h2, put_flt])

theorem fr_markInjected {dz : Dev} {lz : List Part} (d : Dev) (n : Nat) (h0 : .flying ∈ lz) (h1 : .faults ∈ lz) :
    dz.changesOnly lz (Dev.markInjected d n) ↔ dz.changesOnly lz d := by
  simp only [Dev.markInjected, eq_self, iff_self, true_or, or_true, fr_setFlt, h0, h1]

theorem fr_checked_ {dz : Dev} {lz : List Part} (d : Dev) (c unit : Nat) (f : Dev → Dev) (hf : ∀ y, dz.changesOnly lz (f y) ↔ dz.changesOnly lz y)
    (h0 : .dict ∈ lz) (h1 : .flying ∈ lz) (h2 : .faults ∈ lz) :
    dz.changesOnly lz (Dev.checked_ d c unit f) ↔ dz.changesOnly lz d := by
  unfold Dev.checked_
  split <;> (rename_i h; simp only [fr_markInjected, hf, h0, h1, h2, fr_pair h, fr_fire])

theorem fr_dropAct {dz : Dev} {lz : List Part} (d : Dev) (a : Act) (h0 : .dict ∈ lz) :
    dz.changesOnly lz (Dev.dropAct d a) ↔ dz.changesOnly lz d := by
  simp only [Dev.dropAct, iff_self, fr_inc, h0]

theorem fr_dropPending {dz : Dev} {lz : List Part} (d : Dev) (f : Nat) (p : Act → Bool) (h0 : .dict ∈ lz) (h1 : .eng ∈ lz) :
    dz.changesOnly lz (Dev.dropPending d f p) ↔ dz.changesOnly lz d := by
  simp only [Dev.dropPending, iff_self, implies_true, fr_foldl, fr_dropAct, fr_setEngine, h0, h1]

theorem fr_stopSlot {dz : Dev} {lz : List Part} (d : Dev) (k row : Nat) (h0 : .dict ∈ lz) (h1 : .eng ∈ lz) :
    dz.changesOnly lz (Dev.stopSlot d k row) ↔ dz.changesOnly lz d := by
  simp only [Dev.stopSlot, iff_self, ite_self, fr_ite, fr_abandonAct, fr_dropPending, fr_put, fr_setKslot, fr_showSlot, h0, h1]

theorem fr_stopAll {dz : Dev} {lz : List Part} (d : Dev) (l row : Nat) (h0 : .dict ∈ lz) (h1 : .eng ∈ lz) :
    dz.changesOnly lz (Dev.stopAll d l row) ↔ dz.changesOnly lz d := by
  simp only [Dev.stopAll, iff_self, implies_true, ite_self, fr_ite, fr_foldl, fr_stopSlot, h0, h1]

theorem fr_engineFault {dz : Dev} {lz : List Part} (d : Dev) (f row : Nat) (h0 : .dict ∈ lz) (h1 : .flying ∈ lz) (h2 : .eng ∈ lz) :
    dz.changesOnly lz (Dev.engineFault d f row) ↔ dz.changesOnly lz d := by
  simp only [Dev.engineFault, iff_self, ite_self, fr_ite, fr_abandonAct, fr_put, fr_raise, fr_rehome, fr_selfTest, fr_setEngine, fr_stopAll, h0, h1, h2]

theorem fr_engineHardwareFault {dz : Dev} {lz : List Part} (f kind : Nat) (d : Dev) (h0 : .dict ∈ lz) (h1 : .flying ∈ lz) (h2 : .eng ∈ lz) :
    dz.changesOnly lz (engineHardwareFault f kind d) ↔ dz.changesOnly lz d := by
  simp only [engineHardwareFault, iff_self, fr_engineFault, h0, h1, h2]

theorem fr_engineCheck {dz : Dev} {lz : List Part} (f : Nat) (kind : Fin 4) (d : Dev) (h0 : .dict ∈ lz) (h1 : .flying ∈ lz) (h2 : .faults ∈ lz) (h3 : .eng ∈ lz) :
    dz.changesOnly lz (engineCheck f kind d) ↔ dz.changesOnly lz d := by
  simp only [engineCheck, iff_self, implies_true, ite_self, fr_ite, fr_checked_, fr_engineHardwareFault, h0, h1, h2, h3]

theorem fr_dieResetComplete {dz : Dev} {lz : List Part} (c : Nat) (d : Dev) (h0 : .out ∈ lz) (h1 : .dict ∈ lz) (h2 : .tim ∈ lz) (h3 : .faults ∈ lz) (h4 : .lan ∈ lz) (h5 : .tab ∈ lz) :
    dz.changesOnly lz (dieResetComplete c d) ↔ dz.changesOnly lz d := by
  unfold dieResetComplete; repeat' (first | (simp only [iff_self, fr_at_, fr_endReset, h0, h1, h2, h3, h4, h5]; done) | (with_reducible rfl) | (with_reducible refine (fr_foldl (fun _ _ => ?_)).trans ?_) | (with_reducible refine (fr_foldl_snd (fun _ _ => ?_)).trans ?_) | (with_reducible refine Iff.trans (fr_pair (by assumption)) ?_) | split | simp only [eq_self, iff_self, implies_true, forall_const, ite_self, true_or, or_true, fr_ite, fr_ite_snd, fr_foldl, fr_foldl_snd, fr_at_, fr_endReset, h0, h1, h2, h3, h4, h5])

theorem fr_cutPulses {dz : Dev} {lz : List Part} (d : Dev) (h0 : .out ∈ lz) (h1 : .tim ∈ lz) :
    dz.changesOnly lz (Dev.cutPulses d) ↔ dz.changesOnly lz d := by
  simp only [Dev.cutPulses, iff_self, fr_emit, fr_setTim, h0, h1]

theorem fr_portSafe {dz : Dev} {lz : List Part} (d : Dev) (p : Nat) (h0 : .out ∈ lz) (h1 : .dict ∈ lz) (h2 : .net ∈ lz) (h3 : .host ∈ lz) (h4 : .lan ∈ lz) :
    dz.changesOnly lz (Dev.portSafe d p) ↔ dz.changesOnly lz d := by
  simp only [Dev.portSafe, iff_self, fr_dropWaitingTx, h0, h1, h2, h3, h4]

theorem fr_finishSlot {dz : Dev} {lz : List Part} (d : Dev) (e : Option (Nat × Nat)) (code : Nat) (h0 : .out ∈ lz) (h1 : .dict ∈ lz) (h2 : .host ∈ lz) (h3 : .lan ∈ lz) :
    dz.changesOnly lz (Dev.finishSlot d e code) ↔ dz.changesOnly lz d := by
  unfold Dev.finishSlot; repeat' (first | (simp only [iff_self, fr_txOutcome, h0, h1, h2, h3]; done) | (with_reducible rfl) | (with_reducible refine (fr_foldl (fun _ _ => ?_)).trans ?_) | (with_reducible refine (fr_foldl_snd (fun _ _ => ?_)).trans ?_) | (with_reducible refine Iff.trans (fr_pair (by assumption)) ?_) | split | simp only [eq_self, iff_self, implies_true, forall_const, ite_self, true_or, or_true, fr_ite, fr_ite_snd, fr_foldl, fr_foldl_snd, fr_txOutcome, h0, h1, h2, h3])

theorem fr_ringEnterSafe {dz : Dev} {lz : List Part} (d : Dev) (r : Nat) (h0 : .out ∈ lz) (h1 : .dict ∈ lz) (h2 : .host ∈ lz) (h3 : .lan ∈ lz) (h4 : .rings ∈ lz) :
    dz.changesOnly lz (Dev.ringEnterSafe d r) ↔ dz.changesOnly lz d := by
  unfold Dev.ringEnterSafe; repeat' (first | (simp only [iff_self, fr_finishSlot, fr_txOutcome, fr_updRing, h0, h1, h2, h3, h4]; done) | (with_reducible rfl) | (with_reducible refine (fr_foldl (fun _ _ => ?_)).trans ?_) | (with_reducible refine (fr_foldl_snd (fun _ _ => ?_)).trans ?_) | (with_reducible refine Iff.trans (fr_pair (by assumption)) ?_) | split | simp only [fr_updRing, h4])

theorem fr_safeEffects {dz : Dev} {lz : List Part} (d : Dev) (e : Nat) (h0 : .out ∈ lz) (h1 : .dict ∈ lz) (h2 : .tim ∈ lz) (h3 : .net ∈ lz) (h4 : .host ∈ lz) (h5 : .lan ∈ lz) (h6 : .rings ∈ lz) :
    dz.changesOnly lz (Dev.safeEffects d e) ↔ dz.changesOnly lz d := by
  simp only [Dev.safeEffects, iff_self, ite_self, fr_ite, fr_cutPulses, fr_portSafe, fr_ringEnterSafe, h0, h1, h2, h3, h4, h5, h6]

theorem fr_markSafe {dz : Dev} {lz : List Part} (d : Dev) (e src : Nat) (h0 : .out ∈ lz) (h1 : .dict ∈ lz) (h2 : .tim ∈ lz) (h3 : .net ∈ lz) (h4 : .host ∈ lz) (h5 : .lan ∈ lz) (h6 : .rings ∈ lz) :
    dz.changesOnly lz (Dev.markSafe d e src) ↔ dz.changesOnly lz d := by
  simp only [Dev.markSafe, iff_self, ite_self, fr_ite, fr_put, fr_safeEffects, h0, h1, h2, h3, h4, h5, h6]

theorem fr_enterSafe {dz : Dev} {lz : List Part} (d : Dev) (e src unit : Nat) (h0 : .out ∈ lz) (h1 : .dict ∈ lz) (h2 : .tim ∈ lz) (h3 : .faults ∈ lz) (h4 : .net ∈ lz) (h5 : .host ∈ lz) (h6 : .lan ∈ lz) (h7 : .rings ∈ lz) :
    dz.changesOnly lz (Dev.enterSafe d e src unit) ↔ dz.changesOnly lz d := by
  simp only [Dev.enterSafe, eq_self, iff_self, implies_true, ite_self, true_or, or_true, fr_ite, fr_foldl, fr_markSafe, fr_setFlt, h0, h1, h2, h3, h4, h5, h6, h7]

theorem fr_noteFirst {dz : Dev} {lz : List Part} (d : Dev) (x : Detection) (conseq : Bool) (h0 : .dict ∈ lz) (h1 : .faults ∈ lz) :
    dz.changesOnly lz (Dev.noteFirst d x conseq) ↔ dz.changesOnly lz d := by
  simp only [Dev.noteFirst, eq_self, iff_self, ite_self, true_or, or_true, fr_ite, fr_setFlt, fr_showFirst, h0, h1]

theorem fr_putReaction {dz : Dev} {lz : List Part} (d : Dev) (x : Reaction) (h0 : .dict ∈ lz) (h1 : .faults ∈ lz) :
    dz.changesOnly lz (Dev.putReaction d x) ↔ dz.changesOnly lz d := by
  simp only [Dev.putReaction, iff_self, fr_setReactions, h0, h1]

theorem fr_ladderStep {dz : Dev} {lz : List Part} (d : Dev) (x : Reaction) (h0 : .fresh ∈ lz) (h1 : .out ∈ lz) (h2 : .dict ∈ lz) (h3 : .access ∈ lz) (h4 : .tim ∈ lz) (h5 : .arch ∈ lz) (h6 : .flying ∈ lz) (h7 : .live ∈ lz) (h8 : .faults ∈ lz) (h9 : .net ∈ lz) (h10 : .host ∈ lz) (h11 : .lan ∈ lz) (h12 : .rings ∈ lz) (h13 : .tab ∈ lz) (h14 : .eng ∈ lz) (h15 : .wave ∈ lz) :
    dz.changesOnly lz (Dev.ladderStep d x) ↔ dz.changesOnly lz d := by
  unfold Dev.ladderStep; repeat' (first | (simp only [iff_self, fr_beginReset, fr_endReaction, fr_enterSafe, fr_putReaction, h0, h1, h2, h3, h4, h5, h6, h7, h8, h9, h10, h11, h12, h13, h14, h15]; done) | (with_reducible rfl) | (with_reducible refine (fr_foldl (fun _ _ => ?_)).trans ?_) | (with_reducible refine (fr_foldl_snd (fun _ _ => ?_)).trans ?_) | (with_reducible refine Iff.trans (fr_pair (by assumption)) ?_) | split | simp only [eq_self, iff_self, implies_true, forall_const, ite_self, true_or, or_true, fr_ite, fr_ite_snd, fr_foldl, fr_foldl_snd, fr_beginReset, fr_endReaction, fr_enterSafe, fr_putReaction, h0, h1, h2, h3, h4, h5, h6, h7, h8, h9, h10, h11, h12, h13, h14, h15])

theorem fr_escalate {dz : Dev} {lz : List Part} (d : Dev) (src unit : Nat) (h0 : .fresh ∈ lz) (h1 : .out ∈ lz) (h2 : .dict ∈ lz) (h3 : .access ∈ lz) (h4 : .tim ∈ lz) (h5 : .arch ∈ lz) (h6 : .flying ∈ lz) (h7 : .live ∈ lz) (h8 : .faults ∈ lz) (h9 : .net ∈ lz) (h10 : .host ∈ lz) (h11 : .lan ∈ lz) (h12 : .rings ∈ lz) (h13 : .tab ∈ lz) (h14 : .eng ∈ lz) (h15 : .wave ∈ lz) :
    dz.changesOnly lz (Dev.escalate d src unit) ↔ dz.changesOnly lz d := by
  simp only [Dev.escalate, iff_self, ite_self, fr_ite, fr_inc, fr_ladderStep, fr_setReactions, h0, h1, h2, h3, h4, h5, h6, h7, h8, h9, h10, h11, h12, h13, h14, h15]

theorem fr_softwareWindowEnd {dz : Dev} {lz : List Part} (src unit : Nat) (d : Dev) (h0 : .fresh ∈ lz) (h1 : .out ∈ lz) (h2 : .dict ∈ lz) (h3 : .access ∈ lz) (h4 : .tim ∈ lz) (h5 : .arch ∈ lz) (h6 : .flying ∈ lz) (h7 : .live ∈ lz) (h8 : .faults ∈ lz) (h9 : .net ∈ lz) (h10 : .host ∈ lz) (h11 : .lan ∈ lz) (h12 : .rings ∈ lz) (h13 : .tab ∈ lz) (h14 : .eng ∈ lz) (h15 : .wave ∈ lz) :
    dz.changesOnly lz (softwareWindowEnd src unit d) ↔ dz.changesOnly lz d := by
  unfold softwareWindowEnd; repeat' (first | (simp only [iff_self, fr_at_, fr_ladderStep, h0, h1, h2, h3, h4, h5, h6, h7, h8, h9, h10, h11, h12, h13, h14, h15]; done) | (with_reducible rfl) | (with_reducible refine (fr_foldl (fun _ _ => ?_)).trans ?_) | (with_reducible refine (fr_foldl_snd (fun _ _ => ?_)).trans ?_) | (with_reducible refine Iff.trans (fr_pair (by assumption)) ?_) | split | simp only [eq_self, iff_self, implies_true, forall_const, ite_self, true_or, or_true, fr_ite, fr_ite_snd, fr_foldl, fr_foldl_snd, fr_at_, fr_ladderStep, h0, h1, h2, h3, h4, h5, h6, h7, h8, h9, h10, h11, h12, h13, h14, h15])

theorem fr_resetComplete {dz : Dev} {lz : List Part} (src unit : Nat) (d : Dev) (h0 : .out ∈ lz) (h1 : .dict ∈ lz) (h2 : .faults ∈ lz) (h3 : .lan ∈ lz) (h4 : .tab ∈ lz) :
    dz.changesOnly lz (resetComplete src unit d) ↔ dz.changesOnly lz d := by
  unfold resetComplete; repeat' (first | (simp only [iff_self, fr_endReset, fr_setReactions, h0, h1, h2, h3, h4]; done) | (with_reducible rfl) | (with_reducible refine (fr_foldl (fun _ _ => ?_)).trans ?_) | (with_reducible refine (fr_foldl_snd (fun _ _ => ?_)).trans ?_) | (with_reducible refine Iff.trans (fr_pair (by assumption)) ?_) | split | simp only [eq_self, iff_self, implies_true, forall_const, ite_self, true_or, or_true, fr_ite, fr_ite_snd, fr_foldl, fr_foldl_snd, fr_endReset, fr_setReactions, h0, h1, h2, h3, h4])

theorem fr_watchWindowEnd {dz : Dev} {lz : List Part} (src unit : Nat) (d : Dev) (h0 : .dict ∈ lz) (h1 : .tim ∈ lz) (h2 : .faults ∈ lz) :
    dz.changesOnly lz (watchWindowEnd src unit d) ↔ dz.changesOnly lz d := by
  unfold watchWindowEnd; repeat' (first | (simp only [iff_self, fr_at_, fr_endReaction, h0, h1, h2]; done) | (with_reducible rfl) | (with_reducible refine (fr_foldl (fun _ _ => ?_)).trans ?_) | (with_reducible refine (fr_foldl_snd (fun _ _ => ?_)).trans ?_) | (with_reducible refine Iff.trans (fr_pair (by assumption)) ?_) | split | simp only [eq_self, iff_self, implies_true, forall_const, ite_self, true_or, or_true, fr_ite, fr_ite_snd, fr_foldl, fr_foldl_snd, fr_at_, fr_endReaction, h0, h1, h2])

theorem fr_setNode {dz : Dev} {lz : List Part} (d : Dev) (i : Nat) (x : Node) (h0 : .dict ∈ lz) (h1 : .ecl ∈ lz) :
    dz.changesOnly lz (Dev.setNode d i x) ↔ dz.changesOnly lz d := by
  simp only [Dev.setNode, iff_self, fr_put, fr_putB, fr_setEcl, h0, h1]

theorem fr_storeBad {dz : Dev} {lz : List Part} (d : Dev) (unit : Nat) (h0 : .dict ∈ lz) (h1 : .ecl ∈ lz) :
    dz.changesOnly lz (Dev.storeBad d unit) ↔ dz.changesOnly lz d := by
  simp only [Dev.storeBad, iff_self, ite_self, fr_ite, fr_setFn, fr_setNode, h0, h1]

theorem fr_containBlock {dz : Dev} {lz : List Part} (d : Dev) (src unit : Nat) (h0 : .out ∈ lz) (h1 : .dict ∈ lz) (h2 : .net ∈ lz) (h3 : .host ∈ lz) (h4 : .lan ∈ lz) (h5 : .ecl ∈ lz) (h6 : .rings ∈ lz) (h7 : .eng ∈ lz) :
    dz.changesOnly lz (Dev.containBlock d src unit) ↔ dz.changesOnly lz d := by
  simp only [Dev.containBlock, iff_self, implies_true, ite_self, fr_ite, fr_foldl, fr_abandonAct, fr_add, fr_portSafe, fr_ringEnterSafe, fr_setEngine, fr_storeBad, h0, h1, h2, h3, h4, h5, h6, h7]

theorem fr_react {dz : Dev} {lz : List Part} (d : Dev) (src unit : Nat) (h0 : .fresh ∈ lz) (h1 : .out ∈ lz) (h2 : .dict ∈ lz) (h3 : .access ∈ lz) (h4 : .tim ∈ lz) (h5 : .arch ∈ lz) (h6 : .flying ∈ lz) (h7 : .live ∈ lz) (h8 : .faults ∈ lz) (h9 : .net ∈ lz) (h10 : .host ∈ lz) (h11 : .lan ∈ lz) (h12 : .ecl ∈ lz) (h13 : .rings ∈ lz) (h14 : .tab ∈ lz) (h15 : .eng ∈ lz) (h16 : .wave ∈ lz) :
    dz.changesOnly lz (Dev.react d src unit) ↔ dz.changesOnly lz d := by
  simp only [Dev.react, iff_self, ite_self, fr_ite, fr_containBlock, fr_enterSafe, fr_escalate, h0, h1, h2, h3, h4, h5, h6, h7, h8, h9, h10, h11, h12, h13, h14, h15, h16]

theorem fr_pollNow {dz : Dev} {lz : List Part} (d : Dev) (q : Nat) (h0 : .dict ∈ lz) (h1 : .host ∈ lz) :
    dz.changesOnly lz (Dev.pollNow d q) ↔ dz.changesOnly lz d := by
  simp only [Dev.pollNow, iff_self, ite_self, fr_ite, fr_setQueue, h0, h1]

theorem fr_serveEv {dz : Dev} {lz : List Part} (q : Nat) (n : Nat) (d : Dev) (h0 : .out ∈ lz) (h1 : .dict ∈ lz) (h2 : .host ∈ lz) (h3 : .lan ∈ lz) :
    dz.changesOnly lz (Dev.serveEv q n d) ↔ dz.changesOnly lz d := by
  induction n generalizing d with
  | zero => rfl
  | succ n ih =>
    unfold Dev.serveEv
    repeat' (first | (simp only [iff_self, fr_ite, ih, fr_writeBack, fr_setQueue, h0, h1, h2, h3]; done) | (with_reducible rfl) | (refine Iff.trans (fr_pair (by assumption)) ?_) | split | simp only [iff_self])

theorem fr_eventDeliver {dz : Dev} {lz : List Part} (d : Dev) (e : EvWait) (h0 : .out ∈ lz) (h1 : .dict ∈ lz) (h2 : .host ∈ lz) (h3 : .lan ∈ lz) :
    dz.changesOnly lz (Dev.eventDeliver d e) ↔ dz.changesOnly lz d := by
  simp only [Dev.eventDeliver, iff_self, ite_self, fr_ite, fr_countDrop, fr_pollNow, fr_serveEv, fr_setQueue, h0, h1, h2, h3]

theorem fr_handle {dz : Dev} {lz : List Part} (d : Dev) (x : Detection) (h0 : .fresh ∈ lz) (h1 : .out ∈ lz) (h2 : .dict ∈ lz) (h3 : .access ∈ lz) (h4 : .tim ∈ lz) (h5 : .arch ∈ lz) (h6 : .flying ∈ lz) (h7 : .live ∈ lz) (h8 : .faults ∈ lz) (h9 : .net ∈ lz) (h10 : .host ∈ lz) (h11 : .lan ∈ lz) (h12 : .ecl ∈ lz) (h13 : .rings ∈ lz) (h14 : .tab ∈ lz) (h15 : .eng ∈ lz) (h16 : .wave ∈ lz) :
    dz.changesOnly lz (Dev.handle d x) ↔ dz.changesOnly lz d := by
  unfold Dev.handle; repeat' (first | (simp only [eq_self, iff_self, ite_self, true_or, or_true, fr_ite, fr_eventDeliver, fr_inc, fr_ladderStep, fr_noteFirst, fr_react, fr_setFlt, h0, h1, h2, h3, h4, h5, h6, h7, h8, h9, h10, h11, h12, h13, h14, h15, h16]; done) | (with_reducible rfl) | (with_reducible refine (fr_foldl (fun _ _ => ?_)).trans ?_) | (with_reducible refine (fr_foldl_snd (fun _ _ => ?_)).trans ?_) | (with_reducible refine Iff.trans (fr_pair (by assumption)) ?_) | split | simp only [eq_self, ite_self, true_or, or_true, fr_ite, fr_eventDeliver, fr_inc, fr_noteFirst, fr_setFlt, h1, h2, h6, h7, h8, h10, h11])

theorem fr_injectedDet {dz : Dev} {lz : List Part} (d : Dev) (x : Detection) (h0 : .dict ∈ lz) (h1 : .flying ∈ lz) (h2 : .faults ∈ lz) :
    dz.changesOnly lz (Dev.injectedDet d x).2 ↔ dz.changesOnly lz d := by
  unfold Dev.injectedDet; repeat' (first | (simp only [iff_self, fr_fire, h0, h1, h2]; done) | (with_reducible rfl) | (with_reducible refine (fr_foldl (fun _ _ => ?_)).trans ?_) | (with_reducible refine (fr_foldl_snd (fun _ _ => ?_)).trans ?_) | (with_reducible refine Iff.trans (fr_pair (by assumption)) ?_) | split | simp only [eq_self, iff_self, implies_true, forall_const, ite_self, true_or, or_true, fr_ite, fr_ite_snd, fr_foldl, fr_foldl_snd, fr_fire, h0, h1, h2])

theorem fr_faultDetection {dz : Dev} {lz : List Part} (ds : List Detection) (began ended : List (Nat × Nat)) (d : Dev) (h0 : .fresh ∈ lz) (h1 : .out ∈ lz) (h2 : .dict ∈ lz) (h3 : .access ∈ lz) (h4 : .tim ∈ lz) (h5 : .arch ∈ lz) (h6 : .flying ∈ lz) (h7 : .live ∈ lz) (h8 : .faults ∈ lz) (h9 : .net ∈ lz) (h10 : .host ∈ lz) (h11 : .lan ∈ lz) (h12 : .ecl ∈ lz) (h13 : .rings ∈ lz) (h14 : .tab ∈ lz) (h15 : .eng ∈ lz) (h16 : .wave ∈ lz) :
    dz.changesOnly lz (faultDetection ds began ended d) ↔ dz.changesOnly lz d := by
  simp only [faultDetection, eq_self, iff_self, implies_true, true_or, or_true, fr_foldl, fr_foldl_snd, fr_handle, fr_injectedDet, fr_setFlt, fr_setLive, h0, h1, h2, h3, h4, h5, h6, h7, h8, h9, h10, h11, h12, h13, h14, h15, h16]

theorem fr_rxWrite {dz : Dev} {lz : List Part} (d : Dev) (q : Nat) (e : QEntry) (w : RxWait) (h0 : .out ∈ lz) (h1 : .dict ∈ lz) (h2 : .host ∈ lz) (h3 : .lan ∈ lz) :
    dz.changesOnly lz (Dev.rxWrite d q e w) ↔ dz.changesOnly lz d := by
  simp only [Dev.rxWrite, iff_self, fr_freeCells, fr_hostWrite, fr_setQueue, fr_writeBack, h0, h1, h2, h3]

theorem fr_serveRx {dz : Dev} {lz : List Part} (q : Nat) (n : Nat) (d : Dev) (h0 : .out ∈ lz) (h1 : .dict ∈ lz) (h2 : .host ∈ lz) (h3 : .lan ∈ lz) :
    dz.changesOnly lz (Dev.serveRx q n d) ↔ dz.changesOnly lz d := by
  induction n generalizing d with
  | zero => rfl
  | succ n ih =>
    unfold Dev.serveRx
    repeat' (first | (simp only [iff_self, fr_ite, ih, fr_rxWrite, fr_setQueue, h0, h1, h2, h3]; done) | (with_reducible rfl) | (refine Iff.trans (fr_pair (by assumption)) ?_) | split | simp only [iff_self])

theorem fr_serveQueue {dz : Dev} {lz : List Part} (d : Dev) (q : Nat) (h0 : .fresh ∈ lz) (h1 : .out ∈ lz) (h2 : .dict ∈ lz) (h3 : .host ∈ lz) (h4 : .lan ∈ lz) :
    dz.changesOnly lz (Dev.serveQueue d q) ↔ dz.changesOnly lz d := by
  simp only [Dev.serveQueue, iff_self, fr_advanceHead, fr_serveBlocks, fr_serveEv, fr_serveRx, fr_settleTx, h0, h1, h2, h3, h4]

theorem fr_issueParts {dz : Dev} {lz : List Part}  (n : Nat) (d : Dev) (h0 : .out ∈ lz) (h1 : .host ∈ lz) :
    dz.changesOnly lz (Dev.issueParts n d) ↔ dz.changesOnly lz d := by
  induction n generalizing d with
  | zero => rfl
  | succ n ih =>
    unfold Dev.issueParts
    repeat' (first | (simp only [iff_self, ih, fr_emit, fr_setPcie, h0, h1]; done) | (with_reducible rfl) | (refine Iff.trans (fr_pair (by assumption)) ?_) | split | simp only [iff_self])

theorem fr_issueReads {dz : Dev} {lz : List Part} (d : Dev) (h0 : .out ∈ lz) (h1 : .host ∈ lz) :
    dz.changesOnly lz (Dev.issueReads d) ↔ dz.changesOnly lz d := by
  simp only [Dev.issueReads, iff_self, fr_issueParts, h0, h1]

theorem fr_hostRead {dz : Dev} {lz : List Part} (d : Dev) (what : ReadFor) (addr len : Nat) (orrery : Bool) (h0 : .out ∈ lz) (h1 : .host ∈ lz) :
    dz.changesOnly lz (Dev.hostRead d what addr len orrery) ↔ dz.changesOnly lz d := by
  simp only [Dev.hostRead, iff_self, fr_issueReads, fr_setPcie, h0, h1]

theorem fr_returnStock {dz : Dev} {lz : List Part} (d : Dev) (q : Nat) (h0 : .out ∈ lz) (h1 : .dict ∈ lz) (h2 : .host ∈ lz) (h3 : .lan ∈ lz) :
    dz.changesOnly lz (Dev.returnStock d q) ↔ dz.changesOnly lz d := by
  simp only [Dev.returnStock, iff_self, implies_true, ite_self, fr_ite, fr_foldl, fr_writeBack, h0, h1, h2, h3]

theorem fr_queueError {dz : Dev} {lz : List Part} (d : Dev) (q idx code : Nat) (h0 : .out ∈ lz) (h1 : .dict ∈ lz) (h2 : .flying ∈ lz) (h3 : .live ∈ lz) (h4 : .host ∈ lz) (h5 : .lan ∈ lz) :
    dz.changesOnly lz (Dev.queueError d q idx code) ↔ dz.changesOnly lz d := by
  simp only [Dev.queueError, iff_self, ite_self, fr_ite, fr_abandonBlocks, fr_dropWaiting, fr_raise, fr_returnStock, fr_setLive, fr_setQueue, h0, h1, h2, h3, h4, h5]

theorem fr_takeEntries {dz : Dev} {lz : List Part} (q : Nat) (n : Nat) (idx : Nat) (bs : List Byte) (d : Dev) (h0 : .out ∈ lz) (h1 : .dict ∈ lz) (h2 : .flying ∈ lz) (h3 : .live ∈ lz) (h4 : .host ∈ lz) (h5 : .lan ∈ lz) :
    dz.changesOnly lz (Dev.takeEntries q n idx bs d) ↔ dz.changesOnly lz d := by
  induction n generalizing d idx bs with
  | zero => rfl
  | succ n ih =>
    unfold Dev.takeEntries
    repeat' (first | (simp only [iff_self, ite_self, fr_ite, ih, fr_queueError, fr_setQueue, fr_hostRead, h0, h1, h2, h3, h4, h5]; done) | (with_reducible rfl) | (refine Iff.trans (fr_pair (by assumption)) ?_) | split | simp only [iff_self, implies_true, forall_const, ite_self, true_or, or_true, fr_ite, fr_ite_snd, fr_foldl, fr_foldl_snd, ih, fr_queueError, fr_setQueue, fr_hostRead, h0, h1, h2, h3, h4, h5])

theorem fr_descriptors {dz : Dev} {lz : List Part} (d : Dev) (q idx : Nat) (bs : List Byte) (h0 : .fresh ∈ lz) (h1 : .out ∈ lz) (h2 : .dict ∈ lz) (h3 : .flying ∈ lz) (h4 : .live ∈ lz) (h5 : .host ∈ lz) (h6 : .lan ∈ lz) :
    dz.changesOnly lz (Dev.descriptors d q idx bs) ↔ dz.changesOnly lz d := by
  unfold Dev.descriptors; repeat' (first | (simp only [iff_self, ite_self, fr_ite, fr_inc, fr_serveQueue, fr_takeEntries, h0, h1, h2, h3, h4, h5, h6]; done) | (with_reducible rfl) | (with_reducible refine (fr_foldl (fun _ _ => ?_)).trans ?_) | (with_reducible refine (fr_foldl_snd (fun _ _ => ?_)).trans ?_) | (with_reducible refine Iff.trans (fr_pair (by assumption)) ?_) | split | simp only [eq_self, iff_self, implies_true, forall_const, ite_self, true_or, or_true, fr_ite, fr_ite_snd, fr_foldl, fr_foldl_snd, fr_inc, fr_serveQueue, fr_takeEntries, h0, h1, h2, h3, h4, h5, h6])

theorem fr_ringData {dz : Dev} {lz : List Part} (d : Dev) (r q idx : Nat) (bs : List Byte) (h0 : .out ∈ lz) (h1 : .dict ∈ lz) (h2 : .flying ∈ lz) (h3 : .live ∈ lz) (h4 : .host ∈ lz) (h5 : .lan ∈ lz) (h6 : .rings ∈ lz) :
    dz.changesOnly lz (Dev.ringData d r q idx bs) ↔ dz.changesOnly lz d := by
  unfold Dev.ringData; repeat' (first | (simp only [iff_self, fr_ite, fr_finishSlot, fr_queueError, fr_setQueue, fr_txOutcome, fr_updRing, h0, h1, h2, h3, h4, h5, h6]; done) | (with_reducible rfl) | (with_reducible refine (fr_foldl (fun _ _ => ?_)).trans ?_) | (with_reducible refine (fr_foldl_snd (fun _ _ => ?_)).trans ?_) | (with_reducible refine Iff.trans (fr_pair (by assumption)) ?_) | split | simp only [fr_ite, fr_queueError, h0, h1, h2, h3, h4, h5])

theorem fr_lateSweep {dz : Dev} {lz : List Part} (d : Dev) (p : Nat) (h0 : .out ∈ lz) (h1 : .dict ∈ lz) (h2 : .net ∈ lz) (h3 : .host ∈ lz) (h4 : .lan ∈ lz) :
    dz.changesOnly lz (Dev.lateSweep d p) ↔ dz.changesOnly lz d := by
  simp only [Dev.lateSweep, iff_self, fr_dropWaitingTx, fr_setPort, h0, h1, h2, h3, h4]

theorem fr_takeCells_some {dz : Dev} {lz : List Part} {d y : Dev} {o n : Nat} (h : d.takeCells o n = some y) (h0 : .host ∈ lz) :
    dz.changesOnly lz y ↔ dz.changesOnly lz d := by
  simp only [Dev.takeCells] at h
  split at h <;> split at h <;> first | (obtain rfl := Option.some.inj h; simp only [fr_setHost, h0]) | exact absurd h (by simp)

theorem fr_enqueue {dz : Dev} {lz : List Part} (d : Dev) (p : Nat) (f : QFrame) (h0 : .out ∈ lz) (h1 : .dict ∈ lz) (h2 : .net ∈ lz) (h3 : .host ∈ lz) (h4 : .lan ∈ lz) :
    dz.changesOnly lz (Dev.enqueue d p f) ↔ dz.changesOnly lz d := by
  unfold Dev.enqueue; repeat' (first | (simp only [iff_self, fr_ite, fr_dropTx, fr_lateSweep, fr_setPort, h0, h1, h2, h3, h4]; done) | (with_reducible rfl) | (with_reducible refine (fr_foldl (fun _ _ => ?_)).trans ?_) | (with_reducible refine (fr_foldl_snd (fun _ _ => ?_)).trans ?_) | (with_reducible refine Iff.trans (fr_pair (by assumption)) ?_) | (with_reducible refine Iff.trans (fr_takeCells_some (by assumption) ‹_›) ?_) | split | simp only [fr_lateSweep, fr_setPort, h0, h1, h2, h3, h4])

theorem fr_txData {dz : Dev} {lz : List Part} (d : Dev) (q idx : Nat) (bs : List Byte) (h0 : .out ∈ lz) (h1 : .dict ∈ lz) (h2 : .net ∈ lz) (h3 : .host ∈ lz) (h4 : .lan ∈ lz) :
    dz.changesOnly lz (Dev.txData d q idx bs) ↔ dz.changesOnly lz d := by
  unfold Dev.txData; repeat' (first | (simp only [iff_self, ite_self, fr_ite, fr_enqueue, fr_setQueue, h0, h1, h2, h3, h4]; done) | (with_reducible rfl) | (with_reducible refine (fr_foldl (fun _ _ => ?_)).trans ?_) | (with_reducible refine (fr_foldl_snd (fun _ _ => ?_)).trans ?_) | (with_reducible refine Iff.trans (fr_pair (by assumption)) ?_) | split | simp only [eq_self])

theorem fr_readDone {dz : Dev} {lz : List Part} (d : Dev) (w : ReadFor) (bs : List Byte) (h0 : .fresh ∈ lz) (h1 : .out ∈ lz) (h2 : .dict ∈ lz) (h3 : .flying ∈ lz) (h4 : .live ∈ lz) (h5 : .net ∈ lz) (h6 : .host ∈ lz) (h7 : .lan ∈ lz) (h8 : .rings ∈ lz) :
    dz.changesOnly lz (Dev.readDone d w bs) ↔ dz.changesOnly lz d := by
  unfold Dev.readDone; repeat' (first | (simp only [iff_self, fr_descriptors, fr_ringData, fr_txData, h0, h1, h2, h3, h4, h5, h6, h7, h8]; done) | (with_reducible rfl) | (with_reducible refine (fr_foldl (fun _ _ => ?_)).trans ?_) | (with_reducible refine (fr_foldl_snd (fun _ _ => ?_)).trans ?_) | (with_reducible refine Iff.trans (fr_pair (by assumption)) ?_) | split | simp only [eq_self, iff_self, implies_true, forall_const, ite_self, true_or, or_true, fr_ite, fr_ite_snd, fr_foldl, fr_foldl_snd, fr_descriptors, fr_ringData, fr_txData, h0, h1, h2, h3, h4, h5, h6, h7, h8])

theorem fr_readFails {dz : Dev} {lz : List Part} (d : Dev) (id : Nat) (h0 : .out ∈ lz) (h1 : .dict ∈ lz) (h2 : .flying ∈ lz) (h3 : .live ∈ lz) (h4 : .host ∈ lz) (h5 : .lan ∈ lz) :
    dz.changesOnly lz (Dev.readFails d id) ↔ dz.changesOnly lz d := by
  unfold Dev.readFails; repeat' (first | (simp only [iff_self, fr_queueError, fr_setPcie, h0, h1, h2, h3, h4, h5]; done) | (with_reducible rfl) | (with_reducible refine (fr_foldl (fun _ _ => ?_)).trans ?_) | (with_reducible refine (fr_foldl_snd (fun _ _ => ?_)).trans ?_) | (with_reducible refine Iff.trans (fr_pair (by assumption)) ?_) | split | simp only [eq_self, iff_self, implies_true, forall_const, ite_self, true_or, or_true, fr_ite, fr_ite_snd, fr_foldl, fr_foldl_snd, fr_queueError, fr_setPcie, h0, h1, h2, h3, h4, h5])

theorem fr_partData {dz : Dev} {lz : List Part} (d : Dev) (p : HostRead) (bs : List Byte) (h0 : .fresh ∈ lz) (h1 : .out ∈ lz) (h2 : .dict ∈ lz) (h3 : .flying ∈ lz) (h4 : .live ∈ lz) (h5 : .net ∈ lz) (h6 : .host ∈ lz) (h7 : .lan ∈ lz) (h8 : .rings ∈ lz) :
    dz.changesOnly lz (Dev.partData d p bs) ↔ dz.changesOnly lz d := by
  unfold Dev.partData; repeat' (first | (simp only [iff_self, fr_readDone, fr_setPcie, h0, h1, h2, h3, h4, h5, h6, h7, h8]; done) | (with_reducible rfl) | (with_reducible refine (fr_foldl (fun _ _ => ?_)).trans ?_) | (with_reducible refine (fr_foldl_snd (fun _ _ => ?_)).trans ?_) | (with_reducible refine Iff.trans (fr_pair (by assumption)) ?_) | split | simp only [eq_self])

theorem fr_linkOn {dz : Dev} {lz : List Part} (d : Dev) (p mode fec : Nat) (h0 : .dict ∈ lz) (h1 : .tim ∈ lz) (h2 : .flying ∈ lz) (h3 : .live ∈ lz) (h4 : .net ∈ lz) :
    dz.changesOnly lz (Dev.linkOn d p mode fec) ↔ dz.changesOnly lz d := by
  simp only [Dev.linkOn, iff_self, implies_true, ite_self, fr_ite, fr_foldl, fr_bmca, fr_setLive, fr_setNet, h0, h1, h2, h3, h4]

theorem fr_linkUp {dz : Dev} {lz : List Part} (p mode fec : Nat) (d : Dev) (h0 : .out ∈ lz) (h1 : .dict ∈ lz) (h2 : .tim ∈ lz) (h3 : .flying ∈ lz) (h4 : .live ∈ lz) (h5 : .net ∈ lz) (h6 : .lan ∈ lz) :
    dz.changesOnly lz (linkUp p mode fec d) ↔ dz.changesOnly lz d := by
  simp only [linkUp, iff_self, ite_self, fr_ite, fr_beginVerify, fr_linkOn, h0, h1, h2, h3, h4, h5, h6]

theorem fr_showEndpoint {dz : Dev} {lz : List Part} (d : Dev) (h0 : .out ∈ lz) (h1 : .dict ∈ lz) (h2 : .tim ∈ lz) (h3 : .flying ∈ lz) (h4 : .live ∈ lz) (h5 : .net ∈ lz) (h6 : .lan ∈ lz) :
    dz.changesOnly lz (Dev.showEndpoint d) ↔ dz.changesOnly lz d := by
  simp only [Dev.showEndpoint, iff_self, fr_put, h1]

theorem fr_freeze {dz : Dev} {lz : List Part} (d : Dev) (cause : Nat) (h0 : .out ∈ lz) (h1 : .dict ∈ lz) (h2 : .tim ∈ lz) (h3 : .flying ∈ lz) (h4 : .live ∈ lz) (h5 : .net ∈ lz) (h6 : .host ∈ lz) (h7 : .lan ∈ lz) :
    dz.changesOnly lz (Dev.freeze d cause) ↔ dz.changesOnly lz d := by
  simp only [Dev.freeze, iff_self, ite_self, fr_ite, fr_put, fr_raise, fr_setLive, fr_setPcie, fr_showEndpoint, h0, h1, h2, h3, h4, h5, h6, h7]

theorem fr_logUnc {dz : Dev} {lz : List Part} (d : Dev) (b : Nat) (h0 : .out ∈ lz) (h1 : .dict ∈ lz) (h2 : .tim ∈ lz) (h3 : .flying ∈ lz) (h4 : .live ∈ lz) (h5 : .net ∈ lz) (h6 : .host ∈ lz) (h7 : .lan ∈ lz) :
    dz.changesOnly lz (Dev.logUnc d b) ↔ dz.changesOnly lz d := by
  simp only [Dev.logUnc, iff_self, ite_self, fr_ite, fr_freeze, fr_raise, fr_setPcie, h0, h1, h2, h3, h4, h5, h6, h7]

theorem fr_readCompletion {dz : Dev} {lz : List Part} (tag : Nat) (c : CplStatus) (d : Dev) (h0 : .fresh ∈ lz) (h1 : .out ∈ lz) (h2 : .dict ∈ lz) (h3 : .tim ∈ lz) (h4 : .flying ∈ lz) (h5 : .live ∈ lz) (h6 : .net ∈ lz) (h7 : .host ∈ lz) (h8 : .lan ∈ lz) (h9 : .rings ∈ lz) :
    dz.changesOnly lz (readCompletion tag c d) ↔ dz.changesOnly lz d := by
  unfold readCompletion; repeat' (first | (simp only [iff_self, fr_ite, fr_issueReads, fr_logUnc, fr_partData, fr_readFails, fr_setPcie, h0, h1, h2, h3, h4, h5, h6, h7, h8, h9]; done) | (with_reducible rfl) | (with_reducible refine (fr_foldl (fun _ _ => ?_)).trans ?_) | (with_reducible refine (fr_foldl_snd (fun _ _ => ?_)).trans ?_) | (with_reducible refine Iff.trans (fr_pair (by assumption)) ?_) | split | simp only [eq_self, iff_self, implies_true, forall_const, ite_self, true_or, or_true, fr_ite, fr_ite_snd, fr_foldl, fr_foldl_snd, fr_issueReads, fr_logUnc, fr_partData, fr_readFails, fr_setPcie, fr_linkUp, h0, h1, h2, h3, h4, h5, h6, h7, h8, h9])

theorem fr_completionTimeout {dz : Dev} {lz : List Part} (tag : Nat) (d : Dev) (h0 : .out ∈ lz) (h1 : .dict ∈ lz) (h2 : .tim ∈ lz) (h3 : .flying ∈ lz) (h4 : .live ∈ lz) (h5 : .net ∈ lz) (h6 : .host ∈ lz) (h7 : .lan ∈ lz) :
    dz.changesOnly lz (completionTimeout tag d) ↔ dz.changesOnly lz d := by
  unfold completionTimeout; repeat' (first | (simp only [iff_self, fr_issueReads, fr_logUnc, fr_readFails, fr_setPcie, h0, h1, h2, h3, h4, h5, h6, h7]; done) | (with_reducible rfl) | (with_reducible refine (fr_foldl (fun _ _ => ?_)).trans ?_) | (with_reducible refine (fr_foldl_snd (fun _ _ => ?_)).trans ?_) | (with_reducible refine Iff.trans (fr_pair (by assumption)) ?_) | split | simp only [eq_self, iff_self, implies_true, forall_const, ite_self, true_or, or_true, fr_ite, fr_ite_snd, fr_foldl, fr_foldl_snd, fr_issueReads, fr_logUnc, fr_readFails, fr_setPcie, h0, h1, h2, h3, h4, h5, h6, h7])

theorem fr_logCor {dz : Dev} {lz : List Part} (d : Dev) (b : Nat) (h0 : .flying ∈ lz) (h1 : .host ∈ lz) :
    dz.changesOnly lz (Dev.logCor d b) ↔ dz.changesOnly lz d := by
  simp only [Dev.logCor, iff_self, fr_raise, fr_setPcie, h0, h1]

theorem fr_endpointInternalError {dz : Dev} {lz : List Part} (b : Nat) (d : Dev) (h0 : .out ∈ lz) (h1 : .dict ∈ lz) (h2 : .tim ∈ lz) (h3 : .flying ∈ lz) (h4 : .live ∈ lz) (h5 : .net ∈ lz) (h6 : .host ∈ lz) (h7 : .lan ∈ lz) :
    dz.changesOnly lz (endpointInternalError b d) ↔ dz.changesOnly lz d := by
  simp only [endpointInternalError, iff_self, fr_logUnc, h0, h1, h2, h3, h4, h5, h6, h7]

theorem fr_endpointError {dz : Dev} {lz : List Part} (e : AerError) (d : Dev) (h0 : .out ∈ lz) (h1 : .dict ∈ lz) (h2 : .tim ∈ lz) (h3 : .flying ∈ lz) (h4 : .live ∈ lz) (h5 : .faults ∈ lz) (h6 : .net ∈ lz) (h7 : .host ∈ lz) (h8 : .lan ∈ lz) :
    dz.changesOnly lz (endpointError e d) ↔ dz.changesOnly lz d := by
  unfold endpointError; repeat' (first | (simp only [iff_self, implies_true, ite_self, fr_ite, fr_checked_, fr_logCor, fr_endpointInternalError, h0, h1, h2, h3, h4, h5, h6, h7, h8]; done) | (with_reducible rfl) | (with_reducible refine (fr_foldl (fun _ _ => ?_)).trans ?_) | (with_reducible refine (fr_foldl_snd (fun _ _ => ?_)).trans ?_) | (with_reducible refine Iff.trans (fr_pair (by assumption)) ?_) | split | simp only [eq_self, iff_self, implies_true, forall_const, ite_self, true_or, or_true, fr_ite, fr_ite_snd, fr_foldl, fr_foldl_snd, fr_checked_, fr_logCor, fr_endpointInternalError, h0, h1, h2, h3, h4, h5, h6, h7, h8])

theorem fr_resumeQueues {dz : Dev} {lz : List Part} (d : Dev) (h0 : .fresh ∈ lz) (h1 : .out ∈ lz) (h2 : .dict ∈ lz) (h3 : .host ∈ lz) (h4 : .lan ∈ lz) :
    dz.changesOnly lz (Dev.resumeQueues d) ↔ dz.changesOnly lz d := by
  simp only [Dev.resumeQueues, iff_self, implies_true, fr_foldl, fr_serveQueue, h0, h1, h2, h3, h4]

theorem fr_resumed {dz : Dev} {lz : List Part} (d e : Dev) (h0 : .fresh ∈ lz) (h1 : .out ∈ lz) (h2 : .dict ∈ lz) (h3 : .host ∈ lz) (h4 : .lan ∈ lz) :
    dz.changesOnly lz (Dev.resumed d e) ↔ dz.changesOnly lz e := by
  simp only [Dev.resumed, iff_self, ite_self, fr_ite, fr_issueReads, fr_resumeQueues, h0, h1, h2, h3, h4]

theorem fr_flushPending {dz : Dev} {lz : List Part} (d : Dev) (h0 : .out ∈ lz) (h1 : .dict ∈ lz) (h2 : .host ∈ lz) (h3 : .lan ∈ lz) :
    dz.changesOnly lz (Dev.flushPending d) ↔ dz.changesOnly lz d := by
  simp only [Dev.flushPending, iff_self, implies_true, ite_self, fr_ite, fr_foldl, fr_driveIntx, fr_sendMessage, fr_setPcie, h0, h1, h2, h3]

theorem fr_releaseHeld {dz : Dev} {lz : List Part} (d : Dev) (h0 : .out ∈ lz) (h1 : .dict ∈ lz) (h2 : .host ∈ lz) (h3 : .lan ∈ lz) :
    dz.changesOnly lz (Dev.releaseHeld d) ↔ dz.changesOnly lz d := by
  simp only [Dev.releaseHeld, iff_self, implies_true, ite_self, fr_ite, fr_foldl, fr_sendMessage, fr_setPcie, h0, h1, h2, h3]

theorem fr_writePm {dz : Dev} {lz : List Part} (d : Dev) (v : Nat) (h0 : .out ∈ lz) (h1 : .dict ∈ lz) (h2 : .tim ∈ lz) (h3 : .flying ∈ lz) (h4 : .live ∈ lz) (h5 : .net ∈ lz) (h6 : .host ∈ lz) (h7 : .lan ∈ lz) :
    dz.changesOnly lz (Dev.writePm d v) ↔ dz.changesOnly lz d := by
  simp only [Dev.writePm, iff_self, ite_self, fr_ite, fr_flushPending, fr_releaseHeld, fr_setPcie, fr_showEndpoint, h0, h1, h2, h3, h4, h5, h6, h7]

theorem fr_reissue {dz : Dev} {lz : List Part} (d : Dev) (h0 : .out ∈ lz) (h1 : .host ∈ lz) :
    dz.changesOnly lz (Dev.reissue d) ↔ dz.changesOnly lz d := by
  simp only [Dev.reissue, iff_self, implies_true, fr_foldl, fr_hostRead, fr_setPcie, h0, h1]

theorem fr_contRelease {dz : Dev} {lz : List Part} (d : Dev) (h0 : .out ∈ lz) (h1 : .dict ∈ lz) (h2 : .tim ∈ lz) (h3 : .flying ∈ lz) (h4 : .live ∈ lz) (h5 : .net ∈ lz) (h6 : .host ∈ lz) (h7 : .lan ∈ lz) :
    dz.changesOnly lz (contRelease d) ↔ dz.changesOnly lz d := by
  simp only [contRelease, iff_self, ite_self, fr_ite, fr_flushPending, fr_reissue, fr_releaseHeld, fr_setLive, fr_setPcie, fr_showEndpoint, h0, h1, h2, h3, h4, h5, h6, h7]

theorem fr_testFreeze {dz : Dev} {lz : List Part} (d : Dev) (h0 : .out ∈ lz) (h1 : .dict ∈ lz) (h2 : .tim ∈ lz) (h3 : .flying ∈ lz) (h4 : .live ∈ lz) (h5 : .net ∈ lz) (h6 : .host ∈ lz) (h7 : .lan ∈ lz) :
    dz.changesOnly lz (testFreeze d) ↔ dz.changesOnly lz d := by
  simp only [testFreeze, iff_self, fr_freeze, h0, h1, h2, h3, h4, h5, h6, h7]

theorem fr_cfgWrite {dz : Dev} {lz : List Part} (d : Dev) (off v0 be : Nat) (h0 : .out ∈ lz) (h1 : .dict ∈ lz) (h2 : .tim ∈ lz) (h3 : .flying ∈ lz) (h4 : .live ∈ lz) (h5 : .net ∈ lz) (h6 : .host ∈ lz) (h7 : .lan ∈ lz) :
    dz.changesOnly lz (Dev.cfgWrite d off v0 be) ↔ dz.changesOnly lz d := by
  simp only [Dev.cfgWrite, iff_self, ite_self, fr_ite, fr_driveIntx, fr_flushPending, fr_put, fr_releaseHeld, fr_setPcie, fr_showEndpoint, fr_writePm, fr_contRelease, fr_testFreeze, h0, h1, h2, h3, h4, h5, h6, h7]

theorem fr_configRequest {dz : Dev} {lz : List Part} (write : Bool) (off value be : Nat) (d : Dev) (h0 : .out ∈ lz) (h1 : .dict ∈ lz) (h2 : .tim ∈ lz) (h3 : .flying ∈ lz) (h4 : .live ∈ lz) (h5 : .net ∈ lz) (h6 : .host ∈ lz) (h7 : .lan ∈ lz) :
    dz.changesOnly lz (configRequest write off value be d) ↔ dz.changesOnly lz d := by
  simp only [configRequest, iff_self, ite_self, fr_ite, fr_cfgWrite, fr_emit, fr_setPcie, h0, h1, h2, h3, h4, h5, h6, h7]

theorem fr_configCommand {dz : Dev} {lz : List Part} (write : Bool) (off value be : Nat) (d : Dev) (h0 : .fresh ∈ lz) (h1 : .out ∈ lz) (h2 : .dict ∈ lz) (h3 : .tim ∈ lz) (h4 : .flying ∈ lz) (h5 : .live ∈ lz) (h6 : .net ∈ lz) (h7 : .host ∈ lz) (h8 : .lan ∈ lz) :
    dz.changesOnly lz (configCommand write off value be d) ↔ dz.changesOnly lz d := by
  simp only [configCommand, iff_self, fr_resumed, fr_configRequest, h0, h1, h2, h3, h4, h5, h6, h7, h8]

theorem fr_testFreezeCommand {dz : Dev} {lz : List Part} (d : Dev) (h0 : .fresh ∈ lz) (h1 : .out ∈ lz) (h2 : .dict ∈ lz) (h3 : .tim ∈ lz) (h4 : .flying ∈ lz) (h5 : .live ∈ lz) (h6 : .net ∈ lz) (h7 : .host ∈ lz) (h8 : .lan ∈ lz) :
    dz.changesOnly lz (testFreezeCommand d) ↔ dz.changesOnly lz d := by
  simp only [testFreezeCommand, iff_self, fr_configCommand, h0, h1, h2, h3, h4, h5, h6, h7, h8]

theorem fr_contReleaseCommand {dz : Dev} {lz : List Part} (d : Dev) (h0 : .fresh ∈ lz) (h1 : .out ∈ lz) (h2 : .dict ∈ lz) (h3 : .tim ∈ lz) (h4 : .flying ∈ lz) (h5 : .live ∈ lz) (h6 : .net ∈ lz) (h7 : .host ∈ lz) (h8 : .lan ∈ lz) :
    dz.changesOnly lz (contReleaseCommand d) ↔ dz.changesOnly lz d := by
  simp only [contReleaseCommand, iff_self, fr_configCommand, h0, h1, h2, h3, h4, h5, h6, h7, h8]

theorem fr_setPair {dz : Dev} {lz : List Part} (d : Dev) (k : Nat) (x : Pair) (h0 : .ecl ∈ lz) :
    dz.changesOnly lz (Dev.setPair d k x) ↔ dz.changesOnly lz d := by
  simp only [Dev.setPair, iff_self, fr_setEcl, h0]

theorem fr_frer {dz : Dev} {lz : List Part} (d : Dev) (h p : Nat) (b : List Byte) (h0 : .dict ∈ lz) (h1 : .flying ∈ lz) (h2 : .ecl ∈ lz) :
    dz.changesOnly lz (Dev.frer d h p b).2 ↔ dz.changesOnly lz d := by
  unfold Dev.frer; repeat' (first | (simp only [iff_self, ite_self, fr_ite, fr_ite_snd, fr_addPart, fr_inc, fr_raise, fr_setFn, h0, h1, h2]; done) | (with_reducible rfl) | (with_reducible refine (fr_foldl (fun _ _ => ?_)).trans ?_) | (with_reducible refine (fr_foldl_snd (fun _ _ => ?_)).trans ?_) | (with_reducible refine Iff.trans (fr_pair (by assumption)) ?_) | split | simp only [fr_ite_snd, fr_inc, h0])

theorem fr_frerWithdraw {dz : Dev} {lz : List Part} (d : Dev) (h : Nat) (b : List Byte) (h0 : .ecl ∈ lz) :
    dz.changesOnly lz (Dev.frerWithdraw d h b) ↔ dz.changesOnly lz d := by
  unfold Dev.frerWithdraw; repeat' (first | (simp only [iff_self, ite_self, fr_ite, fr_setFn, h0]; done) | (with_reducible rfl) | (with_reducible refine (fr_foldl (fun _ _ => ?_)).trans ?_) | (with_reducible refine (fr_foldl_snd (fun _ _ => ?_)).trans ?_) | (with_reducible refine Iff.trans (fr_pair (by assumption)) ?_) | split | simp only [eq_self, iff_self, implies_true, forall_const, ite_self, true_or, or_true, fr_ite, fr_ite_snd, fr_foldl, fr_foldl_snd, fr_setFn, h0])

theorem fr_recoveryResetTimeout {dz : Dev} {lz : List Part} (h : Nat) (d : Dev) (h0 : .dict ∈ lz) (h1 : .tim ∈ lz) (h2 : .ecl ∈ lz) :
    dz.changesOnly lz (recoveryResetTimeout h d) ↔ dz.changesOnly lz d := by
  unfold recoveryResetTimeout; repeat' (first | (simp only [iff_self, fr_addPart, fr_at_, fr_setFn, h0, h1, h2]; done) | (with_reducible rfl) | (with_reducible refine (fr_foldl (fun _ _ => ?_)).trans ?_) | (with_reducible refine (fr_foldl_snd (fun _ _ => ?_)).trans ?_) | (with_reducible refine Iff.trans (fr_pair (by assumption)) ?_) | split | simp only [eq_self])

theorem fr_latentTestPeriod {dz : Dev} {lz : List Part} (h : Nat) (d : Dev) (h0 : .dict ∈ lz) (h1 : .tim ∈ lz) (h2 : .flying ∈ lz) (h3 : .ecl ∈ lz) :
    dz.changesOnly lz (latentTestPeriod h d) ↔ dz.changesOnly lz d := by
  simp only [latentTestPeriod, iff_self, ite_self, fr_ite, fr_addPart, fr_at_, fr_raise, fr_setFn, h0, h1, h2, h3]

theorem fr_latentResetPeriod {dz : Dev} {lz : List Part} (h : Nat) (d : Dev) (h0 : .tim ∈ lz) (h1 : .ecl ∈ lz) :
    dz.changesOnly lz (latentResetPeriod h d) ↔ dz.changesOnly lz d := by
  simp only [latentResetPeriod, iff_self, ite_self, fr_ite, fr_at_, fr_setFn, h0, h1]

theorem fr_learn {dz : Dev} {lz : List Part} (d : Dev) (k : Nat) (mac : List Byte) (kind : Nat) (h0 : .dict ∈ lz) (h1 : .flying ∈ lz) (h2 : .ecl ∈ lz) :
    dz.changesOnly lz (Dev.learn d k mac kind).2 ↔ dz.changesOnly lz d := by
  unfold Dev.learn; repeat' (first | (simp only [iff_self, ite_self, fr_ite_snd, fr_raise, fr_setEcl, fr_setNode, h0, h1, h2]; done) | (with_reducible rfl) | (with_reducible refine (fr_foldl (fun _ _ => ?_)).trans ?_) | (with_reducible refine (fr_foldl_snd (fun _ _ => ?_)).trans ?_) | (with_reducible refine Iff.trans (fr_pair (by assumption)) ?_) | split | simp only [eq_self, iff_self, implies_true, forall_const, ite_self, true_or, or_true, fr_ite, fr_ite_snd, fr_foldl, fr_foldl_snd, fr_raise, fr_setEcl, fr_setNode, h0, h1, h2])

theorem fr_dropNode {dz : Dev} {lz : List Part} (d : Dev) (i : Nat) (h0 : .dict ∈ lz) (h1 : .ecl ∈ lz) :
    dz.changesOnly lz (Dev.dropNode d i) ↔ dz.changesOnly lz d := by
  simp only [Dev.dropNode, iff_self, fr_setEcl, fr_setNode, h0, h1]

theorem fr_nodeForget {dz : Dev} {lz : List Part} (i : Nat) (d : Dev) (h0 : .dict ∈ lz) (h1 : .tim ∈ lz) (h2 : .ecl ∈ lz) :
    dz.changesOnly lz (nodeForget i d) ↔ dz.changesOnly lz d := by
  simp only [nodeForget, iff_self, ite_self, fr_ite, fr_at_, fr_dropNode, h0, h1, h2]

theorem fr_entryForget {dz : Dev} {lz : List Part} (i : Nat) (k : Fin 3) (d : Dev) (h0 : .dict ∈ lz) (h1 : .tim ∈ lz) (h2 : .ecl ∈ lz) :
    dz.changesOnly lz (entryForget i k d) ↔ dz.changesOnly lz d := by
  unfold entryForget; repeat' (first | (simp only [iff_self, fr_at_, fr_setNode, h0, h1, h2]; done) | (with_reducible rfl) | (with_reducible refine (fr_foldl (fun _ _ => ?_)).trans ?_) | (with_reducible refine (fr_foldl_snd (fun _ _ => ?_)).trans ?_) | (with_reducible refine Iff.trans (fr_pair (by assumption)) ?_) | split | simp only [eq_self])

theorem fr_nodeJudge {dz : Dev} {lz : List Part} (d : Dev) (k p : Nat) (mac : List Byte) (kind s : Nat) (which : Fin 3) (h0 : .dict ∈ lz) (h1 : .flying ∈ lz) (h2 : .ecl ∈ lz) :
    dz.changesOnly lz (Dev.nodeJudge d k p mac kind s which).2 ↔ dz.changesOnly lz d := by
  unfold Dev.nodeJudge; repeat' (first | (simp only [iff_self, ite_self, fr_ite_snd, fr_learn, fr_setNode, h0, h1, h2]; done) | (with_reducible rfl) | (with_reducible refine (fr_foldl (fun _ _ => ?_)).trans ?_) | (with_reducible refine (fr_foldl_snd (fun _ _ => ?_)).trans ?_) | (with_reducible refine Iff.trans (fr_pair (by assumption)) ?_) | split | simp only [eq_self])

theorem fr_nodeWithdraw {dz : Dev} {lz : List Part} (d : Dev) (k : Nat) (mac : List Byte) (s : Nat) (which : Fin 3) (h0 : .dict ∈ lz) (h1 : .ecl ∈ lz) :
    dz.changesOnly lz (Dev.nodeWithdraw d k mac s which) ↔ dz.changesOnly lz d := by
  unfold Dev.nodeWithdraw; repeat' (first | (simp only [iff_self, fr_setNode, h0, h1]; done) | (with_reducible rfl) | (with_reducible refine (fr_foldl (fun _ _ => ?_)).trans ?_) | (with_reducible refine (fr_foldl_snd (fun _ _ => ?_)).trans ?_) | (with_reducible refine Iff.trans (fr_pair (by assumption)) ?_) | split | simp only [eq_self, iff_self, implies_true, forall_const, ite_self, true_or, or_true, fr_ite, fr_ite_snd, fr_foldl, fr_foldl_snd, fr_setNode, h0, h1])

theorem fr_pairDeliver {dz : Dev} {lz : List Part} (d : Dev) (k p : Nat) (mac : List Byte) (kind s : Nat) (h0 : .dict ∈ lz) (h1 : .flying ∈ lz) (h2 : .ecl ∈ lz) :
    dz.changesOnly lz (Dev.pairDeliver d k p mac kind s).2 ↔ dz.changesOnly lz d := by
  unfold Dev.pairDeliver; repeat' (first | (simp only [iff_self, ite_self, fr_ite, fr_ite_snd, fr_inc, fr_nodeJudge, fr_raise, h0, h1, h2]; done) | (with_reducible rfl) | (with_reducible refine (fr_foldl (fun _ _ => ?_)).trans ?_) | (with_reducible refine (fr_foldl_snd (fun _ _ => ?_)).trans ?_) | (with_reducible refine Iff.trans (fr_pair (by assumption)) ?_) | split | simp only [eq_self])

theorem fr_heardTrailer {dz : Dev} {lz : List Part} (d : Dev) (k p : Nat) (h0 : .dict ∈ lz) (h1 : .live ∈ lz) (h2 : .ecl ∈ lz) :
    dz.changesOnly lz (Dev.heardTrailer d k p) ↔ dz.changesOnly lz d := by
  simp only [Dev.heardTrailer, iff_self, ite_self, fr_ite, fr_setLive, fr_setPair, h0, h1, h2]

theorem fr_prp {dz : Dev} {lz : List Part} (d : Dev) (k p : Nat) (b : List Byte) (h0 : .dict ∈ lz) (h1 : .flying ∈ lz) (h2 : .live ∈ lz) (h3 : .ecl ∈ lz) :
    dz.changesOnly lz (Dev.prp d k p b).2 ↔ dz.changesOnly lz d := by
  unfold Dev.prp; repeat' (first | (simp only [iff_self, ite_self, fr_ite, fr_heardTrailer, fr_inc, fr_learn, fr_pairDeliver, fr_setNode, h0, h1, h2, h3]; done) | (with_reducible rfl) | (with_reducible refine (fr_foldl (fun _ _ => ?_)).trans ?_) | (with_reducible refine (fr_foldl_snd (fun _ _ => ?_)).trans ?_) | (with_reducible refine Iff.trans (fr_pair (by assumption)) ?_) | split | simp only [eq_self])

theorem fr_hsr {dz : Dev} {lz : List Part} (d : Dev) (k p : Nat) (b : List Byte) (h0 : .dict ∈ lz) (h1 : .flying ∈ lz) (h2 : .ecl ∈ lz) :
    dz.changesOnly lz (Dev.hsr d k p b).2 ↔ dz.changesOnly lz d := by
  unfold Dev.hsr; repeat' (first | (simp only [iff_self, ite_self, fr_ite_snd, fr_inc, fr_nodeJudge, fr_pairDeliver, h0, h1, h2]; done) | (with_reducible rfl) | (with_reducible refine (fr_foldl (fun _ _ => ?_)).trans ?_) | (with_reducible refine (fr_foldl_snd (fun _ _ => ?_)).trans ?_) | (with_reducible refine Iff.trans (fr_pair (by assumption)) ?_) | split | simp only [eq_self, iff_self, implies_true, forall_const, ite_self, true_or, or_true, fr_ite, fr_ite_snd, fr_foldl, fr_foldl_snd, fr_inc, fr_nodeJudge, fr_pairDeliver, h0, h1, h2])

theorem fr_lifeCheck {dz : Dev} {lz : List Part} (k : Nat) (lan : Fin 2) (d : Dev) (h0 : .dict ∈ lz) (h1 : .tim ∈ lz) (h2 : .flying ∈ lz) (h3 : .live ∈ lz) :
    dz.changesOnly lz (lifeCheck k lan d) ↔ dz.changesOnly lz d := by
  simp only [lifeCheck, iff_self, ite_self, fr_ite, fr_at_, fr_raise, fr_setLive, h0, h1, h2, h3]

theorem fr_singlePathEnd {dz : Dev} {lz : List Part} (s : SingleScope) (d : Dev) (h0 : .dict ∈ lz) (h1 : .tim ∈ lz) (h2 : .flying ∈ lz) (h3 : .ecl ∈ lz) :
    dz.changesOnly lz (singlePathEnd s d) ↔ dz.changesOnly lz d := by
  unfold singlePathEnd; repeat' (first | (simp only [iff_self, fr_at_, fr_dropNode, fr_raise, fr_setFn, fr_setPair, h0, h1, h2, h3]; done) | (with_reducible rfl) | (with_reducible refine (fr_foldl (fun _ _ => ?_)).trans ?_) | (with_reducible refine (fr_foldl_snd (fun _ _ => ?_)).trans ?_) | (with_reducible refine Iff.trans (fr_pair (by assumption)) ?_) | split | simp only [eq_self])

theorem fr_takeSeq {dz : Dev} {lz : List Part} (d : Dev) (g : Nat) (h0 : .dict ∈ lz) :
    dz.changesOnly lz (Dev.takeSeq d g).2 ↔ dz.changesOnly lz d := by
  simp only [Dev.takeSeq, iff_self, fr_inc, h0]

theorem fr_restartSilenceEnd {dz : Dev} {lz : List Part} (g : Nat) (d : Dev) (h0 : .tim ∈ lz) (h1 : .ecl ∈ lz) :
    dz.changesOnly lz (restartSilenceEnd g d) ↔ dz.changesOnly lz d := by
  simp only [restartSilenceEnd, iff_self, ite_self, fr_ite, fr_at_, fr_setEcl, h0, h1]

theorem fr_supervisionFrameSend {dz : Dev} {lz : List Part} (k : Nat) (d : Dev) (h0 : .out ∈ lz) (h1 : .dict ∈ lz) (h2 : .tim ∈ lz) (h3 : .net ∈ lz) (h4 : .host ∈ lz) (h5 : .lan ∈ lz) (h6 : .ecl ∈ lz) :
    dz.changesOnly lz (supervisionFrameSend k d) ↔ dz.changesOnly lz d := by
  simp only [supervisionFrameSend, iff_self, implies_true, ite_self, fr_ite, fr_foldl, fr_at_, fr_enqueue, fr_setPair, h0, h1, h2, h3, h4, h5, h6]

theorem fr_eclipseApplied {dz : Dev} {lz : List Part} (d : Dev) (o e : Nat) (h0 : .dict ∈ lz) (h1 : .ecl ∈ lz) :
    dz.changesOnly lz (Dev.eclipseApplied d o e) ↔ dz.changesOnly lz d := by
  simp only [Dev.eclipseApplied, iff_self, implies_true, ite_self, fr_ite, fr_foldl, fr_dropNode, fr_generationReset, fr_setFn, fr_setPair, h0, h1]

theorem fr_setIng {dz : Dev} {lz : List Part} (d : Dev) (x : IngestSt) (h0 : .ing ∈ lz) :
    dz.changesOnly lz (Dev.setIng d x) ↔ dz.changesOnly lz d :=
  fr_of (fun p hp => by cases p <;> first | rfl | (exact absurd ‹_› hp))

theorem fr_winPut {dz : Dev} {lz : List Part} (d : Dev) (c g word : Nat) (h0 : .ing ∈ lz) :
    dz.changesOnly lz (Dev.winPut d c g word) ↔ dz.changesOnly lz d := by
  simp only [Dev.winPut, iff_self, fr_setIng, h0]

theorem fr_setBind {dz : Dev} {lz : List Part} (d : Dev) (b : Nat) (x : BindRun) (h0 : .eng ∈ lz) :
    dz.changesOnly lz (Dev.setBind d b x) ↔ dz.changesOnly lz d := by
  simp only [Dev.setBind, iff_self, fr_setEng, h0]

theorem fr_raiseAct {dz : Dev} {lz : List Part} (d : Dev) (a : Act) (h0 : .dict ∈ lz) (h1 : .flying ∈ lz) (h2 : .eng ∈ lz) :
    dz.changesOnly lz (Dev.raiseAct d a) ↔ dz.changesOnly lz d := by
  simp only [Dev.raiseAct, iff_self, ite_self, fr_ite, fr_dropAct, fr_inc, fr_put, fr_raise, fr_setBind, fr_setEngine, h0, h1, h2]

theorem fr_complete {dz : Dev} {lz : List Part} (d : Dev) (b m : Nat) (chans : List Nat) (r : Rate) (h0 : .dict ∈ lz) (h1 : .flying ∈ lz) (h2 : .eng ∈ lz) :
    dz.changesOnly lz (Dev.complete d b m chans r) ↔ dz.changesOnly lz d := by
  simp only [Dev.complete, iff_self, implies_true, ite_self, fr_ite, fr_foldl, fr_raiseAct, fr_setBind, h0, h1, h2]

theorem fr_entryArrived {dz : Dev} {lz : List Part} (d : Dev) (c g : Nat) (h0 : .dict ∈ lz) (h1 : .flying ∈ lz) (h2 : .eng ∈ lz) :
    dz.changesOnly lz (Dev.entryArrived d c g) ↔ dz.changesOnly lz d := by
  unfold Dev.entryArrived; repeat' (first | (simp only [iff_self, ite_self, fr_ite, fr_complete, fr_raiseAct, h0, h1, h2]; done) | (with_reducible rfl) | (with_reducible refine (fr_foldl (fun _ _ => ?_)).trans ?_) | (with_reducible refine (fr_foldl_snd (fun _ _ => ?_)).trans ?_) | (with_reducible refine Iff.trans (fr_pair (by assumption)) ?_) | split | simp only [fr_ite])

theorem fr_pushRings {dz : Dev} {lz : List Part} (d : Dev) (c g word : Nat) (last : Option Nat) (h0 : .eng ∈ lz) :
    dz.changesOnly lz (Dev.pushRings d c g word last) ↔ dz.changesOnly lz d := by
  simp only [Dev.pushRings, iff_self, implies_true, ite_self, fr_ite, fr_foldl, fr_setKslot, h0]

theorem fr_commitEntries {dz : Dev} {lz : List Part} (d : Dev) (g : Nat) (es : List (Nat × Nat)) (h0 : .dict ∈ lz) (h1 : .flying ∈ lz) (h2 : .ing ∈ lz) (h3 : .eng ∈ lz) :
    dz.changesOnly lz (Dev.commitEntries d g es) ↔ dz.changesOnly lz d := by
  simp only [Dev.commitEntries, iff_self, implies_true, fr_foldl, fr_entryArrived, fr_pushRings, fr_winPut, h0, h1, h2, h3]

theorem fr_cutoffCompletions {dz : Dev} {lz : List Part} (d : Dev) (n : Nat) (h0 : .dict ∈ lz) (h1 : .flying ∈ lz) (h2 : .eng ∈ lz) :
    dz.changesOnly lz (Dev.cutoffCompletions d n) ↔ dz.changesOnly lz d := by
  unfold Dev.cutoffCompletions; repeat' (first | (simp only [iff_self, fr_ite, fr_complete, h0, h1, h2]; done) | (with_reducible rfl) | (with_reducible refine (fr_foldl (fun _ _ => ?_)).trans ?_) | (with_reducible refine (fr_foldl_snd (fun _ _ => ?_)).trans ?_) | (with_reducible refine Iff.trans (fr_pair (by assumption)) ?_) | split | simp only [eq_self])

theorem fr_epochStart {dz : Dev} {lz : List Part} (d : Dev) (h0 : .tim ∈ lz) (h1 : .tab ∈ lz) :
    dz.changesOnly lz (epochStart d) ↔ dz.changesOnly lz d := by
  unfold epochStart; repeat' (first | (simp only [iff_self, ite_self, fr_ite, fr_at_, fr_setTab, h0, h1]; done) | (with_reducible rfl) | (with_reducible refine (fr_foldl (fun _ _ => ?_)).trans ?_) | (with_reducible refine (fr_foldl_snd (fun _ _ => ?_)).trans ?_) | (with_reducible refine Iff.trans (fr_pair (by assumption)) ?_) | split | simp only [eq_self, iff_self, implies_true, forall_const, ite_self, true_or, or_true, fr_ite, fr_ite_snd, fr_foldl, fr_foldl_snd, fr_at_, fr_setTab, h0, h1])

theorem fr_epochActs {dz : Dev} {lz : List Part} (d : Dev) (n : Nat) (h0 : .dict ∈ lz) (h1 : .tim ∈ lz) (h2 : .flying ∈ lz) (h3 : .tab ∈ lz) (h4 : .eng ∈ lz) :
    dz.changesOnly lz (Dev.epochActs d n) ↔ dz.changesOnly lz d := by
  simp only [Dev.epochActs, iff_self, implies_true, ite_self, fr_ite, fr_foldl, fr_raiseAct, h0, h2, h4]

theorem fr_timerTrigger {dz : Dev} {lz : List Part} (b : Nat) (d : Dev) (h0 : .dict ∈ lz) (h1 : .tim ∈ lz) (h2 : .flying ∈ lz) (h3 : .eng ∈ lz) :
    dz.changesOnly lz (timerTrigger b d) ↔ dz.changesOnly lz d := by
  simp only [timerTrigger, iff_self, ite_self, fr_ite, fr_at_, fr_raiseAct, fr_setBind, h0, h1, h2, h3]

theorem fr_setLoaded {dz : Dev} {lz : List Part} (d : Dev) (k : Nat) (useOld : Bool) (l : Loaded) (h0 : .eng ∈ lz) :
    dz.changesOnly lz (Dev.setLoaded d k useOld l) ↔ dz.changesOnly lz d := by
  simp only [Dev.setLoaded, iff_self, fr_setKslot, h0]

theorem fr_activationDispatch {dz : Dev} {lz : List Part} (f : Nat) (d : Dev) (h0 : .dict ∈ lz) (h1 : .eng ∈ lz) :
    dz.changesOnly lz (activationDispatch f d) ↔ dz.changesOnly lz d := by
  unfold activationDispatch; repeat' (first | (simp only [iff_self, fr_ite, fr_dropAct, fr_put, fr_setEngine, fr_setLoaded, h0, h1]; done) | (with_reducible rfl) | (with_reducible refine (fr_foldl (fun _ _ => ?_)).trans ?_) | (with_reducible refine (fr_foldl_snd (fun _ _ => ?_)).trans ?_) | (with_reducible refine Iff.trans (fr_pair (by assumption)) ?_) | split | simp only [fr_ite])

theorem fr_kernelFault {dz : Dev} {lz : List Part} (d : Dev) (f row : Nat) (h0 : .dict ∈ lz) (h1 : .flying ∈ lz) (h2 : .eng ∈ lz) :
    dz.changesOnly lz (Dev.kernelFault d f row) ↔ dz.changesOnly lz d := by
  unfold Dev.kernelFault; repeat' (first | (simp only [iff_self, fr_raise, fr_stopSlot, h0, h1, h2]; done) | (with_reducible rfl) | (with_reducible refine (fr_foldl (fun _ _ => ?_)).trans ?_) | (with_reducible refine (fr_foldl_snd (fun _ _ => ?_)).trans ?_) | (with_reducible refine Iff.trans (fr_pair (by assumption)) ?_) | split | simp only [eq_self, iff_self, implies_true, forall_const, ite_self, true_or, or_true, fr_ite, fr_ite_snd, fr_foldl, fr_foldl_snd, fr_raise, fr_stopSlot, h0, h1, h2])

theorem fr_watchdog {dz : Dev} {lz : List Part} (f : Nat) (d : Dev) (h0 : .dict ∈ lz) (h1 : .tim ∈ lz) (h2 : .flying ∈ lz) (h3 : .eng ∈ lz) :
    dz.changesOnly lz (watchdog f d) ↔ dz.changesOnly lz d := by
  unfold watchdog; repeat' (first | (simp only [iff_self, ite_self, fr_ite, fr_at_, fr_kernelFault, h0, h1, h2, h3]; done) | (with_reducible rfl) | (with_reducible refine (fr_foldl (fun _ _ => ?_)).trans ?_) | (with_reducible refine (fr_foldl_snd (fun _ _ => ?_)).trans ?_) | (with_reducible refine Iff.trans (fr_pair (by assumption)) ?_) | split | simp only [eq_self])

theorem fr_rehomeComplete {dz : Dev} {lz : List Part} (g : Nat) (d : Dev) (h0 : .dict ∈ lz) (h1 : .tim ∈ lz) (h2 : .flying ∈ lz) (h3 : .eng ∈ lz) :
    dz.changesOnly lz (rehomeComplete g d) ↔ dz.changesOnly lz d := by
  simp only [rehomeComplete, iff_self, implies_true, ite_self, fr_ite, fr_foldl, fr_at_, fr_dropAct, fr_inc, fr_raise, fr_rebuildAll, fr_setEng, fr_setEngine, h0, h1, h2, h3]

theorem fr_selfTestComplete {dz : Dev} {lz : List Part} (f : Nat) (pass : Bool) (d : Dev) (h0 : .dict ∈ lz) (h1 : .flying ∈ lz) (h2 : .eng ∈ lz) :
    dz.changesOnly lz (selfTestComplete f pass d) ↔ dz.changesOnly lz d := by
  simp only [selfTestComplete, iff_self, ite_self, fr_ite, fr_put, fr_raise, fr_setEngine, h0, h1, h2]

theorem fr_expireActs {dz : Dev} {lz : List Part} (d : Dev) (n : Nat) (h0 : .dict ∈ lz) (h1 : .eng ∈ lz) :
    dz.changesOnly lz (Dev.expireActs d n) ↔ dz.changesOnly lz d := by
  simp only [Dev.expireActs, iff_self, implies_true, fr_foldl, fr_dropPending, h0, h1]

theorem fr_applySpare {dz : Dev} {lz : List Part} (d : Dev) (g : Nat) (h0 : .dict ∈ lz) :
    dz.changesOnly lz (Dev.applySpare d g) ↔ dz.changesOnly lz d := by
  unfold Dev.applySpare; repeat' (first | (simp only [iff_self, ite_self, fr_ite, fr_put, h0]; done) | (with_reducible rfl) | (with_reducible refine (fr_foldl (fun _ _ => ?_)).trans ?_) | (with_reducible refine (fr_foldl_snd (fun _ _ => ?_)).trans ?_) | (with_reducible refine Iff.trans (fr_pair (by assumption)) ?_) | split | simp only [ite_self, fr_ite, fr_put, h0])

theorem fr_applyBinding {dz : Dev} {lz : List Part} (d : Dev) (b t : Nat) (h0 : .eng ∈ lz) :
    dz.changesOnly lz (Dev.applyBinding d b t) ↔ dz.changesOnly lz d := by
  unfold Dev.applyBinding; repeat' (first | (simp only [iff_self, fr_setBind, h0]; done) | (with_reducible rfl) | (with_reducible refine (fr_foldl (fun _ _ => ?_)).trans ?_) | (with_reducible refine (fr_foldl_snd (fun _ _ => ?_)).trans ?_) | (with_reducible refine Iff.trans (fr_pair (by assumption)) ?_) | split | simp only [eq_self, iff_self, implies_true, forall_const, ite_self, true_or, or_true, fr_ite, fr_ite_snd, fr_foldl, fr_foldl_snd, fr_setBind, h0])

theorem fr_applySlot {dz : Dev} {lz : List Part} (d : Dev) (k t : Nat) (h0 : .fresh ∈ lz) (h1 : .dict ∈ lz) (h2 : .eng ∈ lz) :
    dz.changesOnly lz (Dev.applySlot d k t) ↔ dz.changesOnly lz d := by
  simp only [Dev.applySlot, iff_self, ite_self, fr_ite, fr_place, fr_setKslot, fr_showSlot, h0, h1, h2]

theorem fr_retireImages {dz : Dev} {lz : List Part} (d : Dev) (h0 : .tim ∈ lz) (h1 : .tab ∈ lz) (h2 : .eng ∈ lz) :
    dz.changesOnly lz (Dev.retireImages d) ↔ dz.changesOnly lz d := by
  unfold Dev.retireImages; repeat' (first | (simp only [iff_self, ite_self, fr_ite, fr_setKslot, h2]; done) | (with_reducible rfl) | (with_reducible refine (fr_foldl (fun _ _ => ?_)).trans ?_) | (with_reducible refine (fr_foldl_snd (fun _ _ => ?_)).trans ?_) | (with_reducible refine Iff.trans (fr_pair (by assumption)) ?_) | split | simp only [eq_self, iff_self, implies_true, forall_const, ite_self, true_or, or_true, fr_ite, fr_ite_snd, fr_foldl, fr_foldl_snd, fr_setKslot, fr_epochStart, h0, h1, h2])

theorem fr_applyParams {dz : Dev} {lz : List Part} (d : Dev) (k t : Nat) (h0 : .eng ∈ lz) :
    dz.changesOnly lz (Dev.applyParams d k t) ↔ dz.changesOnly lz d := by
  unfold Dev.applyParams; repeat' (first | (simp only [iff_self, fr_setKslot, h0]; done) | (with_reducible rfl) | (with_reducible refine (fr_foldl (fun _ _ => ?_)).trans ?_) | (with_reducible refine (fr_foldl_snd (fun _ _ => ?_)).trans ?_) | (with_reducible refine Iff.trans (fr_pair (by assumption)) ?_) | split | simp only [eq_self])

theorem fr_imageVerifyComplete {dz : Dev} {lz : List Part} (i : Nat) (d : Dev) (h0 : .dict ∈ lz) (h1 : .eng ∈ lz) :
    dz.changesOnly lz (imageVerifyComplete i d) ↔ dz.changesOnly lz d := by
  simp only [imageVerifyComplete, iff_self, ite_self, fr_ite, fr_put, fr_setEng, h0, h1]

theorem fr_updStream {dz : Dev} {lz : List Part} (d : Dev) (kind n : Nat) (f : StreamRun → StreamRun) (h0 : .ing ∈ lz) :
    dz.changesOnly lz (Dev.updStream d kind n f) ↔ dz.changesOnly lz d := by
  simp only [Dev.updStream, iff_self, fr_setIng, h0]

theorem fr_countStream {dz : Dev} {lz : List Part} (d : Dev) (kind n : Nat) (f : StreamLedger → StreamLedger) (h0 : .ing ∈ lz) :
    dz.changesOnly lz (Dev.countStream d kind n f) ↔ dz.changesOnly lz d := by
  simp only [Dev.countStream, iff_self, fr_updStream, h0]

theorem fr_land {dz : Dev} {lz : List Part} (d : Dev) (x : Landing) (h0 : .ing ∈ lz) :
    dz.changesOnly lz (Dev.land d x) ↔ dz.changesOnly lz d := by
  simp only [Dev.land, iff_self, fr_setIng, h0]

theorem fr_countLateSets {dz : Dev} {lz : List Part} (d : Dev) (g n : Nat) (h0 : .dict ∈ lz) (h1 : .tab ∈ lz) :
    dz.changesOnly lz (Dev.countLateSets d g n) ↔ dz.changesOnly lz d := by
  simp only [Dev.countLateSets, iff_self, ite_self, fr_ite, fr_add, fr_setRegion, h0, h1]

theorem fr_svSet {dz : Dev} {lz : List Part} (d : Dev) (n rx : Nat) (portUnsync : Bool) (a : Asdu) (h0 : .dict ∈ lz) (h1 : .ing ∈ lz) (h2 : .tab ∈ lz) :
    dz.changesOnly lz (Dev.svSet d n rx portUnsync a).2 ↔ dz.changesOnly lz d := by
  unfold Dev.svSet; repeat' (first | (simp only [iff_self, fr_countStream, fr_countLateSets, fr_inc, fr_land, h0, h1, h2]; done) | (with_reducible rfl) | (with_reducible refine (fr_foldl (fun _ _ => ?_)).trans ?_) | (with_reducible refine (fr_foldl_snd (fun _ _ => ?_)).trans ?_) | (with_reducible refine Iff.trans (fr_pair (by assumption)) ?_) | split | simp only [eq_self])

theorem fr_rxDeliver {dz : Dev} {lz : List Part} (d : Dev) (q : Nat) (bytes : List Byte) (flags stream time slot : Nat) (h0 : .out ∈ lz) (h1 : .dict ∈ lz) (h2 : .host ∈ lz) (h3 : .lan ∈ lz) :
    dz.changesOnly lz (Dev.rxDeliver d q bytes flags stream time slot) ↔ dz.changesOnly lz d := by
  unfold Dev.rxDeliver; repeat' (first | (simp only [iff_self, ite_self, fr_ite, fr_countDrop, fr_pollNow, fr_serveRx, fr_setQueue, h0, h1, h2, h3]; done) | (with_reducible rfl) | (with_reducible refine (fr_foldl (fun _ _ => ?_)).trans ?_) | (with_reducible refine (fr_foldl_snd (fun _ _ => ?_)).trans ?_) | (with_reducible refine Iff.trans (fr_pair (by assumption)) ?_) | (with_reducible refine Iff.trans (fr_takeCells_some (by assumption) ‹_›) ?_) | split | simp only [fr_ite, fr_countDrop, fr_pollNow, fr_serveRx, fr_setQueue, h0, h1, h2, h3])

theorem fr_svFrame {dz : Dev} {lz : List Part} (d : Dev) (n p rx : Nat) (b : List Byte) (h0 : .out ∈ lz) (h1 : .dict ∈ lz) (h2 : .flying ∈ lz) (h3 : .host ∈ lz) (h4 : .lan ∈ lz) (h5 : .ing ∈ lz) (h6 : .tab ∈ lz) :
    dz.changesOnly lz (Dev.svFrame d n p rx b) ↔ dz.changesOnly lz d := by
  unfold Dev.svFrame; repeat' (first | (simp only [iff_self, implies_true, ite_self, fr_ite, fr_foldl_snd, fr_countStream, fr_inc, fr_put, fr_raise, fr_rxDeliver, fr_svSet, fr_updStream, h0, h1, h2, h3, h4, h5, h6]; done) | (with_reducible rfl) | (with_reducible refine (fr_foldl (fun _ _ => ?_)).trans ?_) | (with_reducible refine (fr_foldl_snd (fun _ _ => ?_)).trans ?_) | (with_reducible refine Iff.trans (fr_pair (by assumption)) ?_) | split | simp only [eq_self, iff_self, implies_true, forall_const, ite_self, true_or, or_true, fr_ite, fr_ite_snd, fr_foldl, fr_foldl_snd, fr_countStream, fr_inc, fr_put, fr_raise, fr_rxDeliver, fr_svSet, fr_updStream, h0, h1, h2, h3, h4, h5, h6])

theorem fr_ringSet {dz : Dev} {lz : List Part} (d : Dev) (n cycle rx sync j : Nat) (b : List Byte) (h0 : .dict ∈ lz) (h1 : .ing ∈ lz) (h2 : .tab ∈ lz) :
    dz.changesOnly lz (Dev.ringSet d n cycle rx sync j b).2 ↔ dz.changesOnly lz d := by
  unfold Dev.ringSet; repeat' (first | (simp only [iff_self, fr_countStream, fr_countLateSets, fr_inc, fr_land, h0, h1, h2]; done) | (with_reducible rfl) | (with_reducible refine (fr_foldl (fun _ _ => ?_)).trans ?_) | (with_reducible refine (fr_foldl_snd (fun _ _ => ?_)).trans ?_) | (with_reducible refine Iff.trans (fr_pair (by assumption)) ?_) | split | simp only [eq_self])

theorem fr_ringSlotIn {dz : Dev} {lz : List Part} (d : Dev) (n : Nat) (s : TakenSlot) (h0 : .out ∈ lz) (h1 : .dict ∈ lz) (h2 : .host ∈ lz) (h3 : .lan ∈ lz) (h4 : .ing ∈ lz) (h5 : .tab ∈ lz) :
    dz.changesOnly lz (Dev.ringSlotIn d n s) ↔ dz.changesOnly lz d := by
  simp only [Dev.ringSlotIn, iff_self, implies_true, ite_self, fr_ite, fr_foldl_snd, fr_countStream, fr_inc, fr_ringSet, fr_rxDeliver, fr_updStream, h0, h1, h2, h3, h4, h5]

theorem fr_slotTaken {dz : Dev} {lz : List Part} (d : Dev) (s : TakenSlot) (h0 : .out ∈ lz) (h1 : .dict ∈ lz) (h2 : .host ∈ lz) (h3 : .lan ∈ lz) (h4 : .ing ∈ lz) (h5 : .tab ∈ lz) :
    dz.changesOnly lz (Dev.slotTaken d s) ↔ dz.changesOnly lz d := by
  simp only [Dev.slotTaken, iff_self, implies_true, fr_foldl, fr_ringSlotIn, h0, h1, h2, h3, h4, h5]

theorem fr_synWrite {dz : Dev} {lz : List Part} (d : Dev) (n t : Nat) (vals : List (SynVal × Nat)) (h0 : .fresh ∈ lz) (h1 : .ing ∈ lz) (h2 : .tab ∈ lz) :
    dz.changesOnly lz (Dev.synWrite d n t vals) ↔ dz.changesOnly lz d := by
  simp only [Dev.synWrite, iff_self, ite_self, fr_ite, fr_rec_fresh, fr_land, fr_setRegion, h0, h1, h2]

theorem fr_synFrame {dz : Dev} {lz : List Part} (d : Dev) (n p rx : Nat) (b : List Byte) (u : Udp) (h0 : .fresh ∈ lz) (h1 : .out ∈ lz) (h2 : .dict ∈ lz) (h3 : .host ∈ lz) (h4 : .lan ∈ lz) (h5 : .ing ∈ lz) (h6 : .tab ∈ lz) :
    dz.changesOnly lz (Dev.synFrame d n p rx b u) ↔ dz.changesOnly lz d := by
  unfold Dev.synFrame; repeat' (first | (simp only [iff_self, fr_ite, fr_countStream, fr_countLateSets, fr_inc, fr_rxDeliver, fr_synWrite, fr_updStream, h0, h1, h2, h3, h4, h5, h6]; done) | (with_reducible rfl) | (with_reducible refine (fr_foldl (fun _ _ => ?_)).trans ?_) | (with_reducible refine (fr_foldl_snd (fun _ _ => ?_)).trans ?_) | (with_reducible refine Iff.trans (fr_pair (by assumption)) ?_) | split | simp only [fr_ite, fr_countStream, fr_countLateSets, fr_rxDeliver, fr_updStream, h1, h2, h3, h4, h5, h6])

theorem fr_windowEntryCommit {dz : Dev} {lz : List Part} (d : Dev) (h0 : .dict ∈ lz) (h1 : .flying ∈ lz) (h2 : .ing ∈ lz) (h3 : .eng ∈ lz) :
    dz.changesOnly lz (windowEntryCommit d) ↔ dz.changesOnly lz d := by
  unfold windowEntryCommit; repeat' (first | (simp only [iff_self, ite_self, fr_ite, fr_commitEntries, fr_setIng, h0, h1, h2, h3]; done) | (with_reducible rfl) | (with_reducible refine (fr_foldl (fun _ _ => ?_)).trans ?_) | (with_reducible refine (fr_foldl_snd (fun _ _ => ?_)).trans ?_) | (with_reducible refine Iff.trans (fr_pair (by assumption)) ?_) | split | simp only [eq_self, iff_self, implies_true, forall_const, ite_self, true_or, or_true, fr_ite, fr_ite_snd, fr_foldl, fr_foldl_snd, fr_commitEntries, fr_setIng, h0, h1, h2, h3])

theorem fr_commitAll {dz : Dev} {lz : List Part}  (n : Nat) (d : Dev) (h0 : .dict ∈ lz) (h1 : .flying ∈ lz) (h2 : .ing ∈ lz) (h3 : .eng ∈ lz) :
    dz.changesOnly lz (Dev.commitAll n d) ↔ dz.changesOnly lz d := by
  induction n generalizing d with
  | zero => rfl
  | succ n ih =>
    unfold Dev.commitAll
    repeat' (first | (simp only [iff_self, ih, fr_windowEntryCommit, h0, h1, h2, h3]; done) | (with_reducible rfl) | (refine Iff.trans (fr_pair (by assumption)) ?_) | split | simp only [iff_self, implies_true, forall_const, ite_self, true_or, or_true, fr_ite, fr_ite_snd, fr_foldl, fr_foldl_snd, ih, fr_windowEntryCommit, h0, h1, h2, h3])

theorem fr_ingestCutoff {dz : Dev} {lz : List Part} (d : Dev) (h0 : .dict ∈ lz) (h1 : .tim ∈ lz) (h2 : .flying ∈ lz) (h3 : .ing ∈ lz) (h4 : .tab ∈ lz) (h5 : .eng ∈ lz) :
    dz.changesOnly lz (ingestCutoff d) ↔ dz.changesOnly lz d := by
  simp only [ingestCutoff, iff_self, implies_true, ite_self, fr_ite, fr_foldl, fr_add, fr_at_, fr_commitAll, fr_cutoffCompletions, fr_epochActs, fr_setTab, h0, h1, h2, h3, h4, h5]

theorem fr_streamSilent {dz : Dev} {lz : List Part} (kind n : Nat) (d : Dev) (h0 : .dict ∈ lz) (h1 : .tim ∈ lz) (h2 : .ing ∈ lz) :
    dz.changesOnly lz (streamSilent kind n d) ↔ dz.changesOnly lz d := by
  unfold streamSilent; repeat' (first | (simp only [iff_self, ite_self, fr_ite, fr_at_, fr_put, fr_updStream, h0, h1, h2]; done) | (with_reducible rfl) | (with_reducible refine (fr_foldl (fun _ _ => ?_)).trans ?_) | (with_reducible refine (fr_foldl_snd (fun _ _ => ?_)).trans ?_) | (with_reducible refine Iff.trans (fr_pair (by assumption)) ?_) | split | simp only [eq_self, iff_self, implies_true, forall_const, ite_self, true_or, or_true, fr_ite, fr_ite_snd, fr_foldl, fr_foldl_snd, fr_at_, fr_put, fr_updStream, h0, h1, h2])

theorem fr_refreshChannels {dz : Dev} {lz : List Part} (d : Dev) (h0 : .dict ∈ lz) :
    dz.changesOnly lz (Dev.refreshChannels d) ↔ dz.changesOnly lz d := by
  simp only [Dev.refreshChannels, iff_self, implies_true, fr_foldl, fr_put, h0]

theorem fr_applyIngest {dz : Dev} {lz : List Part} (d : Dev) (o e t : Nat) (h0 : .dict ∈ lz) (h1 : .ing ∈ lz) :
    dz.changesOnly lz (Dev.applyIngest d o e t) ↔ dz.changesOnly lz d := by
  simp only [Dev.applyIngest, iff_self, ite_self, fr_ite, fr_put, fr_refreshChannels, fr_updStream, h0, h1]

theorem fr_resetWindow {dz : Dev} {lz : List Part} (d : Dev) (c : Nat) (h0 : .ing ∈ lz) :
    dz.changesOnly lz (Dev.resetWindow d c) ↔ dz.changesOnly lz d := by
  simp only [Dev.resetWindow, iff_self, fr_setIng, h0]

theorem fr_closeStreams {dz : Dev} {lz : List Part} (d : Dev) (h0 : .ing ∈ lz) :
    dz.changesOnly lz (Dev.closeStreams d) ↔ dz.changesOnly lz d := by
  simp only [Dev.closeStreams, iff_self, fr_setIng, h0]

theorem fr_issue {dz : Dev} {lz : List Part} (d : Dev) (f op : Nat) (src : Ins → List (Bool × Nat)) (body : Run → Nat → Dev → Dev)
    (hb : ∀ r t y, dz.changesOnly lz (body r t y) ↔ dz.changesOnly lz y) (h0 : .dict ∈ lz) (h1 : .tim ∈ lz) (h2 : .flying ∈ lz)
    (h3 : .eng ∈ lz) : dz.changesOnly lz (Dev.issue d f op src body) ↔ dz.changesOnly lz d := by
  unfold Dev.issue
  split
  · rfl
  · split
    · rfl
    · simp only [iff_self, ite_self, fr_ite, fr_kernelFault, fr_engineFault, fr_watchdog, hb, h0, h1, h2, h3]

theorem fr_regOp {dz : Dev} {lz : List Part} (d : Dev) (f op : Nat) (src : Ins → List (Bool × Nat)) (issueCycles latency : Nat) (lane packed : Ins → Lane) (h0 : .dict ∈ lz) (h1 : .tim ∈ lz) (h2 : .flying ∈ lz) (h3 : .eng ∈ lz) :
    dz.changesOnly lz (Dev.regOp d f op src issueCycles latency lane packed) ↔ dz.changesOnly lz d := by
  simp only [Dev.regOp, iff_self, implies_true, fr_issue, fr_setEngine, h0, h1, h2, h3]

theorem fr_laneOp {dz : Dev} {lz : List Part} (d : Dev) (f op : Nat) (src : Ins → List (Bool × Nat)) (issueCycles latency : Nat) (lane : Lane) (h0 : .dict ∈ lz) (h1 : .tim ∈ lz) (h2 : .flying ∈ lz) (h3 : .eng ∈ lz) :
    dz.changesOnly lz (Dev.laneOp d f op src issueCycles latency lane) ↔ dz.changesOnly lz d := by
  simp only [Dev.laneOp, iff_self, fr_regOp, h0, h1, h2, h3]

theorem fr_immOp {dz : Dev} {lz : List Part} (d : Dev) (f op : Nat) (g : Ins → Nat → Nat) (h0 : .dict ∈ lz) (h1 : .tim ∈ lz) (h2 : .flying ∈ lz) (h3 : .eng ∈ lz) :
    dz.changesOnly lz (Dev.immOp d f op g) ↔ dz.changesOnly lz d := by
  simp only [Dev.immOp, iff_self, implies_true, fr_issue, fr_setEngine, h0, h1, h2, h3]

theorem fr_access {dz : Dev} {lz : List Part} (d : Dev) (f : Nat) (l : Loaded) (addr n align : Nat) (write : Bool) (k : Dev → Dev)
    (hk : ∀ y, dz.changesOnly lz (k y) ↔ dz.changesOnly lz y) (h0 : .dict ∈ lz) (h2 : .flying ∈ lz) (h3 : .eng ∈ lz) :
    dz.changesOnly lz (Dev.access d f l addr n align write k) ↔ dz.changesOnly lz d := by
  unfold Dev.access
  simp only [iff_self, ite_self, fr_ite, fr_kernelFault, hk, h0, h2, h3]

theorem fr_storeData {dz : Dev} {lz : List Part} (d : Dev) (r : Run) (data : Tab Nat) (h0 : .eng ∈ lz) :
    dz.changesOnly lz (Dev.storeData d r data) ↔ dz.changesOnly lz d := by
  simp only [Dev.storeData, iff_self, fr_setLoaded, h0]

theorem fr_nopOp {dz : Dev} {lz : List Part} (f : Nat) (d : Dev) (h0 : .dict ∈ lz) (h1 : .tim ∈ lz) (h2 : .flying ∈ lz) (h3 : .eng ∈ lz) :
    dz.changesOnly lz (nopOp f d) ↔ dz.changesOnly lz d := by
  simp only [nopOp, iff_self, implies_true, fr_issue, fr_setEngine, h0, h1, h2, h3]

theorem fr_addOp {dz : Dev} {lz : List Part} (f : Nat) (d : Dev) (h0 : .dict ∈ lz) (h1 : .tim ∈ lz) (h2 : .flying ∈ lz) (h3 : .eng ∈ lz) :
    dz.changesOnly lz (addOp f d) ↔ dz.changesOnly lz d := by
  simp only [addOp, iff_self, fr_regOp, h0, h1, h2, h3]

theorem fr_subOp {dz : Dev} {lz : List Part} (f : Nat) (d : Dev) (h0 : .dict ∈ lz) (h1 : .tim ∈ lz) (h2 : .flying ∈ lz) (h3 : .eng ∈ lz) :
    dz.changesOnly lz (subOp f d) ↔ dz.changesOnly lz d := by
  simp only [subOp, iff_self, fr_regOp, h0, h1, h2, h3]

theorem fr_mulOp {dz : Dev} {lz : List Part} (f : Nat) (d : Dev) (h0 : .dict ∈ lz) (h1 : .tim ∈ lz) (h2 : .flying ∈ lz) (h3 : .eng ∈ lz) :
    dz.changesOnly lz (mulOp f d) ↔ dz.changesOnly lz d := by
  simp only [mulOp, iff_self, fr_regOp, h0, h1, h2, h3]

theorem fr_andOp {dz : Dev} {lz : List Part} (f : Nat) (d : Dev) (h0 : .dict ∈ lz) (h1 : .tim ∈ lz) (h2 : .flying ∈ lz) (h3 : .eng ∈ lz) :
    dz.changesOnly lz (andOp f d) ↔ dz.changesOnly lz d := by
  simp only [andOp, iff_self, fr_regOp, h0, h1, h2, h3]

theorem fr_orOp {dz : Dev} {lz : List Part} (f : Nat) (d : Dev) (h0 : .dict ∈ lz) (h1 : .tim ∈ lz) (h2 : .flying ∈ lz) (h3 : .eng ∈ lz) :
    dz.changesOnly lz (orOp f d) ↔ dz.changesOnly lz d := by
  simp only [orOp, iff_self, fr_regOp, h0, h1, h2, h3]

theorem fr_xorOp {dz : Dev} {lz : List Part} (f : Nat) (d : Dev) (h0 : .dict ∈ lz) (h1 : .tim ∈ lz) (h2 : .flying ∈ lz) (h3 : .eng ∈ lz) :
    dz.changesOnly lz (xorOp f d) ↔ dz.changesOnly lz d := by
  simp only [xorOp, iff_self, fr_regOp, h0, h1, h2, h3]

theorem fr_shlOp {dz : Dev} {lz : List Part} (f : Nat) (d : Dev) (h0 : .dict ∈ lz) (h1 : .tim ∈ lz) (h2 : .flying ∈ lz) (h3 : .eng ∈ lz) :
    dz.changesOnly lz (shlOp f d) ↔ dz.changesOnly lz d := by
  simp only [shlOp, iff_self, fr_regOp, h0, h1, h2, h3]

theorem fr_shrOp {dz : Dev} {lz : List Part} (f : Nat) (d : Dev) (h0 : .dict ∈ lz) (h1 : .tim ∈ lz) (h2 : .flying ∈ lz) (h3 : .eng ∈ lz) :
    dz.changesOnly lz (shrOp f d) ↔ dz.changesOnly lz d := by
  simp only [shrOp, iff_self, fr_regOp, h0, h1, h2, h3]

theorem fr_sraOp {dz : Dev} {lz : List Part} (f : Nat) (d : Dev) (h0 : .dict ∈ lz) (h1 : .tim ∈ lz) (h2 : .flying ∈ lz) (h3 : .eng ∈ lz) :
    dz.changesOnly lz (sraOp f d) ↔ dz.changesOnly lz d := by
  simp only [sraOp, iff_self, fr_regOp, h0, h1, h2, h3]

theorem fr_addiOp {dz : Dev} {lz : List Part} (f : Nat) (d : Dev) (h0 : .dict ∈ lz) (h1 : .tim ∈ lz) (h2 : .flying ∈ lz) (h3 : .eng ∈ lz) :
    dz.changesOnly lz (addiOp f d) ↔ dz.changesOnly lz d := by
  simp only [addiOp, iff_self, fr_immOp, h0, h1, h2, h3]

theorem fr_oriOp {dz : Dev} {lz : List Part} (f : Nat) (d : Dev) (h0 : .dict ∈ lz) (h1 : .tim ∈ lz) (h2 : .flying ∈ lz) (h3 : .eng ∈ lz) :
    dz.changesOnly lz (oriOp f d) ↔ dz.changesOnly lz d := by
  simp only [oriOp, iff_self, fr_immOp, h0, h1, h2, h3]

theorem fr_luiOp {dz : Dev} {lz : List Part} (f : Nat) (d : Dev) (h0 : .dict ∈ lz) (h1 : .tim ∈ lz) (h2 : .flying ∈ lz) (h3 : .eng ∈ lz) :
    dz.changesOnly lz (luiOp f d) ↔ dz.changesOnly lz d := by
  simp only [luiOp, iff_self, fr_immOp, h0, h1, h2, h3]

theorem fr_faddOp {dz : Dev} {lz : List Part} (f : Nat) (d : Dev) (h0 : .dict ∈ lz) (h1 : .tim ∈ lz) (h2 : .flying ∈ lz) (h3 : .eng ∈ lz) :
    dz.changesOnly lz (faddOp f d) ↔ dz.changesOnly lz d := by
  simp only [faddOp, iff_self, fr_laneOp, h0, h1, h2, h3]

theorem fr_fsubOp {dz : Dev} {lz : List Part} (f : Nat) (d : Dev) (h0 : .dict ∈ lz) (h1 : .tim ∈ lz) (h2 : .flying ∈ lz) (h3 : .eng ∈ lz) :
    dz.changesOnly lz (fsubOp f d) ↔ dz.changesOnly lz d := by
  simp only [fsubOp, iff_self, fr_laneOp, h0, h1, h2, h3]

theorem fr_fmulOp {dz : Dev} {lz : List Part} (f : Nat) (d : Dev) (h0 : .dict ∈ lz) (h1 : .tim ∈ lz) (h2 : .flying ∈ lz) (h3 : .eng ∈ lz) :
    dz.changesOnly lz (fmulOp f d) ↔ dz.changesOnly lz d := by
  simp only [fmulOp, iff_self, fr_laneOp, h0, h1, h2, h3]

theorem fr_fmaOp {dz : Dev} {lz : List Part} (f : Nat) (d : Dev) (h0 : .dict ∈ lz) (h1 : .tim ∈ lz) (h2 : .flying ∈ lz) (h3 : .eng ∈ lz) :
    dz.changesOnly lz (fmaOp f d) ↔ dz.changesOnly lz d := by
  simp only [fmaOp, iff_self, fr_laneOp, h0, h1, h2, h3]

theorem fr_fdivOp {dz : Dev} {lz : List Part} (f : Nat) (d : Dev) (h0 : .dict ∈ lz) (h1 : .tim ∈ lz) (h2 : .flying ∈ lz) (h3 : .eng ∈ lz) :
    dz.changesOnly lz (fdivOp f d) ↔ dz.changesOnly lz d := by
  simp only [fdivOp, iff_self, fr_laneOp, h0, h1, h2, h3]

theorem fr_fsqrtOp {dz : Dev} {lz : List Part} (f : Nat) (d : Dev) (h0 : .dict ∈ lz) (h1 : .tim ∈ lz) (h2 : .flying ∈ lz) (h3 : .eng ∈ lz) :
    dz.changesOnly lz (fsqrtOp f d) ↔ dz.changesOnly lz d := by
  simp only [fsqrtOp, iff_self, fr_laneOp, h0, h1, h2, h3]

theorem fr_fmaxOp {dz : Dev} {lz : List Part} (f : Nat) (d : Dev) (h0 : .dict ∈ lz) (h1 : .tim ∈ lz) (h2 : .flying ∈ lz) (h3 : .eng ∈ lz) :
    dz.changesOnly lz (fmaxOp f d) ↔ dz.changesOnly lz d := by
  simp only [fmaxOp, iff_self, fr_laneOp, h0, h1, h2, h3]

theorem fr_fminOp {dz : Dev} {lz : List Part} (f : Nat) (d : Dev) (h0 : .dict ∈ lz) (h1 : .tim ∈ lz) (h2 : .flying ∈ lz) (h3 : .eng ∈ lz) :
    dz.changesOnly lz (fminOp f d) ↔ dz.changesOnly lz d := by
  simp only [fminOp, iff_self, fr_laneOp, h0, h1, h2, h3]

theorem fr_fabsOp {dz : Dev} {lz : List Part} (f : Nat) (d : Dev) (h0 : .dict ∈ lz) (h1 : .tim ∈ lz) (h2 : .flying ∈ lz) (h3 : .eng ∈ lz) :
    dz.changesOnly lz (fabsOp f d) ↔ dz.changesOnly lz d := by
  simp only [fabsOp, iff_self, fr_laneOp, h0, h1, h2, h3]

theorem fr_fcmpOp {dz : Dev} {lz : List Part} (f : Nat) (d : Dev) (h0 : .dict ∈ lz) (h1 : .tim ∈ lz) (h2 : .flying ∈ lz) (h3 : .eng ∈ lz) :
    dz.changesOnly lz (fcmpOp f d) ↔ dz.changesOnly lz d := by
  simp only [fcmpOp, iff_self, fr_regOp, h0, h1, h2, h3]

theorem fr_fcvtOp {dz : Dev} {lz : List Part} (f : Nat) (d : Dev) (h0 : .dict ∈ lz) (h1 : .tim ∈ lz) (h2 : .flying ∈ lz) (h3 : .eng ∈ lz) :
    dz.changesOnly lz (fcvtOp f d) ↔ dz.changesOnly lz d := by
  simp only [fcvtOp, iff_self, implies_true, fr_issue, fr_setEngine, h0, h1, h2, h3]

theorem fr_vselOp {dz : Dev} {lz : List Part} (f : Nat) (d : Dev) (h0 : .dict ∈ lz) (h1 : .tim ∈ lz) (h2 : .flying ∈ lz) (h3 : .eng ∈ lz) :
    dz.changesOnly lz (vselOp f d) ↔ dz.changesOnly lz d := by
  simp only [vselOp, iff_self, fr_laneOp, h0, h1, h2, h3]

theorem fr_vbcastOp {dz : Dev} {lz : List Part} (f : Nat) (d : Dev) (h0 : .dict ∈ lz) (h1 : .tim ∈ lz) (h2 : .flying ∈ lz) (h3 : .eng ∈ lz) :
    dz.changesOnly lz (vbcastOp f d) ↔ dz.changesOnly lz d := by
  simp only [vbcastOp, iff_self, implies_true, fr_issue, fr_setEngine, h0, h1, h2, h3]

theorem fr_vextOp {dz : Dev} {lz : List Part} (f : Nat) (d : Dev) (h0 : .dict ∈ lz) (h1 : .tim ∈ lz) (h2 : .flying ∈ lz) (h3 : .eng ∈ lz) :
    dz.changesOnly lz (vextOp f d) ↔ dz.changesOnly lz d := by
  simp only [vextOp, iff_self, implies_true, fr_issue, fr_setEngine, h0, h1, h2, h3]

theorem fr_vsumOp {dz : Dev} {lz : List Part} (f : Nat) (d : Dev) (h0 : .dict ∈ lz) (h1 : .tim ∈ lz) (h2 : .flying ∈ lz) (h3 : .eng ∈ lz) :
    dz.changesOnly lz (vsumOp f d) ↔ dz.changesOnly lz d := by
  simp only [vsumOp, iff_self, implies_true, fr_issue, fr_setEngine, h0, h1, h2, h3]

theorem fr_ldOp {dz : Dev} {lz : List Part} (f : Nat) (d : Dev) (h0 : .dict ∈ lz) (h1 : .tim ∈ lz) (h2 : .flying ∈ lz) (h3 : .eng ∈ lz) :
    dz.changesOnly lz (ldOp f d) ↔ dz.changesOnly lz d := by
  unfold ldOp
  refine fr_issue _ _ _ _ _ (fun r t y => ?_) h0 h1 h2 h3
  refine fr_access _ _ _ _ _ _ _ _ (fun y => ?_) h0 h2 h3
  simp only [iff_self, fr_setEngine, h3]

theorem fr_stOp {dz : Dev} {lz : List Part} (f : Nat) (d : Dev) (h0 : .dict ∈ lz) (h1 : .tim ∈ lz) (h2 : .flying ∈ lz) (h3 : .eng ∈ lz) :
    dz.changesOnly lz (stOp f d) ↔ dz.changesOnly lz d := by
  unfold stOp
  refine fr_issue _ _ _ _ _ (fun r t y => ?_) h0 h1 h2 h3
  refine fr_access _ _ _ _ _ _ _ _ (fun y => ?_) h0 h2 h3
  simp only [iff_self, fr_setEngine, fr_storeData, h3]

theorem fr_vldOp {dz : Dev} {lz : List Part} (f : Nat) (d : Dev) (h0 : .dict ∈ lz) (h1 : .tim ∈ lz) (h2 : .flying ∈ lz) (h3 : .eng ∈ lz) :
    dz.changesOnly lz (vldOp f d) ↔ dz.changesOnly lz d := by
  unfold vldOp
  refine fr_issue _ _ _ _ _ (fun r t y => ?_) h0 h1 h2 h3
  refine fr_access _ _ _ _ _ _ _ _ (fun y => ?_) h0 h2 h3
  simp only [iff_self, fr_setEngine, h3]

theorem fr_vstOp {dz : Dev} {lz : List Part} (f : Nat) (d : Dev) (h0 : .dict ∈ lz) (h1 : .tim ∈ lz) (h2 : .flying ∈ lz) (h3 : .eng ∈ lz) :
    dz.changesOnly lz (vstOp f d) ↔ dz.changesOnly lz d := by
  unfold vstOp
  refine fr_issue _ _ _ _ _ (fun r t y => ?_) h0 h1 h2 h3
  refine fr_access _ _ _ _ _ _ _ _ (fun y => ?_) h0 h2 h3
  simp only [iff_self, fr_setEngine, fr_storeData, h3]

theorem fr_xferOp {dz : Dev} {lz : List Part} (f : Nat) (d : Dev) (h0 : .dict ∈ lz) (h1 : .tim ∈ lz) (h2 : .flying ∈ lz) (h3 : .eng ∈ lz) :
    dz.changesOnly lz (xferOp f d) ↔ dz.changesOnly lz d := by
  unfold xferOp
  refine fr_issue _ _ _ _ _ (fun r t y => ?_) h0 h1 h2 h3
  dsimp only
  split
  · rfl
  · split
    · simp only [fr_kernelFault, h0, h2, h3]
    · refine fr_access _ _ _ _ _ _ _ _ (fun y => ?_) h0 h2 h3
      simp only [iff_self, ite_self, fr_ite, fr_kernelFault, fr_setEngine, h0, h2, h3]

theorem fr_sgetOp {dz : Dev} {lz : List Part} (f : Nat) (d : Dev) (h0 : .dict ∈ lz) (h1 : .tim ∈ lz) (h2 : .flying ∈ lz) (h3 : .eng ∈ lz) :
    dz.changesOnly lz (sgetOp f d) ↔ dz.changesOnly lz d := by
  unfold sgetOp
  refine fr_issue _ _ _ _ _ (fun r t y => ?_) h0 h1 h2 h3
  dsimp only
  split
  · rfl
  · refine fr_access _ _ _ _ _ _ _ _ (fun y => ?_) h0 h2 h3
    simp only [iff_self, fr_setEngine, h3]

theorem fr_doMove {dz : Dev} {lz : List Part} (d : Dev) (f : Nat) (m : Move) (h0 : .eng ∈ lz) :
    dz.changesOnly lz (Dev.doMove d f m) ↔ dz.changesOnly lz d := by
  unfold Dev.doMove; repeat' (first | (simp only [iff_self, fr_setLoaded, h0]; done) | (with_reducible rfl) | (with_reducible refine (fr_foldl (fun _ _ => ?_)).trans ?_) | (with_reducible refine (fr_foldl_snd (fun _ _ => ?_)).trans ?_) | (with_reducible refine Iff.trans (fr_pair (by assumption)) ?_) | split | simp only [eq_self, iff_self, implies_true, forall_const, ite_self, true_or, or_true, fr_ite, fr_ite_snd, fr_foldl, fr_foldl_snd, fr_setLoaded, h0])

theorem fr_moveDone {dz : Dev} {lz : List Part} (d : Dev) (f early : Nat) (xfer : Bool) (h0 : .eng ∈ lz) :
    dz.changesOnly lz (Dev.moveDone d f early xfer) ↔ dz.changesOnly lz d := by
  unfold Dev.moveDone; repeat' (first | (simp only [iff_self, fr_doMove, fr_setEngine, h0]; done) | (with_reducible rfl) | (with_reducible refine (fr_foldl (fun _ _ => ?_)).trans ?_) | (with_reducible refine (fr_foldl_snd (fun _ _ => ?_)).trans ?_) | (with_reducible refine Iff.trans (fr_pair (by assumption)) ?_) | split | simp only [eq_self])

theorem fr_xferComplete {dz : Dev} {lz : List Part} (f early : Nat) (d : Dev) (h0 : .eng ∈ lz) :
    dz.changesOnly lz (xferComplete f early d) ↔ dz.changesOnly lz d := by
  simp only [xferComplete, iff_self, fr_moveDone, h0]

theorem fr_sgetComplete {dz : Dev} {lz : List Part} (f early : Nat) (d : Dev) (h0 : .eng ∈ lz) :
    dz.changesOnly lz (sgetComplete f early d) ↔ dz.changesOnly lz d := by
  simp only [sgetComplete, iff_self, fr_moveDone, h0]

theorem fr_xwaitOp {dz : Dev} {lz : List Part} (f : Nat) (d : Dev) (h0 : .dict ∈ lz) (h1 : .tim ∈ lz) (h2 : .flying ∈ lz) (h3 : .eng ∈ lz) :
    dz.changesOnly lz (xwaitOp f d) ↔ dz.changesOnly lz d := by
  simp only [xwaitOp, iff_self, implies_true, ite_self, fr_ite, fr_issue, fr_setEngine, h0, h1, h2, h3]

theorem fr_branch {dz : Dev} {lz : List Part} (d : Dev) (f op : Nat) (rel : Nat → Nat → Bool) (h0 : .dict ∈ lz) (h1 : .tim ∈ lz) (h2 : .flying ∈ lz) (h3 : .eng ∈ lz) :
    dz.changesOnly lz (Dev.branch d f op rel) ↔ dz.changesOnly lz d := by
  simp only [Dev.branch, iff_self, implies_true, ite_self, fr_ite, fr_issue, fr_setEngine, h0, h1, h2, h3]

theorem fr_beqOp {dz : Dev} {lz : List Part} (f : Nat) (d : Dev) (h0 : .dict ∈ lz) (h1 : .tim ∈ lz) (h2 : .flying ∈ lz) (h3 : .eng ∈ lz) :
    dz.changesOnly lz (beqOp f d) ↔ dz.changesOnly lz d := by
  simp only [beqOp, iff_self, fr_branch, h0, h1, h2, h3]

theorem fr_bneOp {dz : Dev} {lz : List Part} (f : Nat) (d : Dev) (h0 : .dict ∈ lz) (h1 : .tim ∈ lz) (h2 : .flying ∈ lz) (h3 : .eng ∈ lz) :
    dz.changesOnly lz (bneOp f d) ↔ dz.changesOnly lz d := by
  simp only [bneOp, iff_self, fr_branch, h0, h1, h2, h3]

theorem fr_bltOp {dz : Dev} {lz : List Part} (f : Nat) (d : Dev) (h0 : .dict ∈ lz) (h1 : .tim ∈ lz) (h2 : .flying ∈ lz) (h3 : .eng ∈ lz) :
    dz.changesOnly lz (bltOp f d) ↔ dz.changesOnly lz d := by
  simp only [bltOp, iff_self, fr_branch, h0, h1, h2, h3]

theorem fr_bgeOp {dz : Dev} {lz : List Part} (f : Nat) (d : Dev) (h0 : .dict ∈ lz) (h1 : .tim ∈ lz) (h2 : .flying ∈ lz) (h3 : .eng ∈ lz) :
    dz.changesOnly lz (bgeOp f d) ↔ dz.changesOnly lz d := by
  simp only [bgeOp, iff_self, fr_branch, h0, h1, h2, h3]

theorem fr_timeOp {dz : Dev} {lz : List Part} (f : Nat) (d : Dev) (h0 : .dict ∈ lz) (h1 : .tim ∈ lz) (h2 : .flying ∈ lz) (h3 : .eng ∈ lz) :
    dz.changesOnly lz (timeOp f d) ↔ dz.changesOnly lz d := by
  simp only [timeOp, iff_self, implies_true, ite_self, fr_ite, fr_issue, fr_setEngine, h0, h1, h2, h3]

theorem fr_sputOp {dz : Dev} {lz : List Part} (f : Nat) (d : Dev) (h0 : .dict ∈ lz) (h1 : .tim ∈ lz) (h2 : .flying ∈ lz) (h3 : .eng ∈ lz) :
    dz.changesOnly lz (sputOp f d) ↔ dz.changesOnly lz d := by
  unfold sputOp
  refine fr_issue _ _ _ _ _ (fun r t y => ?_) h0 h1 h2 h3
  refine fr_access _ _ _ _ _ _ _ _ (fun y => ?_) h0 h2 h3
  simp only [iff_self, ite_self, fr_ite, fr_kernelFault, fr_setEngine, h0, h2, h3]

theorem fr_kevtOp {dz : Dev} {lz : List Part} (f : Nat) (d : Dev) (h0 : .dict ∈ lz) (h1 : .tim ∈ lz) (h2 : .flying ∈ lz) (h3 : .eng ∈ lz) :
    dz.changesOnly lz (kevtOp f d) ↔ dz.changesOnly lz d := by
  simp only [kevtOp, iff_self, implies_true, ite_self, fr_ite, fr_inc, fr_issue, fr_raiseAt, fr_setEngine, h0, h1, h2, h3]

theorem fr_endOp {dz : Dev} {lz : List Part} (f : Nat) (d : Dev) (h0 : .dict ∈ lz) (h1 : .tim ∈ lz) (h2 : .flying ∈ lz) (h3 : .tab ∈ lz) (h4 : .eng ∈ lz) :
    dz.changesOnly lz (endOp f d) ↔ dz.changesOnly lz d := by
  unfold endOp
  refine fr_issue _ _ _ _ _ (fun r t y => ?_) h0 h1 h2 h4
  dsimp only
  split
  · rfl
  · simp only [iff_self, implies_true, ite_self, fr_ite, fr_foldl, fr_doMove, fr_at_, fr_inc, fr_add, fr_raise, fr_setEngine, fr_put, fr_setBind, fr_setRegion, h0, h1, h2, h3, h4]

theorem fr_remember {dz : Dev} {lz : List Part} (d : Dev) (p : Path) (q : Req) (h0 : .access ∈ lz) :
    dz.changesOnly lz (Dev.remember d p q) ↔ dz.changesOnly lz d := by
  simp only [Dev.remember, eq_self, iff_self, or_true, fr_setObj, h0]

theorem fr_rememberSent {dz : Dev} {lz : List Part} (d : Dev) (p : Path) (q : Req) (r : Resp) (h0 : .access ∈ lz) :
    dz.changesOnly lz (Dev.rememberSent d p q r) ↔ dz.changesOnly lz d := by
  simp only [Dev.rememberSent, eq_self, iff_self, or_true, fr_setObj, h0]

theorem fr_replayExpiry {dz : Dev} {lz : List Part} (p : Path) (txid : Nat) (d : Dev) (h0 : .access ∈ lz) (h1 : .tim ∈ lz) :
    dz.changesOnly lz (replayExpiry p txid d) ↔ dz.changesOnly lz d := by
  unfold replayExpiry; repeat' (first | (simp only [eq_self, iff_self, or_true, fr_at_, fr_setObj, h0, h1]; done) | (with_reducible rfl) | (with_reducible refine (fr_foldl (fun _ _ => ?_)).trans ?_) | (with_reducible refine (fr_foldl_snd (fun _ _ => ?_)).trans ?_) | (with_reducible refine Iff.trans (fr_pair (by assumption)) ?_) | split | simp only [eq_self, iff_self, implies_true, forall_const, ite_self, true_or, or_true, fr_ite, fr_ite_snd, fr_foldl, fr_foldl_snd, fr_at_, fr_setObj, h0, h1])

theorem fr_kmpAnswer {dz : Dev} {lz : List Part} (d : Dev) (p : Path) (via ip udp role : Nat) (q : Req) (kind : Nat → Nat)
    (f : Dev → (Nat × List Byte) × Dev) (hf : ∀ y, dz.changesOnly lz (f y).2 ↔ dz.changesOnly lz y) (h0 : .out ∈ lz)
    (h1 : .access ∈ lz) : dz.changesOnly lz (Dev.kmpAnswer d p via ip udp role q kind f) ↔ dz.changesOnly lz d := by
  unfold Dev.kmpAnswer
  repeat' (first | (simp only [iff_self, fr_ite, fr_kmpSend, fr_rememberSent, fr_remember, hf, h0, h1]; done) | (with_reducible rfl) | split | simp only [iff_self, implies_true, forall_const, ite_self, true_or, or_true, fr_ite, fr_ite_snd, fr_foldl, fr_foldl_snd])

theorem fr_newPortEpoch {dz : Dev} {lz : List Part} (d : Dev) (p : Nat) (h0 : .net ∈ lz) (h1 : .lan ∈ lz) :
    dz.changesOnly lz (Dev.newPortEpoch d p) ↔ dz.changesOnly lz d := by
  simp only [Dev.newPortEpoch, iff_self, ite_self, fr_ite, fr_setTsq, fr_updLedger, h0, h1]

theorem fr_newRingEpoch {dz : Dev} {lz : List Part} (d : Dev) (r : Nat) (h0 : .rings ∈ lz) :
    dz.changesOnly lz (Dev.newRingEpoch d r) ↔ dz.changesOnly lz d := by
  simp only [Dev.newRingEpoch, iff_self, ite_self, fr_ite, fr_updRing, h0]

theorem fr_newRegionEpoch {dz : Dev} {lz : List Part} (d : Dev) (g : Nat) (h0 : .tab ∈ lz) :
    dz.changesOnly lz (Dev.newRegionEpoch d g) ↔ dz.changesOnly lz d := by
  simp only [Dev.newRegionEpoch, iff_self, fr_setRegion, h0]

theorem fr_closeSensors {dz : Dev} {lz : List Part} (d : Dev) (h0 : .wave ∈ lz) :
    dz.changesOnly lz (Dev.closeSensors d) ↔ dz.changesOnly lz d := by
  simp only [Dev.closeSensors, iff_self, fr_setWave, h0]

theorem fr_newLedgers {dz : Dev} {lz : List Part} (d : Dev) (h0 : .net ∈ lz) (h1 : .lan ∈ lz) (h2 : .rings ∈ lz) (h3 : .ing ∈ lz) (h4 : .tab ∈ lz) (h5 : .wave ∈ lz) :
    dz.changesOnly lz (Dev.newLedgers d) ↔ dz.changesOnly lz d := by
  simp only [Dev.newLedgers, iff_self, implies_true, fr_foldl, fr_closeSensors, fr_closeStreams, fr_newPortEpoch, fr_newRegionEpoch, fr_newRingEpoch, h0, h1, h2, h3, h4, h5]

theorem fr_logImbalance {dz : Dev} {lz : List Part} (d : Dev) (n : Nat) (s : Sides) (h0 : .dict ∈ lz) (h1 : .flying ∈ lz) (h2 : .faults ∈ lz) :
    dz.changesOnly lz (Dev.logImbalance d n s) ↔ dz.changesOnly lz d :=
  fr_of (fun p hp => by cases p <;> first | rfl | (exact absurd ‹_› hp))

theorem fr_puti {dz : Dev} {lz : List Part} (d : Dev) (o e : Nat) (v : Int) (h0 : .dict ∈ lz) :
    dz.changesOnly lz (Dev.puti d o e v) ↔ dz.changesOnly lz d := by
  simp only [Dev.puti, iff_self, fr_put, h0]

theorem fr_commit {dz : Dev} {lz : List Part} (d : Dev) (q : Req) (h0 : .dict ∈ lz) (h1 : .access ∈ lz) :
    dz.changesOnly lz (Dev.commit d q).2 ↔ dz.changesOnly lz d := by
  unfold Dev.commit; repeat' (first | (simp only [iff_self, fr_ite_snd, fr_accept, h0, h1]; done) | (with_reducible rfl) | (with_reducible refine (fr_foldl (fun _ _ => ?_)).trans ?_) | (with_reducible refine (fr_foldl_snd (fun _ _ => ?_)).trans ?_) | (with_reducible refine Iff.trans (fr_pair (by assumption)) ?_) | split | simp only [eq_self, iff_self, implies_true, forall_const, ite_self, true_or, or_true, fr_ite, fr_ite_snd, fr_foldl, fr_foldl_snd, fr_accept, h0, h1])

theorem fr_freeSlot {dz : Dev} {lz : List Part} (d : Dev) (k : Nat) (h0 : .dict ∈ lz) (h1 : .access ∈ lz) :
    dz.changesOnly lz (Dev.freeSlot d k) ↔ dz.changesOnly lz d := by
  simp only [Dev.freeSlot, iff_self, implies_true, fr_foldl, fr_put, fr_setSlot, h0, h1]

theorem fr_status {dz : Dev} {lz : List Part} (d : Dev) (q : Req) (h0 : .dict ∈ lz) (h1 : .access ∈ lz) :
    dz.changesOnly lz (Dev.status d q).2 ↔ dz.changesOnly lz d := by
  unfold Dev.status; repeat' (first | (simp only [iff_self, ite_self, fr_ite, fr_freeSlot, h0, h1]; done) | (with_reducible rfl) | (with_reducible refine (fr_foldl (fun _ _ => ?_)).trans ?_) | (with_reducible refine (fr_foldl_snd (fun _ _ => ?_)).trans ?_) | (with_reducible refine Iff.trans (fr_pair (by assumption)) ?_) | split | simp only [eq_self, iff_self, implies_true, forall_const, ite_self, true_or, or_true, fr_ite, fr_ite_snd, fr_foldl, fr_foldl_snd, fr_freeSlot, h0, h1])

theorem fr_abortTxn {dz : Dev} {lz : List Part} (d : Dev) (id : Nat) (h0 : .dict ∈ lz) (h1 : .access ∈ lz) (h2 : .flying ∈ lz) (h3 : .rings ∈ lz) :
    dz.changesOnly lz (Dev.abortTxn d id).2 ↔ dz.changesOnly lz d := by
  unfold Dev.abortTxn; repeat' (first | (simp only [iff_self, ite_self, fr_ite, fr_ite_snd, fr_endSlot, fr_put, fr_updRing, h0, h1, h2, h3]; done) | (with_reducible rfl) | (with_reducible refine (fr_foldl (fun _ _ => ?_)).trans ?_) | (with_reducible refine (fr_foldl_snd (fun _ _ => ?_)).trans ?_) | (with_reducible refine Iff.trans (fr_pair (by assumption)) ?_) | split | simp only [fr_ite_snd, fr_endSlot, h0, h1, h2])

theorem fr_perform {dz : Dev} {lz : List Part} (d : Dev) (p : Path) (q : Req) (h0 : .fresh ∈ lz) (h1 : .out ∈ lz) (h2 : .dict ∈ lz) (h3 : .access ∈ lz) (h4 : .tim ∈ lz) (h5 : .arch ∈ lz) (h6 : .flying ∈ lz) (h7 : .live ∈ lz) (h8 : .faults ∈ lz) (h9 : .net ∈ lz) (h10 : .host ∈ lz) (h11 : .lan ∈ lz) (h12 : .ecl ∈ lz) (h13 : .rings ∈ lz) (h14 : .ing ∈ lz) (h15 : .tab ∈ lz) (h16 : .eng ∈ lz) (h17 : .wave ∈ lz) (h18 : .pow ∈ lz) (h19 : .spi ∈ lz) :
    dz.changesOnly lz (Dev.perform d p q).2 ↔ dz.changesOnly lz d :=
  fr_of (fun p hp => absurd (by cases p <;> assumption) hp)

theorem fr_pushFlight {dz : Dev} {lz : List Part} (d : Dev) (f : Flight) (h0 : .access ∈ lz) :
    dz.changesOnly lz (Dev.pushFlight d f) ↔ dz.changesOnly lz d := by
  simp only [Dev.pushFlight, eq_self, iff_self, or_true, fr_setObj, h0]

theorem fr_answerNow {dz : Dev} {lz : List Part} (d : Dev) (p : Path) (q : Req) (r : Resp) (replay : Bool) (h0 : .access ∈ lz) :
    dz.changesOnly lz (Dev.answerNow d p q r replay) ↔ dz.changesOnly lz d := by
  simp only [Dev.answerNow, iff_self, fr_pushFlight, h0]

theorem fr_handleCmd {dz : Dev} {lz : List Part} (d : Dev) (p : Path) (q : Req) (h0 : .fresh ∈ lz) (h1 : .out ∈ lz) (h2 : .dict ∈ lz) (h3 : .access ∈ lz) (h4 : .tim ∈ lz) (h5 : .arch ∈ lz) (h6 : .flying ∈ lz) (h7 : .live ∈ lz) (h8 : .faults ∈ lz) (h9 : .net ∈ lz) (h10 : .host ∈ lz) (h11 : .lan ∈ lz) (h12 : .ecl ∈ lz) (h13 : .rings ∈ lz) (h14 : .ing ∈ lz) (h15 : .tab ∈ lz) (h16 : .eng ∈ lz) (h17 : .wave ∈ lz) (h18 : .pow ∈ lz) (h19 : .spi ∈ lz) :
    dz.changesOnly lz (Dev.handleCmd d p q) ↔ dz.changesOnly lz d :=
  fr_of (fun p hp => absurd (by cases p <;> assumption) hp)

theorem fr_start {dz : Dev} {lz : List Part} (d : Dev) (p : Path) (q : Req) (h0 : .fresh ∈ lz) (h1 : .out ∈ lz) (h2 : .dict ∈ lz) (h3 : .access ∈ lz) (h4 : .tim ∈ lz) (h5 : .arch ∈ lz) (h6 : .flying ∈ lz) (h7 : .live ∈ lz) (h8 : .faults ∈ lz) (h9 : .net ∈ lz) (h10 : .host ∈ lz) (h11 : .lan ∈ lz) (h12 : .ecl ∈ lz) (h13 : .rings ∈ lz) (h14 : .ing ∈ lz) (h15 : .tab ∈ lz) (h16 : .eng ∈ lz) (h17 : .wave ∈ lz) (h18 : .pow ∈ lz) (h19 : .spi ∈ lz) :
    dz.changesOnly lz (Dev.start d p q) ↔ dz.changesOnly lz d :=
  fr_of (fun p hp => absurd (by cases p <;> assumption) hp)

theorem fr_setMbx {dz : Dev} {lz : List Part} (d : Dev) (m : Nat) (x : Mailbox) (h0 : .access ∈ lz) :
    dz.changesOnly lz (Dev.setMbx d m x) ↔ dz.changesOnly lz d := by
  simp only [Dev.setMbx, eq_self, iff_self, or_true, fr_setObj, h0]

theorem fr_mbxGo {dz : Dev} {lz : List Part} (d : Dev) (m : Fin 16) (h0 : .fresh ∈ lz) (h1 : .out ∈ lz) (h2 : .dict ∈ lz) (h3 : .access ∈ lz) (h4 : .tim ∈ lz) (h5 : .arch ∈ lz) (h6 : .flying ∈ lz) (h7 : .live ∈ lz) (h8 : .faults ∈ lz) (h9 : .net ∈ lz) (h10 : .host ∈ lz) (h11 : .lan ∈ lz) (h12 : .ecl ∈ lz) (h13 : .rings ∈ lz) (h14 : .ing ∈ lz) (h15 : .tab ∈ lz) (h16 : .eng ∈ lz) (h17 : .wave ∈ lz) (h18 : .pow ∈ lz) (h19 : .spi ∈ lz) :
    dz.changesOnly lz (Dev.mbxGo d m) ↔ dz.changesOnly lz d :=
  fr_of (fun p hp => absurd (by cases p <;> assumption) hp)

theorem fr_holdResponse {dz : Dev} {lz : List Part} (d : Dev) (r dest : Nat) (body : List Byte) (h0 : .rings ∈ lz) :
    dz.changesOnly lz (Dev.holdResponse d r dest body) ↔ dz.changesOnly lz d := by
  simp only [Dev.holdResponse, iff_self, fr_updRing, h0]

theorem fr_respond {dz : Dev} {lz : List Part} (d : Dev) (p : Path) (q : Req) (r : Resp) (replay : Bool) (h0 : .out ∈ lz) (h1 : .access ∈ lz) (h2 : .flying ∈ lz) (h3 : .rings ∈ lz) (h4 : .spi ∈ lz) :
    dz.changesOnly lz (Dev.respond d p q r replay) ↔ dz.changesOnly lz d := by
  unfold Dev.respond; repeat' (first | (simp only [iff_self, ite_self, fr_ite, fr_rec_spi, fr_holdResponse, fr_kmpSend, fr_raise, fr_setMbx, h0, h1, h2, h3, h4]; done) | (with_reducible rfl) | (with_reducible refine (fr_foldl (fun _ _ => ?_)).trans ?_) | (with_reducible refine (fr_foldl_snd (fun _ _ => ?_)).trans ?_) | (with_reducible refine Iff.trans (fr_pair (by assumption)) ?_) | split | simp only [eq_self, iff_self, implies_true, forall_const, ite_self, true_or, or_true, fr_ite, fr_ite_snd, fr_foldl, fr_foldl_snd, fr_rec_spi, fr_holdResponse, fr_kmpSend, fr_raise, fr_setMbx, h0, h1, h2, h3, h4])

theorem fr_respondHeld {dz : Dev} {lz : List Part} (d : Dev) (p : Path) (q : Req) (r : Resp) (n : Nat) (h0 : .out ∈ lz) (h1 : .access ∈ lz) (h2 : .flying ∈ lz) (h3 : .rings ∈ lz) (h4 : .spi ∈ lz) :
    dz.changesOnly lz (Dev.respondHeld d p q r n) ↔ dz.changesOnly lz d := by
  induction n generalizing d with
  | zero => rfl
  | succ n ih =>
    unfold Dev.respondHeld
    repeat' (first | (simp only [iff_self, ih, fr_respond, h0, h1, h2, h3, h4]; done) | (with_reducible rfl) | (refine Iff.trans (fr_pair (by assumption)) ?_) | split | simp only [iff_self, implies_true, forall_const, ite_self, true_or, or_true, fr_ite, fr_ite_snd, fr_foldl, fr_foldl_snd, ih, fr_respond, h0, h1, h2, h3, h4])

theorem fr_commandComplete {dz : Dev} {lz : List Part} (p : Path) (d : Dev) (h0 : .out ∈ lz) (h1 : .access ∈ lz) (h2 : .flying ∈ lz) (h3 : .rings ∈ lz) (h4 : .spi ∈ lz) :
    dz.changesOnly lz (commandComplete p d) ↔ dz.changesOnly lz d := by
  unfold commandComplete; repeat' (first | (simp only [eq_self, iff_self, ite_self, or_true, fr_ite, fr_rememberSent, fr_respond, fr_respondHeld, fr_setObj, h0, h1, h2, h3, h4]; done) | (with_reducible rfl) | (with_reducible refine (fr_foldl (fun _ _ => ?_)).trans ?_) | (with_reducible refine (fr_foldl_snd (fun _ _ => ?_)).trans ?_) | (with_reducible refine Iff.trans (fr_pair (by assumption)) ?_) | split | simp only [eq_self])

theorem fr_submit {dz : Dev} {lz : List Part} (d : Dev) (p : Path) (q : Req) (h0 : .fresh ∈ lz) (h1 : .out ∈ lz) (h2 : .dict ∈ lz) (h3 : .access ∈ lz) (h4 : .tim ∈ lz) (h5 : .arch ∈ lz) (h6 : .flying ∈ lz) (h7 : .live ∈ lz) (h8 : .faults ∈ lz) (h9 : .net ∈ lz) (h10 : .host ∈ lz) (h11 : .lan ∈ lz) (h12 : .ecl ∈ lz) (h13 : .rings ∈ lz) (h14 : .ing ∈ lz) (h15 : .tab ∈ lz) (h16 : .eng ∈ lz) (h17 : .wave ∈ lz) (h18 : .pow ∈ lz) (h19 : .spi ∈ lz) :
    dz.changesOnly lz (Dev.submit d p q) ↔ dz.changesOnly lz d :=
  fr_of (fun p hp => absurd (by cases p <;> assumption) hp)

theorem fr_objCommand {dz : Dev} {lz : List Part} (cmd : Nat) (p : Path) (q : Req) (d : Dev) (h0 : .fresh ∈ lz) (h1 : .out ∈ lz) (h2 : .dict ∈ lz) (h3 : .access ∈ lz) (h4 : .tim ∈ lz) (h5 : .arch ∈ lz) (h6 : .flying ∈ lz) (h7 : .live ∈ lz) (h8 : .faults ∈ lz) (h9 : .net ∈ lz) (h10 : .host ∈ lz) (h11 : .lan ∈ lz) (h12 : .ecl ∈ lz) (h13 : .rings ∈ lz) (h14 : .ing ∈ lz) (h15 : .tab ∈ lz) (h16 : .eng ∈ lz) (h17 : .wave ∈ lz) (h18 : .pow ∈ lz) (h19 : .spi ∈ lz) :
    dz.changesOnly lz (objCommand cmd p q d) ↔ dz.changesOnly lz d :=
  fr_of (fun p hp => absurd (by cases p <;> assumption) hp)

theorem fr_writeCommand {dz : Dev} {lz : List Part} (o e n v : Nat) (p : Path) (txid : Nat) (d : Dev) (h0 : .fresh ∈ lz) (h1 : .out ∈ lz) (h2 : .dict ∈ lz) (h3 : .access ∈ lz) (h4 : .tim ∈ lz) (h5 : .arch ∈ lz) (h6 : .flying ∈ lz) (h7 : .live ∈ lz) (h8 : .faults ∈ lz) (h9 : .net ∈ lz) (h10 : .host ∈ lz) (h11 : .lan ∈ lz) (h12 : .ecl ∈ lz) (h13 : .rings ∈ lz) (h14 : .ing ∈ lz) (h15 : .tab ∈ lz) (h16 : .eng ∈ lz) (h17 : .wave ∈ lz) (h18 : .pow ∈ lz) (h19 : .spi ∈ lz) :
    dz.changesOnly lz (writeCommand o e n v p txid d) ↔ dz.changesOnly lz d :=
  fr_of (fun p hp => absurd (by cases p <;> assumption) hp)

theorem fr_writeBytes {dz : Dev} {lz : List Part} (o e off : Nat) (bs : List Byte) (p : Path) (txid : Nat) (d : Dev) (h0 : .fresh ∈ lz) (h1 : .out ∈ lz) (h2 : .dict ∈ lz) (h3 : .access ∈ lz) (h4 : .tim ∈ lz) (h5 : .arch ∈ lz) (h6 : .flying ∈ lz) (h7 : .live ∈ lz) (h8 : .faults ∈ lz) (h9 : .net ∈ lz) (h10 : .host ∈ lz) (h11 : .lan ∈ lz) (h12 : .ecl ∈ lz) (h13 : .rings ∈ lz) (h14 : .ing ∈ lz) (h15 : .tab ∈ lz) (h16 : .eng ∈ lz) (h17 : .wave ∈ lz) (h18 : .pow ∈ lz) (h19 : .spi ∈ lz) :
    dz.changesOnly lz (writeBytes o e off bs p txid d) ↔ dz.changesOnly lz d :=
  fr_of (fun p hp => absurd (by cases p <;> assumption) hp)

theorem fr_readCommand {dz : Dev} {lz : List Part} (o e : Nat) (p : Path) (txid : Nat) (d : Dev) (h0 : .fresh ∈ lz) (h1 : .out ∈ lz) (h2 : .dict ∈ lz) (h3 : .access ∈ lz) (h4 : .tim ∈ lz) (h5 : .arch ∈ lz) (h6 : .flying ∈ lz) (h7 : .live ∈ lz) (h8 : .faults ∈ lz) (h9 : .net ∈ lz) (h10 : .host ∈ lz) (h11 : .lan ∈ lz) (h12 : .ecl ∈ lz) (h13 : .rings ∈ lz) (h14 : .ing ∈ lz) (h15 : .tab ∈ lz) (h16 : .eng ∈ lz) (h17 : .wave ∈ lz) (h18 : .pow ∈ lz) (h19 : .spi ∈ lz) :
    dz.changesOnly lz (readCommand o e p txid d) ↔ dz.changesOnly lz d :=
  fr_of (fun p hp => absurd (by cases p <;> assumption) hp)

theorem fr_hotWrite {dz : Dev} {lz : List Part} (o e v : Nat) (d : Dev) (h0 : .fresh ∈ lz) (h1 : .out ∈ lz) (h2 : .dict ∈ lz) (h3 : .access ∈ lz) (h4 : .tim ∈ lz) (h5 : .arch ∈ lz) (h6 : .flying ∈ lz) (h7 : .live ∈ lz) (h8 : .faults ∈ lz) (h9 : .net ∈ lz) (h10 : .host ∈ lz) (h11 : .lan ∈ lz) (h12 : .ecl ∈ lz) (h13 : .rings ∈ lz) (h14 : .ing ∈ lz) (h15 : .tab ∈ lz) (h16 : .eng ∈ lz) (h17 : .wave ∈ lz) (h18 : .pow ∈ lz) (h19 : .spi ∈ lz) :
    dz.changesOnly lz (hotWrite o e v d) ↔ dz.changesOnly lz d :=
  fr_of (fun p hp => absurd (by cases p <;> assumption) hp)

theorem fr_keepResponse {dz : Dev} {lz : List Part} (d : Dev) (r src : Nat) (body : List Byte) (h0 : .dict ∈ lz) (h1 : .rings ∈ lz) :
    dz.changesOnly lz (Dev.keepResponse d r src body) ↔ dz.changesOnly lz d := by
  simp only [Dev.keepResponse, iff_self, ite_self, fr_ite, fr_inc, fr_updRing, h0, h1]

theorem fr_takeBox {dz : Dev} {lz : List Part} (d : Dev) (r cycle : Nat) (box : List Byte) (h0 : .dict ∈ lz) (h1 : .rings ∈ lz) :
    dz.changesOnly lz (Dev.takeBox d r cycle box).2 ↔ dz.changesOnly lz d := by
  simp only [Dev.takeBox, iff_self, ite_self, fr_ite_snd, fr_inc, fr_updRing, h0, h1]

theorem fr_ringMailbox {dz : Dev} {lz : List Part} (r cycle : Nat) (box : List Byte) (d : Dev) (h0 : .fresh ∈ lz) (h1 : .out ∈ lz) (h2 : .dict ∈ lz) (h3 : .access ∈ lz) (h4 : .tim ∈ lz) (h5 : .arch ∈ lz) (h6 : .flying ∈ lz) (h7 : .live ∈ lz) (h8 : .faults ∈ lz) (h9 : .net ∈ lz) (h10 : .host ∈ lz) (h11 : .lan ∈ lz) (h12 : .ecl ∈ lz) (h13 : .rings ∈ lz) (h14 : .ing ∈ lz) (h15 : .tab ∈ lz) (h16 : .eng ∈ lz) (h17 : .wave ∈ lz) (h18 : .pow ∈ lz) (h19 : .spi ∈ lz) :
    dz.changesOnly lz (ringMailbox r cycle box d) ↔ dz.changesOnly lz d :=
  fr_of (fun p hp => absurd (by cases p <;> assumption) hp)

theorem fr_unsupportedRequest {dz : Dev} {lz : List Part} (memory : Bool) (d : Dev) (h0 : .out ∈ lz) (h1 : .dict ∈ lz) (h2 : .tim ∈ lz) (h3 : .flying ∈ lz) (h4 : .live ∈ lz) (h5 : .net ∈ lz) (h6 : .host ∈ lz) (h7 : .lan ∈ lz) :
    dz.changesOnly lz (unsupportedRequest memory d) ↔ dz.changesOnly lz d := by
  simp only [unsupportedRequest, iff_self, fr_inc, fr_logUnc, fr_setPcie, h0, h1, h2, h3, h4, h5, h6, h7]

theorem fr_linkTrained {dz : Dev} {lz : List Part} (speed width : Nat) (d : Dev) (h0 : .out ∈ lz) (h1 : .dict ∈ lz) (h2 : .tim ∈ lz) (h3 : .flying ∈ lz) (h4 : .live ∈ lz) (h5 : .net ∈ lz) (h6 : .host ∈ lz) (h7 : .lan ∈ lz) :
    dz.changesOnly lz (linkTrained speed width d) ↔ dz.changesOnly lz d := by
  simp only [linkTrained, iff_self, ite_self, fr_ite, fr_raise, fr_setLive, fr_setPcie, fr_showEndpoint, h0, h1, h2, h3, h4, h5, h6, h7]

theorem fr_l0sEntry {dz : Dev} {lz : List Part} (d : Dev) (h0 : .out ∈ lz) (h1 : .dict ∈ lz) (h2 : .tim ∈ lz) (h3 : .flying ∈ lz) (h4 : .live ∈ lz) (h5 : .net ∈ lz) (h6 : .host ∈ lz) (h7 : .lan ∈ lz) :
    dz.changesOnly lz (l0sEntry d) ↔ dz.changesOnly lz d := by
  simp only [l0sEntry, iff_self, ite_self, fr_ite, fr_setPcie, h6]

theorem fr_l1Entry {dz : Dev} {lz : List Part} (d : Dev) (h0 : .out ∈ lz) (h1 : .dict ∈ lz) (h2 : .tim ∈ lz) (h3 : .flying ∈ lz) (h4 : .live ∈ lz) (h5 : .net ∈ lz) (h6 : .host ∈ lz) (h7 : .lan ∈ lz) :
    dz.changesOnly lz (l1Entry d) ↔ dz.changesOnly lz d := by
  simp only [l1Entry, iff_self, ite_self, fr_ite, fr_setPcie, h6]

theorem fr_moderationEnd {dz : Dev} {lz : List Part} (v : Nat) (d : Dev) (h0 : .out ∈ lz) (h1 : .dict ∈ lz) (h2 : .tim ∈ lz) (h3 : .host ∈ lz) (h4 : .lan ∈ lz) :
    dz.changesOnly lz (moderationEnd v d) ↔ dz.changesOnly lz d := by
  simp only [moderationEnd, iff_self, ite_self, fr_ite, fr_at_, fr_sendMessage, fr_setPcie, h0, h1, h2, h3, h4]

theorem fr_intxPendClear {dz : Dev} {lz : List Part} (k mask : Nat) (d : Dev) (h0 : .out ∈ lz) (h1 : .host ∈ lz) :
    dz.changesOnly lz (intxPendClear k mask d) ↔ dz.changesOnly lz d := by
  simp only [intxPendClear, iff_self, fr_driveIntx, fr_setPcie, h0, h1]

theorem fr_vectorUnmask {dz : Dev} {lz : List Part} (v : Nat) (d : Dev) (h0 : .out ∈ lz) (h1 : .dict ∈ lz) (h2 : .host ∈ lz) (h3 : .lan ∈ lz) :
    dz.changesOnly lz (vectorUnmask v d) ↔ dz.changesOnly lz d := by
  simp only [vectorUnmask, iff_self, ite_self, fr_ite, fr_flushPending, fr_setPcie, h0, h1, h2, h3]

theorem fr_tagQuarantineEnd {dz : Dev} {lz : List Part} (d : Dev) (h0 : .out ∈ lz) (h1 : .tim ∈ lz) (h2 : .host ∈ lz) :
    dz.changesOnly lz (tagQuarantineEnd d) ↔ dz.changesOnly lz d := by
  unfold tagQuarantineEnd; repeat' (first | (simp only [iff_self, fr_at_, fr_issueReads, fr_setPcie, h0, h1, h2]; done) | (with_reducible rfl) | (with_reducible refine (fr_foldl (fun _ _ => ?_)).trans ?_) | (with_reducible refine (fr_foldl_snd (fun _ _ => ?_)).trans ?_) | (with_reducible refine Iff.trans (fr_pair (by assumption)) ?_) | split | simp only [eq_self, iff_self, implies_true, forall_const, ite_self, true_or, or_true, fr_ite, fr_ite_snd, fr_foldl, fr_foldl_snd, fr_at_, fr_issueReads, fr_setPcie, h0, h1, h2])

theorem fr_dlDown {dz : Dev} {lz : List Part} (d : Dev) (h0 : .out ∈ lz) (h1 : .dict ∈ lz) (h2 : .tim ∈ lz) (h3 : .flying ∈ lz) (h4 : .live ∈ lz) (h5 : .net ∈ lz) (h6 : .host ∈ lz) (h7 : .lan ∈ lz) :
    dz.changesOnly lz (dlDown d) ↔ dz.changesOnly lz d := by
  simp only [dlDown, iff_self, fr_freeze, fr_setPcie, fr_showEndpoint, h0, h1, h2, h3, h4, h5, h6, h7]

theorem fr_hotReset {dz : Dev} {lz : List Part} (d : Dev) (h0 : .out ∈ lz) (h1 : .dict ∈ lz) (h2 : .tim ∈ lz) (h3 : .flying ∈ lz) (h4 : .live ∈ lz) (h5 : .net ∈ lz) (h6 : .host ∈ lz) (h7 : .lan ∈ lz) :
    dz.changesOnly lz (hotReset d) ↔ dz.changesOnly lz d := by
  simp only [hotReset, iff_self, fr_freeze, h0, h1, h2, h3, h4, h5, h6, h7]

theorem fr_genSend {dz : Dev} {lz : List Part} (d : Dev) (g : Nat) (cls : Nat → List Byte → Nat) (make : Bool → List Byte) (quality : Bool) (h0 : .fresh ∈ lz) (h1 : .out ∈ lz) (h2 : .dict ∈ lz) (h3 : .access ∈ lz) (h4 : .net ∈ lz) (h5 : .host ∈ lz) (h6 : .lan ∈ lz) :
    dz.changesOnly lz (Dev.genSend d g cls make quality).2 ↔ dz.changesOnly lz d := by
  simp only [Dev.genSend, iff_self, implies_true, ite_self, fr_ite_snd, fr_foldl, fr_enqueue, fr_inc, fr_takeSeq, h1, h2, h4, h5, h6]

theorem fr_setPmu {dz : Dev} {lz : List Part} (d : Dev) (s : Nat) (x : PmuRun) (h0 : .ing ∈ lz) :
    dz.changesOnly lz (Dev.setPmu d s x) ↔ dz.changesOnly lz d := by
  simp only [Dev.setPmu, iff_self, fr_setIng, h0]

theorem fr_applyPmu {dz : Dev} {lz : List Part} (d : Dev) (s t : Nat) (h0 : .ing ∈ lz) :
    dz.changesOnly lz (Dev.applyPmu d s t) ↔ dz.changesOnly lz d := by
  simp only [Dev.applyPmu, iff_self, fr_setPmu, h0]

theorem fr_pmuFrameBuild {dz : Dev} {lz : List Part} (s : Nat) (d : Dev) (h0 : .fresh ∈ lz) (h1 : .out ∈ lz) (h2 : .dict ∈ lz) (h3 : .access ∈ lz) (h4 : .tim ∈ lz) (h5 : .net ∈ lz) (h6 : .host ∈ lz) (h7 : .lan ∈ lz) (h8 : .ing ∈ lz) :
    dz.changesOnly lz (pmuFrameBuild s d) ↔ dz.changesOnly lz d := by
  simp only [pmuFrameBuild, iff_self, ite_self, fr_ite, fr_add, fr_at_, fr_enqueue, fr_genSend, fr_inc, fr_setPmu, fr_takeFree, h0, h1, h2, h3, h4, h5, h6, h7, h8]

theorem fr_hubNew {dz : Dev} {lz : List Part} (d : Dev) (x : HubFrame) (h0 : .lan ∈ lz) :
    dz.changesOnly lz (Dev.hubNew d x).2 ↔ dz.changesOnly lz d := by
  simp only [Dev.hubNew, iff_self, fr_setLan, h0]

theorem fr_atPort {dz : Dev} {lz : List Part} (d : Dev) (p t : Nat) (h0 : .tim ∈ lz) :
    dz.changesOnly lz (Dev.atPort d p t) ↔ dz.changesOnly lz d := by
  simp only [Dev.atPort, iff_self, fr_at_, h0]

theorem fr_tetherPulse {dz : Dev} {lz : List Part} (d : Dev) (i : Nat) (err : Int) (h0 : .dict ∈ lz) (h1 : .arch ∈ lz) (h2 : .flying ∈ lz) (h3 : .live ∈ lz) :
    dz.changesOnly lz (Dev.tetherPulse d i err) ↔ dz.changesOnly lz d := by
  simp only [Dev.tetherPulse, iff_self, ite_self, fr_ite, fr_put, fr_raise, fr_setLive, fr_setTether, h0, h1, h2, h3]

theorem fr_startTx {dz : Dev} {lz : List Part} (d : Dev) (p : Nat) (n : TxNow) (t : Nat) (h0 : .lan ∈ lz) :
    dz.changesOnly lz (Dev.startTx d p n t) ↔ dz.changesOnly lz d := by
  simp only [Dev.startTx, iff_self, fr_setPort, h0]

theorem fr_tcAdd {dz : Dev} {lz : List Part} (d : Dev) (q k : Nat) (x : TcEntry) (h0 : .dict ∈ lz) (h1 : .net ∈ lz) :
    dz.changesOnly lz (Dev.tcAdd d q k x) ↔ dz.changesOnly lz d := by
  simp only [Dev.tcAdd, iff_self, ite_self, fr_ite, fr_inc, fr_setNet, h0, h1]

theorem fr_tcCorrect {dz : Dev} {lz : List Part} (d : Dev) (p q rx tx : Nat) (m : List Byte) (h0 : .dict ∈ lz) (h1 : .net ∈ lz) :
    dz.changesOnly lz (Dev.tcCorrect d p q rx tx m).2 ↔ dz.changesOnly lz d := by
  unfold Dev.tcCorrect; repeat' (first | (simp only [iff_self, ite_self, fr_ite_snd, fr_inc, fr_setNet, fr_tcAdd, h0, h1]; done) | (with_reducible rfl) | (with_reducible refine (fr_foldl (fun _ _ => ?_)).trans ?_) | (with_reducible refine (fr_foldl_snd (fun _ _ => ?_)).trans ?_) | (with_reducible refine Iff.trans (fr_pair (by assumption)) ?_) | split | simp only [fr_ite_snd])

theorem fr_launch {dz : Dev} {lz : List Part} (d : Dev) (p : Nat) (f : QFrame) (t : Nat) (h0 : .out ∈ lz) (h1 : .dict ∈ lz) (h2 : .flying ∈ lz) (h3 : .net ∈ lz) (h4 : .host ∈ lz) (h5 : .lan ∈ lz) :
    dz.changesOnly lz (Dev.launch d p f t) ↔ dz.changesOnly lz d := by
  unfold Dev.launch; repeat' (first | (simp only [iff_self, ite_self, fr_ite, fr_dropTx, fr_inc, fr_raise, fr_setPort, fr_startTx, fr_tcCorrect, h0, h1, h2, h3, h4, h5]; done) | (with_reducible rfl) | (with_reducible refine (fr_foldl (fun _ _ => ?_)).trans ?_) | (with_reducible refine (fr_foldl_snd (fun _ _ => ?_)).trans ?_) | (with_reducible refine Iff.trans (fr_pair (by assumption)) ?_) | split | simp only [eq_self, iff_self, implies_true, forall_const, ite_self, true_or, or_true, fr_ite, fr_ite_snd, fr_foldl, fr_foldl_snd, fr_dropTx, fr_inc, fr_raise, fr_setPort, fr_startTx, fr_tcCorrect, h0, h1, h2, h3, h4, h5])

theorem fr_dropOversize {dz : Dev} {lz : List Part} (d : Dev) (p c : Nat) (h0 : .out ∈ lz) (h1 : .dict ∈ lz) (h2 : .net ∈ lz) (h3 : .host ∈ lz) (h4 : .lan ∈ lz) :
    dz.changesOnly lz (Dev.dropOversize d p c) ↔ dz.changesOnly lz d := by
  simp only [Dev.dropOversize, iff_self, ite_self, fr_ite, fr_add, fr_dropWaitingTx, h0, h1, h2, h3, h4]

theorem fr_transmissionSelection {dz : Dev} {lz : List Part} (p : Nat) (delay : Nat) (d : Dev) (h0 : .out ∈ lz) (h1 : .dict ∈ lz) (h2 : .tim ∈ lz) (h3 : .flying ∈ lz) (h4 : .net ∈ lz) (h5 : .host ∈ lz) (h6 : .lan ∈ lz) :
    dz.changesOnly lz (transmissionSelection p delay d) ↔ dz.changesOnly lz d := by
  unfold transmissionSelection; repeat' (first | (simp only [iff_self, implies_true, ite_self, fr_ite, fr_foldl, fr_atPort, fr_dropOversize, fr_interrupt, fr_launch, fr_setPort, fr_startTx, h0, h1, h2, h3, h4, h5, h6]; done) | (with_reducible rfl) | (with_reducible refine (fr_foldl (fun _ _ => ?_)).trans ?_) | (with_reducible refine (fr_foldl_snd (fun _ _ => ?_)).trans ?_) | (with_reducible refine Iff.trans (fr_pair (by assumption)) ?_) | split | simp only [eq_self])

theorem fr_transmitComplete {dz : Dev} {lz : List Part} (p : Nat) (d : Dev) (h0 : .out ∈ lz) (h1 : .dict ∈ lz) (h2 : .tim ∈ lz) (h3 : .net ∈ lz) (h4 : .host ∈ lz) (h5 : .lan ∈ lz) :
    dz.changesOnly lz (transmitComplete p d) ↔ dz.changesOnly lz d := by
  unfold transmitComplete; repeat' (first | (simp only [iff_self, ite_self, fr_ite, fr_atPort, fr_emit, fr_freeCells, fr_hubCopy, fr_inc, fr_setPort, fr_tsqPush, fr_txOutcome, h0, h1, h2, h3, h4, h5]; done) | (with_reducible rfl) | (with_reducible refine (fr_foldl (fun _ _ => ?_)).trans ?_) | (with_reducible refine (fr_foldl_snd (fun _ _ => ?_)).trans ?_) | (with_reducible refine Iff.trans (fr_pair (by assumption)) ?_) | split | simp only [ite_self, fr_ite, fr_atPort, fr_inc, fr_setPort, h1, h2, h5])

theorem fr_setGates {dz : Dev} {lz : List Part} (d : Dev) (p : Nat) (pt : Point) (at_ : Nat) (h0 : .out ∈ lz) (h1 : .dict ∈ lz) (h2 : .flying ∈ lz) (h3 : .net ∈ lz) (h4 : .host ∈ lz) (h5 : .lan ∈ lz) :
    dz.changesOnly lz (Dev.setGates d p pt at_) ↔ dz.changesOnly lz d := by
  simp only [Dev.setGates, iff_self, ite_self, fr_ite, fr_inc, fr_lateSweep, fr_put, fr_raise, fr_setPort, h0, h1, h2, h3, h4, h5]

theorem fr_gateEntryStart {dz : Dev} {lz : List Part} (p : Nat) (d : Dev) (h0 : .out ∈ lz) (h1 : .dict ∈ lz) (h2 : .tim ∈ lz) (h3 : .flying ∈ lz) (h4 : .net ∈ lz) (h5 : .host ∈ lz) (h6 : .lan ∈ lz) :
    dz.changesOnly lz (gateEntryStart p d) ↔ dz.changesOnly lz d := by
  simp only [gateEntryStart, iff_self, ite_self, fr_ite, fr_atPort, fr_inc, fr_setGates, h0, h1, h2, h3, h4, h5, h6]

theorem fr_planSwitch {dz : Dev} {lz : List Part} (d : Dev) (p bank t : Nat) (h0 : .lan ∈ lz) :
    dz.changesOnly lz (Dev.planSwitch d p bank t) ↔ dz.changesOnly lz d := by
  simp only [Dev.planSwitch, iff_self, fr_setPort, h0]

theorem fr_bankSwitch {dz : Dev} {lz : List Part} (p : Nat) (d : Dev) (h0 : .out ∈ lz) (h1 : .dict ∈ lz) (h2 : .tim ∈ lz) (h3 : .flying ∈ lz) (h4 : .net ∈ lz) (h5 : .host ∈ lz) (h6 : .lan ∈ lz) :
    dz.changesOnly lz (bankSwitch p d) ↔ dz.changesOnly lz d := by
  unfold bankSwitch; repeat' (first | (simp only [iff_self, ite_self, fr_ite, fr_atPort, fr_inc, fr_put, fr_setGates, fr_setPort, h0, h1, h2, h3, h4, h5, h6]; done) | (with_reducible rfl) | (with_reducible refine (fr_foldl (fun _ _ => ?_)).trans ?_) | (with_reducible refine (fr_foldl_snd (fun _ _ => ?_)).trans ?_) | (with_reducible refine Iff.trans (fr_pair (by assumption)) ?_) | split | simp only [eq_self, iff_self, implies_true, forall_const, ite_self, true_or, or_true, fr_ite, fr_ite_snd, fr_foldl, fr_foldl_snd, fr_atPort, fr_inc, fr_put, fr_setGates, fr_setPort, h0, h1, h2, h3, h4, h5, h6])

theorem fr_orrerySramError {dz : Dev} {lz : List Part} (p : Nat) (d : Dev) (h0 : .flying ∈ lz) (h1 : .lan ∈ lz) :
    dz.changesOnly lz (orrerySramError p d) ↔ dz.changesOnly lz d := by
  simp only [orrerySramError, iff_self, fr_raise, fr_setPort, h0, h1]

theorem fr_holdRelease {dz : Dev} {lz : List Part} (d : Dev) (p op adv : Nat) (hold : Bool) (h0 : .tim ∈ lz) (h1 : .lan ∈ lz) :
    dz.changesOnly lz (Dev.holdRelease d p op adv hold) ↔ dz.changesOnly lz d := by
  unfold Dev.holdRelease; repeat' (first | (simp only [iff_self, ite_self, fr_ite, fr_atPort, fr_interrupt, fr_setPort, h0, h1]; done) | (with_reducible rfl) | (with_reducible refine (fr_foldl (fun _ _ => ?_)).trans ?_) | (with_reducible refine (fr_foldl_snd (fun _ _ => ?_)).trans ?_) | (with_reducible refine Iff.trans (fr_pair (by assumption)) ?_) | split | simp only [eq_self])

theorem fr_holdRequest {dz : Dev} {lz : List Part} (p : Nat) (d : Dev) (h0 : .tim ∈ lz) (h1 : .lan ∈ lz) :
    dz.changesOnly lz (holdRequest p d) ↔ dz.changesOnly lz d := by
  simp only [holdRequest, iff_self, fr_holdRelease, h0, h1]

theorem fr_releaseRequest {dz : Dev} {lz : List Part} (p : Nat) (d : Dev) (h0 : .tim ∈ lz) (h1 : .lan ∈ lz) :
    dz.changesOnly lz (releaseRequest p d) ↔ dz.changesOnly lz d := by
  simp only [releaseRequest, iff_self, fr_holdRelease, h0, h1]

theorem fr_preemptionVerifyTimer {dz : Dev} {lz : List Part} (p : Nat) (d : Dev) (h0 : .out ∈ lz) (h1 : .dict ∈ lz) (h2 : .lan ∈ lz) :
    dz.changesOnly lz (preemptionVerifyTimer p d) ↔ dz.changesOnly lz d := by
  simp only [preemptionVerifyTimer, iff_self, ite_self, fr_ite, fr_emit, fr_put, fr_setPort, h0, h1, h2]

theorem fr_verifyPacket {dz : Dev} {lz : List Part} (d : Dev) (p : Nat) (respond : Bool) (h0 : .out ∈ lz) (h1 : .dict ∈ lz) (h2 : .access ∈ lz) (h3 : .flying ∈ lz) (h4 : .rings ∈ lz) (h5 : .spi ∈ lz) :
    dz.changesOnly lz (Dev.verifyPacket d p respond) ↔ dz.changesOnly lz d := by
  simp only [Dev.verifyPacket, iff_self, ite_self, fr_ite, fr_emit, fr_put, h0, h1]

theorem fr_fragment {dz : Dev} {lz : List Part} (d : Dev) (p frame count : Nat) (first last good : Bool) (bs : List Byte) (t : Nat) (h0 : .dict ∈ lz) (h1 : .lan ∈ lz) :
    dz.changesOnly lz (Dev.fragment d p frame count first last good bs t).2 ↔ dz.changesOnly lz d := by
  unfold Dev.fragment; repeat' (first | (simp only [iff_self, ite_self, fr_ite, fr_ite_snd, fr_countPortDrop, fr_inc, fr_setPort, fr_updLedger, h0, h1]; done) | (with_reducible rfl) | (with_reducible refine (fr_foldl (fun _ _ => ?_)).trans ?_) | (with_reducible refine (fr_foldl_snd (fun _ _ => ?_)).trans ?_) | (with_reducible refine Iff.trans (fr_pair (by assumption)) ?_) | split | simp only [eq_self])

theorem fr_orreryPoll {dz : Dev} {lz : List Part} (b : Nat) (d : Dev) (h0 : .dict ∈ lz) (h1 : .tim ∈ lz) (h2 : .host ∈ lz) (h3 : .lan ∈ lz) :
    dz.changesOnly lz (orreryPoll b d) ↔ dz.changesOnly lz d := by
  unfold orreryPoll; repeat' (first | (simp only [iff_self, ite_self, fr_ite, fr_atPort, fr_setLan, fr_setQueue, h0, h1, h2, h3]; done) | (with_reducible rfl) | (with_reducible refine (fr_foldl (fun _ _ => ?_)).trans ?_) | (with_reducible refine (fr_foldl_snd (fun _ _ => ?_)).trans ?_) | (with_reducible refine Iff.trans (fr_pair (by assumption)) ?_) | split | simp only [fr_ite])

theorem fr_linkOff {dz : Dev} {lz : List Part} (d : Dev) (p : Nat) (h0 : .dict ∈ lz) (h1 : .tim ∈ lz) (h2 : .flying ∈ lz) (h3 : .live ∈ lz) (h4 : .net ∈ lz) :
    dz.changesOnly lz (Dev.linkOff d p) ↔ dz.changesOnly lz d := by
  simp only [Dev.linkOff, iff_self, ite_self, fr_ite, fr_linkGone, fr_raise, fr_setLive, h0, h1, h2, h3, h4]

theorem fr_linkDown {dz : Dev} {lz : List Part} (p : Nat) (d : Dev) (h0 : .out ∈ lz) (h1 : .dict ∈ lz) (h2 : .tim ∈ lz) (h3 : .flying ∈ lz) (h4 : .live ∈ lz) (h5 : .net ∈ lz) (h6 : .host ∈ lz) (h7 : .lan ∈ lz) :
    dz.changesOnly lz (linkDown p d) ↔ dz.changesOnly lz d := by
  simp only [linkDown, iff_self, ite_self, fr_ite, fr_linkOff, fr_portDown, h0, h1, h2, h3, h4, h5, h6, h7]

theorem fr_reclass {dz : Dev} {lz : List Part} (d : Dev) (p : Nat) (h0 : .lan ∈ lz) :
    dz.changesOnly lz (Dev.reclass d p) ↔ dz.changesOnly lz d := by
  simp only [Dev.reclass, iff_self, fr_setPort, h0]

theorem fr_portApplied {dz : Dev} {lz : List Part} (d : Dev) (o e t : Nat) (h0 : .out ∈ lz) (h1 : .dict ∈ lz) (h2 : .tim ∈ lz) (h3 : .flying ∈ lz) (h4 : .live ∈ lz) (h5 : .net ∈ lz) (h6 : .host ∈ lz) (h7 : .lan ∈ lz) :
    dz.changesOnly lz (Dev.portApplied d o e t) ↔ dz.changesOnly lz d := by
  simp only [Dev.portApplied, iff_self, ite_self, fr_ite, fr_beginVerify, fr_planSwitch, fr_put, fr_reclass, fr_setPort, fr_linkDown, h0, h1, h2, h3, h4, h5, h6, h7]

theorem fr_railOutOfRange {dz : Dev} {lz : List Part} (r mv : Nat) (d : Dev) (h0 : .dict ∈ lz) (h1 : .flying ∈ lz) (h2 : .live ∈ lz) :
    dz.changesOnly lz (railOutOfRange r mv d) ↔ dz.changesOnly lz d := by
  simp only [railOutOfRange, iff_self, ite_self, fr_ite, fr_inc, fr_put, fr_raise, fr_setLive, h0, h1, h2]

theorem fr_assertMainPor {dz : Dev} {lz : List Part} (d : Dev) (h0 : .fresh ∈ lz) (h1 : .out ∈ lz) (h2 : .dict ∈ lz) (h3 : .access ∈ lz) (h4 : .tim ∈ lz) (h5 : .arch ∈ lz) (h6 : .flying ∈ lz) (h7 : .live ∈ lz) (h8 : .faults ∈ lz) (h9 : .net ∈ lz) (h10 : .host ∈ lz) (h11 : .lan ∈ lz) (h12 : .ecl ∈ lz) (h13 : .rings ∈ lz) (h14 : .ing ∈ lz) (h15 : .tab ∈ lz) (h16 : .eng ∈ lz) (h17 : .wave ∈ lz) (h18 : .pow ∈ lz) (h19 : .spi ∈ lz) :
    dz.changesOnly lz (Dev.assertMainPor d) ↔ dz.changesOnly lz d :=
  fr_of (fun p hp => absurd (by cases p <;> assumption) hp)

theorem fr_mgtSpeed {dz : Dev} {lz : List Part} (d : Dev) (doze : Bool) (h0 : .dict ∈ lz) (h1 : .tim ∈ lz) (h2 : .flying ∈ lz) (h3 : .live ∈ lz) (h4 : .net ∈ lz) :
    dz.changesOnly lz (Dev.mgtSpeed d doze) ↔ dz.changesOnly lz d := by
  simp only [Dev.mgtSpeed, iff_self, ite_self, fr_ite, fr_linkOff, h0, h1, h2, h3, h4]

theorem fr_railUndervoltage {dz : Dev} {lz : List Part} (r mv : Nat) (d : Dev) (h0 : .fresh ∈ lz) (h1 : .out ∈ lz) (h2 : .dict ∈ lz) (h3 : .access ∈ lz) (h4 : .tim ∈ lz) (h5 : .arch ∈ lz) (h6 : .flying ∈ lz) (h7 : .live ∈ lz) (h8 : .faults ∈ lz) (h9 : .net ∈ lz) (h10 : .host ∈ lz) (h11 : .lan ∈ lz) (h12 : .ecl ∈ lz) (h13 : .rings ∈ lz) (h14 : .ing ∈ lz) (h15 : .tab ∈ lz) (h16 : .eng ∈ lz) (h17 : .wave ∈ lz) (h18 : .pow ∈ lz) (h19 : .spi ∈ lz) :
    dz.changesOnly lz (railUndervoltage r mv d) ↔ dz.changesOnly lz d :=
  fr_of (fun p hp => absurd (by cases p <;> assumption) hp)

theorem fr_sysclkLoss {dz : Dev} {lz : List Part} (d : Dev) (h0 : .dict ∈ lz) (h1 : .flying ∈ lz) (h2 : .live ∈ lz) :
    dz.changesOnly lz (sysclkLoss d) ↔ dz.changesOnly lz d := by
  simp only [sysclkLoss, iff_self, ite_self, fr_ite, fr_raise, fr_setLive, h0, h1, h2]

theorem fr_junctionRead {dz : Dev} {lz : List Part} (die : Nat) (t : Int) (d : Dev) (h0 : .dict ∈ lz) (h1 : .flying ∈ lz) (h2 : .live ∈ lz) :
    dz.changesOnly lz (junctionRead die t d) ↔ dz.changesOnly lz d := by
  simp only [junctionRead, iff_self, ite_self, fr_ite, fr_puti, fr_raise, fr_setLive, h0, h1, h2]

theorem fr_showFeed {dz : Dev} {lz : List Part} (d : Dev) (o mv b : Nat) (h0 : .dict ∈ lz) :
    dz.changesOnly lz (Dev.showFeed d o mv b) ↔ dz.changesOnly lz d := by
  simp only [Dev.showFeed, iff_self, fr_put, h0]

theorem fr_vbalALoss {dz : Dev} {lz : List Part} (mv : Nat) (d : Dev) (h0 : .dict ∈ lz) (h1 : .tim ∈ lz) (h2 : .flying ∈ lz) (h3 : .live ∈ lz) :
    dz.changesOnly lz (vbalALoss mv d) ↔ dz.changesOnly lz d := by
  simp only [vbalALoss, iff_self, ite_self, fr_ite, fr_at_, fr_inc, fr_put, fr_raise, fr_setLive, fr_showFeed, h0, h1, h2, h3]

theorem fr_vbalSwitchBack {dz : Dev} {lz : List Part} (mv : Nat) (d : Dev) (h0 : .dict ∈ lz) (h1 : .live ∈ lz) :
    dz.changesOnly lz (vbalSwitchBack mv d) ↔ dz.changesOnly lz d := by
  simp only [vbalSwitchBack, iff_self, ite_self, fr_ite, fr_put, fr_setLive, fr_showFeed, h0, h1]

theorem fr_vbalBLoss {dz : Dev} {lz : List Part} (mv : Nat) (d : Dev) (h0 : .dict ∈ lz) (h1 : .flying ∈ lz) (h2 : .live ∈ lz) :
    dz.changesOnly lz (vbalBLoss mv d) ↔ dz.changesOnly lz d := by
  simp only [vbalBLoss, iff_self, ite_self, fr_ite, fr_raise, fr_setLive, fr_showFeed, h0, h1, h2]

theorem fr_loadMirror {dz : Dev} {lz : List Part} (d : Dev) (h0 : .dict ∈ lz) (h1 : .pow ∈ lz) :
    dz.changesOnly lz (Dev.loadMirror d) ↔ dz.changesOnly lz d := by
  unfold Dev.loadMirror; repeat' (first | (simp only [iff_self, ite_self, fr_ite, fr_mirror, fr_put, fr_putB, fr_setPow, h0, h1]; done) | (with_reducible rfl) | (with_reducible refine (fr_foldl (fun _ _ => ?_)).trans ?_) | (with_reducible refine (fr_foldl_snd (fun _ _ => ?_)).trans ?_) | (with_reducible refine Iff.trans (fr_pair (by assumption)) ?_) | split | simp only [eq_self, iff_self, implies_true, forall_const, ite_self, true_or, or_true, fr_ite, fr_ite_snd, fr_foldl, fr_foldl_snd, fr_mirror, fr_put, fr_putB, fr_setPow, h0, h1])

theorem fr_acquire {dz : Dev} {lz : List Part} (d : Dev) (k : TkId) (off : Int) (h0 : .dict ∈ lz) (h1 : .tim ∈ lz) (h2 : .live ∈ lz) :
    dz.changesOnly lz (Dev.acquire d k off) ↔ dz.changesOnly lz d := by
  simp only [Dev.acquire, iff_self, ite_self, fr_ite, fr_put, fr_setLive, fr_setTim, fr_updTk, h0, h1, h2]

theorem fr_ballastPorRelease {dz : Dev} {lz : List Part} (sel a b : Nat) (d : Dev) (h0 : .dict ∈ lz) (h1 : .tim ∈ lz) (h2 : .flying ∈ lz) (h3 : .live ∈ lz) (h4 : .pow ∈ lz) :
    dz.changesOnly lz (ballastPorRelease sel a b d) ↔ dz.changesOnly lz d := by
  simp only [ballastPorRelease, iff_self, ite_self, fr_ite, fr_acquire, fr_loadMirror, fr_put, fr_raise, fr_setLive, fr_setPow, fr_showFeed, h0, h1, h2, h3, h4]

theorem fr_dozeEntryStage {dz : Dev} {lz : List Part} (d : Dev) (h0 : .fresh ∈ lz) (h1 : .out ∈ lz) (h2 : .dict ∈ lz) (h3 : .access ∈ lz) (h4 : .tim ∈ lz) (h5 : .arch ∈ lz) (h6 : .flying ∈ lz) (h7 : .live ∈ lz) (h8 : .faults ∈ lz) (h9 : .net ∈ lz) (h10 : .host ∈ lz) (h11 : .lan ∈ lz) (h12 : .ecl ∈ lz) (h13 : .rings ∈ lz) (h14 : .ing ∈ lz) (h15 : .tab ∈ lz) (h16 : .eng ∈ lz) (h17 : .wave ∈ lz) (h18 : .pow ∈ lz) (h19 : .spi ∈ lz) :
    dz.changesOnly lz (dozeEntryStage d) ↔ dz.changesOnly lz d :=
  fr_of (fun p hp => absurd (by cases p <;> assumption) hp)

theorem fr_thermalShutdown {dz : Dev} {lz : List Part} (d : Dev) (h0 : .dict ∈ lz) (h1 : .tab ∈ lz) (h2 : .pow ∈ lz) :
    dz.changesOnly lz (thermalShutdown d) ↔ dz.changesOnly lz d := by
  simp only [thermalShutdown, iff_self, ite_self, fr_ite, fr_dozeBegin, h0, h1, h2]

theorem fr_railsAbsentTimeout {dz : Dev} {lz : List Part} (d : Dev) (h0 : .dict ∈ lz) (h1 : .tim ∈ lz) (h2 : .flying ∈ lz) (h3 : .live ∈ lz) (h4 : .net ∈ lz) (h5 : .pow ∈ lz) :
    dz.changesOnly lz (railsAbsentTimeout d) ↔ dz.changesOnly lz d := by
  unfold railsAbsentTimeout; repeat' (first | (simp only [iff_self, ite_self, fr_ite, fr_at_, fr_inc, fr_mgtSpeed, fr_powerTo, fr_setPow, h0, h1, h2, h3, h4, h5]; done) | (with_reducible rfl) | (with_reducible refine (fr_foldl (fun _ _ => ?_)).trans ?_) | (with_reducible refine (fr_foldl_snd (fun _ _ => ?_)).trans ?_) | (with_reducible refine Iff.trans (fr_pair (by assumption)) ?_) | split | simp only [eq_self, iff_self, implies_true, forall_const, ite_self, true_or, or_true, fr_ite, fr_ite_snd, fr_foldl, fr_foldl_snd, fr_at_, fr_inc, fr_mgtSpeed, fr_powerTo, fr_setPow, h0, h1, h2, h3, h4, h5])

theorem fr_mainPorRelease {dz : Dev} {lz : List Part} (mv : List Nat) (d : Dev) (h0 : .dict ∈ lz) (h1 : .tim ∈ lz) (h2 : .flying ∈ lz) (h3 : .live ∈ lz) (h4 : .net ∈ lz) (h5 : .pow ∈ lz) :
    dz.changesOnly lz (mainPorRelease mv d) ↔ dz.changesOnly lz d := by
  simp only [mainPorRelease, iff_self, implies_true, ite_self, fr_ite, fr_foldl, fr_mgtSpeed, fr_powerTo, fr_put, fr_setPow, fr_setPower, h0, h1, h2, h3, h4, h5]

theorem fr_wakePin {dz : Dev} {lz : List Part} (low : Bool) (d : Dev) (h0 : .out ∈ lz) (h1 : .pow ∈ lz) :
    dz.changesOnly lz (wakePin low d) ↔ dz.changesOnly lz d := by
  simp only [wakePin, iff_self, ite_self, fr_ite, fr_setPow, fr_wake, h0, h1]

theorem fr_wakeTimeout {dz : Dev} {lz : List Part} (d : Dev) (h0 : .out ∈ lz) (h1 : .dict ∈ lz) (h2 : .tim ∈ lz) (h3 : .pow ∈ lz) :
    dz.changesOnly lz (wakeTimeout d) ↔ dz.changesOnly lz d := by
  unfold wakeTimeout; repeat' (first | (simp only [iff_self, ite_self, fr_ite, fr_at_, fr_emit, fr_put, fr_setPow, h0, h1, h2, h3]; done) | (with_reducible rfl) | (with_reducible refine (fr_foldl (fun _ _ => ?_)).trans ?_) | (with_reducible refine (fr_foldl_snd (fun _ _ => ?_)).trans ?_) | (with_reducible refine Iff.trans (fr_pair (by assumption)) ?_) | split | simp only [eq_self, iff_self, implies_true, forall_const, ite_self, true_or, or_true, fr_ite, fr_ite_snd, fr_foldl, fr_foldl_snd, fr_at_, fr_emit, fr_put, fr_setPow, h0, h1, h2, h3])

theorem fr_rstRecognised {dz : Dev} {lz : List Part} (d : Dev) (h0 : .fresh ∈ lz) (h1 : .out ∈ lz) (h2 : .dict ∈ lz) (h3 : .access ∈ lz) (h4 : .tim ∈ lz) (h5 : .arch ∈ lz) (h6 : .flying ∈ lz) (h7 : .live ∈ lz) (h8 : .faults ∈ lz) (h9 : .net ∈ lz) (h10 : .host ∈ lz) (h11 : .lan ∈ lz) (h12 : .ecl ∈ lz) (h13 : .rings ∈ lz) (h14 : .ing ∈ lz) (h15 : .tab ∈ lz) (h16 : .eng ∈ lz) (h17 : .wave ∈ lz) (h18 : .pow ∈ lz) (h19 : .spi ∈ lz) :
    dz.changesOnly lz (rstRecognised d) ↔ dz.changesOnly lz d :=
  fr_of (fun p hp => absurd (by cases p <;> assumption) hp)

theorem fr_rstPulseIgnored {dz : Dev} {lz : List Part} (d : Dev) (h0 : .dict ∈ lz) :
    dz.changesOnly lz (rstPulseIgnored d) ↔ dz.changesOnly lz d := by
  simp only [rstPulseIgnored, iff_self, fr_inc, h0]

theorem fr_rstRelease {dz : Dev} {lz : List Part} (d : Dev) (h0 : .out ∈ lz) (h1 : .dict ∈ lz) (h2 : .tim ∈ lz) (h3 : .pow ∈ lz) :
    dz.changesOnly lz (rstRelease d) ↔ dz.changesOnly lz d := by
  unfold rstRelease; repeat' (first | (simp only [iff_self, ite_self, fr_ite, fr_at_, fr_put, fr_setPow, fr_setPower, fr_wake, h0, h1, h2, h3]; done) | (with_reducible rfl) | (with_reducible refine (fr_foldl (fun _ _ => ?_)).trans ?_) | (with_reducible refine (fr_foldl_snd (fun _ _ => ?_)).trans ?_) | (with_reducible refine Iff.trans (fr_pair (by assumption)) ?_) | split | simp only [ite_self, fr_ite, fr_at_, fr_put, fr_setPow, fr_setPower, h1, h2, h3])

theorem fr_resetHeld {dz : Dev} {lz : List Part} (d : Dev) (h0 : .dict ∈ lz) (h1 : .tim ∈ lz) :
    dz.changesOnly lz (resetHeld d) ↔ dz.changesOnly lz d := by
  unfold resetHeld; repeat' (first | (simp only [iff_self, ite_self, fr_ite, fr_at_, fr_put, fr_setPower, h0, h1]; done) | (with_reducible rfl) | (with_reducible refine (fr_foldl (fun _ _ => ?_)).trans ?_) | (with_reducible refine (fr_foldl_snd (fun _ _ => ?_)).trans ?_) | (with_reducible refine Iff.trans (fr_pair (by assumption)) ?_) | split | simp only [eq_self, iff_self, implies_true, forall_const, ite_self, true_or, or_true, fr_ite, fr_ite_snd, fr_foldl, fr_foldl_snd, fr_at_, fr_put, fr_setPower, h0, h1])

theorem fr_testEnChange {dz : Dev} {lz : List Part} (high : Bool) (d : Dev) (h0 : .fresh ∈ lz) (h1 : .out ∈ lz) (h2 : .dict ∈ lz) (h3 : .access ∈ lz) (h4 : .tim ∈ lz) (h5 : .arch ∈ lz) (h6 : .flying ∈ lz) (h7 : .live ∈ lz) (h8 : .faults ∈ lz) (h9 : .net ∈ lz) (h10 : .host ∈ lz) (h11 : .lan ∈ lz) (h12 : .ecl ∈ lz) (h13 : .rings ∈ lz) (h14 : .ing ∈ lz) (h15 : .tab ∈ lz) (h16 : .eng ∈ lz) (h17 : .wave ∈ lz) (h18 : .pow ∈ lz) (h19 : .spi ∈ lz) :
    dz.changesOnly lz (testEnChange high d) ↔ dz.changesOnly lz d :=
  fr_of (fun p hp => absurd (by cases p <;> assumption) hp)

theorem fr_detachAll {dz : Dev} {lz : List Part} (d : Dev) (h0 : .dict ∈ lz) (h1 : .flying ∈ lz) (h2 : .live ∈ lz) (h3 : .host ∈ lz) :
    dz.changesOnly lz (Dev.detachAll d) ↔ dz.changesOnly lz d := by
  simp only [Dev.detachAll, iff_self, implies_true, fr_foldl, fr_resetCore, fr_setQueue, fr_showDemand, h0, h1, h2, h3]

theorem fr_perstAssert {dz : Dev} {lz : List Part} (d : Dev) (h0 : .out ∈ lz) (h1 : .dict ∈ lz) (h2 : .tim ∈ lz) (h3 : .flying ∈ lz) (h4 : .live ∈ lz) (h5 : .net ∈ lz) (h6 : .host ∈ lz) (h7 : .lan ∈ lz) (h8 : .pow ∈ lz) :
    dz.changesOnly lz (perstAssert d) ↔ dz.changesOnly lz d := by
  simp only [perstAssert, iff_self, implies_true, ite_self, fr_ite, fr_foldl, fr_detachAll, fr_purgeQueue, fr_setLive, fr_setPcie, fr_setPow, fr_showEndpoint, h0, h1, h2, h3, h4, h5, h6, h7, h8]

theorem fr_perstRelease {dz : Dev} {lz : List Part} (d : Dev) (h0 : .out ∈ lz) (h1 : .dict ∈ lz) (h2 : .tim ∈ lz) (h3 : .flying ∈ lz) (h4 : .live ∈ lz) (h5 : .net ∈ lz) (h6 : .host ∈ lz) (h7 : .lan ∈ lz) :
    dz.changesOnly lz (perstRelease d) ↔ dz.changesOnly lz d := by
  simp only [perstRelease, iff_self, ite_self, fr_ite, fr_setPcie, fr_showEndpoint, h0, h1, h2, h3, h4, h5, h6, h7]

theorem fr_endpointReady {dz : Dev} {lz : List Part} (d : Dev) (h0 : .host ∈ lz) (h1 : .pow ∈ lz) :
    dz.changesOnly lz (endpointReady d) ↔ dz.changesOnly lz d := by
  simp only [endpointReady, iff_self, ite_self, fr_ite, fr_setPcie, fr_setPow, h0, h1]

theorem fr_showClass {dz : Dev} {lz : List Part} (d : Dev) (h0 : .dict ∈ lz) :
    dz.changesOnly lz (Dev.showClass d) ↔ dz.changesOnly lz d := by
  simp only [Dev.showClass, iff_self, implies_true, fr_foldl, fr_put, h0]

theorem fr_leaveHoldover {dz : Dev} {lz : List Part} (d : Dev) (k : TkId) (h0 : .dict ∈ lz) (h1 : .tim ∈ lz) :
    dz.changesOnly lz (Dev.leaveHoldover d k) ↔ dz.changesOnly lz d := by
  simp only [Dev.leaveHoldover, iff_self, ite_self, fr_ite, fr_put, fr_updTk, h0, h1]

theorem fr_arbUndecided {dz : Dev} {lz : List Part} (d : Dev) (h0 : .dict ∈ lz) (h1 : .tim ∈ lz) (h2 : .flying ∈ lz) (h3 : .live ∈ lz) :
    dz.changesOnly lz (Dev.arbUndecided d) ↔ dz.changesOnly lz d := by
  simp only [Dev.arbUndecided, iff_self, ite_self, fr_ite, fr_raise, fr_setLive, fr_setTim, h0, h1, h2, h3]

theorem fr_demote {dz : Dev} {lz : List Part} (d : Dev) (k : TkId) (reason : Nat) (h0 : .dict ∈ lz) (h1 : .tim ∈ lz) (h2 : .flying ∈ lz) :
    dz.changesOnly lz (Dev.demote d k reason) ↔ dz.changesOnly lz d := by
  simp only [Dev.demote, iff_self, ite_self, fr_ite, fr_inc, fr_put, fr_raise, fr_setTim, fr_updTk, h0, h1, h2]

theorem fr_arbitrate {dz : Dev} {lz : List Part} (d : Dev) (elapsed : Nat) (h0 : .dict ∈ lz) (h1 : .tim ∈ lz) (h2 : .flying ∈ lz) (h3 : .live ∈ lz) :
    dz.changesOnly lz (Dev.arbitrate d elapsed) ↔ dz.changesOnly lz d := by
  unfold Dev.arbitrate; repeat' (first | (simp only [iff_self, ite_self, fr_ite, fr_arbUndecided, fr_demote, fr_setLive, fr_setTim, h0, h1, h2, h3]; done) | (with_reducible rfl) | (with_reducible refine (fr_foldl (fun _ _ => ?_)).trans ?_) | (with_reducible refine (fr_foldl_snd (fun _ _ => ?_)).trans ?_) | (with_reducible refine Iff.trans (fr_pair (by assumption)) ?_) | split | simp only [eq_self, iff_self, implies_true, forall_const, ite_self, true_or, or_true, fr_ite, fr_ite_snd, fr_foldl, fr_foldl_snd, fr_arbUndecided, fr_demote, fr_setLive, fr_setTim, h0, h1, h2, h3])

theorem fr_refreshLimit {dz : Dev} {lz : List Part} (d : Dev) (h0 : .dict ∈ lz) (h1 : .tim ∈ lz) (h2 : .live ∈ lz) :
    dz.changesOnly lz (Dev.refreshLimit d) ↔ dz.changesOnly lz d := by
  unfold Dev.refreshLimit; repeat' (first | (simp only [iff_self, ite_self, fr_ite, fr_setLive, fr_setTim, h0, h1, h2]; done) | (with_reducible rfl) | (with_reducible refine (fr_foldl (fun _ _ => ?_)).trans ?_) | (with_reducible refine (fr_foldl_snd (fun _ _ => ?_)).trans ?_) | (with_reducible refine Iff.trans (fr_pair (by assumption)) ?_) | split | simp only [eq_self, iff_self, implies_true, forall_const, ite_self, true_or, or_true, fr_ite, fr_ite_snd, fr_foldl, fr_foldl_snd, fr_setLive, fr_setTim, h0, h1, h2])

theorem fr_reportServo {dz : Dev} {lz : List Part} (d : Dev) (k : TkId) (h0 : .dict ∈ lz) :
    dz.changesOnly lz (Dev.reportServo d k) ↔ dz.changesOnly lz d := by
  simp only [Dev.reportServo, iff_self, fr_puti, h0]

theorem fr_servoUpdate {dz : Dev} {lz : List Part} (d : Dev) (k : TkId) (theta : Int) (at_ : Nat) (h0 : .dict ∈ lz) (h1 : .tim ∈ lz) :
    dz.changesOnly lz (Dev.servoUpdate d k theta at_) ↔ dz.changesOnly lz d := by
  simp only [Dev.servoUpdate, iff_self, ite_self, fr_ite, fr_put, fr_reportServo, fr_updTk, h0, h1]

theorem fr_refEvent {dz : Dev} {lz : List Part} (d : Dev) (r : Nat) (theta : Int) (at_ refTime : Nat) (h0 : .dict ∈ lz) (h1 : .tim ∈ lz) (h2 : .flying ∈ lz) (h3 : .live ∈ lz) :
    dz.changesOnly lz (Dev.refEvent d r theta at_ refTime) ↔ dz.changesOnly lz d := by
  simp only [Dev.refEvent, iff_self, ite_self, fr_ite, fr_arbitrate, fr_put, fr_refreshLimit, fr_servoUpdate, fr_setRef, h0, h1, h2, h3]

theorem fr_ptpUtc {dz : Dev} {lz : List Part} (d : Dev) (h0 : .tim ∈ lz) :
    dz.changesOnly lz (Dev.ptpUtc d) ↔ dz.changesOnly lz d := by
  simp only [Dev.ptpUtc, iff_self, ite_self, fr_ite, fr_resolveUtc, fr_setTim, h0]

theorem fr_ptpMeasure {dz : Dev} {lz : List Part} (d : Dev) (i p : Nat) (m : Int) (t : Nat) (h0 : .dict ∈ lz) (h1 : .tim ∈ lz) (h2 : .flying ∈ lz) (h3 : .live ∈ lz) (h4 : .net ∈ lz) :
    dz.changesOnly lz (Dev.ptpMeasure d i p m t) ↔ dz.changesOnly lz d := by
  simp only [Dev.ptpMeasure, iff_self, ite_self, fr_ite, fr_leaveHoldover, fr_puti, fr_refEvent, fr_setNet, fr_setPtp, fr_setRef, fr_showPtpRef, fr_ptpUtc, fr_showClass, h0, h1, h2, h3, h4]

theorem fr_ptpDelay {dz : Dev} {lz : List Part} (d : Dev) (i p : Nat) (delay : Int) (h0 : .dict ∈ lz) (h1 : .net ∈ lz) :
    dz.changesOnly lz (Dev.ptpDelay d i p delay) ↔ dz.changesOnly lz d := by
  simp only [Dev.ptpDelay, iff_self, ite_self, fr_ite, fr_puti, fr_setNet, fr_setPtp, h0, h1]

theorem fr_ptpAnnounce {dz : Dev} {lz : List Part} (d : Dev) (i p : Nat) (m : List Byte) (h0 : .dict ∈ lz) (h1 : .tim ∈ lz) (h2 : .flying ∈ lz) (h3 : .net ∈ lz) :
    dz.changesOnly lz (Dev.ptpAnnounce d i p m) ↔ dz.changesOnly lz d := by
  simp only [Dev.ptpAnnounce, iff_self, ite_self, fr_ite, fr_bmca, fr_ptpInvalid, fr_ptpUtc, fr_setPtp, fr_showClass, h0, h1, h2, h3]

theorem fr_ptpTerminate {dz : Dev} {lz : List Part} (d : Dev) (i p : Nat) (m : List Byte) (t : Nat) (h0 : .dict ∈ lz) (h1 : .tim ∈ lz) (h2 : .flying ∈ lz) (h3 : .live ∈ lz) (h4 : .net ∈ lz) :
    dz.changesOnly lz (Dev.ptpTerminate d i p m t) ↔ dz.changesOnly lz d := by
  unfold Dev.ptpTerminate; repeat' (first | (simp only [iff_self, ite_self, fr_ite, fr_ptpAnnounce, fr_ptpDelay, fr_ptpMeasure, fr_setPtp, h0, h1, h2, h3, h4]; done) | (with_reducible rfl) | (with_reducible refine (fr_foldl (fun _ _ => ?_)).trans ?_) | (with_reducible refine (fr_foldl_snd (fun _ _ => ?_)).trans ?_) | (with_reducible refine Iff.trans (fr_pair (by assumption)) ?_) | split | simp only [eq_self])

theorem fr_ptpReceive {dz : Dev} {lz : List Part} (p : Nat) (m : List Byte) (t : Nat) (d : Dev) (h0 : .dict ∈ lz) (h1 : .tim ∈ lz) (h2 : .flying ∈ lz) (h3 : .live ∈ lz) (h4 : .net ∈ lz) :
    dz.changesOnly lz (ptpReceive p m t d) ↔ dz.changesOnly lz d := by
  unfold ptpReceive; repeat' (first | (simp only [iff_self, ite_self, fr_ite, fr_at_, fr_inc, fr_ptpTerminate, h0, h1, h2, h3, h4]; done) | (with_reducible rfl) | (with_reducible refine (fr_foldl (fun _ _ => ?_)).trans ?_) | (with_reducible refine (fr_foldl_snd (fun _ _ => ?_)).trans ?_) | (with_reducible refine Iff.trans (fr_pair (by assumption)) ?_) | split | simp only [eq_self])

theorem fr_announceTimeout {dz : Dev} {lz : List Part} (i p : Nat) (d : Dev) (h0 : .dict ∈ lz) (h1 : .tim ∈ lz) (h2 : .flying ∈ lz) (h3 : .net ∈ lz) :
    dz.changesOnly lz (announceTimeout i p d) ↔ dz.changesOnly lz d := by
  simp only [announceTimeout, iff_self, ite_self, fr_ite, fr_put, fr_bmca, fr_ptpInvalid, fr_setPtp, fr_showClass, h0, h1, h2, h3]

theorem fr_syncMissed {dz : Dev} {lz : List Part} (i p : Nat) (d : Dev) (h0 : .dict ∈ lz) (h1 : .tim ∈ lz) (h2 : .flying ∈ lz) (h3 : .net ∈ lz) :
    dz.changesOnly lz (syncMissed i p d) ↔ dz.changesOnly lz d := by
  simp only [syncMissed, iff_self, ite_self, fr_ite, fr_ptpInvalid, fr_setPtp, h0, h1, h2, h3]

theorem fr_ptpEmit {dz : Dev} {lz : List Part} (d : Dev) (i p kind : Nat) (m : List Byte) (t : Nat) (h0 : .out ∈ lz) :
    dz.changesOnly lz (Dev.ptpEmit d i p kind m t) ↔ dz.changesOnly lz d := by
  simp only [Dev.ptpEmit, iff_self, ite_self, fr_ite, fr_emit, h0]

theorem fr_ptpSend {dz : Dev} {lz : List Part} (i p kind t : Nat) (d : Dev) (h0 : .out ∈ lz) (h1 : .tim ∈ lz) (h2 : .net ∈ lz) :
    dz.changesOnly lz (ptpSend i p kind t d) ↔ dz.changesOnly lz d := by
  unfold ptpSend; repeat' (first | (simp only [iff_self, ite_self, fr_ite, fr_at_, fr_ptpEmit, fr_setPtp, h0, h1, h2]; done) | (with_reducible rfl) | (with_reducible refine (fr_foldl (fun _ _ => ?_)).trans ?_) | (with_reducible refine (fr_foldl_snd (fun _ _ => ?_)).trans ?_) | (with_reducible refine Iff.trans (fr_pair (by assumption)) ?_) | split | simp only [fr_ite, fr_at_, h1])

theorem fr_tcExpire {dz : Dev} {lz : List Part} (q : Nat) (d : Dev) (h0 : .tim ∈ lz) (h1 : .net ∈ lz) :
    dz.changesOnly lz (tcExpire q d) ↔ dz.changesOnly lz d := by
  unfold tcExpire; repeat' (first | (simp only [iff_self, fr_at_, fr_setNet, h0, h1]; done) | (with_reducible rfl) | (with_reducible refine (fr_foldl (fun _ _ => ?_)).trans ?_) | (with_reducible refine (fr_foldl_snd (fun _ _ => ?_)).trans ?_) | (with_reducible refine Iff.trans (fr_pair (by assumption)) ?_) | split | simp only [eq_self, iff_self, implies_true, forall_const, ite_self, true_or, or_true, fr_ite, fr_ite_snd, fr_foldl, fr_foldl_snd, fr_at_, fr_setNet, h0, h1])

theorem fr_tsqRead {dz : Dev} {lz : List Part} (d : Dev) (p : Nat) (h0 : .net ∈ lz) :
    dz.changesOnly lz (Dev.tsqRead d p) ↔ dz.changesOnly lz d := by
  unfold Dev.tsqRead; repeat' (first | (simp only [iff_self, fr_setTsq, h0]; done) | (with_reducible rfl) | (with_reducible refine (fr_foldl (fun _ _ => ?_)).trans ?_) | (with_reducible refine (fr_foldl_snd (fun _ _ => ?_)).trans ?_) | (with_reducible refine Iff.trans (fr_pair (by assumption)) ?_) | split | simp only [eq_self])

theorem fr_applyPeriod {dz : Dev} {lz : List Part} (d : Dev) (t : Nat) (h0 : .tab ∈ lz) :
    dz.changesOnly lz (Dev.applyPeriod d t) ↔ dz.changesOnly lz d := by
  simp only [Dev.applyPeriod, iff_self, ite_self, fr_ite, fr_setTab, h0]

theorem fr_epochClose {dz : Dev} {lz : List Part} (d : Dev) (h0 : .dict ∈ lz) (h1 : .access ∈ lz) (h2 : .tim ∈ lz) (h3 : .flying ∈ lz) (h4 : .net ∈ lz) (h5 : .lan ∈ lz) (h6 : .rings ∈ lz) (h7 : .ing ∈ lz) (h8 : .tab ∈ lz) (h9 : .eng ∈ lz) (h10 : .wave ∈ lz) :
    dz.changesOnly lz (epochClose d) ↔ dz.changesOnly lz d := by
  simp only [epochClose, eq_self, iff_self, ite_self, or_true, fr_ite, fr_rec_obj, fr_at_, fr_expireActs, fr_newLedgers, fr_retireImages, fr_setTab, fr_ingestCutoff, h0, h1, h2, h3, h4, h5, h6, h7, h8, h9, h10]

theorem fr_regionCloseReport {dz : Dev} {lz : List Part} (g : Nat) (d : Dev) (h0 : .tim ∈ lz) (h1 : .tab ∈ lz) :
    dz.changesOnly lz (regionCloseReport g d) ↔ dz.changesOnly lz d := by
  unfold regionCloseReport; repeat' (first | (simp only [iff_self, ite_self, fr_ite, fr_at_, fr_setTab, h0, h1]; done) | (with_reducible rfl) | (with_reducible refine (fr_foldl (fun _ _ => ?_)).trans ?_) | (with_reducible refine (fr_foldl_snd (fun _ _ => ?_)).trans ?_) | (with_reducible refine Iff.trans (fr_pair (by assumption)) ?_) | split | simp only [eq_self, iff_self, implies_true, forall_const, ite_self, true_or, or_true, fr_ite, fr_ite_snd, fr_foldl, fr_foldl_snd, fr_at_, fr_setTab, h0, h1])

theorem fr_overrunQueue {dz : Dev} {lz : List Part} (d : Dev) (q : Nat) (h0 : .fresh ∈ lz) (h1 : .out ∈ lz) (h2 : .dict ∈ lz) (h3 : .flying ∈ lz) (h4 : .host ∈ lz) (h5 : .lan ∈ lz) :
    dz.changesOnly lz (Dev.overrunQueue d q) ↔ dz.changesOnly lz d := by
  simp only [Dev.overrunQueue, iff_self, implies_true, ite_self, fr_ite, fr_foldl, fr_abandonBlock, fr_inc, fr_raise, fr_setQueue, fr_writeBlock, h0, h1, h2, h3, h4, h5]

theorem fr_exportEpoch {dz : Dev} {lz : List Part} (d : Dev) (p : PubEpoch) (h0 : .fresh ∈ lz) (h1 : .out ∈ lz) (h2 : .dict ∈ lz) (h3 : .tim ∈ lz) (h4 : .flying ∈ lz) (h5 : .host ∈ lz) (h6 : .lan ∈ lz) (h7 : .tab ∈ lz) :
    dz.changesOnly lz (Dev.exportEpoch d p) ↔ dz.changesOnly lz d := by
  simp only [Dev.exportEpoch, iff_self, implies_true, fr_foldl, fr_pushBlock, fr_setTab, h0, h1, h2, h4, h5, h6, h7]

theorem fr_applyList {dz : Dev} {lz : List Part} (d : Dev) (l : Nat) (h0 : .tab ∈ lz) :
    dz.changesOnly lz (Dev.applyList d l) ↔ dz.changesOnly lz d := by
  simp only [Dev.applyList, iff_self, ite_self, fr_ite, fr_setTab, h0]

theorem fr_setRec {dz : Dev} {lz : List Part} (d : Dev) (i : Nat) (x : SigRec) (h0 : .tab ∈ lz) :
    dz.changesOnly lz (Dev.setRec d i x) ↔ dz.changesOnly lz d := by
  simp only [Dev.setRec, iff_self, fr_setTab, h0]

theorem fr_writeUpd {dz : Dev} {lz : List Part} (d : Dev) (source e : Nat) (b : List Byte) (h0 : .dict ∈ lz) (h1 : .tab ∈ lz) :
    dz.changesOnly lz (Dev.writeUpd d source e b) ↔ dz.changesOnly lz d := by
  simp only [Dev.writeUpd, iff_self, ite_self, fr_ite, fr_inc, fr_setRec, h0, h1]

theorem fr_releaseUpdates {dz : Dev} {lz : List Part} (d : Dev) (n : Nat) (h0 : .dict ∈ lz) (h1 : .tab ∈ lz) :
    dz.changesOnly lz (Dev.releaseUpdates d n) ↔ dz.changesOnly lz d := by
  unfold Dev.releaseUpdates; repeat' (first | (simp only [iff_self, implies_true, fr_foldl, fr_setRegion, fr_writeUpd, h0, h1]; done) | (with_reducible rfl) | (with_reducible refine (fr_foldl (fun _ _ => ?_)).trans ?_) | (with_reducible refine (fr_foldl_snd (fun _ _ => ?_)).trans ?_) | (with_reducible refine Iff.trans (fr_pair (by assumption)) ?_) | split | simp only [eq_self, iff_self, implies_true, forall_const, ite_self, true_or, or_true, fr_ite, fr_ite_snd, fr_foldl, fr_foldl_snd, fr_setRegion, fr_writeUpd, h0, h1])

theorem fr_lapsePin {dz : Dev} {lz : List Part} (d : Dev) (h0 : .tab ∈ lz) :
    dz.changesOnly lz (Dev.lapsePin d) ↔ dz.changesOnly lz d := by
  unfold Dev.lapsePin; repeat' (first | (simp only [iff_self, fr_setTab, h0]; done) | (with_reducible rfl) | (with_reducible refine (fr_foldl (fun _ _ => ?_)).trans ?_) | (with_reducible refine (fr_foldl_snd (fun _ _ => ?_)).trans ?_) | (with_reducible refine Iff.trans (fr_pair (by assumption)) ?_) | split | simp only [eq_self, iff_self, implies_true, forall_const, ite_self, true_or, or_true, fr_ite, fr_ite_snd, fr_foldl, fr_foldl_snd, fr_setTab, h0])

theorem fr_pubLapse {dz : Dev} {lz : List Part} (d : Dev) (h0 : .tab ∈ lz) :
    dz.changesOnly lz (Dev.pubLapse d) ↔ dz.changesOnly lz d := by
  unfold Dev.pubLapse; repeat' (first | (simp only [iff_self, ite_self, fr_ite, fr_lapsePin, h0]; done) | (with_reducible rfl) | (with_reducible refine (fr_foldl (fun _ _ => ?_)).trans ?_) | (with_reducible refine (fr_foldl_snd (fun _ _ => ?_)).trans ?_) | (with_reducible refine Iff.trans (fr_pair (by assumption)) ?_) | split | simp only [eq_self, iff_self, implies_true, forall_const, ite_self, true_or, or_true, fr_ite, fr_ite_snd, fr_foldl, fr_foldl_snd, fr_lapsePin, h0])

theorem fr_freePoison {dz : Dev} {lz : List Part} (d : Dev) (g : Nat) (h0 : .dict ∈ lz) (h1 : .tab ∈ lz) :
    dz.changesOnly lz (Dev.freePoison d g) ↔ dz.changesOnly lz d := by
  unfold Dev.freePoison; repeat' (first | (simp only [iff_self, fr_put, fr_setRegion, h0, h1]; done) | (with_reducible rfl) | (with_reducible refine (fr_foldl (fun _ _ => ?_)).trans ?_) | (with_reducible refine (fr_foldl_snd (fun _ _ => ?_)).trans ?_) | (with_reducible refine Iff.trans (fr_pair (by assumption)) ?_) | split | simp only [eq_self, iff_self, implies_true, forall_const, ite_self, true_or, or_true, fr_ite, fr_ite_snd, fr_foldl, fr_foldl_snd, fr_put, fr_setRegion, h0, h1])

theorem fr_epochPublish {dz : Dev} {lz : List Part} (d : Dev) (h0 : .fresh ∈ lz) (h1 : .out ∈ lz) (h2 : .dict ∈ lz) (h3 : .tim ∈ lz) (h4 : .flying ∈ lz) (h5 : .faults ∈ lz) (h6 : .host ∈ lz) (h7 : .lan ∈ lz) (h8 : .tab ∈ lz) :
    dz.changesOnly lz (epochPublish d) ↔ dz.changesOnly lz d := by
  unfold epochPublish; repeat' (first | (simp only [iff_self, implies_true, ite_self, fr_ite, fr_foldl, fr_at_, fr_exportEpoch, fr_freePoison, fr_logImbalance, fr_overrunQueue, fr_pubLapse, fr_put, fr_putB, fr_raise, fr_releaseUpdates, fr_setTab, h0, h1, h2, h3, h4, h5, h6, h7, h8]; done) | (with_reducible rfl) | (with_reducible refine (fr_foldl (fun _ _ => ?_)).trans ?_) | (with_reducible refine (fr_foldl_snd (fun _ _ => ?_)).trans ?_) | (with_reducible refine Iff.trans (fr_pair (by assumption)) ?_) | split | simp only [eq_self, iff_self, implies_true, forall_const, ite_self, true_or, or_true, fr_ite, fr_ite_snd, fr_foldl, fr_foldl_snd, fr_at_, fr_exportEpoch, fr_freePoison, fr_logImbalance, fr_overrunQueue, fr_pubLapse, fr_put, fr_putB, fr_raise, fr_releaseUpdates, fr_setTab, h0, h1, h2, h3, h4, h5, h6, h7, h8])

theorem fr_showRates {dz : Dev} {lz : List Part} (d : Dev) (h0 : .dict ∈ lz) :
    dz.changesOnly lz (Dev.showRates d) ↔ dz.changesOnly lz d := by
  simp only [Dev.showRates, iff_self, implies_true, fr_foldl, fr_put, h0]

theorem fr_rxHoldTimeout {dz : Dev} {lz : List Part} (q : Nat) (d : Dev) (h0 : .dict ∈ lz) (h1 : .tim ∈ lz) (h2 : .host ∈ lz) :
    dz.changesOnly lz (rxHoldTimeout q d) ↔ dz.changesOnly lz d := by
  unfold rxHoldTimeout; repeat' (first | (simp only [iff_self, fr_at_, fr_countDrop, fr_freeCells, fr_setQueue, h0, h1, h2]; done) | (with_reducible rfl) | (with_reducible refine (fr_foldl (fun _ _ => ?_)).trans ?_) | (with_reducible refine (fr_foldl_snd (fun _ _ => ?_)).trans ?_) | (with_reducible refine Iff.trans (fr_pair (by assumption)) ?_) | split | simp only [eq_self])

theorem fr_queueAttach {dz : Dev} {lz : List Part} (q : Nat) (d : Dev) (h0 : .dict ∈ lz) (h1 : .flying ∈ lz) (h2 : .live ∈ lz) (h3 : .host ∈ lz) :
    dz.changesOnly lz (queueAttach q d) ↔ dz.changesOnly lz d := by
  simp only [queueAttach, iff_self, ite_self, fr_ite, fr_setQueue, fr_showDemand, h0, h1, h2, h3]

theorem fr_queueDetachComplete {dz : Dev} {lz : List Part} (q : Nat) (d : Dev) (h0 : .out ∈ lz) (h1 : .dict ∈ lz) (h2 : .flying ∈ lz) (h3 : .live ∈ lz) (h4 : .host ∈ lz) (h5 : .lan ∈ lz) :
    dz.changesOnly lz (queueDetachComplete q d) ↔ dz.changesOnly lz d := by
  simp only [queueDetachComplete, iff_self, ite_self, fr_ite, fr_announce, fr_setQueue, fr_showDemand, h0, h1, h2, h3, h4, h5]

theorem fr_detachCore {dz : Dev} {lz : List Part} (d : Dev) (q : Nat) (h0 : .out ∈ lz) (h1 : .dict ∈ lz) (h2 : .flying ∈ lz) (h3 : .live ∈ lz) (h4 : .host ∈ lz) (h5 : .lan ∈ lz) :
    dz.changesOnly lz (Dev.detachCore d q) ↔ dz.changesOnly lz d := by
  simp only [Dev.detachCore, iff_self, ite_self, fr_ite, fr_abandonBlocks, fr_dropWaiting, fr_returnStock, fr_setQueue, fr_showDemand, h0, h1, h2, h3, h4, h5]

theorem fr_pollDue {dz : Dev} {lz : List Part} (q : Nat) (d : Dev) (h0 : .dict ∈ lz) (h1 : .tim ∈ lz) (h2 : .host ∈ lz) :
    dz.changesOnly lz (pollDue q d) ↔ dz.changesOnly lz d := by
  simp only [pollDue, iff_self, ite_self, fr_ite, fr_at_, fr_setQueue, h0, h1, h2]

theorem fr_countLate {dz : Dev} {lz : List Part} (d : Dev) (q : Nat) (h0 : .dict ∈ lz) :
    dz.changesOnly lz (Dev.countLate d q) ↔ dz.changesOnly lz d := by
  unfold Dev.countLate; repeat' (first | (simp only [iff_self, fr_inc, h0]; done) | (with_reducible rfl) | (with_reducible refine (fr_foldl (fun _ _ => ?_)).trans ?_) | (with_reducible refine (fr_foldl_snd (fun _ _ => ?_)).trans ?_) | (with_reducible refine Iff.trans (fr_pair (by assumption)) ?_) | split | simp only [eq_self, iff_self, implies_true, forall_const, ite_self, true_or, or_true, fr_ite, fr_ite_snd, fr_foldl, fr_foldl_snd, fr_inc, h0])

theorem fr_pollServe {dz : Dev} {lz : List Part} (d : Dev) (h0 : .out ∈ lz) (h1 : .dict ∈ lz) (h2 : .tim ∈ lz) (h3 : .host ∈ lz) :
    dz.changesOnly lz (pollServe d) ↔ dz.changesOnly lz d := by
  unfold pollServe; repeat' (first | (simp only [iff_self, ite_self, fr_ite, fr_at_, fr_countLate, fr_hostRead, fr_inc, fr_setPcie, fr_setQueue, h0, h1, h2, h3]; done) | (with_reducible rfl) | (with_reducible refine (fr_foldl (fun _ _ => ?_)).trans ?_) | (with_reducible refine (fr_foldl_snd (fun _ _ => ?_)).trans ?_) | (with_reducible refine Iff.trans (fr_pair (by assumption)) ?_) | split | simp only [eq_self, iff_self, implies_true, forall_const, ite_self, true_or, or_true, fr_ite, fr_ite_snd, fr_foldl, fr_foldl_snd, fr_at_, fr_countLate, fr_hostRead, fr_inc, fr_setPcie, fr_setQueue, h0, h1, h2, h3])

theorem fr_coalescingTimeout {dz : Dev} {lz : List Part} (q : Nat) (d : Dev) (h0 : .out ∈ lz) (h1 : .dict ∈ lz) (h2 : .tim ∈ lz) (h3 : .host ∈ lz) (h4 : .lan ∈ lz) :
    dz.changesOnly lz (coalescingTimeout q d) ↔ dz.changesOnly lz d := by
  unfold coalescingTimeout; repeat' (first | (simp only [iff_self, fr_announce, fr_at_, h0, h1, h2, h3, h4]; done) | (with_reducible rfl) | (with_reducible refine (fr_foldl (fun _ _ => ?_)).trans ?_) | (with_reducible refine (fr_foldl_snd (fun _ _ => ?_)).trans ?_) | (with_reducible refine Iff.trans (fr_pair (by assumption)) ?_) | split | simp only [eq_self, iff_self, implies_true, forall_const, ite_self, true_or, or_true, fr_ite, fr_ite_snd, fr_foldl, fr_foldl_snd, fr_announce, fr_at_, h0, h1, h2, h3, h4])

theorem fr_writeRing {dz : Dev} {lz : List Part} (d : Dev) (q : Nat) (f : Queue → Queue) (h0 : .dict ∈ lz) (h1 : .host ∈ lz) :
    dz.changesOnly lz (Dev.writeRing d q f) ↔ dz.changesOnly lz d := by
  simp only [Dev.writeRing, iff_self, ite_self, fr_ite, fr_setQueue, h0, h1]

theorem fr_hostDeliver {dz : Dev} {lz : List Part} (d : Dev) (p rx : Nat) (b : List Byte) (h0 : .out ∈ lz) (h1 : .dict ∈ lz) (h2 : .host ∈ lz) (h3 : .lan ∈ lz) :
    dz.changesOnly lz (Dev.hostDeliver d p rx b) ↔ dz.changesOnly lz d := by
  simp only [Dev.hostDeliver, iff_self, ite_self, fr_ite, fr_rxDeliver, h0, h1, h2, h3]

theorem fr_nonSample {dz : Dev} {lz : List Part} (d : Dev) (p rx t : Nat) (b : List Byte) (h0 : .out ∈ lz) (h1 : .dict ∈ lz) (h2 : .tim ∈ lz) (h3 : .flying ∈ lz) (h4 : .live ∈ lz) (h5 : .net ∈ lz) (h6 : .host ∈ lz) (h7 : .lan ∈ lz) :
    dz.changesOnly lz (Dev.nonSample d p rx t b) ↔ dz.changesOnly lz d := by
  unfold Dev.nonSample; repeat' (first | (simp only [iff_self, ite_self, fr_ite, fr_hostDeliver, fr_ptpReceive, h0, h1, h2, h3, h4, h5, h6, h7]; done) | (with_reducible rfl) | (with_reducible refine (fr_foldl (fun _ _ => ?_)).trans ?_) | (with_reducible refine (fr_foldl_snd (fun _ _ => ?_)).trans ?_) | (with_reducible refine Iff.trans (fr_pair (by assumption)) ?_) | split | simp only [eq_self, iff_self, implies_true, forall_const, ite_self, true_or, or_true, fr_ite, fr_ite_snd, fr_foldl, fr_foldl_snd, fr_hostDeliver, fr_ptpReceive, h0, h1, h2, h3, h4, h5, h6, h7])

theorem fr_updSensor {dz : Dev} {lz : List Part} (d : Dev) (i : Nat) (f : Sensor → Sensor) (h0 : .wave ∈ lz) :
    dz.changesOnly lz (Dev.updSensor d i f) ↔ dz.changesOnly lz d := by
  simp only [Dev.updSensor, iff_self, fr_setWave, h0]

theorem fr_setWchan {dz : Dev} {lz : List Part} (d : Dev) (c : Nat) (x : WChan) (h0 : .wave ∈ lz) :
    dz.changesOnly lz (Dev.setWchan d c x) ↔ dz.changesOnly lz d := by
  simp only [Dev.setWchan, iff_self, fr_setWave, h0]

theorem fr_joinLine {dz : Dev} {lz : List Part} (d : Dev) (e l : Nat) (h0 : .dict ∈ lz) (h1 : .wave ∈ lz) :
    dz.changesOnly lz (Dev.joinLine d e l) ↔ dz.changesOnly lz d := by
  simp only [Dev.joinLine, iff_self, ite_self, fr_ite, fr_setCapture, fr_showCapture, h0, h1]

theorem fr_trigger {dz : Dev} {lz : List Part} (d : Dev) (l t : Nat) (h0 : .dict ∈ lz) (h1 : .flying ∈ lz) (h2 : .wave ∈ lz) :
    dz.changesOnly lz (Dev.trigger d l t) ↔ dz.changesOnly lz d := by
  unfold Dev.trigger; repeat' (first | (simp only [iff_self, fr_inc, fr_joinLine, fr_put, fr_raise, fr_setCapture, fr_setWave, h0, h1, h2]; done) | (with_reducible rfl) | (with_reducible refine (fr_foldl (fun _ _ => ?_)).trans ?_) | (with_reducible refine (fr_foldl_snd (fun _ _ => ?_)).trans ?_) | (with_reducible refine Iff.trans (fr_pair (by assumption)) ?_) | split | simp only [eq_self])

theorem fr_screen {dz : Dev} {lz : List Part} (d : Dev) (c g : Nat) (h0 : .dict ∈ lz) (h1 : .flying ∈ lz) (h2 : .wave ∈ lz) :
    dz.changesOnly lz (Dev.screen d c g) ↔ dz.changesOnly lz d := by
  unfold Dev.screen; repeat' (first | (simp only [iff_self, ite_self, fr_ite, fr_inc, fr_raise, fr_setWave, fr_setWchan, fr_trigger, h0, h1, h2]; done) | (with_reducible rfl) | (with_reducible refine (fr_foldl (fun _ _ => ?_)).trans ?_) | (with_reducible refine (fr_foldl_snd (fun _ _ => ?_)).trans ?_) | (with_reducible refine Iff.trans (fr_pair (by assumption)) ?_) | split | simp only [fr_ite, fr_inc, h0])

theorem fr_wstore {dz : Dev} {lz : List Part} (d : Dev) (i c g value : Nat) (unsync : Bool) (h0 : .dict ∈ lz) (h1 : .flying ∈ lz) (h2 : .wave ∈ lz) :
    dz.changesOnly lz (Dev.wstore d i c g value unsync) ↔ dz.changesOnly lz d := by
  simp only [Dev.wstore, iff_self, implies_true, ite_self, fr_ite, fr_foldl, fr_inc, fr_screen, fr_setCapture, fr_setWchan, fr_updSensor, h0, h1, h2]

theorem fr_wsfFrame {dz : Dev} {lz : List Part} (d : Dev) (i p rx : Nat) (b : List Byte) (h0 : .dict ∈ lz) (h1 : .flying ∈ lz) (h2 : .wave ∈ lz) :
    dz.changesOnly lz (Dev.wsfFrame d i p rx b) ↔ dz.changesOnly lz d := by
  unfold Dev.wsfFrame; repeat' (first | (simp only [iff_self, implies_true, ite_self, fr_ite, fr_foldl, fr_add, fr_inc, fr_updSensor, fr_wstore, h0, h1, h2]; done) | (with_reducible rfl) | (with_reducible refine (fr_foldl (fun _ _ => ?_)).trans ?_) | (with_reducible refine (fr_foldl_snd (fun _ _ => ?_)).trans ?_) | (with_reducible refine Iff.trans (fr_pair (by assumption)) ?_) | split | simp only [ite_self, fr_ite, fr_inc, fr_updSensor, h0, h2])

theorem fr_logArrival {dz : Dev} {lz : List Part} (d : Dev) (b : List Byte) (h0 : .dict ∈ lz) (h1 : .wave ∈ lz) :
    dz.changesOnly lz (Dev.logArrival d b) ↔ dz.changesOnly lz d := by
  simp only [Dev.logArrival, iff_self, fr_putB, fr_setWave, h0, h1]

theorem fr_setLine {dz : Dev} {lz : List Part} (d : Dev) (l : Nat) (x : Line) (h0 : .wave ∈ lz) :
    dz.changesOnly lz (Dev.setLine d l x) ↔ dz.changesOnly lz d := by
  simp only [Dev.setLine, iff_self, fr_setWave, h0]

theorem fr_logLocation {dz : Dev} {lz : List Part} (d : Dev) (l method flags dist local_ remote score unc ev : Nat) (h0 : .dict ∈ lz) (h1 : .flying ∈ lz) (h2 : .wave ∈ lz) :
    dz.changesOnly lz (Dev.logLocation d l method flags dist local_ remote score unc ev) ↔ dz.changesOnly lz d := by
  simp only [Dev.logLocation, iff_self, fr_inc, fr_putB, fr_raise, fr_setWave, h0, h1, h2]

theorem fr_locateDouble {dz : Dev} {lz : List Part} (d : Dev) (l : Nat) (ev : LineEv) (remote : List Byte) (h0 : .dict ∈ lz) (h1 : .flying ∈ lz) (h2 : .wave ∈ lz) :
    dz.changesOnly lz (Dev.locateDouble d l ev remote) ↔ dz.changesOnly lz d := by
  simp only [Dev.locateDouble, iff_self, ite_self, fr_ite, fr_logLocation, h0, h1, h2]

theorem fr_tryDouble {dz : Dev} {lz : List Part} (d : Dev) (l : Nat) (h0 : .dict ∈ lz) (h1 : .flying ∈ lz) (h2 : .wave ∈ lz) :
    dz.changesOnly lz (Dev.tryDouble d l) ↔ dz.changesOnly lz d := by
  unfold Dev.tryDouble; repeat' (first | (simp only [iff_self, ite_self, fr_ite, fr_locateDouble, fr_setLine, h0, h1, h2]; done) | (with_reducible rfl) | (with_reducible refine (fr_foldl (fun _ _ => ?_)).trans ?_) | (with_reducible refine (fr_foldl_snd (fun _ _ => ?_)).trans ?_) | (with_reducible refine Iff.trans (fr_pair (by assumption)) ?_) | split | simp only [eq_self, iff_self, implies_true, forall_const, ite_self, true_or, or_true, fr_ite, fr_ite_snd, fr_foldl, fr_foldl_snd, fr_locateDouble, fr_setLine, h0, h1, h2])

theorem fr_enterRemote {dz : Dev} {lz : List Part} (d : Dev) (ip : Nat) (b : List Byte) (h0 : .dict ∈ lz) (h1 : .flying ∈ lz) (h2 : .wave ∈ lz) :
    dz.changesOnly lz (Dev.enterRemote d ip b) ↔ dz.changesOnly lz d := by
  unfold Dev.enterRemote; repeat' (first | (simp only [iff_self, ite_self, fr_ite, fr_inc, fr_logArrival, fr_setLine, fr_setWave, fr_tryDouble, h0, h1, h2]; done) | (with_reducible rfl) | (with_reducible refine (fr_foldl (fun _ _ => ?_)).trans ?_) | (with_reducible refine (fr_foldl_snd (fun _ _ => ?_)).trans ?_) | (with_reducible refine Iff.trans (fr_pair (by assumption)) ?_) | split | simp only [fr_ite, fr_inc, fr_logArrival, fr_setWave, h0, h2])

theorem fr_takeArrivals {dz : Dev} {lz : List Part} (d : Dev) (ip : Nat) (l : List (List Byte)) (h0 : .dict ∈ lz) (h1 : .flying ∈ lz) (h2 : .wave ∈ lz) :
    dz.changesOnly lz (Dev.takeArrivals d ip l).2 ↔ dz.changesOnly lz d := by
  simp only [Dev.takeArrivals, iff_self, implies_true, fr_foldl, fr_enterRemote, h0, h1, h2]

theorem fr_arrivals {dz : Dev} {lz : List Part} (ip udp : Nat) (role : Role) (via : Fin 17) (txid : Nat) (b : List Byte) (d : Dev) (h0 : .out ∈ lz) (h1 : .dict ∈ lz) (h2 : .access ∈ lz) (h3 : .flying ∈ lz) (h4 : .wave ∈ lz) :
    dz.changesOnly lz (arrivals ip udp role via txid b d) ↔ dz.changesOnly lz d := by
  unfold arrivals; repeat' (first | (simp only [iff_self, implies_true, fr_ite, fr_inc, fr_kmpAnswer, fr_takeArrivals, h0, h1, h2, h3, h4]; done) | (with_reducible rfl) | (with_reducible refine (fr_foldl (fun _ _ => ?_)).trans ?_) | (with_reducible refine (fr_foldl_snd (fun _ _ => ?_)).trans ?_) | (with_reducible refine Iff.trans (fr_pair (by assumption)) ?_) | split | simp only [eq_self, iff_self, implies_true, forall_const, ite_self, true_or, or_true, fr_ite, fr_ite_snd, fr_foldl, fr_foldl_snd, fr_inc, fr_kmpAnswer, fr_takeArrivals, h0, h1, h2, h3, h4])

theorem fr_arrivalsAck {dz : Dev} {lz : List Part} (ip : Nat) (role : Role) (txid : Nat) (d : Dev) (h0 : .dict ∈ lz) (h1 : .wave ∈ lz) :
    dz.changesOnly lz (arrivalsAck ip role txid d) ↔ dz.changesOnly lz d := by
  simp only [arrivalsAck, iff_self, ite_self, fr_ite, fr_inc, fr_setWave, h0, h1]

theorem fr_sameBody {dz : Dev} {lz : List Part} (b : List Byte) (r : Nat × Dev) :
    dz.changesOnly lz (sameBody b r).2 ↔ dz.changesOnly lz r.2 := Iff.rfl

theorem fr_prepare {dz : Dev} {lz : List Part} (ip udp : Nat) (role : Role) (via : Fin 17) (txid : Nat) (b : List Byte) (d : Dev) (h0 : .out ∈ lz) (h1 : .dict ∈ lz) (h2 : .access ∈ lz) :
    dz.changesOnly lz (prepare ip udp role via txid b d) ↔ dz.changesOnly lz d := by
  unfold prepare
  split
  · exact fr_inc _ _ _ h1
  · split
    · rfl
    · exact fr_kmpAnswer _ _ _ _ _ _ _ _ _ (fun y => (fr_sameBody b _).trans (fr_takePrepare y _ _ _ h2)) h0 h2

theorem fr_query {dz : Dev} {lz : List Part} (ip udp : Nat) (role : Role) (via : Fin 17) (txid : Nat) (b : List Byte) (d : Dev) (h0 : .out ∈ lz) (h1 : .dict ∈ lz) (h2 : .access ∈ lz) :
    dz.changesOnly lz (query ip udp role via txid b d) ↔ dz.changesOnly lz d := by
  simp only [query, iff_self, implies_true, ite_self, fr_ite, fr_ite_snd, fr_inc, fr_kmpAnswer, h0, h1, h2]

theorem fr_queryReply {dz : Dev} {lz : List Part} (ip : Nat) (role : Role) (b : List Byte) (d : Dev) (h0 : .dict ∈ lz) (h1 : .flying ∈ lz) (h2 : .wave ∈ lz) :
    dz.changesOnly lz (queryReply ip role b d) ↔ dz.changesOnly lz d := by
  unfold queryReply; repeat' (first | (simp only [iff_self, fr_ite, fr_inc, fr_takeArrivals, h0, h1, h2]; done) | (with_reducible rfl) | (with_reducible refine (fr_foldl (fun _ _ => ?_)).trans ?_) | (with_reducible refine (fr_foldl_snd (fun _ _ => ?_)).trans ?_) | (with_reducible refine Iff.trans (fr_pair (by assumption)) ?_) | split | simp only [eq_self, iff_self, implies_true, forall_const, ite_self, true_or, or_true, fr_ite, fr_ite_snd, fr_foldl, fr_foldl_snd, fr_inc, fr_takeArrivals, h0, h1, h2])

theorem fr_syzygyAbort {dz : Dev} {lz : List Part} (ip udp : Nat) (role : Role) (via : Fin 17) (txid : Nat) (b : List Byte) (d : Dev) (h0 : .out ∈ lz) (h1 : .dict ∈ lz) (h2 : .access ∈ lz) (h3 : .flying ∈ lz) :
    dz.changesOnly lz (syzygyAbort ip udp role via txid b d) ↔ dz.changesOnly lz d := by
  unfold syzygyAbort
  split
  · exact fr_inc _ _ _ h1
  · split
    · rfl
    · exact fr_kmpAnswer _ _ _ _ _ _ _ _ _ (fun y => (fr_sameBody b _).trans (fr_takeAbort y _ _ _ h1 h2 h3)) h0 h2

theorem fr_syzygyAnswer {dz : Dev} {lz : List Part} (kind ip udp : Nat) (role : Role) (txid : Nat) (b : List Byte) (d : Dev) (h0 : .dict ∈ lz) (h1 : .lan ∈ lz) :
    dz.changesOnly lz (syzygyAnswer kind ip udp role txid b d) ↔ dz.changesOnly lz d := by
  unfold syzygyAnswer; repeat' (first | (simp only [iff_self, fr_ite, fr_inc, fr_sesNote, h0, h1]; done) | (with_reducible rfl) | (with_reducible refine (fr_foldl (fun _ _ => ?_)).trans ?_) | (with_reducible refine (fr_foldl_snd (fun _ _ => ?_)).trans ?_) | (with_reducible refine Iff.trans (fr_pair (by assumption)) ?_) | split | simp only [eq_self, iff_self, implies_true, forall_const, ite_self, true_or, or_true, fr_ite, fr_ite_snd, fr_foldl, fr_foldl_snd, fr_inc, fr_sesNote, h0, h1])

theorem fr_kmpRequest {dz : Dev} {lz : List Part} (ip udp : Nat) (via : Fin 17) (b : List Byte) (d : Dev) (h0 : .fresh ∈ lz) (h1 : .out ∈ lz) (h2 : .dict ∈ lz) (h3 : .access ∈ lz) (h4 : .tim ∈ lz) (h5 : .arch ∈ lz) (h6 : .flying ∈ lz) (h7 : .live ∈ lz) (h8 : .faults ∈ lz) (h9 : .net ∈ lz) (h10 : .host ∈ lz) (h11 : .lan ∈ lz) (h12 : .ecl ∈ lz) (h13 : .rings ∈ lz) (h14 : .ing ∈ lz) (h15 : .tab ∈ lz) (h16 : .eng ∈ lz) (h17 : .wave ∈ lz) (h18 : .pow ∈ lz) (h19 : .spi ∈ lz) :
    dz.changesOnly lz (kmpRequest ip udp via b d) ↔ dz.changesOnly lz d :=
  fr_of (fun p hp => absurd (by cases p <;> assumption) hp)

theorem fr_classify {dz : Dev} {lz : List Part} (d : Dev) (p rx t : Nat) (b : List Byte) (h0 : .fresh ∈ lz) (h1 : .out ∈ lz) (h2 : .dict ∈ lz) (h3 : .access ∈ lz) (h4 : .tim ∈ lz) (h5 : .arch ∈ lz) (h6 : .flying ∈ lz) (h7 : .live ∈ lz) (h8 : .faults ∈ lz) (h9 : .net ∈ lz) (h10 : .host ∈ lz) (h11 : .lan ∈ lz) (h12 : .ecl ∈ lz) (h13 : .rings ∈ lz) (h14 : .ing ∈ lz) (h15 : .tab ∈ lz) (h16 : .eng ∈ lz) (h17 : .wave ∈ lz) (h18 : .pow ∈ lz) (h19 : .spi ∈ lz) :
    dz.changesOnly lz (Dev.classify d p rx t b) ↔ dz.changesOnly lz d :=
  fr_of (fun p hp => absurd (by cases p <;> assumption) hp)

theorem fr_pairVerd {dz : Dev} {lz : List Part} (d : Dev) (p : Nat) (b : List Byte) (h0 : .dict ∈ lz) (h1 : .flying ∈ lz) (h2 : .live ∈ lz) (h3 : .ecl ∈ lz) :
    dz.changesOnly lz (Dev.pairVerd d p b).2 ↔ dz.changesOnly lz d := by
  simp only [Dev.pairVerd, iff_self, ite_self, fr_ite_snd, fr_hsr, fr_prp, h0, h1, h2, h3]

theorem fr_eclipse {dz : Dev} {lz : List Part} (d : Dev) (p : Nat) (b : List Byte) (h0 : .dict ∈ lz) (h1 : .flying ∈ lz) (h2 : .live ∈ lz) (h3 : .ecl ∈ lz) :
    dz.changesOnly lz (Dev.eclipse d p b).2 ↔ dz.changesOnly lz d := by
  unfold Dev.eclipse; repeat' (first | (simp only [iff_self, fr_ite_snd, fr_frer, fr_pairVerd, h0, h1, h2, h3]; done) | (with_reducible rfl) | (with_reducible refine (fr_foldl (fun _ _ => ?_)).trans ?_) | (with_reducible refine (fr_foldl_snd (fun _ _ => ?_)).trans ?_) | (with_reducible refine Iff.trans (fr_pair (by assumption)) ?_) | split | simp only [fr_ite_snd, fr_pairVerd, h0, h1, h2, h3])

theorem fr_stampNew {dz : Dev} {lz : List Part} (d : Dev) (n rx : Nat) (h0 : .flying ∈ lz) (h1 : .faults ∈ lz) :
    dz.changesOnly lz (Dev.stampNew d n rx) ↔ dz.changesOnly lz d := by
  simp only [Dev.stampNew, eq_self, iff_self, true_or, or_true, fr_setFlt, h0, h1]

theorem fr_noteSupervision {dz : Dev} {lz : List Part} (d : Dev) (p : Nat) (b : List Byte) (h0 : .dict ∈ lz) :
    dz.changesOnly lz (Dev.noteSupervision d p b) ↔ dz.changesOnly lz d := by
  simp only [Dev.noteSupervision, iff_self, ite_self, fr_ite, fr_inc, h0]

theorem fr_decideCopy {dz : Dev} {lz : List Part} (d : Dev) (p rx : Nat) (b : List Byte) (h0 : .dict ∈ lz) (h1 : .flying ∈ lz) (h2 : .live ∈ lz) (h3 : .faults ∈ lz) (h4 : .ecl ∈ lz) :
    dz.changesOnly lz (Dev.decideCopy d p rx b).2 ↔ dz.changesOnly lz d := by
  simp only [Dev.decideCopy, iff_self, fr_eclipse, fr_noteSupervision, fr_stampNew, h0, h1, h2, h3, h4]

theorem fr_genCopies {dz : Dev} {lz : List Part} (d : Dev) (p : Nat) (b : List Byte) (y0 : Option Nat) (h0 : .dict ∈ lz) :
    dz.changesOnly lz (Dev.genCopies d p b y0).2 ↔ dz.changesOnly lz d := by
  unfold Dev.genCopies; repeat' (first | (simp only [iff_self, implies_true, ite_self, fr_ite_snd, fr_foldl_snd, fr_inc, fr_takeSeq, h0]; done) | (with_reducible rfl) | (with_reducible refine (fr_foldl (fun _ _ => ?_)).trans ?_) | (with_reducible refine (fr_foldl_snd (fun _ _ => ?_)).trans ?_) | (with_reducible refine Iff.trans (fr_pair (by assumption)) ?_) | split | simp only [eq_self, iff_self, implies_true, forall_const, ite_self, true_or, or_true, fr_ite, fr_ite_snd, fr_foldl, fr_foldl_snd, fr_inc, fr_takeSeq, h0])

theorem fr_copiesOf {dz : Dev} {lz : List Part} (d : Dev) (p : Nat) (b : List Byte) (v : Verd) (h0 : .dict ∈ lz) :
    dz.changesOnly lz (Dev.copiesOf d p b v).2 ↔ dz.changesOnly lz d := by
  simp only [Dev.copiesOf, iff_self, ite_self, fr_ite_snd, fr_genCopies, h0]

theorem fr_sendHub {dz : Dev} {lz : List Part} (d : Dev) (id q : Nat) (b : List Byte) (cut : Bool) (h0 : .out ∈ lz) (h1 : .dict ∈ lz) (h2 : .net ∈ lz) (h3 : .host ∈ lz) (h4 : .lan ∈ lz) :
    dz.changesOnly lz (Dev.sendHub d id q b cut) ↔ dz.changesOnly lz d := by
  simp only [Dev.sendHub, iff_self, fr_enqueue, h0, h1, h2, h3, h4]

theorem fr_hubDone {dz : Dev} {lz : List Part} (d : Dev) (id : Nat) (delivered : Bool) (h0 : .host ∈ lz) (h1 : .lan ∈ lz) :
    dz.changesOnly lz (Dev.hubDone d id delivered) ↔ dz.changesOnly lz d := by
  simp only [Dev.hubDone, iff_self, ite_self, fr_ite, fr_hubSettle, fr_setLan, h0, h1]

theorem fr_notTaken {dz : Dev} {lz : List Part} (d : Dev) (p reason : Nat) (h0 : .lan ∈ lz) :
    dz.changesOnly lz (Dev.notTaken d p reason) ↔ dz.changesOnly lz d := by
  simp only [Dev.notTaken, iff_self, ite_self, fr_ite, fr_countPortDrop, fr_updLedger, h0]

theorem fr_fcsCheck {dz : Dev} {lz : List Part} (d : Dev) (p : Nat) (good : Bool) (h0 : .dict ∈ lz) (h1 : .flying ∈ lz) (h2 : .faults ∈ lz) :
    dz.changesOnly lz (Dev.fcsCheck d p good).2 ↔ dz.changesOnly lz d := by
  unfold Dev.fcsCheck; repeat' (first | (simp only [iff_self, ite_self, fr_ite_snd, fr_fire, h0, h1, h2]; done) | (with_reducible rfl) | (with_reducible refine (fr_foldl (fun _ _ => ?_)).trans ?_) | (with_reducible refine (fr_foldl_snd (fun _ _ => ?_)).trans ?_) | (with_reducible refine Iff.trans (fr_pair (by assumption)) ?_) | split | simp only [eq_self, iff_self, implies_true, forall_const, ite_self, true_or, or_true, fr_ite, fr_ite_snd, fr_foldl, fr_foldl_snd, fr_fire, h0, h1, h2])

theorem fr_macControl {dz : Dev} {lz : List Part} (d : Dev) (p : Nat) (b : List Byte) (h0 : .lan ∈ lz) :
    dz.changesOnly lz (Dev.macControl d p b) ↔ dz.changesOnly lz d := by
  simp only [Dev.macControl, iff_self, ite_self, fr_ite, fr_countPortDrop, fr_setPort, h0]

theorem fr_letIn {dz : Dev} {lz : List Part} (d : Dev) (p copies t : Nat) (b : List Byte) (h0 : .dict ∈ lz) (h1 : .host ∈ lz) (h2 : .lan ∈ lz) :
    dz.changesOnly lz (Dev.letIn d p copies t b).2 ↔ dz.changesOnly lz d := by
  unfold Dev.letIn; repeat' (first | (simp only [iff_self, fr_countPortDrop, fr_hubNew, fr_inc, h0, h2]; done) | (with_reducible rfl) | (with_reducible refine (fr_foldl (fun _ _ => ?_)).trans ?_) | (with_reducible refine (fr_foldl_snd (fun _ _ => ?_)).trans ?_) | (with_reducible refine Iff.trans (fr_pair (by assumption)) ?_) | (with_reducible refine Iff.trans (fr_takeCells_some (by assumption) ‹_›) ?_) | split | simp only [fr_hubNew, h2])

theorem fr_onward {dz : Dev} {lz : List Part} (d : Dev) (p rx t : Nat) (b : List Byte) (v : Verd) (h0 : .fresh ∈ lz) (h1 : .out ∈ lz) (h2 : .dict ∈ lz) (h3 : .access ∈ lz) (h4 : .tim ∈ lz) (h5 : .arch ∈ lz) (h6 : .flying ∈ lz) (h7 : .live ∈ lz) (h8 : .faults ∈ lz) (h9 : .net ∈ lz) (h10 : .host ∈ lz) (h11 : .lan ∈ lz) (h12 : .ecl ∈ lz) (h13 : .rings ∈ lz) (h14 : .ing ∈ lz) (h15 : .tab ∈ lz) (h16 : .eng ∈ lz) (h17 : .wave ∈ lz) (h18 : .pow ∈ lz) (h19 : .spi ∈ lz) :
    dz.changesOnly lz (Dev.onward d p rx t b v) ↔ dz.changesOnly lz d :=
  fr_of (fun p hp => absurd (by cases p <;> assumption) hp)

theorem fr_frameIn {dz : Dev} {lz : List Part} (d : Dev) (p : Nat) (b : List Byte) (good : Bool) (t : Nat) (h0 : .fresh ∈ lz) (h1 : .out ∈ lz) (h2 : .dict ∈ lz) (h3 : .access ∈ lz) (h4 : .tim ∈ lz) (h5 : .arch ∈ lz) (h6 : .flying ∈ lz) (h7 : .live ∈ lz) (h8 : .faults ∈ lz) (h9 : .net ∈ lz) (h10 : .host ∈ lz) (h11 : .lan ∈ lz) (h12 : .ecl ∈ lz) (h13 : .rings ∈ lz) (h14 : .ing ∈ lz) (h15 : .tab ∈ lz) (h16 : .eng ∈ lz) (h17 : .wave ∈ lz) (h18 : .pow ∈ lz) (h19 : .spi ∈ lz) :
    dz.changesOnly lz (Dev.frameIn d p b good t) ↔ dz.changesOnly lz d :=
  fr_of (fun p hp => absurd (by cases p <;> assumption) hp)

theorem fr_cutThroughHeader {dz : Dev} {lz : List Part} (p : Nat) (b : List Byte) (t : Nat) (d : Dev) (h0 : .out ∈ lz) (h1 : .dict ∈ lz) (h2 : .tim ∈ lz) (h3 : .flying ∈ lz) (h4 : .live ∈ lz) (h5 : .faults ∈ lz) (h6 : .net ∈ lz) (h7 : .host ∈ lz) (h8 : .lan ∈ lz) (h9 : .ecl ∈ lz) :
    dz.changesOnly lz (cutThroughHeader p b t d) ↔ dz.changesOnly lz d := by
  unfold cutThroughHeader; repeat' (first | (simp only [iff_self, implies_true, fr_ite, fr_foldl, fr_letIn, fr_atPort, fr_copiesOf, fr_decideCopy, fr_sendHub, fr_setLan, fr_updLedger, h0, h1, h2, h3, h4, h5, h6, h7, h8, h9]; done) | (with_reducible rfl) | (with_reducible refine (fr_foldl (fun _ _ => ?_)).trans ?_) | (with_reducible refine (fr_foldl_snd (fun _ _ => ?_)).trans ?_) | (with_reducible refine Iff.trans (fr_pair (by assumption)) ?_) | split | simp only [iff_self, implies_true, fr_ite, fr_foldl, fr_atPort, fr_sendHub, fr_setLan, h0, h1, h2, h6, h7, h8])

theorem fr_markBad {dz : Dev} {lz : List Part} (d : Dev) (id : Nat) (h0 : .lan ∈ lz) :
    dz.changesOnly lz (Dev.markBad d id) ↔ dz.changesOnly lz d := by
  simp only [Dev.markBad, iff_self, implies_true, ite_self, fr_ite, fr_foldl, fr_setPort, h0]

theorem fr_withdraw {dz : Dev} {lz : List Part} (d : Dev) (c : CutRx) (h0 : .dict ∈ lz) (h1 : .ecl ∈ lz) :
    dz.changesOnly lz (Dev.withdraw d c) ↔ dz.changesOnly lz d := by
  have hs : dz.changesOnly lz (match c.fn with | some h => d.frerWithdraw h c.bytes | none => d) ↔ dz.changesOnly lz d := by
    split
    · exact fr_frerWithdraw _ _ _ h1
    · rfl
  unfold Dev.withdraw
  dsimp only
  split
  · exact (fr_foldl (fun _ _ => fr_nodeWithdraw _ _ _ _ _ h0 h1)).trans hs
  · exact hs

theorem fr_cutEnd {dz : Dev} {lz : List Part} (d : Dev) (c : CutRx) (good : Bool) (h0 : .fresh ∈ lz) (h1 : .out ∈ lz) (h2 : .dict ∈ lz) (h3 : .access ∈ lz) (h4 : .tim ∈ lz) (h5 : .arch ∈ lz) (h6 : .flying ∈ lz) (h7 : .live ∈ lz) (h8 : .faults ∈ lz) (h9 : .net ∈ lz) (h10 : .host ∈ lz) (h11 : .lan ∈ lz) (h12 : .ecl ∈ lz) (h13 : .rings ∈ lz) (h14 : .ing ∈ lz) (h15 : .tab ∈ lz) (h16 : .eng ∈ lz) (h17 : .wave ∈ lz) (h18 : .pow ∈ lz) (h19 : .spi ∈ lz) :
    dz.changesOnly lz (Dev.cutEnd d c good) ↔ dz.changesOnly lz d :=
  fr_of (fun p hp => absurd (by cases p <;> assumption) hp)

theorem fr_frameReceive {dz : Dev} {lz : List Part} (p : Nat) (u : RxUnit) (t : Nat) (d : Dev) (h0 : .fresh ∈ lz) (h1 : .out ∈ lz) (h2 : .dict ∈ lz) (h3 : .access ∈ lz) (h4 : .tim ∈ lz) (h5 : .arch ∈ lz) (h6 : .flying ∈ lz) (h7 : .live ∈ lz) (h8 : .faults ∈ lz) (h9 : .net ∈ lz) (h10 : .host ∈ lz) (h11 : .lan ∈ lz) (h12 : .ecl ∈ lz) (h13 : .rings ∈ lz) (h14 : .ing ∈ lz) (h15 : .tab ∈ lz) (h16 : .eng ∈ lz) (h17 : .wave ∈ lz) (h18 : .pow ∈ lz) (h19 : .spi ∈ lz) :
    dz.changesOnly lz (frameReceive p u t d) ↔ dz.changesOnly lz d :=
  fr_of (fun p hp => absurd (by cases p <;> assumption) hp)

theorem fr_ptpMessageReceive {dz : Dev} {lz : List Part} (p : Nat) (m : List Byte) (t : Nat) (d : Dev) (h0 : .dict ∈ lz) (h1 : .tim ∈ lz) (h2 : .flying ∈ lz) (h3 : .live ∈ lz) (h4 : .net ∈ lz) :
    dz.changesOnly lz (ptpMessageReceive p m t d) ↔ dz.changesOnly lz d := by
  simp only [ptpMessageReceive, iff_self, ite_self, fr_ite, fr_ptpReceive, h0, h1, h2, h3, h4]

theorem fr_slotsSeen {dz : Dev} {lz : List Part} (d : Dev) (r p : Nat) (b : List Byte) (h0 : .dict ∈ lz) (h1 : .flying ∈ lz) (h2 : .faults ∈ lz) :
    dz.changesOnly lz (Dev.slotsSeen d r p b).2 ↔ dz.changesOnly lz d := by
  unfold Dev.slotsSeen; repeat' (first | (simp only [iff_self, fr_ite_snd, fr_fire, h0, h1, h2]; done) | (with_reducible rfl) | (with_reducible refine (fr_foldl (fun _ _ => ?_)).trans ?_) | (with_reducible refine (fr_foldl_snd (fun _ _ => ?_)).trans ?_) | (with_reducible refine Iff.trans (fr_pair (by assumption)) ?_) | split | simp only [eq_self, iff_self, implies_true, forall_const, ite_self, true_or, or_true, fr_ite, fr_ite_snd, fr_foldl, fr_foldl_snd, fr_fire, h0, h1, h2])

theorem fr_beginCycle {dz : Dev} {lz : List Part} (d : Dev) (r : Nat) (b : List Byte) (h0 : .rings ∈ lz) :
    dz.changesOnly lz (Dev.beginCycle d r b) ↔ dz.changesOnly lz d := by
  simp only [Dev.beginCycle, iff_self, fr_updRing, h0]

theorem fr_countCopy {dz : Dev} {lz : List Part} (d : Dev) (r p k : Nat) (h0 : .dict ∈ lz) (h1 : .rings ∈ lz) :
    dz.changesOnly lz (Dev.countCopy d r p k) ↔ dz.changesOnly lz d := by
  simp only [Dev.countCopy, iff_self, fr_inc, fr_updRing, h0, h1]

theorem fr_ringOffset {dz : Dev} {lz : List Part} (d : Dev) (r : Nat) (e : Int) (held : Bool) (h0 : .dict ∈ lz) (h1 : .rings ∈ lz) :
    dz.changesOnly lz (Dev.ringOffset d r e held) ↔ dz.changesOnly lz d := by
  simp only [Dev.ringOffset, iff_self, fr_put, fr_puti, fr_setRing, h0, h1]

theorem fr_ringClockUse {dz : Dev} {lz : List Part} (d : Dev) (r : Nat) (c : RingCycle) (last : Bool) (h0 : .dict ∈ lz) (h1 : .rings ∈ lz) :
    dz.changesOnly lz (Dev.ringClockUse d r c last) ↔ dz.changesOnly lz d := by
  unfold Dev.ringClockUse; repeat' (first | (simp only [iff_self, fr_ite, fr_put, fr_ringOffset, fr_setRing, fr_updRing, h0, h1]; done) | (with_reducible rfl) | (with_reducible refine (fr_foldl (fun _ _ => ?_)).trans ?_) | (with_reducible refine (fr_foldl_snd (fun _ _ => ?_)).trans ?_) | (with_reducible refine Iff.trans (fr_pair (by assumption)) ?_) | split | simp only [eq_self])

theorem fr_showPositions {dz : Dev} {lz : List Part} (d : Dev) (r : Nat) (img : List Byte) (h0 : .dict ∈ lz) :
    dz.changesOnly lz (Dev.showPositions d r img) ↔ dz.changesOnly lz d := by
  simp only [Dev.showPositions, iff_self, fr_putB, h0]

theorem fr_endCycle {dz : Dev} {lz : List Part} (d : Dev) (r gap : Nat) (h0 : .dict ∈ lz) (h1 : .flying ∈ lz) (h2 : .rings ∈ lz) :
    dz.changesOnly lz (Dev.endCycle d r gap) ↔ dz.changesOnly lz d := by
  unfold Dev.endCycle; repeat' (first | (simp only [iff_self, implies_true, ite_self, fr_ite, fr_foldl, fr_add, fr_put, fr_raise, fr_ringClockUse, fr_setRing, fr_showPositions, h0, h1, h2]; done) | (with_reducible rfl) | (with_reducible refine (fr_foldl (fun _ _ => ?_)).trans ?_) | (with_reducible refine (fr_foldl_snd (fun _ _ => ?_)).trans ?_) | (with_reducible refine Iff.trans (fr_pair (by assumption)) ?_) | split | simp only [eq_self, iff_self, implies_true, forall_const, ite_self, true_or, or_true, fr_ite, fr_ite_snd, fr_foldl, fr_foldl_snd, fr_add, fr_put, fr_raise, fr_ringClockUse, fr_setRing, fr_showPositions, h0, h1, h2])

theorem fr_chooseOut {dz : Dev} {lz : List Part} (d : Dev) (r cycle : Nat) (img : List Byte) (h0 : .out ∈ lz) (h1 : .dict ∈ lz) (h2 : .host ∈ lz) (h3 : .lan ∈ lz) (h4 : .rings ∈ lz) :
    dz.changesOnly lz (Dev.chooseOut d r cycle img).2 ↔ dz.changesOnly lz d := by
  unfold Dev.chooseOut; repeat' (first | (simp only [iff_self, ite_self, fr_ite, fr_ite_snd, fr_finishSlot, fr_put, fr_setRing, h0, h1, h2, h3, h4]; done) | (with_reducible rfl) | (with_reducible refine (fr_foldl (fun _ _ => ?_)).trans ?_) | (with_reducible refine (fr_foldl_snd (fun _ _ => ?_)).trans ?_) | (with_reducible refine Iff.trans (fr_pair (by assumption)) ?_) | split | simp only [fr_ite_snd, fr_put, fr_setRing, h1, h4])

theorem fr_ringBabble {dz : Dev} {lz : List Part} (d : Dev) (r p : Nat) (h0 : .dict ∈ lz) (h1 : .flying ∈ lz) (h2 : .rings ∈ lz) :
    dz.changesOnly lz (Dev.ringBabble d r p) ↔ dz.changesOnly lz d := by
  simp only [Dev.ringBabble, iff_self, ite_self, fr_ite, fr_inc, fr_raise, fr_updRing, h0, h1, h2]

theorem fr_sendCopy {dz : Dev} {lz : List Part} (d : Dev) (r p : Nat) (wrapped : Bool) (b : List Byte) (good : Bool) (t : Nat) (h0 : .out ∈ lz) (h1 : .dict ∈ lz) (h2 : .rings ∈ lz) :
    dz.changesOnly lz (Dev.sendCopy d r p wrapped b good t) ↔ dz.changesOnly lz d := by
  simp only [Dev.sendCopy, iff_self, ite_self, fr_ite, fr_emit, fr_inc, fr_setRing, h0, h1, h2]

theorem fr_forwardCopy {dz : Dev} {lz : List Part} (d : Dev) (r p : Nat) (b : List Byte) (good hdr : Bool) (rx tx : Nat) (h0 : .fresh ∈ lz) (h1 : .out ∈ lz) (h2 : .dict ∈ lz) (h3 : .access ∈ lz) (h4 : .tim ∈ lz) (h5 : .arch ∈ lz) (h6 : .flying ∈ lz) (h7 : .live ∈ lz) (h8 : .faults ∈ lz) (h9 : .net ∈ lz) (h10 : .host ∈ lz) (h11 : .lan ∈ lz) (h12 : .ecl ∈ lz) (h13 : .rings ∈ lz) (h14 : .ing ∈ lz) (h15 : .tab ∈ lz) (h16 : .eng ∈ lz) (h17 : .wave ∈ lz) (h18 : .pow ∈ lz) (h19 : .spi ∈ lz) :
    dz.changesOnly lz (Dev.forwardCopy d r p b good hdr rx tx) ↔ dz.changesOnly lz d :=
  fr_of (fun p hp => absurd (by cases p <;> assumption) hp)

theorem fr_measureLoop {dz : Dev} {lz : List Part} (d : Dev) (r rx : Nat) (b : List Byte) (h0 : .dict ∈ lz) (h1 : .rings ∈ lz) :
    dz.changesOnly lz (Dev.measureLoop d r rx b) ↔ dz.changesOnly lz d := by
  simp only [Dev.measureLoop, iff_self, fr_put, fr_updRing, h0, h1]

theorem fr_noteArrival {dz : Dev} {lz : List Part} (d : Dev) (r p rx f : Nat) (h0 : .dict ∈ lz) (h1 : .rings ∈ lz) :
    dz.changesOnly lz (Dev.noteArrival d r p rx f) ↔ dz.changesOnly lz d := by
  unfold Dev.noteArrival; repeat' (first | (simp only [iff_self, fr_ringClockUse, fr_updRing, h0, h1]; done) | (with_reducible rfl) | (with_reducible refine (fr_foldl (fun _ _ => ?_)).trans ?_) | (with_reducible refine (fr_foldl_snd (fun _ _ => ?_)).trans ?_) | (with_reducible refine Iff.trans (fr_pair (by assumption)) ?_) | split | simp only [eq_self])

theorem fr_readProposal {dz : Dev} {lz : List Part} (d : Dev) (r : Nat) (b : List Byte) (h0 : .dict ∈ lz) (h1 : .rings ∈ lz) :
    dz.changesOnly lz (Dev.readProposal d r b) ↔ dz.changesOnly lz d := by
  unfold Dev.readProposal; repeat' (first | (simp only [iff_self, ite_self, fr_ite, fr_put, fr_updRing, h0, h1]; done) | (with_reducible rfl) | (with_reducible refine (fr_foldl (fun _ _ => ?_)).trans ?_) | (with_reducible refine (fr_foldl_snd (fun _ _ => ?_)).trans ?_) | (with_reducible refine Iff.trans (fr_pair (by assumption)) ?_) | split | simp only [eq_self, iff_self, implies_true, forall_const, ite_self, true_or, or_true, fr_ite, fr_ite_snd, fr_foldl, fr_foldl_snd, fr_put, fr_updRing, h0, h1])

theorem fr_readSlot {dz : Dev} {lz : List Part} (d : Dev) (r p rx : Nat) (b : List Byte) (s : Nat × Nat × Nat) (h0 : .dict ∈ lz) (h1 : .rings ∈ lz) :
    dz.changesOnly lz (Dev.readSlot d r p rx b s).2 ↔ dz.changesOnly lz d := by
  simp only [Dev.readSlot, iff_self, ite_self, fr_ite_snd, fr_inc, fr_put, fr_setRing, h0, h1]

theorem fr_readSlots {dz : Dev} {lz : List Part} (d : Dev) (r p rx : Nat) (b img : List Byte) (h0 : .dict ∈ lz) (h1 : .rings ∈ lz) :
    dz.changesOnly lz (Dev.readSlots d r p rx b img).2 ↔ dz.changesOnly lz d := by
  simp only [Dev.readSlots, iff_self, implies_true, fr_foldl_snd, fr_readSlot, h0, h1]

theorem fr_startUp {dz : Dev} {lz : List Part} (d : Dev) (r : Nat) (b : List Byte) (h0 : .dict ∈ lz) (h1 : .flying ∈ lz) (h2 : .rings ∈ lz) :
    dz.changesOnly lz (Dev.startUp d r b) ↔ dz.changesOnly lz d := by
  simp only [Dev.startUp, iff_self, ite_self, fr_ite, fr_put, fr_raise, fr_ringGo, fr_updRing, h0, h1, h2]

theorem fr_ringCopyReceive {dz : Dev} {lz : List Part} (r p : Nat) (b seen : List Byte) (good : Bool) (rx tx : Nat) (d : Dev) (h0 : .fresh ∈ lz) (h1 : .out ∈ lz) (h2 : .dict ∈ lz) (h3 : .access ∈ lz) (h4 : .tim ∈ lz) (h5 : .arch ∈ lz) (h6 : .flying ∈ lz) (h7 : .live ∈ lz) (h8 : .faults ∈ lz) (h9 : .net ∈ lz) (h10 : .host ∈ lz) (h11 : .lan ∈ lz) (h12 : .ecl ∈ lz) (h13 : .rings ∈ lz) (h14 : .ing ∈ lz) (h15 : .tab ∈ lz) (h16 : .eng ∈ lz) (h17 : .wave ∈ lz) (h18 : .pow ∈ lz) (h19 : .spi ∈ lz) :
    dz.changesOnly lz (ringCopyReceive r p b seen good rx tx d).2 ↔ dz.changesOnly lz d :=
  fr_of (fun p hp => absurd (by cases p <;> assumption) hp)

theorem fr_ringCopyIn {dz : Dev} {lz : List Part} (r p : Nat) (b : List Byte) (good : Bool) (rx tx : Nat) (d : Dev) (h0 : .fresh ∈ lz) (h1 : .out ∈ lz) (h2 : .dict ∈ lz) (h3 : .access ∈ lz) (h4 : .tim ∈ lz) (h5 : .arch ∈ lz) (h6 : .flying ∈ lz) (h7 : .live ∈ lz) (h8 : .faults ∈ lz) (h9 : .net ∈ lz) (h10 : .host ∈ lz) (h11 : .lan ∈ lz) (h12 : .ecl ∈ lz) (h13 : .rings ∈ lz) (h14 : .ing ∈ lz) (h15 : .tab ∈ lz) (h16 : .eng ∈ lz) (h17 : .wave ∈ lz) (h18 : .pow ∈ lz) (h19 : .spi ∈ lz) :
    dz.changesOnly lz (ringCopyIn r p b good rx tx d) ↔ dz.changesOnly lz d :=
  fr_of (fun p hp => absurd (by cases p <;> assumption) hp)

theorem fr_pulseArrival {dz : Dev} {lz : List Part} (r roundTrip : Nat) (diff tether : Int) (d : Dev) (h0 : .dict ∈ lz) (h1 : .arch ∈ lz) (h2 : .flying ∈ lz) (h3 : .live ∈ lz) :
    dz.changesOnly lz (pulseArrival r roundTrip diff tether d) ↔ dz.changesOnly lz d := by
  simp only [pulseArrival, iff_self, ite_self, fr_ite, fr_tetherPulse, fr_replicaPulse, h0, h1, h2, h3]

theorem fr_setLatch {dz : Dev} {lz : List Part} (d : Dev) (off hi : Nat) (h0 : .access ∈ lz) :
    dz.changesOnly lz (Dev.setLatch d off hi) ↔ dz.changesOnly lz d := by
  simp only [Dev.setLatch, eq_self, iff_self, or_true, fr_setObj, h0]

theorem fr_readEffect {dz : Dev} {lz : List Part} (d : Dev) (off : Nat) (h0 : .access ∈ lz) (h1 : .tim ∈ lz) (h2 : .net ∈ lz) :
    dz.changesOnly lz (Dev.readEffect d off) ↔ dz.changesOnly lz d := by
  simp only [Dev.readEffect, iff_self, ite_self, fr_ite, fr_setLatch, fr_setTim, fr_tsqRead, h0, h1, h2]

theorem fr_bar0Read {dz : Dev} {lz : List Part} (d : Dev) (off : Nat) (h0 : .access ∈ lz) (h1 : .tim ∈ lz) (h2 : .net ∈ lz) :
    dz.changesOnly lz (Dev.bar0Read d off).2 ↔ dz.changesOnly lz d := by
  simp only [Dev.bar0Read, iff_self, ite_self, fr_ite_snd, fr_readEffect, h0, h1, h2]

theorem fr_registerRead {dz : Dev} {lz : List Part} (bar4 : Bool) (off : Nat) (wide : Bool) (d : Dev) (h0 : .out ∈ lz) (h1 : .dict ∈ lz) (h2 : .access ∈ lz) (h3 : .tim ∈ lz) (h4 : .flying ∈ lz) (h5 : .live ∈ lz) (h6 : .net ∈ lz) (h7 : .host ∈ lz) (h8 : .lan ∈ lz) :
    dz.changesOnly lz (registerRead bar4 off wide d) ↔ dz.changesOnly lz d := by
  simp only [registerRead, iff_self, ite_self, fr_ite, fr_ite_snd, fr_bar0Read, fr_emit, fr_unsupportedRequest, h0, h1, h2, h3, h4, h5, h6, h7, h8]

theorem fr_pinEpochAs {dz : Dev} {lz : List Part} (d : Dev) (p : Option PubEpoch) (which : Bool) (h0 : .tab ∈ lz) :
    dz.changesOnly lz (Dev.pinEpochAs d p which) ↔ dz.changesOnly lz d := by
  unfold Dev.pinEpochAs; repeat' (first | (simp only [iff_self, fr_setTab, h0]; done) | (with_reducible rfl) | (with_reducible refine (fr_foldl (fun _ _ => ?_)).trans ?_) | (with_reducible refine (fr_foldl_snd (fun _ _ => ?_)).trans ?_) | (with_reducible refine Iff.trans (fr_pair (by assumption)) ?_) | split | simp only [eq_self, iff_self, implies_true, forall_const, ite_self, true_or, or_true, fr_ite, fr_ite_snd, fr_foldl, fr_foldl_snd, fr_setTab, h0])

theorem fr_pinP {dz : Dev} {lz : List Part} (d : Dev) (h0 : .tab ∈ lz) :
    dz.changesOnly lz (pinP d) ↔ dz.changesOnly lz d := by
  simp only [pinP, iff_self, fr_rec_tab, fr_pinEpochAs, h0]

theorem fr_pinPMinus1 {dz : Dev} {lz : List Part} (d : Dev) (h0 : .tab ∈ lz) :
    dz.changesOnly lz (pinPMinus1 d) ↔ dz.changesOnly lz d := by
  simp only [pinPMinus1, iff_self, fr_rec_tab, fr_pinEpochAs, h0]

theorem fr_pinRelease {dz : Dev} {lz : List Part} (d : Dev) (h0 : .tab ∈ lz) :
    dz.changesOnly lz (pinRelease d) ↔ dz.changesOnly lz d := by
  simp only [pinRelease, iff_self, fr_setTab, h0]

theorem fr_writeGlobal {dz : Dev} {lz : List Part} (d : Dev) (off v : Nat) (h0 : .out ∈ lz) (h1 : .dict ∈ lz) (h2 : .faults ∈ lz) (h3 : .host ∈ lz) (h4 : .tab ∈ lz) (h5 : .pow ∈ lz) :
    dz.changesOnly lz (Dev.writeGlobal d off v) ↔ dz.changesOnly lz d := by
  simp only [Dev.writeGlobal, eq_self, iff_self, ite_self, true_or, or_true, fr_ite, fr_clearFirst, fr_setFlt, fr_setPcie, fr_setPow, fr_setTab, fr_bootGo, fr_intxPendClear, fr_pinP, fr_pinPMinus1, fr_pinRelease, h0, h1, h2, h3, h4, h5]

theorem fr_writeMbx {dz : Dev} {lz : List Part} (d : Dev) (m : Fin 16) (r v : Nat) (h0 : .fresh ∈ lz) (h1 : .out ∈ lz) (h2 : .dict ∈ lz) (h3 : .access ∈ lz) (h4 : .tim ∈ lz) (h5 : .arch ∈ lz) (h6 : .flying ∈ lz) (h7 : .live ∈ lz) (h8 : .faults ∈ lz) (h9 : .net ∈ lz) (h10 : .host ∈ lz) (h11 : .lan ∈ lz) (h12 : .ecl ∈ lz) (h13 : .rings ∈ lz) (h14 : .ing ∈ lz) (h15 : .tab ∈ lz) (h16 : .eng ∈ lz) (h17 : .wave ∈ lz) (h18 : .pow ∈ lz) (h19 : .spi ∈ lz) :
    dz.changesOnly lz (Dev.writeMbx d m r v) ↔ dz.changesOnly lz d :=
  fr_of (fun p hp => absurd (by cases p <;> assumption) hp)

theorem fr_writePort {dz : Dev} {lz : List Part} (d : Dev) (p r v : Nat) (h0 : .net ∈ lz) :
    dz.changesOnly lz (Dev.writePort d p r v) ↔ dz.changesOnly lz d := by
  simp only [Dev.writePort, iff_self, ite_self, fr_ite, fr_setTsq, h0]

theorem fr_queueCmd {dz : Dev} {lz : List Part} (d : Dev) (q cmd : Nat) (h0 : .out ∈ lz) (h1 : .dict ∈ lz) (h2 : .flying ∈ lz) (h3 : .live ∈ lz) (h4 : .net ∈ lz) (h5 : .host ∈ lz) (h6 : .lan ∈ lz) :
    dz.changesOnly lz (Dev.queueCmd d q cmd) ↔ dz.changesOnly lz d := by
  simp only [Dev.queueCmd, iff_self, ite_self, fr_ite, fr_detachCore, fr_resetQueue, fr_setQueue, fr_queueAttach, h0, h1, h2, h3, h4, h5, h6]

theorem fr_writeQueue {dz : Dev} {lz : List Part} (d : Dev) (q r v : Nat) (h0 : .out ∈ lz) (h1 : .dict ∈ lz) (h2 : .flying ∈ lz) (h3 : .live ∈ lz) (h4 : .net ∈ lz) (h5 : .host ∈ lz) (h6 : .lan ∈ lz) :
    dz.changesOnly lz (Dev.writeQueue d q r v) ↔ dz.changesOnly lz d := by
  simp only [Dev.writeQueue, iff_self, ite_self, fr_ite, fr_queueCmd, fr_setQueue, fr_writeRing, h0, h1, h2, h3, h4, h5, h6]

theorem fr_bar0Write {dz : Dev} {lz : List Part} (d : Dev) (off v : Nat) (h0 : .fresh ∈ lz) (h1 : .out ∈ lz) (h2 : .dict ∈ lz) (h3 : .access ∈ lz) (h4 : .tim ∈ lz) (h5 : .arch ∈ lz) (h6 : .flying ∈ lz) (h7 : .live ∈ lz) (h8 : .faults ∈ lz) (h9 : .net ∈ lz) (h10 : .host ∈ lz) (h11 : .lan ∈ lz) (h12 : .ecl ∈ lz) (h13 : .rings ∈ lz) (h14 : .ing ∈ lz) (h15 : .tab ∈ lz) (h16 : .eng ∈ lz) (h17 : .wave ∈ lz) (h18 : .pow ∈ lz) (h19 : .spi ∈ lz) :
    dz.changesOnly lz (Dev.bar0Write d off v) ↔ dz.changesOnly lz d :=
  fr_of (fun p hp => absurd (by cases p <;> assumption) hp)

theorem fr_bar4Write {dz : Dev} {lz : List Part} (d : Dev) (off v : Nat) (h0 : .out ∈ lz) (h1 : .dict ∈ lz) (h2 : .host ∈ lz) (h3 : .lan ∈ lz) :
    dz.changesOnly lz (Dev.bar4Write d off v) ↔ dz.changesOnly lz d := by
  simp only [Dev.bar4Write, iff_self, ite_self, fr_ite, fr_flushPending, fr_setPcie, h0, h1, h2, h3]

theorem fr_registerWrite {dz : Dev} {lz : List Part} (bar4 : Bool) (off : Nat) (wide : Bool) (v : Nat) (d : Dev) (h0 : .fresh ∈ lz) (h1 : .out ∈ lz) (h2 : .dict ∈ lz) (h3 : .access ∈ lz) (h4 : .tim ∈ lz) (h5 : .arch ∈ lz) (h6 : .flying ∈ lz) (h7 : .live ∈ lz) (h8 : .faults ∈ lz) (h9 : .net ∈ lz) (h10 : .host ∈ lz) (h11 : .lan ∈ lz) (h12 : .ecl ∈ lz) (h13 : .rings ∈ lz) (h14 : .ing ∈ lz) (h15 : .tab ∈ lz) (h16 : .eng ∈ lz) (h17 : .wave ∈ lz) (h18 : .pow ∈ lz) (h19 : .spi ∈ lz) :
    dz.changesOnly lz (registerWrite bar4 off wide v d) ↔ dz.changesOnly lz d :=
  fr_of (fun p hp => absurd (by cases p <;> assumption) hp)

theorem fr_hostWrite32 {dz : Dev} {lz : List Part} (off v : Nat) (d : Dev) (h0 : .fresh ∈ lz) (h1 : .out ∈ lz) (h2 : .dict ∈ lz) (h3 : .access ∈ lz) (h4 : .tim ∈ lz) (h5 : .arch ∈ lz) (h6 : .flying ∈ lz) (h7 : .live ∈ lz) (h8 : .faults ∈ lz) (h9 : .net ∈ lz) (h10 : .host ∈ lz) (h11 : .lan ∈ lz) (h12 : .ecl ∈ lz) (h13 : .rings ∈ lz) (h14 : .ing ∈ lz) (h15 : .tab ∈ lz) (h16 : .eng ∈ lz) (h17 : .wave ∈ lz) (h18 : .pow ∈ lz) (h19 : .spi ∈ lz) :
    dz.changesOnly lz (hostWrite32 off v d) ↔ dz.changesOnly lz d :=
  fr_of (fun p hp => absurd (by cases p <;> assumption) hp)

theorem fr_off {dz : Dev} {lz : List Part} (d : Dev) (h0 : .fresh ∈ lz) (h1 : .out ∈ lz) (h2 : .dict ∈ lz) (h3 : .access ∈ lz) (h4 : .tim ∈ lz) (h5 : .arch ∈ lz) (h6 : .flying ∈ lz) (h7 : .live ∈ lz) (h8 : .faults ∈ lz) (h9 : .net ∈ lz) (h10 : .host ∈ lz) (h11 : .lan ∈ lz) (h12 : .ecl ∈ lz) (h13 : .rings ∈ lz) (h14 : .ing ∈ lz) (h15 : .tab ∈ lz) (h16 : .eng ∈ lz) (h17 : .wave ∈ lz) (h18 : .pow ∈ lz) (h19 : .spi ∈ lz) :
    dz.changesOnly lz (Dev.off d) ↔ dz.changesOnly lz d :=
  fr_of (fun p hp => absurd (by cases p <;> assumption) hp)

theorem fr_ringDecide {dz : Dev} {lz : List Part} (d : Dev) (r cycle built : Nat) (h0 : .dict ∈ lz) (h1 : .flying ∈ lz) (h2 : .rings ∈ lz) :
    dz.changesOnly lz (Dev.ringDecide d r cycle built) ↔ dz.changesOnly lz d := by
  unfold Dev.ringDecide; repeat' (first | (simp only [iff_self, ite_self, fr_ite, fr_inc, fr_put, fr_raise, fr_updRing, h0, h1, h2]; done) | (with_reducible rfl) | (with_reducible refine (fr_foldl (fun _ _ => ?_)).trans ?_) | (with_reducible refine (fr_foldl_snd (fun _ _ => ?_)).trans ?_) | (with_reducible refine Iff.trans (fr_pair (by assumption)) ?_) | split | simp only [eq_self, iff_self, implies_true, forall_const, ite_self, true_or, or_true, fr_ite, fr_ite_snd, fr_foldl, fr_foldl_snd, fr_inc, fr_put, fr_raise, fr_updRing, h0, h1, h2])

theorem fr_ringCycleOriginate {dz : Dev} {lz : List Part} (r edge : Nat) (d : Dev) (h0 : .out ∈ lz) (h1 : .dict ∈ lz) (h2 : .tim ∈ lz) (h3 : .flying ∈ lz) (h4 : .host ∈ lz) (h5 : .lan ∈ lz) (h6 : .rings ∈ lz) :
    dz.changesOnly lz (ringCycleOriginate r edge d) ↔ dz.changesOnly lz d := by
  simp only [ringCycleOriginate, iff_self, ite_self, fr_ite, fr_at_, fr_chooseOut, fr_emit, fr_finishSlot, fr_put, fr_ringBabble, fr_ringDecide, fr_updRing, h0, h1, h2, h3, h4, h5, h6]

theorem fr_ringSilenceTimeout {dz : Dev} {lz : List Part} (r : Nat) (d : Dev) (h0 : .dict ∈ lz) (h1 : .tim ∈ lz) (h2 : .rings ∈ lz) :
    dz.changesOnly lz (ringSilenceTimeout r d) ↔ dz.changesOnly lz d := by
  simp only [ringSilenceTimeout, iff_self, ite_self, fr_ite, fr_at_, fr_put, fr_ringGo, fr_updRing, h0, h1, h2]

theorem fr_coldStartWait {dz : Dev} {lz : List Part} (r : Nat) (d : Dev) (h0 : .dict ∈ lz) (h1 : .tim ∈ lz) (h2 : .rings ∈ lz) :
    dz.changesOnly lz (coldStartWait r d) ↔ dz.changesOnly lz d := by
  simp only [coldStartWait, iff_self, ite_self, fr_ite, fr_at_, fr_put, fr_updRing, h0, h1, h2]

theorem fr_ringSlotPoll {dz : Dev} {lz : List Part} (r : Nat) (d : Dev) (h0 : .dict ∈ lz) (h1 : .tim ∈ lz) (h2 : .host ∈ lz) :
    dz.changesOnly lz (ringSlotPoll r d) ↔ dz.changesOnly lz d := by
  unfold ringSlotPoll; repeat' (first | (simp only [iff_self, ite_self, fr_ite, fr_at_, fr_setQueue, h0, h1, h2]; done) | (with_reducible rfl) | (with_reducible refine (fr_foldl (fun _ _ => ?_)).trans ?_) | (with_reducible refine (fr_foldl_snd (fun _ _ => ?_)).trans ?_) | (with_reducible refine Iff.trans (fr_pair (by assumption)) ?_) | split | simp only [eq_self, iff_self, implies_true, forall_const, ite_self, true_or, or_true, fr_ite, fr_ite_snd, fr_foldl, fr_foldl_snd, fr_at_, fr_setQueue, h0, h1, h2])

theorem fr_ringPropose_some {dz : Dev} {lz : List Part} {d y : Dev} {r a t : Nat} (h : d.ringPropose r a t = some y) (h0 : .dict ∈ lz)
    (h1 : .rings ∈ lz) : dz.changesOnly lz y ↔ dz.changesOnly lz d := by
  simp only [Dev.ringPropose] at h
  split at h
  · exact absurd h (by simp)
  · obtain rfl := Option.some.inj h; simp only [fr_put, fr_updRing, h0, h1]

theorem fr_ringModeSwitch {dz : Dev} {lz : List Part} (r : Nat) (d : Dev) (h0 : .dict ∈ lz) (h1 : .tim ∈ lz) (h2 : .rings ∈ lz) :
    dz.changesOnly lz (ringModeSwitch r d) ↔ dz.changesOnly lz d := by
  unfold ringModeSwitch; repeat' (first | (simp only [iff_self, ite_self, fr_ite, fr_at_, fr_put, fr_updRing, h0, h1, h2]; done) | (with_reducible rfl) | (with_reducible refine (fr_foldl (fun _ _ => ?_)).trans ?_) | (with_reducible refine (fr_foldl_snd (fun _ _ => ?_)).trans ?_) | (with_reducible refine Iff.trans (fr_pair (by assumption)) ?_) | split | simp only [eq_self, iff_self, implies_true, forall_const, ite_self, true_or, or_true, fr_ite, fr_ite_snd, fr_foldl, fr_foldl_snd, fr_at_, fr_put, fr_updRing, h0, h1, h2])

theorem fr_ringReceiveSide {dz : Dev} {lz : List Part} (r p : Nat) (up : Bool) (d : Dev) (h0 : .rings ∈ lz) :
    dz.changesOnly lz (ringReceiveSide r p up d) ↔ dz.changesOnly lz d := by
  simp only [ringReceiveSide, iff_self, fr_updRing, h0]

theorem fr_ringInsert {dz : Dev} {lz : List Part} (r : Nat) (d : Dev) (h0 : .out ∈ lz) (h1 : .dict ∈ lz) (h2 : .rings ∈ lz) :
    dz.changesOnly lz (ringInsert r d) ↔ dz.changesOnly lz d := by
  simp only [ringInsert, iff_self, ite_self, fr_ite, fr_bypass, fr_put, fr_updRing, h0, h1, h2]

theorem fr_relaySettle {dz : Dev} {lz : List Part} (r : Nat) (d : Dev) (h0 : .dict ∈ lz) (h1 : .tim ∈ lz) (h2 : .rings ∈ lz) :
    dz.changesOnly lz (relaySettle r d) ↔ dz.changesOnly lz d := by
  unfold relaySettle; repeat' (first | (simp only [iff_self, fr_at_, fr_put, fr_ringGo, fr_setRing, fr_updRing, h0, h1, h2]; done) | (with_reducible rfl) | (with_reducible refine (fr_foldl (fun _ _ => ?_)).trans ?_) | (with_reducible refine (fr_foldl_snd (fun _ _ => ?_)).trans ?_) | (with_reducible refine Iff.trans (fr_pair (by assumption)) ?_) | split | simp only [eq_self, iff_self, implies_true, forall_const, ite_self, true_or, or_true, fr_ite, fr_ite_snd, fr_foldl, fr_foldl_snd, fr_at_, fr_put, fr_ringGo, fr_setRing, fr_updRing, h0, h1, h2])

theorem fr_ringApplied {dz : Dev} {lz : List Part} (d : Dev) (o e : Nat) (h0 : .dict ∈ lz) (h1 : .rings ∈ lz) :
    dz.changesOnly lz (Dev.ringApplied d o e) ↔ dz.changesOnly lz d := by
  simp only [Dev.ringApplied, iff_self, ite_self, fr_ite, fr_put, fr_updRing, h0, h1]

theorem fr_poisonSig {dz : Dev} {lz : List Part} (d : Dev) (i q : Nat) (h0 : .dict ∈ lz) (h1 : .flying ∈ lz) (h2 : .tab ∈ lz) :
    dz.changesOnly lz (Dev.poisonSig d i q) ↔ dz.changesOnly lz d := by
  simp only [Dev.poisonSig, iff_self, ite_self, fr_ite, fr_inc, fr_put, fr_raise, fr_setRec, fr_setRegion, h0, h1, h2]

theorem fr_headerError {dz : Dev} {lz : List Part} (d : Dev) (i : Nat) (readable : Bool) (h0 : .dict ∈ lz) (h1 : .flying ∈ lz) (h2 : .tab ∈ lz) :
    dz.changesOnly lz (Dev.headerError d i readable) ↔ dz.changesOnly lz d := by
  simp only [Dev.headerError, iff_self, fr_poisonSig, fr_setRec, h0, h1, h2]

theorem fr_slotError {dz : Dev} {lz : List Part} (d : Dev) (i k : Nat) (h0 : .dict ∈ lz) (h1 : .flying ∈ lz) (h2 : .tab ∈ lz) :
    dz.changesOnly lz (Dev.slotError d i k) ↔ dz.changesOnly lz d := by
  simp only [Dev.slotError, iff_self, fr_poisonSig, fr_setRec, h0, h1, h2]

theorem fr_hbmBad {dz : Dev} {lz : List Part} (d : Dev) (w : HbmWord) (h0 : .out ∈ lz) (h1 : .dict ∈ lz) (h2 : .flying ∈ lz) (h3 : .live ∈ lz) (h4 : .host ∈ lz) (h5 : .lan ∈ lz) (h6 : .ing ∈ lz) (h7 : .tab ∈ lz) (h8 : .wave ∈ lz) :
    dz.changesOnly lz (Dev.hbmBad d w) ↔ dz.changesOnly lz d := by
  unfold Dev.hbmBad; repeat' (first | (simp only [iff_self, implies_true, ite_self, fr_ite, fr_foldl, fr_headerError, fr_put, fr_queueError, fr_raise, fr_setCapture, fr_setIng, fr_setWchan, fr_showCapture, fr_slotError, h0, h1, h2, h3, h4, h5, h6, h7, h8]; done) | (with_reducible rfl) | (with_reducible refine (fr_foldl (fun _ _ => ?_)).trans ?_) | (with_reducible refine (fr_foldl_snd (fun _ _ => ?_)).trans ?_) | (with_reducible refine Iff.trans (fr_pair (by assumption)) ?_) | split | simp only [eq_self, iff_self, implies_true, forall_const, ite_self, true_or, or_true, fr_ite, fr_ite_snd, fr_foldl, fr_foldl_snd, fr_headerError, fr_put, fr_queueError, fr_raise, fr_setCapture, fr_setIng, fr_setWchan, fr_showCapture, fr_slotError, h0, h1, h2, h3, h4, h5, h6, h7, h8])

theorem fr_hbmCheck {dz : Dev} {lz : List Part} (d : Dev) (stack addr : Nat) (v : EccCheck) (w : HbmWord) (h0 : .out ∈ lz) (h1 : .dict ∈ lz) (h2 : .flying ∈ lz) (h3 : .live ∈ lz) (h4 : .host ∈ lz) (h5 : .lan ∈ lz) (h6 : .ing ∈ lz) (h7 : .tab ∈ lz) (h8 : .wave ∈ lz) :
    dz.changesOnly lz (Dev.hbmCheck d stack addr v w) ↔ dz.changesOnly lz d := by
  unfold Dev.hbmCheck; repeat' (first | (simp only [iff_self, fr_ite, fr_hbmBad, fr_inc, fr_raise, h0, h1, h2, h3, h4, h5, h6, h7, h8]; done) | (with_reducible rfl) | (with_reducible refine (fr_foldl (fun _ _ => ?_)).trans ?_) | (with_reducible refine (fr_foldl_snd (fun _ _ => ?_)).trans ?_) | (with_reducible refine Iff.trans (fr_pair (by assumption)) ?_) | split | simp only [eq_self, iff_self, implies_true, forall_const, ite_self, true_or, or_true, fr_ite, fr_ite_snd, fr_foldl, fr_foldl_snd, fr_hbmBad, fr_inc, fr_raise, h0, h1, h2, h3, h4, h5, h6, h7, h8])

theorem fr_hbmWord {dz : Dev} {lz : List Part} (d : Dev) (stack addr : Nat) (v : EccCheck) (w : HbmWord) (h0 : .out ∈ lz) (h1 : .dict ∈ lz) (h2 : .flying ∈ lz) (h3 : .live ∈ lz) (h4 : .faults ∈ lz) (h5 : .host ∈ lz) (h6 : .lan ∈ lz) (h7 : .ing ∈ lz) (h8 : .tab ∈ lz) (h9 : .wave ∈ lz) :
    dz.changesOnly lz (Dev.hbmWord d stack addr v w) ↔ dz.changesOnly lz d := by
  simp only [Dev.hbmWord, iff_self, ite_self, fr_ite, fr_fire, fr_hbmCheck, fr_markInjected, h0, h1, h2, h3, h4, h5, h6, h7, h8, h9]

theorem fr_passEnd {dz : Dev} {lz : List Part} (d : Dev) (stack : Nat) (h0 : .dict ∈ lz) (h1 : .flying ∈ lz) (h2 : .faults ∈ lz) :
    dz.changesOnly lz (Dev.passEnd d stack) ↔ dz.changesOnly lz d := by
  simp only [Dev.passEnd, eq_self, iff_self, ite_self, true_or, or_true, fr_ite, fr_inc, fr_raise, fr_setFlt, h0, h1, h2]

theorem fr_scrubRecord {dz : Dev} {lz : List Part} (d : Dev) (i : Nat) (h0 : .tab ∈ lz) :
    dz.changesOnly lz (Dev.scrubRecord d i) ↔ dz.changesOnly lz d := by
  simp only [Dev.scrubRecord, iff_self, ite_self, fr_ite, fr_setRec, h0]

theorem fr_scrubRead {dz : Dev} {lz : List Part} (stack addr : Nat) (v : EccCheck) (w : HbmWord) (d : Dev) (h0 : .out ∈ lz) (h1 : .dict ∈ lz) (h2 : .tim ∈ lz) (h3 : .flying ∈ lz) (h4 : .live ∈ lz) (h5 : .faults ∈ lz) (h6 : .host ∈ lz) (h7 : .lan ∈ lz) (h8 : .ing ∈ lz) (h9 : .tab ∈ lz) (h10 : .wave ∈ lz) :
    dz.changesOnly lz (scrubRead stack addr v w d) ↔ dz.changesOnly lz d := by
  unfold scrubRead; repeat' (first | (simp only [iff_self, ite_self, fr_ite, fr_at_, fr_hbmWord, fr_passEnd, fr_scrubRecord, h0, h1, h2, h3, h4, h5, h6, h7, h8, h9, h10]; done) | (with_reducible rfl) | (with_reducible refine (fr_foldl (fun _ _ => ?_)).trans ?_) | (with_reducible refine (fr_foldl_snd (fun _ _ => ?_)).trans ?_) | (with_reducible refine Iff.trans (fr_pair (by assumption)) ?_) | split | simp only [eq_self, iff_self, implies_true, forall_const, ite_self, true_or, or_true, fr_ite, fr_ite_snd, fr_foldl, fr_foldl_snd, fr_at_, fr_hbmWord, fr_passEnd, fr_scrubRecord, h0, h1, h2, h3, h4, h5, h6, h7, h8, h9, h10])

theorem fr_hbmUncorrectable {dz : Dev} {lz : List Part} (stack addr : Nat) (w : HbmWord) (d : Dev) (h0 : .out ∈ lz) (h1 : .dict ∈ lz) (h2 : .flying ∈ lz) (h3 : .live ∈ lz) (h4 : .faults ∈ lz) (h5 : .host ∈ lz) (h6 : .lan ∈ lz) (h7 : .ing ∈ lz) (h8 : .tab ∈ lz) (h9 : .wave ∈ lz) :
    dz.changesOnly lz (hbmUncorrectable stack addr w d) ↔ dz.changesOnly lz d := by
  simp only [hbmUncorrectable, iff_self, ite_self, fr_ite, fr_hbmWord, h0, h1, h2, h3, h4, h5, h6, h7, h8, h9]

theorem fr_sbFlag {dz : Dev} {lz : List Part} (d : Dev) (k : Nat) (h0 : .spi ∈ lz) :
    dz.changesOnly lz (Dev.sbFlag d k) ↔ dz.changesOnly lz d :=
  fr_of (fun p hp => by cases p <;> first | rfl | (exact absurd ‹_› hp))

theorem fr_sbDiscard {dz : Dev} {lz : List Part} (d : Dev) (k : Nat) (h0 : .spi ∈ lz) :
    dz.changesOnly lz (Dev.sbDiscard d k) ↔ dz.changesOnly lz d := by
  simp only [Dev.sbDiscard, iff_self, fr_rec_spi, fr_sbFlag, h0]

theorem fr_spiCommit {dz : Dev} {lz : List Part} (d : Dev) (ws : List Nat) (h0 : .fresh ∈ lz) (h1 : .out ∈ lz) (h2 : .dict ∈ lz) (h3 : .access ∈ lz) (h4 : .tim ∈ lz) (h5 : .arch ∈ lz) (h6 : .flying ∈ lz) (h7 : .live ∈ lz) (h8 : .faults ∈ lz) (h9 : .net ∈ lz) (h10 : .host ∈ lz) (h11 : .lan ∈ lz) (h12 : .ecl ∈ lz) (h13 : .rings ∈ lz) (h14 : .ing ∈ lz) (h15 : .tab ∈ lz) (h16 : .eng ∈ lz) (h17 : .wave ∈ lz) (h18 : .pow ∈ lz) (h19 : .spi ∈ lz) :
    dz.changesOnly lz (Dev.spiCommit d ws) ↔ dz.changesOnly lz d :=
  fr_of (fun p hp => absurd (by cases p <;> assumption) hp)

theorem fr_spiFrame {dz : Dev} {lz : List Part} (ws : List Nat) (e : Nat) (d : Dev) (h0 : .fresh ∈ lz) (h1 : .out ∈ lz) (h2 : .dict ∈ lz) (h3 : .access ∈ lz) (h4 : .tim ∈ lz) (h5 : .arch ∈ lz) (h6 : .flying ∈ lz) (h7 : .live ∈ lz) (h8 : .faults ∈ lz) (h9 : .net ∈ lz) (h10 : .host ∈ lz) (h11 : .lan ∈ lz) (h12 : .ecl ∈ lz) (h13 : .rings ∈ lz) (h14 : .ing ∈ lz) (h15 : .tab ∈ lz) (h16 : .eng ∈ lz) (h17 : .wave ∈ lz) (h18 : .pow ∈ lz) (h19 : .spi ∈ lz) :
    dz.changesOnly lz (spiFrame ws e d) ↔ dz.changesOnly lz d :=
  fr_of (fun p hp => absurd (by cases p <;> assumption) hp)

theorem fr_prepareLead {dz : Dev} {lz : List Part} (k : Nat) (d : Dev) (h0 : .out ∈ lz) (h1 : .dict ∈ lz) (h2 : .access ∈ lz) (h3 : .tim ∈ lz) (h4 : .flying ∈ lz) (h5 : .lan ∈ lz) :
    dz.changesOnly lz (prepareLead k d) ↔ dz.changesOnly lz d := by
  simp only [prepareLead, iff_self, ite_self, fr_ite, fr_at_, fr_sesSend, h0, h1, h2, h3, h4, h5]

theorem fr_syzygyRetry {dz : Dev} {lz : List Part} (k : Nat) (d : Dev) (h0 : .out ∈ lz) (h1 : .dict ∈ lz) (h2 : .access ∈ lz) (h3 : .tim ∈ lz) (h4 : .flying ∈ lz) (h5 : .lan ∈ lz) :
    dz.changesOnly lz (syzygyRetry k d) ↔ dz.changesOnly lz d := by
  simp only [syzygyRetry, iff_self, ite_self, fr_ite, fr_at_, fr_sesSend, h0, h1, h2, h3, h4, h5]

theorem fr_confirmDeadline {dz : Dev} {lz : List Part} (k : Nat) (d : Dev) (h0 : .out ∈ lz) (h1 : .dict ∈ lz) (h2 : .access ∈ lz) (h3 : .tim ∈ lz) (h4 : .flying ∈ lz) (h5 : .lan ∈ lz) :
    dz.changesOnly lz (confirmDeadline k d) ↔ dz.changesOnly lz d := by
  simp only [confirmDeadline, iff_self, ite_self, fr_ite, fr_at_, fr_put, fr_sesAbort, h0, h1, h2, h3, h4, h5]

theorem fr_guardDeadline {dz : Dev} {lz : List Part} (id : Nat) (d : Dev) (h0 : .dict ∈ lz) (h1 : .access ∈ lz) (h2 : .tim ∈ lz) (h3 : .flying ∈ lz) :
    dz.changesOnly lz (guardDeadline id d) ↔ dz.changesOnly lz d := by
  unfold guardDeadline; repeat' (first | (simp only [iff_self, implies_true, ite_self, fr_ite, fr_foldl, fr_at_, fr_endSlot, fr_put, fr_raise, h0, h1, h2, h3]; done) | (with_reducible rfl) | (with_reducible refine (fr_foldl (fun _ _ => ?_)).trans ?_) | (with_reducible refine (fr_foldl_snd (fun _ _ => ?_)).trans ?_) | (with_reducible refine Iff.trans (fr_pair (by assumption)) ?_) | split | simp only [eq_self])

theorem fr_tick {dz : Dev} {lz : List Part} (d : Dev) (h0 : .tim ∈ lz) :
    dz.changesOnly lz (tick d) ↔ dz.changesOnly lz d :=
  fr_of (fun p hp => by cases p <;> first | rfl | (exact absurd ‹_› hp))

theorem fr_showRef {dz : Dev} {lz : List Part} (d : Dev) (r : Nat) (h0 : .dict ∈ lz) :
    dz.changesOnly lz (Dev.showRef d r) ↔ dz.changesOnly lz d := by
  simp only [Dev.showRef, iff_self, ite_self, fr_ite, fr_put, h0]

theorem fr_refInput {dz : Dev} {lz : List Part} (d : Dev) (r t label : Nat) (h0 : .dict ∈ lz) (h1 : .tim ∈ lz) (h2 : .flying ∈ lz) (h3 : .live ∈ lz) :
    dz.changesOnly lz (Dev.refInput d r t label) ↔ dz.changesOnly lz d := by
  simp only [Dev.refInput, iff_self, ite_self, fr_ite, fr_leaveHoldover, fr_refEvent, fr_setRef, fr_showRef, h0, h1, h2, h3]

theorem fr_labelEdge {dz : Dev} {lz : List Part} (d : Dev) (n t : Nat) (h0 : .dict ∈ lz) (h1 : .tim ∈ lz) (h2 : .flying ∈ lz) (h3 : .live ∈ lz) :
    dz.changesOnly lz (Dev.labelEdge d n t) ↔ dz.changesOnly lz d := by
  unfold Dev.labelEdge; repeat' (first | (simp only [iff_self, ite_self, fr_ite, fr_inc, fr_refInput, fr_setTim, h0, h1, h2, h3]; done) | (with_reducible rfl) | (with_reducible refine (fr_foldl (fun _ _ => ?_)).trans ?_) | (with_reducible refine (fr_foldl_snd (fun _ _ => ?_)).trans ?_) | (with_reducible refine Iff.trans (fr_pair (by assumption)) ?_) | split | simp only [eq_self, iff_self, implies_true, forall_const, ite_self, true_or, or_true, fr_ite, fr_ite_snd, fr_foldl, fr_foldl_snd, fr_inc, fr_refInput, fr_setTim, h0, h1, h2, h3])

theorem fr_ppsEdge {dz : Dev} {lz : List Part} (n : Fin 2) (falling : Bool) (t width : Nat) (d : Dev) (h0 : .dict ∈ lz) (h1 : .tim ∈ lz) (h2 : .flying ∈ lz) (h3 : .live ∈ lz) :
    dz.changesOnly lz (ppsEdge n falling t width d) ↔ dz.changesOnly lz d := by
  simp only [ppsEdge, iff_self, ite_self, fr_ite, fr_at_, fr_inc, fr_labelEdge, fr_raiseAt, fr_setTim, h0, h1, h2, h3]

theorem fr_todPreceding {dz : Dev} {lz : List Part} (d : Dev) (l t : Nat) (h0 : .dict ∈ lz) (h1 : .tim ∈ lz) (h2 : .flying ∈ lz) (h3 : .live ∈ lz) :
    dz.changesOnly lz (Dev.todPreceding d l t).2 ↔ dz.changesOnly lz d := by
  unfold Dev.todPreceding; repeat' (first | (simp only [iff_self, ite_self, fr_ite_snd, fr_refInput, fr_setTim, h0, h1, h2, h3]; done) | (with_reducible rfl) | (with_reducible refine (fr_foldl (fun _ _ => ?_)).trans ?_) | (with_reducible refine (fr_foldl_snd (fun _ _ => ?_)).trans ?_) | (with_reducible refine Iff.trans (fr_pair (by assumption)) ?_) | split | simp only [eq_self])

theorem fr_todMessage {dz : Dev} {lz : List Part} (bs : List Byte) (t : Nat) (d : Dev) (h0 : .dict ∈ lz) (h1 : .tim ∈ lz) (h2 : .flying ∈ lz) (h3 : .live ∈ lz) :
    dz.changesOnly lz (todMessage bs t d) ↔ dz.changesOnly lz d := by
  unfold todMessage; repeat' (first | (simp only [iff_self, ite_self, fr_ite, fr_at_, fr_inc, fr_resolveUtc, fr_setTim, fr_todPreceding, h0, h1, h2, h3]; done) | (with_reducible rfl) | (with_reducible refine (fr_foldl (fun _ _ => ?_)).trans ?_) | (with_reducible refine (fr_foldl_snd (fun _ _ => ?_)).trans ?_) | (with_reducible refine Iff.trans (fr_pair (by assumption)) ?_) | split | simp only [fr_ite, fr_at_, h1])

theorem fr_todNotCurrent {dz : Dev} {lz : List Part} (d : Dev) (h0 : .tim ∈ lz) :
    dz.changesOnly lz (todNotCurrent d) ↔ dz.changesOnly lz d := by
  unfold todNotCurrent; repeat' (first | (simp only [iff_self, fr_at_, fr_resolveUtc, fr_setTim, h0]; done) | (with_reducible rfl) | (with_reducible refine (fr_foldl (fun _ _ => ?_)).trans ?_) | (with_reducible refine (fr_foldl_snd (fun _ _ => ?_)).trans ?_) | (with_reducible refine Iff.trans (fr_pair (by assumption)) ?_) | split | simp only [eq_self, iff_self, implies_true, forall_const, ite_self, true_or, or_true, fr_ite, fr_ite_snd, fr_foldl, fr_foldl_snd, fr_at_, fr_resolveUtc, fr_setTim, h0])

theorem fr_irigFrame {dz : Dev} {lz : List Part} (f : IrigFrame) (d : Dev) (h0 : .dict ∈ lz) (h1 : .tim ∈ lz) (h2 : .flying ∈ lz) (h3 : .live ∈ lz) :
    dz.changesOnly lz (irigFrame f d) ↔ dz.changesOnly lz d := by
  unfold irigFrame; repeat' (first | (simp only [iff_self, ite_self, fr_ite, fr_at_, fr_inc, fr_put, fr_refInput, fr_resolveUtc, fr_setTim, h0, h1, h2, h3]; done) | (with_reducible rfl) | (with_reducible refine (fr_foldl (fun _ _ => ?_)).trans ?_) | (with_reducible refine (fr_foldl_snd (fun _ _ => ?_)).trans ?_) | (with_reducible refine Iff.trans (fr_pair (by assumption)) ?_) | split | simp only [eq_self, iff_self, implies_true, forall_const, ite_self, true_or, or_true, fr_ite, fr_ite_snd, fr_foldl, fr_foldl_snd, fr_at_, fr_inc, fr_put, fr_refInput, fr_resolveUtc, fr_setTim, h0, h1, h2, h3])

theorem fr_trigEdge {dz : Dev} {lz : List Part} (n : Fin 8) (falling : Bool) (t width : Nat) (d : Dev) (h0 : .dict ∈ lz) (h1 : .tim ∈ lz) (h2 : .flying ∈ lz) :
    dz.changesOnly lz (trigEdge n falling t width d) ↔ dz.changesOnly lz d := by
  simp only [trigEdge, iff_self, ite_self, fr_ite, fr_at_, fr_inc, fr_raiseAt, fr_setTim, h0, h1, h2]

theorem fr_ppsOutPulse {dz : Dev} {lz : List Part} (n : Fin 4) (d : Dev) (h0 : .out ∈ lz) (h1 : .tim ∈ lz) :
    dz.changesOnly lz (ppsOutPulse n d) ↔ dz.changesOnly lz d := by
  simp only [ppsOutPulse, iff_self, ite_self, fr_ite, fr_at_, fr_emit, fr_setTim, h0, h1]

theorem fr_irigOutFrame {dz : Dev} {lz : List Part} (d : Dev) (h0 : .out ∈ lz) (h1 : .tim ∈ lz) :
    dz.changesOnly lz (irigOutFrame d) ↔ dz.changesOnly lz d := by
  simp only [irigOutFrame, iff_self, ite_self, fr_ite, fr_at_, fr_emit, fr_setTim, h0, h1]

theorem fr_trigOutPulse {dz : Dev} {lz : List Part} (n : Fin 8) (d : Dev) (h0 : .out ∈ lz) (h1 : .dict ∈ lz) (h2 : .tim ∈ lz) :
    dz.changesOnly lz (trigOutPulse n d) ↔ dz.changesOnly lz d := by
  simp only [trigOutPulse, iff_self, ite_self, fr_ite, fr_at_, fr_emit, fr_put, fr_setTim, h0, h1, h2]

theorem fr_leapSecond {dz : Dev} {lz : List Part} (d : Dev) (h0 : .tim ∈ lz) :
    dz.changesOnly lz (leapSecond d) ↔ dz.changesOnly lz d := by
  simp only [leapSecond, iff_self, ite_self, fr_ite, fr_at_, fr_resolveUtc, fr_setTim, h0]

theorem fr_passLease {dz : Dev} {lz : List Part} (d : Dev) (h0 : .dict ∈ lz) (h1 : .tim ∈ lz) (h2 : .flying ∈ lz) (h3 : .live ∈ lz) :
    dz.changesOnly lz (Dev.passLease d) ↔ dz.changesOnly lz d := by
  simp only [Dev.passLease, iff_self, ite_self, fr_ite, fr_acquire, fr_raise, fr_setLive, h0, h1, h2, h3]

theorem fr_leaseExpiry {dz : Dev} {lz : List Part} (d : Dev) (h0 : .dict ∈ lz) (h1 : .tim ∈ lz) (h2 : .flying ∈ lz) (h3 : .live ∈ lz) :
    dz.changesOnly lz (leaseExpiry d) ↔ dz.changesOnly lz d := by
  unfold leaseExpiry; repeat' (first | (simp only [iff_self, fr_at_, fr_demote, fr_passLease, h0, h1, h2, h3]; done) | (with_reducible rfl) | (with_reducible refine (fr_foldl (fun _ _ => ?_)).trans ?_) | (with_reducible refine (fr_foldl_snd (fun _ _ => ?_)).trans ?_) | (with_reducible refine Iff.trans (fr_pair (by assumption)) ?_) | split | simp only [eq_self, iff_self, implies_true, forall_const, ite_self, true_or, or_true, fr_ite, fr_ite_snd, fr_foldl, fr_foldl_snd, fr_at_, fr_demote, fr_passLease, h0, h1, h2, h3])

theorem fr_leaseRenewal {dz : Dev} {lz : List Part} (d : Dev) (h0 : .tim ∈ lz) :
    dz.changesOnly lz (leaseRenewal d) ↔ dz.changesOnly lz d := by
  unfold leaseRenewal; repeat' (first | (simp only [iff_self, fr_at_, fr_setTim, h0]; done) | (with_reducible rfl) | (with_reducible refine (fr_foldl (fun _ _ => ?_)).trans ?_) | (with_reducible refine (fr_foldl_snd (fun _ _ => ?_)).trans ?_) | (with_reducible refine Iff.trans (fr_pair (by assumption)) ?_) | split | simp only [eq_self, iff_self, implies_true, forall_const, ite_self, true_or, or_true, fr_ite, fr_ite_snd, fr_foldl, fr_foldl_snd, fr_at_, fr_setTim, h0])

theorem fr_leaseRenewalMissed {dz : Dev} {lz : List Part} (d : Dev) (h0 : .tim ∈ lz) (h1 : .flying ∈ lz) :
    dz.changesOnly lz (leaseRenewalMissed d) ↔ dz.changesOnly lz d := by
  unfold leaseRenewalMissed; repeat' (first | (simp only [iff_self, ite_self, fr_ite, fr_at_, fr_raise, fr_setTim, h0, h1]; done) | (with_reducible rfl) | (with_reducible refine (fr_foldl (fun _ _ => ?_)).trans ?_) | (with_reducible refine (fr_foldl_snd (fun _ _ => ?_)).trans ?_) | (with_reducible refine Iff.trans (fr_pair (by assumption)) ?_) | split | simp only [eq_self, iff_self, implies_true, forall_const, ite_self, true_or, or_true, fr_ite, fr_ite_snd, fr_foldl, fr_foldl_snd, fr_at_, fr_raise, fr_setTim, h0, h1])

theorem fr_holderPulseMissing {dz : Dev} {lz : List Part} (d : Dev) (h0 : .dict ∈ lz) (h1 : .tim ∈ lz) (h2 : .flying ∈ lz) :
    dz.changesOnly lz (holderPulseMissing d) ↔ dz.changesOnly lz d := by
  unfold holderPulseMissing; repeat' (first | (simp only [iff_self, ite_self, fr_ite, fr_at_, fr_demote, fr_setTim, h0, h1, h2]; done) | (with_reducible rfl) | (with_reducible refine (fr_foldl (fun _ _ => ?_)).trans ?_) | (with_reducible refine (fr_foldl_snd (fun _ _ => ?_)).trans ?_) | (with_reducible refine Iff.trans (fr_pair (by assumption)) ?_) | split | simp only [eq_self, iff_self, implies_true, forall_const, ite_self, true_or, or_true, fr_ite, fr_ite_snd, fr_foldl, fr_foldl_snd, fr_at_, fr_demote, fr_setTim, h0, h1, h2])

theorem fr_oscillatorCheck {dz : Dev} {lz : List Part} (k : TkId) (ppb : Int) (d : Dev) (h0 : .dict ∈ lz) (h1 : .tim ∈ lz) (h2 : .flying ∈ lz) :
    dz.changesOnly lz (oscillatorCheck k ppb d) ↔ dz.changesOnly lz d := by
  simp only [oscillatorCheck, iff_self, ite_self, fr_ite, fr_demote, fr_updTk, h0, h1, h2]

theorem fr_oscillatorLost {dz : Dev} {lz : List Part} (k : TkId) (d : Dev) (h0 : .dict ∈ lz) (h1 : .tim ∈ lz) (h2 : .flying ∈ lz) :
    dz.changesOnly lz (oscillatorLost k d) ↔ dz.changesOnly lz d := by
  simp only [oscillatorLost, iff_self, fr_demote, fr_updTk, h0, h1, h2]

theorem fr_oscillatorNotFitted {dz : Dev} {lz : List Part} (d : Dev) (h0 : .dict ∈ lz) (h1 : .tim ∈ lz) (h2 : .flying ∈ lz) :
    dz.changesOnly lz (oscillatorNotFitted d) ↔ dz.changesOnly lz d := by
  simp only [oscillatorNotFitted, iff_self, fr_demote, fr_updTk, h0, h1, h2]

theorem fr_holdoverLimitPassed {dz : Dev} {lz : List Part} (d : Dev) (h0 : .dict ∈ lz) (h1 : .tim ∈ lz) (h2 : .flying ∈ lz) (h3 : .live ∈ lz) :
    dz.changesOnly lz (holdoverLimitPassed d) ↔ dz.changesOnly lz d := by
  unfold holdoverLimitPassed; repeat' (first | (simp only [iff_self, fr_ite, fr_at_, fr_raise, fr_setLive, fr_setTim, h0, h1, h2, h3]; done) | (with_reducible rfl) | (with_reducible refine (fr_foldl (fun _ _ => ?_)).trans ?_) | (with_reducible refine (fr_foldl_snd (fun _ _ => ?_)).trans ?_) | (with_reducible refine Iff.trans (fr_pair (by assumption)) ?_) | split | simp only [eq_self, iff_self, implies_true, forall_const, ite_self, true_or, or_true, fr_ite, fr_ite_snd, fr_foldl, fr_foldl_snd, fr_at_, fr_raise, fr_setLive, fr_setTim, h0, h1, h2, h3])

theorem fr_arbitrationDecision {dz : Dev} {lz : List Part} (elapsed : Nat) (d : Dev) (h0 : .dict ∈ lz) (h1 : .tim ∈ lz) (h2 : .flying ∈ lz) (h3 : .live ∈ lz) :
    dz.changesOnly lz (arbitrationDecision elapsed d) ↔ dz.changesOnly lz d := by
  unfold arbitrationDecision; repeat' (first | (simp only [iff_self, fr_arbitrate, h0, h1, h2, h3]; done) | (with_reducible rfl) | (with_reducible refine (fr_foldl (fun _ _ => ?_)).trans ?_) | (with_reducible refine (fr_foldl_snd (fun _ _ => ?_)).trans ?_) | (with_reducible refine Iff.trans (fr_pair (by assumption)) ?_) | split | simp only [eq_self, iff_self, implies_true, forall_const, ite_self, true_or, or_true, fr_ite, fr_ite_snd, fr_foldl, fr_foldl_snd, fr_arbitrate, h0, h1, h2, h3])

theorem fr_referenceTimeout {dz : Dev} {lz : List Part} (r : Nat) (d : Dev) (h0 : .dict ∈ lz) (h1 : .tim ∈ lz) :
    dz.changesOnly lz (referenceTimeout r d) ↔ dz.changesOnly lz d := by
  unfold referenceTimeout; repeat' (first | (simp only [iff_self, ite_self, fr_ite, fr_at_, fr_checkHoldover, fr_resolveUtc, fr_setRef, fr_showRef, h0, h1]; done) | (with_reducible rfl) | (with_reducible refine (fr_foldl (fun _ _ => ?_)).trans ?_) | (with_reducible refine (fr_foldl_snd (fun _ _ => ?_)).trans ?_) | (with_reducible refine Iff.trans (fr_pair (by assumption)) ?_) | split | simp only [eq_self])

theorem fr_applyStep {dz : Dev} {lz : List Part} (d : Dev) (k : TkId) (h0 : .dict ∈ lz) (h1 : .tim ∈ lz) (h2 : .flying ∈ lz) :
    dz.changesOnly lz (Dev.applyStep d k) ↔ dz.changesOnly lz d := by
  unfold Dev.applyStep; repeat' (first | (simp only [iff_self, ite_self, fr_ite, fr_raise, fr_setTim, fr_skipPlans, fr_updTk, h0, h1, h2]; done) | (with_reducible rfl) | (with_reducible refine (fr_foldl (fun _ _ => ?_)).trans ?_) | (with_reducible refine (fr_foldl_snd (fun _ _ => ?_)).trans ?_) | (with_reducible refine Iff.trans (fr_pair (by assumption)) ?_) | split | simp only [eq_self, iff_self, implies_true, forall_const, ite_self, true_or, or_true, fr_ite, fr_ite_snd, fr_foldl, fr_foldl_snd, fr_raise, fr_setTim, fr_skipPlans, fr_updTk, h0, h1, h2])

theorem fr_slewHandover {dz : Dev} {lz : List Part} (d : Dev) (h0 : .tim ∈ lz) :
    dz.changesOnly lz (Dev.slewHandover d) ↔ dz.changesOnly lz d := by
  simp only [Dev.slewHandover, iff_self, fr_setTim, h0]

theorem fr_planRevert {dz : Dev} {lz : List Part} (d : Dev) (h0 : .tim ∈ lz) :
    dz.changesOnly lz (Dev.planRevert d) ↔ dz.changesOnly lz d := by
  simp only [Dev.planRevert, iff_self, fr_setTim, h0]

theorem fr_trackOther {dz : Dev} {lz : List Part} (d : Dev) (k : TkId) (h0 : .dict ∈ lz) (h1 : .tim ∈ lz) :
    dz.changesOnly lz (Dev.trackOther d k) ↔ dz.changesOnly lz d := by
  unfold Dev.trackOther; repeat' (first | (simp only [iff_self, ite_self, fr_ite, fr_planRevert, fr_put, fr_updTk, h0, h1]; done) | (with_reducible rfl) | (with_reducible refine (fr_foldl (fun _ _ => ?_)).trans ?_) | (with_reducible refine (fr_foldl_snd (fun _ _ => ?_)).trans ?_) | (with_reducible refine Iff.trans (fr_pair (by assumption)) ?_) | split | simp only [eq_self])

theorem fr_compare {dz : Dev} {lz : List Part} (d : Dev) (hold : TkId) (h0 : .dict ∈ lz) (h1 : .tim ∈ lz) (h2 : .live ∈ lz) :
    dz.changesOnly lz (Dev.compare d hold) ↔ dz.changesOnly lz d := by
  simp only [Dev.compare, iff_self, ite_self, fr_ite, fr_puti, fr_setLive, fr_setTim, fr_trackOther, h0, h1, h2]

theorem fr_alignmentPulse {dz : Dev} {lz : List Part} (d : Dev) (h0 : .out ∈ lz) (h1 : .dict ∈ lz) (h2 : .tim ∈ lz) (h3 : .flying ∈ lz) (h4 : .live ∈ lz) :
    dz.changesOnly lz (alignmentPulse d) ↔ dz.changesOnly lz d := by
  unfold alignmentPulse; repeat' (first | (simp only [iff_self, fr_applyStep, fr_at_, fr_compare, fr_emit, fr_reportHoldover, fr_setTim, fr_slewHandover, h0, h1, h2, h3, h4]; done) | (with_reducible rfl) | (with_reducible refine (fr_foldl (fun _ _ => ?_)).trans ?_) | (with_reducible refine (fr_foldl_snd (fun _ _ => ?_)).trans ?_) | (with_reducible refine Iff.trans (fr_pair (by assumption)) ?_) | split | simp only [eq_self, iff_self, implies_true, forall_const, ite_self, true_or, or_true, fr_ite, fr_ite_snd, fr_foldl, fr_foldl_snd, fr_applyStep, fr_at_, fr_compare, fr_emit, fr_reportHoldover, fr_setTim, fr_slewHandover, h0, h1, h2, h3, h4])

theorem fr_revertCheck {dz : Dev} {lz : List Part} (d : Dev) (h0 : .tim ∈ lz) :
    dz.changesOnly lz (revertCheck d) ↔ dz.changesOnly lz d := by
  unfold revertCheck; repeat' (first | (simp only [iff_self, ite_self, fr_ite, fr_at_, fr_setTim, h0]; done) | (with_reducible rfl) | (with_reducible refine (fr_foldl (fun _ _ => ?_)).trans ?_) | (with_reducible refine (fr_foldl_snd (fun _ _ => ?_)).trans ?_) | (with_reducible refine Iff.trans (fr_pair (by assumption)) ?_) | split | simp only [eq_self, iff_self, implies_true, forall_const, ite_self, true_or, or_true, fr_ite, fr_ite_snd, fr_foldl, fr_foldl_snd, fr_at_, fr_setTim, h0])

theorem fr_revert {dz : Dev} {lz : List Part} (d : Dev) (h0 : .out ∈ lz) (h1 : .dict ∈ lz) (h2 : .tim ∈ lz) (h3 : .live ∈ lz) :
    dz.changesOnly lz (revert d) ↔ dz.changesOnly lz d := by
  unfold revert; repeat' (first | (simp only [iff_self, ite_self, fr_ite, fr_acquire, fr_at_, fr_emit, fr_setTim, h0, h1, h2, h3]; done) | (with_reducible rfl) | (with_reducible refine (fr_foldl (fun _ _ => ?_)).trans ?_) | (with_reducible refine (fr_foldl_snd (fun _ _ => ?_)).trans ?_) | (with_reducible refine Iff.trans (fr_pair (by assumption)) ?_) | split | simp only [eq_self, iff_self, implies_true, forall_const, ite_self, true_or, or_true, fr_ite, fr_ite_snd, fr_foldl, fr_foldl_snd, fr_acquire, fr_at_, fr_emit, fr_setTim, h0, h1, h2, h3])

theorem fr_prospect {dz : Dev} {lz : List Part} (d : Dev) (l : List Key) (h0 : .dict ∈ lz) :
    dz.changesOnly lz (Dev.prospect d l) ↔ dz.changesOnly lz d := by
  simp only [Dev.prospect, iff_self, implies_true, fr_foldl, fr_put, fr_putB, fr_refreshChannels, h0]

theorem fr_readySlot {dz : Dev} {lz : List Part} (d : Dev) (k : Nat) (h0 : .dict ∈ lz) (h1 : .access ∈ lz) (h2 : .flying ∈ lz) (h3 : .rings ∈ lz) :
    dz.changesOnly lz (Dev.readySlot d k) ↔ dz.changesOnly lz d := by
  unfold Dev.readySlot; repeat' (first | (simp only [iff_self, fr_ite, fr_answerWaiting, fr_endSlot, fr_put, h0, h1, h2]; done) | (with_reducible rfl) | (with_reducible refine (fr_foldl (fun _ _ => ?_)).trans ?_) | (with_reducible refine (fr_foldl_snd (fun _ _ => ?_)).trans ?_) | (with_reducible refine Iff.trans (fr_pair (by assumption)) ?_) | (with_reducible refine Iff.trans (fr_ringPropose_some (by assumption) ‹_› ‹_›) ?_) | split | simp only [eq_self])

theorem fr_concludeSlot {dz : Dev} {lz : List Part} (d : Dev) (k : Nat) (h0 : .dict ∈ lz) (h1 : .access ∈ lz) (h2 : .flying ∈ lz) (h3 : .rings ∈ lz) :
    dz.changesOnly lz (Dev.concludeSlot d k) ↔ dz.changesOnly lz d := by
  unfold Dev.concludeSlot; repeat' (first | (simp only [iff_self, fr_endSlot, fr_put, fr_readySlot, h0, h1, h2, h3]; done) | (with_reducible rfl) | (with_reducible refine (fr_foldl (fun _ _ => ?_)).trans ?_) | (with_reducible refine (fr_foldl_snd (fun _ _ => ?_)).trans ?_) | (with_reducible refine Iff.trans (fr_pair (by assumption)) ?_) | split | simp only [eq_self, iff_self, implies_true, forall_const, ite_self, true_or, or_true, fr_ite, fr_ite_snd, fr_foldl, fr_foldl_snd, fr_endSlot, fr_put, fr_readySlot, h0, h1, h2, h3])

theorem fr_participantReport {dz : Dev} {lz : List Part} (k part : Nat) (d : Dev) (h0 : .dict ∈ lz) (h1 : .access ∈ lz) (h2 : .flying ∈ lz) (h3 : .rings ∈ lz) :
    dz.changesOnly lz (participantReport k part d) ↔ dz.changesOnly lz d := by
  simp only [participantReport, iff_self, ite_self, fr_ite, fr_concludeSlot, fr_setSlot, h0, h1, h2, h3]

theorem fr_allReadySample {dz : Dev} {lz : List Part} (k : Nat) (d : Dev) (h0 : .dict ∈ lz) (h1 : .access ∈ lz) (h2 : .tim ∈ lz) (h3 : .flying ∈ lz) :
    dz.changesOnly lz (allReadySample k d) ↔ dz.changesOnly lz d := by
  unfold allReadySample; repeat' (first | (simp only [iff_self, implies_true, ite_self, fr_ite, fr_foldl, fr_at_, fr_endSlot, fr_inc, fr_put, fr_raise, fr_setSlot, h0, h1, h2, h3]; done) | (with_reducible rfl) | (with_reducible refine (fr_foldl (fun _ _ => ?_)).trans ?_) | (with_reducible refine (fr_foldl_snd (fun _ _ => ?_)).trans ?_) | (with_reducible refine Iff.trans (fr_pair (by assumption)) ?_) | split | simp only [eq_self])

theorem fr_swapBank {dz : Dev} {lz : List Part} (d : Dev) (x : Key) (epoch : Option Nat) (h0 : .dict ∈ lz) (h1 : .access ∈ lz) :
    dz.changesOnly lz (Dev.swapBank d x epoch) ↔ dz.changesOnly lz d := by
  unfold Dev.swapBank; repeat' (first | (simp only [eq_self, iff_self, or_true, fr_put, fr_putB, fr_putSh, fr_putShB, fr_setObj, h0, h1]; done) | (with_reducible rfl) | (with_reducible refine (fr_foldl (fun _ _ => ?_)).trans ?_) | (with_reducible refine (fr_foldl_snd (fun _ _ => ?_)).trans ?_) | (with_reducible refine Iff.trans (fr_pair (by assumption)) ?_) | split | simp only [eq_self, iff_self, implies_true, forall_const, ite_self, true_or, or_true, fr_ite, fr_ite_snd, fr_foldl, fr_foldl_snd, fr_put, fr_putB, fr_putSh, fr_putShB, fr_setObj, h0, h1])

theorem fr_applyLine {dz : Dev} {lz : List Part} (d : Dev) (l : Nat) (h0 : .dict ∈ lz) :
    dz.changesOnly lz (Dev.applyLine d l) ↔ dz.changesOnly lz d := by
  simp only [Dev.applyLine, iff_self, fr_put, h0]

theorem fr_ptpRestart {dz : Dev} {lz : List Part} (d : Dev) (i : Nat) (l : List Nat) (h0 : .dict ∈ lz) (h1 : .tim ∈ lz) (h2 : .flying ∈ lz) (h3 : .net ∈ lz) :
    dz.changesOnly lz (Dev.ptpRestart d i l) ↔ dz.changesOnly lz d := by
  simp only [Dev.ptpRestart, iff_self, implies_true, fr_foldl, fr_bmca, fr_put, fr_setPtp, h0, h1, h2, h3]

theorem fr_ptpApplied {dz : Dev} {lz : List Part} (d : Dev) (o e : Nat) (h0 : .dict ∈ lz) (h1 : .tim ∈ lz) (h2 : .flying ∈ lz) (h3 : .net ∈ lz) :
    dz.changesOnly lz (Dev.ptpApplied d o e) ↔ dz.changesOnly lz d := by
  unfold Dev.ptpApplied; repeat' (first | (simp only [iff_self, implies_true, ite_self, fr_ite, fr_foldl, fr_bmca, fr_ptpInvalid, fr_ptpRestart, fr_put, fr_setNet, fr_setPtp, fr_showClass, fr_showPtpRef, h0, h1, h2, h3]; done) | (with_reducible rfl) | (with_reducible refine (fr_foldl (fun _ _ => ?_)).trans ?_) | (with_reducible refine (fr_foldl_snd (fun _ _ => ?_)).trans ?_) | (with_reducible refine Iff.trans (fr_pair (by assumption)) ?_) | split | simp only [eq_self])

theorem fr_applySensor {dz : Dev} {lz : List Part} (d : Dev) (o e : Nat) (h0 : .wave ∈ lz) :
    dz.changesOnly lz (Dev.applySensor d o e) ↔ dz.changesOnly lz d := by
  simp only [Dev.applySensor, iff_self, ite_self, fr_ite, fr_setWave, h0]

theorem fr_applied {dz : Dev} {lz : List Part} (d : Dev) (x : Key) (t : Nat) (h0 : .fresh ∈ lz) (h1 : .out ∈ lz) (h2 : .dict ∈ lz) (h3 : .tim ∈ lz) (h4 : .flying ∈ lz) (h5 : .live ∈ lz) (h6 : .net ∈ lz) (h7 : .host ∈ lz) (h8 : .lan ∈ lz) (h9 : .ecl ∈ lz) (h10 : .rings ∈ lz) (h11 : .ing ∈ lz) (h12 : .tab ∈ lz) (h13 : .eng ∈ lz) (h14 : .wave ∈ lz) :
    dz.changesOnly lz (Dev.applied d x t) ↔ dz.changesOnly lz d := by
  simp only [Dev.applied, iff_self, ite_self, fr_ite, fr_applyIngest, fr_applyLine, fr_applyList, fr_applySlot, fr_applySensor, fr_applySpare, fr_eclipseApplied, fr_portApplied, fr_ptpApplied, fr_resetWindow, fr_ringApplied, h0, h1, h2, h3, h4, h5, h6, h7, h8, h9, h10, h11, h12, h13, h14]

theorem fr_appliedOnce {dz : Dev} {lz : List Part} (d : Dev) (l : List Key) (t : Nat) (h0 : .out ∈ lz) (h1 : .dict ∈ lz) (h2 : .tim ∈ lz) (h3 : .flying ∈ lz) (h4 : .live ∈ lz) (h5 : .net ∈ lz) (h6 : .lan ∈ lz) (h7 : .ing ∈ lz) (h8 : .tab ∈ lz) (h9 : .eng ∈ lz) :
    dz.changesOnly lz (Dev.appliedOnce d l t) ↔ dz.changesOnly lz d := by
  simp only [Dev.appliedOnce, iff_self, implies_true, ite_self, fr_ite, fr_foldl, fr_applyBinding, fr_applyParams, fr_applyPeriod, fr_applyPmu, fr_showClass, fr_showEndpoint, fr_showRates, h0, h1, h2, h3, h4, h5, h6, h7, h8, h9]

theorem fr_finishSlot_ {dz : Dev} {lz : List Part} (d : Dev) (k : Nat) (h0 : .dict ∈ lz) (h1 : .access ∈ lz) (h2 : .flying ∈ lz) :
    dz.changesOnly lz (Dev.finishSlot_ d k) ↔ dz.changesOnly lz d := by
  simp only [Dev.finishSlot_, iff_self, fr_endSlot, h0, h1, h2]

theorem fr_transactionApply {dz : Dev} {lz : List Part} (k : Nat) (d : Dev) (h0 : .fresh ∈ lz) (h1 : .out ∈ lz) (h2 : .dict ∈ lz) (h3 : .access ∈ lz) (h4 : .tim ∈ lz) (h5 : .flying ∈ lz) (h6 : .live ∈ lz) (h7 : .net ∈ lz) (h8 : .host ∈ lz) (h9 : .lan ∈ lz) (h10 : .ecl ∈ lz) (h11 : .rings ∈ lz) (h12 : .ing ∈ lz) (h13 : .tab ∈ lz) (h14 : .eng ∈ lz) (h15 : .wave ∈ lz) :
    dz.changesOnly lz (transactionApply k d) ↔ dz.changesOnly lz d := by
  unfold transactionApply; repeat' (first | (simp only [iff_self, implies_true, ite_self, fr_ite, fr_foldl, fr_applied, fr_appliedOnce, fr_at_, fr_finishSlot_, fr_setSlot, fr_swapBank, h0, h1, h2, h3, h4, h5, h6, h7, h8, h9, h10, h11, h12, h13, h14, h15]; done) | (with_reducible rfl) | (with_reducible refine (fr_foldl (fun _ _ => ?_)).trans ?_) | (with_reducible refine (fr_foldl_snd (fun _ _ => ?_)).trans ?_) | (with_reducible refine Iff.trans (fr_pair (by assumption)) ?_) | split | simp only [eq_self])

theorem fr_retireHeader {dz : Dev} {lz : List Part} (d : Dev) (y : OldBank) (h0 : .tab ∈ lz) :
    dz.changesOnly lz (Dev.retireHeader d y) ↔ dz.changesOnly lz d := by
  simp only [Dev.retireHeader, iff_self, ite_self, fr_ite, fr_setRec, h0]

theorem fr_retireBanks {dz : Dev} {lz : List Part} (d : Dev) (t : Nat) (h0 : .fresh ∈ lz) (h1 : .out ∈ lz) (h2 : .dict ∈ lz) (h3 : .access ∈ lz) (h4 : .tim ∈ lz) (h5 : .flying ∈ lz) (h6 : .live ∈ lz) (h7 : .net ∈ lz) (h8 : .host ∈ lz) (h9 : .lan ∈ lz) (h10 : .ecl ∈ lz) (h11 : .rings ∈ lz) (h12 : .ing ∈ lz) (h13 : .tab ∈ lz) (h14 : .eng ∈ lz) :
    dz.changesOnly lz (Dev.retireBanks d t) ↔ dz.changesOnly lz d := by
  unfold Dev.retireBanks; repeat' (first | (simp only [eq_self, iff_self, implies_true, ite_self, or_true, fr_ite, fr_foldl, fr_finishSlot_, fr_retireHeader, fr_setObj, h2, h3, h5, h13]; done) | (with_reducible rfl) | (with_reducible refine (fr_foldl (fun _ _ => ?_)).trans ?_) | (with_reducible refine (fr_foldl_snd (fun _ _ => ?_)).trans ?_) | (with_reducible refine Iff.trans (fr_pair (by assumption)) ?_) | split | simp only [eq_self, iff_self, implies_true, forall_const, ite_self, true_or, or_true, fr_ite, fr_ite_snd, fr_foldl, fr_foldl_snd, fr_applied, fr_finishSlot_, fr_retireHeader, fr_setObj, h0, h1, h2, h3, h4, h5, h6, h7, h8, h9, h10, h11, h12, h13, h14])

theorem fr_epochCloseAll {dz : Dev} {lz : List Part} (d : Dev) (h0 : .fresh ∈ lz) (h1 : .out ∈ lz) (h2 : .dict ∈ lz) (h3 : .access ∈ lz) (h4 : .tim ∈ lz) (h5 : .flying ∈ lz) (h6 : .live ∈ lz) (h7 : .net ∈ lz) (h8 : .host ∈ lz) (h9 : .lan ∈ lz) (h10 : .ecl ∈ lz) (h11 : .rings ∈ lz) (h12 : .ing ∈ lz) (h13 : .tab ∈ lz) (h14 : .eng ∈ lz) (h15 : .wave ∈ lz) :
    dz.changesOnly lz (epochCloseAll d) ↔ dz.changesOnly lz d := by
  simp only [epochCloseAll, iff_self, ite_self, fr_ite, fr_retireBanks, fr_epochClose, h0, h1, h2, h3, h4, h5, h6, h7, h8, h9, h10, h11, h12, h13, h14, h15]

theorem fr_transactionTimeout {dz : Dev} {lz : List Part} (k : Nat) (d : Dev) (h0 : .dict ∈ lz) (h1 : .access ∈ lz) (h2 : .tim ∈ lz) (h3 : .flying ∈ lz) :
    dz.changesOnly lz (transactionTimeout k d) ↔ dz.changesOnly lz d := by
  simp only [transactionTimeout, iff_self, ite_self, fr_ite, fr_at_, fr_endSlot, h0, h1, h2, h3]

theorem fr_slotRelease {dz : Dev} {lz : List Part} (k : Nat) (d : Dev) (h0 : .dict ∈ lz) (h1 : .access ∈ lz) (h2 : .tim ∈ lz) :
    dz.changesOnly lz (slotRelease k d) ↔ dz.changesOnly lz d := by
  simp only [slotRelease, iff_self, ite_self, fr_ite, fr_at_, fr_freeSlot, h0, h1, h2]

theorem fr_countRegion {dz : Dev} {lz : List Part} (d : Dev) (g : Nat) (f : RegionLedger → RegionLedger) (h0 : .tab ∈ lz) :
    dz.changesOnly lz (Dev.countRegion d g f) ↔ dz.changesOnly lz d := by
  simp only [Dev.countRegion, iff_self, fr_setRegion, h0]

theorem fr_rejectRecord {dz : Dev} {lz : List Part} (d : Dev) (g source : Nat) (h0 : .dict ∈ lz) (h1 : .flying ∈ lz) (h2 : .tab ∈ lz) :
    dz.changesOnly lz (Dev.rejectRecord d g source) ↔ dz.changesOnly lz d := by
  simp only [Dev.rejectRecord, iff_self, ite_self, fr_ite, fr_countRegion, fr_inc, fr_raise, fr_setRegion, h0, h1, h2]

theorem fr_acceptUpd {dz : Dev} {lz : List Part} (d : Dev) (g source e : Nat) (b : List Byte) (h0 : .dict ∈ lz) (h1 : .tab ∈ lz) (h2 : .wave ∈ lz) :
    dz.changesOnly lz (Dev.acceptUpd d g source e b) ↔ dz.changesOnly lz d := by
  simp only [Dev.acceptUpd, iff_self, ite_self, fr_ite, fr_rec_wave, fr_countRegion, fr_inc, fr_setRegion, fr_writeUpd, h0, h1, h2]

theorem fr_lateUpd {dz : Dev} {lz : List Part} (d : Dev) (g source : Nat) (b : List Byte) (h0 : .out ∈ lz) (h1 : .dict ∈ lz) (h2 : .host ∈ lz) (h3 : .lan ∈ lz) (h4 : .tab ∈ lz) :
    dz.changesOnly lz (Dev.lateUpd d g source b) ↔ dz.changesOnly lz d := by
  simp only [Dev.lateUpd, iff_self, fr_countRegion, fr_inc, fr_rxDeliver, h0, h1, h2, h3, h4]

theorem fr_record {dz : Dev} {lz : List Part} (d : Dev) (g source : Nat) (b : List Byte) (h0 : .out ∈ lz) (h1 : .dict ∈ lz) (h2 : .flying ∈ lz) (h3 : .host ∈ lz) (h4 : .lan ∈ lz) (h5 : .ing ∈ lz) (h6 : .tab ∈ lz) (h7 : .eng ∈ lz) (h8 : .wave ∈ lz) :
    dz.changesOnly lz (Dev.record d g source b) ↔ dz.changesOnly lz d := by
  simp only [Dev.record, iff_self, ite_self, fr_ite, fr_acceptUpd, fr_commitEntries, fr_lateUpd, fr_rejectRecord, h0, h1, h2, h3, h4, h5, h6, h7, h8]

theorem fr_updateAccept {dz : Dev} {lz : List Part} (g : Nat) (d : Dev) (h0 : .out ∈ lz) (h1 : .dict ∈ lz) (h2 : .flying ∈ lz) (h3 : .host ∈ lz) (h4 : .lan ∈ lz) (h5 : .ing ∈ lz) (h6 : .tab ∈ lz) (h7 : .eng ∈ lz) (h8 : .wave ∈ lz) :
    dz.changesOnly lz (updateAccept g d) ↔ dz.changesOnly lz d := by
  unfold updateAccept; repeat' (first | (simp only [iff_self, implies_true, ite_self, fr_ite, fr_foldl, fr_countRegion, fr_inc, fr_put, fr_raise, fr_record, fr_setRegion, h0, h1, h2, h3, h4, h5, h6, h7, h8]; done) | (with_reducible rfl) | (with_reducible refine (fr_foldl (fun _ _ => ?_)).trans ?_) | (with_reducible refine (fr_foldl_snd (fun _ _ => ?_)).trans ?_) | (with_reducible refine Iff.trans (fr_pair (by assumption)) ?_) | split | simp only [eq_self])

theorem fr_pinLapse {dz : Dev} {lz : List Part} (d : Dev) (h0 : .tim ∈ lz) (h1 : .tab ∈ lz) :
    dz.changesOnly lz (pinLapse d) ↔ dz.changesOnly lz d := by
  unfold pinLapse; repeat' (first | (simp only [iff_self, fr_at_, fr_lapsePin, h0, h1]; done) | (with_reducible rfl) | (with_reducible refine (fr_foldl (fun _ _ => ?_)).trans ?_) | (with_reducible refine (fr_foldl_snd (fun _ _ => ?_)).trans ?_) | (with_reducible refine Iff.trans (fr_pair (by assumption)) ?_) | split | simp only [eq_self, iff_self, implies_true, forall_const, ite_self, true_or, or_true, fr_ite, fr_ite_snd, fr_foldl, fr_foldl_snd, fr_at_, fr_lapsePin, h0, h1])

theorem fr_bar2Read {dz : Dev} {lz : List Part} (off len : Nat) (d : Dev) (h0 : .out ∈ lz) (h1 : .dict ∈ lz) (h2 : .tim ∈ lz) (h3 : .flying ∈ lz) (h4 : .live ∈ lz) (h5 : .net ∈ lz) (h6 : .host ∈ lz) (h7 : .lan ∈ lz) :
    dz.changesOnly lz (bar2Read off len d) ↔ dz.changesOnly lz d := by
  simp only [bar2Read, iff_self, ite_self, fr_ite, fr_emit, fr_unsupportedRequest, h0, h1, h2, h3, h4, h5, h6, h7]

theorem fr_bar2Write {dz : Dev} {lz : List Part} (d : Dev) (h0 : .out ∈ lz) (h1 : .dict ∈ lz) (h2 : .tim ∈ lz) (h3 : .flying ∈ lz) (h4 : .live ∈ lz) (h5 : .net ∈ lz) (h6 : .host ∈ lz) (h7 : .lan ∈ lz) :
    dz.changesOnly lz (bar2Write d) ↔ dz.changesOnly lz d := by
  simp only [bar2Write, iff_self, ite_self, fr_ite, fr_inc, fr_unsupportedRequest, h0, h1, h2, h3, h4, h5, h6, h7]

theorem fr_sendArrivals {dz : Dev} {lz : List Part} (d : Dev) (m : WMsg) (h0 : .out ∈ lz) :
    dz.changesOnly lz (Dev.sendArrivals d m) ↔ dz.changesOnly lz d := by
  simp only [Dev.sendArrivals, iff_self, ite_self, fr_ite, fr_kmpSend, h0]

theorem fr_arrivalsSend {dz : Dev} {lz : List Part} (l : Nat) (d : Dev) (h0 : .fresh ∈ lz) (h1 : .out ∈ lz) (h2 : .wave ∈ lz) :
    dz.changesOnly lz (arrivalsSend l d) ↔ dz.changesOnly lz d := by
  unfold arrivalsSend; repeat' (first | (simp only [iff_self, ite_self, fr_ite, fr_sendArrivals, fr_setLine, fr_setWave, fr_takeTxid, h0, h1, h2]; done) | (with_reducible rfl) | (with_reducible refine (fr_foldl (fun _ _ => ?_)).trans ?_) | (with_reducible refine (fr_foldl_snd (fun _ _ => ?_)).trans ?_) | (with_reducible refine Iff.trans (fr_pair (by assumption)) ?_) | split | simp only [eq_self, iff_self, implies_true, forall_const, ite_self, true_or, or_true, fr_ite, fr_ite_snd, fr_foldl, fr_foldl_snd, fr_sendArrivals, fr_setLine, fr_setWave, fr_takeTxid, h0, h1, h2])

theorem fr_arrivalsRepeat {dz : Dev} {lz : List Part} (txid : Nat) (d : Dev) (h0 : .out ∈ lz) (h1 : .dict ∈ lz) (h2 : .tim ∈ lz) (h3 : .flying ∈ lz) (h4 : .wave ∈ lz) :
    dz.changesOnly lz (arrivalsRepeat txid d) ↔ dz.changesOnly lz d := by
  unfold arrivalsRepeat; repeat' (first | (simp only [iff_self, ite_self, fr_ite, fr_at_, fr_inc, fr_raise, fr_sendArrivals, fr_setWave, h0, h1, h2, h3, h4]; done) | (with_reducible rfl) | (with_reducible refine (fr_foldl (fun _ _ => ?_)).trans ?_) | (with_reducible refine (fr_foldl_snd (fun _ _ => ?_)).trans ?_) | (with_reducible refine Iff.trans (fr_pair (by assumption)) ?_) | split | simp only [eq_self, iff_self, implies_true, forall_const, ite_self, true_or, or_true, fr_ite, fr_ite_snd, fr_foldl, fr_foldl_snd, fr_at_, fr_inc, fr_raise, fr_sendArrivals, fr_setWave, h0, h1, h2, h3, h4])

theorem fr_onKmp {dz : Dev} {lz : List Part} (ip : Word) (udp : BitVec 16) (role : Role) (via : Fin 17) (f : Dev → Dev) (d : Dev)
    (hf : ∀ y, dz.changesOnly lz (f y) ↔ dz.changesOnly lz y) : dz.changesOnly lz (onKmp ip udp role via f d) ↔ dz.changesOnly lz d := by
  unfold onKmp
  simp only [iff_self, ite_self, fr_ite, hf]

theorem fr_captureComplete {dz : Dev} {lz : List Part} (e : Nat) (d : Dev) (h0 : .dict ∈ lz) (h1 : .tim ∈ lz) (h2 : .flying ∈ lz) :
    dz.changesOnly lz (captureComplete e d) ↔ dz.changesOnly lz d := by
  simp only [captureComplete, iff_self, ite_self, fr_ite, fr_at_, fr_put, fr_raise, fr_showCapture, h0, h1, h2]

theorem fr_frontRearm {dz : Dev} {lz : List Part} (c : Nat) (d : Dev) (h0 : .tim ∈ lz) (h1 : .wave ∈ lz) :
    dz.changesOnly lz (frontRearm c d) ↔ dz.changesOnly lz d := by
  unfold frontRearm; repeat' (first | (simp only [iff_self, fr_at_, fr_setWchan, h0, h1]; done) | (with_reducible rfl) | (with_reducible refine (fr_foldl (fun _ _ => ?_)).trans ?_) | (with_reducible refine (fr_foldl_snd (fun _ _ => ?_)).trans ?_) | (with_reducible refine Iff.trans (fr_pair (by assumption)) ?_) | split | simp only [eq_self])

theorem fr_snippetComplete {dz : Dev} {lz : List Part} (g : Nat) (d : Dev) (h0 : .dict ∈ lz) (h1 : .tim ∈ lz) (h2 : .eng ∈ lz) (h3 : .wave ∈ lz) :
    dz.changesOnly lz (snippetComplete g d) ↔ dz.changesOnly lz d := by
  unfold snippetComplete; repeat' (first | (simp only [iff_self, ite_self, fr_ite, fr_at_, fr_inc, fr_setKslot, fr_setWave, h0, h1, h2, h3]; done) | (with_reducible rfl) | (with_reducible refine (fr_foldl (fun _ _ => ?_)).trans ?_) | (with_reducible refine (fr_foldl_snd (fun _ _ => ?_)).trans ?_) | (with_reducible refine Iff.trans (fr_pair (by assumption)) ?_) | split | simp only [eq_self])

theorem fr_singleEndedLocation {dz : Dev} {lz : List Part} (l : Nat) (d : Dev) (h0 : .dict ∈ lz) (h1 : .tim ∈ lz) (h2 : .flying ∈ lz) (h3 : .wave ∈ lz) :
    dz.changesOnly lz (singleEndedLocation l d) ↔ dz.changesOnly lz d := by
  unfold singleEndedLocation; repeat' (first | (simp only [iff_self, ite_self, fr_ite, fr_at_, fr_logLocation, fr_setLine, h0, h1, h2, h3]; done) | (with_reducible rfl) | (with_reducible refine (fr_foldl (fun _ _ => ?_)).trans ?_) | (with_reducible refine (fr_foldl_snd (fun _ _ => ?_)).trans ?_) | (with_reducible refine Iff.trans (fr_pair (by assumption)) ?_) | split | simp only [fr_ite, fr_at_, fr_setLine, h1, h3])

theorem fr_remoteWaitTimeout {dz : Dev} {lz : List Part} (l : Nat) (d : Dev) (h0 : .tim ∈ lz) (h1 : .wave ∈ lz) :
    dz.changesOnly lz (remoteWaitTimeout l d) ↔ dz.changesOnly lz d := by
  unfold remoteWaitTimeout; repeat' (first | (simp only [iff_self, ite_self, fr_ite, fr_at_, fr_setLine, h0, h1]; done) | (with_reducible rfl) | (with_reducible refine (fr_foldl (fun _ _ => ?_)).trans ?_) | (with_reducible refine (fr_foldl_snd (fun _ _ => ?_)).trans ?_) | (with_reducible refine Iff.trans (fr_pair (by assumption)) ?_) | split | simp only [eq_self, iff_self, implies_true, forall_const, ite_self, true_or, or_true, fr_ite, fr_ite_snd, fr_foldl, fr_foldl_snd, fr_at_, fr_setLine, h0, h1])

theorem fr_lineArrival {dz : Dev} {lz : List Part} (d : Dev) (l : Nat) (b : List Byte) (h0 : .dict ∈ lz) (h1 : .flying ∈ lz) (h2 : .wave ∈ lz) :
    dz.changesOnly lz (Dev.lineArrival d l b).2 ↔ dz.changesOnly lz d := by
  unfold Dev.lineArrival; repeat' (first | (simp only [iff_self, fr_setLine, fr_tryDouble, h0, h1, h2]; done) | (with_reducible rfl) | (with_reducible refine (fr_foldl (fun _ _ => ?_)).trans ?_) | (with_reducible refine (fr_foldl_snd (fun _ _ => ?_)).trans ?_) | (with_reducible refine Iff.trans (fr_pair (by assumption)) ?_) | split | simp only [eq_self])

theorem fr_arrivalHandoff {dz : Dev} {lz : List Part} (g : Nat) (d : Dev) (h0 : .dict ∈ lz) (h1 : .flying ∈ lz) (h2 : .wave ∈ lz) :
    dz.changesOnly lz (arrivalHandoff g d) ↔ dz.changesOnly lz d := by
  unfold arrivalHandoff; repeat' (first | (simp only [iff_self, ite_self, fr_ite, fr_inc, fr_lineArrival, fr_logArrival, fr_setWave, h0, h1, h2]; done) | (with_reducible rfl) | (with_reducible refine (fr_foldl (fun _ _ => ?_)).trans ?_) | (with_reducible refine (fr_foldl_snd (fun _ _ => ?_)).trans ?_) | (with_reducible refine Iff.trans (fr_pair (by assumption)) ?_) | split | simp only [eq_self, iff_self, implies_true, forall_const, ite_self, true_or, or_true, fr_ite, fr_ite_snd, fr_foldl, fr_foldl_snd, fr_inc, fr_lineArrival, fr_logArrival, fr_setWave, h0, h1, h2])

end Sys2Proof.Machine
end

