-- ==== Sys2Proof/Laws/Time.lean ====
section
/-! SUPPORT. Device time: bringing it forward. -/
namespace Sys2Proof.Machine

@[simp] theorem tk_setTk_same (t : TimeSt) (k : TkId) (x : Tk) : (t.setTk k x).tk k = x := by cases k <;> rfl
@[simp] theorem tk_setTk_other (t : TimeSt) (k : TkId) (x : Tk) : (t.setTk k.other x).tk k = t.tk k := by cases k <;> rfl
@[simp] theorem tk_setTk_other' (t : TimeSt) (k : TkId) (x : Tk) : (t.setTk k x).tk k.other = t.tk k.other := by cases k <;> rfl
@[simp] theorem other_other (k : TkId) : k.other.other = k := by cases k <;> rfl
theorem other_ne (k : TkId) : k.other ≠ k := by cases k <;> simp [TkId.other]

/-- Bringing time forward to a later instant adds the difference to the driving timekeeper's own time. -/
theorem advance_now (t : TimeSt) (x : Nat) (h : t.now < x) :
    (t.advance x).now = (((t.tk t.drive).time : Int) + (x - t.now : Nat) + t.hOffset).toNat := by
  unfold TimeSt.advance
  rw [if_neg (by omega)]
  have hd : ∀ (t : TimeSt) k x, (t.setTk k x).drive = t.drive := by intro t k x; cases k <;> rfl
  have ho : ∀ (t : TimeSt) k x, (t.setTk k x).hOffset = t.hOffset := by intro t k x; cases k <;> rfl
  simp only [TimeSt.now, hd, ho, tk_setTk_other, tk_setTk_same, Tk.time]
  congr 1
  have : ((t.tk t.drive).count + (x - ((((t.tk t.drive).count / 65536 : Nat) : Int) + t.hOffset).toNat) * 65536) / 65536
      = (t.tk t.drive).count / 65536 + (x - ((((t.tk t.drive).count / 65536 : Nat) : Int) + t.hOffset).toNat) := by omega
  rw [this]; push_cast; ring

/-- Time never goes back when it is brought forward. -/
theorem now_le_at (d : Dev) (t : Nat) : d.now ≤ (d.at_ t).now := by
  show d.tim.now ≤ (d.tim.advance t).now
  by_cases h : t ≤ d.tim.now
  · unfold TimeSt.advance; rw [if_pos h]
  · rw [advance_now _ _ (by omega)]; simp only [TimeSt.now]; omega

/-- It reaches the instant named, where the handover offset is not below the driving timekeeper's own time. -/
theorem le_now_at (d : Dev) (t : Nat) (h : 0 ≤ ((d.tim.tk d.tim.drive).time : Int) + d.tim.hOffset) : t ≤ (d.at_ t).now := by
  show t ≤ (d.tim.advance t).now
  by_cases hl : t ≤ d.tim.now
  · unfold TimeSt.advance; rw [if_pos hl]; exact hl
  · rw [advance_now _ _ (by omega)]; simp only [TimeSt.now] at hl ⊢; omega

/-! Everything of the timekeepers' state but the two counts stands when time is brought forward. -/

@[simp] theorem setTk_holder (t : TimeSt) (k : TkId) (x : Tk) : (t.setTk k x).holder = t.holder := by cases k <;> rfl
@[simp] theorem advance_holder (t : TimeSt) (x : Nat) : (t.advance x).holder = t.holder := by unfold TimeSt.advance; split <;> simp
@[simp] theorem at_holder (d : Dev) (x : Nat) : (d.at_ x).tim.holder = d.tim.holder := by simp [Dev.at_]
@[simp] theorem updTk_holder (d : Dev) (k : TkId) (g : Tk → Tk) : (d.updTk k g).tim.holder = d.tim.holder := by simp [Dev.updTk, Dev.setTim]
@[simp] theorem setTk_drive (t : TimeSt) (k : TkId) (x : Tk) : (t.setTk k x).drive = t.drive := by cases k <;> rfl
@[simp] theorem advance_drive (t : TimeSt) (x : Nat) : (t.advance x).drive = t.drive := by unfold TimeSt.advance; split <;> simp
@[simp] theorem at_drive (d : Dev) (x : Nat) : (d.at_ x).tim.drive = d.tim.drive := by simp [Dev.at_]
@[simp] theorem updTk_drive (d : Dev) (k : TkId) (g : Tk → Tk) : (d.updTk k g).tim.drive = d.tim.drive := by simp [Dev.updTk, Dev.setTim]
@[simp] theorem setTk_hOffset (t : TimeSt) (k : TkId) (x : Tk) : (t.setTk k x).hOffset = t.hOffset := by cases k <;> rfl
@[simp] theorem advance_hOffset (t : TimeSt) (x : Nat) : (t.advance x).hOffset = t.hOffset := by unfold TimeSt.advance; split <;> simp
@[simp] theorem at_hOffset (d : Dev) (x : Nat) : (d.at_ x).tim.hOffset = d.tim.hOffset := by simp [Dev.at_]
@[simp] theorem updTk_hOffset (d : Dev) (k : TkId) (g : Tk → Tk) : (d.updTk k g).tim.hOffset = d.tim.hOffset := by simp [Dev.updTk, Dev.setTim]
@[simp] theorem setTk_renewedAt (t : TimeSt) (k : TkId) (x : Tk) : (t.setTk k x).renewedAt = t.renewedAt := by cases k <;> rfl
@[simp] theorem advance_renewedAt (t : TimeSt) (x : Nat) : (t.advance x).renewedAt = t.renewedAt := by unfold TimeSt.advance; split <;> simp
@[simp] theorem at_renewedAt (d : Dev) (x : Nat) : (d.at_ x).tim.renewedAt = d.tim.renewedAt := by simp [Dev.at_]
@[simp] theorem updTk_renewedAt (d : Dev) (k : TkId) (g : Tk → Tk) : (d.updTk k g).tim.renewedAt = d.tim.renewedAt := by simp [Dev.updTk, Dev.setTim]
@[simp] theorem setTk_missedRenewal (t : TimeSt) (k : TkId) (x : Tk) : (t.setTk k x).missedRenewal = t.missedRenewal := by cases k <;> rfl
@[simp] theorem advance_missedRenewal (t : TimeSt) (x : Nat) : (t.advance x).missedRenewal = t.missedRenewal := by unfold TimeSt.advance; split <;> simp
@[simp] theorem at_missedRenewal (d : Dev) (x : Nat) : (d.at_ x).tim.missedRenewal = d.tim.missedRenewal := by simp [Dev.at_]
@[simp] theorem updTk_missedRenewal (d : Dev) (k : TkId) (g : Tk → Tk) : (d.updTk k g).tim.missedRenewal = d.tim.missedRenewal := by simp [Dev.updTk, Dev.setTim]
@[simp] theorem setTk_lastPulse (t : TimeSt) (k : TkId) (x : Tk) : (t.setTk k x).lastPulse = t.lastPulse := by cases k <;> rfl
@[simp] theorem advance_lastPulse (t : TimeSt) (x : Nat) : (t.advance x).lastPulse = t.lastPulse := by unfold TimeSt.advance; split <;> simp
@[simp] theorem at_lastPulse (d : Dev) (x : Nat) : (d.at_ x).tim.lastPulse = d.tim.lastPulse := by simp [Dev.at_]
@[simp] theorem updTk_lastPulse (d : Dev) (k : TkId) (g : Tk → Tk) : (d.updTk k g).tim.lastPulse = d.tim.lastPulse := by simp [Dev.updTk, Dev.setTim]
@[simp] theorem setTk_pulsesMissing (t : TimeSt) (k : TkId) (x : Tk) : (t.setTk k x).pulsesMissing = t.pulsesMissing := by cases k <;> rfl
@[simp] theorem advance_pulsesMissing (t : TimeSt) (x : Nat) : (t.advance x).pulsesMissing = t.pulsesMissing := by unfold TimeSt.advance; split <;> simp
@[simp] theorem at_pulsesMissing (d : Dev) (x : Nat) : (d.at_ x).tim.pulsesMissing = d.tim.pulsesMissing := by simp [Dev.at_]
@[simp] theorem updTk_pulsesMissing (d : Dev) (k : TkId) (g : Tk → Tk) : (d.updTk k g).tim.pulsesMissing = d.tim.pulsesMissing := by simp [Dev.updTk, Dev.setTim]
@[simp] theorem setTk_skip (t : TimeSt) (k : TkId) (x : Tk) : (t.setTk k x).skip = t.skip := by cases k <;> rfl
@[simp] theorem advance_skip (t : TimeSt) (x : Nat) : (t.advance x).skip = t.skip := by unfold TimeSt.advance; split <;> simp
@[simp] theorem at_skip (d : Dev) (x : Nat) : (d.at_ x).tim.skip = d.tim.skip := by simp [Dev.at_]
@[simp] theorem updTk_skip (d : Dev) (k : TkId) (g : Tk → Tk) : (d.updTk k g).tim.skip = d.tim.skip := by simp [Dev.updTk, Dev.setTim]
@[simp] theorem setTk_disagree (t : TimeSt) (k : TkId) (x : Tk) : (t.setTk k x).disagree = t.disagree := by cases k <;> rfl
@[simp] theorem advance_disagree (t : TimeSt) (x : Nat) : (t.advance x).disagree = t.disagree := by unfold TimeSt.advance; split <;> simp
@[simp] theorem at_disagree (d : Dev) (x : Nat) : (d.at_ x).tim.disagree = d.tim.disagree := by simp [Dev.at_]
@[simp] theorem updTk_disagree (d : Dev) (k : TkId) (g : Tk → Tk) : (d.updTk k g).tim.disagree = d.tim.disagree := by simp [Dev.updTk, Dev.setTim]
@[simp] theorem setTk_diff (t : TimeSt) (k : TkId) (x : Tk) : (t.setTk k x).diff = t.diff := by cases k <;> rfl
@[simp] theorem advance_diff (t : TimeSt) (x : Nat) : (t.advance x).diff = t.diff := by unfold TimeSt.advance; split <;> simp
@[simp] theorem at_diff (d : Dev) (x : Nat) : (d.at_ x).tim.diff = d.tim.diff := by simp [Dev.at_]
@[simp] theorem updTk_diff (d : Dev) (k : TkId) (g : Tk → Tk) : (d.updTk k g).tim.diff = d.tim.diff := by simp [Dev.updTk, Dev.setTim]
@[simp] theorem setTk_arb (t : TimeSt) (k : TkId) (x : Tk) : (t.setTk k x).arb = t.arb := by cases k <;> rfl
@[simp] theorem advance_arb (t : TimeSt) (x : Nat) : (t.advance x).arb = t.arb := by unfold TimeSt.advance; split <;> simp
@[simp] theorem at_arb (d : Dev) (x : Nat) : (d.at_ x).tim.arb = d.tim.arb := by simp [Dev.at_]
@[simp] theorem updTk_arb (d : Dev) (k : TkId) (g : Tk → Tk) : (d.updTk k g).tim.arb = d.tim.arb := by simp [Dev.updTk, Dev.setTim]
@[simp] theorem setTk_revertAt (t : TimeSt) (k : TkId) (x : Tk) : (t.setTk k x).revertAt = t.revertAt := by cases k <;> rfl
@[simp] theorem advance_revertAt (t : TimeSt) (x : Nat) : (t.advance x).revertAt = t.revertAt := by unfold TimeSt.advance; split <;> simp
@[simp] theorem at_revertAt (d : Dev) (x : Nat) : (d.at_ x).tim.revertAt = d.tim.revertAt := by simp [Dev.at_]
@[simp] theorem updTk_revertAt (d : Dev) (k : TkId) (g : Tk → Tk) : (d.updTk k g).tim.revertAt = d.tim.revertAt := by simp [Dev.updTk, Dev.setTim]
@[simp] theorem setTk_revertOk (t : TimeSt) (k : TkId) (x : Tk) : (t.setTk k x).revertOk = t.revertOk := by cases k <;> rfl
@[simp] theorem advance_revertOk (t : TimeSt) (x : Nat) : (t.advance x).revertOk = t.revertOk := by unfold TimeSt.advance; split <;> simp
@[simp] theorem at_revertOk (d : Dev) (x : Nat) : (d.at_ x).tim.revertOk = d.tim.revertOk := by simp [Dev.at_]
@[simp] theorem updTk_revertOk (d : Dev) (k : TkId) (g : Tk → Tk) : (d.updTk k g).tim.revertOk = d.tim.revertOk := by simp [Dev.updTk, Dev.setTim]
@[simp] theorem setTk_confirmed (t : TimeSt) (k : TkId) (x : Tk) : (t.setTk k x).confirmed = t.confirmed := by cases k <;> rfl
@[simp] theorem advance_confirmed (t : TimeSt) (x : Nat) : (t.advance x).confirmed = t.confirmed := by unfold TimeSt.advance; split <;> simp
@[simp] theorem at_confirmed (d : Dev) (x : Nat) : (d.at_ x).tim.confirmed = d.tim.confirmed := by simp [Dev.at_]
@[simp] theorem updTk_confirmed (d : Dev) (k : TkId) (g : Tk → Tk) : (d.updTk k g).tim.confirmed = d.tim.confirmed := by simp [Dev.updTk, Dev.setTim]
@[simp] theorem setTk_lastSlew (t : TimeSt) (k : TkId) (x : Tk) : (t.setTk k x).lastSlew = t.lastSlew := by cases k <;> rfl
@[simp] theorem advance_lastSlew (t : TimeSt) (x : Nat) : (t.advance x).lastSlew = t.lastSlew := by unfold TimeSt.advance; split <;> simp
@[simp] theorem at_lastSlew (d : Dev) (x : Nat) : (d.at_ x).tim.lastSlew = d.tim.lastSlew := by simp [Dev.at_]
@[simp] theorem updTk_lastSlew (d : Dev) (k : TkId) (g : Tk → Tk) : (d.updTk k g).tim.lastSlew = d.tim.lastSlew := by simp [Dev.updTk, Dev.setTim]
@[simp] theorem setTk_refs (t : TimeSt) (k : TkId) (x : Tk) : (t.setTk k x).refs = t.refs := by cases k <;> rfl
@[simp] theorem advance_refs (t : TimeSt) (x : Nat) : (t.advance x).refs = t.refs := by unfold TimeSt.advance; split <;> simp
@[simp] theorem at_refs (d : Dev) (x : Nat) : (d.at_ x).tim.refs = d.tim.refs := by simp [Dev.at_]
@[simp] theorem updTk_refs (d : Dev) (k : TkId) (g : Tk → Tk) : (d.updTk k g).tim.refs = d.tim.refs := by simp [Dev.updTk, Dev.setTim]
@[simp] theorem setTk_ppsIn (t : TimeSt) (k : TkId) (x : Tk) : (t.setTk k x).ppsIn = t.ppsIn := by cases k <;> rfl
@[simp] theorem advance_ppsIn (t : TimeSt) (x : Nat) : (t.advance x).ppsIn = t.ppsIn := by unfold TimeSt.advance; split <;> simp
@[simp] theorem at_ppsIn (d : Dev) (x : Nat) : (d.at_ x).tim.ppsIn = d.tim.ppsIn := by simp [Dev.at_]
@[simp] theorem updTk_ppsIn (d : Dev) (k : TkId) (g : Tk → Tk) : (d.updTk k g).tim.ppsIn = d.tim.ppsIn := by simp [Dev.updTk, Dev.setTim]
@[simp] theorem setTk_todNext (t : TimeSt) (k : TkId) (x : Tk) : (t.setTk k x).todNext = t.todNext := by cases k <;> rfl
@[simp] theorem advance_todNext (t : TimeSt) (x : Nat) : (t.advance x).todNext = t.todNext := by unfold TimeSt.advance; split <;> simp
@[simp] theorem at_todNext (d : Dev) (x : Nat) : (d.at_ x).tim.todNext = d.tim.todNext := by simp [Dev.at_]
@[simp] theorem updTk_todNext (d : Dev) (k : TkId) (g : Tk → Tk) : (d.updTk k g).tim.todNext = d.tim.todNext := by simp [Dev.updTk, Dev.setTim]
@[simp] theorem setTk_utcPtp (t : TimeSt) (k : TkId) (x : Tk) : (t.setTk k x).utcPtp = t.utcPtp := by cases k <;> rfl
@[simp] theorem advance_utcPtp (t : TimeSt) (x : Nat) : (t.advance x).utcPtp = t.utcPtp := by unfold TimeSt.advance; split <;> simp
@[simp] theorem at_utcPtp (d : Dev) (x : Nat) : (d.at_ x).tim.utcPtp = d.tim.utcPtp := by simp [Dev.at_]
@[simp] theorem updTk_utcPtp (d : Dev) (k : TkId) (g : Tk → Tk) : (d.updTk k g).tim.utcPtp = d.tim.utcPtp := by simp [Dev.updTk, Dev.setTim]
@[simp] theorem setTk_utcTod (t : TimeSt) (k : TkId) (x : Tk) : (t.setTk k x).utcTod = t.utcTod := by cases k <;> rfl
@[simp] theorem advance_utcTod (t : TimeSt) (x : Nat) : (t.advance x).utcTod = t.utcTod := by unfold TimeSt.advance; split <;> simp
@[simp] theorem at_utcTod (d : Dev) (x : Nat) : (d.at_ x).tim.utcTod = d.tim.utcTod := by simp [Dev.at_]
@[simp] theorem updTk_utcTod (d : Dev) (k : TkId) (g : Tk → Tk) : (d.updTk k g).tim.utcTod = d.tim.utcTod := by simp [Dev.updTk, Dev.setTim]
@[simp] theorem setTk_utcIrig (t : TimeSt) (k : TkId) (x : Tk) : (t.setTk k x).utcIrig = t.utcIrig := by cases k <;> rfl
@[simp] theorem advance_utcIrig (t : TimeSt) (x : Nat) : (t.advance x).utcIrig = t.utcIrig := by unfold TimeSt.advance; split <;> simp
@[simp] theorem at_utcIrig (d : Dev) (x : Nat) : (d.at_ x).tim.utcIrig = d.tim.utcIrig := by simp [Dev.at_]
@[simp] theorem updTk_utcIrig (d : Dev) (k : TkId) (g : Tk → Tk) : (d.updTk k g).tim.utcIrig = d.tim.utcIrig := by simp [Dev.updTk, Dev.setTim]
@[simp] theorem setTk_utcOff (t : TimeSt) (k : TkId) (x : Tk) : (t.setTk k x).utcOff = t.utcOff := by cases k <;> rfl
@[simp] theorem advance_utcOff (t : TimeSt) (x : Nat) : (t.advance x).utcOff = t.utcOff := by unfold TimeSt.advance; split <;> simp
@[simp] theorem at_utcOff (d : Dev) (x : Nat) : (d.at_ x).tim.utcOff = d.tim.utcOff := by simp [Dev.at_]
@[simp] theorem updTk_utcOff (d : Dev) (k : TkId) (g : Tk → Tk) : (d.updTk k g).tim.utcOff = d.tim.utcOff := by simp [Dev.updTk, Dev.setTim]
@[simp] theorem setTk_leap61 (t : TimeSt) (k : TkId) (x : Tk) : (t.setTk k x).leap61 = t.leap61 := by cases k <;> rfl
@[simp] theorem advance_leap61 (t : TimeSt) (x : Nat) : (t.advance x).leap61 = t.leap61 := by unfold TimeSt.advance; split <;> simp
@[simp] theorem at_leap61 (d : Dev) (x : Nat) : (d.at_ x).tim.leap61 = d.tim.leap61 := by simp [Dev.at_]
@[simp] theorem updTk_leap61 (d : Dev) (k : TkId) (g : Tk → Tk) : (d.updTk k g).tim.leap61 = d.tim.leap61 := by simp [Dev.updTk, Dev.setTim]
@[simp] theorem setTk_leap59 (t : TimeSt) (k : TkId) (x : Tk) : (t.setTk k x).leap59 = t.leap59 := by cases k <;> rfl
@[simp] theorem advance_leap59 (t : TimeSt) (x : Nat) : (t.advance x).leap59 = t.leap59 := by unfold TimeSt.advance; split <;> simp
@[simp] theorem at_leap59 (d : Dev) (x : Nat) : (d.at_ x).tim.leap59 = d.tim.leap59 := by simp [Dev.at_]
@[simp] theorem updTk_leap59 (d : Dev) (k : TkId) (g : Tk → Tk) : (d.updTk k g).tim.leap59 = d.tim.leap59 := by simp [Dev.updTk, Dev.setTim]
@[simp] theorem setTk_leapAt (t : TimeSt) (k : TkId) (x : Tk) : (t.setTk k x).leapAt = t.leapAt := by cases k <;> rfl
@[simp] theorem advance_leapAt (t : TimeSt) (x : Nat) : (t.advance x).leapAt = t.leapAt := by unfold TimeSt.advance; split <;> simp
@[simp] theorem at_leapAt (d : Dev) (x : Nat) : (d.at_ x).tim.leapAt = d.tim.leapAt := by simp [Dev.at_]
@[simp] theorem updTk_leapAt (d : Dev) (k : TkId) (g : Tk → Tk) : (d.updTk k g).tim.leapAt = d.tim.leapAt := by simp [Dev.updTk, Dev.setTim]
@[simp] theorem setTk_leapDown (t : TimeSt) (k : TkId) (x : Tk) : (t.setTk k x).leapDown = t.leapDown := by cases k <;> rfl
@[simp] theorem advance_leapDown (t : TimeSt) (x : Nat) : (t.advance x).leapDown = t.leapDown := by unfold TimeSt.advance; split <;> simp
@[simp] theorem at_leapDown (d : Dev) (x : Nat) : (d.at_ x).tim.leapDown = d.tim.leapDown := by simp [Dev.at_]
@[simp] theorem updTk_leapDown (d : Dev) (k : TkId) (g : Tk → Tk) : (d.updTk k g).tim.leapDown = d.tim.leapDown := by simp [Dev.updTk, Dev.setTim]
@[simp] theorem setTk_stepFrom (t : TimeSt) (k : TkId) (x : Tk) : (t.setTk k x).stepFrom = t.stepFrom := by cases k <;> rfl
@[simp] theorem advance_stepFrom (t : TimeSt) (x : Nat) : (t.advance x).stepFrom = t.stepFrom := by unfold TimeSt.advance; split <;> simp
@[simp] theorem at_stepFrom (d : Dev) (x : Nat) : (d.at_ x).tim.stepFrom = d.tim.stepFrom := by simp [Dev.at_]
@[simp] theorem updTk_stepFrom (d : Dev) (k : TkId) (g : Tk → Tk) : (d.updTk k g).tim.stepFrom = d.tim.stepFrom := by simp [Dev.updTk, Dev.setTim]
@[simp] theorem setTk_stepTo (t : TimeSt) (k : TkId) (x : Tk) : (t.setTk k x).stepTo = t.stepTo := by cases k <;> rfl
@[simp] theorem advance_stepTo (t : TimeSt) (x : Nat) : (t.advance x).stepTo = t.stepTo := by unfold TimeSt.advance; split <;> simp
@[simp] theorem at_stepTo (d : Dev) (x : Nat) : (d.at_ x).tim.stepTo = d.tim.stepTo := by simp [Dev.at_]
@[simp] theorem updTk_stepTo (d : Dev) (k : TkId) (g : Tk → Tk) : (d.updTk k g).tim.stepTo = d.tim.stepTo := by simp [Dev.updTk, Dev.setTim]
@[simp] theorem setTk_hoLimit (t : TimeSt) (k : TkId) (x : Tk) : (t.setTk k x).hoLimit = t.hoLimit := by cases k <;> rfl
@[simp] theorem advance_hoLimit (t : TimeSt) (x : Nat) : (t.advance x).hoLimit = t.hoLimit := by unfold TimeSt.advance; split <;> simp
@[simp] theorem at_hoLimit (d : Dev) (x : Nat) : (d.at_ x).tim.hoLimit = d.tim.hoLimit := by simp [Dev.at_]
@[simp] theorem updTk_hoLimit (d : Dev) (k : TkId) (g : Tk → Tk) : (d.updTk k g).tim.hoLimit = d.tim.hoLimit := by simp [Dev.updTk, Dev.setTim]
@[simp] theorem setTk_latch (t : TimeSt) (k : TkId) (x : Tk) : (t.setTk k x).latch = t.latch := by cases k <;> rfl
@[simp] theorem advance_latch (t : TimeSt) (x : Nat) : (t.advance x).latch = t.latch := by unfold TimeSt.advance; split <;> simp
@[simp] theorem at_latch (d : Dev) (x : Nat) : (d.at_ x).tim.latch = d.tim.latch := by simp [Dev.at_]
@[simp] theorem updTk_latch (d : Dev) (k : TkId) (g : Tk → Tk) : (d.updTk k g).tim.latch = d.tim.latch := by simp [Dev.updTk, Dev.setTim]
@[simp] theorem setTk_trigIn (t : TimeSt) (k : TkId) (x : Tk) : (t.setTk k x).trigIn = t.trigIn := by cases k <;> rfl
@[simp] theorem advance_trigIn (t : TimeSt) (x : Nat) : (t.advance x).trigIn = t.trigIn := by unfold TimeSt.advance; split <;> simp
@[simp] theorem at_trigIn (d : Dev) (x : Nat) : (d.at_ x).tim.trigIn = d.tim.trigIn := by simp [Dev.at_]
@[simp] theorem updTk_trigIn (d : Dev) (k : TkId) (g : Tk → Tk) : (d.updTk k g).tim.trigIn = d.tim.trigIn := by simp [Dev.updTk, Dev.setTim]
@[simp] theorem setTk_trigOut (t : TimeSt) (k : TkId) (x : Tk) : (t.setTk k x).trigOut = t.trigOut := by cases k <;> rfl
@[simp] theorem advance_trigOut (t : TimeSt) (x : Nat) : (t.advance x).trigOut = t.trigOut := by unfold TimeSt.advance; split <;> simp
@[simp] theorem at_trigOut (d : Dev) (x : Nat) : (d.at_ x).tim.trigOut = d.tim.trigOut := by simp [Dev.at_]
@[simp] theorem updTk_trigOut (d : Dev) (k : TkId) (g : Tk → Tk) : (d.updTk k g).tim.trigOut = d.tim.trigOut := by simp [Dev.updTk, Dev.setTim]
@[simp] theorem setTk_ppsOut (t : TimeSt) (k : TkId) (x : Tk) : (t.setTk k x).ppsOut = t.ppsOut := by cases k <;> rfl
@[simp] theorem advance_ppsOut (t : TimeSt) (x : Nat) : (t.advance x).ppsOut = t.ppsOut := by unfold TimeSt.advance; split <;> simp
@[simp] theorem at_ppsOut (d : Dev) (x : Nat) : (d.at_ x).tim.ppsOut = d.tim.ppsOut := by simp [Dev.at_]
@[simp] theorem updTk_ppsOut (d : Dev) (k : TkId) (g : Tk → Tk) : (d.updTk k g).tim.ppsOut = d.tim.ppsOut := by simp [Dev.updTk, Dev.setTim]
@[simp] theorem setTk_irigLast (t : TimeSt) (k : TkId) (x : Tk) : (t.setTk k x).irigLast = t.irigLast := by cases k <;> rfl
@[simp] theorem advance_irigLast (t : TimeSt) (x : Nat) : (t.advance x).irigLast = t.irigLast := by unfold TimeSt.advance; split <;> simp
@[simp] theorem at_irigLast (d : Dev) (x : Nat) : (d.at_ x).tim.irigLast = d.tim.irigLast := by simp [Dev.at_]
@[simp] theorem updTk_irigLast (d : Dev) (k : TkId) (g : Tk → Tk) : (d.updTk k g).tim.irigLast = d.tim.irigLast := by simp [Dev.updTk, Dev.setTim]
@[simp] theorem advance_tk_adjust (t : TimeSt) (k : TkId) (x : Nat) : ((t.advance x).tk k).adjust = (t.tk k).adjust := by
  unfold TimeSt.advance; split <;> [rfl; (cases hd : t.drive <;> cases k <;> simp [TimeSt.setTk, TimeSt.tk, TkId.other])]
@[simp] theorem at_tk_adjust (d : Dev) (k : TkId) (x : Nat) : ((d.at_ x).tim.tk k).adjust = (d.tim.tk k).adjust := by simp [Dev.at_]
@[simp] theorem advance_tk_freqEst (t : TimeSt) (k : TkId) (x : Nat) : ((t.advance x).tk k).freqEst = (t.tk k).freqEst := by
  unfold TimeSt.advance; split <;> [rfl; (cases hd : t.drive <;> cases k <;> simp [TimeSt.setTk, TimeSt.tk, TkId.other])]
@[simp] theorem at_tk_freqEst (d : Dev) (k : TkId) (x : Nat) : ((d.at_ x).tim.tk k).freqEst = (d.tim.tk k).freqEst := by simp [Dev.at_]
@[simp] theorem advance_tk_hist (t : TimeSt) (k : TkId) (x : Nat) : ((t.advance x).tk k).hist = (t.tk k).hist := by
  unfold TimeSt.advance; split <;> [rfl; (cases hd : t.drive <;> cases k <;> simp [TimeSt.setTk, TimeSt.tk, TkId.other])]
@[simp] theorem at_tk_hist (d : Dev) (k : TkId) (x : Nat) : ((d.at_ x).tim.tk k).hist = (d.tim.tk k).hist := by simp [Dev.at_]
@[simp] theorem advance_tk_lastUpd (t : TimeSt) (k : TkId) (x : Nat) : ((t.advance x).tk k).lastUpd = (t.tk k).lastUpd := by
  unfold TimeSt.advance; split <;> [rfl; (cases hd : t.drive <;> cases k <;> simp [TimeSt.setTk, TimeSt.tk, TkId.other])]
@[simp] theorem at_tk_lastUpd (d : Dev) (k : TkId) (x : Nat) : ((d.at_ x).tim.tk k).lastUpd = (d.tim.tk k).lastUpd := by simp [Dev.at_]
@[simp] theorem advance_tk_lockRun (t : TimeSt) (k : TkId) (x : Nat) : ((t.advance x).tk k).lockRun = (t.tk k).lockRun := by
  unfold TimeSt.advance; split <;> [rfl; (cases hd : t.drive <;> cases k <;> simp [TimeSt.setTk, TimeSt.tk, TkId.other])]
@[simp] theorem at_tk_lockRun (d : Dev) (k : TkId) (x : Nat) : ((d.at_ x).tim.tk k).lockRun = (d.tim.tk k).lockRun := by simp [Dev.at_]
@[simp] theorem advance_tk_unlockRun (t : TimeSt) (k : TkId) (x : Nat) : ((t.advance x).tk k).unlockRun = (t.tk k).unlockRun := by
  unfold TimeSt.advance; split <;> [rfl; (cases hd : t.drive <;> cases k <;> simp [TimeSt.setTk, TimeSt.tk, TkId.other])]
@[simp] theorem at_tk_unlockRun (d : Dev) (k : TkId) (x : Nat) : ((d.at_ x).tim.tk k).unlockRun = (d.tim.tk k).unlockRun := by simp [Dev.at_]
@[simp] theorem advance_tk_oscOk (t : TimeSt) (k : TkId) (x : Nat) : ((t.advance x).tk k).oscOk = (t.tk k).oscOk := by
  unfold TimeSt.advance; split <;> [rfl; (cases hd : t.drive <;> cases k <;> simp [TimeSt.setTk, TimeSt.tk, TkId.other])]
@[simp] theorem at_tk_oscOk (d : Dev) (k : TkId) (x : Nat) : ((d.at_ x).tim.tk k).oscOk = (d.tim.tk k).oscOk := by simp [Dev.at_]
@[simp] theorem advance_tk_stepBy (t : TimeSt) (k : TkId) (x : Nat) : ((t.advance x).tk k).stepBy = (t.tk k).stepBy := by
  unfold TimeSt.advance; split <;> [rfl; (cases hd : t.drive <;> cases k <;> simp [TimeSt.setTk, TimeSt.tk, TkId.other])]
@[simp] theorem at_tk_stepBy (d : Dev) (k : TkId) (x : Nat) : ((d.at_ x).tim.tk k).stepBy = (d.tim.tk k).stepBy := by simp [Dev.at_]
@[simp] theorem advance_tk_offset (t : TimeSt) (k : TkId) (x : Nat) : ((t.advance x).tk k).offset = (t.tk k).offset := by
  unfold TimeSt.advance; split <;> [rfl; (cases hd : t.drive <;> cases k <;> simp [TimeSt.setTk, TimeSt.tk, TkId.other])]
@[simp] theorem at_tk_offset (d : Dev) (k : TkId) (x : Nat) : ((d.at_ x).tim.tk k).offset = (d.tim.tk k).offset := by simp [Dev.at_]
@[simp] theorem advance_tk_hoSince (t : TimeSt) (k : TkId) (x : Nat) : ((t.advance x).tk k).hoSince = (t.tk k).hoSince := by
  unfold TimeSt.advance; split <;> [rfl; (cases hd : t.drive <;> cases k <;> simp [TimeSt.setTk, TimeSt.tk, TkId.other])]
@[simp] theorem at_tk_hoSince (d : Dev) (k : TkId) (x : Nat) : ((d.at_ x).tim.tk k).hoSince = (d.tim.tk k).hoSince := by simp [Dev.at_]
@[simp] theorem advance_tk_eligSince (t : TimeSt) (k : TkId) (x : Nat) : ((t.advance x).tk k).eligSince = (t.tk k).eligSince := by
  unfold TimeSt.advance; split <;> [rfl; (cases hd : t.drive <;> cases k <;> simp [TimeSt.setTk, TimeSt.tk, TkId.other])]
@[simp] theorem at_tk_eligSince (d : Dev) (k : TkId) (x : Nat) : ((d.at_ x).tim.tk k).eligSince = (d.tim.tk k).eligSince := by simp [Dev.at_]
@[simp] theorem advance_tk_trackSince (t : TimeSt) (k : TkId) (x : Nat) : ((t.advance x).tk k).trackSince = (t.tk k).trackSince := by
  unfold TimeSt.advance; split <;> [rfl; (cases hd : t.drive <;> cases k <;> simp [TimeSt.setTk, TimeSt.tk, TkId.other])]
@[simp] theorem at_tk_trackSince (d : Dev) (k : TkId) (x : Nat) : ((d.at_ x).tim.tk k).trackSince = (d.tim.tk k).trackSince := by simp [Dev.at_]

@[simp] theorem updTk_tk_same (d : Dev) (k : TkId) (f : Tk → Tk) : (d.updTk k f).tim.tk k = f (d.tim.tk k) := by
  simp [Dev.updTk, Dev.setTim]
@[simp] theorem updTk_tk_other (d : Dev) (k : TkId) (f : Tk → Tk) : (d.updTk k f).tim.tk k.other = d.tim.tk k.other := by
  simp [Dev.updTk, Dev.setTim]
@[simp] theorem updTk_other_tk (d : Dev) (k : TkId) (f : Tk → Tk) : (d.updTk k.other f).tim.tk k = d.tim.tk k := by
  simp [Dev.updTk, Dev.setTim]
@[simp] theorem setTim_tim (d : Dev) (t : TimeSt) : (d.setTim t).tim = t := rfl

end Sys2Proof.Machine
end

