-- ==== Sys2Proof/Laws/Paths.lean ====
section
/-! SUPPORT. How an object command reaches the arbiter from its path, and a direct write there. -/
namespace Sys2Proof.Machine
open Sys2Proof

theorem tget_tputAll_lt {α} [DecidableEq α] (d : α) (t : Tab α) (l : List α) (a b : Nat) (h : b < a) :
    tget d (tputAll d t a l) b = tget d t b := by
  induction l generalizing t a with
  | nil => rfl
  | cons x xs ih => simp only [tputAll]; rw [ih _ _ (by omega), tget_tput_ne _ _ _ _ (by omega)]

theorem tgetAll_tputAll {α} [DecidableEq α] (d : α) (t : Tab α) (l : List α) (a : Nat) :
    tgetAll d (tputAll d t a l) a l.length = l := by
  induction l generalizing t a with
  | nil => rfl
  | cons x xs ih =>
    simp only [tputAll, List.length_cons, tgetAll]
    rw [tget_tputAll_lt _ _ _ _ _ (by omega), tget_tput_same, ih]

/-- A request of a row: its fields fit the mailbox's registers. -/
def Req.fits (q : Req) : Prop := q.cmd < 16 ∧ q.boundary < 8 ∧ q.idx < 65536 ∧ q.sub < 256 ∧ q.elem < 4294967296 ∧
  q.offset < 4294967296 ∧ q.txn < 4294967296 ∧ q.txid < 4294967296 ∧ q.len = q.data.length ∧ q.data.length ≤ 3840 ∧ q.typ = 0

theorem load_req (x : Mailbox) (q : Req) (h : q.fits) : (x.load q).req = q := by
  obtain ⟨h1, h2, h3, h4, h5, h6, h7, h8, h9, h10, h11⟩ := h
  have ht : q.data.take 3840 = q.data := List.take_of_length_le h10
  have hl : q.data.length % 65536 = q.data.length := by omega
  have := tgetAll_tputAll (0 : Byte) x.data q.data 0
  cases q
  simp only at *
  simp only [Mailbox.req, Mailbox.load, ht, hl, Nat.mod_eq_of_lt, h1, h2, h3, h4, h5, h6, h7, h8, h9, h11, if_pos h10, this, hl, ↓reduceIte, h10]

theorem setMbx_mbx (d : Dev) (m : Nat) (x : Mailbox) : (d.setMbx m x).mbx m = x := by
  simp [Dev.mbx, Dev.setMbx, Dev.setObj]

theorem asked_fits {d : Dev} {p : Path} {q : Req} (hq : q.fits) (hn : q.txn = 0) (hp : p ≠ .hot) : d.asked p q = q := by
  have hqn : ({ q with txn := 0 } : Req) = q := by rw [← hn]
  cases p <;> simp only [Dev.asked, hqn]
  · exact load_req _ q hq
  · exact absurd rfl hp

/-- A request that a path takes as a new one reaches the arbiter. -/
theorem submit_new {d : Dev} {p : Path} {q : Req} (ht : d.takes p q) :
    d.submit p q = if p = .hot then ((d.perform .hot (d.asked .hot q))).2 else (d.arrive p q).handleCmd p (d.asked p q) := by
  obtain ⟨hr, ht⟩ := ht
  cases p with
  | mailbox m =>
    obtain ⟨hb, hl, ht⟩ := ht
    have hbl : ((d.mbx m).load q).busy = false := by simp [Mailbox.load, hb]
    have hlen : ¬ 3840 < ((d.mbx m).load q).len := by
      have : (d.asked (.mailbox m) q).len = ((d.mbx m).load q).len := rfl
      omega
    have hrp : ∀ y z, ((d.setMbx m y).setMbx m z).replayed (.mailbox m) (d.asked (.mailbox m) q) = d.replayed (.mailbox m) (d.asked (.mailbox m) q) := fun _ _ => rfl
    have hq : ((d.mbx m).load q).req = d.asked (.mailbox m) q := rfl
    simp only [Dev.submit, hr, hb, Dev.mbxGo, setMbx_mbx, hbl, if_neg hlen, hq, Dev.start, Dev.arrive, hrp]
    rcases ht with ht | ht
    · simp [ht, Path.needsId]
    · by_cases h0 : (d.asked (.mailbox m) q).txid = 0 <;> simp [h0, ht, Path.needsId]
  | hot => simp [Dev.submit, hr, ht, Dev.asked]
  | kmp a b c e =>
    have h1 : (d.asked (.kmp a b c e) q).txid ≠ 0 := ht.1
    have h2 : d.replayed (.kmp a b c e) { q with txn := 0 } = .apply := ht.2
    simp only [Dev.submit, hr, Dev.start, Dev.arrive, h2]; simp [Dev.asked, ht.1]
  | ring a b =>
    have h2 : d.replayed (.ring a b) { q with txn := 0 } = .apply := ht.2
    simp only [Dev.submit, hr, Dev.start, Dev.arrive, h2]; simp [Dev.asked, ht.1]
  | spi =>
    obtain ⟨hb, h0, ht⟩ := ht
    have ht' : Dev.replayed ({ d with spi := { d.spi with busy := true, valid := false, txid := q.txid, data := [], abort := 0, replay := false } } : Dev) .spi q = .apply := ht
    simp only [Dev.submit, hr, hb, Dev.start, Dev.arrive, ht']; simp [Dev.asked, h0]

theorem leastCode_zero {l : List Nat} (h : ∀ c ∈ l, c = 0) : leastCode l = 0 := by
  unfold leastCode
  induction l with
  | nil => rfl
  | cons c t ih => rw [List.foldl_cons, h c (by simp), if_pos rfl]; exact ih (fun x hx => h x (by simp [hx]))

/-- A direct write at the arbiter: nothing forbids it. -/
theorem perform_direct {d : Dev} {p : Path} {q : Req} {x : Obj} (hc : q.cmd = 2) (ht : q.txn = 0)
    (hi : q.idx * 256 + q.sub < 0xF00000) (h5 : (q.idx * 256 + q.sub) / 256 ≠ 0x5200 ∧ (q.idx * 256 + q.sub) / 256 ≠ 0x5010)
    (hx : objOf (q.idx * 256 + q.sub) = some x) (he : q.elem < elemsOf ((q.idx * 256 + q.sub) / 256))
    (ha : x.access = .wo ∨ x.access = .rw) (hl : d.lets p (q.idx * 256 + q.sub) q.elem x.role)
    (hv : ∀ c ∈ d.valueCodes x q, c = 0)
    (hd : d.directCode (q.idx * 256 + q.sub) q.elem
      (if x.ty.isBytes then spliced (d.getB (q.idx * 256 + q.sub) q.elem) q.offset q.data else q.data) = 0) :
    d.perform p q = (code_ 0, d.writeDirect x q.elem q.offset q.data) := by
  obtain ⟨hl1, hl2, hl3⟩ := hl
  have hlook : d.lookup (q.idx * 256 + q.sub) q.elem (d.pathRole p) = (some x, [0, 0]) := by
    have hn : ¬ 0xF000 ≤ (q.idx * 256 + q.sub) / 256 := by omega
    simp only [Dev.lookup, if_neg hn, Dev.look, if_neg h5.1, hx, Option.map_some, hl2, he]
    simp [h5.2]
  have hn : (x.access = .const ∨ x.access = .ro) = False := by rcases ha with h | h <;> simp [h]
  have hr : (x.access == .rws) = false := by rcases ha with h | h <;> simp [h]
  have hr' : x.access ≠ .rws := by rcases ha with h | h <;> simp [h]
  simp only [Dev.perform, hc, Dev.write, hlook, Dev.writeCodes, hn, hr, ht, hl1, hl3, ha, if_true, hd]
  have hz : leastCode ([0, 0] ++ (([0, 0, 0, 0] ++ d.valueCodes x q) ++ []) ++ [0]) = 0 := leastCode_zero (by
    intro c hc; simp at hc; rcases hc with h | h | h
    · exact h
    · exact hv c h
    · exact h)
  simp [hr']
  intro hcon
  exact absurd (leastCode_zero (by intro c hc; simp at hc; rcases hc with h | h | h <;> first | exact h | exact hv c h)) hcon

/-- A direct write of a row on a path. -/
theorem write_row {d : Dev} {p : Path} {q : Req} {x : Obj} (hq : q.fits) (ht : d.takes p q) (hc : q.cmd = 2) (hn : q.txn = 0)
    (hi : q.idx * 256 + q.sub < 0xF00000) (h5 : (q.idx * 256 + q.sub) / 256 ≠ 0x5200 ∧ (q.idx * 256 + q.sub) / 256 ≠ 0x5010)
    (hx : objOf (q.idx * 256 + q.sub) = some x) (he : q.elem < elemsOf ((q.idx * 256 + q.sub) / 256))
    (ha : x.access = .wo ∨ x.access = .rw) (hl : (d.arrive p q).lets p (q.idx * 256 + q.sub) q.elem x.role)
    (hv : ∀ c ∈ (d.arrive p q).valueCodes x q, c = 0)
    (hd : (d.arrive p q).directCode (q.idx * 256 + q.sub) q.elem
      (if x.ty.isBytes then spliced ((d.arrive p q).getB (q.idx * 256 + q.sub) q.elem) q.offset q.data else q.data) = 0) :
    d.submit p q = ((d.arrive p q).writeDirect x q.elem q.offset q.data).replied p (d.asked p q) ⟨0, [], 0⟩ := by
  rw [submit_new ht]
  split
  · next h =>
    subst h
    have : d.arrive .hot q = d := by simp [Dev.arrive, Dev.asked]
    rw [this] at hl hv hd ⊢
    have hq : d.asked .hot q = { q with txid := 0 } := by cases q; simp at hn; subst hn; rfl
    have := perform_direct (d := d) (p := .hot) (q := { q with txid := 0 }) hc hn hi h5 hx he ha hl hv hd
    rw [hq, this]; rfl
  · next h =>
    rw [asked_fits hq hn h, Dev.handleCmd, perform_direct hc hn hi h5 hx he ha hl hv hd]
    cases p <;> simp [Dev.replied, code_] at h ⊢ <;> split_ifs <;> simp_all

theorem reqFor_o {o : Nat} (cmd e txid : Nat) (data : List Byte) :
    (reqFor cmd o e txid data).idx * 256 + (reqFor cmd o e txid data).sub = o := by
  simp [reqFor]; omega

theorem reqFor_fits {o e txid cmd off : Nat} {data : List Byte} (ho : o < 16777216) (he : e < 4294967296) (hx : txid < 4294967296)
    (hc : cmd < 16) (hd : data.length ≤ 3840) (hf : off < 4294967296) : ({ reqFor cmd o e txid data with offset := off } : Req).fits := by
  refine ⟨hc, ?_, ?_, ?_, he, hf, ?_, hx, rfl, hd, rfl⟩ <;> simp [reqFor] <;> omega

theorem write_row' {d : Dev} {p : Path} {o e txid off : Nat} {bs : List Byte} {x : Obj} (hx : objOf o = some x) (ho : o < 0xF00000)
    (he : e < elemsOf (o / 256)) (hee : e < 4294967296)
    (h5 : o / 256 ≠ 0x5200 ∧ o / 256 ≠ 0x5010) (hi : txid < 4294967296) (hb : bs.length ≤ 3840) (hf : off < 4294967296)
    (ha : x.access = .wo ∨ x.access = .rw) (ht : d.takes p { reqFor 2 o e txid bs with offset := off })
    (hl : (d.arrive p { reqFor 2 o e txid bs with offset := off }).lets p o e x.role)
    (hv : ∀ c ∈ (d.arrive p { reqFor 2 o e txid bs with offset := off }).valueCodes x { reqFor 2 o e txid bs with offset := off }, c = 0)
    (hd : (d.arrive p { reqFor 2 o e txid bs with offset := off }).directCode o e
      (if x.ty.isBytes then spliced ((d.arrive p { reqFor 2 o e txid bs with offset := off }).getB o e) off bs else bs) = 0) :
    d.submit p { reqFor 2 o e txid bs with offset := off } =
      ((d.arrive p { reqFor 2 o e txid bs with offset := off }).writeDirect x e off bs).replied p (d.asked p { reqFor 2 o e txid bs with offset := off }) ⟨0, [], 0⟩ := by
  have h := reqFor_o (o := o) 2 e txid bs
  have key := write_row (d := d) (p := p) (q := { reqFor 2 o e txid bs with offset := off }) (x := x)
    (reqFor_fits (by omega) hee hi (by omega) hb hf) ht rfl rfl
  simp only [h] at key
  exact key ho h5 hx he ha hl hv hd


/-- A row that writes a number: its direct write takes effect. -/
theorem row_num {s : State} {p : Path} {o e n v txid : Nat} {x : Obj} {f : Dev → Dev} {c : Instr}
    (hc : exec c s = run s (writeCommand o e n v p txid)) (hL : Lets s p (reqFor 2 o e txid (leBytes n v)) x.role)
    (hx : objOf o = some x) (ho : o < 0xF00000) (he : e < elemsOf (o / 256)) (hee : e < 4294967296)
    (h5 : o / 256 ≠ 0x5200 ∧ o / 256 ≠ 0x5010) (hi : txid < 4294967296) (hb : (leBytes n v).length ≤ 3840)
    (ha : x.access = .wo ∨ x.access = .rw)
    (hv : ∀ c ∈ (s.dev.arrive p (reqFor 2 o e txid (leBytes n v))).valueCodes x (reqFor 2 o e txid (leBytes n v)), c = 0)
    (hd : (s.dev.arrive p (reqFor 2 o e txid (leBytes n v))).directCode o e
      (if x.ty.isBytes then spliced ((s.dev.arrive p (reqFor 2 o e txid (leBytes n v))).getB o e) 0 (leBytes n v) else leBytes n v) = 0)
    (hf : (s.dev.arrive p (reqFor 2 o e txid (leBytes n v))).writeDirect x e 0 (leBytes n v)
      = f (s.dev.arrive p (reqFor 2 o e txid (leBytes n v)))) :
    GivesOn c s p (reqFor 2 o e txid (leBytes n v)) f := by
  obtain ⟨hp, ht, hl⟩ := hL
  rw [reqFor_o] at hl
  rw [GivesOn, Gives, hc, run_on hp, ← hf]
  have := write_row' (off := 0) hx ho he hee h5 hi hb (by omega) ha ht hl hv hd
  rw [writeCommand]
  exact congrArg _ (congrArg _ this)

/-- A row that writes bytes. -/
theorem row_bytes {s : State} {p : Path} {o e off txid : Nat} {bs : List Byte} {x : Obj} {f : Dev → Dev} {c : Instr}
    (hc : exec c s = run s (writeBytes o e off bs p txid)) (hL : Lets s p { reqFor 2 o e txid bs with offset := off } x.role)
    (hx : objOf o = some x) (ho : o < 0xF00000) (he : e < elemsOf (o / 256)) (hee : e < 4294967296)
    (h5 : o / 256 ≠ 0x5200 ∧ o / 256 ≠ 0x5010) (hi : txid < 4294967296) (hb : bs.length ≤ 3840) (hof : off < 4294967296)
    (ha : x.access = .wo ∨ x.access = .rw)
    (hv : ∀ c ∈ (s.dev.arrive p { reqFor 2 o e txid bs with offset := off }).valueCodes x { reqFor 2 o e txid bs with offset := off }, c = 0)
    (hd : (s.dev.arrive p { reqFor 2 o e txid bs with offset := off }).directCode o e
      (if x.ty.isBytes then spliced ((s.dev.arrive p { reqFor 2 o e txid bs with offset := off }).getB o e) off bs else bs) = 0)
    (hf : (s.dev.arrive p { reqFor 2 o e txid bs with offset := off }).writeDirect x e off bs
      = f (s.dev.arrive p { reqFor 2 o e txid bs with offset := off })) :
    GivesOn c s p { reqFor 2 o e txid bs with offset := off } f := by
  obtain ⟨hp, ht, hl⟩ := hL
  have h := reqFor_o (o := o) 2 e txid bs
  simp only [h] at hl
  rw [GivesOn, Gives, hc, run_on hp, ← hf]
  have := write_row' (off := off) hx ho he hee h5 hi hb hof ha ht hl hv hd
  rw [writeBytes]
  exact congrArg _ (congrArg _ this)

theorem effect_901007 (d : Dev) (e off : Nat) (bs seg : List Byte) : d.directEffect 0x901007 e off bs seg = d.dieReset (leNat bs) := by
  simp [Dev.directEffect]
theorem code_901007 (d : Dev) (e : Nat) (bs : List Byte) : d.directCode 0x901007 e bs = 0 := by
  simp [Dev.directCode]
theorem effect_208005 (d : Dev) (e off : Nat) (bs seg : List Byte) : d.directEffect 0x208005 e off bs seg = (if leNat bs = 1 then d.armTrig e else d.disarmTrig e) := by
  simp [Dev.directEffect]
theorem code_208005 (d : Dev) (e : Nat) (bs : List Byte) : d.directCode 0x208005 e bs = (if leNat bs = 1 then d.armCode e else 0) := by
  simp [Dev.directCode]
theorem effect_340008 (d : Dev) (e off : Nat) (bs seg : List Byte) : d.directEffect 0x340008 e off bs seg = (if leNat bs = 1 then d.sesStart e else d.sesStop e) := by
  simp [Dev.directEffect]
theorem code_340008 (d : Dev) (e : Nat) (bs : List Byte) : d.directCode 0x340008 e bs = (if leNat bs = 1 then d.sesStartCode e else d.sesStopCode e) := by
  simp [Dev.directCode]
theorem effect_31100E (d : Dev) (e off : Nat) (bs seg : List Byte) : d.directEffect 0x31100E e off bs seg = d.recoveryReset e := by
  simp [Dev.directEffect]
theorem code_31100E (d : Dev) (e : Nat) (bs : List Byte) : d.directCode 0x31100E e bs = 0 := by
  simp [Dev.directCode]
theorem effect_312009 (d : Dev) (e off : Nat) (bs seg : List Byte) : d.directEffect 0x312009 e off bs seg = d.generationReset e := by
  simp [Dev.directEffect]
theorem code_312009 (d : Dev) (e : Nat) (bs : List Byte) : d.directCode 0x312009 e bs = 0 := by
  simp [Dev.directCode]
theorem effect_405001 (d : Dev) (e off : Nat) (bs seg : List Byte) : d.directEffect 0x405001 e off bs seg = (d.sendMessage4050 e bs).2 := by
  simp [Dev.directEffect]
theorem code_405001 (d : Dev) (e : Nat) (bs : List Byte) : d.directCode 0x405001 e bs = (d.sendMessage4050 e bs).1 := by
  simp [Dev.directCode]
theorem effect_510007 (d : Dev) (e off : Nat) (bs seg : List Byte) : d.directEffect 0x510007 e off bs seg = d.slotRestart e := by
  simp [Dev.directEffect]
theorem code_510007 (d : Dev) (e : Nat) (bs : List Byte) : d.directCode 0x510007 e bs = 0 := by
  simp [Dev.directCode]
theorem effect_50000C (d : Dev) (e off : Nat) (bs seg : List Byte) : d.directEffect 0x50000C e off bs seg = (if leNat bs = 1 then (d.forceRehome e).2 else d.engineUnitReset e) := by
  simp [Dev.directEffect]
theorem code_50000C (d : Dev) (e : Nat) (bs : List Byte) : d.directCode 0x50000C e bs = (if leNat bs = 1 then (d.forceRehome e).1 else 0) := by
  simp [Dev.directCode]
theorem effect_502002 (d : Dev) (e off : Nat) (bs seg : List Byte) : d.directEffect 0x502002 e off bs seg = (if leNat bs = 1 then d.imageVerify e else d.imageErase e) := by
  simp [Dev.directEffect]
theorem code_502002 (d : Dev) (e : Nat) (bs : List Byte) : d.directCode 0x502002 e bs = (if leNat bs = 2 ∧ d.imageInUse e then 0x0502 else 0) := by
  simp [Dev.directCode]
theorem effect_A02103 (d : Dev) (e off : Nat) (bs seg : List Byte) : d.directEffect 0xA02103 e off bs seg = (d.captureRelease e).2 := by
  simp [Dev.directEffect]
theorem code_A02103 (d : Dev) (e : Nat) (bs : List Byte) : d.directCode 0xA02103 e bs = (d.captureRelease e).1 := by
  simp [Dev.directCode]
theorem effect_A02102 (d : Dev) (e off : Nat) (bs seg : List Byte) : d.directEffect 0xA02102 e off bs seg = (d.captureExport e (leNat bs)).2 := by
  simp [Dev.directEffect]
theorem code_A02102 (d : Dev) (e : Nat) (bs : List Byte) : d.directCode 0xA02102 e bs = (d.captureExport e (leNat bs)).1 := by
  simp [Dev.directCode]
theorem effect_802003 (d : Dev) (e off : Nat) (bs seg : List Byte) : d.directEffect 0x802003 e off bs seg = d.releaseSafe e := by
  simp [Dev.directEffect]
theorem code_802003 (d : Dev) (e : Nat) (bs : List Byte) : d.directCode 0x802003 e bs = d.releaseCode e := by
  simp [Dev.directCode]
theorem effect_800003 (d : Dev) (e off : Nat) (bs seg : List Byte) : d.directEffect 0x800003 e off bs seg = d.clearFirst := by
  simp [Dev.directEffect]
theorem code_800003 (d : Dev) (e : Nat) (bs : List Byte) : d.directCode 0x800003 e bs = 0 := by
  simp [Dev.directCode]
theorem effect_800006 (d : Dev) (e off : Nat) (bs seg : List Byte) : d.directEffect 0x800006 e off bs seg = d.endReaction (leAt bs 0 2) (leAt bs 4 4) := by
  simp [Dev.directEffect]
theorem code_800006 (d : Dev) (e : Nat) (bs : List Byte) : d.directCode 0x800006 e bs = ackCode bs := by
  simp [Dev.directCode]
theorem effect_820005 (d : Dev) (e off : Nat) (bs seg : List Byte) : d.directEffect 0x820005 e off bs seg = (if leNat bs = 1 then d.armInject e else d.disarmInject e) := by
  simp [Dev.directEffect]
theorem code_820005 (d : Dev) (e : Nat) (bs : List Byte) : d.directCode 0x820005 e bs = (if leNat bs = 1 then d.armInjectCode e else 0) := by
  simp [Dev.directCode]
theorem effect_900002 (d : Dev) (e off : Nat) (bs seg : List Byte) : d.directEffect 0x900002 e off bs seg = (if leNat bs = 1 then d.dozeBegin 1 else if leNat bs = 2 then d.wake 1 else if leNat bs = 3 then d.lantern 1 else d.restart) := by
  simp [Dev.directEffect]
theorem code_900002 (d : Dev) (e : Nat) (bs : List Byte) : d.directCode 0x900002 e bs = (if leNat bs = 1 then d.dozeCode else if leNat bs = 2 then d.wakeCode else if leNat bs = 3 then d.lanternCode else d.restartCode) := by
  simp [Dev.directCode]
theorem effect_130101 (d : Dev) (e off : Nat) (bs seg : List Byte) : d.directEffect 0x130101 e off bs seg = d.confirm := by
  simp [Dev.directEffect]
theorem code_130101 (d : Dev) (e : Nat) (bs : List Byte) : d.directCode 0x130101 e bs = d.confirmCode (leNat bs) := by
  simp [Dev.directCode]
theorem effect_131001 (d : Dev) (e off : Nat) (bs seg : List Byte) : d.directEffect 0x131001 e off bs seg = d.flashBlock e off seg := by
  simp [Dev.directEffect]
theorem code_131001 (d : Dev) (e : Nat) (bs : List Byte) : d.directCode 0x131001 e bs = (if d.flashBusy then 0x0502 else 0) := by
  simp [Dev.directCode]
theorem effect_131101 (d : Dev) (e off : Nat) (bs seg : List Byte) : d.directEffect 0x131101 e off bs seg = (if leNat bs = 1 then d.slotVerify e else d.slotErase e) := by
  simp [Dev.directEffect]
theorem code_131101 (d : Dev) (e : Nat) (bs : List Byte) : d.directCode 0x131101 e bs = 0 := by
  simp [Dev.directCode]
theorem effect_200009 (d : Dev) (e off : Nat) (bs seg : List Byte) : d.directEffect 0x200009 e off bs seg = d.setCounters (leNat bs) := by
  simp [Dev.directEffect]
theorem code_200009 (d : Dev) (e : Nat) (bs : List Byte) : d.directCode 0x200009 e bs = d.setCountersCode := by
  simp [Dev.directCode]

theorem writeDirect_wo {d : Dev} {x : Obj} {e off : Nat} {seg : List Byte} (ha : x.access = .wo) (hk : keptWo x.num = false) :
    d.writeDirect x e off seg = d.directEffect x.num e off (if x.ty.isBytes then spliced (d.getB x.num e) off seg else seg) seg := by
  simp [Dev.writeDirect, ha, hk]

/-- The value of a command object of one byte is one of those listed: no code. -/
theorem values_oneOf {d : Dev} {o e txid v : Nat} {r : Role} {d0 : Nat} {l : List Int} (hv : v < 256) (hl : l.contains (v : Int) = true)
    (hr : valueRule o e v = true) :
    ∀ c ∈ d.valueCodes (num o .u8 .wo r d0 (.oneOf l)) (reqFor 2 o e txid (leBytes 1 v)), c = 0 := by
  have hb : (byte v).toNat = v := by simp [byte]; omega
  have hl' : (v : Int) ∈ l := by simpa using hl
  simp [Dev.valueCodes, num, numCodes, reqFor, Ty.size, Ty.isBytes, leNat, leBytes, Ty.signed, hb, hr, hl']

/-- A number's little-endian bytes read back as the number. -/
theorem leNat_leBytes (n v : Nat) : leNat (leBytes n v) = v % 256 ^ n := by
  induction n generalizing v with
  | zero => simp [leBytes, leNat, Nat.mod_one]
  | succ n ih =>
    rw [leBytes, leNat, ih, pow_succ, Nat.mul_comm (256 ^ n) 256, Nat.mod_mul]
    simp [byte]

theorem length_leBytes (n v : Nat) : (leBytes n v).length = n := by
  induction n generalizing v with
  | zero => rfl
  | succ n ih => simp [leBytes, ih]

/-- A direct write of a command object of one number. -/
theorem writeDirect_num {d : Dev} {o e : Nat} {ty : Ty} {r : Role} {d0 : Nat} {l : Limit} {bs : List Byte} (hk : keptWo o = false)
    (hb : ty.isBytes = false) : d.writeDirect (num o ty .wo r d0 l) e 0 bs = d.directEffect o e 0 bs bs := by
  rw [writeDirect_wo rfl hk]
  have : (num o ty .wo r d0 l).ty.isBytes = false := hb
  rw [this]; rfl

/-- A logical engine that is idle and not on the spare moves to a spare that is ready. -/
theorem forceRehome_ok {d : Dev} {l : Nat} (h1 : d.spareReady (l / 32) = true) (h2 : d.get 0x500102 (l / 32) ≠ d.hostOf l)
    (h3 : (d.engine (d.hostOf l)).state = 0) : d.forceRehome l = (0, d.rehome (d.hostOf l)) := by
  simp [Dev.forceRehome, h1, h2, h3]

/-! ### Reads -/

/-- An object command that its path takes is handled at once and its answer held. -/
theorem perform_answer {d : Dev} {p : Path} {q a : Req} {r : Resp} {e : Dev} (ht : d.takes p q) (ha : d.asked p q = a)
    (h : (d.arrive p q).perform p a = (.answer r, e)) : d.submit p q = e.replied p a r := by
  rw [submit_new ht]
  split
  · next hp =>
    subst hp
    have : d.arrive .hot q = d := by simp [Dev.arrive, Dev.asked]
    rw [this] at h; rw [ha, h]; rfl
  · next hp => rw [ha, Dev.handleCmd, h]; cases p <;> simp [Dev.replied] at hp ⊢ <;> split_ifs <;> simp_all

/-- An object of the catalogue is found where its power state answers. -/
theorem look_cat {d : Dev} {o e : Nat} {r : Role} {x : Obj} (hx : objOf o = some x) (ho : o < 0xF00000) (h1 : o / 256 ≠ 0x5200)
    (h2 : o / 256 ≠ 0x5010) (he : e < elemsOf (o / 256)) (ha : d.answers o e = true) : d.lookup o e r = (some x, [0, 0]) := by
  simp only [Dev.lookup, if_neg (by omega : ¬ 0xF000 ≤ o / 256), Dev.look, if_neg h1, hx, Option.map_some, ha, he]
  simp [h2]

/-- A number is at most 16 bytes long. -/
theorem size_le (t : Ty) : t.size ≤ 16 := by cases t <;> decide

/-- A READ of a number gives its bytes and changes nothing. -/
theorem read_num {d : Dev} {p : Path} {role : Role} {a : Req} {x : Obj} {o : Nat} (ho : a.idx * 256 + a.sub = o) (hx : objOf o = some x)
    (h0 : o % 256 ≠ 0) (hf : o < 0xF00000) (h1 : o / 256 ≠ 0x5200) (h2 : o / 256 ≠ 0x5010)
    (hn : o ∉ [0x130207, 0x901004, 0x200108, 0x614004, 0x614203]) (hnum : x.num = o) (hb : x.ty.isBytes = false) (hw : x.access ≠ .wo)
    (hoff : a.offset = 0) (he : a.elem < elemsOf (o / 256)) (hl1 : role.below (readRole x) = false) (hl2 : d.answers o a.elem = true)
    (hl3 : d.homeDown o a.elem = false) :
    d.read p role a = ((0, leBytes x.ty.size (if a.shadow && x.access == .rws then d.getSh o a.elem else d.get o a.elem)), d) := by
  simp only [List.mem_cons, List.not_mem_nil, or_false, not_or] at hn
  have hlk := look_cat (r := role) hx hf h1 h2 he hl2
  have hs : ∀ v, slice (leBytes x.ty.size v) 0 p.segment = leBytes x.ty.size v := by
    intro v; have := size_le x.ty
    simp only [slice, List.drop_zero]; exact List.take_of_length_le (by rw [length_leBytes]; cases p <;> first | (show _ ≤ 3840; omega) | (show _ ≤ 1024; omega))
  have h7 : o ≠ 0x207005 := by
    rintro h; rw [h] at hx; revert hx; have : objOf 0x207005 = some (oct 0x207005 .ro .operator 256 0) := rfl
    rw [this]; rintro ⟨⟩; simp [oct, Ty.isBytes] at hb
  have h8 : o ≠ 0x405002 := by
    rintro h; rw [h] at hx; revert hx; have : objOf 0x405002 = some (oct 0x405002 .ro .operator 1024 0) := rfl
    rw [this]; rintro ⟨⟩; simp [oct, Ty.isBytes] at hb
  have hvs : (x.ty == Ty.vstring) = false := by cases h : x.ty <;> simp_all [Ty.isBytes]
  have hrf : d.refresh o a.elem = d := by
    simp only [Dev.refresh, if_neg hn.1, if_neg hn.2.1, if_neg hn.2.2.1, if_neg hn.2.2.2.1, if_neg hn.2.2.2.2]
  simp [Dev.read, ho, hlk, if_neg h7, if_neg h8, hrf, hl1, hl3, hw, hoff, hb, Dev.value, hnum, if_neg h0, leastCode, hs]

/-- A READ of OCTETS gives a segment and changes nothing. -/
theorem read_oct {d : Dev} {p : Path} {role : Role} {a : Req} {x : Obj} {o : Nat} (ho : a.idx * 256 + a.sub = o) (hx : objOf o = some x)
    (hf : o < 0xF00000) (h1 : o / 256 ≠ 0x5200) (h2 : o / 256 ≠ 0x5010)
    (h7 : o ≠ 0x207005) (h8 : o ≠ 0x405002) (hnum : x.num = o) (hb : x.ty = .octets) (hw : x.access = .ro ∨ x.access = .rw)
    (hoff : a.offset % 4 = 0) (hlen : a.offset ≤ (d.getB o a.elem).length)
    (he : a.elem < elemsOf (o / 256)) (hl1 : role.below (readRole x) = false) (hl2 : d.answers o a.elem = true)
    (hl3 : d.homeDown o a.elem = false) :
    d.read p role a = ((0, slice (d.getB o a.elem) a.offset p.segment), d) := by
  have hlk := look_cat (r := role) hx hf h1 h2 he hl2
  have hrf : d.refresh o a.elem = d := by
    have : ∀ n ∈ [0x130207, 0x901004, 0x200108, 0x614004, 0x614203], o ≠ n := by
      intro n hn h; subst h
      simp only [List.mem_cons, List.not_mem_nil, or_false] at hn
      rcases hn with rfl | rfl | rfl | rfl | rfl <;> (revert hx; rintro ⟨⟩; exact absurd hb (by decide))
    simp at this
    simp [Dev.refresh, this]
  have hw' : x.access ≠ .wo := by rcases hw with h | h <;> simp [h]
  have hw'' : (x.access == .rws) = false := by rcases hw with h | h <;> simp [h]
  have hbb : x.ty.isBytes = true := by rw [hb]; rfl
  simp [Dev.read, ho, hlk, if_neg h7, if_neg h8, hrf, hl1, hl3, hw', hoff, hb, hbb, Dev.value, hnum, leastCode, hw'', Nat.not_lt.2 hlen, Ty.isBytes]

/-- A READ of a queue of captured edges or of responses takes what it gives. -/
theorem read_take {d : Dev} {p : Path} {role : Role} {a : Req} {x : Obj} {o : Nat} {bs : List Byte} {e : Dev} (ho : a.idx * 256 + a.sub = o) (hx : objOf o = some x)
    (hf : o < 0xF00000) (h1 : o / 256 ≠ 0x5200) (h2 : o / 256 ≠ 0x5010) (hb : x.ty = .octets) (hw : x.access = .ro)
    (ht : (if o = 0x207005 then d.takeTrig a.elem else if o = 0x405002 then d.takeResponse a.elem else ((d.refresh o a.elem).value x a.elem a.shadow, d.refresh o a.elem)) = (bs, e))
    (hoff : a.offset = 0)
    (he : a.elem < elemsOf (o / 256)) (hl1 : role.below (readRole x) = false) (hl2 : d.answers o a.elem = true)
    (hl3 : d.homeDown o a.elem = false) :
    d.read p role a = ((0, slice bs 0 p.segment), e) := by
  have hlk := look_cat (r := role) hx hf h1 h2 he hl2
  have hbb : x.ty.isBytes = true := by rw [hb]; rfl
  simp [Dev.read, ho, hlk, hl1, hl3, hw, hoff, leastCode, ht, hb, Ty.isBytes]

/-- A DESCRIBE gives the description. -/
theorem describe_cat {d : Dev} {role : Role} {a : Req} {x : Obj} {o : Nat} (ho : a.idx * 256 + a.sub = o) (hx : objOf o = some x)
    (hf : o < 0xF00000) (h1 : o / 256 ≠ 0x5200) (h2 : o / 256 ≠ 0x5010)
    (he : a.elem < elemsOf (o / 256)) (hl2 : d.answers o a.elem = true) : d.describe role a = (0, d.describe_ x a.elem) := by
  simp [Dev.describe, ho, look_cat (r := role) hx hf h1 h2 he hl2, leastCode]

/-- A command of a row that its path takes, by how the arbiter handles it. -/
theorem answers_run {s : State} {c : Instr} {cmd : Nat} {p : Path} {q : Req} {r : Resp} {f : Dev → Dev} (hc : exec c s = run s (fun d => d.submit p q))
    (hT : Taken s p q) (h : (s.dev.arrive p q).perform p (s.dev.asked p q) = (.answer r, f (s.dev.arrive p q))) : Answers c s p q r f := by
  unfold Answers Gives
  rw [hc, run_on hT.1]
  exact congrArg _ (congrArg _ (perform_answer hT.2 rfl h))

/-- READ at the arbiter. -/
theorem perform_read {d : Dev} {p : Path} {a : Req} {c : Nat} {bs : List Byte} {e : Dev} (ha : a.cmd = 1)
    (h : d.read p (d.pathRole p) a = ((c, bs), e)) : d.perform p a = (.answer ⟨c, bs, 0⟩, e) := by
  simp [Dev.perform, ha, h]

/-- DESCRIBE at the arbiter. -/
theorem perform_describe {d : Dev} {p : Path} {a : Req} {c : Nat} {bs : List Byte} (ha : a.cmd = 3)
    (h : d.describe (d.pathRole p) a = (c, bs)) : d.perform p a = (.answer ⟨c, bs, 0⟩, d) := by
  simp [Dev.perform, ha, h]

/-- The request of a row that reads, as the arbiter gets it. -/
theorem asked_row {d : Dev} {p : Path} {cmd o e txid : Nat} (hc : cmd < 16) (ho : o < 16777216) (he : e < 4294967296) (hx : txid < 4294967296) :
    (d.asked p (reqFor cmd o e txid [])).idx * 256 + (d.asked p (reqFor cmd o e txid [])).sub = o ∧ (d.asked p (reqFor cmd o e txid [])).elem = e
    ∧ (d.asked p (reqFor cmd o e txid [])).offset = 0 ∧ (d.asked p (reqFor cmd o e txid [])).cmd = cmd := by
  by_cases hp : p = .hot
  · subst hp; exact ⟨reqFor_o cmd e txid [], rfl, rfl, rfl⟩
  · have hq : (reqFor cmd o e txid []).fits := reqFor_fits (off := 0) (data := []) ho he hx hc (by norm_num) (by norm_num)
    rw [asked_fits hq rfl hp]
    exact ⟨reqFor_o cmd e txid [], rfl, rfl, rfl⟩


/-! ### Writes of other objects -/

/-- A write of one object leaves another as it was. -/
theorem put_get_obj (d : Dev) {o e o' e' : Nat} (v : Nat) (he : e < 4294967296) (he' : e' < 4294967296) (h : o' ≠ o) :
    (d.put o e v).get o' e' = d.get o' e' := put_get_ne d v (okey_ne he' he (.inl h))

/-- A write of one element leaves another as it was. -/
theorem put_get_elem (d : Dev) {o e e' : Nat} (v : Nat) (he : e < 4294967296) (he' : e' < 4294967296) (h : e' ≠ e) :
    (d.put o e v).get o e' = d.get o e' := put_get_ne d v (okey_ne he' he (.inr h))

/-- A path's reach rests on the power state, on KMP's enables and on its keys. -/
theorem reach_congr {d e : Dev} (h1 : e.get 0x900001 0 = d.get 0x900001 0) (h2 : e.get 0x110002 0 = d.get 0x110002 0)
    (h3 : e.get 0x110003 0 = d.get 0x110003 0) (h4 : ∀ o i, e.getB o i = d.getB o i) (p : Path) : e.reach p = d.reach p := by
  have hk : ∀ r, e.kmpKey r = d.kmpKey r := fun r => by simp [Dev.kmpKey, h4]
  have ho : ∀ v, e.kmpOn v = d.kmpOn v := fun v => by simp [Dev.kmpOn, Dev.on, h2, h3]
  cases p <;> simp [Dev.reach, Dev.power, h1, Dev.kmpRoleOn, hk, ho]

/-- A request's arrival leaves the dictionary and the time alone. -/
theorem arrive_dict (d : Dev) (p : Path) (q : Req) : (d.arrive p q).obj.dict = d.obj.dict := by
  cases p <;> (simp only [Dev.arrive]; split_ifs <;> rfl)
@[simp] theorem arrive_get (d : Dev) (p : Path) (q : Req) : (d.arrive p q).get = d.get := by
  funext o e; simp [Dev.get, arrive_dict]
@[simp] theorem arrive_getB (d : Dev) (p : Path) (q : Req) : (d.arrive p q).getB = d.getB := by
  funext o e; simp [Dev.getB, arrive_dict]
theorem arrive_reach (d : Dev) (p : Path) (q : Req) : (d.arrive p q).reach = d.reach := by
  funext r; exact reach_congr (by simp) (by simp) (by simp) (by simp) r
theorem arrive_now (d : Dev) (p : Path) (q : Req) : (d.arrive p q).now = d.now := by
  cases p <;> (simp only [Dev.arrive]; split_ifs <;> rfl)

end Sys2Proof.Machine
end

