-- ==== Sys2Proof/Tests/Base.lean ====
section
/-! SUPPORT. States that the tests start from. -/
namespace Sys2Proof.Machine
open Sys2Proof

/-- The device in state RUN, its start confirmed. -/
def runDev : Dev := ({ dev0 with pow := { dev0.pow with mainPor := false, phase := 5 } } : Dev).put 0x900001 0 2

/-- The machine in state RUN. -/
def runSt : State := { State.reset with por := false, dev := runDev }

/-- The machine in state RUN with a device of its own. -/
def runWith (f : Dev → Dev) : State := { runSt with dev := f runDev }

/-- An image header: 4 bytes of code, a work area of 4,096 bytes from 64 on, one shared block, WCET 100, one update. -/
def testImage : List Byte :=
  zeros 28 ++ leBytes 4 4 ++ zeros 32 ++ leBytes 4 4096 ++ leBytes 4 1 ++ leBytes 4 100 ++ leBytes 4 1 ++ zeros 48

/-- The image loaded with one code word. -/
def testLoaded (w : Nat) : Loaded := ⟨testImage, [(0, w)], [], [], 0, 0, 0, 0⟩

/-- An activation of slot 0. -/
def testAct : Act := ⟨0, 0, 4, 0, 0, 0, 0, 0, 0, 0⟩

/-- Engine 0 in a state, slot 0 loaded with one code word. -/
def engSt (w : Nat) (x : Engine) : State :=
  runWith fun d => (d.setKslot 0 { kslot0 with cur := some (testLoaded w) }).setEngine 0 x

/-- Engine 0 at the first word of its activation. -/
def eng : Engine := { engine0 with act := some testAct }

/-- What it works on. -/
def engRun (w : Nat) (x : Engine) : Run := ⟨0, x, testLoaded w, 0, false, insOf w⟩

/-- The machine in state RUN, the sideband SPI a maintainer. -/
def spiWith (f : Dev → Dev) : State := runWith fun d => f (d.put 0x110004 0 3)

/-- The device as a write reaches the arbiter from the sideband SPI. -/
def atSpi (s : State) (q : Req) : Dev := s.dev.arrive .spi q

/-- Does the sideband SPI take a write as a new one, its role, the power state and the regions letting it? -/
def letsSpi (s : State) (q : Req) (role : Role) : Bool :=
  !s.por && s.dev.reach .spi && !s.dev.spi.busy && q.txid != 0 && decide (s.dev.replayed .spi q = .apply)
    && !((s.dev.arrive .spi q).pathRole .spi).below role && (s.dev.arrive .spi q).answers (q.idx * 256 + q.sub) q.elem
    && !(s.dev.arrive .spi q).homeDown (q.idx * 256 + q.sub) q.elem

theorem lets_of_spi {s : State} {q : Req} {role : Role} (h : letsSpi s q role = true) : Lets s .spi q role := by
  simp only [letsSpi, Bool.and_eq_true, Bool.not_eq_true', bne_iff_ne, decide_eq_true_eq] at h
  obtain ⟨⟨⟨⟨⟨⟨⟨h1, h2⟩, h3⟩, h4⟩, h5⟩, h6⟩, h7⟩, h8⟩ := h
  exact ⟨h1, ⟨h2, h3, h4, h5⟩, h6, h7, h8⟩

end Sys2Proof.Machine
end

