-- ==== Sys2Proof/WellFormed.lean ====
section
/-! DEFINITION. Which commands are well formed: operands within the widths and ranges the rules give them. The meanings do not need
it: an ill-formed command runs too. -/
namespace Sys2Proof
open Sys2Proof.Machine

/-- A path's client: an IPv4 address, a UDP port, a ring node of 1 to 254 (R42, R200). -/
def Machine.Path.wellFormed : Path → Bool
  | .mailbox _ => true
  | .hot => true
  | .kmp ip port _ _ => decide (ip < 4294967296) && decide (port < 65536)
  | .ring _ node => decide (1 ≤ node) && decide (node ≤ 254)
  | .spi => true

/-- A request for a command code: every field within its register, and as many bytes as its length says (R53, R54, R56). -/
def Machine.Req.wellFormed (q : Req) (code : Nat) : Bool :=
  decide (q.cmd = code) && decide (q.idx < 65536) && decide (q.sub < 256) && decide (q.elem < 4294967296) && decide (q.len < 65536)
  && decide (q.offset < 4294967296) && decide (q.txn < 4294967296) && decide (q.txid < 4294967296) && decide (q.boundary < 8)
  && decide (q.typ < 16) && (decide (code ≠ 2) || decide (q.data.length = q.len))

/-- A decoded IRIG-B frame names a code of B000 to B007 and an IEEE 1344 quality of 4 bits (R102). -/
def Machine.IrigFrame.wellFormed (f : IrigFrame) : Bool :=
  decide (f.code < 8) && (match f.ctrl with
    | none => true
    | some c => decide (c.quality < 16))

/-- A source ID of 9 bits and an instance of 32 (R452, R453). -/
def Machine.SourceUnit.wellFormed (x : SourceUnit) : Bool := decide (x.src < 512) && decide (x.unit < 4294967296)

/-- A detection's fields within the event record's widths (R456). -/
def Machine.Detection.wellFormed (x : Detection) : Bool :=
  decide (x.src < 512) && decide (x.unit < 4294967296) && decide (x.code < 65536) && decide (x.detail < 18446744073709551616)

/-- A word of a window names one of the 1,024 channels (R470). -/
def Machine.HbmWord.wellFormed : HbmWord → Bool
  | .window c _ => decide (c < 1024)
  | _ => true

/-- A completion brings at most 4,096 bytes (R407). -/
def Machine.CplStatus.wellFormed : CplStatus → Bool
  | .success bs => decide (bs.length ≤ 4096)
  | _ => true

/-- Is the command well formed? -/
def Instr.wellFormed : Instr → Bool
  | .alignmentPulse => true
  | .pulseArrival _ _ _ _ => true
  | .replicaPulseMissed _ => true
  | .flitCrcError _ _ => true
  | .laneFailure _ _ => true
  | .dieReset p _ _ => p.wellFormed
  | .read p q => p.wellFormed && q.wellFormed 1
  | .write p q => p.wellFormed && q.wellFormed 2
  | .describe p q => p.wellFormed && q.wellFormed 3
  | .open_ p q => p.wellFormed && q.wellFormed 4
  | .commit p q => p.wellFormed && q.wellFormed 5
  | .abort_ p q => p.wellFormed && q.wellFormed 6
  | .status p q => p.wellFormed && q.wellFormed 7
  | .commandComplete p => p.wellFormed
  | .kmpRequest _ _ _ bytes => decide (bytes.length ≤ 65507)
  | .replayCacheExpiry p _ => p.wellFormed
  | .participantReport _ _ => true
  | .allReadySample _ => true
  | .transactionApply _ => true
  | .transactionTimeout _ => true
  | .transactionSlotRelease _ => true
  | .hotRegisterWrite _ _ _ => true
  | .registerWrite _ _ _ _ => true
  | .registerLowHalfRead _ _ _ => true
  | .oscillatorCheck _ _ => true
  | .oscillatorLost _ => true
  | .oscillatorNotFitted => true
  | .referenceTimeout _ => true
  | .leaseRenewal => true
  | .leaseRenewalMissed => true
  | .leaseExpiry => true
  | .holderPulseMissing => true
  | .arbitrationDecision _ => true
  | .revertCheck => true
  | .revert => true
  | .holdoverLimitPassed => true
  | .leapSecond => true
  | .tkTimeRead _ _ => true
  | .ppsEdge _ _ _ _ => true
  | .todMessage _ _ => true
  | .irigFrame f => f.wellFormed
  | .trigEdge _ _ _ _ => true
  | .trigQueueRead p _ _ => p.wellFormed
  | .ppsOutPulse _ => true
  | .irigOutFrame => true
  | .arm p _ _ => p.wellFormed
  | .disarm p _ _ => p.wellFormed
  | .trigOutPulse _ => true
  | .setCounters p _ _ => p.wellFormed
  | .frameReceive _ _ _ => true
  | .cutThroughHeader _ _ _ => true
  | .ptpMessageReceive _ _ _ => true
  | .ptpMessageSend _ _ _ _ => true
  | .announceReceiptTimeout _ _ => true
  | .syncIntervalsMissed _ _ => true
  | .tcMatchExpiry _ => true
  | .tsqEntryRead _ _ => true
  | .linkUp _ _ _ => true
  | .linkDown _ => true
  | .gateEntryStart _ => true
  | .transmissionSelection _ _ => true
  | .transmitComplete _ => true
  | .holdRequest _ => true
  | .releaseRequest _ => true
  | .bankSwitch _ => true
  | .orrerySramError _ => true
  | .preemptionVerifyTimer _ => true
  | .orreryPoll _ => true
  | .syzygyStart p _ _ => p.wellFormed
  | .syzygyStop p _ _ => p.wellFormed
  | .syzygyPrepareLead _ => true
  | .prepare _ _ _ _ _ _ => true
  | .confirm _ _ _ _ _ _ => true
  | .refuse _ _ _ _ _ _ => true
  | .syzygyAbort _ _ _ _ _ _ => true
  | .abortAck _ _ _ _ _ _ => true
  | .syzygyRetry _ => true
  | .confirmDeadline _ => true
  | .guardDeadline _ => true
  | .recoveryResetTimeout _ => true
  | .recoveryReset p _ _ => p.wellFormed
  | .latentTestPeriod _ => true
  | .latentResetPeriod _ => true
  | .nodeForget _ => true
  | .supervisionFrameSend _ => true
  | .lifeCheck _ _ => true
  | .generationReset p _ _ => p.wellFormed
  | .restartSilenceEnd _ => true
  | .singlePathEnd _ => true
  | .ringCycleOriginate _ _ => true
  | .ringCopyReceive _ _ _ _ _ _ => true
  | .ringSlotPoll _ => true
  | .ringSilenceTimeout _ => true
  | .coldStartWait _ => true
  | .ringModeSwitch _ => true
  | .ringMailboxMessage _ _ _ => true
  | .ringMessageSend p _ _ _ => p.wellFormed
  | .ringResponseRead p _ _ => p.wellFormed
  | .ringInsert _ => true
  | .ringRemove _ => true
  | .relaySettle _ => true
  | .windowEntryCommit => true
  | .ingestCutoff => true
  | .streamSilent _ _ => true
  | .timerTrigger _ => true
  | .activationDispatch _ => true
  | .nop _ => true
  | .add _ => true
  | .sub _ => true
  | .mul _ => true
  | .and_ _ => true
  | .or_ _ => true
  | .xor_ _ => true
  | .shl _ => true
  | .shr _ => true
  | .sra _ => true
  | .addi _ => true
  | .ori _ => true
  | .lui _ => true
  | .fadd _ => true
  | .fsub _ => true
  | .fmul _ => true
  | .fma _ => true
  | .fdiv _ => true
  | .fsqrt _ => true
  | .fmax _ => true
  | .fmin _ => true
  | .fabs _ => true
  | .fcmp _ => true
  | .fcvt _ => true
  | .vsel _ => true
  | .vbcast _ => true
  | .vext _ => true
  | .vsum _ => true
  | .ld _ => true
  | .st _ => true
  | .vld _ => true
  | .vst _ => true
  | .xfer _ => true
  | .xferComplete _ _ => true
  | .xwait _ => true
  | .sget _ => true
  | .sgetComplete _ _ => true
  | .beq _ => true
  | .bne _ => true
  | .blt _ => true
  | .bge _ => true
  | .time _ => true
  | .sput _ => true
  | .kevt _ => true
  | .end_ _ => true
  | .updateAccept _ => true
  | .watchdog _ => true
  | .engineHardwareFault _ _ => true
  | .rehomeComplete _ => true
  | .selfTestComplete _ _ => true
  | .slotRestart p _ _ => p.wellFormed
  | .forceRehome p _ _ => p.wellFormed
  | .engineUnitReset p _ _ => p.wellFormed
  | .imageVerify p _ _ => p.wellFormed
  | .imageVerifyComplete _ => true
  | .imageErase p _ _ => p.wellFormed
  | .pmuFrameBuild _ => true
  | .epochStart => true
  | .epochClose => true
  | .regionCloseReport _ => true
  | .epochPublish => true
  | .bar2Read _ len => decide (1 ≤ len.toNat) && decide (len.toNat ≤ 4096)
  | .bar2Write => true
  | .pinP => true
  | .pinPMinus1 => true
  | .pinRelease => true
  | .pinLapse => true
  | .scrubRead _ _ _ w => w.wellFormed
  | .hbmUncorrectable _ _ w => w.wellFormed
  | .frontRearm _ => true
  | .captureComplete _ => true
  | .captureRelease p _ _ => p.wellFormed
  | .captureExport p _ _ _ => p.wellFormed
  | .snippetComplete _ => true
  | .arrivalHandoff _ => true
  | .arrivalsSend _ => true
  | .arrivalsRepeat _ => true
  | .arrivals _ _ _ _ _ _ => true
  | .arrivalsAck _ _ _ _ _ => true
  | .query _ _ _ _ _ _ => true
  | .queryReply _ _ _ _ _ => true
  | .remoteWaitTimeout _ => true
  | .singleEndedLocation _ => true
  | .linkTrained speed width => decide (speed.val ≠ 0) && [1, 2, 4, 8, 16].contains width.val
  | .l0sEntry => true
  | .l1Entry => true
  | .configRequest _ _ _ _ => true
  | .unsupportedRequest _ => true
  | .readCompletion _ c => c.wellFormed
  | .completionTimeout _ => true
  | .moderationIntervalEnd _ => true
  | .intxPendClear _ _ => true
  | .vectorUnmask _ => true
  | .perstNAssert => true
  | .perstNRelease => true
  | .endpointReady => true
  | .dlDown => true
  | .hotReset => true
  | .endpointInternalError _ => true
  | .testFreeze => true
  | .contRelease => true
  | .tagQuarantineEnd => true
  | .queueAttach _ => true
  | .queueDetach _ => true
  | .queueReset _ => true
  | .queueDetachComplete _ => true
  | .pollDue _ => true
  | .pollServe => true
  | .coalescingTimeout _ => true
  | .receiveHoldTimeout _ => true
  | .faultDetection ds began ended => ds.all Detection.wellFormed && began.all SourceUnit.wellFormed && ended.all SourceUnit.wellFormed
  | .safeStateRelease p _ _ => p.wellFormed
  | .firstErrorClear p _ => p.wellFormed
  | .stickyClear _ _ => true
  | .escalationAcknowledge p _ _ _ => p.wellFormed
  | .softwareWindowEnd _ _ => true
  | .resetComplete _ _ => true
  | .watchWindowEnd _ _ => true
  | .injectionArm p _ _ => p.wellFormed
  | .injectionDisarm p _ _ => p.wellFormed
  | .railOutOfRange _ _ => true
  | .railUndervoltage _ _ => true
  | .mainPorRelease mv => mv.length == 9
  | .sysclkLoss => true
  | .vbalALoss _ => true
  | .vbalSwitchBack _ => true
  | .vbalBLoss _ => true
  | .ballastPorAssert => true
  | .ballastPorRelease _ _ _ => true
  | .railsAbsentTimeout => true
  | .enterDoze p _ => p.wellFormed
  | .dozeEntryStage => true
  | .wake p _ => p.wellFormed
  | .enterLantern p _ => p.wellFormed
  | .restart p _ => p.wellFormed
  | .wakeN _ => true
  | .wakeTimeout => true
  | .junctionSensorRead _ _ => true
  | .thermalShutdown => true
  | .rstNRecognised => true
  | .rstNPulseIgnored => true
  | .rstNRelease => true
  | .resetHeld => true
  | .startAttempt _ => true
  | .firmwareVerifyComplete _ => true
  | .bootGo => true
  | .hostImageTimeout => true
  | .startSelfTestComplete _ failed => failed.all SourceUnit.wellFormed
  | .startConfirmation p _ _ => p.wellFormed
  | .confirmationDeadline => true
  | .mirrorProgramComplete => true
  | .slotBlockWrite p _ _ off bytes => p.wellFormed && decide (off.toNat + bytes.length ≤ 32768)
  | .slotVerify p _ _ => p.wellFormed
  | .slotErase p _ _ => p.wellFormed
  | .slotVerifyComplete _ _ => true
  | .spiRequest _ _ => true
  | .spiFetch _ _ => true
  | .spiClear _ _ => true
  | .todRxNotCurrent => true
  | .ringReceiveSideDown _ _ => true
  | .ringReceiveSideUp _ _ => true
  | .testEnChange _ => true
  | .dieResetComplete _ => true
  | .entryForgetTimeExpiry _ _ => true

end Sys2Proof
end

