-- ==== Sys2Proof/Tests/Slice0.lean ====
section
/-! SUPPORT. For each statement with hypotheses a state that meets them (wit_ theorems), the commands of the spec's worked examples
(test_ theorems), and ill-formed terms that WellFormed refuses. -/
namespace Sys2Proof.Machine
open Sys2Proof

/-- ReplicaPulses: a loaded replica takes a pulse, misses its first, and misses its third. -/
theorem wit_ReplicaPulses :
    (∃ (s : State) (r : Fin 25) (roundTrip : Nat) (diff : Int), s.por = false ∧ (s.dev.rep r).loaded = true ∧ (s.dev.rep r).remeasure ≤ 1 ∧
      (s.dev.rep r).stepNext = false ∧
      absInt (diff - crossing ((roundTrip / 2 :: (s.dev.rep r).lats).take 64) (Config.replicaCalibration r)) ≤ 32768) ∧
    (∃ (s : State) (r : Fin 25), s.por = false ∧ (s.dev.rep r).loaded = true ∧ (s.dev.rep r).missed < 2) ∧
    (∃ (s : State) (r : Fin 25), s.por = false ∧ (s.dev.rep r).loaded = true ∧ (s.dev.rep r).missed = 2 ∧ (s.dev.rep r).sync = true) := by
  refine ⟨⟨runWith fun d => d.setRep 0 { replica0 with loaded := true, remeasure := 0, stepNext := false }, 0, 0,
    crossing ((0 / 2 :: []).take 64) (Config.replicaCalibration 0), rfl, rfl, by decide, rfl, ?_⟩,
    ⟨runWith fun d => d.setRep 24 { replica0 with loaded := true, missed := 1 }, 24, rfl, rfl, by decide⟩,
    ⟨runWith fun d => d.setRep 24 { replica0 with loaded := true, missed := 2, sync := true }, 24, rfl, rfl, rfl, rfl⟩⟩
  have h : ∀ x y : Int, x = y → absInt (x - y) ≤ 32768 := by intro x y h; subst h; simp [absInt]
  exact h _ _ rfl

/-- LinkErrors and AlignmentPulse. -/
theorem wit_LinkErrors : runSt.por = false ∧ (∀ l < 3, ∀ k < 2, runSt.dev.armedSlot 9 (2 * l + k) 0 = none) ∧
    (∀ l < 3, (runSt.dev.link l).up = true ∧ 0 < (runSt.dev.link l).spares) ∧
    (let s := runWith fun d => d.setLink 2 { d.link 2 with spares := 0 }
     (s.dev.link 2).up = true ∧ (s.dev.link 2).spares = 0) ∧
    (let s := runWith fun d => d.setFlt { d.flt with resets := [⟨.die 1, 0, none⟩] }
     (s.dev.flt.resets.find? (fun r => r.ended.isNone && r.scope == .die 1)).isSome = true) := by decide
theorem wit_AlignmentPulse : (runWith fun d => d.setTim { d.tim with holder := some .a }).dev.tim.holder = some .a := by decide

/-- The frames: a command of each group that has a list of parts and a next state. -/
theorem wit_Frames : (touchesTime .alignmentPulse).isSome = true ∧ (touchesSignal (.nop 0)).isSome = true ∧
    (touchesHost .dlDown).isSome = true ∧ (∃ t, exec .alignmentPulse runSt = .next t) ∧ (∃ t, exec (.nop 0) runSt = .next t) ∧
    (∃ t, exec .dlDown runSt = .next t) := ⟨rfl, rfl, rfl, ⟨_, rfl⟩, ⟨_, rfl⟩, ⟨_, rfl⟩⟩

/-- EveryStepKeepsTheInvariant and ResetState: the state after reset meets the invariant, and so does a running one. -/
theorem wit_EveryStepKeepsTheInvariant : State.reset.Inv ∧ runSt.Inv := ⟨fun _ => rfl, fun h => by cases h⟩

/-- EpochMembership: the anchor's own epoch, one before it and one after it, at their first instants. -/
theorem wit_EpochMembership : ∀ p ∈ [(50, 65536000000000), (51, 66846720000000), (49, 64225280000000)],
    let x : Seg := ⟨50, 65536000000000, 50, 1, 2000⟩
    ((x.start * x.perSec : Nat) : Int) + ((p.1 : Int) - x.n) * (x.secs * 65536000000000 : Nat) ≤ ((p.2 * x.perSec : Nat) : Int) ∧
    ((p.2 * x.perSec : Nat) : Int) < ((x.start * x.perSec : Nat) : Int) + ((p.1 : Int) + 1 - x.n) * (x.secs * 65536000000000 : Nat) ∧
    x.epochOf p.2 = p.1 := by decide
theorem wit_BankCycles : (⟨10, 4, 0⟩ : Cycle).anchor = 0 ∧ (⟨10, 4, 0⟩ : Cycle).start (-1) = 6 := by decide
theorem wit_TimeFormats : 5 / 65536000000000 < 2 ^ 48 ∧ 65536 % 65536 = 0 ∧ 0 ≤ 65536 + sec (2 ^ 31) ∧ 65536 < 0 + sec (2 ^ 31) := by decide

theorem ready_zero (x : Engine) (h : x.sAt = []) (h' : x.vAt = []) (hc : x.cyc = 0) (rs : List (Bool × Nat)) : x.ready rs = 0 := by
  unfold Engine.ready
  rw [hc]
  induction rs with
  | nil => rfl
  | cons a l ih =>
    rw [List.foldl_cons]
    have : ∀ (b : Bool) (n : Nat), (if b = true then tget 0 x.vAt n else if n = 0 then 0 else tget 0 x.sAt n) = 0 := by
      intro b n; rw [h, h']; cases b <;> simp [tget]
    simp only [this] at ih ⊢
    simpa using ih

/-- An engine of the tests issues its word. -/
theorem engSt_issues (w op : Nat) (x : Engine) (src : Ins → List (Bool × Nat)) (hl : legal w = true) (ho : (insOf w).op = op)
    (h1 : x.state = 0) (h2 : x.act = some testAct) (h3 : x.useOld = false) (h4 : x.pc = 0) (h5 : x.sAt = []) (h6 : x.vAt = [])
    (h7 : x.cyc = 0) : (engSt w x).dev.issues 0 op src (engRun w x) 0 := by
  have he : (engSt w x).dev.engine 0 = x := by simp [engSt, runWith, Dev.engine, Dev.setEngine, Dev.setEng, tget_tput]
  refine ⟨by rw [he, h1], ?_, by rw [show (engRun w x).x.pc = 0 from h4]; exact (by decide : 0 < ikCodeLen testImage / 4), ?_, ho, (ready_zero x h5 h6 h7 _).symm, Nat.zero_le _⟩
  · unfold Dev.fetch
    simp only [he, h2, h3]
    simp [engSt, runWith, Dev.kslot, Dev.setEngine, Dev.setEng, Dev.setKslot, tget_tput, engRun, testLoaded, testAct, tget, h4]
  · change legal (tget 0 [(0, w)] x.pc) = true
    rw [h4]; simpa [tget] using hl

/-- A legal word of each register, immediate and vector instruction, with its code. -/
def regWords : List (Nat × Nat) :=
  [(0x00, 0), (0x01, 0x04430800), (0x02, 0x08430800), (0x03, 0x0C430800), (0x04, 0x10430800), (0x05, 0x14430800), (0x06, 0x18430800),
   (0x07, 0x1C430800), (0x08, 0x20430800), (0x09, 0x24430E00), (0x0A, 0x28438000), (0x0B, 0x2C43FFFF), (0x0C, 0x3040FFFF),
   (0x10, 0x40430800), (0x11, 0x44430C00), (0x12, 0x48430800), (0x13, 0x4C430802), (0x14, 0x50430800), (0x15, 0x54430000),
   (0x16, 0x58430800), (0x17, 0x5C430800), (0x18, 0x60430000), (0x19, 0x644308C0), (0x1A, 0x68430D40), (0x20, 0x80430C02),
   (0x21, 0x84430000), (0x22, 0x884301C0), (0x23, 0x8C430000)]

/-- EngineRegisterInstructions: an engine issues a word of each of these instructions, scalar, per lane and packed. -/
theorem wit_EngineRegisterInstructions : ∀ p ∈ regWords, ∀ src : Ins → List (Bool × Nat),
    (engSt p.2 eng).por = false ∧ (engSt p.2 eng).dev.issues 0 p.1 src (engRun p.2 eng) 0 := by
  have h : ∀ p ∈ regWords, legal p.2 = true ∧ (insOf p.2).op = p.1 := by decide
  exact fun p hp src => ⟨rfl, engSt_issues _ _ _ _ (h p hp).1 (h p hp).2 rfl rfl rfl rfl rfl rfl rfl⟩

/-- EngineMemoryAndControl: an engine issues a word of each, on operands that keep and that break its rules. -/
theorem wit_EngineMemoryAndControl :
    (∀ p ∈ [(0x28, 0xA0400040), (0x28, 0xA0400042), (0x29, 0xA4400040), (0x29, 0xA4400000), (0x2A, 0xA8400040), (0x2A, 0xA8400044),
        (0x2B, 0xAC400040), (0x2B, 0xAC400020), (0x30, 0xC0400001), (0x31, 0xC4400001), (0x32, 0xC8400001), (0x33, 0xCC400001),
        (0x38, 0xE0400000), (0x38, 0xE0400040), (0x38, 0xE0400080), (0x39, 0xE4010000), (0x3A, 0xE8010005), (0x3B, 0xEC000000),
        (0x2C, 0xB0011040), (0x2C, 0xB0011006), (0x2E, 0xB8011000), (0x2D, 0xB4000000)],
      ∀ x ∈ [eng, { eng with s := [(1, 64), (2, 64), (3, 32)] }, { eng with kevts := 4, upd := [zeros 32] },
          { eng with moves := [.sget 0 64 0 0, .sget 0 64 0 0, .sget 0 64 0 0, .sget 0 64 0 0] }],
      ∀ src : Ins → List (Bool × Nat),
      (engSt p.2 x).por = false ∧ (engSt p.2 x).dev.issues 0 p.1 src (engRun p.2 x) 0 ∧ (engRun p.2 x).x.act = some testAct) ∧
    ikRegion testImage = 4160 ∧ ikWork testImage = 64 ∧ ikShared testImage = 1 ∧ ikMaxUpd testImage = 1 := by
  refine ⟨fun p hp x hx src => ?_, by decide, by decide, by decide, by decide⟩
  have h : ∀ p ∈ [(0x28, 0xA0400040), (0x28, 0xA0400042), (0x29, 0xA4400040), (0x29, 0xA4400000), (0x2A, 0xA8400040), (0x2A, 0xA8400044),
        (0x2B, 0xAC400040), (0x2B, 0xAC400020), (0x30, 0xC0400001), (0x31, 0xC4400001), (0x32, 0xC8400001), (0x33, 0xCC400001),
        (0x38, 0xE0400000), (0x38, 0xE0400040), (0x38, 0xE0400080), (0x39, 0xE4010000), (0x3A, 0xE8010005), (0x3B, 0xEC000000),
        (0x2C, 0xB0011040), (0x2C, 0xB0011006), (0x2E, 0xB8011000), (0x2D, 0xB4000000)], legal p.2 = true ∧ (insOf p.2).op = p.1 := by decide
  simp only [List.mem_cons, List.not_mem_nil, or_false] at hx
  refine ⟨rfl, engSt_issues _ _ _ _ (h p hp).1 (h p hp).2 ?_ ?_ ?_ ?_ ?_ ?_ ?_, ?_⟩ <;>
    (rcases hx with rfl | rfl | rfl | rfl <;> rfl)

/-- EngineEvents: a timer binding; an idle engine with a pending activation, its slot empty and loaded; moves under way; an activation
past its WCET; engines of every kind under a hardware fault; a self-test; a re-homing; an image under verification. -/
theorem wit_EngineEvents :
    (let s := runWith fun d => (d.put 0x530002 0 4).put 0x530001 0 5
     s.por = false ∧ s.dev.get 0x530002 0 = 4 ∧ s.dev.get 0x530001 0 ≠ 0xFFFF) ∧
    selectAct [testAct] = some testAct ∧
    (∀ l ∈ [none, some (testLoaded 0)],
      let s := runWith fun d => (d.setKslot 0 { kslot0 with cur := l }).setEngine 0 { engine0 with pending := [testAct] }
      (s.dev.engine 0).act = none ∧ (s.dev.engine 0).state = 0 ∧ s.dev.regionRuns 0 = true ∧ s.dev.clusterStopped 0 = false ∧
      selectAct (s.dev.engine 0).pending = some testAct ∧ (s.dev.kslot testAct.slot).at_ testAct.time = l) ∧
    (let s := engSt 0 { eng with moves := [.xfer 9 64 0 32 true, .sget 9 64 0 0] }
     (s.dev.fetch 0).isSome = true ∧ (s.dev.engine 0).moves.find? (fun m => m.isXfer == true) = some (.xfer 9 64 0 32 true) ∧
      (s.dev.engine 0).moves.find? (fun m => m.isXfer == false) = some (.sget 9 64 0 0)) ∧
    (let s := engSt 0 { eng with cyc := 101 }
     (s.dev.engine 0).act = some testAct ∧ s.dev.wcetOf testAct + 1 ≤ (s.dev.engine 0).cyc ∧ s.dev.hostOf (testAct.slot / 16) = 0) ∧
    (let s := runWith fun d => (d.put 0x500102 0 31).put 0x500104 0 0
     (∀ c ∈ [2, 3, 4], s.dev.armedSlot c 0 0 = none ∧ s.dev.armedSlot c 31 0 = none) ∧ (s.dev.engine 0).state < 3 ∧
      (s.dev.engine 31).state < 3 ∧ s.dev.get 0x500102 0 = 31 ∧ s.dev.get 0x500104 0 = 0 ∧ s.dev.logicalOf 31 ≠ s.dev.logicalOf 0) ∧
    (runSt.dev.get 0x500104 0 ≠ 0 ∨ runSt.dev.get 0x500102 0 = 0xFF) ∧
    (((runWith fun d => d.setEngine 127 { engine0 with state := 4 }).dev.engine 127).state = 4) ∧
    (let s := runWith fun d => d.setEng { d.eng with rehomes := tput ⟨0, 0, 0, 0, []⟩ d.eng.rehomes 3 ⟨96, 96, 127, 5, [{ testAct with epoch := 1 }]⟩ }
     (tget (⟨0, 0, 0, 0, []⟩ : Rehome) s.dev.eng.rehomes 3).done ≠ 0 ∧ (s.dev.engine 127).pending.length + 1 ≤ 64 ∧ s.dev.tab.closed < 1) ∧
    (let s := runWith fun d => d.put 0x502003 63 2
     s.dev.get 0x502003 63 = 2 ∧ s.dev.imageReason (s.dev.getB 0x502001 63) ≠ 0) := by decide

/-- VectorLanes and DeadlineMisses: a vector load at offset 0, and an END before and after its deadline. -/
theorem wit_VectorLanes : (engSt 0xA8400000 eng).por = false ∧
    (engSt 0xA8400000 eng).dev.issues 0 0x2A (fun i => [(false, i.a)]) (engRun 0xA8400000 eng) 0 ∧
    ((((engRun 0xA8400000 eng).x.getS (engRun 0xA8400000 eng).i.a : Int) + (engRun 0xA8400000 eng).i.simm) % 4294967296).toNat = 0 :=
  ⟨rfl, engSt_issues _ _ _ _ (by decide) (by decide) rfl rfl rfl rfl rfl rfl rfl, by decide⟩
theorem wit_DeadlineMisses : ∀ start ∈ [0, 65536],
    (engSt 0xEC000000 { eng with start := start }).dev.issues 0 0x3B (fun _ => []) (engRun 0xEC000000 { eng with start := start }) 0 ∧
    (engRun 0xEC000000 { eng with start := start }).x.act = some testAct ∧ testAct.slot < 2048 ∧ testAct.binding < 65536 ∧
    (((engSt 0xEC000000 { eng with start := start }).dev.at_ (start + ns 0)).now ≤ testAct.deadline ↔ start = 0) := by
  intro start _
  refine ⟨engSt_issues _ _ _ _ (by decide) (by decide) rfl rfl rfl rfl rfl rfl rfl, rfl, by decide, by decide, ?_⟩
  rename_i h
  simp only [List.mem_cons, List.not_mem_nil, or_false] at h
  rcases h with rfl | rfl <;> decide

/-- CaptureReleases: an event complete, and one exporting, and a mailbox that takes the write. -/
theorem wit_CaptureReleases : ∀ st ∈ [2, 3],
    let s := runWith fun d => d.put 0xA02104 63 st
    let q := reqFor 2 0xA02103 63 5 (leBytes 1 1)
    Lets s .spi q .operator ∧ (s.dev.arrive .spi q).capState 63 = st := by
  intro st h
  simp only [List.mem_cons, List.not_mem_nil, or_false] at h
  rcases h with rfl | rfl <;> refine ⟨⟨rfl, ⟨rfl, rfl, by decide, rfl⟩, by decide, by decide, by decide⟩, by decide⟩

/-- TimeObjectCommands: an output with a plan ahead, one armed, both servos free, and each die. -/
theorem wit_TimeObjectCommands :
    (let s := spiWith fun d => ((d.put 0x208001 7 (ktimeOf (sec 9))).put 0x208002 7 1000).put 0x208004 7 1
     let q := reqFor 2 0x208005 7 1 (leBytes 1 1)
     letsSpi s q .operator = true ∧ (atSpi s q).armCode 7 = 0) ∧
    (let s := spiWith fun d => d.put 0x208006 7 2
     let q := reqFor 2 0x208005 7 1 (leBytes 1 2)
     letsSpi s q .operator = true ∧ (atSpi s q).get 0x208006 7 = 2) ∧
    (let s := spiWith id
     let q := reqFor 2 0x200009 0 1 (leBytes 12 0)
     letsSpi s q .maintainer = true ∧ bits 0 16 32 ≤ 999999999 ∧ (atSpi s q).servo .a = 0 ∧ (atSpi s q).servo .b = 0) ∧
    (let q := reqFor 2 0x901007 0 1 (leBytes 1 2)
     letsSpi (spiWith id) q .maintainer = true) := by decide

/-- NetworkObjectCommands: a session that names an ID, one that is sending, a recovery function and a generation. -/
theorem wit_NetworkObjectCommands :
    (let s := spiWith fun d => d.put 0x340001 3 9
     let q := reqFor 2 0x340008 3 1 (leBytes 1 1)
     letsSpi s q .engineer = true ∧ (atSpi s q).sesWritable 3 = true ∧ (atSpi s q).get 0x340001 3 ≠ 0) ∧
    (let s := spiWith fun d => (d.put 0x340006 3 1).put 0x340002 3 (ktimeOf (sec 9))
     let q := reqFor 2 0x340008 3 1 (leBytes 1 2)
     letsSpi s q .engineer = true ∧ (atSpi s q).sesState 3 = 1 ∧ (atSpi s q).now + 2 * (atSpi s q).sesG 3 < (atSpi s q).sesT 3) ∧
    (let q := reqFor 2 0x31100E 0 1 (leBytes 1 1)
     letsSpi (spiWith id) q .operator = true ∧ 0 < elemsOf 0x3110) ∧
    (let q := reqFor 2 0x312009 0 1 (leBytes 1 1)
     letsSpi (spiWith id) q .operator = true ∧ 0 < elemsOf 0x3120) := by decide

/-- ComputeObjectCommands: a stopped slot, a ready spare, an engine, a stored image, captures in each state. -/
theorem wit_ComputeObjectCommands :
    (let s := spiWith fun d => d.setKslot 2047 { kslot0 with cur := some (testLoaded 0), stopped := 5 }
     let q := reqFor 2 0x510007 2047 1 (leBytes 1 1)
     letsSpi s q .operator = true ∧ ((atSpi s q).kslot 2047).stopped ≠ 0 ∧ ((atSpi s q).kslot 2047).cur = some (testLoaded 0)) ∧
    (let s := spiWith fun d => (d.put 0x500102 3 127).put 0x500104 3 0
     let q := reqFor 2 0x50000C 96 1 (leBytes 1 1)
     letsSpi s q .maintainer = true ∧ (atSpi s q).spareReady 3 = true ∧ (atSpi s q).get 0x500102 3 ≠ (atSpi s q).hostOf 96 ∧
      ((atSpi s q).engine ((atSpi s q).hostOf 96)).state = 0) ∧
    (let q := reqFor 2 0x50000C 127 1 (leBytes 1 2)
     letsSpi (spiWith id) q .maintainer = true) ∧
    (let s := spiWith fun d => d.put 0x502003 63 1
     let q := reqFor 2 0x502002 63 1 (leBytes 1 1)
     letsSpi s q .engineer = true ∧ (atSpi s q).get 0x502003 63 ≠ 0) ∧
    (let q := reqFor 2 0x502002 63 1 (leBytes 1 2)
     letsSpi (spiWith id) q .engineer = true ∧ (atSpi (spiWith id) q).imageInUse 63 = false) ∧
    (let s := spiWith fun d => d.put 0xA02104 63 2
     let q := reqFor 2 0xA02103 63 1 (leBytes 1 1)
     let q' := reqFor 2 0xA02102 63 1 (leBytes 4 262143)
     letsSpi s q .operator = true ∧ (atSpi s q).capState 63 ≠ 3 ∧ letsSpi s q' .operator = true ∧ (atSpi s q').capState 63 = 2) := by
  decide

/-- FaultObjectCommands: a scope in its safe state whose cause has ended; injection slots. -/
theorem wit_FaultObjectCommands :
    (let s := spiWith fun d => d.put 0x802001 15 1
     let q := reqFor 2 0x802003 15 1 (leBytes 1 1)
     letsSpi s q .operator = true ∧ (atSpi s q).releaseCode 15 = 0) ∧
    (letsSpi (spiWith id) (reqFor 2 0x800003 0 1 (leBytes 1 1)) .operator = true) ∧
    (let s := spiWith fun d => d.put 0x820001 15 1
     let q := reqFor 2 0x820005 15 1 (leBytes 1 1)
     letsSpi s q .maintainer = true ∧ (atSpi s q).armInjectCode 15 = 0) ∧
    (letsSpi (spiWith id) (reqFor 2 0x820005 15 1 (leBytes 1 2)) .maintainer = true) := by decide

/-- PowerObjectCommands: RUN after its confirmation, LANTERN, DOZE, and both firmware slots. -/
theorem wit_PowerObjectCommands :
    (let s := spiWith id
     let q := fun v => reqFor 2 0x900002 0 1 (leBytes 1 v)
     letsSpi s (q 1) .maintainer = true ∧ (atSpi s (q 1)).power = 2 ∧ (atSpi s (q 1)).pow.phase = 5 ∧ (atSpi s (q 1)).pow.wakeN = false ∧
      letsSpi s (q 3) .maintainer = true ∧ letsSpi s (q 4) .maintainer = true) ∧
    (let s := spiWith fun d => d.put 0x900001 0 3
     let q := reqFor 2 0x900002 0 1 (leBytes 1 2)
     letsSpi s q .maintainer = true ∧ (atSpi s q).power = 3) ∧
    (let s := spiWith fun d => d.put 0x900001 0 4
     let q := reqFor 2 0x900002 0 1 (leBytes 1 1)
     letsSpi s q .maintainer = true ∧ (atSpi s q).power = 4) ∧
    (∀ v ∈ [1, 2], letsSpi (spiWith id) (reqFor 2 0x131101 1 1 (leBytes 1 v)) .maintainer = true) := by decide

/-- WrittenBytesCommands: a ring's message, an acknowledgement, a flash block and a start to confirm. -/
theorem wit_WrittenBytesCommands :
    (let s := spiWith fun d => d.putB 0x401001 0 (leBytes 2 64)
     let q := { reqFor 2 0x405001 0 1 [2] with offset := 0 }
     letsSpi s q .operator = true ∧ ((atSpi s q).ring 0).sendQ.length < 8 ∧ 6 ≤ imgM ((atSpi s q).activeImage 0)) ∧
    (letsSpi (spiWith id) { reqFor 2 0x800006 0 1 (leBytes 2 511 ++ [0, 0] ++ leBytes 4 9) with offset := 0 } .operator = true) ∧
    (let q := { reqFor 2 0x131001 1023 1 [1] with offset := 0 }
     letsSpi (spiWith id) q .maintainer = true ∧ (atSpi (spiWith id) q).flashBusy = false) ∧
    (let s := spiWith fun d => ((([21, 22, 23, 24].foldl (fun d r => d.setRep r { replica0 with sync := true })
        (d.setPow { d.pow with phase := 4 })).setTim { d.tim with holder := some .a }).put 0x130204 0 7).put 0x200102 0 2
     let q := reqFor 2 0x130101 0 1 (leBytes 4 7)
     letsSpi s q .operator = true ∧ (atSpi s q).confirmCode 7 = 0) := by decide

/-- ObjectReads: a number, octets and a description read over the sideband SPI; a queue of edges and one of responses. -/
theorem wit_ObjectReads :
    (∀ c ∈ [1, 3], let q := reqFor c 0x208002 7 1 []
     letsSpi (spiWith id) q .operator = true ∧ (objOf 0x208002).map (fun x => (x.num, x.ty.isBytes, x.access, readRole x)) =
       some (0x208002, false, .rw, .operator) ∧ 7 < elemsOf 0x2080) ∧
    (let q := reqFor 1 0xA02101 63 1 []
     letsSpi (spiWith id) q .operator = true ∧ (objOf 0xA02101).map (fun x => (x.num, x.ty, x.access)) = some (0xA02101, .octets, .ro) ∧
      63 < elemsOf 0xA021) ∧
    (letsSpi (spiWith id) (reqFor 1 0x207005 7 1 []) .operator = true) ∧
    (let s := spiWith fun d => d.updRing 1 fun y => { y with received := [(9, [1])] }
     letsSpi s (reqFor 1 0x405002 1 1 []) .operator = true ∧ ((atSpi s (reqFor 1 0x405002 1 1 [])).ring 1).received = [(9, [1])]) := by
  decide

/-- ObjectWrites: a direct write and a staged one. (That an object has a hot register is the configuration's: Config.hotOffset.) -/
theorem wit_ObjectWrites :
    (let q := reqFor 2 0x208002 7 1 (leBytes 4 1000000000)
     letsSpi (spiWith id) q .operator = true ∧ (atSpi (spiWith id) q).directCode 0x208002 7 q.data = 0 ∧
      (objOf 0x208002).map (fun x => (atSpi (spiWith id) q).valueCodes x q |>.all (· == 0)) = some true) ∧
    (let s := spiWith fun d => (d.put 0x120001 31 txOpen).put 0x120002 31 77
     let q := { reqFor 2 0x200002 0 1 (leBytes 2 50) with txn := 77 }
     letsSpi s q .engineer = true ∧ (atSpi s q).slotOf 77 = some 31 ∧ (atSpi s q).txState 31 = txOpen ∧
      ((atSpi s q).slot 31).staged.length < 4096 ∧ (atSpi s q).stagedElsewhere ⟨0x200002, 0⟩ (some 31) = false ∧
      (atSpi s q).stageBusy ⟨0x200002, 0⟩ = 0 ∧ (objOf 0x200002).map (fun x => (x.access, x.ty.isBytes,
        (atSpi s q).valueCodes x q |>.all (· == 0))) = some (.rws, false, true)) := by decide

/-- TransactionCommands: a new ID; an open transaction with a staged element, its boundary a TAI time ahead; a ready one; an ended one. -/
theorem wit_TransactionCommands :
    (let q := { reqFor 4 0 0 1 [] with txn := 5 }
     Taken (spiWith id) .spi q ∧ (atSpi (spiWith id) q).slotOf 5 = none ∧ (atSpi (spiWith id) q).txState 0 = txFree) ∧
    (let s := spiWith fun d => ((d.put 0x120001 31 txOpen).put 0x120002 31 77).setSlot 31 { slot0 with staged := [⟨0x200002, 0⟩] }
     let q := { reqFor 5 0 0 1 [] with txn := 77, boundary := 0 }
     (atSpi s q).slotOf 77 = some 31 ∧ (atSpi s q).txState 31 = txOpen ∧
      (match (atSpi s q).resolve_ 0 ((atSpi s q).slot 31).staged [] with | .ok _ => true | .error _ => false) = true ∧
      ((atSpi s q).slot 31).sampled = none ∧ ((atSpi s q).slot 31).confirmed = false ∧ modeStaged ((atSpi s q).slot 31).staged = none) ∧
    (let s := spiWith fun d => (d.put 0x120001 0 txApplied).put 0x120002 0 77
     s.dev.slotOf 77 = some 0 ∧ txApplied ≤ s.dev.txState 0) := by
  refine ⟨⟨⟨rfl, rfl, rfl, by decide, rfl⟩, by decide, by decide⟩, by decide, by decide⟩

/-- TransactionProgress: a slot validating with two participants to report and with one; ready before its sample and after it; open; ended. -/
theorem wit_TransactionProgress :
    (∀ w ∈ [[1, 2], [1]], let s := runWith fun d => (d.put 0x120001 31 txValidating).setSlot 31 { slot0 with waiting := w }
      s.dev.txState 31 = txValidating ∧ (s.dev.slot 31).waiting = w ∧ (s.dev.slot 31).staged = [] ∧ (s.dev.slot 31).fails = [] ∧
      modeStaged (s.dev.slot 31).staged = none) ∧
    (∀ x ∈ [none, some true], let s := runWith fun d => (d.put 0x120001 31 txReady).setSlot 31 { slot0 with
        boundary := some (.tai 5), sampled := x }
      (s.dev.slot 31).boundary = some (.tai 5) ∧ s.dev.txState 31 = txReady ∧ (s.dev.slot 31).sampled = x ∧
      (s.dev.slot 31).applied = false ∧ (s.dev.slot 31).parts = []) ∧
    (∀ st ∈ [txOpen, txApplied, txFailed], (runWith fun d => d.put 0x120001 0 st).dev.txState 0 = st) := by decide

/-- CompletionCommands: a flight whose answer is known, on the sideband SPI and in a mailbox; an entry of the replay cache. -/
theorem wit_CompletionCommands :
    (∀ p ∈ [Path.spi, .mailbox 15], let f : Flight := ⟨p, reqFor 1 0x208002 7 1 [], some ⟨0, [], 0⟩, none, 0, false⟩
      let s := runWith fun d => d.setObj { d.obj with flights := [f] }
      s.dev.obj.flights.find? (fun f => f.path == p && f.resp.isSome) = some f) ∧
    (let c : CacheEntry := ⟨Path.spi.client, 9, reqFor 1 0x208002 7 9 [], none, some 0⟩
     let s := runWith fun d => d.setObj { d.obj with cache := [c] }
     s.dev.obj.cache.find? (fun c => c.client == Path.spi.client && c.txid == 9) = some c) := by decide

/-- CompletionCommands: an authentic request on MGT. -/
theorem wit_CompletionCommands_kmp :
    let s := runWith fun d => (d.put 0x110002 0 1).putB 0x118001 0 (List.replicate 32 7)
    let b := [1, 1] ++ zeros 22 ++ (hmac256 (List.replicate 32 7) ([1, 1] ++ zeros 22)).take 16
    s.por = false ∧ s.dev.kmpCheck 16 b = .message (kmpRead b) ∧ (kmpRead b).kind = 1 := by decide +kernel

/-- The machine in state RUN with its endpoint taking memory requests. -/
def hostWith (f : Dev → Dev) : State := runWith fun d => f (d.setPcie { d.host.pcie with linkUp := true, command := 6, perst := false })

/-- RegisterAccess and HostCommands: an endpoint that takes requests, every register open; a timestamp, published epochs, queues. -/
theorem wit_RegisterAccess : (hostWith id).por = false ∧ (hostWith id).dev.memOk = true ∧
    (∀ o ∈ [0x104, 0x200, 0x300, 0x304, 0x308, 0x600, 0x800], (hostWith id).dev.barOpen o = true) ∧
    ((hostWith id).dev.readEffect 0x200).barOpen 0x204 = true ∧
    (let s := hostWith fun d => d.setTsq 15 { tsq0 with entries := [⟨false, 3, 5⟩] }
     s.dev.power = 2 ∧ (s.dev.tsq 15).entries = [⟨false, 3, 5⟩]) := by decide
theorem wit_HostCommands :
    (let s := hostWith fun d => (d.setPow { d.pow with phase := 1 }).put 0x900001 0 1
     s.dev.memOk = true ∧ s.dev.barOpen 0x104 = true ∧ s.dev.pow.phase = 1) ∧
    (let s := hostWith fun d => d.setTab { d.tab with pub := some ⟨7, 15, true⟩, prev := some ⟨6, 15, true⟩ }
     s.dev.barOpen 0x308 = true ∧ s.dev.tab.pub = some ⟨7, 15, true⟩ ∧ s.dev.tab.prev = some ⟨6, 15, true⟩) ∧
    (let s := hostWith fun d => (d.setQueue 262143 { queue0 with log2 := 3 }).put 0x710001 262143 4
     s.dev.power = 2 ∧ (s.dev.queue 262143).state = qDetached ∧
      (s.dev.setQueue 262143 { s.dev.queue 262143 with cmd := 1 }).attachFault 262143 = 0) ∧
    ((hostWith fun d => d.setQueue 262143 { queue0 with state := qActive }).dev.queue 262143).state = qActive := by decide

/-- TimekeeperDemotion: deviations at and past the limit, and a timekeeper of each role. -/
theorem wit_TimekeeperDemotion : absInt 200000 ≤ 200000 ∧ 200000 < absInt (-200001) ∧ runSt.por = false ∧
    (runWith fun d => d.put 0x200101 1 2).dev.role .b = 2 ∧ runSt.dev.role .a ≠ 2 := by decide

/-- A timekeeper state: TK-A holds the lease, TK-B is standby. -/
def leaseWith (f : TimeSt → TimeSt) : State :=
  runWith fun d => ((d.setTim (f { d.tim with holder := some .a, drive := .a })).put 0x200101 0 0).put 0x200101 1 1

/-- LeaseKeeping: a holder with a standby, no pulse missing and one; a takeover with and without one eligible; an arbitration; a revert. -/
theorem wit_LeaseKeeping :
    (∀ n ∈ [0, 1], let s := leaseWith fun t => { t with pulsesMissing := n, missedRenewal := false }
      s.dev.tim.holder = some .a ∧ s.dev.tim.missedRenewal = false ∧ s.dev.role .b = 1 ∧ s.dev.tim.pulsesMissing = n) ∧
    (let s := leaseWith fun t => { t with b := { t.b with oscOk := true } }
     (s.dev.put 0x200102 1 2).eligible s.dev.tim.drive.other = true) ∧
    (let s := runWith fun d => (d.put 0x200101 0 2).put 0x200101 1 2
     s.dev.eligible .a = false ∧ s.dev.eligible .b = false) ∧
    (let s := leaseWith fun t => { t with arb := .undecided, b := { t.b with count := 65536 * 65536 } }
     let d := s.dev.setRef (s.dev.get 0x200001 0) { refRun0 with last := some 0 }
     d.tim.arb ≠ .idle ∧ d.arbRef.last = some 0 ∧ d.power ≠ 3 ∧
      (let est := ns (d.get 0x200002 0) + ns 1 - d.arbRef.estTime
       ns (d.get 0x200002 0) < absInt (((d.arbRef.estTime + est : Nat) : Int) - d.compared .a) ∧
       absInt (((d.arbRef.estTime + est : Nat) : Int) - d.compared .b) ≤ ns (d.get 0x200002 0) ∧ est ≤ sec 2)) ∧
    (let s := runWith fun d => ((d.setTim { d.tim with
        holder := some .b, drive := .b, revertAt := some (us 1), revertOk := true, a := { d.tim.a with oscOk := true } }).put 0x200101 0 1).put 0x200102 0 2
     s.dev.tim.revertAt = some (us 1) ∧ s.dev.tim.holder = some .b ∧ absInt s.dev.tim.diff ≤ ns 2 ∧ s.dev.tim.arb = .idle ∧
      (s.dev.at_ (us 1 - us 1)).eligible .a = true ∧ s.dev.tim.revertOk = true) := by decide

/-- TimeReferences: edges half a second apart and closer; messages refused and kept; frames; references, the holdover limit, leaps. -/
theorem wit_TimeReferences :
    (let s := runWith fun d => d.setTim { d.tim with ppsIn := tput ppsIn0 d.tim.ppsIn 1 ⟨some 0, none⟩ }
     s.dev.power = 2 ∧ false = (s.dev.get 0x202001 1 == 1) ∧ (tget ppsIn0 (s.dev.at_ (sec 1)).tim.ppsIn 1).lastEdge = some 0 ∧
      0 + ms 500 ≤ shiftTime (quantise (sec 1)) (- psTime ((s.dev.at_ (sec 1)).geti 0x202002 1)) ∧
      ((s.dev.at_ (sec 1)).ref 3).last = none ∧
      shiftTime (quantise (ms 400)) (- psTime ((s.dev.at_ (ms 400)).geti 0x202002 1)) < 0 + ms 500) ∧
    (let s := runWith fun d => (d.setTim { d.tim with ppsIn := tput ppsIn0 d.tim.ppsIn 1 ⟨some 0, none⟩ }).setRef 3
        { refRun0 with last := some 0, valid := true }
     ((s.dev.at_ (ms 700)).ref 3).last = some 0 ∧ ((s.dev.at_ (ms 700)).ref 3).valid = true ∧
      refConsistent 3 0 0 (shiftTime (quantise (ms 700)) (- psTime ((s.dev.at_ (ms 700)).geti 0x202002 1))) 0 = false) ∧
    (runSt.dev.at_ 5).readTod [] 5 = none ∧
    (let s := runWith fun d => (d.put 0x203001 0 1).put 0x203003 0 1
     (s.dev.at_ 5).readTod ([36, 71, 80, 90, 68, 65, 44, 49, 50, 48, 48, 48, 48, 44, 49, 53, 44, 48, 54, 44, 50, 48, 50, 54, 44, 48, 48, 44, 48, 48, 42, 52, 70, 13, 10] : List Byte) 5 = some ⟨some 1781524800, true, none⟩) ∧
    (let s := runWith fun d => d.setTim
        { d.tim with utcTod := some ⟨37, false, false, 0⟩, leap61 := true, holder := some .a, a := { d.tim.a with hoSince := some 0 } }
     s.dev.tim.utcTod = some ⟨37, false, false, 0⟩ ∧ s.dev.tim.leap61 = true ∧ (s.dev.put 0x200102 0 3).servo .a = 3 ∧
      s.dev.tim.hoLimit = false ∧ (s.dev.tim.tk .a).hoSince = some 0) ∧
    (let s := runWith fun d => d.setRef 4 { refRun0 with last := some 0, valid := true }
     (s.dev.ref 4).last = some 0 ∧ (s.dev.ref 4).valid = true) := by decide

/-- TimeOutputs: an edge with room in its queue and one without; outputs enabled; plans with pulses left, and the last. -/
theorem wit_TimeOutputs :
    (∀ n ∈ [15, 16], let s := runWith fun d => d.setTim { d.tim with
        trigIn := tput trigIn0 d.tim.trigIn 7 ⟨List.replicate n ⟨0, false⟩, some 0⟩ }
      s.dev.power = 2 ∧ s.dev.get 0x207001 7 = 0 ∧ s.dev.get 0x207002 7 ≤ 1000000 ∧
      (tget trigIn0 (s.dev.at_ (us 9)).tim.trigIn 7).queue.length = n ∧ 0 + ns 100 ≤ quantise (us 9)) ∧
    (let s := runWith fun d => ((d.put 0x205001 3 1).put 0x205005 3 1).put 0x204104 0 1
     let d := s.dev.at_ (s.dev.nextPps 3).last
     d.on 0x205001 3 = true ∧ d.timeSafe = false ∧ d.get 0x205005 3 = 1 ∧ s.dev.on 0x204104 0 = true) ∧
    (∀ left ∈ [none, some 2, some 1], let s := runWith fun d => d.setTim { d.tim with
        trigOut := tput trigOut0 d.tim.trigOut 7 ⟨us 5, us 9, ns 50, left, true, 0⟩ }
      (tget trigOut0 s.dev.tim.trigOut 7).active = true ∧ (s.dev.at_ (us 5)).timeSafe = false ∧
      (tget trigOut0 s.dev.tim.trigOut 7).period ≠ 0 ∧ (2 ≤ left.getD 2 ∨ left = some 1)) := by decide

/-- A frame of 60 bytes without tags. -/
def testFrame : List Byte := [2, 0, 0, 0, 0, 1, 2, 0, 0, 0, 0, 2, 0x88, 0xB5] ++ zeros 46

/-- P0, P1 and MGT enabled and up, P0 and P1 at 25 Gb/s, in a power state. -/
def netWith (power : Nat) (f : Dev → Dev) : State := runWith fun d =>
  let d := ((d.put 0x900001 0 power).put 0x300001 0 1).put 0x300001 1 1
  f (d.setNet { d.net with links := tput netLink0 (tput netLink0 (tput netLink0 d.net.links 0 ⟨true, 1, 0⟩) 1 ⟨true, 1, 0⟩) 16 ⟨true, 1, 0⟩ })

/-- A stream of P0 that a generation function sends on P1, cut through there. -/
def cutSt : State := netWith 2 fun d =>
  ((((((((d.put 0x310001 0 1).putB 0x310002 0 (dstMac testFrame)).put 0x310003 0 (frameVid testFrame)).put 0x31000A 0 1).put 0x312002 0 1).put
    0x312003 0 2).put 0x312008 0 1).put 0x300007 1 0xFF)

/-- PortFrames: a port that is up in RUN and in the safe state, one that cuts a frame through, one that sends one, disabled ports. -/
theorem wit_PortFrames :
    (let s := netWith 2 id
     s.por = false ∧ (s.dev.atPort 0 5).cutOf 0 = none ∧ (s.dev.atPort 0 5).portUp 0 = true ∧ s.dev.power = 2 ∧
       s.dev.armedSlot 15 0 0 = none ∧ 60 ≤ testFrame.length ∧ isMacControl testFrame = false ∧ (s.dev.netLink 0).up = true ∧
       s.dev.on 0x300001 0 = true) ∧
    (let s := netWith 5 id
     (s.dev.atPort 16 5).cutOf 16 = none ∧ (s.dev.atPort 16 5).portUp 16 = true ∧ (s.dev.atPort 0 5).portUp 0 = true ∧
       s.dev.power ≠ 2 ∧ s.dev.power ≠ 6) ∧
    (let c : CutRx := ⟨0, 0, testFrame, 5, false, [], none, []⟩
     let s := netWith 2 fun d => d.setLan { d.lan with cutting := [c] }
     (s.dev.atPort 0 5).cutOf 0 = some c) ∧
    (let d := cutSt.dev.atPort 0 5
     let e := d.updLedger 0 fun l => { l with received := l.received + 1 }
     let r := e.decideCopy 0 (d.rxStamp 0 5) testFrame
     let c := r.2.copiesOf 0 testFrame r.1
     d.portUp 0 = true ∧ d.cutOf 0 = none ∧ d.cutAny 0 testFrame = true ∧ (c.2.letIn 0 (c.1.length + 1) 5 testFrame).1.isSome = true) ∧
    (let f : QFrame := ⟨testFrame, 0, .own, none, false, false, none, 0, 1⟩
     let s := netWith 2 fun d => d.setPort 0 { d.port 0 with waiting := [f] }
     let e := [7, 6, 5, 4, 3, 2, 1, 0].foldl (fun d c => if bit (d.gatesOf 0) c then d.dropOversize 0 c else d) s.dev
     s.dev.portUp 0 = true ∧ (s.dev.port 0).now = none ∧ (s.dev.port 0).held = none ∧ (e.port 0).now = none ∧ (e.port 0).held = none ∧
       [7, 6, 5, 4, 3, 2, 1, 0].findSome? (fun c => (e.atPort 0 7).offer 0 7 c) = some f) ∧
    (∀ frag ∈ [64, 20], let n : TxNow := ⟨⟨testFrame, 0, .own, none, false, false, none, 0, 1⟩, 0, 0, 9, 0, frag, false⟩
     let s := netWith 2 fun d => d.setPort 0 { d.port 0 with now := some n }
     (s.dev.port 0).now = some n ∧ (n.sent + n.frag < 64 ↔ frag = 20)) := by decide +kernel

/-- PtpEvents: a management message and an Announce; a master port; instances that are and are not the reference's; a match entry. -/
theorem wit_PtpEvents :
    (ptpKind [13] = 13 ∧ ptpKind [11] ≠ 13 ∧ ptpEvent [11] = false) ∧
    (let s := netWith 2 fun d => ((((d.put 0x211001 0 1).put 0x212001 (ptpElem 0 0) 1).put 0x212008 (ptpElem 0 0) 6).put
        0x212006 (ptpElem 0 0) 1).setRep 0 { d.rep 0 with sync := true }
     let m : List Byte := [11, 2] ++ zeros 2 ++ [byte (s.dev.get 0x211003 0), byte (s.dev.get 0x211004 0)] ++ zeros 60
     s.por = false ∧ s.dev.portUp 0 = true ∧ (s.dev.at_ 5).ptpInst 0 m = some 0 ∧ (s.dev.at_ 5).ptpOn 0 0 = true ∧
       ((s.dev.at_ 5).netLink 0).up = true ∧ (s.dev.at_ 5).ptpState 0 0 = 6 ∧ (s.dev.at_ 5).oneStep 0 0 = true ∧
       (s.dev.at_ 5).unsync 0 = false) ∧
    (let s := netWith 2 fun d => (((d.put 0x210002 0 0).put 0x212008 (ptpElem 0 1) 9).put 0x212008 (ptpElem 0 0) 4).setNet { d.net with slave := some 1 }
     (0 : Nat) = s.dev.get 0x210002 0 ∧ s.dev.net.slave = some 1 ∧ s.dev.net.slave ≠ some 0 ∧ s.dev.ptpState 0 1 = 9 ∧
       s.dev.ptpState 0 0 = 4 ∧ s.dev.on 0x211007 0 = false) ∧
    (let x : TcEntry := ⟨1, 2, 0, 0, 0, 9⟩
     let s := netWith 2 fun d => d.setNet { d.net with tc := tput [] d.net.tc 0 [x] }
     (tget [] s.dev.net.tc 0).head? = some x) := by decide +kernel

/-- A bank of two entries, 500 us each, the first closing class 7, with an operation. -/
def testBank (op : Nat) : Bank :=
  ⟨0, 1000000, 0, 0, 0, 2, leBytes 8 (0x7F * 2 ^ 56 + 500000) ++ leBytes 8 (0xFF * 2 ^ 56 + op * 2 ^ 52 + 500000)⟩

/-- P0 with its gates running from such a bank, pre-emption active. -/
def gateWith (op : Nat) (f : PortSt → PortSt) (g : Dev → Dev) : State := netWith 2 fun d =>
  g ((((d.put 0x302003 0 1).put 0x304001 0 1).put 0x304002 0 1).setPort 0 (f { d.port 0 with orrery := testBank op, tether := testBank op }))

/-- GateEvents: an entry that begins a cycle and one that does not; a frame whose gate closes; a planned switch; operations ahead; verification; a poll due. -/
theorem wit_GateEvents :
    (∀ e ∈ [0, us 600], let s := gateWith 0 (fun x => { x with entryAt := e }) fun d => d.at_ e
     let x := s.dev.port 0
     let t := s.dev.nextGate 0
     let pt := x.sched.point t
     s.por = false ∧ s.dev.gatesRun 0 = true ∧ x.sramBad = false ∧ x.switch = none ∧ x.now = none ∧ s.dev.armedSlot 13 0 0 = none ∧
       ((pt.entry = 0 ∧ x.orrery.cycle.startAt pt.cycle = t) ↔ e = us 600)) ∧
    (let n : TxNow := ⟨⟨testFrame, 7, .own, none, false, false, none, 0, 1⟩, 0, 0, us 9, 0, 64, false⟩
     let s := gateWith 0 (fun x => { x with now := some n }) id
     (s.dev.port 0).now = some n ∧ bit (s.dev.port 0).gates 7 = true ∧ bit ((s.dev.port 0).sched.point 0).gates 7 = false ∧
       us 8 < n.end_ ∧ s.dev.preemptable 0 7 = false) ∧
    (let w : Switch := ⟨1, us 3, testBank 1, testBank 1⟩
     let s := netWith 2 fun d => d.setPort 0 { d.port 0 with switch := some w }
     (s.dev.port 0).switch = some w ∧ s.dev.gatesRun 0 = false) ∧
    (∀ op ∈ [1, 2], let s := gateWith op id id
     let x := s.dev.port 0
     s.dev.gatesRun 0 = true ∧ s.dev.preActive 0 = true ∧ (x.sched.nextOp op x.sched.fuel (s.dev.portNow 0)).isSome = true) ∧
    (∀ n ∈ [2, 3], let s := gateWith 0 (fun x => { x with verifyTries := n }) fun d => d.put 0x304007 0 2
     s.dev.get 0x304007 0 = 2 ∧ (s.dev.port 0).verifyTries = n) ∧
    (let s := gateWith 0 id fun d => ((((d.put 0x306002 4095 0).put 0x306001 4095 9).put 0x306004 4095 1).put 0x306005 4095 1000).setQueue 9
       { queue0 with state := 1 }
     s.dev.get 0x306002 4095 = 0 ∧ s.dev.gatesRun 0 = true ∧
       (s.dev.gateOpen 4095 (max (tget 0 s.dev.lan.polled 4095 + 1) (s.dev.portNow 0 + ns (s.dev.get 0x306005 4095)))).isSome = true ∧
       (s.dev.queue (s.dev.get 0x306001 4095)).state = 1) := by decide +kernel

/-- A session of one participant, in a state, T 1 s ahead and G 1 us. -/
def sesWith (st : Nat) (x : Session) (f : Dev → Dev) : State := runWith fun d =>
  f (((((((d.put 0x340001 3 7).put 0x340002 3 (2 ^ 48)).put 0x340003 3 1000).putB 0x340101 3 [10, 0, 0, 9, 0, 5, 0, 0]).put 0x340006 3 st).setSession 3 x))

/-- A slot of a syzygy of that T, ready. -/
def syzWith (f : Dev → Dev) : State := runWith fun d => f ((d.setSlot 31 { slot0 with
  kind := 4, syzygy := 7, boundary := some (.tai (sec 1)) }).put 0x120001 31 txReady)

/-- Its body: ID 7, T, G. -/
def syzBody : List Byte := leBytes 4 7 ++ leBytes 12 (2 ^ 48) ++ leBytes 4 1000

/-- The machine in state RUN with KMP on MGT and a key for every role. -/
def kmpWith (f : Dev → Dev) : State := runWith fun d =>
  f ([0, 1, 2, 3].foldl (fun d r => d.putB 0x118001 r (List.replicate 32 7)) (d.put 0x110002 0 1))
def kmpSt : State := kmpWith id

/-- SyzygyMessages: a sender of role engineer; each answer in its state; a slot far enough ahead and none; the instants of a session. -/
theorem wit_SyzygyMessages :
    (let s := kmpSt
     let path : Path := .kmp 0x0A000009 5 .engineer 16
     s.por = false ∧ s.dev.reach path = true ∧ syzBody.length = 20 ∧ 2 ≤ Role.engineer.num ∧
       s.dev.replayed path (reqOf 0x10 1 syzBody) = .apply ∧ s.dev.replayed path (reqOf 0x13 1 syzBody) = .apply) ∧
    (∀ st ∈ [1, 3], let s := sesWith st { session0 with txid := 8, abortTxid := 9, lastSent := 4 } id
     s.dev.sesEntry 0x0A000009 5 (if st = 1 then 8 else 9) syzBody (st == 3) = some (3, 0) ∧ s.dev.sesState 3 = st ∧
       (s.dev.session 3).lastSent ≠ 0 ∧ s.dev.get 0x340102 3 ≠ s.dev.sesAll 3 ∧ s.dev.get 0x340001 3 = 7 ∧
       (∀ j : Fin 4, j ≠ 3 → s.dev.get 0x340001 j ≠ 7) ∧ s.dev.sesAll 3 - (s.dev.session 3).acked ≠ 0) ∧
    (let s := sesWith 1 session0 fun d => d.put 0x340102 3 1
     (s.dev.session 3).lastSent = 0 ∧ s.dev.get 0x340102 3 = s.dev.sesAll 3) ∧
    (let s := sesWith 3 { session0 with acked := 1 } id
     s.dev.sesAll 3 - (s.dev.session 3).acked = 0) ∧
    (let s := syzWith id
     s.dev.syzSlot 7 (sec 1) [txReady] = some 31 ∧ s.dev.syzFar 31 (sec 1) 1000 = true ∧ s.dev.now + ns 1000 < sec 1) ∧
    (let s := syzWith fun d => d.at_ (sec 1 - us 100)
     s.dev.syzSlot 7 (sec 1) [txReady] = some 31 ∧ s.dev.syzFar 31 (sec 1) 1000 = false ∧ sec 1 ≤ s.dev.now + ns 1000000) ∧
    runSt.dev.syzSlot 7 (sec 1) [txReady] = none ∧ runSt.dev.syzSlot 7 (sec 1) [txFailed] = none := by decide +kernel
theorem wit_SyzygyMessages_slots : ∀ j : Nat, ((sesWith 3 session0 id).dev.slot j).syzygy ≠ 7 := fun _ => show (0 : Nat) ≠ 7 by decide

/-- EclipseTimers: functions with a timer, a latent test past its limit and within it, a single-path take; nodes; pairs; a silence. -/
theorem wit_EclipseTimers :
    (let s := runWith fun d => d.setFn 65535 { recFn0 with hist := { recFn0.hist with deadline := some 9 }, single := some 8 }
     s.por = false ∧ (s.dev.fn 65535).hist.deadline = some 9 ∧ (s.dev.fn 65535).single = some 8) ∧
    (∀ n ∈ [0, 1000], let s := runWith fun d => ((d.setFn 65535 { recFn0 with passed := n }).put 0x311006 65535 1).put 0x311007 65535 10
     s.dev.on 0x311006 65535 = true ∧
       (s.dev.get 0x311007 65535 < absInt (((s.dev.fn 65535).passed : Int) - (s.dev.fn 65535).discarded) ↔ n = 1000)) ∧
    (let s := runWith fun d => d.setEcl { d.ecl with nodes := tput node0 d.ecl.nodes 16383 { node0 with
          kind := 1, single := some 8, delivery := { node0.delivery with deadline := some 9 } } }
     let n := tget node0 s.dev.ecl.nodes 16383
     n.kind ≠ 0 ∧ (n.hist 0).deadline = some 9 ∧ n.single = some 8) ∧
    (∀ t ∈ [0, 5], let s := runWith fun d => (d.setPair 7 { pair0 with trailerB := t, single := some 8, supAt := 1 }).put 0x320001 7 1
     s.dev.pairMode 7 = 1 ∧ s.dev.flt.live.contains (115, 7) = false ∧ ((s.dev.pair 7).trailerA < (s.dev.pair 7).trailerB ↔ t = 5) ∧ (s.dev.pair 7).single = some 8) ∧
    (let s := runWith fun d => (d.setPair 7 { pair0 with supAt := 1 }).put 0x320001 7 2
     s.dev.pairMode 7 = 2 ∧ (s.dev.pair 7).supAt ≠ 0) ∧
    (let s := runWith fun d => d.setEcl { d.ecl with silence := tput 0 d.ecl.silence 8191 9 }
     tget 0 s.dev.ecl.silence 8191 = 9) := by decide +kernel

/-- The machine in state RUN, its power part changed. -/
def powWith (f : PowerSt → PowerSt) : State := runWith fun d => d.setPow (f d.pow)

/-- The machine in a power state, its power part changed. -/
def powIn (n : Nat) (f : PowerSt → PowerSt) : State := runWith fun d => (d.setPow (f d.pow)).put 0x900001 0 n

/-- SupplyCommands: rails below range and below 80 %, the nine rails at nominal at the first power-up, the feeds on either side, a junction. -/
theorem wit_SupplyCommands :
    (let s := runSt
     s.por = false ∧ s.dev.pow.mainPor = false ∧ s.dev.pow.enLow = false ∧ railOk 0 650 = false ∧
       (railRange 0).2.2 * 8 ≤ 100 * 650 ∧ (100 : Nat) * 599 < 8 * (railRange 0).2.2 ∧ s.dev.get 0x900101 0 ≠ 1) ∧
    (let s := powIn 1 fun p => { p with mainPor := true, offSince := some 0 }
     let mv := [750, 750, 800, 900, 1200, 1100, 400, 1800, 3300]
     mv.length = 9 ∧ (∀ r, r < 9 → railOk r (mv.getD r 0) = true) ∧ s.dev.pow.mainPor = true ∧
       s.dev.pow.enLow = false ∧ s.dev.pow.testEn = false ∧ s.dev.power ≠ 3) ∧
    (let s := runWith fun d => d.put 0x900101 0 1
     s.por = false ∧ s.dev.get 0x900101 0 ≠ 0) := by decide

/-- BallastDomain: in power-on reset and released; flash without and with a mirror record; rails that stay absent. -/
theorem wit_BallastDomain :
    State.reset.por = true ∧ (Flash.mk [] [] []).newest = none ∧
    (let r : MirrorRec := ⟨1, 2, 1, 3, 7, false⟩
     (Flash.mk [] [] []).newest = none ∧ r.isOpen = false) ∧
    (let s := powIn 0 fun p => { p with mainPor := true, offSince := some 5 }
     s.por = false ∧ s.dev.pow.offSince = some 5 ∧ s.dev.pow.mainPor = true ∧ s.dev.power ≠ 3) := by decide

/-- DozeEntryAndWake: each stage of an entry to DOZE, a device in RUN, in DOZE, one that has been woken. -/
theorem wit_DozeEntryAndWake :
    (∀ k : Fin 5, let s := powIn 6 fun p => { p with dozeStage := k.val }
      s.por = false ∧ s.dev.power = 6 ∧ s.dev.pow.dozeStage = k.val ∧ s.dev.pow.wakeCause = none) ∧
    (let s := runWith fun d => (d.put 0x900001 0 6).setPow { d.pow with dozeStage := 2 }
     (({ s.dev with rings := tput ring0 s.dev.rings 0 { ring0 with relay := .removing 0 } } : Dev).ring 0).relay = .removing 0) ∧
    (runSt.dev.power = 2 ∧ runSt.dev.pow.mainPor = false) ∧
    (let s := powIn 3 id
     s.dev.power = 3 ∧ s.dev.pow.rst = none ∧ s.dev.pow.waking = none) ∧
    (let s := powIn 3 fun p => { p with rst := some 4 }
     s.dev.power = 3 ∧ s.dev.pow.rst ≠ none ∧ s.dev.pow.waking = none) ∧
    (let s := powIn 3 fun p => { p with waking := some 4 }
     s.dev.pow.waking = some 4 ∧ s.dev.power = 3) := by decide

/-- ResetPins: RST_N high in RUN and in DOZE, low since 4 in state 1. -/
theorem wit_ResetPins :
    (runSt.por = false ∧ runSt.dev.pow.rst = none ∧ runSt.dev.power ≠ 3 ∧ runSt.dev.pow.isOpen = false ∧ runSt.dev.pow.enLow = false ∧
      runSt.dev.pow.mainPor = false) ∧
    (let s := powIn 3 id
     s.dev.pow.rst = none ∧ s.dev.power = 3) ∧
    (let s := powIn 1 fun p => { p with rst := some 4 }
     s.dev.pow.rst = some 4 ∧ s.dev.power = 1 ∧ s.dev.pow.mainPor = false ∧ s.dev.power ≠ 3) := by decide

/-- StartAttempts: an attempt due with FAILS below and at N; each phase; an empty slot's verdict; a record being programmed. -/
theorem wit_StartAttempts :
    (let s := powIn 1 fun p => { p with phase := 0, due := some 4 }
     s.por = false ∧ s.dev.pow.due = some 4 ∧ s.dev.pow.mainPor = false ∧ s.dev.pow.rst = none ∧
       (s.dev.at_ 4).get 0x130201 0 < (s.dev.at_ 4).get 0x130203 0) ∧
    (let s := runWith fun d => ((d.put 0x900001 0 1).put 0x130201 0 3).setPow { d.pow with due := some 4 }
     (s.dev.at_ 4).get 0x130203 0 ≤ (s.dev.at_ 4).get 0x130201 0) ∧
    (let s := powIn 1 fun p => { p with phase := 2 }
     s.dev.pow.phase = 2 ∧ s.dev.pow.programming = false ∧ s.dev.sourceCode s.dev.pow.source true ≠ 0) ∧
    (let s := powIn 1 fun p => { p with phase := 1, waitFrom := some 4 }
     s.dev.pow.waitFrom = some 4 ∧ s.dev.pow.phase = 1) ∧
    (powIn 1 fun p => { p with phase := 3 }).dev.pow.phase = 3 ∧
    (let s := powIn 2 fun p => { p with phase := 4, deadline := some 9 }
     s.dev.pow.deadline = some 9 ∧ s.dev.pow.phase = 4) ∧
    (let s := powIn 1 fun p => { p with programming := true, restart := true }
     s.dev.pow.programming = true ∧ s.dev.pow.restart = true) ∧
    (let s := powIn 1 fun p => { p with programming := true, restart := false }
     s.dev.pow.programming = true ∧ s.dev.pow.restart = false) ∧
    (powIn 2 fun p => { p with verifying := [1] }).dev.pow.verifying.contains 1 = true := by decide

/-- SpiFrames: a CLEAR of two words and a FETCH of five with their CRC words, found idle and BUSY, and one with a wrong CRC. -/
theorem wit_SpiFrames :
    (let ws := [0x3000003F, spiCrc [0x3000003F]]
     spiLen (ws.getD 0 0) = some 2 ∧ ws.length = 2 ∧ ws.getLast? = some (spiCrc (ws.take 1)) ∧ bits (ws.getD 0 0) 28 4 = 3) ∧
    (let h := [0x20000001, 0, 0, 0]
     let ws := h ++ [spiCrc h]
     spiLen (ws.getD 0 0) = some 5 ∧ ws.length = 5 ∧ ws.getLast? = some (spiCrc (ws.take 4)) ∧ bits (ws.getD 0 0) 28 4 = 2) ∧
    (let h := [0x10000000, 0, 0, 0, 0, 0]
     let ws := h ++ [spiCrc h]
     spiLen (ws.getD 0 0) = some 7 ∧ ws.length = 7 ∧ ws.getLast? = some (spiCrc (ws.take 6)) ∧ bits (ws.getD 0 0) 28 4 = 1 ∧
       runSt.dev.spi.busy = false ∧ ({ runSt.dev with spi := { runSt.dev.spi with busy := true } } : Dev).spi.busy = true ∧
       (h ++ [spiCrc h + 1]).getLast? ≠ some (spiCrc h)) := by decide +kernel

/-- The endpoint taking requests, changed. -/
def pcieWith (f : PcieSt → PcieSt) : State := hostWith fun d => d.setPcie (f { d.host.pcie with linkUp := true, command := 6, perst := false })

/-- One queue in place of every other. -/
def queueWith (q : Nat) (f : Queue → Queue) (g : Dev → Dev) : State := hostWith fun d => g (d.setQueue q (f queue0))

/-- LinkStates: PERST_N high with the link up, ASPM enabled, frozen or not; PERST_N low. -/
theorem wit_LinkStates :
    (let s := pcieWith fun x => { x with linkCtl := 3 }
     s.por = false ∧ s.dev.host.pcie.perst = false ∧ s.dev.host.pcie.linkUp = true ∧ bit s.dev.host.pcie.linkCtl 0 = true ∧
       bit s.dev.host.pcie.linkCtl 1 = true ∧ s.dev.aspmInhibit = false ∧ s.dev.host.pcie.reads = [] ∧ s.dev.host.pcie.held = [] ∧
       s.dev.host.pcie.frozen = false ∧ s.dev.pow.phase ≠ 1 ∧ s.dev.pow.mainPor = false ∧ s.dev.pow.rst = none) ∧
    (pcieWith fun x => { x with frozen := true }).dev.host.pcie.frozen = true ∧
    (let s := hostWith fun d => d.setPcie { d.host.pcie with perst := true }
     s.dev.host.pcie.perst = true) := by decide

/-- ConfigurationAccess: an endpoint ready or not, ready to be released or not, no injection armed. -/
theorem wit_ConfigurationAccess :
    (∀ r f : Bool, let s := pcieWith fun x => { x with ready := r, frozen := f }
      s.por = false ∧ s.dev.host.pcie.perst = false ∧ s.dev.host.pcie.linkUp = true ∧ s.dev.host.pcie.ready = r ∧
        s.dev.releaseReady = f ∧ s.dev.armedSlot 0x12 0 0 = none) ∧
    (let s := pcieWith fun x => { x with uncSev := 2 ^ 18, uncMask := 2 ^ 17 }
     bit s.dev.host.pcie.uncSev 18 = true ∧ bit s.dev.host.pcie.uncMask 18 = false ∧ bit s.dev.host.pcie.uncSev 17 = false) := by decide

/-- HostReadsAndInterrupts: a read whose one part is outstanding, one of two parts, merged and free intervals, both interrupt modes. -/
theorem wit_HostReadsAndInterrupts :
    (∀ k : Fin 2, let n := if k = 0 then 4 else 8
     let s := pcieWith fun x => { x with reads := [⟨5, 1, 64, 4, 0, false⟩], reqs := [⟨1, .data 3 0, 64, n, [], false⟩] }
     s.por = false ∧ s.dev.host.pcie.perst = false ∧ s.dev.host.pcie.linkUp = true ∧ s.dev.takePart 4 = none ∧
       s.dev.takePart 5 = some ⟨5, 1, 64, 4, 0, false⟩ ∧
       s.dev.host.pcie.reqs.find? (fun r => r.id == 1) = some ⟨1, .data 3 0, 64, n, [], false⟩ ∧
       ({ id := 1, what := .data 3 0, addr := 64, len := n, got := [] ++ [(0, [1, 2, 3, 4])], lost := false } : ReadReq).whole
         = if k = 0 then some [1, 2, 3, 4] else none) ∧
    (∀ b : Bool, let s := pcieWith fun x => { x with mods := tput moderation0 x.mods 7 ⟨9, b⟩ }
      (tget moderation0 s.dev.host.pcie.mods 7).until_ = 9 ∧ (tget moderation0 s.dev.host.pcie.mods 7).merged = b) ∧
    (pcieWith fun x => { x with msixCtl := 0x8000 }).dev.host.pcie.intMode = 3 ∧
    (pcieWith fun x => { x with msiCtl := 1 }).dev.host.pcie.intMode = 2 ∧
    (pcieWith fun x => { x with quarantine := [(5, 9)] }).dev.host.pcie.quarantine = [(5, 9)] := by decide

/-- QueueEvents: the last queue STOPPING and empty, polled at an interval, with a poll due, coalescing, and with a waiting frame. -/
theorem wit_QueueEvents :
    (let s := queueWith 262143 (fun x => { x with state := 2 }) id
     s.por = false ∧ (s.dev.queue 262143).state = 2 ∧ (s.dev.queue 262143).entries = []) ∧
    (let s := queueWith 262143 (fun x => { x with state := 1, served := 1 }) fun d => d.put 0x710001 262143 1
     s.dev.pollWanted 262143 = true ∧ s.dev.now ≠ (s.dev.queue 262143).served) ∧
    (let s := queueWith 5 (fun x => { x with state := 1, log2 := 3, due := some 0, deadline := 2 }) fun d => d.put 0x710001 5 1
     let x := s.dev.queue 5
     s.dev.hostUp = true ∧ s.dev.nextPoll = some 5 ∧ s.dev.host.pcie.polls.length < 96 ∧ x.orrery = none ∧ 0 < s.dev.tagRoom false ∧
       s.dev.qClass 5 = 1 ∧ s.dev.now ≤ x.deadline ∧
       0 < min (min (s.dev.get 0x710004 5) (2 ^ x.log2 - x.next % 2 ^ x.log2)) (2 ^ x.log2 - x.entries.length)) ∧
    (let s := queueWith 262143 (fun x => { x with oldest := some 4, rx := [⟨[1], 0, 0, 0, 0, 0, 4, 1⟩] }) id
     (s.dev.queue 262143).oldest = some 4 ∧ (s.dev.queue 262143).rx = [⟨[1], 0, 0, 0, 0, 0, 4, 1⟩] ∧
       s.dev.host.pcie.frozen = false) := by decide

/-- A detection of source 320. -/
def testDet : Detection := ⟨320, 0, 1, 0, 0, false⟩

/-- The machine in state RUN with one reaction of source 225, unit 3. -/
def reactWith (ph : ReactPhase) (sc : Option Scope) : State := runWith fun d => d.setFlt { d.flt with reactions := [⟨225, 3, 0, ph, sc⟩] }

/-- FaultCollection: a detection that no checker reports, primary and consequential, each reaction code, a reaction that watches. -/
theorem wit_FaultCollection :
    runSt.por = false ∧ checkerOf testDet.src testDet.unit = none ∧ srcNamed testDet.src = true ∧
    (∀ k ∈ [0, 1, 2, 3], let d := runDev.put 0x801003 320 k
     let a := ((d.setFlt { d.flt with sticky := setBit d.flt.sticky 320 true }).inc 0x801004 320)
     let e := (a.noteFirst testDet false).eventDeliver ⟨320, 0, 1, 0, 0, d.detUnsync 320 0, false⟩
     d.consequential testDet = false ∧ e.watching testDet = none ∧ e.get 0x801003 320 = k) ∧
    (runDev.put 0x802001 19 1).consequential testDet = true ∧
    (let s := reactWith (.watch 0 (us 100)) (some (.cluster 3))
     s.dev.watching ⟨225, 3, 0, 0, us 50, false⟩ = some ⟨225, 3, 0, .watch 0 (us 100), some (.cluster 3)⟩) ∧
    srcClass 225 = clsE ∧ runDev.flt.feValid = false ∧
    ({ runDev with flt := { runDev.flt with feValid := true } } : Dev).flt.feValid = true := by decide +kernel

/-- EscalationAndScrub: a reaction in each phase, one past its ladder, no reaction and 256; the scrubber within and at the end of a stack. -/
theorem wit_EscalationAndScrub :
    (∀ x ∈ [(ReactPhase.window 9, (none : Option Scope)), (.resetting, some (.cluster 3)), (.watch 4 9, some (.cluster 3))],
      (reactWith x.1 x.2).por = false ∧
        (reactWith x.1 x.2).dev.flt.reactions.find? (fun r => r.src == 225 && r.unit == 3) = some ⟨225, 3, 0, x.1, x.2⟩) ∧
    ((ladder 225 3)[2]? = none ∧ (ladder 225 3)[1]? = some (.region 0)) ∧ runDev.flt.reactions = [] ∧
    (let l := (List.range 256).map fun n => (⟨225, n + 4, 0, .resetting, none⟩ : Reaction)
     256 ≤ l.length ∧ ∀ r ∈ l, r.src ≠ 225 ∨ r.unit ≠ 3) ∧
    (let s := runWith fun d => d.put 0x830002 0 1
     s.por = false ∧ s.dev.power = 2 ∧ s.dev.armedSlot 1 1 0 = none ∧ s.dev.armedSlot 1 1 17179869152 = none ∧ s.dev.on 0x830002 0 = true) ∧
    (0 : Nat) + 32 < 17179869184 ∧ (17179869184 : Nat) ≤ 17179869152 + 32 := by decide +kernel

/-- A ring in a state, its node 5 on a ring of eight. -/
def ringWith (st : Nat) (x : Ring) (f : Dev → Dev) : State := runWith fun d => f ((d.setRing 1 x).put 0x400101 1 st)

/-- A mailbox for node `n` with its CRC. -/
def testBox (n : Nat) (body : List Byte) : List Byte :=
  let b := [byte n, 2] ++ beBytes 2 body.length ++ body
  b ++ beBytes 2 (ccitt b)

/-- A mailbox body of a kind. -/
def testBody (kind : Nat) : List Byte := [1, byte kind] ++ zeros 22

/-- RingStates: a ring enabled and disabled, its relay in each position, each state and its time-outs, a proposal with each decision, the
own slot, mailbox messages of both kinds and one with a wrong CRC. -/
theorem wit_RingStates :
    (let s := ringWith 0 { ring0 with relay := .released } fun d => d.put 0x400001 1 1
     s.por = false ∧ s.dev.on 0x400001 1 = true ∧ s.dev.power = 2 ∧ (s.dev.ring 1).relay = .released) ∧
    (let s := ringWith 1 { ring0 with relay := .inserted } id
     s.dev.on 0x400001 1 = false ∧ (s.dev.ring 1).relay = .inserted) ∧
    (∀ x ∈ [Relay.inserting 9, .removing 9], ((ringWith 7 { ring0 with relay := x } id).dev.ring 1).relay = x) ∧
    (let s := ringWith 1 { ring0 with candidate := true } fun d => d.put 0x400004 1 1
     s.dev.ringState 1 = 1 ∧ s.dev.get 0x400004 1 = 1 ∧ (s.dev.ring 1).candidate = true) ∧
    (∀ st ∈ [2, 4, 5], (ringWith st ring0 id).dev.ringState 1 = st) ∧
    (∀ k ∈ [0, 2, 3], let s := ringWith 6 { ring0 with prop := some ⟨1, 2, 3, 0, false, k⟩ } id
     s.dev.ringState 1 = 6 ∧ (s.dev.ring 1).prop = some ⟨1, 2, 3, 0, false, k⟩) ∧
    (∀ n ∈ [0, 255], let s := ringWith 5 ring0 fun d => d.put 0x400003 1 n
     s.dev.nodeId 1 = n) ∧
    (∀ k ∈ [1, 2], let s := ringWith 5 ring0 fun d => d.put 0x400003 1 5
     let box := testBox 5 (testBody k)
     ccitt (box.take (box.length - 2)) = beAt box (box.length - 2) 2 ∧ byteAt box 0 = s.dev.nodeId 1 ∧ (s.dev.ring 1).mbxCycle ≠ some 7 ∧
       beAt box 2 2 + 6 ≤ box.length ∧ byteAt (slice box 4 (beAt box 2 2)) 0 = 1 ∧
       (slice box 4 (beAt box 2 2)).length = 24 + beAt (slice box 4 (beAt box 2 2)) 20 2 ∧ byteAt box 0 ≠ 255 ∧
       (kmpRead (slice box 4 (beAt box 2 2))).kind = k ∧ (s.dev.ring 1).received.length < 16 ∧ (s.dev.ring 1).responses.length < 16 ∧
       s.dev.reach (.ring 1 (byteAt box 1)) = true) ∧
    (let s := ringWith 6 ring0 fun d => (d.put 0x400010 1 9).setQueue 9 { queue0 with state := 1 }
     (s.dev.ownSlotAt 1).isSome = true ∧ s.dev.get 0x400010 1 < 262144 ∧ (s.dev.queue (s.dev.get 0x400010 1)).state = 1) ∧
    (let box := testBox 5 (testBody 1) ++ [1]
     ccitt (box.take (box.length - 2)) ≠ beAt box (box.length - 2) 2) := by decide +kernel

/-- A mode image of one slot, node 5's, with a payload of four bytes. -/
def testMode : List Byte := leBytes 2 64 ++ leBytes 2 1 ++ leBytes 2 1 ++ zeros 2 ++ zeros 32 ++ [5, 0, 4, 0] ++ [5]

/-- Node 5 the leader of mode 1 of ring 1, its ports' replicas synchronised, Tether's tolerance as given. -/
def leaderWith (tol : Nat) : State :=
  let g : RingGuard := { ringGuard0 with whole := 1000000, tol := tol, images := tput [] ringGuard0.images 1 testMode }
  ringWith 6 { ring0 with guard_ := g, lastStart := 1 } fun d =>
    let d := ((((d.put 0x400003 1 5).put 0x400103 1 1).putB 0x401001 5 testMode).put 0x400006 1 1000000).put 0x400102 1 5
    let d := (d.setRep 19 { d.rep 19 with sync := true }).setRep 20 { d.rep 20 with sync := true }
    (d.setTether 18 { d.tether 18 with agree := 2 }).setTether 19 { d.tether 19 with agree := 2 }

/-- The second copy of a cycle of mode 1, of 144 bytes without its FCS: node 5's, its CTRL_CRC right. -/
def testCopy : List Byte :=
  let ctl := [1, 1, 0, 1, 0, 5] ++ beBytes 2 148 ++ zeros 42
  zeros 12 ++ [0x88, 0xB6] ++ ctl ++ beBytes 2 (ccitt ctl) ++ zeros 78

/-- RingCopies: a leader whose start Tether allows and does not; a listening node and one out of reach of the ring, a valid header and none. -/
theorem wit_RingCopies :
    (∀ tol ∈ [0, 100000], let s := leaderWith tol
     let n := (s.dev.ringCycle 1).firstFrom s.dev.now
     let cs := ((s.dev.ringCycle 1).startAt n).toNat
     let start := cs + 1000 % s.dev.ringClock 1
     let d := (s.dev.at_ start).updRing 1 fun x => { x with lastStart := cs, babbled := false, babble := if x.babbled then x.babble else 0 }
     s.por = false ∧ s.dev.ringState 1 = 6 ∧ s.dev.ringSafe 1 = false ∧ (s.dev.ring 1).prop = none ∧
       (s.dev.ring 1).bothNow (n % (2 ^ 64 : Nat)).toNat < 16 ∧
       (s.dev.ringCycle 1).startAt n ≠ (s.dev.ring 1).lastStart ∧ s.dev.ringSync 1 0 = true ∧ s.dev.ringSync 1 1 = true ∧
       imgOk (d.activeImage 1) = true ∧ d.guardStart 1 n start (d.activeImage 1) = (tol == 100000)) ∧
    (∀ st ∈ [1, 7], let s := ringWith st { ring0 with upA := true, upB := true } fun d => d.putB 0x401001 5 testMode
     s.dev.armedSlot 17 2 0 = none ∧ s.dev.armedSlot 16 2 0 = none ∧ s.dev.ringState 1 = st ∧ s.dev.copyHeader 1 testCopy = true ∧
       s.dev.copyCtrl 1 [] = false ∧ (s.dev.ring 1).cyc = none ∧ (s.dev.ring 1).prev = none ∧ (s.dev.ring 1).upA = true ∧
       (s.dev.ring 1).upB = true ∧ rfCopyA testCopy ≠ ((0 : Fin 2) == 0) ∧ rfMode testCopy ≠ s.dev.get 0x400103 1) := by decide +kernel

/-- The table part, changed. -/
def tabWith (f : TableSt → TableSt) : State := runWith fun d => d.setTab (f { d.tab with running := true })

/-- A CFG-2 frame without PMUs at 50 frames a second. -/
def testCfg : List Byte := let b := zeros 20 ++ beBytes 2 50
  b ++ beBytes 2 (ccitt b)

/-- IngestEvents: a set on its way, to a region that runs and one that does not; epochs running; silent streams; units; a PMU stream. -/
theorem wit_IngestEvents :
    (∀ up : Bool, let s := runWith fun d => (d.setIng { d.ing with landing := [⟨3, 1, 0, 0, []⟩] }).setRegion 3 { region0 with up := up }
     s.por = false ∧ s.dev.ing.landing = [⟨3, 1, 0, 0, []⟩] ∧ s.dev.regionRuns 3 = up) ∧
    (tabWith id).dev.tab.running = true ∧
    (let s := runWith fun d => (d.updStream 0 65535 fun x => { x with last := some 4 }).put 0x610001 65535 1
     (s.dev.stream 0 65535).last = some 4 ∧ s.dev.on 0x610001 65535 = true) ∧
    (∀ f ∈ [0, 65536], let s := runWith fun d => d.setRegion 3 { region0 with units := [⟨0, [zeros 32]⟩], fill := f }
     let x := s.dev.region 3
     x.units = [⟨0, [zeros 32]⟩] ∧ s.dev.regionRuns 3 = true ∧ (x.journal s.dev.now + 1 ≤ 65536 ↔ f = 0)) ∧
    (let s := tabWith fun t => { t with closed := 5, segs := [⟨0, 0, 10000, 0, 500⟩] }
     let b := leBytes 4 7 ++ zeros 28
     let d := s.dev.put 0x601001 7 1
     d.recordBad 0 b = false ∧ leAt b 0 4 / 2 ^ 30 ≠ 1 ∧ d.tab.running = true ∧ d.epochOf (updTime d.now b) ≤ d.tab.closed ∧
       (d.setTab { d.tab with closed := 0, segs := [⟨1, 0, 10000, 0, 500⟩] }).epochOf 0 = 1 ∧
       (d.setTab { d.tab with closed := 0, segs := [⟨3, 0, 10000, 0, 500⟩] }).epochOf 0 = 3) ∧
    (∀ safe : Bool, let s := runWith fun d => ((((d.put 0x650001 255 1).putB 0x650002 255 testCfg).put 0x650004 255 8192).put 0x650005 255 15).put 0x802001 15 (b2n safe)
     (cfgDataRate (s.dev.getB 0x650002 255)).toNat = 50 ∧ s.dev.on 0x650001 255 = true ∧
       (cfgParse (s.dev.getB 0x650002 255)).isSome = true ∧ 8192 ≤ s.dev.get 0x650004 255 ∧ s.dev.safe (s.dev.get 0x650005 255) = safe) := by decide +kernel

/-- EpochEvents: all regions up and epochs not yet running; an epoch to close, to report, to publish; a pin. -/
theorem wit_EpochEvents :
    (let s := runWith fun d => d.setTab { d.tab with upSince := some 4 }
     s.por = false ∧ s.dev.tab.upSince = some 4 ∧ s.dev.tab.running = false ∧ s.dev.power = 2) ∧
    (let s := tabWith fun t => { t with closed := 4, cut := 5 }
     s.dev.tab.running = true ∧ s.dev.tab.closed + 1 ≤ s.dev.tab.cut) ∧
    (let c : Closing := ⟨5, 9, 15, 7, [], [], false⟩
     let s := tabWith fun t => { t with closing := [c] }
     let d := s.dev.at_ (c.at_ + us 1)
     s.dev.tab.closing.find? (fun c => bit c.able 3 && !bit c.reported 3) = some c ∧ d.now ≤ c.at_ + ns 1500 ∧
       s.dev.regionRuns 3 = true ∧ c.sides = [] ∧ s.dev.tab.pin = none ∧ s.dev.tab.lastPub + us 2 ≤ (s.dev.at_ (c.at_ + us 2)).now) ∧
    (tabWith fun t => { t with pin := some ⟨5, false, 9⟩ }).dev.tab.pin = some ⟨5, false, 9⟩ := by decide +kernel

/-- A device with one signal of region 3 and its record. -/
def sigWith (r : SigRec) (f : Dev → Dev) : Dev := f ((runDev.put 0x601001 0x1800007 1).setRec 0x1800007 r)

/-- SignalViews: the endpoint taking requests and not; the published epoch, a pin of it and of the one before; each case of resolution. -/
theorem wit_SignalViews :
    ((hostWith id).por = false ∧ (hostWith id).dev.memOk = true ∧ (hostWith id).dev.power = 2 ∧ runSt.dev.memOk = false) ∧
    (runDev.tab.pin = none ∧ runDev.tab.pinStale = false) ∧
    (∀ n ∈ [4, 5], let s := tabWith fun t => { t with pin := some ⟨n, false, 9⟩, pub := some ⟨5, 15, true⟩ }
     s.dev.tab.pin = some ⟨n, false, 9⟩ ∧ s.dev.tab.pub = some ⟨5, 15, true⟩) ∧
    (runDev.sigType 0x1800007 = 0 ∧ (sigWith sigRec0 id).sigType 0x1800007 ≠ 0 ∧ bit 7 (regionOfSig 0x1800007) = false ∧
      bit 15 (regionOfSig 0x1800007) = true ∧ (sigWith sigRec0 id).poisonOf 0x1800007 = none ∧
      (sigWith sigRec0 fun d => d.setRegion 3 { region0 with poison := [⟨0x1800007, 5⟩] }).poisonOf 0x1800007 = some ⟨0x1800007, 5⟩) ∧
    (∀ x ∈ [(5, false), (4, false), (2, false), (5, true)], let v : ValSlot := ⟨0, zeros 12, 0, x.1, x.2⟩
     let d := sigWith ⟨0, true, [(0, v)]⟩ fun d => d.put 0x601002 0x1800007 2
     (pickSlot (fun a b => decide (tagDiff a b > 0)) (fun t => decide (tagDiff t 5 ≤ 0)) (d.rec_ 0x1800007).slots).map (·.2) = some v ∧
       ((tagDiff 5 v.tag).toNat ≤ d.sigCarry 0x1800007 ↔ x.1 ≠ 2) ∧ d.sourceLost (d.rec_ 0x1800007).source = false) ∧
    (sigWith ⟨2 ^ 31, true, []⟩ id).sourceLost 2147483648 = true ∧
    (∀ v : ValSlot, ((runDev.resolve 3 ⟨5, 15, true⟩).slot = some v → v.value.length = 12)) := by
  refine ⟨by decide +kernel, by decide +kernel, by decide +kernel, by decide +kernel, by decide +kernel, by decide +kernel, fun v h => ?_⟩
  exact absurd h (by rw [show (runDev.resolve 3 ⟨5, 15, true⟩).slot = none from by decide +kernel]; simp)

/-- The machine in state RUN, its wave part changed. -/
def waveWith (f : WaveSt → WaveSt) (g : Dev → Dev) : State := runWith fun d => g (d.setWave (f d.wave))

/-- A line event. -/
def testEv : LineEv := ⟨zeros 32, [], [zeros 32], none, false, false, false, 4⟩

/-- A section of 300 m at 300 m/us. -/
def testSection : List Byte := leBytes 8 0x4072C00000000000 ++ leBytes 8 0x41B1E1A300000000

/-- An arrival handed over at the end of its unit, confident. -/
def testHandoff : List Byte := zeros 24 ++ leBytes 4 1000 ++ zeros 4

/-- WavefrontEvents: a disarmed screen; an event that fills; snippets; arrivals; a line event with each setting of single-ended location. -/
theorem wit_WavefrontEvents :
    (let s := waveWith id fun d => d.setWchan 511 { wchan0 with disarmed := true, belowSince := some 4 }
     s.por = false ∧ (s.dev.wchan 511).disarmed = true ∧ (s.dev.wchan 511).belowSince = some 4) ∧
    (waveWith id fun d => d.put 0xA02104 63 1).dev.capState 63 = 1 ∧
    (∀ w ∈ [0, 512], let x : Snippet := ⟨511, 100, 0⟩
     let s := waveWith (fun y => { y with snippets := [x] }) fun d =>
       let d := d.setWchan 511 { wchan0 with ring := tput wsample0 [] (131 % ringDepth (d.wperiod 511)) ⟨131, 5, false⟩ }
       (d.put 0xA03001 0 7).setKslot 7 { kslot0 with cur := some { testLoaded 0 with shared := tput 0 [] 0 w } }
     s.dev.snippetNext 0 = some x ∧ (s.dev.wsampleAt x.chan (x.grid + 31)).isSome = true ∧
       s.dev.get 0xA03001 0 = 7 ∧ ((s.dev.kslot 7).cur.map fun l => (tget 0 l.shared 0 + 2 ^ 32 - tget 0 l.shared 1) % 2 ^ 32) = some w) ∧
    runSt.dev.get 0xA03001 0 = 0xFFFF ∧
    (let s := waveWith (fun y => { y with handoff := [(3, testHandoff)] }) id
     s.dev.wave.handoff.find? (fun x => x.1 == 3) = some (3, testHandoff) ∧ 512 ≤ leAt testHandoff 24 4 % 65536) ∧
    (∀ k ∈ [1, 3], let s := waveWith id fun d => ((d.setLine 63 ⟨some testEv, none⟩).put 0xA10004 63 k).putB 0xA10002 63 testSection
     (s.dev.line 63).ev = some testEv ∧ testEv.remote = none ∧ testEv.single = false ∧ (bit (s.dev.get 0xA10004 63) 1 = true ↔ k = 3) ∧
       testEv.later.length = 0) := by decide +kernel

/-- WavefrontMessages: records not yet sent; a message sent five times and six; each message of an operator; a record of a line and of none. -/
theorem wit_WavefrontMessages :
    (let s := waveWith id fun d => (d.setLine 63 ⟨some testEv, none⟩).putB 0xA10007 63 [10, 0, 0, 9]
     s.por = false ∧ (s.dev.line 63).ev = some testEv ∧ testEv.unsent ≠ [] ∧ s.dev.peerIp 63 ≠ 0) ∧
    (∀ n ∈ [5, 6], let m : WMsg := ⟨63, 9, [], n, 0⟩
     let s := waveWith (fun y => { y with msgs := [m] }) id
     s.dev.wave.msgs.find? (fun m => m.txid == 9) = some m) ∧
    (let s := kmpWith fun d => d.put 0xA10001 0 1
     let path : Path := .kmp 0x0A000009 5 .operator 16
     s.dev.reach path = true ∧ 1 ≤ Role.operator.num ∧ arrivalsRead (arrivalsData [zeros 32]) 1 = some [zeros 32] ∧
       arrivalsRead (arrivalsData []) 0 = some [] ∧ s.dev.replayed path (reqOf 0x20 9 (arrivalsData [zeros 32])) = .apply ∧
       (zeros 20).length = 20 ∧ s.dev.replayed path (reqOf 0x22 9 (zeros 20)) = .apply ∧ s.dev.on 0xA10001 (byteAt (zeros 20) 0) = true ∧
       Role.observer.num = 0 ∧ s.dev.reach (.kmp 0x0A000009 5 .observer 16) = true) ∧
    (let s := waveWith (fun y => { y with senders := tput 0 y.senders 0 0x0A00000A }) fun d => (d.put 0xA10001 63 1).putB 0xA10007 63 [10, 0, 0, 9]
     s.dev.lineOf 0x0A000009 (arLine (zeros 32)) = some 63 ∧ s.dev.lineOf 0x0A000009 5 = none ∧
       s.dev.inLog 0x0A000009 (arId (zeros 32)) = true) := by decide +kernel

/-- WavefrontEvents: later arrivals after 1,200 and 800 ns score 2 on a line of 1 us, one after 1,200 ns alone scores 1. -/
theorem wit_WavefrontEvents_best : ∀ ts ∈ [[1200], [1200, 800]],
    let ev : LineEv := { testEv with later := ts.map fun t => leBytes 8 t ++ zeros 24 }
    let s := waveWith id fun d => (((d.setLine 63 ⟨some ev, none⟩).put 0xA10004 63 3).putB 0xA10002 63 testSection).put 0xA1000B 63 10
    let t1 := arTime s.dev.now ev.first
    let d := (s.dev.at_ (t1 + s.dev.lineSpan 63)).setLine 63 { s.dev.line 63 with ev := some { ev with single := true } }
    let ss := sectionsOf (s.dev.getB 0xA10002 63)
    let tau := travelTime ss
    let tol : Q := ⟨s.dev.get 0xA1000B 63, 1⟩
    let later := ev.later.map fun a => qTime (arTime d.now a) t1
    let cand := later.map (fun a => a.mul ⟨1, 2⟩) ++ later.map (fun a => tau.sub (a.mul ⟨1, 2⟩))
    let score := scoreOf tau tol later []
    let best := cand.foldl (fun (b : Option (Q × Nat)) th => match b with
      | none => some (th, score th)
      | some (x, n) => if score th > n ∨ (score th = n ∧ th.lt x = true) then some (th, score th) else b) none
    best.map (·.2) = some ts.length := by decide +kernel

/-! ### Commands, on the spec's worked examples -/

/-- The device after a command that answers a next state. -/
def devAfter (c : Instr) (s : State) : Dev :=
  match exec c s with
  | .next t => t.dev
  | _ => dev0

/-- R8, R12: engine 77 is in region 2, cluster 9; signal 0x0100_4A3C belongs to region 2. -/
theorem test_placement : 77 / 32 = 2 ∧ 77 / 8 = 9 ∧ regionOfSig 0x1004A3C = 2 := by decide

/-- The cycle of 1/4,800 s with an anchor of 1 s: the starts of the table, in 2^-32 ns. -/
theorem test_cycle_starts :
    let c : Cycle := Bank.cycle ⟨0, 208333, 0x55555555, 0, 1, 1, zeros 8⟩
    c.start 1 = 208333 * 2 ^ 32 + 0x55555555 ∧ c.start 3 = 624999 * 2 ^ 32 + 0xFFFFFFFF ∧ c.start 4 = 833333 * 2 ^ 32 + 0x55555554 ∧
      c.start 4799 = 999791666 * 2 ^ 32 + 0xAAAAA46B ∧ c.start 4800 = 1000000000 * 2 ^ 32 ∧
      c.start 4801 = 1000208333 * 2 ^ 32 + 0x55555555 := by decide +kernel

/-- A holder with an offset of 6 ns passes a holdover limit of 1,000 ns after 8,643 s. -/
theorem test_holdover_limit : sec 8642 < holdoverDue (ns 6) (ns 1000) ∧ holdoverDue (ns 6) (ns 1000) < sec 8644 := by decide +kernel

/-- A commit 474 ms into a second, the epoch period 20 ms, applies at 480 ms. -/
theorem test_commit_boundary :
    let s := runWith fun d => (d.setTab { d.tab with running := true, segs := [⟨0, 0, 50, 1, 2000⟩] }).at_ (ms 474)
    s.dev.resolve_ 1 [] [] = .ok (.epoch (ms 480), 0) := by decide +kernel

/-- Chapter 10's example: an angle that advances by 0.0126 rad between reports at 50/s reads 50.1003 Hz. -/
theorem test_frequency :
    let f := freqAt 50 50 (126 * 2 ^ 96 / 10000) 0
    501002 * (2 * pi96) < 10000 * f ∧ 10000 * f < 501004 * (2 * pi96) := by decide +kernel

/-- R329 by hand, L 6, M 5, TAPS 32: input point 21 posts the outputs k with 48 < 10 k ≤ 60. -/
theorem test_resampling : resamplePoints 6 5 32 21 = [5, 6] := by decide +kernel

/-- The two words encoded in R280 to R284: VFMA of V4 := V1 x V2 + V4, and BNE S3, S0 by -5. -/
theorem test_words :
    (let i := insOf 0x4C811408
     i.op = 0x13 ∧ i.v = true ∧ i.d = 4 ∧ i.a = 1 ∧ i.b = 2 ∧ i.c = 4 ∧ legal 0x4C811408 = true) ∧
    (let i := insOf 0xC460FFFB
     i.op = 0x31 ∧ i.d = 3 ∧ i.a = 0 ∧ i.simm = -5 ∧ legal 0xC460FFFB = true) := by decide

/-- A vector of one value in every lane. -/
def lanesOf (x : Nat) : Nat := ofLanes 32 (List.replicate 8 x)

/-- That VFMA on lanes of 1.0, 2.0 and 4.0 gives 6.0 in every lane. -/
theorem test_vfma : ((devAfter (.fma 0) (engSt 0x4C811408 { eng with
    v := tput 0 (tput 0 (tput 0 [] 1 (lanesOf 0x3F800000)) 2 (lanesOf 0x40000000)) 4 (lanesOf 0x40800000) })).engine 0).getV 4 =
      lanesOf 0x40C00000 := by decide +kernel

/-- ADD S2 := S3 + S1 wraps. -/
theorem test_add_wraps : ((devAfter (.add 0) (engSt 0x04430800 { eng with s := [(1, 2), (3, 0xFFFFFFFF)] })).engine 0).getS 2 = 1 := by
  decide +kernel

/-- A taken BEQ by +1 costs two cycles; one not taken goes on. -/
theorem test_beq :
    (let x := (devAfter (.beq 0) (engSt 0xC0400001 eng)).engine 0
     x.pc = 2 ∧ x.cyc = 2) ∧
    (let x := (devAfter (.beq 0) (engSt 0xC0400001 { eng with s := [(2, 1)] })).engine 0
     x.pc = 1 ∧ x.cyc = 1) := by decide +kernel

/-- A frame of a PRP node with its trailer on a LAN (LanId 0xA or 0xB), sequence number 7. -/
def prpFrame (lan : Nat) : List Byte := testFrame ++ [0, 7] ++ beBytes 2 (lan * 4096 + 52) ++ [0x88, 0xFB]

/-- PRP duplicate discard: the first copy is delivered, the second one on the other LAN eliminated, both counted. -/
theorem test_prp :
    let s := netWith 2 fun d => d.put 0x320001 0 1
    let t : State := { s with dev := devAfter (.frameReceive 0 (.frame (prpFrame 0xA) true) (us 1)) s }
    let e := devAfter (.frameReceive 1 (.frame (prpFrame 0xB) true) (us 5)) t
    (e.port 0).ledger.delivered = 1 ∧ (e.port 0).ledger.eliminated = 0 ∧ (e.port 1).ledger.received = 1 ∧
      (e.port 1).ledger.eliminated = 1 := by decide +kernel

/-- The hold request comes 64 ns before the entry of operation 1, with a holdAdvance of 64 ns. -/
theorem test_hold_request :
    let e := devAfter (.holdRequest 0) (gateWith 1 id fun d => d.put 0x304005 0 64)
    (e.port 0).hold = true ∧ e.now = us 500 - ns 64 := by decide +kernel

/-- A hot reset freezes the port with cause 2. -/
theorem test_hot_reset :
    let e := devAfter .hotReset (hostWith id)
    e.host.pcie.frozen = true ∧ e.host.pcie.cause = 2 ∧ e.host.pcie.linkUp = true := by decide +kernel

/-- A read of the CBAL voltage over the sideband SPI: what the second FETCH returns; a frame of 200 edges is discarded. -/
theorem test_spi_fetch :
    let s := spiWith fun d => { d with spi := { d.spi with valid := true, txid := 0xA51, data := [0xDB, 0x0C] } }
    ((s.dev.miso [0x20000004] 160).drop 1).take 3 = [0x00008002, 0x00000A51, 0xDB0C0000] := by decide +kernel
theorem test_spi_framing :
    let e := devAfter (.spiRequest (([0x11000000, 0x90010600, 0, 0, 0, 0xA51] : List Nat).map (BitVec.ofNat 32)) 200) runSt
    e.spi.discards = 1 ∧ e.spi.flags ≠ 0 ∧ e.spi.busy = false := by decide +kernel

/-- An attempt on an empty slot B fails verification: FAILS 1, next_slot A, and a mirror record is being programmed. -/
theorem test_verify_fails :
    let s := powIn 1 fun p => { p with phase := 2, source := 1, isOpen := true }
    let e := devAfter (.firmwareVerifyComplete true) { s with dev := s.dev.put 0x130202 0 1 }
    e.get 0x130201 0 = 1 ∧ e.get 0x130202 0 = 0 ∧ e.pow.programming = true ∧ e.pow.isOpen = false := by decide +kernel

/-- A pulse on RST_N too short is ignored and counted. -/
theorem test_rst_pulse : (devAfter .rstNPulseIgnored runSt).get 0x901006 0 = 1 ∧ (devAfter .rstNPulseIgnored runSt).power = 2 := by
  decide +kernel

/-- A detection of class E: its sticky bit, and the first error. -/
theorem test_detection :
    let e := devAfter (.faultDetection [⟨225, 3, 0, 0, 0, false⟩] [] []) runSt
    bit e.flt.sticky 225 = true ∧ e.flt.feValid = true ∧ e.flt.feSource = 225 ∧ e.flt.flying = [] := by decide +kernel

/-- A junction at 105.1 C is above both limits. -/
theorem test_junction : ((devAfter (.junctionSensorRead 0 1051) runSt).flt.flying.map (·.src)) = [450, 451] := by decide +kernel

/-- The state after a step that answers a next state. -/
def stepped (s : State) : State :=
  match step s with
  | .next t => t
  | _ => s

/-- The queue's front runs, the rest waits; an empty queue ticks both timekeepers by 4 ns. -/
theorem test_step :
    (let t := stepped { runSt with pending := [.rstNPulseIgnored, .sysclkLoss] }
     t.pending = [.sysclkLoss] ∧ t.dev.get 0x901006 0 = 1) ∧
    (let t := stepped runSt
     t.dev.now = ns 4 ∧ t.dev.tim.b.time = ns 4) := by decide +kernel

/-! ### Words -/

/-- The table gives no row bits: no word spells a command, and the queue stays as it is. -/
theorem test_decode : decodeTableWord 32 0x4C811408 = none ∧ decodeTableWord 0 0 = none ∧ State.reset.withFetchWord 32 7 = State.reset := by
  decide

/-! ### Well-formedness -/

/-- A request that is well formed as a READ. -/
def wfReq : Req := reqFor 1 0x208002 7 1 []

/-- Each check refuses a path out of its range. -/
theorem test_wf_path :
    (Instr.read .spi wfReq).wellFormed = true ∧ (Instr.read (.kmp 4294967295 65535 .observer 16) wfReq).wellFormed = true ∧
    (Instr.read (.kmp 4294967296 1 .observer 16) wfReq).wellFormed = false ∧
    (Instr.read (.kmp 1 65536 .observer 16) wfReq).wellFormed = false ∧
    (Instr.read (.ring 0 254) wfReq).wellFormed = true ∧ (Instr.read (.ring 0 0) wfReq).wellFormed = false ∧
    (Instr.read (.ring 0 255) wfReq).wellFormed = false := by decide

/-- Each check refuses a request with a field out of its range, of another command code, or with a length that is not its data's. -/
theorem test_wf_request :
    (∀ q ∈ [{ wfReq with idx := 65536 }, { wfReq with sub := 256 }, { wfReq with elem := 4294967296 }, { wfReq with len := 65536 },
        { wfReq with offset := 4294967296 }, { wfReq with txn := 4294967296 }, { wfReq with txid := 4294967296 }, { wfReq with boundary := 8 },
        { wfReq with typ := 16 }, { wfReq with cmd := 2 }], q.wellFormed 1 = false) ∧
    (Instr.write .spi (reqFor 2 0x208002 7 1 [1, 2])).wellFormed = true ∧
    (Instr.write .spi { reqFor 2 0x208002 7 1 [1, 2] with len := 3 }).wellFormed = false ∧
    (Instr.describe .spi { wfReq with cmd := 3 }).wellFormed = true ∧ (Instr.open_ .spi wfReq).wellFormed = false ∧
    (Instr.commit .spi wfReq).wellFormed = false ∧ (Instr.abort_ .spi wfReq).wellFormed = false ∧
    (Instr.status .spi wfReq).wellFormed = false := by decide

/-- Each check refuses an operand of another command out of its range. -/
theorem test_wf_operands :
    (Instr.irigFrame ⟨8, true, 0, false, none, 0⟩).wellFormed = false ∧
    (Instr.irigFrame ⟨0, true, 0, false, some ⟨26, 0, 16, false, false, 0⟩, 0⟩).wellFormed = false ∧
    (Instr.faultDetection [⟨512, 0, 0, 0, 0, false⟩] [] []).wellFormed = false ∧
    (Instr.faultDetection [⟨1, 4294967296, 0, 0, 0, false⟩] [] []).wellFormed = false ∧
    (Instr.faultDetection [⟨1, 0, 65536, 0, 0, false⟩] [] []).wellFormed = false ∧
    (Instr.faultDetection [⟨1, 0, 0, 2 ^ 64, 0, false⟩] [] []).wellFormed = false ∧
    (Instr.faultDetection [] [⟨512, 0⟩] []).wellFormed = false ∧ (Instr.faultDetection [] [] [⟨1, 4294967296⟩]).wellFormed = false ∧
    (Instr.startSelfTestComplete 1 [⟨512, 0⟩]).wellFormed = false ∧
    (Instr.scrubRead 0 0 .good (.window 1024 0)).wellFormed = false ∧ (Instr.hbmUncorrectable 0 0 (.window 1024 0)).wellFormed = false ∧
    (Instr.bar2Read 0 0).wellFormed = false ∧ (Instr.bar2Read 0 4097).wellFormed = false ∧ (Instr.bar2Read 0 4096).wellFormed = true ∧
    (Instr.linkTrained 0 16).wellFormed = false ∧ (Instr.linkTrained 5 3).wellFormed = false ∧ (Instr.linkTrained 5 8).wellFormed = true ∧
    (Instr.mainPorRelease [750]).wellFormed = false ∧
    (Instr.slotBlockWrite .spi 1 0 32767 [1]).wellFormed = true ∧ (Instr.slotBlockWrite .spi 1 0 32767 [1, 2]).wellFormed = false := by
  decide

/-- A completion of more than 4,096 bytes and a datagram of more than 65,507 are refused. -/
theorem test_wf_lengths (b : Byte) :
    (Instr.readCompletion 1 (.success (List.replicate 4097 b))).wellFormed = false ∧
    (Instr.kmpRequest 1 1 16 (List.replicate 65508 b)).wellFormed = false := by
  constructor <;> (unfold Instr.wellFormed; simp only [CplStatus.wellFormed, List.length_replicate]; decide)

end Sys2Proof.Machine
end

/-! PROOFS. The two time formats of R70 to R72: a number's bytes field by field, the fields of KTIME96 and of TS64, and the way
back from each format to the time. -/
namespace Sys2Proof.Machine

/-! ### A field's bytes -/

/-- The bytes after the first `m` are those of the number without its low `m` bytes. -/
theorem leBytes_add (m n x : Nat) : leBytes (m + n) x = leBytes m x ++ leBytes n (x / 256 ^ m) := by
  induction m generalizing x with
  | zero => simp [leBytes]
  | succ m ih => rw [Nat.succ_add, leBytes, leBytes, ih, Nat.div_div_eq_div_mul, List.cons_append, pow_succ']

/-- What lies above the low `n` bytes of a number does not show in them. -/
theorem leBytes_mod (n x : Nat) : leBytes n (x % 256 ^ n) = leBytes n x := by
  induction n generalizing x with
  | zero => rfl
  | succ n ih =>
    have hlow : byte (x % 256 ^ (n + 1)) = byte x := by
      apply BitVec.eq_of_toNat_eq
      simp [byte, pow_succ']
    rw [leBytes, leBytes, hlow, pow_succ', Nat.mod_mul_right_div_self, ih]

/-- A field of bits is the quotient by the place value below it, cut to the field's width. -/
theorem bits_eq_div_mod (x lo w : Nat) : bits x lo w = x / 2 ^ lo % 2 ^ w := by
  rw [bits, Nat.shiftRight_eq_div_pow]

/-- A field of `n` whole bytes that starts at byte `m` goes as the number's bytes from there. -/
theorem leBytes_bits (m n x : Nat) : leBytes n (bits x (8 * m) (8 * n)) = leBytes n (x / 256 ^ m) := by
  rw [bits_eq_div_mod, pow_mul, pow_mul]
  exact leBytes_mod n _

/-- Twelve bytes are the fields of 2, 4 and 6 bytes in turn (R70). -/
theorem leBytes_12_fields (k : Nat) :
    leBytes 12 k = leBytes 2 (bits k 0 16) ++ leBytes 4 (bits k 16 32) ++ leBytes 6 (bits k 48 48) := by
  rw [leBytes_add 6 6, leBytes_add 2 4, leBytes_bits 0 2, leBytes_bits 2 4, leBytes_bits 6 6, pow_zero, Nat.div_one]

/-- Eight bytes are the fields of 4 and 4 bytes in turn (R71). -/
theorem leBytes_8_fields (k : Nat) : leBytes 8 k = leBytes 4 (bits k 0 32) ++ leBytes 4 (bits k 32 32) := by
  rw [leBytes_add 4 4, leBytes_bits 0 4, leBytes_bits 4 4, pow_zero, Nat.div_one]

/-! ### The fields of a value -/

/-- A time is its seconds, the nanoseconds of its second and its fraction. -/
theorem sec_add_ns_add_frac (t : Nat) : sec (t / 65536000000000) + ns (t / 65536 % 1000000000) + t % 65536 = t := by
  unfold sec ns
  omega

theorem ktimeOf_lt (t : Nat) : ktimeOf t < 2 ^ 96 := by
  unfold ktimeOf
  omega

@[simp] theorem bits_ktimeOf_seconds (t : Nat) : bits (ktimeOf t) 48 48 = t / 65536000000000 % 2 ^ 48 := by
  rw [bits_eq_div_mod, ktimeOf]
  omega

@[simp] theorem bits_ktimeOf_nanos (t : Nat) : bits (ktimeOf t) 16 32 = t / 65536 % 1000000000 := by
  rw [bits_eq_div_mod, ktimeOf]
  omega

@[simp] theorem bits_ktimeOf_frac (t : Nat) : bits (ktimeOf t) 0 16 = t % 65536 := by
  rw [bits_eq_div_mod, ktimeOf]
  omega

theorem ts64Of_lt (t : Nat) : ts64Of t < 2 ^ 64 := by
  unfold ts64Of
  omega

@[simp] theorem bits_ts64Of_seconds (t : Nat) : bits (ts64Of t) 32 32 = t / 65536000000000 % 2 ^ 32 := by
  rw [bits_eq_div_mod, ts64Of]
  omega

@[simp] theorem bits_ts64Of_nanos (t : Nat) : bits (ts64Of t) 0 32 = t / 65536 % 1000000000 := by
  rw [bits_eq_div_mod, ts64Of]
  omega

/-! ### The way back -/

theorem timeOfKtime_ktimeOf {t : Nat} (h : t / 65536000000000 < 2 ^ 48) : timeOfKtime (ktimeOf t) = t := by
  rw [timeOfKtime, bits_ktimeOf_seconds, bits_ktimeOf_nanos, bits_ktimeOf_frac, Nat.mod_eq_of_lt h, sec_add_ns_add_frac]

/-- The candidate of R72 with the current time's upper seconds bits: the current time's block of 2^32 s, and within it the place that
a time without a fraction has in its own block. -/
theorem ts64_candidate {t : Nat} (now : Nat) (h : t % 65536 = 0) :
    sec (now / 65536000000000 / 4294967296 * 4294967296 + bits (ts64Of t) 32 32) + ns (bits (ts64Of t) 0 32)
      = sec 4294967296 * (now / sec 4294967296) + t % sec 4294967296 := by
  rw [bits_ts64Of_seconds, bits_ts64Of_nanos]
  unfold sec ns
  omega

/-- R72's choice: of the times with one TS64 value, the one in the window of 2^32 s around the current time. The time and the candidate
differ by whole blocks of 2^32 s, and the window is one block long: each branch leaves one block in which the time can lie. -/
theorem timeOfTs64_ts64Of {t now : Nat} (hfrac : t % 65536 = 0) (hlo : now ≤ t + sec (2 ^ 31)) (hhi : t < now + sec (2 ^ 31)) :
    timeOfTs64 now (ts64Of t) = t := by
  simp only [timeOfTs64, ts64_candidate now hfrac]
  split_ifs with hlate hearly
  · have hblock : now / sec 4294967296 = t / sec 4294967296 + 1 := by unfold sec at *; omega
    rw [hblock, Nat.mul_succ, Nat.add_right_comm, Nat.add_sub_cancel, Nat.div_add_mod]
  · have hblock : now / sec 4294967296 + 1 = t / sec 4294967296 := by unfold sec at *; omega
    rw [Nat.add_right_comm, ← Nat.mul_succ, Nat.succ_eq_add_one, hblock, Nat.div_add_mod]
  · have hblock : now / sec 4294967296 = t / sec 4294967296 := by unfold sec at *; omega
    rw [hblock, Nat.div_add_mod]

/-- Settles O9: each field is read off its place in the value, the bytes go field by field, and each way back puts the fields together
again, after the choice of the block of 2^32 s for a TS64 value. -/
theorem timeFormats : Obligations.TimeFormats := by
  intro t
  refine ⟨ktimeOf_lt t, bits_ktimeOf_seconds t, bits_ktimeOf_nanos t, bits_ktimeOf_frac t, ?_, timeOfKtime_ktimeOf,
    ts64Of_lt t, bits_ts64Of_seconds t, bits_ts64Of_nanos t, ?_, fun _ => timeOfTs64_ts64Of⟩
  · rw [leBytes_12_fields, bits_ktimeOf_frac, bits_ktimeOf_nanos, bits_ktimeOf_seconds]
  · rw [leBytes_8_fields, bits_ts64Of_nanos, bits_ts64Of_seconds]

end Sys2Proof.Machine

/-! PROOFS. The cycles of a bank without an anchor period (R146): where each starts, and which one is in force at a time. -/
namespace Sys2Proof.Machine

/-! ### Times with their lower bits dropped -/

/-- With its lower bits dropped, a time is not after `t` when it falls no later than the last 2^-32 ns of `t`'s 2^-16 ns. -/
theorem dropBits_le_iff (x t : Int) : dropBits x ≤ t ↔ x ≤ t * 65536 + 65535 := by
  unfold dropBits
  omega

/-! ### Cycles without an anchor period -/

theorem Cycle.start_of_anchor_eq_zero {c : Cycle} (h : c.anchor = 0) (n : Int) : c.start n = c.base + n * c.len :=
  if_pos (Or.inl h)

/-- The division by which the model finds the cycle in force. -/
theorem Cycle.at_of_anchor_eq_zero {c : Cycle} (h : c.anchor = 0) (hlen : 0 < c.len) (t : Int) :
    c.at_ t = (t * 65536 + 65535 - c.base) / (c.len : Int) := by
  unfold Cycle.at_
  rw [if_neg hlen.ne', if_pos (Or.inl h)]

/-- A cycle is not after the one in force exactly when it has started: what makes the one in force the last that has. -/
theorem Cycle.le_at_iff {c : Cycle} (h : c.anchor = 0) (hlen : 0 < c.len) (t n : Int) : n ≤ c.at_ t ↔ c.startAt n ≤ t := by
  rw [Cycle.at_of_anchor_eq_zero h hlen, Int.le_ediv_iff_mul_le (Int.natCast_pos.mpr hlen), Cycle.startAt, dropBits_le_iff,
    Cycle.start_of_anchor_eq_zero h, le_sub_iff_add_le']

theorem Cycle.at_lt_iff {c : Cycle} (h : c.anchor = 0) (hlen : 0 < c.len) (t n : Int) : c.at_ t < n ↔ t < c.startAt n := by
  rw [← not_le, Cycle.le_at_iff h hlen, not_le]

/-- The start of a bank's cycle, from the fields the bank holds. -/
theorem Bank.cycle_start_of_anchor_eq_zero {b : Bank} (h : b.anchor = 0) (n : Int) :
    b.cycle.start n = (b.base : Int) * 65536 + n * ((b.whole * 2 ^ 32 + b.frac : Nat) : Int) :=
  Cycle.start_of_anchor_eq_zero (c := b.cycle) h n

/-- Settles O8: the cycle in force is `n` when `n` is not after it and `n + 1` is, and each of the two is a comparison with a start. -/
theorem bankCycles : Obligations.BankCycles := by
  refine ⟨fun b n h => Bank.cycle_start_of_anchor_eq_zero h n, fun c t n h hlen => ?_⟩
  rw [← Cycle.le_at_iff h hlen, ← Cycle.at_lt_iff h hlen, Int.lt_add_one_iff, and_comm]
  exact le_antisymm_iff

end Sys2Proof.Machine

/-! PROOFS. What an engine's instruction does once it issues, the bytes of a word of data memory, and the lanes of a vector
register (R273). -/
namespace Sys2Proof.Machine

/-! ### Issue -/

/-- With Ballast power-on reset released a command is its effect on the device. -/
theorem runs_of_exec_eq_run {c : Instr} {s : State} {g : Dev → Dev} {P : Dev → Prop} (hc : exec c s = run s g)
    (hpor : s.por = false) (h : P (g s.dev)) : Runs c s P :=
  ⟨g s.dev, hc.trans (run_on hpor g), h⟩

/-- An instruction that issues does what its body says, at the cycle of its issue. -/
theorem Dev.issue_of_issues {d : Dev} {f op : Nat} {src : Ins → List (Bool × Nat)} {r : Run} {t : Nat}
    (h : d.issues f op src r t) (body : Run → Nat → Dev → Dev) : d.issue f op src body = body r t d := by
  obtain ⟨hstate, hfetch, hpc, hlegal, hop, rfl, hwcet⟩ := h
  simp [Dev.issue, hstate, hfetch, hlegal, hop, Nat.not_le.mpr hpc, Nat.not_lt.mpr hwcet]

/-! ### The bytes of a word of data memory -/

theorem leBytes_getElem? {n k : Nat} (x : Nat) (h : k < n) : (leBytes n x)[k]? = some (byte (x / 256 ^ k)) := by
  induction n generalizing k x with
  | zero => omega
  | succ n ih =>
    cases k with
    | zero => simp [leBytes]
    | succ k => rw [leBytes, List.getElem?_cons_succ, ih _ (by omega), Nat.div_div_eq_div_mul, ← pow_succ']

theorem getWords_one (t : Tab Nat) (a : Nat) : getWords t a 1 = leBytes 4 (tget 0 t (a / 4)) := by
  simp [getWords]

/-! ### Lanes -/

theorem laneOf_eq_div_mod (w v j : Nat) : laneOf w v j = v / 2 ^ (w * j) % 2 ^ w := bits_eq_div_mod v (w * j) w

/-- Lanes put together lie where `laneOf` looks for them. -/
theorem laneOf_ofLanes (w : Nat) (xs : List Nat) (j : Nat) : laneOf w (ofLanes w xs) j = xs.getD j 0 % 2 ^ w := by
  rw [laneOf_eq_div_mod]
  induction xs generalizing j with
  | nil => simp [ofLanes]
  | cons x xs ih =>
    cases j with
    | zero => simp [ofLanes]
    | succ j =>
      have hrest : (x % 2 ^ w + 2 ^ w * ofLanes w xs) / 2 ^ w = ofLanes w xs := by
        rw [Nat.add_mul_div_left _ _ (by positivity), Nat.div_eq_of_lt (Nat.mod_lt _ (by positivity)), Nat.zero_add]
      rw [ofLanes, Nat.mul_succ, Nat.add_comm (w * j), pow_add, ← Nat.div_div_eq_div_mul, hrest, ih, List.getD_cons_succ]

theorem ofLanes_lt (w : Nat) (xs : List Nat) : ofLanes w xs < 2 ^ (w * xs.length) := by
  induction xs with
  | nil => simp [ofLanes]
  | cons x xs ih =>
    calc x % 2 ^ w + 2 ^ w * ofLanes w xs
        < 2 ^ w + 2 ^ w * ofLanes w xs := by gcongr; exact Nat.mod_lt _ (by positivity)
      _ = 2 ^ w * (ofLanes w xs + 1) := by ring
      _ ≤ 2 ^ w * 2 ^ (w * xs.length) := by gcongr; exact ih
      _ = 2 ^ (w * (x :: xs).length) := by rw [← pow_add, List.length_cons, Nat.mul_succ, Nat.add_comm]

@[simp] theorem length_tgetAll {α : Type} (d : α) (t : Tab α) (a n : Nat) : (tgetAll d t a n).length = n := by
  induction n generalizing a with
  | zero => rfl
  | succ n ih => simp [tgetAll, ih]

theorem tgetAll_getD {α : Type} (d : α) (t : Tab α) (a : Nat) {n j : Nat} (h : j < n) :
    (tgetAll d t a n).getD j d = tget d t (a + j) := by
  induction n generalizing a j with
  | zero => omega
  | succ n ih =>
    cases j with
    | zero => rfl
    | succ j => rw [tgetAll, List.getD_cons_succ, ih _ (by omega), Nat.add_right_comm, Nat.add_assoc]

/-- Lane `j` of the 32 bytes from a word-aligned address on is the word `4j` bytes further. -/
theorem laneOf_vecWords (t : Tab Nat) {a j : Nat} (h : j < 8) :
    laneOf 32 (vecWords t a) j = tget 0 t ((a + 4 * j) / 4) % 2 ^ 32 := by
  rw [vecWords, laneOf_ofLanes, tgetAll_getD 0 t _ h, Nat.add_mul_div_left _ _ (by norm_num)]

theorem vecWords_lt (t : Tab Nat) (a : Nat) : vecWords t a < 2 ^ 256 := by
  simpa [vecWords] using ofLanes_lt 32 (tgetAll 0 t (a / 4) 8)

/-! ### Vector registers -/

@[simp] theorem Engine.setV_getV_same (x : Engine) (k v at_ : Nat) : (x.setV k v at_).getV k = v % 2 ^ 256 :=
  tget_tput_same _ _ _ _

theorem Engine.setV_getV_ne (x : Engine) {k m : Nat} (v at_ : Nat) (h : m ≠ k) : (x.setV k v at_).getV m = x.getV m :=
  tget_tput_ne _ _ _ _ h

@[simp] theorem Engine.setV_s (x : Engine) (k v at_ : Nat) : (x.setV k v at_).s = x.s := rfl
@[simp] theorem Engine.setV_pc (x : Engine) (k v at_ : Nat) : (x.setV k v at_).pc = x.pc := rfl

@[simp] theorem Engine.next_getV (x : Engine) (t n : Nat) : (x.next t n).getV = x.getV := rfl
@[simp] theorem Engine.next_s (x : Engine) (t n : Nat) : (x.next t n).s = x.s := rfl
@[simp] theorem Engine.next_pc (x : Engine) (t n : Nat) : (x.next t n).pc = x.pc + 1 := rfl

/-! ### VLD -/

/-- A data access that keeps R276's rules takes place. -/
theorem Dev.access_of_dataOk {l : Loaded} {addr n align : Nat} {write : Bool} (h : dataOk l addr n align write = true) (d : Dev)
    (f : Nat) (k : Dev → Dev) : d.access f l addr n align write k = k d := if_pos h

/-- A read needs no more of its address than its alignment and its place in the data region. -/
theorem dataOk_read_iff (l : Loaded) (addr n align : Nat) :
    dataOk l addr n align false = true ↔ addr % align = 0 ∧ addr + n ≤ ikRegion l.image := by
  simp [dataOk]

theorem exec_vld (f : Fin 128) (s : State) : exec (.vld f) s = run s (vldOp f.val) := rfl

/-- What a vector load within R276's rules does to the device. -/
theorem vldOp_of_issues {d : Dev} {f : Nat} {r : Run} {t : Nat} (h : d.issues f 0x2A (fun i => [(false, i.a)]) r t)
    (halign : r.addr % 32 = 0) (hregion : r.addr + 32 ≤ ikRegion r.l.image) :
    vldOp f d = d.setEngine f ((r.x.setV r.i.d (vecWords r.l.data r.addr) (t + 2)).next t 1) := by
  rw [vldOp, Dev.issue_of_issues h, Dev.access_of_dataOk ((dataOk_read_iff _ _ _ _).mpr ⟨halign, hregion⟩)]

/-- Settles O10: a lane is a quotient cut to the lane's width, a word's bytes are its quotients by the powers of 256, and a vector
load writes the lanes put together from the words, which are found again lane by lane. -/
theorem vectorLanes : Obligations.VectorLanes := by
  refine ⟨fun v j => ⟨laneOf_eq_div_mod 32 v j, laneOf_eq_div_mod 16 v j⟩, fun t a k hk => ?_, fun s f r t hpor hissues => ?_⟩
  · rw [getWords_one, leBytes_getElem? _ hk, byte]
  · intro a halign hregion
    refine runs_of_exec_eq_run (exec_vld f s) hpor ?_
    rw [vldOp_of_issues hissues halign hregion, setEngine_engine_same]
    refine ⟨fun j hj => ?_, fun k hk => ?_, ?_, ?_,
      (fr_setEngine _ _ _ (List.mem_singleton_self _)).mpr (changesOnly_refl _ _)⟩
    · rw [Engine.next_getV, Engine.setV_getV_same, Nat.mod_eq_of_lt (vecWords_lt _ _)]
      exact laneOf_vecWords _ hj
    · rw [Engine.next_getV, Engine.setV_getV_ne _ _ _ hk]
    · rw [Engine.next_s, Engine.setV_s]
    · rw [Engine.next_pc, Engine.setV_pc]

end Sys2Proof.Machine

/-! PROOFS. END (R289, R292) as five effects in turn, each with what it does to the counters of deadline misses, to the detections
under way and to the region's updates; and the deadline of an activation. -/
namespace Sys2Proof.Machine

/-! ### Counters -/

@[simp] theorem add_get_same (d : Dev) (o e n : Nat) : (d.add o e n).get o e = (d.get o e + n) % 2 ^ objBits o :=
  put_get_same _ _ _ _

@[simp] theorem inc_get_same (d : Dev) (o e : Nat) : (d.inc o e).get o e = (d.get o e + 1) % 2 ^ objBits o :=
  add_get_same _ _ _ _

theorem add_get_obj (d : Dev) {o e o' e' : Nat} (n : Nat) (he : e < 4294967296) (he' : e' < 4294967296) (h : o' ≠ o) :
    (d.add o e n).get o' e' = d.get o' e' := put_get_obj d _ he he' h

theorem inc_get_obj (d : Dev) {o e o' e' : Nat} (he : e < 4294967296) (he' : e' < 4294967296) (h : o' ≠ o) :
    (d.inc o e).get o' e' = d.get o' e' := add_get_obj d 1 he he' h

/-! ### The five effects of END -/

/-- The cycle at which END takes effect: that of its issue, or where no move is outstanding the one of the last completion, if later
(R289, and the model's choice of log 51). -/
def Run.endCycle (r : Run) (t : Nat) : Nat := if r.x.moves = [] then max t r.x.moved else t

/-- The outstanding moves complete, and device time reaches the instant of END. -/
def Dev.endReached (d : Dev) (f : Nat) (r : Run) (t : Nat) : Dev :=
  (r.x.moves.foldl (fun d m => d.doMove f m) d).at_ (r.x.start + ns (r.endCycle t))

/-- The activation is counted, with its cycles, and so are its floating-point flags (R274). -/
def Dev.endCounted (d : Dev) (flags l cycles : Nat) : Dev :=
  let d := (d.inc 0x500004 l).add 0x500009 l cycles
  if flags ≠ 0 then (d.inc 0x50000A l).raise 219 l 0 0 else d

/-- The deadline is compared with the present time (R289). -/
def Dev.endJudged (d : Dev) (a : Act) : Dev :=
  if a.deadline < d.now then
    ((d.inc 0x500006 (a.slot / 16)).inc 0x53000B a.binding).raise 218 (a.slot / 16) 0 0
  else d

/-- The engine is free again. -/
def Dev.endFreed (d : Dev) (f : Nat) (x : Engine) (l : Nat) : Dev :=
  (d.setEngine f { x with act := none, upd := [], moves := [], done := x.done + 1 }).put 0x500001 l 0

/-- The records go to the region as one unit, but those of a WARMUP activation (R292). -/
def Dev.endHandedOver (d : Dev) (g : Nat) (a : Act) (upd : List (List Byte)) : Dev :=
  if bit a.flags 1 then d
  else
    let d := d.setBind a.binding { d.bind_ a.binding with committed := some a.time }
    if upd.isEmpty then d
    else d.setRegion g { d.region g with units := (d.region g).units ++ [⟨2 ^ 30 + a.slot, upd⟩] }

theorem Run.endCycle_eq (r : Run) (t : Nat) :
    (if r.x.moves.isEmpty && r.x.moved > t then r.x.moved else t) = r.endCycle t := by
  unfold Run.endCycle
  cases r.x.moves with
  | nil => simp only [List.isEmpty_nil, Bool.true_and, decide_eq_true_eq, ↓reduceIte]; split_ifs <;> omega
  | cons m ms => simp

/-- An END that issues is its five effects in turn. -/
theorem endOp_of_issues {d : Dev} {f : Nat} {r : Run} {a : Act} {t : Nat} (h : d.issues f 0x3B (fun _ => []) r t)
    (hact : r.x.act = some a) :
    endOp f d = ((((d.endReached f r t).endCounted r.x.flags (a.slot / 16) (r.endCycle t + 1)).endJudged a).endFreed f r.x
      (a.slot / 16)).endHandedOver (f / 32) a r.x.upd := by
  rw [endOp, Dev.issue_of_issues h]
  simp only [hact, Run.endCycle_eq]
  rfl

/-! ### Reaching END -/

/-- Moves are the engines' own affair. -/
theorem changesOnly_foldl_doMove (d : Dev) (f : Nat) (ms : List Move) :
    d.changesOnly [.eng] (ms.foldl (fun d m => d.doMove f m) d) :=
  (fr_foldl fun x m => fr_doMove x f m (by decide)).mpr (changesOnly_refl _ _)

section
variable (d : Dev) (f : Nat) (r : Run) (t : Nat)

@[simp] theorem endReached_now : (d.endReached f r t).now = (d.at_ (r.x.start + ns (r.endCycle t))).now := by
  have htim := changesOnly_foldl_doMove d f r.x.moves .tim (by decide)
  rw [Dev.endReached, Dev.now, Dev.at_, htim]
  rfl

@[simp] theorem endReached_get (o e : Nat) : (d.endReached f r t).get o e = d.get o e := by
  have hdict := changesOnly_foldl_doMove d f r.x.moves .dict (by decide)
  rw [Dev.endReached, at_get]
  exact congrArg (fun x : Dict => tget (dfltNum o e) x.num (okey o e)) hdict

@[simp] theorem endReached_flying : (d.endReached f r t).flt.flying = d.flt.flying :=
  changesOnly_foldl_doMove d f r.x.moves .flying (by decide)

@[simp] theorem endReached_region : (d.endReached f r t).region = d.region := by
  have htab := changesOnly_foldl_doMove d f r.x.moves .tab (by decide)
  funext g
  exact congrArg (fun x : TableSt => tget region0 x.regions g) htab
end

/-! ### Counting -/

@[simp] theorem endCounted_now (d : Dev) (flags l cycles : Nat) : (d.endCounted flags l cycles).now = d.now := by
  unfold Dev.endCounted
  split <;> rfl

@[simp] theorem endCounted_region (d : Dev) (flags l cycles : Nat) : (d.endCounted flags l cycles).region = d.region := by
  unfold Dev.endCounted
  split <;> rfl

/-- Only the counters of activations, cycles and flags move. -/
theorem endCounted_get (d : Dev) {flags l cycles o e : Nat} (hl : l < 4294967296) (he : e < 4294967296)
    (ho : o ∉ [0x500004, 0x500009, 0x50000A]) : (d.endCounted flags l cycles).get o e = d.get o e := by
  simp only [List.mem_cons, List.not_mem_nil, or_false, not_or] at ho
  obtain ⟨h4, h9, hA⟩ := ho
  unfold Dev.endCounted
  split <;> simp [inc_get_obj, add_get_obj, hl, he, h4, h9, hA]

theorem endCounted_flying (d : Dev) (flags l cycles : Nat) : (d.endCounted flags l cycles).flt.flying =
    d.flt.flying ++ if flags ≠ 0 then [⟨219, l, 0, 0, d.now, false⟩] else [] := by
  unfold Dev.endCounted
  split <;> simp

/-! ### The deadline -/

@[simp] theorem endJudged_region (d : Dev) (a : Act) : (d.endJudged a).region = d.region := by
  unfold Dev.endJudged
  split <;> rfl

theorem endJudged_of_le {d : Dev} {a : Act} (h : d.now ≤ a.deadline) : d.endJudged a = d := if_neg (not_lt.mpr h)

theorem endJudged_of_lt {d : Dev} {a : Act} (h : a.deadline < d.now) : d.endJudged a =
    ((d.inc 0x500006 (a.slot / 16)).inc 0x53000B a.binding).raise 218 (a.slot / 16) 0 0 := if_pos h

theorem endJudged_flying (d : Dev) (a : Act) : (d.endJudged a).flt.flying =
    d.flt.flying ++ if a.deadline < d.now then [⟨218, a.slot / 16, 0, 0, d.now, false⟩] else [] := by
  unfold Dev.endJudged
  split <;> simp

theorem objBits_of_miss_counters : objBits 0x500006 = 64 ∧ objBits 0x53000B = 64 := by decide

/-- Past its deadline an activation is counted for its logical engine. -/
theorem endJudged_get_engine {d : Dev} {a : Act} (h : a.deadline < d.now) (hl : a.slot / 16 < 4294967296)
    (hb : a.binding < 4294967296) :
    (d.endJudged a).get 0x500006 (a.slot / 16) = (d.get 0x500006 (a.slot / 16) + 1) % 2 ^ 64 := by
  rw [endJudged_of_lt h, raise_get, inc_get_obj _ hb hl (by decide), inc_get_same, objBits_of_miss_counters.1]

/-- Past its deadline an activation is counted for its binding. -/
theorem endJudged_get_binding {d : Dev} {a : Act} (h : a.deadline < d.now) (hl : a.slot / 16 < 4294967296)
    (hb : a.binding < 4294967296) : (d.endJudged a).get 0x53000B a.binding = (d.get 0x53000B a.binding + 1) % 2 ^ 64 := by
  rw [endJudged_of_lt h, raise_get, inc_get_same, inc_get_obj _ hl hb (by decide), objBits_of_miss_counters.2]

/-! ### Freeing the engine and handing over -/

@[simp] theorem endFreed_flying (d : Dev) (f : Nat) (x : Engine) (l : Nat) : (d.endFreed f x l).flt.flying = d.flt.flying := rfl

@[simp] theorem endFreed_region (d : Dev) (f : Nat) (x : Engine) (l : Nat) : (d.endFreed f x l).region = d.region := rfl

theorem endFreed_get (d : Dev) (f : Nat) (x : Engine) {l o e : Nat} (hl : l < 4294967296) (he : e < 4294967296)
    (ho : o ≠ 0x500001) : (d.endFreed f x l).get o e = d.get o e := put_get_obj _ _ hl he ho

section
variable (d : Dev) (g : Nat) (a : Act) (upd : List (List Byte))

@[simp] theorem endHandedOver_get : (d.endHandedOver g a upd).get = d.get := by
  unfold Dev.endHandedOver
  split_ifs <;> rfl

@[simp] theorem endHandedOver_flying : (d.endHandedOver g a upd).flt.flying = d.flt.flying := by
  unfold Dev.endHandedOver
  split_ifs <;> rfl
end

theorem endHandedOver_units (d : Dev) (g : Nat) {a : Act} {upd : List (List Byte)} (hwarm : bit a.flags 1 = false)
    (hupd : upd ≠ []) :
    ((d.endHandedOver g a upd).region g).units = (d.region g).units ++ [⟨2 ^ 30 + a.slot, upd⟩] := by
  simp [Dev.endHandedOver, hwarm, hupd]

/-! ### An activation against its deadline -/

section
variable {d : Dev} {f : Nat} {r : Run} {a : Act} {t : Nat}
variable (h : d.issues f 0x3B (fun _ => []) r t) (hact : r.x.act = some a)
include h hact

/-- What follows the comparison with the deadline changes no object but 0x5000:01, the engine's state. -/
theorem endOp_get {o e : Nat} (hslot : a.slot < 2048) (he : e < 4294967296) (ho : o ≠ 0x500001) : (endOp f d).get o e =
    (((d.endReached f r t).endCounted r.x.flags (a.slot / 16) (r.endCycle t + 1)).endJudged a).get o e := by
  rw [endOp_of_issues h hact, endHandedOver_get, endFreed_get _ _ _ (by omega) he ho]

/-- END raises at most the detection of its floating-point flags and that of its miss. -/
theorem endOp_flying : (endOp f d).flt.flying = d.flt.flying ++
    ((if r.x.flags ≠ 0 then [⟨219, a.slot / 16, 0, 0, (d.at_ (r.x.start + ns (r.endCycle t))).now, false⟩] else []) ++
      if a.deadline < (d.at_ (r.x.start + ns (r.endCycle t))).now then
        [⟨218, a.slot / 16, 0, 0, (d.at_ (r.x.start + ns (r.endCycle t))).now, false⟩] else []) := by
  simp [endOp_of_issues h hact, endJudged_flying, endCounted_flying]

/-- In time, END leaves the counters of misses as they are. -/
theorem endOp_get_of_le {o e : Nat} (hslot : a.slot < 2048) (he : e < 4294967296)
    (ho : o ∉ [0x500001, 0x500004, 0x500009, 0x50000A]) (hle : (d.at_ (r.x.start + ns (r.endCycle t))).now ≤ a.deadline) :
    (endOp f d).get o e = d.get o e := by
  obtain ⟨hfree, hcount⟩ := List.ne_and_not_mem_of_not_mem_cons ho
  rw [endOp_get h hact hslot he hfree, endJudged_of_le (by simpa using hle), endCounted_get _ (by omega) he hcount,
    endReached_get]

/-- Late, END counts the miss for the logical engine and for the binding. -/
theorem endOp_get_of_lt (hslot : a.slot < 2048) (hbinding : a.binding < 65536)
    (hlt : a.deadline < (d.at_ (r.x.start + ns (r.endCycle t))).now) :
    (endOp f d).get 0x500006 (a.slot / 16) = (d.get 0x500006 (a.slot / 16) + 1) % 2 ^ 64 ∧
    (endOp f d).get 0x53000B a.binding = (d.get 0x53000B a.binding + 1) % 2 ^ 64 := by
  have hl : a.slot / 16 < 4294967296 := by omega
  have hb : a.binding < 4294967296 := by omega
  constructor
  · rw [endOp_get h hact hslot hl (by decide), endJudged_get_engine (by simpa using hlt) hl hb,
      endCounted_get _ hl hl (by decide), endReached_get]
  · rw [endOp_get h hact hslot hb (by decide), endJudged_get_binding (by simpa using hlt) hl hb,
      endCounted_get _ hl hb (by decide), endReached_get]

/-- In time, END raises no deadline miss. -/
theorem endOp_new_of_le (hle : (d.at_ (r.x.start + ns (r.endCycle t))).now ≤ a.deadline) :
    ∀ x ∈ (endOp f d).flt.flying.drop d.flt.flying.length, x.src ≠ 218 := by
  rw [endOp_flying h hact, List.drop_left, if_neg (not_lt.mpr hle)]
  split_ifs <;> simp

/-- Late, END raises the deadline miss for the logical engine. -/
theorem endOp_new_of_lt (hlt : a.deadline < (d.at_ (r.x.start + ns (r.endCycle t))).now) :
    (⟨218, a.slot / 16, 0, 0, (d.at_ (r.x.start + ns (r.endCycle t))).now, false⟩ : Detection) ∈
      (endOp f d).flt.flying.drop d.flt.flying.length := by
  rw [endOp_flying h hact, List.drop_left, if_pos hlt]
  exact List.mem_append_right _ (List.mem_singleton_self _)

/-- The records of an activation that is no WARMUP one go to the region as one unit, in time or late. -/
theorem endOp_units (hwarm : bit a.flags 1 = false) (hupd : r.x.upd ≠ []) : ((endOp f d).region (f / 32)).units =
    (d.region (f / 32)).units ++ [⟨2 ^ 30 + a.slot, r.x.upd⟩] := by
  simp [endOp_of_issues h hact, endHandedOver_units _ _ hwarm hupd]
end

theorem exec_end (f : Fin 128) (s : State) : exec (.end_ f) s = run s (endOp f.val) := rfl

/-- Settles O11: END compares the instant it reaches with the deadline once, between two effects that touch neither counter of
misses nor source 218, and hands the records over whatever the comparison says. -/
theorem deadlineMisses : Obligations.DeadlineMisses := by
  intro s f r a t hpor hissues hact hslot hbinding
  refine runs_of_exec_eq_run (exec_end f s) hpor ⟨fun hle => ?_, fun hlt => ?_, endOp_units hissues hact⟩
  · exact ⟨endOp_get_of_le hissues hact hslot (by omega) (by decide) hle,
      endOp_get_of_le hissues hact hslot (by omega) (by decide) hle, endOp_new_of_le hissues hact hle⟩
  · obtain ⟨hengine, hbind⟩ := endOp_get_of_lt hissues hact hslot hbinding hlt
    exact ⟨hengine, hbind, endOp_new_of_lt hissues hact hlt, rfl⟩

end Sys2Proof.Machine

/-! PROOFS. The epochs under an anchor (R344, R345): where each starts, with no rounding, and which one holds a time. -/
namespace Sys2Proof.Machine

/-- The start of epoch `n` under an anchor (R344), times the epochs per second: a whole number of units of 2^-16 ns. -/
def Seg.boundary (x : Seg) (n : Int) : Int := ((x.start * x.perSec : Nat) : Int) + (n - x.n) * (x.len : Int)

/-- The comparison with an epoch's start, made from the anchor's start. -/
theorem Seg.boundary_le_iff (x : Seg) (n : Int) (t : Nat) :
    x.boundary n ≤ ((t * x.perSec : Nat) : Int) ↔ (n - x.n) * (x.len : Int) ≤ ((t : Int) - x.start) * x.perSec := by
  rw [Seg.boundary, Nat.cast_mul, Nat.cast_mul, sub_mul (t : Int), le_sub_iff_add_le']

/-! ### The epoch that holds a time -/

section
variable {x : Seg} {n t : Nat} (hlen : 0 < x.len)
include hlen

/-- From the anchor's start on, the whole epochs that have passed are added to its number. -/
theorem Seg.le_epochOf_iff_of_start_le (h : x.start ≤ t) : n ≤ x.epochOf t ↔ x.boundary n ≤ ((t * x.perSec : Nat) : Int) := by
  have hq : (x.epochOf t : Int) = x.n + ((t : Int) - x.start) * x.perSec / (x.len : Int) := by
    rw [Seg.epochOf, if_neg hlen.ne', if_pos h]
    simp [h]
  rw [x.boundary_le_iff, ← Int.ofNat_le, hq, ← sub_le_iff_le_add', Int.le_ediv_iff_mul_le (Int.natCast_pos.mpr hlen)]

/-- Before the anchor, the epochs between, a begun one as a whole, are taken from its number; the difference stops at 0, where the
comparison says nothing. -/
theorem Seg.le_epochOf_iff_of_lt_start (hn : 0 < n) (h : t < x.start) :
    n ≤ x.epochOf t ↔ x.boundary n ≤ ((t * x.perSec : Nat) : Int) := by
  have hback : x.epochOf t = x.n - ((x.start - t) * x.perSec + x.len - 1) / x.len := by
    rw [Seg.epochOf, if_neg hlen.ne', if_neg (Nat.not_le.mpr h)]
  have hceil : n ≤ x.epochOf t ↔ (((x.start - t) * x.perSec + x.len - 1) / x.len : Nat) < (x.n : Int) - n + 1 := by
    rw [hback]
    omega
  have hcast : (((x.start - t) * x.perSec + x.len - 1 : Nat) : Int) = ((x.start : Int) - t) * x.perSec + x.len - 1 := by
    rw [Nat.cast_sub (Nat.add_pos_right _ hlen)]
    simp [h.le]
  rw [x.boundary_le_iff, hceil, Int.natCast_ediv, hcast, Int.ediv_lt_iff_lt_mul (Int.natCast_pos.mpr hlen)]
  constructor <;> intro hle <;> linarith

/-- An epoch above 0 is not after the one that holds a time exactly when it has begun: what makes that one the last that has. -/
theorem Seg.le_epochOf_iff (hn : 0 < n) : n ≤ x.epochOf t ↔ x.boundary n ≤ ((t * x.perSec : Nat) : Int) := by
  rcases Nat.lt_or_ge t x.start with h | h
  · exact Seg.le_epochOf_iff_of_lt_start hlen hn h
  · exact Seg.le_epochOf_iff_of_start_le hlen h

/-- R345: the device finds the epoch between whose boundaries a time lies. -/
theorem Seg.epochOf_eq_of_boundary (hlo : x.boundary n ≤ ((t * x.perSec : Nat) : Int))
    (hhi : ((t * x.perSec : Nat) : Int) < x.boundary ((n + 1 : Nat) : Int)) : x.epochOf t = n := by
  have hbegun : n ≤ x.epochOf t := by
    rcases Nat.eq_zero_or_pos n with rfl | hn
    · exact Nat.zero_le _
    · exact (Seg.le_epochOf_iff hlen hn).mpr hlo
  have hnext : ¬ n + 1 ≤ x.epochOf t := fun h => absurd ((Seg.le_epochOf_iff hlen n.succ_pos).mp h) hhi.not_ge
  omega
end

/-- The epoch of a time rests on the anchors alone. -/
theorem Dev.epochOf_congr {d e : Dev} (h : e.tab.segs = d.tab.segs) (t : Nat) : e.epochOf t = d.epochOf t := by
  rw [Dev.epochOf, Dev.epochOf, h]

/-- Settles O7: under an anchor an epoch is not after the one found exactly when it has begun, so the one found is the epoch that has
begun while the next has not; which anchor governs a time rests on the anchors held and the time alone. -/
theorem epochMembership : Obligations.EpochMembership := by
  refine ⟨fun x t n _ hsecs hlo hhi => ?_, fun d e t => ⟨rfl, fun h => Dev.epochOf_congr h t⟩, fun _ _ => rfl⟩
  have hlen : 0 < x.len := Nat.mul_pos hsecs (by decide)
  exact Seg.epochOf_eq_of_boundary hlen hlo hhi

end Sys2Proof.Machine

/-! PROOFS. The release of a capture event (R380): what the owner of object 0xA021:03 does with a write that reaches it, and how a
direct write that only the owner refuses is answered. -/
namespace Sys2Proof.Machine

/-! ### An answer and the device -/

/-- To hold an answer concerns the access paths alone. -/
theorem replied_changesOnly (d : Dev) (p : Path) (q : Req) (r : Resp) : d.changesOnly [.access] (d.replied p q r) := by
  have hanswer : d.changesOnly [.access] (d.answerNow p q r false) :=
    (fr_answerNow d p q r false (List.mem_singleton_self _)).mpr (changesOnly_refl _ _)
  cases p with
  | hot => exact changesOnly_refl _ _
  | mailbox | kmp | ring | spi =>
    rw [Dev.replied]
    · split
      · exact hanswer
      · exact changesOnly_refl _ _
    · nofun

@[simp] theorem replied_get (d : Dev) (p : Path) (q : Req) (r : Resp) : (d.replied p q r).get = d.get := by
  have hdict : (d.replied p q r).obj.dict = d.obj.dict := replied_changesOnly d p q r .dict (by decide)
  funext o e
  rw [Dev.get, Dev.get, hdict]

@[simp] theorem replied_capture (d : Dev) (p : Path) (q : Req) (r : Resp) : (d.replied p q r).capture = d.capture := by
  have hwave : (d.replied p q r).wave = d.wave := replied_changesOnly d p q r .wave (by decide)
  funext e
  rw [Dev.capture, Dev.capture, hwave]

theorem runs_of_gives {c : Instr} {s : State} {e : Dev} {P : Dev → Prop} (h : Gives c s e) (hP : P e) : Runs c s P := ⟨e, h, hP⟩

/-! ### A direct write that the object's owner refuses -/

/-- Where no other check fails the code is the last check's (R69). -/
theorem leastCode_concat {l : List Nat} (h : ∀ c ∈ l, c = 0) (c : Nat) : leastCode (l ++ [c]) = c := by
  have hl := leastCode_zero h
  rw [leastCode] at hl ⊢
  rw [List.foldl_append, hl]
  by_cases hc : c = 0 <;> simp [hc]

/-- The arbiter's request from a path is the row's, but for the ID, which a hot register leaves out. -/
theorem asked_reqFor (d : Dev) (p : Path) {cmd o e txid : Nat} {data : List Byte} (hcmd : cmd < 16) (ho : o < 16777216)
    (he : e < 4294967296) (hid : txid < 4294967296) (hdata : data.length ≤ 3840) :
    ∃ t, d.asked p (reqFor cmd o e txid data) = reqFor cmd o e t data := by
  by_cases hp : p = .hot
  · exact ⟨0, by rw [hp]; rfl⟩
  · have hfits : (reqFor cmd o e txid data).fits := reqFor_fits (off := 0) ho he hid hcmd hdata (by norm_num)
    exact ⟨txid, asked_fits hfits rfl hp⟩

/-- What a direct write that is let through is still checked for: its value. -/
theorem writeCodes_of_lets {d : Dev} {p : Path} {q : Req} {o : Nat} {x : Obj} (ho : q.idx * 256 + q.sub = o)
    (ha : x.access = .wo ∨ x.access = .rw) (htxn : q.txn = 0) (hl : d.lets p o q.elem x.role) :
    d.writeCodes x (d.pathRole p) q = [0, 0, 0, 0] ++ d.valueCodes x q := by
  obtain ⟨hrole, -, hhome⟩ := hl
  have hfixed : ¬ (x.access = .const ∨ x.access = .ro) := by rcases ha with h | h <;> simp [h]
  have hrws : (x.access == .rws) = false := by rcases ha with h | h <;> simp [h]
  simp [Dev.writeCodes, ho, hfixed, hrws, hrole, hhome, htxn]

/-- A number's direct write that only the object's owner refuses is answered with the owner's code and changes nothing. -/
theorem write_refused {d : Dev} {role : Role} {q : Req} {o c : Nat} {x : Obj} (ho : q.idx * 256 + q.sub = o)
    (ha : x.access = .wo ∨ x.access = .rw) (hb : x.ty.isBytes = false) (hlook : d.lookup o q.elem role = (some x, [0, 0]))
    (hcodes : ∀ k ∈ d.writeCodes x role q, k = 0) (hown : d.directCode o q.elem q.data = c) (hc : c ≠ 0) :
    d.write role q = (code_ c, d) := by
  have hleast : leastCode ([0, 0] ++ d.writeCodes x role q ++ [c]) = c := leastCode_concat (by simpa using hcodes) c
  simp only [Dev.write, ho, hlook, hb, Bool.false_eq_true, if_false, if_pos ha.symm, hown, hleast, if_pos hc]

/-! ### The release of a capture event -/

theorem captureRelease_of_exporting {d : Dev} {e : Nat} (h : d.capState e = 3) : d.captureRelease e = (0x0502, d) := if_pos h

theorem captureRelease_of_not_exporting {d : Dev} {e : Nat} (h : d.capState e ≠ 3) :
    d.captureRelease e = (0, ((d.setCapture e capture0).put 0xA02104 e 0).showCapture e) := if_neg h

/-- To show an event touches the objects of its header and of the events held alone: every event and its state stand. -/
@[simp] theorem showCapture_capture (d : Dev) (e : Nat) : (d.showCapture e).capture = d.capture := rfl

theorem showCapture_capState (d : Dev) (e : Nat) {k : Nat} (hk : k < 4294967296) : (d.showCapture e).capState k = d.capState k :=
  put_get_obj _ _ (by decide) hk (by decide)

theorem captureRelease_capture {d : Dev} {e : Nat} (h : d.capState e ≠ 3) : (d.captureRelease e).2.capture e = capture0 := by
  rw [captureRelease_of_not_exporting h, showCapture_capture, put_capture, setCapture_capture_same]

theorem captureRelease_capState {d : Dev} {e : Nat} (he : e < 4294967296) (h : d.capState e ≠ 3) :
    (d.captureRelease e).2.capState e = 0 := by
  rw [captureRelease_of_not_exporting h, showCapture_capState _ _ he, Dev.capState, put_get_same]

/-! ### CAPTURE_RELEASE -/

/-- The object of an event's release. -/
def captureReleaseObj : Obj := num 0xA02103 .u8 .wo .operator 0 (.oneOf [1])

/-- The write of 1 that releases event `e`. -/
abbrev releaseReq (e txid : Nat) : Req := reqFor 2 0xA02103 e txid (leBytes 1 1)

theorem objOf_captureRelease : objOf 0xA02103 = some captureReleaseObj := rfl

theorem exec_captureRelease (p : Path) (txid : Word) (e : Fin 64) (s : State) :
    exec (.captureRelease p txid e) s = run s (writeCommand 0xA02103 e.val 1 1 p txid.toNat) := rfl

/-- The object takes the value 1. -/
theorem captureReleaseObj_takes_one (d : Dev) (e txid : Nat) :
    ∀ c ∈ d.valueCodes captureReleaseObj (releaseReq e txid), c = 0 :=
  values_oneOf (by decide) rfl rfl

/-- A release that is let through while the event is exporting changes nothing. -/
theorem captureRelease_perform_of_exporting {d : Dev} {p : Path} {e t : Nat} (he : e < 64) (hl : d.lets p 0xA02103 e .operator)
    (h : d.capState e = 3) : d.perform p (releaseReq e t) = (code_ 0x0502, d) := by
  have ⟨_, hanswers, _⟩ := hl
  have hlook : d.lookup 0xA02103 e (d.pathRole p) = (some captureReleaseObj, [0, 0]) :=
    look_cat objOf_captureRelease (by decide) (by decide) (by decide) he hanswers
  have hcodes : ∀ k ∈ d.writeCodes captureReleaseObj (d.pathRole p) (releaseReq e t), k = 0 := by
    rw [writeCodes_of_lets (reqFor_o 2 e t _) (Or.inl rfl) rfl hl]
    simpa using captureReleaseObj_takes_one d e t
  have hown : d.directCode 0xA02103 e (leBytes 1 1) = 0x0502 := by rw [code_A02103, captureRelease_of_exporting h]
  have hwrite := write_refused (reqFor_o 2 e t _) (Or.inl rfl) rfl hlook hcodes hown (by decide)
  simpa [Dev.perform, reqFor] using hwrite

section
variable {s : State} {p : Path} {txid : Word} {e : Fin 64}

/-- A release that its path takes has its owner's effect, unless the event is exporting. -/
theorem captureRelease_gives (hL : Lets s p (releaseReq e txid.toNat) .operator)
    (h : (s.dev.arrive p (releaseReq e txid.toNat)).capState e ≠ 3) :
    GivesOn (.captureRelease p txid e) s p (releaseReq e txid.toNat) fun d => (d.captureRelease e).2 := by
  refine row_num (x := captureReleaseObj) (exec_captureRelease p txid e s) hL objOf_captureRelease (by decide) e.isLt (by omega)
    (by decide) txid.isLt (by decide) (Or.inl rfl) (captureReleaseObj_takes_one _ _ _) ?_ ?_
  · rw [code_A02103, captureRelease_of_not_exporting h]
  · exact (writeDirect_num rfl rfl).trans (effect_A02103 _ _ _ _ _)

/-- A release that its path takes is refused while the event is exporting. -/
theorem captureRelease_answers (hL : Lets s p (releaseReq e txid.toNat) .operator)
    (h : (s.dev.arrive p (releaseReq e txid.toNat)).capState e = 3) :
    Answers (.captureRelease p txid e) s p (releaseReq e txid.toNat) ⟨0x0502, [], 0⟩ id := by
  obtain ⟨hpor, htakes, hlets⟩ := hL
  rw [reqFor_o] at hlets
  obtain ⟨t, hasked⟩ := asked_reqFor s.dev p (cmd := 2) (o := 0xA02103) (data := leBytes 1 1) (by decide) (by decide)
    (by omega : e.val < 4294967296) txid.isLt (by decide)
  refine answers_run (cmd := 2) (exec_captureRelease p txid e s) ⟨hpor, htakes⟩ ?_
  rw [hasked]
  exact captureRelease_perform_of_exporting e.isLt hlets h
end

/-- Settles O12: the write reaches the object's owner, whose release empties the event or, while it is exporting, refuses. -/
theorem captureReleases : Obligations.CaptureReleases := by
  intro s p txid e q hL
  refine ⟨fun h => runs_of_gives (captureRelease_gives hL h) ?_, captureRelease_answers hL⟩
  rw [Dev.capState, replied_get, replied_capture]
  exact ⟨captureRelease_capState (by omega) h, captureRelease_capture h⟩

end Sys2Proof.Machine

/-! PROOFS. What a command can do to the machine as a whole, one step, the state OFF, and the reset state. -/
namespace Sys2Proof.Machine

/-! ### The ways a command runs -/

/-- How a command runs: on the device, which nothing reaches while Ballast power-on reset is asserted; on the level of a pin, which the
state OFF holds; or on Ballast power-on reset itself. -/
inductive Way : (State → Host.Outcome State Fault Refusal) → Prop
  | effect (f : Dev → Dev) : Way fun s => run s f
  | pin (level f : Dev → Dev) (h : ∀ d, (level d).off = level d.off) : Way fun s => runPin s level f
  | release (f : Dev → Dev) : Way fun s => powerOn s f
  | assert : Way powerOff

/-- Every command runs in one of these ways: all but six are an effect on the device. -/
theorem exec_way (c : Instr) : Way (exec c) := by
  cases c
  case perstNAssert => exact .pin (Dev.perstLevel true) perstAssert fun _ => rfl
  case perstNRelease => exact .pin (Dev.perstLevel false) perstRelease fun _ => rfl
  case wakeN low => exact .pin (Dev.wakeLevel low) (wakePin low) fun _ => rfl
  case testEnChange high => exact .pin (Dev.testLevel high) (testEnChange high) fun _ => rfl
  case ballastPorRelease sel a b => exact .release (ballastPorRelease sel.val a b)
  case ballastPorAssert => exact .assert
  case flitCrcError l k => exact .effect fun d => d.checked_ 9 (2 * l.val + k.val) (flitCrcError l.val k.val)
  case orrerySramError p => exact .effect fun d => d.checked_ 13 p.val (orrerySramError p.val)
  all_goals exact .effect _

/-! ### The state OFF -/

/-- OFF keeps what it keeps: entered again it is the same. -/
theorem off_off (d : Dev) : d.off.off = d.off := rfl

theorem inv_of_por {s : State} (h : s.por = false) : s.Inv := fun h' => absurd (h.symm.trans h') (by decide)

theorem run_inv {s : State} (f : Dev → Dev) (h : s.Inv) : ∃ t, run s f = .next t ∧ t.Inv := by
  cases hp : s.por with
  | true => exact ⟨s, run_off hp f, h⟩
  | false => exact ⟨_, run_on hp f, inv_of_por hp⟩

theorem runPin_inv {s : State} {level : Dev → Dev} (f : Dev → Dev) (hl : ∀ d, (level d).off = level d.off) (h : s.Inv) :
    ∃ t, runPin s level f = .next t ∧ t.Inv := by
  refine ⟨_, rfl, fun (hp : s.por = true) => ?_⟩
  rw [if_pos hp, hl, ← h hp]

theorem powerOn_inv {s : State} (f : Dev → Dev) (h : s.Inv) : ∃ t, powerOn s f = .next t ∧ t.Inv := by
  cases hp : s.por with
  | true => exact ⟨_, by rw [powerOn, if_pos hp], inv_of_por rfl⟩
  | false => exact ⟨s, by rw [powerOn, hp]; rfl, h⟩

/-- Whatever the way a command runs in, it leads to a next state and keeps the invariant. -/
theorem Way.inv {x : State → Host.Outcome State Fault Refusal} (hx : Way x) {s : State} (h : s.Inv) :
    ∃ t, x s = .next t ∧ t.Inv := by
  cases hx with
  | effect f => exact run_inv f h
  | pin level f hl => exact runPin_inv f hl h
  | release f => exact powerOn_inv f h
  | assert => exact ⟨_, rfl, fun _ => (off_off s.dev).symm⟩

/-! ### One step -/

theorem step_cons (c : Instr) (rest : List Instr) (s : State) :
    step { s with pending := c :: rest } = exec c { s with pending := rest } := rfl

theorem step_nil {s : State} (h : s.pending = []) : step s = run s tick := by rw [step, h]

/-- Settles O3: a step is a tick or a command, and each of the ways a command runs keeps the invariant. -/
theorem everyStepKeepsTheInvariant : Obligations.EveryStepKeepsTheInvariant := by
  intro s h
  cases hq : s.pending with
  | nil => rw [step_nil hq]; exact run_inv tick h
  | cons c rest =>
    obtain ⟨pending, por, dev⟩ := s
    cases hq
    exact (exec_way c).inv (s := ⟨rest, por, dev⟩) h

/-- Settles O1: the step's own two cases, and the tick's increments written out. -/
theorem stepRunsTheFront : Obligations.StepRunsTheFront :=
  ⟨step_cons, fun _ hq hp => (step_nil hq).trans (run_off hp tick), fun _ hq hp => (step_nil hq).trans (run_on hp tick)⟩

/-- Settles O2: the state after reset is written down part by part, and its dictionary lists nothing. -/
theorem resetState : Obligations.ResetState :=
  ⟨fun _ => rfl, rfl, rfl, rfl, rfl, rfl, rfl, rfl, rfl, rfl, rfl, fun _ _ => ⟨rfl, rfl⟩⟩

end Sys2Proof.Machine

/-! PROOFS. Frames: what a command that is no access to an object leaves alone, from the law of its operation. -/
namespace Sys2Proof.Machine

/-- A command's frame: the queue and Ballast power-on reset, and every part of the device but those listed. -/
def KeepsBut (c : Instr) (l : List Part) : Prop :=
  ∀ s t : State, exec c s = .next t → t.pending = s.pending ∧ t.por = s.por ∧ s.dev.changesOnly l t.dev

/-- The frame of a command is that of its effect on the device. -/
theorem keepsBut_of_run {c : Instr} {l : List Part} {f : Dev → Dev} (hc : ∀ s, exec c s = run s f)
    (hf : ∀ d : Dev, d.changesOnly l (f d)) : KeepsBut c l := by
  intro s t ht
  rw [hc] at ht
  cases hp : s.por with
  | true =>
    rw [run_off hp] at ht
    cases ht
    exact ⟨rfl, hp, changesOnly_refl _ _⟩
  | false =>
    rw [run_on hp] at ht
    cases ht
    exact ⟨rfl, hp, hf s.dev⟩

/-- The frame of a pin's change is that of its level and of its effect on the device. -/
theorem keepsBut_of_runPin {c : Instr} {l : List Part} {level f : Dev → Dev} (hc : ∀ s, exec c s = runPin s level f)
    (hl : ∀ d : Dev, d.changesOnly l (level d)) (hf : ∀ d : Dev, d.changesOnly l (f d)) : KeepsBut c l := by
  intro s t ht
  rw [hc] at ht
  cases ht
  refine ⟨rfl, rfl, ?_⟩
  split
  · exact hl s.dev
  · exact hf s.dev

/-! ### Chapters 01 to 06 -/

theorem touchesTime_keepsBut {c : Instr} {l : List Part} (h : touchesTime c = some l) : KeepsBut c l := by
  cases c <;> cases h
  case flitCrcError l k =>
    exact keepsBut_of_run (f := fun d => d.checked_ 9 (2 * l.val + k.val) (flitCrcError l.val k.val)) (fun _ => rfl) fun d => by
      simp [fr_checked_, fr_flitCrcError, changesOnly_refl]
  case orrerySramError p =>
    exact keepsBut_of_run (f := fun d => d.checked_ 13 p.val (orrerySramError p.val)) (fun _ => rfl) fun d => by
      simp [fr_checked_, fr_orrerySramError, changesOnly_refl]
  all_goals refine keepsBut_of_run (fun _ => rfl) fun d => ?_
  all_goals simp [changesOnly_refl, fr_alignmentPulse, fr_pulseArrival, fr_replicaPulseMissed, fr_laneFailure,
    fr_commandComplete, fr_replayExpiry, fr_participantReport, fr_allReadySample, fr_transactionApply, fr_transactionTimeout,
    fr_slotRelease, fr_registerRead, fr_oscillatorCheck, fr_oscillatorLost, fr_oscillatorNotFitted, fr_referenceTimeout,
    fr_leaseRenewal, fr_leaseRenewalMissed, fr_leaseExpiry, fr_holderPulseMissing, fr_arbitrationDecision, fr_revertCheck, fr_revert,
    fr_holdoverLimitPassed, fr_leapSecond, fr_ppsEdge, fr_todMessage, fr_irigFrame, fr_trigEdge, fr_ppsOutPulse, fr_irigOutFrame,
    fr_trigOutPulse, fr_cutThroughHeader, fr_ptpMessageReceive, fr_ptpSend, fr_announceTimeout, fr_syncMissed, fr_tcExpire, fr_linkUp,
    fr_linkDown, fr_gateEntryStart, fr_transmissionSelection, fr_transmitComplete, fr_holdRequest, fr_releaseRequest, fr_bankSwitch,
    fr_preemptionVerifyTimer, fr_orreryPoll, fr_prepareLead, fr_onKmp, fr_prepare, fr_syzygyAnswer, fr_syzygyAbort,
    fr_syzygyRetry, fr_confirmDeadline, fr_guardDeadline, fr_recoveryResetTimeout, fr_latentTestPeriod, fr_latentResetPeriod,
    fr_nodeForget, fr_supervisionFrameSend, fr_lifeCheck, fr_restartSilenceEnd, fr_singlePathEnd, fr_todNotCurrent, fr_dieResetComplete,
    fr_entryForget]

/-- Settles O4: each command of chapters 01 to 06 is one operation, and the operation's law lists what it can change. -/
theorem frameOfTimeAndNetworkCommands : Obligations.FrameOfTimeAndNetworkCommands :=
  fun _ _ h => touchesTime_keepsBut h

/-! ### Chapters 07 to 12 -/

theorem touchesSignal_keepsBut {c : Instr} {l : List Part} (h : touchesSignal c = some l) : KeepsBut c l := by
  cases c <;> cases h
  all_goals refine keepsBut_of_run (fun _ => rfl) fun d => ?_
  all_goals simp [changesOnly_refl, fr_ringCycleOriginate, fr_ringSlotPoll, fr_ringSilenceTimeout, fr_coldStartWait, fr_ringModeSwitch,
    fr_ringInsert, fr_ringRemove, fr_relaySettle, fr_windowEntryCommit, fr_ingestCutoff, fr_streamSilent, fr_timerTrigger,
    fr_activationDispatch, fr_nopOp, fr_addOp, fr_subOp, fr_mulOp, fr_andOp, fr_orOp, fr_xorOp, fr_shlOp, fr_shrOp, fr_sraOp, fr_addiOp,
    fr_oriOp, fr_luiOp, fr_faddOp, fr_fsubOp, fr_fmulOp, fr_fmaOp, fr_fdivOp, fr_fsqrtOp, fr_fmaxOp, fr_fminOp, fr_fabsOp, fr_fcmpOp,
    fr_fcvtOp, fr_vselOp, fr_vbcastOp, fr_vextOp, fr_vsumOp, fr_ldOp, fr_stOp, fr_vldOp, fr_vstOp, fr_xferOp, fr_xferComplete,
    fr_xwaitOp, fr_sgetOp, fr_sgetComplete, fr_beqOp, fr_bneOp, fr_bltOp, fr_bgeOp, fr_timeOp, fr_sputOp, fr_kevtOp, fr_endOp,
    fr_updateAccept, fr_watchdog, fr_engineCheck, fr_rehomeComplete, fr_selfTestComplete, fr_imageVerifyComplete, fr_pmuFrameBuild,
    fr_epochStart, fr_epochCloseAll, fr_regionCloseReport, fr_epochPublish, fr_bar2Read, fr_bar2Write, fr_pinLapse, fr_frontRearm,
    fr_captureComplete, fr_snippetComplete, fr_arrivalHandoff, fr_arrivalsSend, fr_arrivalsRepeat, fr_onKmp, fr_arrivals, fr_arrivalsAck,
    fr_query, fr_queryReply, fr_remoteWaitTimeout, fr_singleEndedLocation, fr_ringReceiveSide]

/-- Settles O5: each command of chapters 07 to 12 is one operation, and the operation's law lists what it can change. -/
theorem frameOfSignalCommands : Obligations.FrameOfSignalCommands :=
  fun _ _ h => touchesSignal_keepsBut h

/-! ### Chapters 13 to 17 -/

theorem perstLevel_changesOnly {l : List Part} (h : .host ∈ l) (low : Bool) (d : Dev) : d.changesOnly l (d.perstLevel low) :=
  (fr_rec_host _ h).mpr (changesOnly_refl _ _)

theorem wakeLevel_changesOnly {l : List Part} (h : .pow ∈ l) (low : Bool) (d : Dev) : d.changesOnly l (d.wakeLevel low) :=
  (fr_rec_pow _ h).mpr (changesOnly_refl _ _)

theorem touchesHost_keepsBut {c : Instr} {l : List Part} (h : touchesHost c = some l) : KeepsBut c l := by
  cases c <;> cases h
  case perstNAssert =>
    exact keepsBut_of_runPin (fun _ => rfl) (perstLevel_changesOnly (by decide) true) fun d => by simp [fr_perstAssert, changesOnly_refl]
  case perstNRelease =>
    exact keepsBut_of_runPin (fun _ => rfl) (perstLevel_changesOnly (by decide) false) fun d => by
      simp [fr_perstRelease, changesOnly_refl]
  case wakeN low =>
    exact keepsBut_of_runPin (fun _ => rfl) (wakeLevel_changesOnly (by decide) low) fun d => by simp [fr_wakePin, changesOnly_refl]
  all_goals refine keepsBut_of_run (fun _ => rfl) fun d => ?_
  all_goals simp [changesOnly_refl, fr_scrubRead, fr_hbmUncorrectable, fr_linkTrained, fr_l0sEntry, fr_l1Entry, fr_configCommand,
    fr_unsupportedRequest, fr_readCompletion, fr_completionTimeout, fr_moderationEnd, fr_vectorUnmask, fr_endpointReady, fr_dlDown,
    fr_hotReset, fr_endpointError, fr_testFreezeCommand, fr_contReleaseCommand, fr_tagQuarantineEnd, fr_queueDetachComplete, fr_pollDue,
    fr_pollServe, fr_coalescingTimeout, fr_rxHoldTimeout, fr_faultDetection, fr_softwareWindowEnd, fr_resetComplete, fr_watchWindowEnd,
    fr_railOutOfRange, fr_mainPorRelease, fr_sysclkLoss, fr_vbalALoss, fr_vbalSwitchBack, fr_vbalBLoss, fr_railsAbsentTimeout,
    fr_wakeTimeout, fr_junctionRead, fr_thermalShutdown, fr_rstPulseIgnored, fr_rstRelease, fr_resetHeld, fr_startAttempt,
    fr_firmwareVerifyComplete, fr_hostImageTimeout, fr_startSelfTest, fr_confirmationDeadline, fr_slotVerifyComplete]

/-- Settles O6: each command of chapters 13 to 17 that lists parts is one operation, or a pin's level and its operation, and their
laws list what they can change. -/
theorem frameOfHostAndPowerCommands : Obligations.FrameOfHostAndPowerCommands :=
  fun _ _ h => touchesHost_keepsBut h

end Sys2Proof.Machine

/-! PROOFS. Time replicas, die-to-die links and the end of a die reset. -/
namespace Sys2Proof.Machine

/-- With Ballast power-on reset released a command gives what its effect makes of the device. -/
theorem gives_of_exec_eq_run {c : Instr} {s : State} {f : Dev → Dev} {e : Dev} (hc : exec c s = run s f) (hpor : s.por = false)
    (h : f s.dev = e) : Gives c s e := by
  rw [Gives, hc, run_on hpor, h]

/-! ### Conditions that persist -/

theorem setLive_get_obj (d : Dev) (src unit : Nat) (b : Bool) {o e : Nat} (hs : src < 4294967296) (he : e < 4294967296)
    (h : o ≠ 0x801006) : (d.setLive src unit b).get o e = d.get o e := put_get_obj _ _ hs he h

/-- Another condition stands when one begins or ends. -/
theorem mem_live_setLive (d : Dev) (src unit : Nat) (b : Bool) {x : Nat × Nat} (h : x ≠ (src, unit)) :
    x ∈ (d.setLive src unit b).flt.live ↔ x ∈ d.flt.live := by
  cases b <;> simp [Dev.setLive, Dev.put, Dev.setDict, h]

/-! ### Replicas -/

theorem goodPulse_rep_same (d : Dev) (r : Nat) (x : Replica) : (d.goodPulse r x).rep r =
    { x with good := x.good + 1, sync := x.sync || decide (x.good + 1 ≥ 2), slewing := false } := by
  simp [Dev.goodPulse]

theorem goodPulse_rep_ne (d : Dev) {r k : Nat} (x : Replica) (h : k ≠ r) : (d.goodPulse r x).rep k = d.rep k := by
  simp [Dev.goodPulse, setRep_rep_ne, h]

/-- Tether's own comparison leaves the replicas alone. -/
theorem tetherPulse_rep (d : Dev) (i : Nat) (err : Int) : (d.tetherPulse i err).rep = d.rep := by
  funext k
  simp [Dev.tetherPulse]

theorem pulseArrival_rep (r roundTrip : Nat) (diff tether : Int) (d : Dev) :
    (pulseArrival r roundTrip diff tether d).rep = (replicaPulse r roundTrip diff d).rep := by
  unfold pulseArrival
  split_ifs <;> simp [tetherPulse_rep]

/-- The error that a pulse shows: the difference less the latency and the calibration (R34). -/
def Dev.pulseError (d : Dev) (r roundTrip : Nat) (diff : Int) : Int :=
  diff - crossing ((roundTrip / 2 :: (d.rep r).lats).take 64) (Config.replicaCalibration r)

/-- A loaded replica, not to step and not measuring again, takes a pulse within 0.5 ns as a good one. -/
theorem replicaPulse_of_near {d : Dev} {r roundTrip : Nat} {diff : Int} (hload : (d.rep r).loaded = true)
    (hmeas : (d.rep r).remeasure ≤ 1) (hstep : (d.rep r).stepNext = false) (hnear : absInt (d.pulseError r roundTrip diff) ≤ 32768) :
    replicaPulse r roundTrip diff d = d.goodPulse r
      { d.rep r with lats := (roundTrip / 2 :: (d.rep r).lats).take 64, missed := 0, remeasure := (d.rep r).remeasure - 1
                     err := d.pulseError r roundTrip diff, trim := - d.pulseError r roundTrip diff } := by
  have hdone : ¬ (d.rep r).remeasure - 1 > 0 := by omega
  have hnear' : absInt (d.pulseError r roundTrip diff) ≤ halfNs := hnear
  rw [Dev.pulseError] at hnear' ⊢
  simp only [replicaPulse, hload, hstep, if_neg hdone, Bool.not_true, Bool.false_eq_true, if_false, if_pos hnear']

/-- A replica that misses a pulse, its third aside, counts it. -/
theorem replicaPulseMissed_of_lt {d : Dev} {r : Nat} (hload : (d.rep r).loaded = true) (h : (d.rep r).missed < 2) :
    replicaPulseMissed r d = d.setRep r { d.rep r with missed := (d.rep r).missed + 1, good := 0 } := by
  have h3 : ¬ ((d.rep r).missed + 1 = 3 ∧ (d.rep r).sync = true) := by omega
  have h3' : ¬ (d.rep r).missed + 1 ≥ 3 := by omega
  simp only [replicaPulseMissed, hload, Bool.not_true, Bool.false_eq_true, if_false, if_neg h3, if_neg h3']

/-- At the third pulse missed a synchronised replica loses its synchronisation. -/
theorem replicaPulseMissed_third {d : Dev} {r : Nat} (hload : (d.rep r).loaded = true) (h : (d.rep r).missed = 2)
    (hsync : (d.rep r).sync = true) :
    replicaPulseMissed r d = d.loseSync r { d.rep r with missed := 3, good := 0 } := by
  simp [replicaPulseMissed, hload, h, hsync]

theorem loseSync_rep_same (d : Dev) (r : Nat) (x : Replica) :
    (d.loseSync r x).rep r = { x with sync := false, stepNext := true, slewing := false, good := 0 } := by
  simp [Dev.loseSync]

theorem loseSync_rep_ne (d : Dev) {r k : Nat} (x : Replica) (h : k ≠ r) : (d.loseSync r x).rep k = d.rep k := by
  simp [Dev.loseSync, setRep_rep_ne, h]

/-- Losing synchronisation raises source 23, whose condition persists. -/
theorem loseSync_raises (d : Dev) (r : Nat) (x : Replica) :
    d.raises [⟨23, r, 0, 0, d.now, false⟩] (d.loseSync r x) ∧ (23, r) ∈ (d.loseSync r x).flt.live :=
  ⟨rfl, setLive_mem _ _ _⟩

theorem loseSync_objectsBut (d : Dev) (r : Nat) (x : Replica) : d.objectsBut [(0x801006, 23)] (d.loseSync r x) :=
  objectsBut_setLive (objectsBut_of_dict (objectsBut_refl d _) rfl) 23 r true (List.mem_singleton_self _) (by decide)

/-- Settles O13: a near pulse is a good one, and Tether's comparison after it leaves the replicas alone; the third pulse missed in a row
loses the synchronisation. -/
theorem replicaPulses : Obligations.ReplicaPulses := by
  intro s r hpor hload
  refine ⟨fun roundTrip diff tether hmeas hstep hnear => ?_, fun hmissed => ?_, fun hmissed hsync => ?_⟩
  · have hpulse := replicaPulse_of_near hload hmeas hstep hnear
    refine runs_of_exec_eq_run (g := pulseArrival r roundTrip diff tether) rfl hpor ?_
    rw [pulseArrival_rep, hpulse, goodPulse_rep_same]
    refine ⟨rfl, rfl, rfl, fun k hk => goodPulse_rep_ne _ _ hk, ?_⟩
    exact (fr_pulseArrival _ _ _ _ _ (by decide) (by decide) (by decide) (by decide)).mpr (changesOnly_refl _ _)
  · exact gives_of_exec_eq_run rfl hpor (replicaPulseMissed_of_lt hload hmissed)
  · refine runs_of_exec_eq_run (g := replicaPulseMissed r) rfl hpor ?_
    rw [replicaPulseMissed_third hload hmissed hsync, loseSync_rep_same]
    obtain ⟨hraise, hlive⟩ := loseSync_raises s.dev r { s.dev.rep r with missed := 3, good := 0 }
    exact ⟨rfl, rfl, fun k hk => loseSync_rep_ne _ _ hk, hraise, hlive,
      (fr_loseSync _ _ _ (by decide) (by decide) (by decide) (by decide)).mpr (changesOnly_refl _ _), loseSync_objectsBut _ _ _⟩

/-! ### Links -/

/-- A checker that no injection slot is armed for makes its check and nothing else. -/
theorem checked_of_unarmed {d : Dev} {c unit : Nat} (h : d.armedSlot c unit 0 = none) (f : Dev → Dev) :
    d.checked_ c unit f = f d := by simp [Dev.checked_, Dev.fire, h]

/-- To measure a replica again leaves the links alone, and the conditions and detections of other sources. -/
theorem remeasure_link (d : Dev) (r : Nat) : (d.remeasure r).link = d.link := by
  funext l
  simp [Dev.remeasure]

theorem mem_live_remeasure (d : Dev) (r : Nat) {x : Nat × Nat} (hx : x.1 ≠ 23) :
    x ∈ (d.remeasure r).flt.live ↔ x ∈ d.flt.live := by
  have hne : x ≠ (23, r) := fun h => hx (by rw [h])
  simp only [Dev.remeasure]
  split
  · rw [mem_live_setLive _ _ _ _ hne]; rfl
  · rfl

theorem mem_flying_remeasure {d : Dev} {x : Detection} (r : Nat) (h : x ∈ d.flt.flying) : x ∈ (d.remeasure r).flt.flying := by
  simp only [Dev.remeasure]
  split
  · exact List.mem_append_left _ h
  · exact h

/-- The replicas that a link carries. -/
def linkReplicas (l : Nat) : List Nat := if l = 0 then [21, 22] else if l = 1 then [23, 24] else []

/-- With no spare lane left the link goes down, with source 386, and its replicas are measured again. -/
theorem laneFailure_of_no_spare {d : Dev} {l : Nat} (k : Nat) (hup : (d.link l).up = true) (hspares : (d.link l).spares = 0) :
    laneFailure l k d = (linkReplicas l).foldl Dev.remeasure
      (((d.setLink l { d.link l with up := false }).raise 386 l 0 0).setLive 386 l true) := by
  simp only [laneFailure, hup, hspares, Bool.not_true, Bool.false_eq_true, if_false, gt_iff_lt, lt_self_iff_false, linkReplicas]
  split_ifs <;> rfl

theorem laneFailure_of_spare {d : Dev} {l : Nat} (k : Nat) (hup : (d.link l).up = true) (hspares : 0 < (d.link l).spares) :
    laneFailure l k d =
      (d.setLink l { d.link l with spares := (d.link l).spares - 1 }).raise 385 (2 * l + k) 0 0 := by
  simp [laneFailure, hup, hspares]

section
variable (rs : List Nat) (d : Dev)

theorem foldl_remeasure_link : (rs.foldl Dev.remeasure d).link = d.link := by
  induction rs generalizing d with
  | nil => rfl
  | cons r rs ih => rw [List.foldl_cons, ih, remeasure_link]

theorem mem_live_foldl_remeasure {x : Nat × Nat} (hx : x.1 ≠ 23) :
    x ∈ (rs.foldl Dev.remeasure d).flt.live ↔ x ∈ d.flt.live := by
  induction rs generalizing d with
  | nil => rfl
  | cons r rs ih => rw [List.foldl_cons, ih, mem_live_remeasure d r hx]

theorem mem_flying_foldl_remeasure {x : Detection} (h : x ∈ d.flt.flying) : x ∈ (rs.foldl Dev.remeasure d).flt.flying := by
  induction rs generalizing d with
  | nil => exact h
  | cons r rs ih => exact ih _ (mem_flying_remeasure r h)
end

/-! ### The end of a die reset -/

theorem regionUp_up_same (d : Dev) (g : Nat) : ((d.regionUp g).region g).up = true := by
  simp only [Dev.regionUp]
  split
  · exact congrArg Region.up (setRegion_region_same d g _)
  · simp

theorem regionUp_up_mono {d : Dev} {g k : Nat} (h : (d.region k).up = true) : ((d.regionUp g).region k).up = true := by
  rcases eq_or_ne k g with rfl | hk
  · exact regionUp_up_same d k
  · have hstands : (d.setRegion g { d.region g with up := true }).region k = d.region k := setRegion_region_ne _ _ hk
    simp only [Dev.regionUp]
    split
    · exact (congrArg Region.up hstands).trans h
    · rw [hstands, h]

/-- The end of a die's reset concerns the record of its reset and the regions. -/
theorem endReset_die_changesOnly {d x : Dev} {l : List Part} (c : Nat) (h : d.changesOnly l x) (hfaults : .faults ∈ l)
    (htab : .tab ∈ l) : d.changesOnly l (x.endReset (.die c)) := by
  simpa only [Dev.endReset, Dev.restoreScope, fr_regionUp, fr_setFlt, hfaults, htab, or_true, true_or] using h

theorem endReset_die_tim (d : Dev) (c : Nat) : (d.endReset (.die c)).tim = d.tim :=
  endReset_die_changesOnly c (changesOnly_refl d [.faults, .tab]) (by decide) (by decide) .tim (by decide)

/-- A die's two regions are up once its reset ends. -/
theorem endReset_die_up (d : Dev) (c : Nat) : ((d.endReset (.die c)).region (2 * c - 2)).up = true ∧
    ((d.endReset (.die c)).region (2 * c - 1)).up = true :=
  ⟨regionUp_up_mono (regionUp_up_same _ _), regionUp_up_same _ _⟩

theorem dieResetComplete_of_find {d : Dev} {c : Nat} {r : ResetRun}
    (h : d.flt.resets.find? (fun r => r.ended.isNone && r.scope == .die c) = some r) :
    dieResetComplete c d = (d.at_ (r.started + ms 5)).endReset (.die c) := by simp [dieResetComplete, h]

/-- Settles O14: what each error does is its operation's own branch; with no spare left the replicas measured again add no more than
their own source. -/
theorem linkErrors : Obligations.LinkErrors := by
  intro s hpor
  refine ⟨fun l k hslot => ?_, fun l k hup hspares => ?_, fun l k hup hspares => ?_, fun c r hfind => ?_⟩
  · exact gives_of_exec_eq_run (f := fun d => d.checked_ 9 (2 * l.val + k.val) (flitCrcError l.val k.val)) rfl hpor
      (checked_of_unarmed hslot _)
  · exact gives_of_exec_eq_run rfl hpor (laneFailure_of_spare k hup hspares)
  · refine runs_of_exec_eq_run (g := laneFailure l k) rfl hpor ⟨?_, ?_, ?_, ?_⟩
    · rw [laneFailure_of_no_spare _ hup hspares, foldl_remeasure_link]
      simp
    · rw [laneFailure_of_no_spare _ hup hspares, mem_live_foldl_remeasure _ _ (by simp)]
      exact setLive_mem _ _ _
    · rw [laneFailure_of_no_spare _ hup hspares]
      exact mem_flying_foldl_remeasure _ _ (List.mem_append_right _ (List.mem_singleton_self _))
    · exact (fr_laneFailure _ _ _ (by decide) (by decide) (by decide) (by decide)).mpr (changesOnly_refl _ _)
  · refine runs_of_exec_eq_run (g := dieResetComplete (c + 1)) rfl hpor ?_
    rw [dieResetComplete_of_find hfind, endReset_die_tim]
    obtain ⟨hlow, hhigh⟩ := endReset_die_up (s.dev.at_ (r.started + ms 5)) (c + 1)
    refine ⟨hlow, hhigh, rfl, endReset_die_changesOnly _ ?_ (by decide) (by decide)⟩
    exact (fr_at_ _ _ (by decide)).mpr (changesOnly_refl _ _)

end Sys2Proof.Machine

/-! PROOFS. Timekeeping: the alignment pulse, the demotion of a timekeeper, and the lease. -/
namespace Sys2Proof.Machine

/-! ### The holder through a step and a slew -/

/-- To move the plans of the trigger outputs past a step leaves the holder. -/
theorem skipPlans_holder (d : Dev) (old : Nat) : (d.skipPlans old).tim.holder = d.tim.holder := by
  unfold Dev.skipPlans
  generalize [0, 1, 2, 3, 4, 5, 6, 7] = l
  induction l generalizing d with
  | nil => rfl
  | cons i l ih =>
    rw [List.foldl_cons, ih]
    simp [apply_ite TimeSt.holder]

theorem applyStep_holder (d : Dev) (k : TkId) : (d.applyStep k).tim.holder = d.tim.holder := by
  unfold Dev.applyStep
  split
  · simp [apply_ite TimeSt.holder, skipPlans_holder]
  · rfl

/-- A pending step and the slew of the handover offset emit nothing. -/
theorem applyStep_out (d : Dev) (k : TkId) : (d.applyStep k).out = d.out :=
  (fr_applyStep (lz := [.dict, .tim, .flying]) d k (by decide) (by decide) (by decide)).mpr (changesOnly_refl d _) .out (by decide)

/-! ### The comparison -/

/-- What a comparison leaves once it has noted the difference: the holder, the last pulse, the pulses missing, and the difference. -/
def TimeSt.leaseView (t : TimeSt) : Option TkId × Nat × Nat × Int := (t.holder, t.lastPulse, t.pulsesMissing, t.diff)

@[simp] theorem updTk_leaseView (d : Dev) (k : TkId) (f : Tk → Tk) : (d.updTk k f).tim.leaseView = d.tim.leaseView := by
  simp [TimeSt.leaseView]

@[simp] theorem planRevert_leaseView (d : Dev) : d.planRevert.tim.leaseView = d.tim.leaseView := rfl

theorem trackOther_leaseView (d : Dev) (k : TkId) : (d.trackOther k).tim.leaseView = d.tim.leaseView := by
  simp only [Dev.trackOther]
  split
  · split
    · simp [apply_ite TimeSt.leaseView]
    · simp
  · split
    · simp [apply_ite TimeSt.leaseView]
    · simp

/-- A comparison notes the difference of the other timekeeper. -/
theorem compare_leaseView (d : Dev) (k : TkId) : (d.compare k).tim.leaseView =
    (d.tim.holder, d.tim.lastPulse, d.tim.pulsesMissing, (d.now : Int) - (d.tim.tk k.other).time) := by
  simp only [Dev.compare, trackOther_leaseView]
  split_ifs <;> rfl

theorem compare_out (d : Dev) (k : TkId) : (d.compare k).out = d.out :=
  (fr_compare (lz := [.dict, .tim, .live]) d k (by decide) (by decide) (by decide)).mpr (changesOnly_refl d _) .out (by decide)

/-! ### The alignment pulse -/

/-- The device as the holder's pulse is due: its pending steps applied, the handover offset slewed. -/
def Dev.atPulse (d : Dev) (k : TkId) : Dev :=
  (((d.at_ (ceilTo (if d.tim.lastPulse = d.now then d.now + 1 else d.now) (us 1))).applyStep k).applyStep k.other).slewHandover

theorem atPulse_holder (d : Dev) (k : TkId) : (d.atPulse k).tim.holder = d.tim.holder := by
  simp [Dev.atPulse, Dev.slewHandover, applyStep_holder]

theorem slewHandover_out (d : Dev) : d.slewHandover.out = d.out := rfl

theorem atPulse_out (d : Dev) (k : TkId) : (d.atPulse k).out = d.out := by
  rw [Dev.atPulse, slewHandover_out, applyStep_out, applyStep_out, at_out]

/-- The pulse is noted, and leaves with the boundary and the time status. -/
def Dev.pulsed (d : Dev) : Dev :=
  let d := d.setTim { d.tim with lastPulse := d.now, pulsesMissing := 0 }
  d.emit (.pulse (ktimeOf d.now) d.tkStatus)

/-- The time status does not show that the pulse has been noted. -/
theorem pulsed_out (d : Dev) : d.pulsed.out = d.out ++ [.pulse (ktimeOf d.now) d.tkStatus] := rfl

theorem alignmentPulse_of_holder {d : Dev} {k : TkId} (h : d.tim.holder = some k) : alignmentPulse d =
    (((d.atPulse k).pulsed.reportHoldover .a).reportHoldover .b).compare k := by
  simp only [alignmentPulse, h, Dev.pulsed, Dev.atPulse]

/-- Settles O15: the pulse leaves from the device as it stands at the boundary, and the reports and the comparison after it leave what
the pulse has noted. -/
theorem alignmentPulse' : Obligations.AlignmentPulse := by
  intro s k hpor hk
  refine runs_of_exec_eq_run (g := alignmentPulse) rfl hpor ?_
  have hview := compare_leaseView (((s.dev.atPulse k).pulsed.reportHoldover .a).reportHoldover .b) k
  rw [← alignmentPulse_of_holder hk] at hview
  have hholder : (s.dev.atPulse k).tim.holder = some k := (atPulse_holder _ _).trans hk
  simp only [TimeSt.leaseView, Prod.mk.injEq] at hview
  obtain ⟨hhold, hlast, hmissing, hdiff⟩ := hview
  refine ⟨?_, hlast, hmissing, hdiff, hhold.trans hholder, ?_⟩
  · rw [alignmentPulse_of_holder hk, compare_out]
    exact (pulsed_out _).trans (congrArg (· ++ _) (atPulse_out s.dev k))
  · exact (fr_alignmentPulse _ (by decide) (by decide) (by decide) (by decide) (by decide)).mpr (changesOnly_refl _ _)

/-! ### Demotion -/

theorem TkId.num_lt (k : TkId) : k.num < 4294967296 := by cases k <;> decide

theorem TkId.num_other_ne (k : TkId) : k.other.num ≠ k.num := by cases k <;> decide

theorem demote_of_demoted {d : Dev} {k : TkId} (h : d.role k = 2) (r : Nat) : d.demote k r = d := if_pos h

/-- The objects that show a demotion. -/
def Dev.shownDemoted (d : Dev) (k : TkId) (r : Nat) : Dev := ((d.put 0x200101 k.num 2).put 0x200106 k.num r).inc 0x200107 k.num

/-- A timekeeper is no longer tracked. -/
def Dev.untracked (d : Dev) (k : TkId) : Dev := d.updTk k fun x => { x with eligSince := none, trackSince := none }

/-- A lease that a timekeeper holds is revoked. -/
def Dev.revoked (d : Dev) (k : TkId) : Dev := if d.tim.holder = some k then d.setTim { d.tim with holder := none } else d

theorem revoked_holder (d : Dev) (k : TkId) :
    (d.revoked k).tim.holder = if d.tim.holder = some k then none else d.tim.holder := by
  unfold Dev.revoked
  split_ifs <;> rfl

theorem revoked_tk (d : Dev) (k : TkId) : (d.revoked k).tim.tk = d.tim.tk := by
  unfold Dev.revoked
  split_ifs <;> rfl

/-- Neither moves the time. -/
theorem revoked_now (d : Dev) (k : TkId) : (d.revoked k).now = d.now := by
  unfold Dev.revoked
  split_ifs <;> rfl

theorem untracked_now (d : Dev) (k : TkId) : (d.untracked k).now = d.now := by
  simp only [Dev.untracked, Dev.now, TimeSt.now, updTk_drive, updTk_hOffset]
  cases k <;> cases d.tim.drive <;> rfl

theorem revoked_changesOnly (d : Dev) (k : TkId) : d.changesOnly [.tim] (d.revoked k) := by
  unfold Dev.revoked
  simp [fr_ite, fr_setTim, changesOnly_refl]

/-- A demotion shows it, ends the timekeeper's tracking, revokes its lease and raises source 16. -/
theorem demote_of_not_demoted {d : Dev} {k : TkId} (h : d.role k ≠ 2) (r : Nat) : d.demote k r =
    ((((d.shownDemoted k r).untracked k).revoked k).raise 16 k.num r 0) := if_neg h

section
variable (d : Dev) (k : TkId) (r : Nat)

theorem shownDemoted_get_role : (d.shownDemoted k r).get 0x200101 k.num = 2 := by
  rw [Dev.shownDemoted, inc_get_obj _ k.num_lt k.num_lt (by decide), put_get_obj _ _ k.num_lt k.num_lt (by decide), put_get_same]

theorem shownDemoted_get_reason : (d.shownDemoted k r).get 0x200106 k.num = r := by
  rw [Dev.shownDemoted, inc_get_obj _ k.num_lt k.num_lt (by decide), put_get_same]

theorem objBits_200107 : objBits 0x200107 = 32 := by decide

theorem shownDemoted_get_count : (d.shownDemoted k r).get 0x200107 k.num = (d.get 0x200107 k.num + 1) % 2 ^ 32 := by
  rw [Dev.shownDemoted, inc_get_same, put_get_obj _ _ k.num_lt k.num_lt (by decide), put_get_obj _ _ k.num_lt k.num_lt (by decide),
    objBits_200107]

theorem shownDemoted_objectsBut :
    d.objectsBut [(0x200101, k.num), (0x200106, k.num), (0x200107, k.num)] (d.shownDemoted k r) := by
  have hrole := objectsBut_put (objectsBut_refl d [(0x200101, k.num), (0x200106, k.num), (0x200107, k.num)]) 0x200101 k.num 2
    (by simp) k.num_lt
  exact objectsBut_put (objectsBut_put hrole 0x200106 k.num r (by simp) k.num_lt) 0x200107 k.num _ (by simp) k.num_lt

theorem shownDemoted_role_other : (d.shownDemoted k r).role k.other = d.role k.other :=
  ((shownDemoted_objectsBut d k r).2.2 0x200101 k.other.num k.other.num_lt (by simp [k.num_other_ne])).1
end

/-- Settles O16: each check demotes or not by its own branch, and a demotion is one write of what shows it and one raise. -/
theorem timekeeperDemotion : Obligations.TimekeeperDemotion := by
  refine ⟨fun s k hpor => ⟨fun ppb hgood => ?_, fun ppb hbad => ?_, ?_, ?_⟩, fun d k r h => demote_of_demoted h r, fun d k r h => ?_⟩
  · exact gives_of_exec_eq_run rfl hpor (if_neg (not_lt.mpr hgood))
  · exact gives_of_exec_eq_run rfl hpor (if_pos hbad)
  · exact gives_of_exec_eq_run rfl hpor rfl
  · exact gives_of_exec_eq_run rfl hpor rfl
  · have hparts := revoked_changesOnly ((d.shownDemoted k r).untracked k) k
    have hdict : ((((d.shownDemoted k r).untracked k).revoked k).raise 16 k.num r 0).obj.dict = (d.shownDemoted k r).obj.dict :=
      hparts .dict (by decide)
    have hget : ((((d.shownDemoted k r).untracked k).revoked k).raise 16 k.num r 0).get = (d.shownDemoted k r).get := by
      funext o e
      rw [Dev.get, Dev.get, hdict]
    simp only [demote_of_not_demoted h, Dev.role, hget]
    refine ⟨shownDemoted_get_role d k r, shownDemoted_get_reason d k r, shownDemoted_get_count d k r, shownDemoted_role_other d k r,
      (revoked_holder _ _).trans (by simp [Dev.untracked, Dev.shownDemoted]), ?_, ?_, ?_, 
      objectsBut_of_dict (shownDemoted_objectsBut d k r) hdict⟩
    · rw [raise_tim, revoked_tk, Dev.untracked, updTk_tk_other]
      rfl
    · have hflying := hparts .flying (by decide)
      rw [Dev.raises, raise_flying, revoked_now, untracked_now]
      exact congrArg (· ++ _) hflying
    · simp [Dev.revoked, Dev.untracked, Dev.shownDemoted, fr_ite, fr_updTk, fr_raise, fr_setTim, fr_inc, fr_put, changesOnly_refl]

/-! ### The lease -/

/-- The other timekeeper, if eligible, takes the lease from the last comparison's difference. -/
theorem passLease_of_eligible {d : Dev} (h : d.eligible d.tim.drive.other = true) :
    d.passLease = d.acquire d.tim.drive.other d.tim.diff := by simp [Dev.passLease, h]

theorem acquire_tim (d : Dev) (k : TkId) (off : Int) : (d.acquire k off).tim.holder = some k ∧ (d.acquire k off).tim.drive = k ∧
    (d.acquire k off).tim.hOffset = off ∧ (d.acquire k off).tim.skip = 3 := by
  simp [Dev.acquire]

theorem acquire_role (d : Dev) (k : TkId) (off : Int) : (d.acquire k off).role k = 0 := by
  have hother : ∀ x : Dev, (x.put 0x200101 k.other.num 1).get 0x200101 k.num = x.get 0x200101 k.num := fun x =>
    put_get_elem _ _ k.other.num_lt k.num_lt k.num_other_ne.symm
  rw [Dev.role, Dev.acquire, setLive_get_obj _ _ _ _ (by decide) k.num_lt (by decide), updTk_get, ite_get, hother, put_get_same,
    ite_self]

theorem acquire_live (d : Dev) (k : TkId) (off : Int) : (21, 0) ∉ (d.acquire k off).flt.live := setLive_not_mem _ _ _

/-- With neither timekeeper eligible the time is lost. -/
theorem passLease_of_none {d : Dev} (ha : d.eligible .a = false) (hb : d.eligible .b = false) :
    d.passLease = (d.raise 21 0 0 0).setLive 21 0 true := by
  have hall : ∀ k, d.eligible k = false := by intro k; cases k <;> assumption
  simp [Dev.passLease, hall]

theorem arbitrationDecision_of_one_near {d : Dev} {elapsed t : Nat} {k : TkId} (harb : d.tim.arb ≠ .idle) (hlast : d.arbRef.last = some t)
    (helapsed : elapsed ≤ sec 2) (hpower : d.power ≠ 3)
    (hfar : ns (d.get 0x200002 0) < absInt (((d.arbRef.estTime + elapsed : Nat) : Int) - d.compared k))
    (hnear : absInt (((d.arbRef.estTime + elapsed : Nat) : Int) - d.compared k.other) ≤ ns (d.get 0x200002 0)) :
    arbitrationDecision elapsed d = ((d.setTim { d.tim with arb := .idle, disagree := 0 }).setLive 18 0 false).demote k 5 := by
  have hstarted : arbitrationDecision elapsed d = d.arbitrate elapsed := by
    cases h : d.tim.arb <;> simp [arbitrationDecision, h] at harb ⊢
  rw [hstarted]
  push_cast at hfar hnear
  cases k
  · simp only [TkId.other] at hnear
    simp [Dev.arbitrate, hlast, not_lt.mpr helapsed, hpower, hfar, hnear]
  · simp only [TkId.other] at hnear
    simp [Dev.arbitrate, hlast, not_lt.mpr helapsed, hpower, hfar, hnear, not_lt.mpr hnear]

/-- Settles O17: each command of the lease takes the branch that its premises name. -/
theorem leaseKeeping : Obligations.LeaseKeeping := by
  intro s k hpor
  refine ⟨fun hk => ?_, fun hk hmissed => ?_, fun hk hrole => ⟨fun hnone => ?_, fun hsome => ?_⟩, fun hk => ?_, fun d h => ?_,
    fun d ha hb => passLease_of_none ha hb, fun elapsed t harb hlast helapsed hpower hfar hnear => ?_,
    fun h hat hb hdiff harb helig => ?_, fun h hat hok => ?_⟩
  · exact gives_of_exec_eq_run rfl hpor (by simp [leaseRenewal, hk])
  · exact gives_of_exec_eq_run rfl hpor (by simp [leaseRenewalMissed, hk, hmissed])
  · exact gives_of_exec_eq_run rfl hpor (by simp [holderPulseMissing, hk, hrole, hnone])
  · exact gives_of_exec_eq_run rfl hpor (by simp [holderPulseMissing, hk, hrole, hsome])
  · exact gives_of_exec_eq_run rfl hpor (by simp [leaseExpiry, hk])
  · rw [passLease_of_eligible h]
    obtain ⟨hholder, hdrive, hoffset, hskip⟩ := acquire_tim d d.tim.drive.other d.tim.diff
    exact ⟨hholder, hdrive, hoffset, acquire_role _ _ _, hskip, acquire_live _ _ _⟩
  · exact gives_of_exec_eq_run rfl hpor (arbitrationDecision_of_one_near harb hlast helapsed hpower hfar hnear)
  · refine gives_of_exec_eq_run (f := revertCheck) rfl hpor ?_
    simp [revertCheck, hat, hb, hdiff, harb, helig]
  · exact gives_of_exec_eq_run rfl hpor (by simp [revert, hat, hok])

end Sys2Proof.Machine

/-! PROOFS. READ, DESCRIBE and WRITE on every path: the arbiter's request keeps the command, and each is answered as the row of the
object says. -/
namespace Sys2Proof.Machine

/-! ### Numbers of the dictionary -/

theorem ite_lt {c : Prop} [Decidable c] {a b n : Nat} (ha : a < n) (hb : b < n) : (if c then a else b) < n := by
  split_ifs
  · exact ha
  · exact hb

theorem elemsOf_lt (i : Nat) : elemsOf i < 4294967296 := by
  unfold elemsOf
  repeat' refine ite_lt (by decide) ?_
  decide

theorem okey_ne_of_lt {o o' e e' : Nat} (he : e < 4294967296) (h : o < o') : okey o e ≠ okey o' e' := by
  unfold okey
  omega

/-! ### The arbiter's request -/

/-- The arbiter's request is for the command that was given. -/
theorem asked_cmd (d : Dev) (p : Path) (q : Req) {cmd : Nat} (h : cmd < 16) : (d.asked p { q with cmd := cmd }).cmd = cmd := by
  cases p
  case mailbox m => exact Nat.mod_eq_of_lt h
  all_goals rfl

/-- An object command that its path takes is answered as the arbiter performs it. -/
theorem answers_of_perform {s : State} {c : Instr} {cmd : Nat} {p : Path} {q : Req} {r : Resp} {f : Dev → Dev}
    (hc : exec c s = run s (objCommand cmd p q)) (hT : Taken s p { q with cmd := cmd })
    (h : (s.dev.arrive p { q with cmd := cmd }).perform p (s.dev.asked p { q with cmd := cmd }) =
      (.answer r, f (s.dev.arrive p { q with cmd := cmd }))) : Answers c s p { q with cmd := cmd } r f :=
  answers_run (cmd := cmd) hc hT h

/-! ### Reads that take what they return -/

theorem objOf_trigQueue : objOf 0x207005 = some (oct 0x207005 .ro .operator 256 0) := rfl

theorem objOf_ringResponse : objOf 0x405002 = some (oct 0x405002 .ro .operator 1024 0) := rfl

theorem takeResponse_of_received {d : Dev} {r src : Nat} {body : List Byte} {rest : List (Nat × List Byte)}
    (h : (d.ring r).received = (src, body) :: rest) :
    d.takeResponse r = (byte src :: body, d.updRing r fun y => { y with received := rest }) := by
  simp [Dev.takeResponse, h]

/-- A description is 48 bytes long. -/
theorem describe_length (d : Dev) (x : Obj) (e : Nat) : (d.describe_ x e).length = 48 := by
  simp [Dev.describe_, length_leBytes, zeros]

/-- Settles O20: the path hands the command to the arbiter, and the object's row of the catalogue says what a read or a description
answers there. -/
theorem objectReads : Obligations.ObjectReads := by
  intro s p q x
  refine ⟨?_, ?_, ?_, ?_, ?_⟩
  · intro r a o hT hx h0 hf h1 h2 hn hnum hb hw hoff he ⟨hrole, hanswers, hhome⟩
    exact answers_of_perform rfl hT (perform_read (asked_cmd _ _ _ (by decide))
      (read_num rfl hx h0 hf h1 h2 hn hnum hb hw hoff he hrole hanswers hhome))
  · intro r a o hT hx hf h1 h2 h7 h8 hnum hb hw hoff hlen he ⟨hrole, hanswers, hhome⟩
    exact answers_of_perform rfl hT (perform_read (asked_cmd _ _ _ (by decide))
      (read_oct rfl hx hf h1 h2 h7 h8 hnum hb hw hoff hlen he hrole hanswers hhome))
  · intro r a o hT hx hf h1 h2 he hanswers
    exact ⟨answers_of_perform rfl hT (perform_describe (asked_cmd _ _ _ (by decide)) (describe_cat rfl hx hf h1 h2 he hanswers)),
      describe_length _ _ _⟩
  · intro txid n r hT ⟨hrole, hanswers, hhome⟩ t
    obtain ⟨ho, he, hoff, hcmd⟩ := asked_row (d := s.dev) (p := p) (cmd := 1) (o := 0x207005) (by decide) (by decide)
      (by omega : n.val < 4294967296) txid.isLt
    refine answers_run (cmd := 1) rfl hT (perform_read hcmd ?_)
    exact read_take ho objOf_trigQueue (by decide) (by decide) (by decide) rfl rfl (by rw [if_pos rfl, he]; rfl) hoff
      (by rw [he]; exact n.isLt) hrole (by rw [he]; exact hanswers) (by rw [he]; exact hhome)
  · intro txid n src body rest r hT ⟨hrole, hanswers, hhome⟩ hrec
    obtain ⟨ho, he, hoff, hcmd⟩ := asked_row (d := s.dev) (p := p) (cmd := 1) (o := 0x405002) (by decide) (by decide)
      (by omega : n.val < 4294967296) txid.isLt
    refine answers_run (cmd := 1) rfl hT (perform_read hcmd ?_)
    exact read_take ho objOf_ringResponse (by decide) (by decide) (by decide) rfl rfl
      (by rw [if_neg (by decide), if_pos rfl, he, takeResponse_of_received hrec]) hoff (by rw [he]; exact n.isLt) hrole
      (by rw [he]; exact hanswers) (by rw [he]; exact hhome)

/-! ### Writes -/

/-- A number of an RW object is set and its owner's effect follows. -/
theorem writeDirect_rw {d : Dev} {x : Obj} {e off : Nat} {seg : List Byte} (ha : x.access = .rw) (hb : x.ty.isBytes = false) :
    d.writeDirect x e off seg = (d.put x.num e (leNat seg)).directEffect x.num e off seg seg := by
  simp [Dev.writeDirect, ha, hb]

/-- The slot of an open transaction is one of the 32. -/
theorem slotOf_lt {d : Dev} {id k : Nat} (h : d.slotOf id = some k) : k < 32 := by
  simpa using List.mem_of_find?_eq_some h

/-- Nothing forbids staging an element that no other transaction holds and that is not busy. -/
theorem stageCodes_of_open {d : Dev} {q : Req} {o k : Nat} (ho : q.idx * 256 + q.sub = o) (htxn : q.txn ≠ 0)
    (hslot : d.slotOf q.txn = some k) (hopen : d.txState k = txOpen) (hroom : (d.slot k).staged.length < 4096)
    (helse : d.stagedElsewhere ⟨o, q.elem⟩ (some k) = false) (hbusy : d.stageBusy ⟨o, q.elem⟩ = 0) (hclass : o ≠ 0x710001) :
    ∀ c ∈ d.stageCodes q, c = 0 := by
  have hlen : ¬ 4096 ≤ (d.slot k).staged.length := Nat.not_le.mpr hroom
  simp [Dev.stageCodes, ho, htxn, hslot, hopen, hlen, helse, hbusy, hclass]

/-- A staged write at the arbiter: nothing forbids it. -/
theorem write_staged {d : Dev} {p : Path} {q : Req} {o k : Nat} {x : Obj} (ho : q.idx * 256 + q.sub = o) (hnum : x.num = o)
    (ha : x.access = .rws) (hb : x.ty.isBytes = false) (htxn : q.txn ≠ 0) (hslot : d.slotOf q.txn = some k)
    (hlook : d.lookup o q.elem (d.pathRole p) = (some x, [0, 0])) (hl : d.lets p o q.elem x.role)
    (hv : ∀ c ∈ d.valueCodes x q, c = 0) (hs : ∀ c ∈ d.stageCodes q, c = 0) :
    d.write (d.pathRole p) q = (code_ 1, (d.putSh o q.elem (leNat q.data)).stage k ⟨o, q.elem⟩) := by
  obtain ⟨hrole, -, hhome⟩ := hl
  have hcodes : d.writeCodes x (d.pathRole p) q = [0, 0, 0, 0] ++ d.valueCodes x q ++ d.stageCodes q := by
    simp [Dev.writeCodes, ho, ha, hrole, hhome]
  have hleast : leastCode ([0, 0] ++ d.writeCodes x (d.pathRole p) q ++ [0]) = 0 := by
    refine leastCode_zero fun c hc => ?_
    simp only [hcodes, List.mem_append, List.mem_cons, List.not_mem_nil, or_false, or_self] at hc
    grind
  simp only [Dev.write, ho, hlook, ha, reduceCtorEq, or_self, if_false, hleast, ne_eq, not_true_eq_false, if_true, htxn, hslot,
    Dev.writeShadow, hb, Bool.false_eq_true, hnum]

@[simp] theorem stageParams_get (d : Dev) (k : Nat) : (d.stageParams k).get = d.get := by
  simp only [Dev.stageParams]
  split <;> rfl

/-- To stage an element shows no more than the count of the slot's elements. -/
theorem stage_get {d : Dev} {k o e : Nat} (x : Key) (hk : k < 4294967296) (he : e < 4294967296) (h : o ≠ 0x120003) :
    (d.stage k x).get o e = d.get o e := by
  have hcount : ∀ (y : Slot) (n : Nat), ((d.setSlot k y).put 0x120003 k n).get o e = d.get o e := fun y n => by
    rw [put_get_obj _ _ hk he h, setSlot_get]
  simp only [Dev.stage, ite_get, stageParams_get, hcount, ite_self]

/-- The count of a slot's elements is no object that is staged. -/
theorem rws_ne_stagedCount {o : Nat} {x : Obj} (hx : objOf o = some x) (ha : x.access = .rws) : o ≠ 0x120003 := by
  rintro rfl
  cases hx
  exact absurd ha (by decide)

/-- A hot register's write is the direct write of its object, through the path of the hot registers. -/
theorem hotWrite_of_objOf {o : Nat} {x : Obj} (hx : objOf o = some x) (e v : Nat) :
    hotWrite o e v = writeCommand o e x.ty.size v .hot 0 := by
  funext d
  simp [hotWrite, hx, writeCommand]

theorem pathRole_hot_below (d : Dev) (r : Role) : (d.pathRole .hot).below r = false := by
  cases r <;> rfl

/-- Settles O21: the arbiter's checks all pass, so a number that is RW is set and takes its owner's effect, and one that is RWS goes to
the shadow copy and is staged; a hot register's write is the former with the object's own length. -/
theorem objectWrites : Obligations.ObjectWrites := by
  intro s p q x k
  refine ⟨?_, ?_, ?_⟩
  · intro r a o d hT hx hf h1 h2 hnum ha hb htxn he hl hv hd
    have hwhole : (if x.ty.isBytes then spliced (d.getB o a.elem) a.offset a.data else a.data) = a.data := if_neg (by simp [hb])
    have hwrite := perform_direct (d := d) (p := p) (q := a) (asked_cmd _ _ _ (by decide)) htxn hf ⟨h1, h2⟩ hx he (.inr ha) hl hv
      (by rw [hwhole]; exact hd)
    rw [writeDirect_rw ha hb, hnum] at hwrite
    exact answers_of_perform (f := fun d => (d.put o a.elem (leNat a.data)).directEffect o a.elem a.offset a.data a.data) rfl hT hwrite
  · intro r a o d hT hx hf h1 h2 hnum ha hb htxn hslot hopen hroom he hl hv helse hbusy hclass
    have hlook : d.lookup o a.elem (d.pathRole p) = (some x, [0, 0]) := look_cat hx hf h1 h2 he hl.2.1
    have hwrite := write_staged rfl hnum ha hb htxn hslot hlook hl hv
      (stageCodes_of_open rfl htxn hslot hopen hroom helse hbusy hclass)
    have hcmd : a.cmd = 2 := asked_cmd _ _ _ (by decide)
    refine ⟨answers_of_perform (f := fun d => (d.putSh o a.elem (leNat a.data)).stage k ⟨o, a.elem⟩) rfl hT ?_, ?_⟩
    · rw [Dev.perform, hcmd]
      exact hwrite
    · rw [stage_get _ (by have := slotOf_lt hslot; omega) (he.trans (elemsOf_lt _)) (rws_ne_stagedCount hx ha), putSh_get]
  · intro o e v hpor hpower hhot hx hnum ha hb hsize h1 h2 hf he hanswers hhome hv hd
    have hreq := reqFor_o (o := o.toNat) 2 e.toNat 0 (leBytes x.ty.size v.toNat)
    have hlets : Lets s .hot (reqFor 2 o.toNat e.toNat 0 (leBytes x.ty.size v.toNat)) x.role :=
      ⟨hpor, ⟨by simp [Dev.reach, hpower], by rw [hreq]; exact hhot⟩, by rw [hreq]; exact ⟨pathRole_hot_below _ _, hanswers, hhome⟩⟩
    have hrow := row_num (c := .hotRegisterWrite o e v) (f := fun d => (d.put o.toNat e.toNat (v.toNat % 256 ^ x.ty.size)).directEffect
      o.toNat e.toNat 0 (leBytes x.ty.size v.toNat) (leBytes x.ty.size v.toNat))
      (congrArg (run s) (hotWrite_of_objOf hx e.toNat v.toNat)) hlets hx hf he e.isLt ⟨h1, h2⟩ (by decide)
      (by rw [length_leBytes]; omega) (.inr ha) hv (by rw [hb]; exact hd) (by rw [writeDirect_rw ha hb, hnum, leNat_leBytes])
    exact hrow

end Sys2Proof.Machine

/-! PROOFS. Registers of BAR 0 and BAR 4, and the commands of a transaction. -/
namespace Sys2Proof.Machine

/-! ### Register accesses -/

section
variable {d : Dev} (hmem : d.memOk = true) {off : Nat}
include hmem

theorem registerWrite_narrow (bar4 : Bool) (v : Nat) (h : off % 4 = 0) : registerWrite bar4 off false v d =
    if bar4 then d.bar4Write off (v % 4294967296) else d.bar0Write off (v % 4294967296) := by
  simp [registerWrite, hmem, h]

/-- A write of 64 bits is two of 32, the lower first. -/
theorem registerWrite_wide (bar4 : Bool) {v : Nat} (hv : v < 2 ^ 64) (h : off % 8 = 0) : registerWrite bar4 off true v d =
    if bar4 then (d.bar4Write off (v % 4294967296)).bar4Write (off + 4) (v / 4294967296)
    else (d.bar0Write off (v % 4294967296)).bar0Write (off + 4) (v / 4294967296) := by
  have hhigh : v / 4294967296 % 4294967296 = v / 4294967296 := Nat.mod_eq_of_lt (by omega)
  cases bar4 <;> simp [registerWrite, hmem, h, hhigh]

/-- A read of an open register has its read effect and then returns its value. -/
theorem registerRead_narrow (h : off % 4 = 0) (hopen : d.barOpen off = true) : registerRead false off false d =
    (d.readEffect off).emit (.regRead off 4 ((d.readEffect off).bar0Reg off)) := by
  simp [registerRead, hmem, h, Dev.bar0Read, hopen]

theorem registerRead_bar4 (h : off % 4 = 0) :
    registerRead true off false d = d.emit (.regRead (0x4000000 + off) 4 (d.bar4Reg off)) := by
  simp [registerRead, hmem, h]

/-- A read of 64 bits is two of 32, the lower first. -/
theorem registerRead_wide (h : off % 8 = 0) (hopen : d.barOpen off = true) (hopen' : (d.readEffect off).barOpen (off + 4) = true) :
    registerRead false off true d = ((d.readEffect off).readEffect (off + 4)).emit (.regRead off 8
      ((d.readEffect off).bar0Reg off + ((d.readEffect off).readEffect (off + 4)).bar0Reg (off + 4) * 4294967296)) := by
  simp [registerRead, hmem, h, Dev.bar0Read, hopen, hopen']
end

/-! ### The registers that latch -/

/-- The four words of the time lie beside each other. -/
theorem bar0Reg_tkTime (d : Dev) (i : Fin 4) : d.bar0Reg (0x200 + 4 * i.val) = d.tim.latch.getD i.val 0 := by
  fin_cases i <;> rfl

theorem readEffect_tkTime_ne (d : Dev) {i : Fin 4} (h : i ≠ 0) : d.readEffect (0x200 + 4 * i.val) = d := by
  fin_cases i
  · exact absurd rfl h
  all_goals rfl

/-- The first word latches all four. -/
theorem readEffect_tkTime_zero (d : Dev) : d.readEffect 0x200 = d.setTim { d.tim with latch := tkTimeWords d.now } := by
  simp [Dev.readEffect]

theorem registerRead_tkTime_zero {d : Dev} (hmem : d.memOk = true) (hopen : d.barOpen 0x200 = true) : registerRead false 0x200 false d =
    (d.setTim { d.tim with latch := tkTimeWords d.now }).emit (.regRead 0x200 4 (bits (ktimeOf d.now) 16 32)) := by
  have hword : (d.setTim { d.tim with latch := tkTimeWords d.now }).bar0Reg 0x200 = (tkTimeWords d.now).getD 0 0 := bar0Reg_tkTime _ 0
  rw [registerRead_narrow hmem rfl hopen, readEffect_tkTime_zero, hword, tkTimeWords, List.getD_cons_zero]

/-- The registers of TK_TIME are open together. -/
theorem barOpen_tkTime (d : Dev) (i : Fin 4) : d.barOpen (0x200 + 4 * i.val) = d.barOpen 0x200 := by
  fin_cases i <;> simp [Dev.barOpen]

theorem barOpen_of_run {d : Dev} (h : d.power = 2) (off : Nat) : d.barOpen off = true := by simp [Dev.barOpen, h]

/-- The first word of a port's timestamp queue. -/
def tsqOffset (p : Fin 16) : Nat := 0x200100 + 0x10000 * p.val

theorem readEffect_tsq (d : Dev) (p : Fin 16) : d.readEffect (tsqOffset p) = d.tsqRead p := by
  fin_cases p <;> rfl

theorem bar0Reg_tsq (d : Dev) (p : Fin 16) : d.bar0Reg (tsqOffset p) = (d.tsq p).latch.getD 0 0 := by
  fin_cases p <;> rfl

theorem tsqRead_of_entry {d : Dev} {p : Nat} {e : TsqEntry} {t : List TsqEntry} (h : (d.tsq p).entries = e :: t) :
    d.tsqRead p = d.setTsq p { d.tsq p with entries := t, latch := tsqWords e, read := (d.tsq p).read + 1 } := by
  simp [Dev.tsqRead, h]

/-- The high half of EPOCH_PUB stands as its low half latched it, whatever is published since. -/
theorem bar0Reg_epochPubHigh (d : Dev) (x : TableSt) : ((d.readEffect 0x300).setTab x).bar0Reg 0x304 = bits d.epochPub 32 32 := by
  have heffect : d.readEffect 0x300 = d.setLatch 0x300 (bits d.epochPub 32 32) := by simp [Dev.readEffect]
  simp [heffect, Dev.bar0Reg, Dev.globalReg, Dev.latched, Dev.setLatch, Dev.setObj]

/-- Settles O25: an aligned access is one or two of 32 bits, and the registers that latch are read through what they latch. -/
theorem registerAccess : Obligations.RegisterAccess := by
  intro s hpor hmem
  refine ⟨fun off v h => ⟨?_, ?_⟩, fun off v h => ⟨?_, ?_⟩, fun off h => ⟨fun hopen => ?_, ?_⟩, fun off h hopen hopen' => ?_,
    fun hopen => ?_, fun i hi hopen => ?_, fun p e t hpower hentries => ?_, fun _ x => bar0Reg_epochPubHigh _ _⟩
  · exact gives_of_exec_eq_run rfl hpor (registerWrite_narrow hmem false v.toNat h)
  · exact gives_of_exec_eq_run rfl hpor (registerWrite_narrow hmem true v.toNat h)
  · exact gives_of_exec_eq_run rfl hpor (registerWrite_wide hmem false v.isLt h)
  · exact gives_of_exec_eq_run rfl hpor (registerWrite_wide hmem true v.isLt h)
  · exact gives_of_exec_eq_run rfl hpor (registerRead_narrow hmem h hopen)
  · exact gives_of_exec_eq_run rfl hpor (registerRead_bar4 hmem h)
  · exact gives_of_exec_eq_run rfl hpor (registerRead_wide hmem h hopen hopen')
  · exact gives_of_exec_eq_run (f := registerRead false 0x200 false) rfl hpor (registerRead_tkTime_zero hmem hopen)
  · have hread := registerRead_narrow hmem (off := 0x200 + 4 * i.val) (by omega) ((barOpen_tkTime s.dev i).trans hopen)
    rw [readEffect_tkTime_ne _ hi, bar0Reg_tkTime] at hread
    exact gives_of_exec_eq_run rfl hpor hread
  · have hread := registerRead_narrow hmem (off := tsqOffset p) (by unfold tsqOffset; omega) (barOpen_of_run hpower _)
    rw [readEffect_tsq, bar0Reg_tsq, tsqRead_of_entry hentries, setTsq_tsq_same] at hread
    exact gives_of_exec_eq_run rfl hpor hread

end Sys2Proof.Machine

/-! PROOFS. The commands of a transaction, and its way from COMMIT to its end. -/
namespace Sys2Proof.Machine

/-! ### A path keeps its command -/

/-- A path that took a command keeps it as long as the mailbox, RUN, KMP's enables and the keys stand. -/
theorem keeps_congr {d e : Dev} {p : Path} (hpower : e.power = 2 ↔ d.power = 2) (hkmp : e.get 0x110002 0 = d.get 0x110002 0)
    (hkmp' : e.get 0x110003 0 = d.get 0x110003 0) (hkeys : e.getB = d.getB) (hboxes : e.obj.boxes = d.obj.boxes) :
    e.keeps p = d.keeps p := by
  have hrun : (e.power == 2) = (d.power == 2) := by simpa [beq_eq_beq] using hpower
  have hkey : e.kmpKey = d.kmpKey := by funext r; simp [Dev.kmpKey, hkeys]
  have hon : e.kmpOn = d.kmpOn := by funext v; simp [Dev.kmpOn, Dev.on, hkmp, hkmp']
  cases p
  case mailbox m => exact congrArg (fun b => (tget mailbox0 b m).busy) hboxes
  all_goals simp [Dev.keeps, Dev.reach, Dev.kmpRoleOn, hrun, hkey, hon]

theorem remember_mbx (d : Dev) (p : Path) (q : Req) : (d.remember p q).mbx = d.mbx := rfl

/-- A path that takes a request keeps it as it arrives. -/
theorem arrive_keeps {d : Dev} {p : Path} {q : Req} (h : d.takes p q) : (d.arrive p q).keeps p = true := by
  obtain ⟨hreach, -⟩ := h
  cases p
  case mailbox m =>
    have hbox : ((d.arrive (.mailbox m) q).mbx m).busy = true := by
      simp only [Dev.arrive]
      split_ifs <;> simp [remember_mbx]
    exact hbox
  all_goals simp [Dev.keeps, arrive_reach, hreach]

/-- A command that its path keeps and that is answered at once is under way with its answer. -/
theorem submit_answer {d e : Dev} {p : Path} {q : Req} {r : Resp} (hp : p ≠ .hot) (ht : d.takes p q)
    (h : (d.arrive p q).perform p (d.asked p q) = (.answer r, e)) (hkeeps : e.keeps p = (d.arrive p q).keeps p) :
    d.submit p q = e.answerNow p (d.asked p q) r false := by
  rw [submit_new ht, if_neg hp]
  simp [Dev.handleCmd, h, hkeeps, arrive_keeps ht]

/-- A command that its path keeps and whose answer waits for a slot is under way without one. -/
theorem submit_wait {d e : Dev} {p : Path} {q : Req} {k : Nat} (hp : p ≠ .hot) (ht : d.takes p q)
    (h : (d.arrive p q).perform p (d.asked p q) = (.wait k, e)) (hkeeps : e.keeps p = (d.arrive p q).keeps p) :
    d.submit p q = e.pushFlight ⟨p, d.asked p q, none, some k, 0, false⟩ := by
  rw [submit_new ht, if_neg hp]
  simp [Dev.handleCmd, h, hkeeps, arrive_keeps ht]

/-! ### OPEN -/

/-- The slot that an OPEN takes and the device with it open. -/
def Dev.openedAs (d : Dev) (j id : Nat) (implicit : Bool) : Dev :=
  (({ d with fresh := d.fresh + 1 } : Dev).setSlot j { slot0 with openedAt := d.now, implicit := implicit }).put 0x120001 j txOpen
    |>.put 0x120002 j id

/-- Where a slot is free, OPEN takes a free one. -/
theorem openSlot_of_free {d : Dev} (h : ∃ j < 32, d.txState j = txFree) (id : Nat) (implicit : Bool) :
    ∃ j < 32, d.txState j = txFree ∧ d.openSlot id implicit = some (j, d.openedAs j id implicit) := by
  obtain ⟨i, hi, hfree⟩ := h
  set l := (List.range 32).filter (fun k => d.txState k == txFree) with hl
  have hmem : i ∈ l := by simp [hl, hi, hfree]
  have hpos : 0 < l.length := List.length_pos_of_mem hmem
  have hidx : Config.freeValue d.fresh % l.length < l.length := Nat.mod_lt _ hpos
  have hj : l[Config.freeValue d.fresh % l.length] ∈ l := List.getElem_mem hidx
  have hjd : l.getD (Config.freeValue d.fresh % l.length) 0 = l[Config.freeValue d.fresh % l.length] := by
    simp [List.getD, hidx]
  obtain ⟨hrange, hjfree⟩ := List.mem_filter.mp hj
  refine ⟨l[Config.freeValue d.fresh % l.length], List.mem_range.mp hrange, by simpa using hjfree, ?_⟩
  · have hne : l.isEmpty = false := by simpa [List.isEmpty_eq_false_iff] using List.ne_nil_of_mem hmem
    simp only [Dev.openSlot, ← hl, hne, Bool.false_eq_true, if_false, Dev.takeFree, hjd]
    rfl

section
variable (d : Dev) {j : Nat} (id : Nat) (implicit : Bool) (hj : j < 32)
include hj

theorem openedAs_get {o e : Nat} (he : e < 4294967296) (h1 : o ≠ 0x120001) (h2 : o ≠ 0x120002) :
    (d.openedAs j id implicit).get o e = d.get o e := by
  rw [Dev.openedAs, put_get_obj _ _ (by omega) he h2, put_get_obj _ _ (by omega) he h1]
  rfl

theorem openedAs_txState_same : (d.openedAs j id implicit).txState j = txOpen := by
  rw [Dev.openedAs, Dev.txState, put_get_obj _ _ (by omega) (by omega) (by decide), put_get_same]

theorem openedAs_txState_ne {i : Nat} (hi : i < 32) (h : i ≠ j) : (d.openedAs j id implicit).txState i = d.txState i := by
  rw [Dev.openedAs, Dev.txState, put_get_obj _ _ (by omega) (by omega) (by decide), put_get_elem _ _ (by omega) (by omega) h]
  rfl
end

theorem openedAs_slot_same (d : Dev) (j id : Nat) (implicit : Bool) :
    (d.openedAs j id implicit).slot j = { slot0 with openedAt := d.now, implicit := implicit } := tget_tput_same _ _ _ _

theorem openedAs_slot_ne (d : Dev) {i j : Nat} (id : Nat) (implicit : Bool) (h : i ≠ j) :
    (d.openedAs j id implicit).slot i = d.slot i := tget_tput_ne _ _ _ _ h

/-- OPEN with an ID of its own that no slot holds. -/
theorem perform_open {d e : Dev} {p : Path} {a : Req} {j : Nat} (hcmd : a.cmd = 4) (htxn : a.txn ≠ 0) (hslot : d.slotOf a.txn = none)
    (hopen : d.openSlot a.txn false = some (j, e)) :
    d.perform p a = (.answer ⟨0, leBytes 4 a.txn ++ [byte j] ++ zeros 3, a.txn⟩, e) := by
  simp [Dev.perform, hcmd, Dev.open_, htxn, hslot, hopen]

/-! ### COMMIT -/

theorem perform_commit {d : Dev} {p : Path} {a : Req} {k syz : Nat} {b : Boundary} (hcmd : a.cmd = 5) (hslot : d.slotOf a.txn = some k)
    (hopen : d.txState k = txOpen) (hkind : a.boundary ≤ 4)
    (hres : d.resolve_ a.boundary (d.slot k).staged a.data = .ok (b, syz)) :
    d.perform p a = (.wait k, d.accept k a.boundary b syz) := by
  simp [Dev.perform, hcmd, Dev.commit, hslot, hopen, Nat.not_lt.mpr hkind, hres]

/-- To show the loading of a slot's elements touches object 0x5100:02 alone. -/
theorem showLoading_get (d : Dev) (x : Key) {o e : Nat} (he : e < 4294967296) (h : o < 0x510002) :
    (d.showLoading x).get o e = d.get o e := by
  rw [Dev.showLoading, ite_get, put_get_ne _ _ (okey_ne_of_lt he h), ite_self]

theorem showLoading_changesOnly (d : Dev) (l : List Key) : d.changesOnly [.dict] (l.foldl Dev.showLoading d) :=
  (fr_foldl fun x k => fr_showLoading x k (by decide)).mpr (changesOnly_refl _ _)

/-- A key reads as its value whatever the default, or is not listed and reads as the default. -/
theorem tget_listed_or_default {α : Type} (t : Tab α) (n : Nat) : (∃ v, ∀ d : α, tget d t n = v) ∨ ∀ d : α, tget d t n = d := by
  induction t with
  | nil => exact .inr fun _ => rfl
  | cons p t ih =>
    obtain ⟨k, v⟩ := p
    by_cases h : n = k
    · exact .inl ⟨v, fun _ => by rw [tget, if_pos h]⟩
    · simpa only [tget, if_neg h] using ih

theorem dfltNum_power : dfltNum 0x900001 0 = 1 := by decide

theorem dfltNum_loading (e : Nat) : dfltNum 0x510002 e = 0 := by
  have h : objOf 0x510002 = some (num 0x510002 .u8 .ro .observer 0 .any) := rfl
  simp [dfltNum, h, num]

/-- To show an element's loading neither begins nor ends RUN, whatever the element's number: what is written over reads 0. -/
theorem showLoading_run (d : Dev) (x : Key) : (d.showLoading x).power = 2 ↔ d.power = 2 := by
  unfold Dev.showLoading
  split_ifs with h
  · obtain ⟨-, hzero, -⟩ := h
    by_cases hkey : okey 0x900001 0 = okey 0x510002 x.e
    · have hafter : (d.put 0x510002 x.e 3).power = 3 := by
        simp [Dev.power, Dev.get, Dev.put, Dev.setDict, hkey, tput, dfltNum_loading, tget_tins]
      have hbefore : d.power ≠ 2 := by
        rw [Dev.get, ← hkey, dfltNum_loading] at hzero
        rw [Dev.power, Dev.get, dfltNum_power]
        rcases tget_listed_or_default d.obj.dict.num (okey 0x900001 0) with ⟨v, hv⟩ | hv
        · rw [hv] at hzero ⊢
          omega
        · rw [hv]
          decide
      simp [hafter, hbefore]
    · rw [Dev.power, put_get_ne _ _ hkey, Dev.power]
  · rfl

theorem foldl_showLoading_run (l : List Key) (d : Dev) : (l.foldl Dev.showLoading d).power = 2 ↔ d.power = 2 := by
  induction l generalizing d with
  | nil => rfl
  | cons x l ih => rw [List.foldl_cons, ih, showLoading_run]

/-! A write of an object leaves the access paths. -/
@[simp] theorem put_flights (d : Dev) (o e v : Nat) : (d.put o e v).obj.flights = d.obj.flights := rfl
@[simp] theorem put_boxes (d : Dev) (o e v : Nat) : (d.put o e v).obj.boxes = d.obj.boxes := rfl
@[simp] theorem setSlot_flights (d : Dev) (k : Nat) (x : Slot) : (d.setSlot k x).obj.flights = d.obj.flights := rfl
@[simp] theorem setSlot_boxes (d : Dev) (k : Nat) (x : Slot) : (d.setSlot k x).obj.boxes = d.obj.boxes := rfl
@[simp] theorem setSlot_commits (d : Dev) (k : Nat) (x : Slot) : (d.setSlot k x).obj.commits = d.obj.commits := rfl
@[simp] theorem setSlot_getB (d : Dev) (k : Nat) (x : Slot) : (d.setSlot k x).getB = d.getB := rfl
@[simp] theorem pushFlight_slot (d : Dev) (f : Flight) : (d.pushFlight f).slot = d.slot := rfl
@[simp] theorem put_commits (d : Dev) (o e v : Nat) : (d.put o e v).obj.commits = d.obj.commits := rfl

/-- The slot as COMMIT leaves it. -/
def Dev.acceptedSlot (d : Dev) (k kind : Nat) (b : Boundary) (syz : Nat) : Slot :=
  { d.slot k with
    kind := kind, boundary := some b, committed := true, seq := d.obj.commits, parts := d.participants (d.slot k).staged
    waiting := d.participants (d.slot k).staged, fails := [], syzygy := syz }

/-- One COMMIT more. -/
def Dev.countCommit (d : Dev) : Dev := d.setObj { d.obj with commits := d.obj.commits + 1 }

theorem countCommit_get (d : Dev) : d.countCommit.get = d.get := rfl
theorem countCommit_getB (d : Dev) : d.countCommit.getB = d.getB := rfl
theorem countCommit_flights (d : Dev) : d.countCommit.obj.flights = d.obj.flights := rfl
theorem countCommit_boxes (d : Dev) : d.countCommit.obj.boxes = d.obj.boxes := rfl
theorem countCommit_commits (d : Dev) : d.countCommit.obj.commits = d.obj.commits + 1 := rfl

/-- What COMMIT writes of the slot itself. -/
def Dev.accepted (d : Dev) (k kind : Nat) (b : Boundary) (syz : Nat) : Dev :=
  ((d.setSlot k (d.acceptedSlot k kind b syz)).countCommit.put 0x120001 k txValidating).put 0x120004 k (ktimeOf b.time)

theorem accept_eq (d : Dev) (k kind : Nat) (b : Boundary) (syz : Nat) :
    d.accept k kind b syz = (d.slot k).staged.foldl Dev.showLoading (d.accepted k kind b syz) := rfl

theorem foldl_showLoading_get (l : List Key) (d : Dev) {o e : Nat} (he : e < 4294967296) (h : o < 0x510002) :
    (l.foldl Dev.showLoading d).get o e = d.get o e := by
  induction l generalizing d with
  | nil => rfl
  | cons x l ih => rw [List.foldl_cons, ih, showLoading_get _ _ he h]

section
variable {α : Type} (d : Dev) (k kind : Nat) (b : Boundary) (syz : Nat)

/-- What shows the loading leaves the access paths as COMMIT left them. -/
theorem accept_access : (d.accept k kind b syz).accessPart = (d.accepted k kind b syz).accessPart :=
  showLoading_changesOnly (d.accepted k kind b syz) (d.slot k).staged .access (by decide)

theorem accept_obj (f : ObjSt → α) (hf : ∀ x : ObjSt, f { x with dict := ⟨[], [], [], []⟩ } = f x) :
    f (d.accept k kind b syz).obj = f (d.accepted k kind b syz).obj :=
  (hf _).symm.trans ((congrArg f (accept_access d k kind b syz)).trans (hf _))

theorem accept_slots : (d.accept k kind b syz).obj.slots = (d.accepted k kind b syz).obj.slots :=
  accept_obj d k kind b syz ObjSt.slots fun _ => rfl

theorem accept_slot : (d.accept k kind b syz).slot k = d.acceptedSlot k kind b syz := by
  rw [Dev.slot, accept_slots]
  exact tget_tput_same _ _ _ _

theorem accept_commits : (d.accept k kind b syz).obj.commits = d.obj.commits + 1 :=
  (accept_obj d k kind b syz ObjSt.commits fun _ => rfl).trans (by
    rw [Dev.accepted, put_commits, put_commits, countCommit_commits, setSlot_commits])

theorem accept_flights : (d.accept k kind b syz).obj.flights = d.obj.flights :=
  (accept_obj d k kind b syz ObjSt.flights fun _ => rfl).trans (by
    rw [Dev.accepted, put_flights, put_flights, countCommit_flights, setSlot_flights])

theorem accept_boxes : (d.accept k kind b syz).obj.boxes = d.obj.boxes :=
  (accept_obj d k kind b syz ObjSt.boxes fun _ => rfl).trans (by
    rw [Dev.accepted, put_boxes, put_boxes, countCommit_boxes, setSlot_boxes])
end

theorem accept_get (d : Dev) {k o e : Nat} (kind : Nat) (b : Boundary) (syz : Nat) (hk : k < 32) (he : e < 4294967296)
    (h : o < 0x510002) (h1 : o ≠ 0x120001) (h4 : o ≠ 0x120004) : (d.accept k kind b syz).get o e = d.get o e := by
  rw [accept_eq, foldl_showLoading_get _ _ he h, Dev.accepted, put_get_obj _ _ (by omega) he h4, put_get_obj _ _ (by omega) he h1,
    countCommit_get, setSlot_get]

theorem accept_getB (d : Dev) (k kind : Nat) (b : Boundary) (syz : Nat) : (d.accept k kind b syz).getB = d.getB := by
  have hfold : ∀ (l : List Key) (x : Dev), (l.foldl Dev.showLoading x).getB = x.getB := by
    intro l x
    induction l generalizing x with
    | nil => rfl
    | cons y l ih =>
      rw [List.foldl_cons, ih, Dev.showLoading]
      split_ifs <;> simp
  rw [accept_eq, hfold, Dev.accepted, put_getB, put_getB, countCommit_getB, setSlot_getB]

theorem accept_run {d : Dev} {k : Nat} (kind : Nat) (b : Boundary) (syz : Nat) (hk : k < 32) :
    (d.accept k kind b syz).power = 2 ↔ d.power = 2 := by
  rw [accept_eq, foldl_showLoading_run, Dev.accepted, Dev.power, put_get_obj _ _ (by omega) (by omega) (by decide),
    put_get_obj _ _ (by omega) (by omega) (by decide), countCommit_get, setSlot_get, Dev.power]

theorem accept_keeps {d : Dev} {k : Nat} (kind : Nat) (b : Boundary) (syz : Nat) (hk : k < 32) (p : Path) :
    (d.accept k kind b syz).keeps p = d.keeps p :=
  keeps_congr (accept_run kind b syz hk) (accept_get _ _ _ _ hk (by decide) (by decide) (by decide) (by decide))
    (accept_get _ _ _ _ hk (by decide) (by decide) (by decide) (by decide)) (accept_getB _ _ _ _ _) (accept_boxes _ _ _ _ _)

theorem accept_txState {d : Dev} {k : Nat} (kind : Nat) (b : Boundary) (syz : Nat) (hk : k < 32) :
    (d.accept k kind b syz).txState k = txValidating := by
  rw [accept_eq, Dev.txState, foldl_showLoading_get _ _ (by omega) (by decide), Dev.accepted,
    put_get_obj _ _ (by omega) (by omega) (by decide), put_get_same]

theorem accept_time {d : Dev} {k : Nat} (kind : Nat) (b : Boundary) (syz : Nat) (hk : k < 32) :
    (d.accept k kind b syz).get 0x120004 k = ktimeOf b.time := by
  rw [accept_eq, foldl_showLoading_get _ _ (by omega) (by decide), Dev.accepted, put_get_same]

theorem openedAs_keeps (d : Dev) {j : Nat} (id : Nat) (implicit : Bool) (hj : j < 32) (p : Path) :
    (d.openedAs j id implicit).keeps p = d.keeps p :=
  keeps_congr (by rw [Dev.power, openedAs_get _ _ _ hj (by decide) (by decide) (by decide), Dev.power])
    (openedAs_get _ _ _ hj (by decide) (by decide) (by decide)) (openedAs_get _ _ _ hj (by decide) (by decide) (by decide)) rfl rfl

/-! ### ABORT and STATUS -/

theorem perform_abort {d : Dev} {p : Path} {a : Req} {k : Nat} (hcmd : a.cmd = 6) (hslot : d.slotOf a.txn = some k)
    (hstate : d.txState k = txOpen ∨ d.txState k = txValidating ∨ d.txState k = txReady) (hsampled : (d.slot k).sampled = none)
    (hconfirmed : (d.slot k).confirmed = false) (hmode : modeStaged (d.slot k).staged = none) :
    d.perform p a = (.answer ⟨0, [], 0⟩, d.endSlot k txAborted 0x0607 0x0607) := by
  simp [Dev.perform, hcmd, Dev.abortTxn, hslot, hstate, hsampled, hconfirmed, hmode, code_]

theorem perform_status {d : Dev} {p : Path} {a : Req} {k : Nat} (hcmd : a.cmd = 7) (hslot : d.slotOf a.txn = some k) :
    d.perform p a = (.answer ⟨0, d.statusBytes k, 0⟩, if txApplied ≤ d.txState k then d.freeSlot k else d) := by
  simp [Dev.perform, hcmd, Dev.status, hslot]

/-- Settles O22: OPEN and COMMIT leave the path what it keeps its command by, so the command is under way with what the arbiter made of
it; ABORT and STATUS answer at once. -/
theorem transactionCommands : Obligations.TransactionCommands := by
  intro s p q k
  refine ⟨?_, ?_, ?_, ?_⟩
  · intro r a d ⟨hpor, htakes⟩ hp htxn hslot hfree
    obtain ⟨j, hj, hjfree, hopen⟩ := openSlot_of_free hfree a.txn false
    have hperform := perform_open (p := p) (asked_cmd s.dev p q (by decide)) htxn hslot hopen
    refine runs_of_exec_eq_run (g := objCommand 4 p q) rfl hpor ?_
    rw [objCommand, submit_answer hp htakes hperform (openedAs_keeps _ _ _ hj _)]
    refine ⟨j, hj, hjfree, openedAs_txState_same d a.txn false hj, put_get_same _ _ _ _, ?_, ?_, fun i hi hi' =>
      ⟨openedAs_txState_ne d a.txn false hj hi' hi, openedAs_slot_ne d a.txn false hi⟩, rfl⟩
    · exact congrArg Slot.staged (openedAs_slot_same d j a.txn false)
    · exact (congrArg Slot.openedAt (openedAs_slot_same d j a.txn false)).trans (arrive_now _ _ _)
  · intro r a d b syz ⟨hpor, htakes⟩ hp hslot hopen hkind hres
    have hk : k < 32 := slotOf_lt hslot
    have hperform := perform_commit (p := p) (asked_cmd s.dev p q (by decide)) hslot hopen hkind hres
    refine runs_of_exec_eq_run (g := objCommand 5 p q) rfl hpor ?_
    rw [objCommand, submit_wait hp htakes hperform (accept_keeps _ _ _ hk _)]
    have hkslot := accept_slot d k a.boundary b syz
    rw [pushFlight_slot]
    refine ⟨accept_txState _ _ _ hk, (congrArg Slot.waiting hkslot).trans rfl,
      (congrArg Slot.boundary hkslot).trans rfl, (congrArg Slot.staged hkslot).trans rfl,
      accept_time _ _ _ hk, accept_commits d k a.boundary b syz, ?_⟩
    exact congrArg (· ++ _) (accept_flights d k a.boundary b syz)
  · intro r a d hT hslot hstate hsampled hconfirmed hmode
    exact answers_of_perform rfl hT (perform_abort (asked_cmd s.dev p q (by decide)) hslot hstate hsampled hconfirmed hmode)
  · intro r a d hT hslot
    exact answers_of_perform (f := fun d => if txApplied ≤ d.txState k then d.freeSlot k else d) rfl hT
      (perform_status (asked_cmd s.dev p q (by decide)) hslot)

end Sys2Proof.Machine

/-! PROOFS. A transaction's way from its validation to its end. -/
namespace Sys2Proof.Machine

/-- What a participant finds wrong with its elements, its region running and every element in order: nothing. -/
theorem report_without_failure {d : Dev} {n : Key → Nat} {part : Nat} {l : List Key} {down : Bool} (hdown : down = false)
    (h : ∀ y ∈ l, n y = 0) : ((l.filter fun y => (d.holders y).contains part || (part == 1 && (d.holders y).isEmpty)).map
      fun y => CheckFail.mk (if down then 0x0503 else n y) part y).filter (fun f => f.code != 0) = [] := by
  subst hdown
  simp only [List.filter_eq_nil_iff, List.mem_map, List.mem_filter]
  rintro f ⟨y, ⟨hy, -⟩, rfl⟩
  simp [h y hy]

/-- A report without a failure leaves the others to report, or concludes the validation. -/
theorem participantReport_of_ok {d : Dev} {k part : Nat} (hstate : d.txState k = txValidating)
    (hwaits : (d.slot k).waiting.contains (part + 1) = true)
    (hok : ∀ y ∈ (d.slot k).staged, d.checkKey (d.prospect (d.slot k).staged) y = 0) (hruns : part = 0 ∨ d.regionRuns (part - 1) = true) :
    participantReport k (part + 1) d =
      let e := d.setSlot k { d.slot k with waiting := (d.slot k).waiting.filter (· != part + 1) }
      if ((d.slot k).waiting.filter (· != part + 1)).isEmpty then e.concludeSlot k else e := by
  have hdown : (decide (2 ≤ part + 1) && !d.regionRuns (part + 1 - 2)) = false := by
    rcases hruns with rfl | h
    · rfl
    · rw [show part + 1 - 2 = part - 1 by omega, h]
      simp
  have hskip : ¬ (d.txState k ≠ txValidating ∨ (!(d.slot k).waiting.contains (part + 1)) = true) := by simp [hstate]; simpa using hwaits
  simp only [participantReport, if_neg hskip, report_without_failure hdown hok, List.append_nil, setSlot_slot_same]

/-- With no failure and no ring mode staged the validation ends READY. -/
theorem concludeSlot_of_ok {d : Dev} {k : Nat} (hfails : (d.slot k).fails = []) (hmode : modeStaged (d.slot k).staged = none) :
    d.concludeSlot k = (d.put 0x120001 k txReady).answerWaiting k 0 1 := by
  simp [Dev.concludeSlot, hfails, firstFail, Dev.readySlot, hmode]

/-- Settles O23: each command is its branch, and a report without a failure leaves nothing to note but that it was made. -/
theorem transactionProgress : Obligations.TransactionProgress := by
  intro s k hpor
  refine ⟨?_, ?_, ?_, ?_, ?_, ?_⟩
  · rintro part x rfl hstate hwaits hok hruns hmore
    refine gives_of_exec_eq_run (f := participantReport k (part.val + 1)) rfl hpor ?_
    rw [participantReport_of_ok hstate hwaits hok hruns]
    simp [hmore]
  · rintro part x rfl hstate hlast hfails hok hmode hruns
    refine gives_of_exec_eq_run (f := participantReport k (part.val + 1)) rfl hpor ?_
    rw [participantReport_of_ok hstate (by simp [hlast]) hok hruns]
    simp [hlast, concludeSlot_of_ok, hfails, hmode]
  · intro b hb hstate hsampled hready
    refine gives_of_exec_eq_run (f := allReadySample k) rfl hpor ?_
    have hall : (s.dev.slot k).parts.find? (fun p => !(s.dev.at_ (b.time - us 1)).partReady k p) = none := by
      simpa [List.find?_eq_none] using hready
    simp [allReadySample, hb, hstate, hsampled, hall]
  · intro b hb hepoch hstate hsampled happlied
    refine gives_of_exec_eq_run (f := transactionApply k) rfl hpor ?_
    cases b
    case epoch t => exact absurd rfl (hepoch t)
    all_goals simp [transactionApply, hb, hstate, hsampled, happlied, Dev.finishSlot_]
  · intro hstate
    exact gives_of_exec_eq_run rfl hpor (by simp [transactionTimeout, hstate])
  · intro hstate
    exact gives_of_exec_eq_run rfl hpor (by simp [slotRelease, Nat.not_lt.mpr hstate])

/-! ### Completions -/

/-- The completion of the oldest answered command of a path that has no repeats to answer. -/
theorem commandComplete_of_find {d : Dev} {p : Path} {f : Flight} {r : Resp}
    (hfind : d.obj.flights.find? (fun f => f.path == p && f.resp.isSome) = some f) (hresp : f.resp = some r) (hheld : f.held = 0) :
    commandComplete p d =
      let e := (d.setObj { d.obj with flights := d.obj.flights.erase f }).respond p f.req r f.replay
      if f.req.txid ≠ 0 ∧ f.replay = false then e.rememberSent p f.req r else e := by
  simp [commandComplete, hfind, hresp, hheld, Dev.respondHeld]

theorem respond_mailbox_mbx_same (d : Dev) (m : Fin 16) (q : Req) (r : Resp) (replay : Bool) :
    (d.respond (.mailbox m) q r replay).mbx m = (d.mbx m).finish q r replay := by
  simp only [Dev.respond]
  split_ifs <;> simp

theorem respond_mailbox_mbx_ne (d : Dev) {m : Fin 16} {k : Nat} (q : Req) (r : Resp) (replay : Bool) (h : k ≠ m.val) :
    (d.respond (.mailbox m) q r replay).mbx k = d.mbx k := by
  simp only [Dev.respond]
  split_ifs <;> simp [setMbx_mbx_ne, h]

theorem respond_mailbox_flights (d : Dev) (m : Fin 16) (q : Req) (r : Resp) (replay : Bool) :
    (d.respond (.mailbox m) q r replay).obj.flights = d.obj.flights := by
  simp only [Dev.respond]
  split_ifs <;> rfl

/-- Settles O24: the command leaves those under way, the path reports, and the cache keeps the answer; a mailbox's report is the end of
its command. -/
theorem completionCommands : Obligations.CompletionCommands := by
  intro s hpor
  refine ⟨?_, ?_, ?_, ?_⟩
  · intro p f r hfind hresp hheld hreplay
    refine gives_of_exec_eq_run (f := commandComplete p) rfl hpor ?_
    rw [commandComplete_of_find hfind hresp hheld]
    by_cases h : f.req.txid = 0 <;> simp [h, hreplay]
  · intro m f r hfind hresp hheld
    refine runs_of_exec_eq_run (g := commandComplete (.mailbox m)) rfl hpor ?_
    rw [commandComplete_of_find hfind hresp hheld]
    set d := s.dev.setObj { s.dev.obj with flights := s.dev.obj.flights.erase f } with hd
    have hbox : ∀ k, d.mbx k = s.dev.mbx k := fun _ => rfl
    have hsame := respond_mailbox_mbx_same d m f.req r f.replay
    have hother := fun (k : Nat) (h : k ≠ m.val) => (respond_mailbox_mbx_ne d f.req r f.replay h).trans (hbox k)
    have hflights := respond_mailbox_flights d m f.req r f.replay
    have hmbx : ∀ x : Dev, (if f.req.txid ≠ 0 ∧ f.replay = false then x.rememberSent (.mailbox m) f.req r else x).mbx = x.mbx := by
      intro x; split_ifs <;> rfl
    have hkeep : ∀ x : Dev, (if f.req.txid ≠ 0 ∧ f.replay = false then x.rememberSent (.mailbox m) f.req r else x).obj.flights =
        x.obj.flights := by
      intro x; split_ifs <;> rfl
    simp only [hmbx, hkeep, hsame, hflights]
    exact ⟨rfl, rfl, rfl, rfl, rfl, rfl, rfl, hother⟩
  · intro ip udp via bytes m hcheck hkind hvia
    refine gives_of_exec_eq_run (f := kmpRequest ip.toNat udp.toNat via bytes) rfl hpor ?_
    have hopen : (!(via == 16 || s.dev.power == 2)) = false := by simpa [← or_iff_not_imp_left] using hvia
    simp [kmpRequest, hopen, hcheck, hkind]
  · intro p txid c t hfind hsent
    exact gives_of_exec_eq_run (f := replayExpiry p txid.toNat) rfl hpor (by simp only [replayExpiry, hfind, hsent])

end Sys2Proof.Machine

/-! PROOFS. Direct writes of command objects: the value is one the object takes, so the row's write has its owner's effect. -/
namespace Sys2Proof.Machine

/-! ### A command object of one byte -/

theorem leNat_byte {v : Nat} (hv : v < 256) : leNat (leBytes 1 v) = v := by
  rw [leNat_leBytes]
  exact Nat.mod_eq_of_lt hv

theorem leNat_word (x : Word) : leNat (leBytes 4 x.toNat) = x.toNat := by
  rw [leNat_leBytes]
  exact Nat.mod_eq_of_lt x.isLt

theorem leNat_ktime (t : BitVec 96) : leNat (leBytes 12 t.toNat) = t.toNat := by
  rw [leNat_leBytes]
  exact Nat.mod_eq_of_lt t.isLt

/-- A row that writes one of a command object's values has the effect that the object's owner gives it. -/
theorem row_command {s : State} {p : Path} {txid : Word} {c : Instr} {o e v : Nat} {role : Role} {d0 : Nat} {l : List Int}
    {f : Dev → Dev} (hc : exec c s = run s (writeCommand o e 1 v p txid.toNat)) (hx : objOf o = some (num o .u8 .wo role d0 (.oneOf l)))
    (ho : o < 0xF00000 ∧ o / 256 ≠ 0x5200 ∧ o / 256 ≠ 0x5010 ∧ keptWo o = false) (he : e < elemsOf (o / 256))
    (hv : v < 256 ∧ l.contains (v : Int) = true ∧ valueRule o e v = true) (hL : Lets s p (reqFor 2 o e txid.toNat (leBytes 1 v)) role)
    (hcode : ∀ bs, leNat bs = v → (s.dev.arrive p (reqFor 2 o e txid.toNat (leBytes 1 v))).directCode o e bs = 0)
    (heffect : ∀ bs seg, leNat bs = v → (s.dev.arrive p (reqFor 2 o e txid.toNat (leBytes 1 v))).directEffect o e 0 bs seg =
      f (s.dev.arrive p (reqFor 2 o e txid.toNat (leBytes 1 v)))) :
    GivesOn c s p (reqFor 2 o e txid.toNat (leBytes 1 v)) f := by
  obtain ⟨hlt, hparam, hspare, hkept⟩ := ho
  obtain ⟨hbyte, hone, hrule⟩ := hv
  refine row_num hc hL hx hlt he (he.trans (elemsOf_lt _)) ⟨hparam, hspare⟩ txid.isLt (by rw [length_leBytes]; decide) (.inl rfl)
    (values_oneOf hbyte hone hrule) (hcode _ (leNat_byte hbyte)) ?_
  rw [writeDirect_num hkept rfl]
  exact heffect _ _ (leNat_byte hbyte)

/-! ### Time and dies -/

/-- TIME's counters are set by a KTIME96 value whose nanoseconds are below 10^9. -/
theorem values_ktime {d : Dev} {o e txid : Nat} {r : Role} {d0 : Nat} {t : BitVec 96} (ht : bits t.toNat 16 32 ≤ 999999999)
    (hr : valueRule o e t.toNat = true) :
    ∀ c ∈ d.valueCodes (num o .ktime .wo r d0 .any) (reqFor 2 o e txid (leBytes 12 t.toNat)), c = 0 := by
  simp [Dev.valueCodes, num, numCodes, reqFor, Ty.size, length_leBytes, leNat_ktime, hr, Nat.not_lt.mpr ht]

theorem setCountersCode_of_free {d : Dev} (ha : d.servo .a = 0) (hb : d.servo .b = 0) : d.setCountersCode = 0 := by
  simp [Dev.setCountersCode, ha, hb]

theorem disarmTrig_of_armed {d : Dev} {n : Nat} (h : d.get 0x208006 n = 1 ∨ d.get 0x208006 n = 2) : d.disarmTrig n =
    (d.setTim { d.tim with
      trigOut := tput trigOut0 d.tim.trigOut n { tget trigOut0 d.tim.trigOut n with active := false } }).put 0x208006 n 0 := if_pos h

/-- Settles O55: each is a direct write of a command object, or of the counters' one value. -/
theorem timeObjectCommands : Obligations.TimeObjectCommands := by
  intro s p txid
  refine ⟨?arm, ?disarm, ?setCounters, ?dieReset⟩
  case arm =>
    intro n q hL hcode
    exact row_command rfl rfl (by decide) n.isLt ⟨by decide, rfl, rfl⟩ hL
      (fun bs h => (code_208005 _ n bs).trans ((if_pos h).trans hcode))
      (fun bs seg h => (effect_208005 _ n 0 bs seg).trans (if_pos h))
  case disarm =>
    intro n q hL hstate
    exact row_command rfl rfl (by decide) n.isLt ⟨by decide, rfl, rfl⟩ hL
      (fun bs h => (code_208005 _ n bs).trans (if_neg (by omega)))
      (fun bs seg h => (effect_208005 _ n 0 bs seg).trans ((if_neg (by omega)).trans (disarmTrig_of_armed hstate)))
  case setCounters =>
    intro t q hL ht ha hb
    refine row_num rfl hL rfl (by decide) (by decide) (by decide) (by decide) txid.isLt (by rw [length_leBytes]; decide) (.inl rfl)
      (values_ktime ht rfl) ((code_200009 _ _ _).trans (setCountersCode_of_free ha hb)) ?_
    rw [writeDirect_num rfl rfl, effect_200009, leNat_ktime]
    rfl
  case dieReset =>
    intro die q hL hdie
    refine row_command rfl rfl (by decide) (by decide) ⟨die.isLt, ?_, rfl⟩ hL (fun bs _ => code_901007 _ 0 bs) (fun bs seg h => ?_)
    · rcases hdie with h | h <;> rw [h] <;> rfl
    · rw [effect_901007, h]
      rfl

/-! ### Sessions, functions and generations -/

theorem sesStartCode_of_writable {d : Dev} {k : Nat} (hw : d.sesWritable k = true) (hid : d.get 0x340001 k ≠ 0) :
    d.sesStartCode k = 0 := by simp [Dev.sesStartCode, hw, hid]

theorem sesStopCode_of_running {d : Dev} {k : Nat} (hstate : d.sesState k = 1) (htime : d.now + 2 * d.sesG k < d.sesT k) :
    d.sesStopCode k = 0 := by simp [Dev.sesStopCode, hstate, htime]

/-- Settles O56: each is a direct write of a command object, whose owner does what the row says. -/
theorem networkObjectCommands : Obligations.NetworkObjectCommands := by
  intro s p txid
  refine ⟨?start, ?stop, ?recovery, ?generation⟩
  case start =>
    intro k q hL hw hid
    exact row_command rfl rfl (by decide) k.isLt ⟨by decide, rfl, rfl⟩ hL
      (fun bs h => (code_340008 _ k bs).trans ((if_pos h).trans (sesStartCode_of_writable hw hid)))
      (fun bs seg h => (effect_340008 _ k 0 bs seg).trans (if_pos h))
  case stop =>
    intro k q hL hstate htime
    exact row_command rfl rfl (by decide) k.isLt ⟨by decide, rfl, rfl⟩ hL
      (fun bs h => (code_340008 _ k bs).trans ((if_neg (by omega)).trans (sesStopCode_of_running hstate htime)))
      (fun bs seg h => (effect_340008 _ k 0 bs seg).trans (if_neg (by omega)))
  case recovery =>
    intro h q hL he
    exact row_command rfl rfl (by decide) he ⟨by decide, rfl, rfl⟩ hL (fun bs _ => code_31100E _ h.toNat bs)
      (fun bs seg _ => effect_31100E _ h.toNat 0 bs seg)
  case generation =>
    intro g q hL he
    exact row_command rfl rfl (by decide) he ⟨by decide, rfl, rfl⟩ hL (fun bs _ => code_312009 _ g.toNat bs)
      (fun bs seg _ => effect_312009 _ g.toNat 0 bs seg)

/-! ### Slots, engines, images and captures -/

theorem slotRestart_of_stopped {d : Dev} {k : Nat} {l : Loaded} (hstop : (d.kslot k).stopped ≠ 0) (hcur : (d.kslot k).cur = some l) :
    d.slotRestart k = (d.setKslot k { d.kslot k with
      cur := some { l with data := tdrop (fun i => decide (ikWork l.image / 4 ≤ i)) l.data, shared := sharedInit l.image }
      stopped := 0 }).showSlot k := by
  simp [Dev.slotRestart, hstop, hcur]

theorem imageVerify_of_stored {d : Dev} {i : Nat} (h : d.get 0x502003 i ≠ 0) : d.imageVerify i =
    (d.put 0x502003 i 2).setEng { d.eng with verifying := d.eng.verifying.filter (· != i) ++ [i] } := if_neg h

/-- The value of a capture's queue is within the object's range. -/
theorem values_exportQueue {d : Dev} {e txid : Nat} {x : Word} (h : x.toNat ≤ 262143) :
    ∀ c ∈ d.valueCodes (num 0xA02102 .u32 .wo .operator 0 (.range 0 262143)) (reqFor 2 0xA02102 e txid (leBytes 4 x.toNat)), c = 0 := by
  have hlimits : limitsOf (num 0xA02102 .u32 .wo .operator 0 (.range 0 262143)) none = (0, 262143) := by decide
  have hparam : d.paramAt 0xA02102 e = none := by simp [Dev.paramAt]
  have hrule : valueRule 0xA02102 e x.toNat = true := by simp [valueRule]
  have hnum : ∀ c ∈ numCodes (num 0xA02102 .u32 .wo .operator 0 (.range 0 262143)) none e x.toNat, c = 0 := by
    simp only [numCodes, hlimits]
    simp [num, Ty.lt, Ty.signed, hrule, h]
  simpa [Dev.valueCodes, num, reqFor, Ty.size, length_leBytes, leNat_word, hparam] using hnum

theorem captureExport_of_complete {d : Dev} {e q : Nat} (h : d.capState e = 2) : d.captureExport e q =
    (0, ((d.put 0xA02104 e 3).pushBlock q
      ⟨1, e, (d.capture e).seq, (d.put 0xA02104 e 3).captureHeader e true,
       (d.capture e).chans.flatMap ((d.put 0xA02104 e 3).capturePart (d.capture e)), (d.capture e).chans.length⟩).showCapture e) :=
  if_neg (not_not.mpr h)

/-- Settles O57: each is a direct write of a command object, or of a capture's queue, whose owner does what the row says. -/
theorem computeObjectCommands : Obligations.ComputeObjectCommands := by
  intro s p txid
  refine ⟨?restart, ?rehome, ?unitReset, ?verify, ?erase, ?release, ?exported⟩
  case restart =>
    intro k l q hL hstop hcur
    exact row_command rfl rfl (by decide) k.isLt ⟨by decide, rfl, rfl⟩ hL (fun bs _ => code_510007 _ k bs)
      (fun bs seg _ => (effect_510007 _ k 0 bs seg).trans (slotRestart_of_stopped hstop hcur))
  case rehome =>
    intro e q hL hspare hhost hidle
    have hforce := forceRehome_ok hspare hhost hidle
    exact row_command rfl rfl (by decide) e.isLt ⟨by decide, rfl, rfl⟩ hL
      (fun bs h => (code_50000C _ e bs).trans ((if_pos h).trans (congrArg Prod.fst hforce)))
      (fun bs seg h => (effect_50000C _ e 0 bs seg).trans ((if_pos h).trans (congrArg Prod.snd hforce)))
  case unitReset =>
    intro e q hL
    exact row_command rfl rfl (by decide) e.isLt ⟨by decide, rfl, rfl⟩ hL
      (fun bs h => (code_50000C _ e bs).trans (if_neg (by omega)))
      (fun bs seg h => (effect_50000C _ e 0 bs seg).trans (if_neg (by omega)))
  case verify =>
    intro i q hL hstored
    exact row_command rfl rfl (by decide) i.isLt ⟨by decide, rfl, rfl⟩ hL
      (fun bs h => (code_502002 _ i bs).trans (if_neg (by omega)))
      (fun bs seg h => (effect_502002 _ i 0 bs seg).trans ((if_pos h).trans (imageVerify_of_stored hstored)))
  case erase =>
    intro i q hL huse
    exact row_command rfl rfl (by decide) i.isLt ⟨by decide, rfl, rfl⟩ hL
      (fun bs h => (code_502002 _ i bs).trans (if_neg (by simp [q, huse])))
      (fun bs seg h => (effect_502002 _ i 0 bs seg).trans (if_neg (by omega)))
  case release =>
    intro e q hL hstate
    have hrelease := captureRelease_of_not_exporting hstate
    exact row_command rfl rfl (by decide) e.isLt ⟨by decide, rfl, rfl⟩ hL
      (fun bs _ => (code_A02103 _ e bs).trans (congrArg Prod.fst hrelease))
      (fun bs seg _ => (effect_A02103 _ e 0 bs seg).trans (congrArg Prod.snd hrelease))
  case exported =>
    intro e x q hL hx hstate
    have hexport := captureExport_of_complete (q := x.toNat) hstate
    refine row_num rfl hL rfl (by decide) e.isLt (by omega) (by decide) txid.isLt (by rw [length_leBytes]; decide) (.inl rfl)
      (values_exportQueue hx) ((code_A02102 _ _ _).trans ?_) ?_
    · exact (congrArg (fun n => (Dev.captureExport _ _ n).1) (leNat_word x)).trans (congrArg Prod.fst hexport)
    · rw [writeDirect_num rfl rfl, effect_A02102, leNat_word]
      exact congrArg Prod.snd hexport

/-! ### Safe states, the first error and injections -/

/-- Settles O58: each is a direct write of a command object of the fault collector. -/
theorem faultObjectCommands : Obligations.FaultObjectCommands := by
  intro s p txid
  refine ⟨?release, ?clear, ?arm, ?disarm⟩
  case release =>
    intro x q hL hcode
    refine row_command rfl rfl (by decide) x.isLt ⟨by decide, rfl, rfl⟩ hL (fun bs _ => (code_802003 _ x bs).trans hcode)
      (fun bs seg _ => (effect_802003 _ x 0 bs seg).trans ?_)
    simp only [Dev.releaseSafe, Fin.ext_iff]
    rfl
  case clear =>
    intro q hL
    exact row_command rfl rfl (by decide) (by decide) ⟨by decide, rfl, rfl⟩ hL (fun bs _ => code_800003 _ 0 bs)
      (fun bs seg _ => effect_800003 _ 0 0 bs seg)
  case arm =>
    intro k q hL hcode
    exact row_command rfl rfl (by decide) k.isLt ⟨by decide, rfl, rfl⟩ hL
      (fun bs h => (code_820005 _ k bs).trans ((if_pos h).trans hcode))
      (fun bs seg h => (effect_820005 _ k 0 bs seg).trans (if_pos h))
  case disarm =>
    intro k q hL
    exact row_command rfl rfl (by decide) k.isLt ⟨by decide, rfl, rfl⟩ hL
      (fun bs h => (code_820005 _ k bs).trans (if_neg (by omega)))
      (fun bs seg h => (effect_820005 _ k 0 bs seg).trans (if_neg (by omega)))

/-! ### The power and the slot commands -/

theorem dozeCode_of_allowed {d : Dev} (hstate : d.power = 2 ∧ d.pow.phase = 5 ∨ d.power = 4) (hwake : d.pow.wakeN = false) :
    d.dozeCode = 0 := if_pos ⟨hstate, by simp [hwake]⟩

/-- Settles O59: each is a direct write of the power command or of a slot's command, whose owner does what the row says. -/
theorem powerObjectCommands : Obligations.PowerObjectCommands := by
  intro s p txid
  refine ⟨?doze, ?wake, ?lantern, ?restart, ?verify, ?erase⟩
  case doze =>
    intro q hL hstate hwake
    exact row_command rfl rfl (by decide) (by decide) ⟨by decide, rfl, rfl⟩ hL
      (fun bs h => (code_900002 _ 0 bs).trans ((if_pos h).trans (dozeCode_of_allowed hstate hwake)))
      (fun bs seg h => (effect_900002 _ 0 0 bs seg).trans (if_pos h))
  case wake =>
    intro q hL hstate
    exact row_command rfl rfl (by decide) (by decide) ⟨by decide, rfl, rfl⟩ hL
      (fun bs h => (code_900002 _ 0 bs).trans ((if_neg (by omega)).trans ((if_pos h).trans (if_pos hstate))))
      (fun bs seg h => (effect_900002 _ 0 0 bs seg).trans ((if_neg (by omega)).trans (if_pos h)))
  case lantern =>
    intro q hL hstate
    exact row_command rfl rfl (by decide) (by decide) ⟨by decide, rfl, rfl⟩ hL
      (fun bs h => (code_900002 _ 0 bs).trans
        ((if_neg (by omega)).trans ((if_neg (by omega)).trans ((if_pos h).trans (if_pos hstate)))))
      (fun bs seg h => (effect_900002 _ 0 0 bs seg).trans ((if_neg (by omega)).trans ((if_neg (by omega)).trans (if_pos h))))
  case restart =>
    intro q hL hstate
    exact row_command rfl rfl (by decide) (by decide) ⟨by decide, rfl, rfl⟩ hL
      (fun bs h => (code_900002 _ 0 bs).trans
        ((if_neg (by omega)).trans ((if_neg (by omega)).trans ((if_neg (by omega)).trans (if_pos hstate)))))
      (fun bs seg h => (effect_900002 _ 0 0 bs seg).trans
        ((if_neg (by omega)).trans ((if_neg (by omega)).trans (if_neg (by omega)))))
  case verify =>
    intro x q hL
    exact row_command rfl rfl (by decide) x.isLt ⟨by decide, rfl, rfl⟩ hL (fun bs _ => code_131101 _ x bs)
      (fun bs seg h => (effect_131101 _ x 0 bs seg).trans (if_pos h))
  case erase =>
    intro x q hL
    exact row_command rfl rfl (by decide) x.isLt ⟨by decide, rfl, rfl⟩ hL (fun bs _ => code_131101 _ x bs)
      (fun bs seg h => (effect_131101 _ x 0 bs seg).trans (if_neg (by omega)))

end Sys2Proof.Machine

/-! PROOFS. The commands that a write of a host register starts. -/
namespace Sys2Proof.Machine

/-- A row that writes one 32-bit register of BAR 0, while memory requests are taken, has that register's write effect. -/
theorem gives_of_hostWrite32 {c : Instr} {s : State} {off v : Nat} {e : Dev} (hc : exec c s = run s (hostWrite32 off v))
    (hpor : s.por = false) (hmem : s.dev.memOk = true) (hoff : off % 4 = 0) (hv : v < 4294967296) (h : s.dev.bar0Write off v = e) :
    Gives c s e :=
  gives_of_exec_eq_run hc hpor
    (by rw [hostWrite32, registerWrite_narrow hmem false v hoff, Nat.mod_eq_of_lt hv]; exact h)

/-- An open register below 0x10000 is a global one. -/
theorem bar0Write_global {d : Dev} {off : Nat} (hopen : d.barOpen off = true) (h : off < 0x10000) (v : Nat) :
    d.bar0Write off v = d.writeGlobal off v := by simp [Dev.bar0Write, hopen, h]

/-- Below LANTERN's last register all registers are open together. -/
theorem barOpen_low {d : Dev} {off off' : Nat} (h : off < 0x20000) (h' : off' < 0x20000) : d.barOpen off = d.barOpen off' := by
  simp [Dev.barOpen, h, h']

/-- In RUN the first register of queue `q` takes its command. -/
theorem bar0Write_queueCommand {d : Dev} (hrun : d.power = 2) (q : BitVec 18) {cmd : Nat} (hcmd : cmd < 8) :
    d.bar0Write (0x1000000 + 64 * q.toNat) (0x80000000 + cmd * 2 ^ 28) = d.queueCmd q.toNat cmd := by
  have hq := q.isLt
  have hmod : (0x1000000 + 64 * q.toNat - 0x1000000) / 64 = q.toNat ∧ (0x1000000 + 64 * q.toNat) % 64 = 0 := by omega
  have hgo : bit (0x80000000 + cmd * 2 ^ 28) 31 = true ∧ bits (0x80000000 + cmd * 2 ^ 28) 28 3 = cmd := by
    interval_cases cmd <;> decide
  simp only [Dev.bar0Write, barOpen_of_run hrun, Bool.not_true, Bool.false_eq_true, if_false]
  rw [if_neg (by omega), if_neg (by omega), if_neg (by omega), if_neg (by omega), if_neg (by omega), if_neg (by omega),
    if_pos (by omega), hmod.1, hmod.2]
  simp only [Dev.writeQueue, if_true, hgo]

theorem writeGlobal_bootGo {d : Dev} (h : d.pow.phase = 1) :
    d.writeGlobal 0x104 0x80000000 = d.setPow { d.pow with phase := 2, waitFrom := none } := by
  have hgo : bit 0x80000000 31 = true := by decide
  simp only [Dev.writeGlobal, if_true, hgo, bootGo, h]

theorem setTab_setTab (d : Dev) (x y : TableSt) : (d.setTab x).setTab y = d.setTab y := rfl

theorem periodNow_setTab {d : Dev} {x : TableSt} (h : x.segs = d.tab.segs) : (d.setTab x).periodNow = d.periodNow := by
  show (segAt (d.setTab x).now x.segs).len / (segAt (d.setTab x).now x.segs).perSec = _
  rw [setTab_now, h]
  rfl

/-- A pin is the epoch's number with the instant one period ahead. -/
theorem pinEpochAs_setTab {d : Dev} {x : TableSt} (h : x.segs = d.tab.segs) (P : PubEpoch) (which : Bool) :
    (d.setTab x).pinEpochAs (some P) which = d.setTab { x with
      pin := some ⟨P.n, which, d.now + d.periodNow⟩, pinStale := false, pinEpoch := P.n, pinWhich := which } := by
  show d.setTab { x with
    pin := some ⟨P.n, which, (d.setTab x).now + (d.setTab x).periodNow⟩, pinStale := false, pinEpoch := P.n, pinWhich := which } = _
  rw [setTab_now, periodNow_setTab h]

theorem pinP_setTab {d : Dev} {x : TableSt} {P : PubEpoch} (hx : x.segs = d.tab.segs) (h : x.pub = some P) :
    pinP (d.setTab x) = d.setTab { x with
      pinCmd := 1, pin := some ⟨P.n, false, d.now + d.periodNow⟩, pinStale := false, pinEpoch := P.n, pinWhich := false } := by
  calc (d.setTab { x with pinCmd := 1 }).pinEpochAs x.pub false
    _ = (d.setTab { x with pinCmd := 1 }).pinEpochAs (some P) false := congrArg (Dev.pinEpochAs _ · false) h
    _ = _ := pinEpochAs_setTab (x := { x with pinCmd := 1 }) hx P false

theorem pinPMinus1_setTab {d : Dev} {x : TableSt} {P : PubEpoch} (hx : x.segs = d.tab.segs) (h : x.prev = some P) :
    pinPMinus1 (d.setTab x) = d.setTab { x with
      pinCmd := 2, pin := some ⟨P.n, true, d.now + d.periodNow⟩, pinStale := false, pinEpoch := P.n, pinWhich := true } := by
  calc (d.setTab { x with pinCmd := 2 }).pinEpochAs x.prev true
    _ = (d.setTab { x with pinCmd := 2 }).pinEpochAs (some P) true := congrArg (Dev.pinEpochAs _ · true) h
    _ = _ := pinEpochAs_setTab (x := { x with pinCmd := 2 }) hx P true

/-- A write of PIN_CTRL shows the command and, with GO, starts it. -/
theorem writeGlobal_pin (d : Dev) {n : Nat} (hn : n = 1 ∨ n = 2 ∨ n = 3) : d.writeGlobal 0x308 (0x80000000 + n) =
    if n = 1 then pinP (d.setTab { d.tab with pinCmd := n })
    else if n = 2 then pinPMinus1 (d.setTab { d.tab with pinCmd := n })
    else pinRelease (d.setTab { d.tab with pinCmd := n }) := by
  have hgo : bit (0x80000000 + n) 31 = true ∧ (0x80000000 + n) % 4 = n := by rcases hn with rfl | rfl | rfl <;> decide
  obtain ⟨hgo, hcmd⟩ := hgo
  rw [Dev.writeGlobal, if_neg (by decide), if_neg (by decide), if_pos rfl, hcmd, hgo]
  rcases hn with rfl | rfl | rfl <;> rfl

theorem writeGlobal_pinP {d : Dev} {P : PubEpoch} (h : d.tab.pub = some P) : d.writeGlobal 0x308 (0x80000000 + 1) = d.setTab { d.tab with
    pinCmd := 1, pin := some ⟨P.n, false, d.now + d.periodNow⟩, pinStale := false, pinEpoch := P.n, pinWhich := false } := by
  rw [writeGlobal_pin d (.inl rfl), if_pos rfl]
  exact pinP_setTab (x := { d.tab with pinCmd := 1 }) rfl h

theorem writeGlobal_pinPMinus1 {d : Dev} {P : PubEpoch} (h : d.tab.prev = some P) : d.writeGlobal 0x308 (0x80000000 + 2) =
    d.setTab { d.tab with
      pinCmd := 2, pin := some ⟨P.n, true, d.now + d.periodNow⟩, pinStale := false, pinEpoch := P.n, pinWhich := true } := by
  rw [writeGlobal_pin d (.inr (.inl rfl)), if_neg (by decide), if_pos rfl]
  exact pinPMinus1_setTab (x := { d.tab with pinCmd := 2 }) rfl h

theorem writeGlobal_pinRelease (d : Dev) : d.writeGlobal 0x308 (0x80000000 + 3) =
    d.setTab { d.tab with pin := none, pinStale := false, pinCmd := 3 } := by
  rw [writeGlobal_pin d (.inr (.inr rfl)), if_neg (by decide), if_neg (by decide), pinRelease, setTab_setTab]
  rfl

theorem writeGlobal_sticky (d : Dev) (k : Fin 16) (v : Nat) : d.writeGlobal (0x600 + 4 * k.val) v =
    d.setFlt { d.flt with sticky := clearBits d.flt.sticky (v * 2 ^ (32 * k.val)) } := by
  have hoff : 8 * (0x600 + 4 * k.val - 0x600) = 32 * k.val := by omega
  rw [Dev.writeGlobal, if_neg (by omega), if_neg (by omega), if_neg (by omega), if_neg (by omega), if_neg (by omega),
    if_neg (by omega), if_neg (by omega), if_pos (by omega), hoff]

theorem writeGlobal_intxPend (d : Dev) (k : Fin 64) {v : Nat} (hv : v < 4294967296) : d.writeGlobal (0x800 + 4 * k.val) v =
    (d.setPcie { d.host.pcie with intxPend := clearBits d.host.pcie.intxPend (v * 2 ^ (32 * k.val)) }).driveIntx := by
  have hk : (0x800 + 4 * k.val - 0x800) / 4 = k.val ∧ k.val % 64 = k.val ∧ v % 2 ^ 32 = v :=
    ⟨by omega, by omega, Nat.mod_eq_of_lt hv⟩
  obtain ⟨hreg, hword, hmask⟩ := hk
  rw [Dev.writeGlobal, if_neg (by omega), if_neg (by omega), if_neg (by omega), if_neg (by omega), if_neg (by omega),
    if_neg (by omega), if_neg (by omega), if_neg (by omega), if_pos (by omega), hreg, intxPendClear, hword, hmask]

theorem queueAttach_of_taken {d : Dev} {q : Nat} {x : Queue} (hx : d.queue q = x) (hstate : x.state = qDetached)
    (hfault : d.attachFault q = 0) : queueAttach q d = (d.setQueue q { x with
      state := qActive, head := x.start, fin := x.start, next := x.start, latch := 0, err := 0, entries := [], unann := 0,
      oldest := none, due := none, orrery := none, served := 0, rx := [], ev := [], gap := 0, lost := false, seq := 0,
      fetched := 0, finished := 0, abandoned := 0, blocks := [], lateIdx := [] }).showDemand := by
  subst hx
  simp only [queueAttach, hstate, hfault, ne_eq, not_true, if_false]

theorem detachCore_of_active {d : Dev} {q : Nat} {x : Queue} (hx : d.queue q = x) (hstate : x.state = qActive) : d.detachCore q =
    ((((d.setQueue q { x with state := qStopping, due := none, orrery := none }).abandonBlocks q).dropWaiting q).returnStock
      q).showDemand := by
  subst hx
  simp only [Dev.detachCore, hstate, ne_eq, not_true, if_false]

/-- Settles O26: each row is one register write, and the register's write effect is the command's. -/
theorem hostCommands : Obligations.HostCommands := by
  intro s hpor hmem
  refine ⟨?bootGo, ?pinP, ?pinPMinus1, ?pinRelease, ?sticky, ?intx, ?attach, ?detach, ?reset⟩
  case bootGo =>
    intro hopen hphase
    exact gives_of_hostWrite32 rfl hpor hmem rfl (by decide)
      ((bar0Write_global hopen (by decide) _).trans (writeGlobal_bootGo hphase))
  case pinP =>
    intro P hopen hpub
    exact gives_of_hostWrite32 rfl hpor hmem rfl (by decide) ((bar0Write_global hopen (by decide) _).trans (writeGlobal_pinP hpub))
  case pinPMinus1 =>
    intro P hopen hprev
    exact gives_of_hostWrite32 rfl hpor hmem rfl (by decide)
      ((bar0Write_global hopen (by decide) _).trans (writeGlobal_pinPMinus1 hprev))
  case pinRelease =>
    intro hopen
    exact gives_of_hostWrite32 rfl hpor hmem rfl (by decide)
      ((bar0Write_global hopen (by decide) _).trans (writeGlobal_pinRelease _))
  case sticky =>
    intro k mask hopen
    have hopen' := (barOpen_low (d := s.dev) (off := 0x600 + 4 * k.val) (off' := 0x600) (by omega) (by decide)).trans hopen
    exact gives_of_hostWrite32 rfl hpor hmem (by omega) mask.isLt
      ((bar0Write_global hopen' (by omega) _).trans (writeGlobal_sticky _ k _))
  case intx =>
    intro k mask hopen
    have hopen' := (barOpen_low (d := s.dev) (off := 0x800 + 4 * k.val) (off' := 0x800) (by omega) (by decide)).trans hopen
    exact gives_of_hostWrite32 rfl hpor hmem (by omega) mask.isLt
      ((bar0Write_global hopen' (by omega) _).trans (writeGlobal_intxPend _ k mask.isLt))
  case attach =>
    intro q hrun x d hstate hfault
    exact gives_of_hostWrite32 rfl hpor hmem (by omega) (by decide) ((bar0Write_queueCommand hrun q (cmd := 1) (by decide)).trans
      (queueAttach_of_taken (setQueue_queue_same _ _ _) hstate hfault))
  case detach =>
    intro q hrun x d hstate
    exact gives_of_hostWrite32 rfl hpor hmem (by omega) (by decide) ((bar0Write_queueCommand hrun q (cmd := 2) (by decide)).trans
      (detachCore_of_active (setQueue_queue_same _ _ _) hstate))
  case reset =>
    intro q hrun
    exact gives_of_hostWrite32 rfl hpor hmem (by omega) (by decide) (bar0Write_queueCommand hrun q (cmd := 3) (by decide))

end Sys2Proof.Machine

/-! PROOFS. Ports: links, frames received, cut through, chosen and completed. -/
namespace Sys2Proof.Machine

/-! ### Frames of a port -/

theorem at_power (d : Dev) (t : Nat) : (d.at_ t).power = d.power := rfl

theorem at_armedSlot (d : Dev) (t c unit addr : Nat) : (d.at_ t).armedSlot c unit addr = d.armedSlot c unit addr := rfl

/-- With no injection armed for its port the checker reports the FCS as received. -/
theorem fcsCheck_of_unarmed {d : Dev} {p : Nat} (h : d.armedSlot 15 p 0 = none) (good : Bool) : d.fcsCheck p good = (good, d) := by
  unfold Dev.fcsCheck
  split_ifs <;> simp [Dev.fire, h]

/-- A frame with a bad FCS, or too short, is counted and dropped as invalid. -/
theorem frameIn_of_invalid {d : Dev} {p : Nat} {b : List Byte} {good : Bool} (h : d.armedSlot 15 p 0 = none)
    (hbad : good = false ∨ b.length < 60) (t : Nat) : d.frameIn p b good t =
      (d.updLedger p fun l => { l with received := l.received + 1 }).countPortDrop p 9 := by
  have hc : (!good || decide (b.length < 60)) = true := by simpa using hbad
  simp only [Dev.frameIn, fcsCheck_of_unarmed h, hc, if_true]
  rfl

/-- Another frame is decided by the Eclipse and goes on. -/
theorem frameIn_of_valid {d : Dev} {p : Nat} {b : List Byte} (h : d.armedSlot 15 p 0 = none) (hlen : 60 ≤ b.length)
    (hmac : isMacControl b = false) (t : Nat) : d.frameIn p b true t =
      let e := d.updLedger p fun l => { l with received := l.received + 1 }
      let r := e.decideCopy p (e.rxStamp p t) b
      r.2.onward p (e.rxStamp p t) t b r.1 := by
  have hc : (!true || decide (b.length < 60)) = false := by simpa using hlen
  simp only [Dev.frameIn, fcsCheck_of_unarmed h, hc, hmac, if_false, Bool.false_eq_true]

section
variable {d : Dev} {p t : Nat} {b : List Byte} {good : Bool}

theorem frameReceive_of_cut {c : CutRx} (hcut : (d.atPort p t).cutOf p = some c) :
    frameReceive p (.frame b good) t d = (d.atPort p t).cutEnd c good := by
  simp only [frameReceive, hcut]

variable (hcut : (d.atPort p t).cutOf p = none) (hup : (d.atPort p t).portUp p = true)
include hcut hup

theorem frameReceive_of_run (hrun : d.power = 2) : frameReceive p (.frame b good) t d = (d.atPort p t).frameIn p b good t := by
  have hpower : (d.atPort p t).power = 2 := hrun
  simp [frameReceive, hcut, hup, hpower]

/-- Outside RUN only the MGT port takes a frame, to its classifier. -/
theorem frameReceive_outside_run (hrun : d.power ≠ 2) (hdoze : d.power ≠ 6) : frameReceive p (.frame b good) t d =
    if good && p == 16 && decide (60 ≤ b.length) then (d.atPort p t).classify p ((d.atPort p t).rxStamp p t) t b else d.atPort p t := by
  have hpower : (d.atPort p t).power ≠ 2 ∧ (d.atPort p t).power ≠ 6 := ⟨hrun, hdoze⟩
  simp only [frameReceive, hcut, hup, hpower, Bool.not_true, Bool.false_eq_true, if_false, if_true, ne_eq, not_false_eq_true, and_self]
end

/-- A header that may be cut through is decided, its frame let in, and its copies queued or kept for the frame's end. -/
theorem cutThroughHeader_of_let {d g : Dev} {p t id : Nat} {b : List Byte} (hp : p < 16) (hup : (d.atPort p t).portUp p = true)
    (hcut : (d.atPort p t).cutOf p = none) (hany : (d.atPort p t).cutAny p b = true) :
    let e := (d.atPort p t).updLedger p fun l => { l with received := l.received + 1 }
    let r := e.decideCopy p ((d.atPort p t).rxStamp p t) b
    let c := r.2.copiesOf p b r.1
    c.2.letIn p (c.1.length + 1) t b = (some id, g) →
    let go := c.1.filter fun x => g.cutOk p x.1 x.2.1 x.2.2
    let rest := c.1.filter fun x => !g.cutOk p x.1 x.2.1 x.2.2
    let h := go.foldl (fun d x => d.sendHub id x.1 x.2.1 true) g
    cutThroughHeader p b t d = h.setLan { h.lan with cutting := h.lan.cutting ++
      [⟨p, id, b, t, r.1.deliver, rest.map (fun x => (x.1, x.2.1)), r.1.fn, r.1.node⟩] } := by
  intro e r c hlet go rest h
  have htake : (decide (p ≥ 16) || !(d.atPort p t).portUp p || ((d.atPort p t).cutOf p).isSome || !(d.atPort p t).cutAny p b) = false := by
    simp [hup, hcut, hany, hp]
  simp only [cutThroughHeader, htake, Bool.false_eq_true, if_false]
  split
  next hnone => exact absurd (hnone.symm.trans hlet) (by simp)
  next hsome =>
    obtain ⟨hid, rfl⟩ := Prod.mk.inj (hsome.symm.trans hlet)
    cases hid
    simp only [h, go, rest, c, r, e]

theorem linkUp_of_enabled {d : Dev} {p : Nat} {mode fec : Nat} (h : p = 16 ∨ d.on 0x300001 p = true) :
    linkUp p mode fec d = if p < 16 then (d.linkOn p mode fec).beginVerify p else d.linkOn p mode fec := by
  have htake : (decide (p < 16) && !d.on 0x300001 p) = false := by rcases h with h | h <;> simp [h]
  simp only [linkUp, htake, Bool.false_eq_true, if_false]

theorem linkDown_of_up {d : Dev} {p : Nat} (h : (d.netLink p).up = true) :
    linkDown p d = (((d.raise 64 p 0 0).setLive 64 p true).linkGone p).portDown p := by
  simp only [linkDown, Dev.linkOff, h, Bool.not_true, Bool.false_eq_true, if_false, if_true]

/-- An idle port launches the frame of the highest class that offers one. -/
theorem transmissionSelection_of_offer {d e : Dev} {p delay u : Nat} {f : QFrame} (hup : d.portUp p = true)
    (hu : u = max (d.portNow p + delay % clockPeriod (d.portMode p)) (d.port p).freeAt)
    (he : e = [7, 6, 5, 4, 3, 2, 1, 0].foldl (fun d c => if bit (d.gatesOf p) c then d.dropOversize p c else d) d)
    (hnow : (e.port p).now = none) (hheld : (e.port p).held = none)
    (hf : [7, 6, 5, 4, 3, 2, 1, 0].findSome? (fun c => (e.atPort p u).offer p u c) = some f) :
    transmissionSelection p delay d = (e.atPort p u).launch p f u := by
  have hwait : (if d.portNow p + delay % clockPeriod (d.portMode p) < (d.port p).freeAt then (d.port p).freeAt
      else d.portNow p + delay % clockPeriod (d.portMode p)) = u := by
    rw [hu]
    split <;> omega
  rw [transmissionSelection, hup]
  simp only [Bool.not_true, Bool.false_eq_true, if_false, hwait, ← he, hnow, hheld, hf]

theorem atPort_port (d : Dev) (p t q : Nat) : (d.atPort p t).port q = d.port q := rfl

/-- A port's mode is none of the fragments it has counted. -/
theorem portMode_inc_fragments (d : Dev) {p : Nat} (hp : p < 4294967296) (t : Nat) :
    ((d.atPort p t).inc 0x304008 p).portMode p = d.portMode p := by
  have hget : ((d.atPort p t).inc 0x304008 p).get 0x300002 p = d.get 0x300002 p := by
    rw [inc_get_obj _ hp hp (by decide)]
    rfl
  rw [Dev.portMode, hget]
  rfl

/-- A fragment that is not the last leaves the rest of its frame held. -/
theorem transmitComplete_of_fragment {d : Dev} {p : Nat} {n : TxNow} (hp : p < 4294967296) (hn : (d.port p).now = some n)
    (hlt : n.sent + n.frag < n.frame.bytes.length + 4) : transmitComplete p d =
      ((d.atPort p n.end_).inc 0x304008 p).setPort p { d.port p with
        now := none, held := some { n with sent := n.sent + n.frag }
        freeAt := n.end_ + byteTime (d.portMode p) 24 } := by
  simp only [transmitComplete, hn, hlt, decide_true, Bool.or_true, if_true, portMode_inc_fragments d hp, atPort_port]

/-- At its last bit a whole frame of the device's own leaves. -/
theorem transmitComplete_of_own {d : Dev} {p : Nat} {n : TxNow} (hn : (d.port p).now = some n)
    (hle : n.frame.bytes.length + 4 ≤ n.sent + n.frag) (hsent : n.sent = 0) (hcut : n.frame.cut = false) (hbad : n.frame.bad = false)
    (htag : n.frame.tag = none) (hsrc : n.frame.src = .own) : transmitComplete p d =
      ((d.atPort p n.end_).setPort p { d.port p with now := none }).emit (.frame p n.frame.bytes n.start) := by
  have hlast : ¬ n.sent + n.frag < n.frame.bytes.length + 4 := not_lt.mpr hle
  have hsplit : (decide (n.sent > 0) || decide (n.sent + n.frag < n.frame.bytes.length + 4)) = false := by
    rw [hsent] at hlast ⊢
    simp only [gt_iff_lt, lt_irrefl, decide_false, Bool.false_or, hlast]
  rw [transmitComplete, hn]
  simp only [hsplit, if_neg hlast, Bool.false_eq_true, if_false, hcut, hbad, htag, hsrc, Bool.false_and, atPort_port]

/-- Settles O27: the reception, the cut-through, the choice and the completion each follow the branch that the hypotheses name. -/
theorem portFrames : Obligations.PortFrames := by
  intro s p t hpor d x
  refine ⟨fun b good hcut hup hrun harm => ⟨fun hbad => ?_, fun hgood hlen hmac => ?_⟩,
    fun b good hcut hup hrun hdoze => ⟨fun hmgt hgood hlen => ?_, fun hmgt => ?_⟩, fun c b good hcut => ?_,
    ?cutThrough, fun delay f hup _ _ => ?_, fun n hn => ⟨fun hlt => ?_, fun hle hsent hcut hbad htag hsrc => ?_⟩,
    fun mode fec hon => ?_, fun hup => ?_⟩
  case cutThrough =>
    intro b id g hp hup hcut hany e r c hlet go rest h
    refine gives_of_exec_eq_run (f := cutThroughHeader p b t) rfl hpor ((cutThroughHeader_of_let hp hup hcut hany hlet).trans ?_)
    simp only [h, go, rest, c, r, e, d]
  · exact gives_of_exec_eq_run rfl hpor ((frameReceive_of_run hcut hup hrun).trans (frameIn_of_invalid (d := d) harm hbad t))
  · subst hgood
    exact gives_of_exec_eq_run rfl hpor ((frameReceive_of_run hcut hup hrun).trans (frameIn_of_valid (d := d) harm hlen hmac t))
  · exact gives_of_exec_eq_run rfl hpor ((frameReceive_outside_run hcut hup hrun hdoze).trans (if_pos (by simp [hmgt, hgood, hlen])))
  · exact gives_of_exec_eq_run rfl hpor ((frameReceive_outside_run hcut hup hrun hdoze).trans (if_neg (by simp [hmgt])))
  · exact gives_of_exec_eq_run rfl hpor (frameReceive_of_cut hcut)
  · intro e u hnow hheld hf
    exact gives_of_exec_eq_run rfl hpor (transmissionSelection_of_offer hup rfl rfl hnow hheld hf)
  · exact gives_of_exec_eq_run rfl hpor (transmitComplete_of_fragment (by omega) hn hlt)
  · exact gives_of_exec_eq_run rfl hpor (transmitComplete_of_own hn hle hsent hcut hbad htag hsrc)
  · exact gives_of_exec_eq_run rfl hpor (linkUp_of_enabled hon)
  · exact gives_of_exec_eq_run rfl hpor (linkDown_of_up hup)

end Sys2Proof.Machine

/-! PROOFS. PTP: messages received and sent, time-outs, and the match table of the transparent clock. -/
namespace Sys2Proof.Machine

/-! ### What the loss of the reference leaves of the objects -/

theorem enterHoldover_get (d : Dev) (k : TkId) {o e : Nat} (he : e < 4294967296) (ho : o ≠ 0x200102) :
    (d.enterHoldover k).get o e = d.get o e := by
  unfold Dev.enterHoldover
  split_ifs
  · exact put_get_obj _ _ (by cases k <;> decide) he ho
  · rfl

theorem checkHoldover_get (d : Dev) {o e : Nat} (he : e < 4294967296) (ho : o ≠ 0x200102) : d.checkHoldover.get o e = d.get o e := by
  unfold Dev.checkHoldover
  split_ifs
  · rfl
  · rw [enterHoldover_get _ _ he ho, enterHoldover_get _ _ he ho]

theorem showPtpRef_get {d : Dev} {o e : Nat} (hi : d.get 0x210002 0 < 4294967296) (he : e < 4294967296) (ho : o ≠ 0x21100C) :
    d.showPtpRef.get o e = d.get o e := put_get_obj _ _ hi he ho

/-- A reference that becomes invalid changes the servos' states and the state it shows, and no other object. -/
theorem ptpInvalid_get {d : Dev} {o e : Nat} (hi : d.get 0x210002 0 < 4294967296) (he : e < 4294967296) (ho : o ≠ 0x200102)
    (ho' : o ≠ 0x21100C) : d.ptpInvalid.get o e = d.get o e := by
  have hget : ∀ o' e', e' < 4294967296 → o' ≠ 0x200102 → ∀ x : Dev, x.checkHoldover.resolveUtc.get o' e' = x.get o' e' :=
    fun o' e' he' ho' x => checkHoldover_get x he' ho'
  unfold Dev.ptpInvalid
  dsimp only
  rw [showPtpRef_get ?_ he ho', hget _ _ he ho]
  · rw [setTim_get, ite_get]
    simp
  · rw [hget _ _ (by decide) (by decide), setTim_get, ite_get]
    simpa using hi

/-! ### Messages received and sent -/

theorem ptpMessageReceive_of_management {d : Dev} {p t : Nat} {m : List Byte} (hup : d.portUp p = true) (hk : ptpKind m = 13) :
    ptpMessageReceive p m t d = (d.at_ t).inc 0x210004 0 := by
  rw [ptpMessageReceive, if_pos hup, ptpReceive, if_pos hk]

theorem ptpMessageReceive_of_terminated {d : Dev} {p t i : Nat} {m : List Byte} (hup : d.portUp p = true) (hk : ptpKind m ≠ 13)
    (hi : (d.at_ t).ptpInst p m = some i) (hs : ptpEvent m = false ∨ (d.at_ t).unsync p = false) :
    ptpMessageReceive p m t d = (d.at_ t).ptpTerminate i p m ((d.at_ t).rxStamp p t) := by
  have hsync : (ptpEvent m && (d.at_ t).unsync p) = false := by rcases hs with h | h <;> simp [h]
  rw [ptpMessageReceive, if_pos hup, ptpReceive, if_neg hk]
  simp only [hi, hsync, Bool.false_eq_true, if_false]

section
variable {d : Dev} {i p t : Nat} (hi : i < 4) (hon : (d.at_ t).ptpOn i p = true) (hup : ((d.at_ t).netLink p).up = true)
  (hstate : (d.at_ t).ptpState i p = 6)
include hi hon hup hstate

/-- A master port's Announce carries its sequence number and takes the next one. -/
theorem ptpSend_announce : ptpSend i p 11 t d =
    ((d.at_ t).setPtp i p { d.ptp i p with seqAnn := ((d.ptp i p).seqAnn + 1) % 65536 }).ptpEmit i p 11
      ((d.at_ t).announceBytes i p) t := by
  simp only [ptpSend, hi, hon, hup, hstate, if_true, Bool.not_true, Bool.false_or, Bool.false_and, Bool.false_eq_true, if_false,
    show decide (11 ≤ 3) = false from rfl, ne_eq, not_true]
  rfl

/-- A one-step Sync carries the instant it leaves at. -/
theorem ptpSend_sync (hsync : (d.at_ t).unsync p = false) (hone : (d.at_ t).oneStep i p = true) : ptpSend i p 0 t d =
    ((d.at_ t).setPtp i p { d.ptp i p with seqSync := ((d.ptp i p).seqSync + 1) % 65536, followUp := none }).ptpEmit i p 0
      (ptpAddCorr (ptpHeader 0 ((d.at_ t).get 0x211004 i) 44 ((d.at_ t).get 0x211003 i) 0 0 ((d.at_ t).ptpSelf p) (d.ptp i p).seqSync 0
        ((d.at_ t).get 0x212002 (ptpElem i p)) ++ ptpStampBytes ((d.at_ t).txStamp p t)) ((d.at_ t).txStamp p t % 65536 : Nat)) t := by
  have hsdo : (d.at_ t).ptpSdoOf i = (d.at_ t).get 0x211004 i := if_pos hi
  have hdom : (d.at_ t).ptpDom i = (d.at_ t).get 0x211003 i := if_pos hi
  simp only [ptpSend, hi, hon, hup, hstate, hsync, hone, hsdo, hdom, if_true, Bool.not_true, Bool.false_or, Bool.and_false,
    Bool.false_eq_true, if_false, ne_eq, not_true]
  rfl
end

/-! ### The time-outs of a port -/

section
variable {d : Dev} {i p : Nat}

/-- Off the reference's slave port an Announce time-out forgets the foreign master and makes a listening port a master. -/
theorem announceTimeout_of_other (h : i ≠ d.get 0x210002 0 ∨ d.net.slave ≠ some p) :
    announceTimeout i p d =
      let e := d.setPtp i p { d.ptp i p with foreign := none, sync := none }
      ((if d.ptpState i p = 4 ∧ !d.on 0x211007 i then e.put 0x212008 (ptpElem i p) 6 else e).bmca i).showClass := by
  have hwas : (i == d.get 0x210002 0 && d.net.slave == some p) = false := by rcases h with h | h <;> simp [h]
  simp only [announceTimeout, hwas, Bool.false_eq_true, if_false]
  rfl

/-- On the reference's slave port it makes the reference invalid. -/
theorem announceTimeout_of_reference (hi : i = d.get 0x210002 0) (hs : d.net.slave = some p) (hsmall : i < 4) (hp : p < 17)
    (hstate : d.ptpState i p = 9) : announceTimeout i p d =
      ((d.setPtp i p { d.ptp i p with foreign := none, sync := none }).ptpInvalid.bmca i).showClass := by
  have hwas : (i == d.get 0x210002 0 && d.net.slave == some p) = true := by simp [← hi, hs]
  have hkept : (d.setPtp i p { d.ptp i p with foreign := none, sync := none }).ptpInvalid.ptpState i p = 9 := by
    rw [Dev.ptpState, ptpInvalid_get (by rw [setPtp_get, ← hi]; omega) (by unfold ptpElem; omega) (by decide) (by decide)]
    exact hstate
  simp only [announceTimeout, hwas, if_true, hkept, show ¬ (9 = 4) by decide, false_and, if_false]

theorem syncMissed_of_other (h : i ≠ d.get 0x210002 0 ∨ d.net.slave ≠ some p) :
    syncMissed i p d = d.setPtp i p { d.ptp i p with sync := none } := by
  have hother : ¬ (i = d.get 0x210002 0 ∧ d.net.slave = some p) := by tauto
  simp only [syncMissed, setPtp_get]
  exact if_neg hother

theorem syncMissed_of_reference (hi : i = d.get 0x210002 0) (hs : d.net.slave = some p) :
    syncMissed i p d = (d.setPtp i p { d.ptp i p with sync := none }).ptpInvalid := by
  simp only [syncMissed, setPtp_get]
  exact if_pos ⟨hi, hs⟩
end

theorem tcExpire_of_head {d : Dev} {q : Nat} {x : TcEntry} (h : (tget [] d.net.tc q).head? = some x) : tcExpire q d =
    (d.at_ x.until_).setNet { (d.at_ x.until_).net with
      tc := tput [] (d.at_ x.until_).net.tc q ((tget [] (d.at_ x.until_).net.tc q).filter
        (fun y => decide ((d.at_ x.until_).now < y.until_))) } := by
  simp only [tcExpire, h]

/-- Settles O28: each message and each time-out takes the branch that its hypotheses name. -/
theorem ptpEvents : Obligations.PtpEvents := by
  intro s hpor
  refine ⟨fun p m t hup => ⟨fun hk => ?_, fun i hk hi hs => ?_⟩, ?send, fun i p => ⟨fun hother => ⟨fun hstate => ?_, fun hstate hon => ?_, ?_⟩,
    fun hi hs hstate => ⟨?_, ?_⟩⟩, fun q x hx => ?_⟩
  case send =>
    intro i p t hi d x hon hup hstate
    refine ⟨?_, fun hsync hone => ?_⟩
    · exact gives_of_exec_eq_run rfl hpor (ptpSend_announce hi hon hup hstate)
    · exact gives_of_exec_eq_run rfl hpor (ptpSend_sync hi hon hup hstate hsync hone)
  · exact gives_of_exec_eq_run rfl hpor (ptpMessageReceive_of_management hup hk)
  · exact gives_of_exec_eq_run rfl hpor (ptpMessageReceive_of_terminated hup hk hi hs)
  · exact gives_of_exec_eq_run rfl hpor ((announceTimeout_of_other hother).trans (by simp only [hstate, false_and, if_false]))
  · exact gives_of_exec_eq_run rfl hpor ((announceTimeout_of_other hother).trans
      (by simp only [hstate, hon, Bool.not_false, and_self, if_true]))
  · exact gives_of_exec_eq_run rfl hpor (syncMissed_of_other hother)
  · exact gives_of_exec_eq_run rfl hpor (announceTimeout_of_reference hi hs i.isLt p.isLt hstate)
  · exact gives_of_exec_eq_run rfl hpor (syncMissed_of_reference hi hs)
  · exact gives_of_exec_eq_run rfl hpor (tcExpire_of_head hx)

end Sys2Proof.Machine

/-! PROOFS. The Orrery: gate entries, bank switches, hold and release, polls, SRAM errors and pre-emption's verification. -/
namespace Sys2Proof.Machine

/-! ### Gates -/

section
variable {d : Dev} {p : Nat} {pt : Point} {t : Nat}

/-- The gates of an entry taken while no frame is on the line. -/
theorem setGates_of_idle (hidle : (d.port p).now = none) : d.setGates p pt t =
    ((d.setPort p { d.port p with gates := pt.gates, op := pt.op, entryAt := t }).put 0x302006 p pt.entry).lateSweep p := by
  simp only [Dev.setGates, hidle, Bool.false_eq_true, if_false]

/-- A frame whose gate closes under it is an overrun. -/
theorem setGates_of_overrun {n : TxNow} (hnow : (d.port p).now = some n) (hopen : bit (d.port p).gates n.frame.cls = true)
    (hclose : bit pt.gates n.frame.cls = false) (hend : t < n.end_) (hpre : d.preemptable p n.frame.cls = false) :
    d.setGates p pt t =
      ((((d.setPort p { d.port p with gates := pt.gates, op := pt.op, entryAt := t }).put 0x302006 p pt.entry).inc 0x301003
        (clsElem p n.frame.cls)).raise 65 p 0 0).lateSweep p := by
  simp only [Dev.setGates, hnow, hopen, hclose, hpre, gt_iff_lt, hend, decide_true, Bool.not_false, Bool.true_and, Bool.false_and,
    if_true]

/-- With its gates running and no switch planned a port takes the next entry; entry 0 at its cycle's start counts a cycle. -/
theorem gateEntryStart_of_running (hrun : d.gatesRun p = true) (hgood : (d.port p).sramBad = false) (hswitch : (d.port p).switch = none) :
    gateEntryStart p d =
      let t := d.nextGate p
      let pt := (d.port p).sched.point t
      let e := (d.atPort p t).setGates p pt t
      if pt.entry = 0 ∧ (d.port p).orrery.cycle.startAt pt.cycle = t then e.inc 0x302005 p else e := by
  simp only [gateEntryStart, hrun, hgood, hswitch, Bool.not_true, Bool.or_false, Bool.false_eq_true, if_false]

/-- Whether the gates run is none of what a switch writes. -/
theorem gatesRun_put (hp : p < 4294967296) {o e v : Nat} (he : e < 4294967296) (ho : o ≠ 0x302003) :
    (d.put o e v).gatesRun p = d.gatesRun p := by
  rw [Dev.gatesRun, Dev.on, put_get_obj _ _ he hp (Ne.symm ho)]
  rfl

theorem bankSwitch_of_still (hp : p < 4294967296) {w : Switch} (hw : (d.port p).switch = some w) (hstill : d.gatesRun p = false) :
    bankSwitch p d =
      let e := ((((d.atPort p w.at_).setPort p { d.port p with
        orrery := w.orrery, tether := w.tether, switch := none, sramBad := false }).put 0x302001 p w.bank).put 0x305002 p
          (crc32 w.tether.bytes))
      e.setPort p { e.port p with
        hold := if entryOp (w.orrery.entry 0) = 1 then true else if entryOp (w.orrery.entry 0) = 2 then false
          else (e.port p).hold } := by
  have hkept : ∀ x : PortSt, ((((d.atPort p w.at_).setPort p x).put 0x302001 p w.bank).put 0x305002 p
      (crc32 w.tether.bytes)).gatesRun p = false := by
    intro x
    rw [gatesRun_put hp hp (by decide), gatesRun_put hp hp (by decide)]
    exact hstill
  simp only [bankSwitch, hw, atPort_port, hkept, Bool.false_eq_true, if_false]

/-- Hold and release take effect their advance before the entry that asks for them. -/
theorem holdRelease_of_next {op adv : Nat} {hold : Bool} {e : Int} (hrun : d.gatesRun p = true) (hpre : d.preActive p = true)
    (he : (d.port p).sched.nextOp op (d.port p).sched.fuel (d.portNow p) = some e) : d.holdRelease p op adv hold =
      let x := (d.atPort p (e.toNat - ns adv)).setPort p { d.port p with hold := hold }
      if hold then x.interrupt p else x := by
  have hactive : ∀ u, (d.atPort p u).preActive p = true := fun _ => hpre
  simp only [Dev.holdRelease, hrun, he, hactive, Bool.not_true, Bool.false_eq_true, if_false, atPort_port]
end

/-! ### Polls -/

theorem orreryPoll_of_open {d : Dev} {b p g : Nat} (hp : d.get 0x306002 b = p) (hlt : p < 16) (hrun : d.gatesRun p = true)
    (hg : d.gateOpen b (max (tget 0 d.lan.polled b + 1) (d.portNow p + ns (d.get 0x306005 b))) = some g)
    (hq : (d.queue (d.get 0x306001 b)).state = qActive) : orreryPoll b d =
      let e := d.atPort p (g - ns (d.get 0x306005 b))
      (e.setLan { e.lan with polled := tput 0 e.lan.polled b g }).setQueue (d.get 0x306001 b) { d.queue (d.get 0x306001 b) with
        orrery := some (d.get 0x306009 b), due := some e.now, deadline := shiftTime (g - us 2) (- (d.rep p).err) } := by
  have hfrom : (if tget 0 d.lan.polled b < d.portNow p + ns (d.get 0x306005 b) then d.portNow p + ns (d.get 0x306005 b)
      else tget 0 d.lan.polled b + 1) = max (tget 0 d.lan.polled b + 1) (d.portNow p + ns (d.get 0x306005 b)) := by
    split <;> omega
  have htake : (decide (p ≥ 16) || !d.gatesRun p) = false := by simp [hrun, hlt]
  have hstate : ∀ u x, ((d.atPort p u).setLan x).queue = d.queue := fun _ _ => rfl
  simp only [orreryPoll, hp, htake, hfrom, hg, hstate, hq, Bool.false_eq_true, if_false, ne_eq, not_true]
  rfl

/-- Settles O29: gates, switches, hold and release, polls and the verification each follow the branch that the hypotheses name. -/
theorem gateEvents : Obligations.GateEvents := by
  intro s p hpor x
  have hp : p.val < 4294967296 := by omega
  refine ⟨?entry, fun d pt t hidle => setGates_of_idle hidle, ?overrun, ?switch,
    fun hrun hpre => ⟨fun e he => ?_, fun e he => ?_⟩, fun harm => ?_, fun hstate => ⟨fun htries => ?_, fun htries => ?_⟩, ?poll⟩
  case entry =>
    intro hrun hgood hswitch t pt d
    have h := gateEntryStart_of_running hrun hgood hswitch
    exact ⟨fun hstart => gives_of_exec_eq_run rfl hpor (h.trans (if_pos hstart)),
      fun hstart => gives_of_exec_eq_run rfl hpor (h.trans (if_neg hstart))⟩
  case overrun =>
    intro d pt t n hnow hopen hclose hend hpre
    exact setGates_of_overrun hnow hopen hclose hend hpre
  case switch =>
    intro w hw hstill
    exact gives_of_exec_eq_run rfl hpor (bankSwitch_of_still hp hw hstill)
  · exact gives_of_exec_eq_run rfl hpor (holdRelease_of_next (hold := true) hrun hpre he)
  · exact gives_of_exec_eq_run rfl hpor (holdRelease_of_next (hold := false) hrun hpre he)
  · exact gives_of_exec_eq_run (f := fun d => d.checked_ 13 p.val (orrerySramError p.val)) rfl hpor
      (checked_of_unarmed harm _)
  · exact gives_of_exec_eq_run rfl hpor (f := preemptionVerifyTimer p)
      (by simp only [preemptionVerifyTimer, hstate, ne_eq, not_true, if_false, htries, if_true, x])
  · exact gives_of_exec_eq_run rfl hpor (f := preemptionVerifyTimer p)
      (by simp only [preemptionVerifyTimer, hstate, ne_eq, not_true, if_false, not_lt.mpr htries, x])
  case poll =>
    intro b g hb hrun lead q hg hq d
    exact gives_of_exec_eq_run rfl hpor (orreryPoll_of_open hb p.isLt hrun hg hq)

end Sys2Proof.Machine

/-! PROOFS. Syzygy: a participant's answers, and the coordinator's retries and decisions. -/
namespace Sys2Proof.Machine

/-! ### Messages -/

section
variable {d : Dev} {ip : Word} {udp : BitVec 16} {role : Role} {via : Fin 17} {txid : Word} {b : List Byte}

/-- On a path that is reached a KMP message is handled. -/
theorem gives_of_onKmp {c : Instr} {s : State} {f : Dev → Dev} {e : Dev} (hc : exec c s = run s (onKmp ip udp role via f))
    (hpor : s.por = false) (hreach : s.dev.reach (.kmp ip.toNat udp.toNat role via) = true) (h : f s.dev = e) : Gives c s e :=
  gives_of_exec_eq_run hc hpor ((if_pos hreach).trans h)

/-- An operator or above may speak for a session. -/
theorem syzRole_of_le (h : 2 ≤ role.num) : syzRole role = true := decide_eq_true h

/-- A request with a transaction ID not seen before is applied, answered with its own body, and remembered with its answer. -/
theorem kmpAnswer_of_apply {p : Path} {via ip udp role kd id : Nat} {kind : Nat → Nat} {f : Dev → Nat × Dev} {r : Nat × Dev}
    (hid : id ≠ 0) (happly : d.replayed p (reqOf kd id b) = .apply) (hr : f (d.remember p (reqOf kd id b)) = r) :
    d.kmpAnswer p via ip udp role (reqOf kd id b) kind (fun d => sameBody b (f d)) =
      (r.2.kmpSend via ip udp (kmpOf (kind r.1) id role r.1 b)).rememberSent p (reqOf kd id b) ⟨r.1, b, 0⟩ := by
  have hid' : (reqOf kd id b).txid ≠ 0 := hid
  simp only [Dev.kmpAnswer, hid', happly, if_false, hr, sameBody]
  rfl

theorem prepare_of_apply {ip udp txid : Nat} {r : Nat × Dev} (hrole : 2 ≤ role.num) (hlen : b.length = 20) (hid : txid ≠ 0)
    (happly : d.replayed (.kmp ip udp role via) (reqOf 0x10 txid b) = .apply)
    (hr : (d.remember (.kmp ip udp role via) (reqOf 0x10 txid b)).takePrepare (syzId b) (syzT b) (syzG b) = r) :
    prepare ip udp role via txid b d = (r.2.kmpSend via ip udp (kmpOf (if r.1 = 0 then 0x11 else 0x12) txid role.num r.1
      b)).rememberSent (.kmp ip udp role via) (reqOf 0x10 txid b) ⟨r.1, b, 0⟩ := by
  rw [prepare, syzRole_of_le hrole, if_neg (by decide), if_neg (not_not.mpr hlen)]
  exact kmpAnswer_of_apply hid happly hr

theorem syzygyAbort_of_apply {ip udp txid : Nat} {r : Nat × Dev} (hrole : 2 ≤ role.num) (hlen : b.length = 20) (hid : txid ≠ 0)
    (happly : d.replayed (.kmp ip udp role via) (reqOf 0x13 txid b) = .apply)
    (hr : (d.remember (.kmp ip udp role via) (reqOf 0x13 txid b)).takeAbort (syzId b) (syzT b) (syzG b) = r) :
    syzygyAbort ip udp role via txid b d = (r.2.kmpSend via ip udp (kmpOf 0x14 txid role.num r.1 b)).rememberSent
      (.kmp ip udp role via) (reqOf 0x13 txid b) ⟨r.1, b, 0⟩ := by
  rw [syzygyAbort, syzRole_of_le hrole, if_neg (by decide), if_neg (not_not.mpr hlen)]
  exact kmpAnswer_of_apply hid happly hr

/-- An answer of a participant is noted by the session that it answers. -/
theorem syzygyAnswer_of_entry {kind k i ip udp txid : Nat} (hrole : 2 ≤ role.num)
    (hentry : d.sesEntry ip udp txid b (kind == 2) = some (k, i)) : syzygyAnswer kind ip udp role txid b d = d.sesNote k i kind := by
  simp only [syzygyAnswer, syzRole_of_le hrole, hentry, Bool.not_true, Bool.false_eq_true, if_false]
end

/-! ### A participant's decisions -/

section
variable {d : Dev} {id t g k : Nat}

theorem takePrepare_of_far (hslot : d.syzSlot id t [txReady] = some k) (hfar : d.syzFar k t g = true) :
    d.takePrepare id t g = (0, d.setSlot k { d.slot k with confirmed := true }) := by
  simp [Dev.takePrepare, Dev.prepareCode, hslot, hfar]

theorem takePrepare_of_near (hslot : d.syzSlot id t [txReady] = some k) (hfar : d.syzFar k t g = false) :
    d.takePrepare id t g = (0x0504, d) := by
  simp [Dev.takePrepare, Dev.prepareCode, hslot, hfar]

theorem takePrepare_of_none (hready : d.syzSlot id t [txReady] = none) (hfailed : d.syzSlot id t [txFailed] = none) :
    d.takePrepare id t g = (0x0601, d) := by
  simp [Dev.takePrepare, Dev.prepareCode, hready, hfailed]

theorem takeAbort_of_early (htime : d.now + ns g < t) (hslot : d.syzSlot id t [txReady] = some k) :
    d.takeAbort id t g = (0, d.endSlot k txAborted 0x0607 0x0607) := by
  simp only [Dev.takeAbort, htime, hslot, if_true]

theorem takeAbort_of_late (htime : t ≤ d.now + ns g) : d.takeAbort id t g = (0x0504, d.inc 0x340007 (d.sessionOf id)) :=
  if_neg (not_lt.mpr htime)
end

/-! ### The coordinator's times -/

theorem at_sesAll (d : Dev) (t k : Nat) : (d.at_ t).sesAll k = d.sesAll k := rfl

section
variable {d : Dev} {k : Nat}

theorem prepareLead_of_first (hstate : d.sesState k = 1) (hsent : (d.session k).lastSent = 0) :
    prepareLead k d = (d.at_ (d.sesT k - us (d.get 0x340005 k))).sesSend k 0x10 (d.session k).txid 0 := by
  simp only [prepareLead, hstate, hsent, ne_eq, not_true, or_self, if_false]
  rw [at_session]

theorem syzygyRetry_of_preparing (hsent : (d.session k).lastSent ≠ 0) (hstate : d.sesState k = 1) : syzygyRetry k d =
    (d.at_ ((d.session k).lastSent + ns (d.get 0x340004 k))).sesSend k 0x10 (d.session k).txid (d.session k).answered := by
  rw [syzygyRetry]
  simp only [hsent, hstate, if_false, if_true]

theorem syzygyRetry_of_aborting (hsent : (d.session k).lastSent ≠ 0) (hstate : d.sesState k = 3) : syzygyRetry k d =
    (d.at_ ((d.session k).lastSent + ns (d.get 0x340004 k))).sesSend k 0x13 (d.session k).abortTxid (d.session k).acked := by
  rw [syzygyRetry]
  simp only [hsent, hstate, if_false, if_true, show ¬ (3 = 1) by decide]

/-- At T minus 2G a session commits if all have confirmed, else it aborts. -/
theorem confirmDeadline_of_preparing (hstate : d.sesState k = 1) : confirmDeadline k d =
    let e := d.at_ (d.sesT k - 2 * d.sesG k)
    if d.get 0x340102 k = d.sesAll k then e.put 0x340006 k 2 else (e.put 0x340006 k 3).sesSend k 0x13 (d.session k).abortTxid 0 := by
  simp only [confirmDeadline, hstate, ne_eq, not_true, if_false]
  rw [at_get, at_sesAll, Dev.sesAbort, at_session]
end

/-- Of the four sessions one alone meets what it alone meets. -/
theorem filter_sessions {f : Nat → Bool} {k : Fin 4} (hk : f k = true) (hj : ∀ j : Fin 4, j ≠ k → f j = false) :
    ([0, 1, 2, 3] : List Nat).filter f = [k.val] := by
  have h := fun j : Fin 4 => show f j = decide (j = k) by
    by_cases hjk : j = k
    · simp [hjk, hk]
    · simp [hjk, hj j hjk]
  have h0 := h 0
  have h1 := h 1
  have h2 := h 2
  have h3 := h 3
  simp only [List.filter_cons, List.filter_nil]
  fin_cases k <;> simp_all

/-- At T minus G the one session that still aborts lists who has not acknowledged. -/
theorem guardDeadline_of_aborting {d : Dev} {id : Nat} {k : Fin 4} (hid : id ≠ 0) (hk : d.get 0x340001 k = id)
    (hstate : d.sesState k = 3) (hother : ∀ j : Fin 4, j ≠ k → d.get 0x340001 j ≠ id) (hslots : ∀ j : Nat, (d.slot j).syzygy ≠ id) :
    guardDeadline id d =
      let e := d.at_ (d.sesT k - d.sesG k)
      let left := d.sesAll k - (d.session k).acked
      if left = 0 then e.put 0x340006 k 4 else ((e.put 0x340103 k left).put 0x340006 k 5).raise 71 k 0 left := by
  have hown : (List.range 32).filter (fun k => (d.slot k).syzygy == id && id != 0 && d.txState k == txReady && (d.slot k).kind == 4
      && (d.slot k).sampled.isNone) = [] := by simp [hslots]
  have hses : ([0, 1, 2, 3] : List Nat).filter (fun k => d.get 0x340001 k == id && id != 0 && d.sesState k == 3) = [k.val] :=
    filter_sessions (by simp [hk, hid, hstate]) (fun j hj => by simp [hother j hj])
  have hfind : d.sessionOf id = k.val := by
    rw [Dev.sessionOf, ← List.head?_filter, filter_sessions (k := k) (f := fun k => d.get 0x340001 k == id) (by simp [hk])
      (fun j hj => by simp [hother j hj])]
    rfl
  simp only [guardDeadline, hown, hses, hfind, List.foldl_nil, List.foldl_cons]
  rw [at_sesAll, at_session]

/-- Settles O30: each message and each deadline takes the branch that its hypotheses name. -/
theorem syzygyMessages : Obligations.SyzygyMessages := by
  intro s hpor
  refine ⟨?messages, fun d id t g => ⟨fun k => takePrepare_of_far, fun k => takePrepare_of_near, takePrepare_of_none,
    fun k => takeAbort_of_early, takeAbort_of_late⟩, ?session⟩
  case messages =>
    intro ip udp role via txid b hreach hrole
    refine ⟨?requests, ?answers, ?acks⟩
    case requests =>
      intro hlen hid path
      exact ⟨fun happly => gives_of_onKmp rfl hpor hreach (prepare_of_apply hrole hlen hid happly rfl),
        fun happly => gives_of_onKmp rfl hpor hreach (syzygyAbort_of_apply hrole hlen hid happly rfl)⟩
    case answers =>
      intro k i hentry hstate
      exact ⟨gives_of_onKmp (f := syzygyAnswer 0 ip.toNat udp.toNat role txid.toNat b) rfl hpor hreach
          ((syzygyAnswer_of_entry hrole hentry).trans (if_pos hstate)),
        gives_of_onKmp (f := syzygyAnswer 1 ip.toNat udp.toNat role txid.toNat b) rfl hpor hreach
          ((syzygyAnswer_of_entry hrole hentry).trans (if_pos hstate))⟩
    case acks =>
      intro k i hentry hstate a d
      exact gives_of_onKmp (f := syzygyAnswer 2 ip.toNat udp.toNat role txid.toNat b) rfl hpor hreach
        ((syzygyAnswer_of_entry hrole hentry).trans (if_pos hstate))
  case session =>
    intro k
    refine ⟨fun hstate hsent => ?_, ?retry, fun hstate => ⟨fun hall => ?_, fun hall => ?_⟩, ?guard⟩
    · exact gives_of_exec_eq_run rfl hpor (prepareLead_of_first hstate hsent)
    · intro hsent d
      exact ⟨fun hstate => gives_of_exec_eq_run rfl hpor (syzygyRetry_of_preparing hsent hstate),
        fun hstate => gives_of_exec_eq_run rfl hpor (syzygyRetry_of_aborting hsent hstate)⟩
    · exact gives_of_exec_eq_run rfl hpor ((confirmDeadline_of_preparing hstate).trans (if_pos hall))
    · exact gives_of_exec_eq_run rfl hpor ((confirmDeadline_of_preparing hstate).trans (if_neg hall))
    · intro id hid hk hstate hother hslots d left
      have h := guardDeadline_of_aborting hid hk hstate hother hslots
      exact ⟨fun hleft => gives_of_exec_eq_run rfl hpor (h.trans (if_neg hleft)),
        fun hleft => gives_of_exec_eq_run rfl hpor (h.trans (if_pos hleft))⟩

end Sys2Proof.Machine

/-! PROOFS. The timers of the Eclipse. -/
namespace Sys2Proof.Machine

/-! ### The Eclipse's timers -/

section
variable {d : Dev} {h : Nat}

theorem recoveryResetTimeout_of_deadline {t : Nat} (ht : (d.fn h).hist.deadline = some t) : recoveryResetTimeout h d =
    ((d.at_ t).setFn h { d.fn h with hist := { (d.fn h).hist with takeAny := true, deadline := none } }).addPart h 16 16 1 := by
  simp only [recoveryResetTimeout, ht]

/-- The end of a latent test period restarts the counts; a difference beyond the limit is counted and raised. -/
theorem latentTestPeriod_of_on (hon : d.on 0x311006 h = true) : latentTestPeriod h d =
    let x := d.fn h
    let e := (d.at_ (x.testFrom + ms (d.get 0x311008 h)))
    let f := e.setFn h { x with passed := 0, discarded := 0, testFrom := e.now }
    if absInt ((x.passed : Int) - x.discarded) > d.get 0x311007 h then (f.addPart h 0 16 1).raise 112 h 0 0 else f := by
  simp only [latentTestPeriod, hon, Bool.not_true, Bool.false_eq_true, if_false]
  rw [setFn_get, at_get]

theorem latentResetPeriod_of_on (hon : d.on 0x311006 h = true) : latentResetPeriod h d =
    let x := d.fn h
    let e := d.at_ (x.resetFrom + ms (d.get 0x311011 h))
    e.setFn h { x with passed := 0, discarded := 0, resetFrom := e.now, latentResets := (x.latentResets + 1) % 2 ^ 16 } := by
  simp only [latentResetPeriod, hon, Bool.not_true, Bool.false_eq_true, if_false]

theorem entryForget_of_deadline {k : Fin 3} {t : Nat} (ht : ((tget node0 d.ecl.nodes h).hist k).deadline = some t) :
    entryForget h k d = (d.at_ t).setNode h ((tget node0 d.ecl.nodes h).setHist k
      { (tget node0 d.ecl.nodes h).hist k with takeAny := true, deadline := none }) := by
  simp only [entryForget, ht]
end

section
variable {d : Dev} {k : Nat}

/-- A LAN silent for three LifeCheckIntervals while the other is heard is told once. -/
theorem lifeCheck_of_prp {lan : Fin 2} (hmode : d.pairMode k = 1) : lifeCheck k lan d =
    let quiet := if lan = 0 then (d.pair k).trailerA else (d.pair k).trailerB
    let other := if lan = 0 then (d.pair k).trailerB else (d.pair k).trailerA
    let e := d.at_ (quiet + 3 * ms (d.get 0x320006 k))
    if other > quiet && !d.flt.live.contains (115 + lan.val, k) then (e.raise (115 + lan.val) k 0 0).setLive (115 + lan.val) k true
    else e := by
  simp only [lifeCheck, hmode, ne_eq, not_true, if_false]
  rw [at_flt]

theorem supervisionFrameSend_of_hsr (hmode : d.pairMode k = 2) (hat : (d.pair k).supAt ≠ 0) : supervisionFrameSend k d =
    let x := d.pair k
    let e := d.at_ (x.supAt + ms (d.get 0x320006 k))
    let b := supervisionBytes (d.get 0x320007 k) 23 x.supSeq (macOf (2 * k))
    [2 * k, 2 * k + 1].foldl (fun d p => d.enqueue p ⟨addTag 2 x.seq p b, d.fwdClass p b, .own, none, false, false, none, 0, 0⟩)
      (e.setPair k { x with supSeq := (x.supSeq + 1) % 65536, seq := (x.seq + 1) % 65536, supAt := e.now }) := by
  simp only [supervisionFrameSend, hmode, hat, if_false, if_true, show ¬ (2 = 0) by decide]
  rw [at_get]
end

/-- Settles O31: each timer takes the branch that its hypotheses name. -/
theorem eclipseTimers : Obligations.EclipseTimers := by
  intro s hpor
  refine ⟨?functions, ?nodes, ?pairs, ?silence⟩
  case functions =>
    intro h x
    refine ⟨fun t ht => ?_, ?latent, fun t ht => ?_⟩
    · exact gives_of_exec_eq_run rfl hpor (recoveryResetTimeout_of_deadline ht)
    · intro hon d e f
      exact ⟨fun hlimit => gives_of_exec_eq_run rfl hpor ((latentTestPeriod_of_on hon).trans (if_pos hlimit)),
        fun hlimit => gives_of_exec_eq_run rfl hpor ((latentTestPeriod_of_on hon).trans (if_neg (not_lt.mpr hlimit))),
        gives_of_exec_eq_run rfl hpor (latentResetPeriod_of_on hon)⟩
    · exact gives_of_exec_eq_run (f := singlePathEnd (.function h)) rfl hpor (by simp only [singlePathEnd, x, ht])
  case nodes =>
    intro i n
    refine ⟨fun hkind => ?_, fun k t ht => ?_, fun t ht => ?_⟩
    · exact gives_of_exec_eq_run rfl hpor (if_neg hkind)
    · exact gives_of_exec_eq_run rfl hpor (entryForget_of_deadline ht)
    · exact gives_of_exec_eq_run (f := singlePathEnd (.node i)) rfl hpor (by simp only [singlePathEnd, n, ht])
  case pairs =>
    intro k x
    refine ⟨?life, ?supervision, fun t ht => ?_⟩
    · intro lan hmode quiet other d told
      refine ⟨fun hquiet htold => ?_, fun hnot => ?_⟩
      · exact gives_of_exec_eq_run rfl hpor ((lifeCheck_of_prp hmode).trans (if_pos ((Bool.and_eq_true _ _).mpr ⟨decide_eq_true hquiet, congrArg (!·) htold⟩)))
      · have hskip : ¬ (decide (other > quiet) && !told) = true := by
          rcases hnot with h | h
          · rw [decide_eq_false (not_lt.mpr h)]
            exact Bool.false_ne_true
          · rw [h, Bool.not_true, Bool.and_false]
            exact Bool.false_ne_true
        exact gives_of_exec_eq_run rfl hpor ((lifeCheck_of_prp hmode).trans (if_neg hskip))
    · intro hmode hat d b e
      exact gives_of_exec_eq_run rfl hpor (supervisionFrameSend_of_hsr hmode hat)
    · exact gives_of_exec_eq_run (f := singlePathEnd (.pair k)) rfl hpor (by simp only [singlePathEnd, x, ht])
  case silence =>
    intro g t ht hne d
    subst ht
    exact gives_of_exec_eq_run rfl hpor (if_neg hne)

end Sys2Proof.Machine

/-! PROOFS. The ring: insertion and removal, start-up, mode switches, the own slot's polls and the mailbox. -/
namespace Sys2Proof.Machine

/-! ### Insertion and removal -/

section
variable {d : Dev} {r : Nat}

theorem updRing_eq (d : Dev) {r : Nat} (f : Ring → Ring) : d.updRing r f = d.setRing r (f (d.ring r)) := rfl

theorem ringInsert_of_released (hon : d.on 0x400001 r = true) (hrun : d.power = 2) (hrelay : (d.ring r).relay = .released) :
    ringInsert r d = ((d.setRing r { d.ring r with
      relay := .inserting (d.now + ms (d.get 0x40000E r)), candidate := true }).put 0x400101 r 7).emit
        (.pin "RING_BYP_N" r false d.now) := by
  have htake : (!d.on 0x400001 r || d.power != 2 || (d.ring r).relay != .released) = false := by simp [hon, hrun, hrelay]
  simp only [ringInsert, htake, Bool.false_eq_true, if_false]
  rw [Dev.bypass, put_now, updRing_eq, setRing_now]
  rfl

theorem ringGo_pass : d.ringGo r 7 = d.put 0x400101 r 7 := by
  simp only [Dev.ringGo, rsListen, rsIntegrating, Nat.reduceEqDiff, or_self, if_false]

theorem ringRemove_of_inserted (hout : d.on 0x400001 r = false ∨ d.power ≠ 2) (hrelay : (d.ring r).relay = .inserted) :
    ringRemove r d = ((d.setRing r { d.ring r with
      relay := .removing (d.now + ms (d.get 0x40000E r)) }).put 0x400101 r 7).emit (.pin "RING_BYP_N" r true d.now) := by
  have htake : (d.on 0x400001 r && d.power == 2 || (d.ring r).relay == .released) = false := by
    rcases hout with h | h <;> simp [h, hrelay]
  simp only [ringRemove, htake, Bool.false_eq_true, if_false]
  simp only [hrelay]
  rw [show rsPass = 7 from rfl, ringGo_pass, Dev.bypass, put_now, updRing_eq, setRing_now]

/-- To listen is to forget the proposal and the leader, and to begin to wait. -/
theorem ringGo_listen : d.ringGo r 1 =
    (((((d.put 0x400101 r 1).updRing r fun x => { x with prop := none, good := 0 }).put 0x400108 r 0).put 0x400102 r 0).updRing r
      fun x => { x with t0 := d.now }) := by
  simp only [Dev.ringGo, rsListen, true_or, if_true]
  rw [put_now, updRing_eq (d.put 0x400101 r 1), setRing_now, put_now]

theorem relaySettle_of_inserting {t : Nat} (h : (d.ring r).relay = .inserting t) :
    relaySettle r d = ((d.at_ t).setRing r { d.ring r with relay := .inserted }).ringGo r 1 := by
  simp only [relaySettle, h]
  rw [updRing_eq, at_ring]
  rfl

theorem relaySettle_of_removing {t : Nat} (h : (d.ring r).relay = .removing t) : relaySettle r d =
    ((((((d.at_ t).setRing r (d.ring r).down).put 0x400101 r 0).put 0x400102 r 0).put 0x400108 r 0).put 0x40010B r 0) := by
  simp only [relaySettle, h]
  rw [at_ring]
  rfl

/-! ### Start-up -/

/-- A candidate that has heard nothing for 2 ms waits. -/
theorem ringSilenceTimeout_of_listen (hstate : d.ringState r = 1) (hstart : d.get 0x400004 r = 1) (hcand : (d.ring r).candidate = true) :
    ringSilenceTimeout r d =
      let e := d.at_ ((if (d.ring r).lastValid < (d.ring r).t0 then (d.ring r).t0 else (d.ring r).lastValid) + ms 2)
      (e.setRing r { d.ring r with t0 := e.now }).put 0x400101 r 2 := by
  have htake : (decide (d.get 0x400004 r = 1) && (d.ring r).candidate) = true := by simp [hstart, hcand]
  simp only [ringSilenceTimeout, hstate, show (1 = rsListen) = True by decide, if_true, htake, and_true]
  rw [updRing_eq, at_ring]
  rfl

theorem ringSilenceTimeout_of_integrating (hstate : d.ringState r = 4) :
    ringSilenceTimeout r d = (d.at_ ((d.ring r).lastValid + ms 2)).ringGo r 1 := by
  simp only [ringSilenceTimeout, hstate, show (4 = rsListen) = False by decide, show (4 = rsIntegrating) = True by decide, if_true,
    if_false, and_false]
  rfl

theorem ringSilenceTimeout_of_follower (hstate : d.ringState r = 5) :
    ringSilenceTimeout r d = (d.at_ ((d.ring r).lastValid + 3 * d.ringPeriod r)).ringGo r 1 := by
  simp only [ringSilenceTimeout, hstate, show (5 = rsListen) = False by decide, show (5 = rsIntegrating) = False by decide,
    show (5 = rsFollower) = True by decide, if_true, if_false, and_false]
  rfl

theorem coldStartWait_of_waiting (hstate : d.ringState r = 2) : coldStartWait r d =
    let e := d.at_ ((d.ring r).t0 + ns (d.nodeId r * d.get 0x40000B r))
    (((e.setRing r { d.ring r with sent := 0 }).put 0x400101 r 3).put 0x400102 r (d.nodeId r)).put 0x400103 r (d.get 0x40000C r) := by
  have hwait : ¬ d.ringState r ≠ rsWaiting := not_not.mpr hstate
  have hnode : ∀ t x, ((d.at_ t).setRing r x).nodeId r = d.nodeId r := fun _ _ => rfl
  simp only [coldStartWait, hwait, if_false]
  rw [updRing_eq, at_ring, hnode, setRing_get, at_get]
  rfl

/-! ### Modes, polls and the mailbox -/

/-- A leader's decided proposal becomes its mode at its cycle's start; another one is dropped. -/
theorem ringModeSwitch_of_leader {p : RingProposal} (hstate : d.ringState r = 6) (hp : (d.ring r).prop = some p) :
    ringModeSwitch r d =
      let e := ((d.at_ ((d.ringCycle r).startAt p.cycle).toNat).setRing r { d.ring r with prop := none }).put 0x400108 r 0
      if p.decision = 2 then e.put 0x400103 r p.target else e := by
  have hlead : (d.ringState r == rsLeader) = true := beq_iff_eq.mpr hstate
  simp only [ringModeSwitch, hp, hlead, if_true, beq_iff_eq]
  rw [updRing_eq, at_ring]

theorem ringSlotPoll_of_own {w : Nat} (hw : d.ownSlotAt r = some w) (hq : d.get 0x400010 r < 262144)
    (hstate : (d.queue (d.get 0x400010 r)).state = 1) : ringSlotPoll r d =
      let e := d.at_ (w - ns (d.get 0x40000F r))
      e.setQueue (d.get 0x400010 r) { d.queue (d.get 0x400010 r) with orrery := some 1, due := some e.now, deadline := w - us 2 } := by
  have hactive : ¬ (d.queue (d.get 0x400010 r)).state ≠ qActive := not_not.mpr hstate
  rw [ringSlotPoll, if_neg (not_le.mpr hq)]
  simp only [hw]
  rw [at_queue, if_neg hactive]

section
variable {cycle : Nat} {box : List Byte}

theorem ringMailbox_of_badCrc (hr : r < 2) (hcrc : ccitt (box.take (box.length - 2)) ≠ beAt box (box.length - 2) 2) :
    ringMailbox r cycle box d = d.inc 0x400307 r := by
  have hbox : d.takeBox r cycle box = (none, d.inc 0x400307 r) := if_pos hcrc
  simp only [ringMailbox, hr, if_true, hbox]

variable (hcrc : ccitt (box.take (box.length - 2)) = beAt box (box.length - 2) 2) (hdest : byteAt box 0 = d.nodeId r)
  (hcycle : (d.ring r).mbxCycle ≠ some cycle) (hlen : beAt box 2 2 + 6 ≤ box.length)
include hcrc hdest hcycle hlen

/-- A message for the node, not yet taken in this cycle, is taken out of its box. -/
theorem takeBox_of_own : d.takeBox r cycle box = (some (byteAt box 1, byteAt box 0 == 255, slice box 4 (beAt box 2 2)),
    d.setRing r { d.ring r with mbxCycle := some cycle }) := by
  have hmine : ¬ (byteAt box 0 ≠ d.nodeId r ∧ byteAt box 0 ≠ 255) := fun h => h.1 hdest
  simp only [Dev.takeBox, if_neg (not_not.mpr hcrc), if_neg hmine, if_neg hcycle, if_neg (not_lt.mpr hlen)]
  rfl

variable (hver : byteAt (slice box 4 (beAt box 2 2)) 0 = 1)
  (hbody : (slice box 4 (beAt box 2 2)).length = 24 + beAt (slice box 4 (beAt box 2 2)) 20 2) (hone : byteAt box 0 ≠ 255)
include hver hbody hone

/-- A response is kept to be read. -/
theorem ringMailbox_of_response (hr : r < 2) (hkind : (kmpRead (slice box 4 (beAt box 2 2))).kind = 2)
    (hroom : (d.ring r).received.length < 16) : ringMailbox r cycle box d =
      ((d.setRing r { d.ring r with mbxCycle := some cycle }).inc 0x400306 r).updRing r fun y =>
        { y with received := y.received ++ [(byteAt box 1, slice box 4 (beAt box 2 2))] } := by
  have hbcast : (byteAt box 0 == 255) = false := beq_false_of_ne hone
  have hkeep : ∀ x : Ring, x.received.length < 16 → (d.setRing r x).keepResponse r (byteAt box 1) (slice box 4 (beAt box 2 2)) =
      ((d.setRing r x).inc 0x400306 r).updRing r fun y =>
        { y with received := y.received ++ [(byteAt box 1, slice box 4 (beAt box 2 2))] } := by
    intro x hx
    rw [Dev.keepResponse, setRing_ring_same, if_neg (not_le.mpr hx)]
  simp only [ringMailbox, hr, if_true, takeBox_of_own hcrc hdest hcycle hlen, hver, hbody, hkind, hbcast, ne_eq, not_true, false_or,
    false_and, and_false, if_false, Bool.false_eq_true]
  exact hkeep _ hroom

/-- A request starts on the ring's path. -/
theorem ringMailbox_of_request {rf : Fin 2} (hr : rf.val = r) (hkind : (kmpRead (slice box 4 (beAt box 2 2))).kind = 1)
    (hroom : (d.ring r).responses.length < 16) (hreach : d.reach (.ring rf (byteAt box 1)) = true) : ringMailbox r cycle box d =
      ((d.setRing r { d.ring r with mbxCycle := some cycle }).inc 0x400306 r).start (.ring rf (byteAt box 1))
        (kmpRead (slice box 4 (beAt box 2 2))).req := by
  have hbcast : (byteAt box 0 == 255) = false := beq_false_of_ne hone
  have hrf : (if r = 0 then (0 : Fin 2) else 1) = rf := by
    subst hr
    fin_cases rf <;> rfl
  have hlt : r < 2 := by omega
  have hroom' : (d.setRing r { d.ring r with mbxCycle := some cycle }).boxRoom r = true := by
    rw [Dev.boxRoom, setRing_ring_same]
    exact decide_eq_true hroom
  have hreach' : ∀ x, (d.setRing r x).reach (.ring rf (byteAt box 1)) = true := fun _ => hreach
  simp only [ringMailbox, hlt, if_true, takeBox_of_own hcrc hdest hcycle hlen, hver, hbody, hkind, hbcast, hrf, hreach', ne_eq,
    not_true, false_or, false_and, if_false, Bool.false_eq_true, Bool.not_true, Bool.or_false]
  rw [hroom', if_neg (by decide), if_neg (by decide)]
end
end

/-- Settles O32: each event of a ring takes the branch that its hypotheses name. -/
theorem ringStates : Obligations.RingStates := by
  intro s r hpor x st
  refine ⟨fun hon hrun hrelay => ?_, fun hout hrelay => ?_, ?settle, fun d => ringGo_listen, ?wait, fun hstate => ?_, fun hstate => ?_,
    fun hstate => ?_, ?switch, ?poll, fun p => ⟨?_, ?_⟩, ?mailbox, fun cycle box hcrc => ?_⟩
  case settle =>
    intro t d
    exact ⟨fun h => gives_of_exec_eq_run rfl hpor (relaySettle_of_inserting h),
      fun h => gives_of_exec_eq_run rfl hpor (relaySettle_of_removing h)⟩
  case wait =>
    intro hstate hstart hcand d
    exact gives_of_exec_eq_run rfl hpor (ringSilenceTimeout_of_listen hstate hstart hcand)
  case switch =>
    intro p hstate hp d
    exact ⟨fun h => gives_of_exec_eq_run rfl hpor ((ringModeSwitch_of_leader hstate hp).trans (if_pos h)),
      fun h => gives_of_exec_eq_run rfl hpor ((ringModeSwitch_of_leader hstate hp).trans (if_neg h))⟩
  case poll =>
    intro w hw q d hq hstate
    exact gives_of_exec_eq_run rfl hpor (ringSlotPoll_of_own hw hq hstate)
  case mailbox =>
    intro cycle box hcrc hdest hcycle hlen body path d hver hbody hone
    exact ⟨fun hkind hroom => gives_of_exec_eq_run rfl hpor
        (ringMailbox_of_response hcrc hdest hcycle hlen hver hbody hone r.isLt hkind hroom),
      fun hkind hroom hreach => gives_of_exec_eq_run rfl hpor
        (ringMailbox_of_request hcrc hdest hcycle hlen hver hbody hone rfl hkind hroom hreach)⟩
  · exact gives_of_exec_eq_run rfl hpor (ringInsert_of_released hon hrun hrelay)
  · exact gives_of_exec_eq_run rfl hpor (ringRemove_of_inserted hout hrelay)
  · exact gives_of_exec_eq_run rfl hpor (ringSilenceTimeout_of_integrating hstate)
  · exact gives_of_exec_eq_run rfl hpor (ringSilenceTimeout_of_follower hstate)
  · exact gives_of_exec_eq_run rfl hpor (coldStartWait_of_waiting hstate)
  · fin_cases p <;> exact gives_of_exec_eq_run rfl hpor rfl
  · fin_cases p <;> exact gives_of_exec_eq_run rfl hpor rfl
  · exact gives_of_exec_eq_run rfl hpor (ringMailbox_of_badCrc r.isLt hcrc)

end Sys2Proof.Machine

/-! PROOFS. The ring: a cycle originated by its leader, and a copy received. -/
namespace Sys2Proof.Machine

/-! ### A cycle originated -/

section
variable {d : Dev} {r edge : Nat} {n : Int} {cs start cycle : Nat} {e : Dev}

/-- A leader without a proposal marks its cycle; unless a port's replica is not synchronised, Tether's schedule then decides. -/
theorem ringCycleOriginate_of_leader (hstate : d.ringState r = 6) (hsafe : d.ringSafe r = false) (hprop : (d.ring r).prop = none)
    (hn : n = (d.ringCycle r).firstFrom d.now) (hnew : (d.ringCycle r).startAt n ≠ (d.ring r).lastStart)
    (hcs : cs = ((d.ringCycle r).startAt n).toNat) (hstart : start = cs + edge % d.ringClock r)
    (hcycle : cycle = (n % (2 ^ 64 : Nat)).toNat)
    (he : e = (d.at_ start).updRing r fun x => { x with lastStart := cs, babbled := false, babble := if x.babbled then x.babble else 0 })
    (hboth : (d.ring r).bothNow cycle < 16) (hsync : e.ringSync r 0 = true ∧ e.ringSync r 1 = true) (himg : imgOk (e.activeImage r) = true) :
    ringCycleOriginate r edge d =
      if !e.guardStart r n start (e.activeImage r) then (e.ringBabble r 0).ringBabble r 1 else
        let o := e.chooseOut r cycle (e.activeImage r)
        let f := (o.2.emit (.ringCopy r 1 (o.2.buildFrame r cycle start 1 false (e.activeImage r) o.1) true start)).emit
          (.ringCopy r 0 (o.2.buildFrame r cycle start 1 true (e.activeImage r) o.1) true start)
        (f.finishSlot o.1.entry 0).updRing r fun x => { x with out := some { o.1 with entry := none, copies := 2 } } := by
  have hlead : ¬ (d.ringState r ≠ rsColdStart ∧ d.ringState r ≠ rsLeader) := fun h => h.2 hstate
  have hcold : ¬ d.ringState r = rsColdStart := by rw [hstate]; decide
  have hcold' : (d.ringState r == rsColdStart) = false := beq_false_of_ne hcold
  have hdecide : ∀ t c u, (d.at_ t).ringDecide r c u = d.at_ t := by
    intro t c u
    simp only [Dev.ringDecide, at_ring, hprop]
  have himage : (d.at_ start).activeImage r = e.activeImage r := by rw [he]; rfl
  have hgo : (!e.ringSync r 0 || !e.ringSync r 1 || !imgOk (e.activeImage r)) = false := by simp [hsync, himg]
  simp only [ringCycleOriginate, if_neg hlead, hsafe, hcold, hcold', ← hn, if_neg hnew, ← hcs, ← hstart, ← hcycle, hdecide, at_ring,
    Bool.false_and, Bool.false_eq_true, if_false, decide_false, not_le.mpr hboth, himage, ← he]
  rw [hgo, if_neg Bool.false_ne_true]
end

/-! ### A copy received, part by part -/

/-- A copy is counted and its frame time noted. -/
def Dev.copyArrived (d : Dev) (r p rx tx : Nat) : Dev :=
  ((d.at_ (shiftTime rx (- (d.rep (ringRep r p)).err))).put 0x400209 (ringElem r p) ((tx - rx) / 256)).countCopy r p 0

/-- A copy of a new cycle ends the cycle before it. -/
def Dev.copyOpens (d : Dev) (r : Nat) (b : List Byte) (ctl : Bool) : Dev :=
  if !ctl then d else
    (if (d.ring r).newCycle (rfCycle b) then
      let gap := match (d.ring r).cyc, (d.ring r).prev with
        | some c, some q => if q.leader = rfLeader b ∧ rfCycle b > c.cycle + 1 then rfCycle b - c.cycle - 1 else 0
        | _, _ => 0
      (d.endCycle r gap).beginCycle r b
    else d)

/-- Is a copy one of the present cycle? -/
def Dev.copyLive (d : Dev) (r : Nat) (b : List Byte) (ctl : Bool) : Bool :=
  match (d.ring r).cyc with
  | some c => ctl && c.cycle == rfCycle b
  | none => false

/-- Has the present cycle had no valid copy yet? -/
def Dev.copyFresh (d : Dev) (r : Nat) : Bool :=
  !(match (d.ring r).cyc with
    | some c => c.counted
    | none => true)

/-- A copy is judged: invalid, the first valid one of its cycle, or a further one. -/
def Dev.copyJudged (d : Dev) (r p : Nat) (b : List Byte) (valid first origin wrapped live : Bool) : Dev :=
  let d := if !valid then d.countCopy r p 3 else if first then d.countCopy r p 1 else d.countCopy r p 2
  let d := if first then
      d.updRing r (fun x => { x with cyc := x.cyc.map (fun c => { c with counted := true }) }) else d
  let d := if valid then (d.updRing r (fun x => { x with lastValid := d.now })).put 0x400104 r (rfCycle b) else d
  let d := if valid && !origin then d.put 0x400106 r (rfLoop b) else d
  if live && wrapped then
      d.updRing r (fun x => { x with cyc := x.cyc.map (fun c => { c with wrapped := true }) }) else d

/-- What a copy tells: the ring's times, its leader, and a proposal. -/
def Dev.copyTold (d : Dev) (r p rx tx : Nat) (b : List Byte) (valid first origin wrapped live : Bool) : Dev :=
  let d := if valid && !wrapped && live then
      (if origin then (if d.foreignCopy r b then d else d.measureLoop r rx b)
       else d.noteArrival r p rx (tx - rx)) else d
  let d := if first then d.startUp r b else d
  if valid then d.readProposal r b else d

/-- A copy's slots are read, and it is passed on. -/
def Dev.copyPassed (d : Dev) (r p : Nat) (b seen : List Byte) (good : Bool) (rx tx : Nat) (st : Nat)
    (hdr valid origin wrapped ctl live : Bool) : List TakenSlot × Dev :=
  let act := d.get 0x400103 r
  let rd := if live && rfMode b == act && st != rsPass then d.readSlots r p rx seen (d.activeImage r) else ([], d)
  let d := if ctl && rfMode b != act then rd.2.inc 0x400305 r else rd.2
  let d := if origin then d else d.forwardCopy r p b good hdr rx tx
  let d := if valid && !wrapped then d.updRing r (fun x => { x with guard_ :=
      if p = 0 then { x.guard_ with prevA := some rx } else { x.guard_ with prevB := some rx } }) else d
  (rd.1, d)

/-- A copy's reception is these parts, one after the other. -/
theorem ringCopyReceive_eq (r p : Nat) (b seen : List Byte) (good : Bool) (rx tx : Nat) (d : Dev) :
    ringCopyReceive r p b seen good rx tx d =
      let st := d.ringState r
      if st = rsDisabled then ([], d) else
      let d := d.copyArrived r p rx tx
      let hdr := d.copyHeader r b
      let wrapped := rfCopyA b == (p == 0)
      let origin := st == rsLeader || st == rsColdStart
      let ctl := d.copyCtrl r b
      let d := d.copyOpens r b ctl
      let live := d.copyLive r b ctl
      let first := live && (hdr && good) && d.copyFresh r
      ((d.copyJudged r p b (hdr && good) first origin wrapped live).copyTold r p rx tx b (hdr && good) first origin wrapped live).copyPassed
        r p b seen good rx tx st hdr (hdr && good) origin wrapped ctl live := rfl

/-! ### What the parts leave of a ring -/

/-- The parts of a ring's record that its integration reports. -/
def Ring.seen (x : Ring) : Nat × Option RingPrev × Bool × Bool := (x.lastValid, x.prev, x.upA, x.upB)

theorem Ring.seen_iff {x : Ring} {t : Nat} {q : Option RingPrev} {a b : Bool} :
    x.seen = (t, q, a, b) ↔ x.lastValid = t ∧ x.prev = q ∧ x.upA = a ∧ x.upB = b := by simp [Ring.seen]

/-- The objects of a ring that its integration rests on: RING_ID, state, leader, mode and cycle number. -/
def ringWatched : List Nat := [0x400005, 0x400101, 0x400102, 0x400103, 0x400104]

/-- The watched objects, the reported parts, the time and what has been emitted stay as they are. -/
structure RingKeeps (r : Nat) (x y : Dev) : Prop where
  get : ∀ o ∈ ringWatched, y.get o r = x.get o r
  seen : (y.ring r).seen = (x.ring r).seen
  getB : y.getB = x.getB
  out : y.out = x.out
  now : y.now = x.now

namespace RingKeeps
variable {r : Nat} {x y z : Dev}

theorem refl (r : Nat) (x : Dev) : RingKeeps r x x := ⟨fun _ _ => rfl, rfl, rfl, rfl, rfl⟩

theorem trans (h : RingKeeps r x y) (h' : RingKeeps r y z) : RingKeeps r x z :=
  ⟨fun o ho => (h'.get o ho).trans (h.get o ho), h'.seen.trans h.seen, h'.getB.trans h.getB, h'.out.trans h.out, h'.now.trans h.now⟩

/-- An object that is not watched may be written. -/
theorem put (h : RingKeeps r x y) {o e : Nat} (v : Nat) (hr : r < 4294967296) (he : e < 4294967296) (ho : o ∉ ringWatched) :
    RingKeeps r x (y.put o e v) :=
  ⟨fun o' ho' => (put_get_obj y v he hr (by rintro rfl; exact ho ho')).trans (h.get o' ho'), h.seen, h.getB, h.out, h.now⟩

theorem inc (h : RingKeeps r x y) {o e : Nat} (hr : r < 4294967296) (he : e < 4294967296) (ho : o ∉ ringWatched) :
    RingKeeps r x (y.inc o e) := h.put _ hr he ho

/-- A part that is not reported may be changed. -/
theorem updRing (h : RingKeeps r x y) {f : Ring → Ring} (hf : (f (y.ring r)).seen = (y.ring r).seen) :
    RingKeeps r x (y.updRing r f) :=
  ⟨h.get, by rw [updRing_eq, setRing_ring_same, hf]; exact h.seen, h.getB, h.out, h.now⟩

theorem ringState (h : RingKeeps r x y) : y.ringState r = x.ringState r := h.get 0x400101 (by decide)

theorem lastValid (h : RingKeeps r x y) : (y.ring r).lastValid = (x.ring r).lastValid := congrArg (·.1) h.seen

theorem prev (h : RingKeeps r x y) : (y.ring r).prev = (x.ring r).prev := congrArg (·.2.1) h.seen

theorem upA (h : RingKeeps r x y) : (y.ring r).upA = (x.ring r).upA := congrArg (·.2.2.1) h.seen

theorem upB (h : RingKeeps r x y) : (y.ring r).upB = (x.ring r).upB := congrArg (·.2.2.2) h.seen

/-- What a good CTRL_CRC and header are judged by stays. -/
theorem copyCtrl (h : RingKeeps r x y) (b : List Byte) : y.copyCtrl r b = x.copyCtrl r b := by
  rw [Dev.copyCtrl, h.get _ (by decide)]
  rfl

theorem copyHeader (h : RingKeeps r x y) (b : List Byte) : y.copyHeader r b = x.copyHeader r b := by
  rw [Dev.copyHeader, h.get _ (by decide), Dev.ringImage, h.getB]
  rfl

theorem countCopy (h : RingKeeps r x y) {p k : Nat} (hr : r < 2) (hp : p < 2) (hk : k < 4) : RingKeeps r x (y.countCopy r p k) := by
  refine (h.updRing (f := fun x => { x with
    received4 := tput 0 x.received4 (4 * p + k) (tget 0 x.received4 (4 * p + k) + 1) }) rfl).inc (by omega) ?_ ?_
  · unfold ringElem
    omega
  · interval_cases k <;> decide

end RingKeeps

theorem copyCtrl_of_copyHeader {d : Dev} {r : Nat} {b : List Byte} (h : d.copyHeader r b = true) : d.copyCtrl r b = true := by
  simp only [Dev.copyHeader, Bool.and_eq_true] at h
  simp only [Dev.copyCtrl, Bool.and_eq_true]
  tauto

theorem copyHeader_of_not_copyCtrl {d : Dev} {r : Nat} {b : List Byte} (h : d.copyCtrl r b = false) : d.copyHeader r b = false := by
  by_contra hc
  rw [copyCtrl_of_copyHeader (Bool.eq_true_of_not_eq_false hc)] at h
  exact Bool.false_ne_true h.symm

/-- With no injection armed for its side a copy is received as it came. -/
theorem ringCopyIn_of_unarmed {d : Dev} {r p rx tx : Nat} {b : List Byte} {good : Bool} (h17 : d.armedSlot 17 (2 * r + p) 0 = none)
    (h16 : d.armedSlot 16 (2 * r + p) 0 = none) : ringCopyIn r p b good rx tx d =
      let c := ringCopyReceive r p b b good rx tx d
      c.1.foldl (fun d x => d.slotTaken x) c.2 := by
  have hseen : d.slotsSeen r p b = (b, d) := by
    unfold Dev.slotsSeen Dev.fire
    rw [h16]
    split_ifs
    · rfl
    · split <;> rfl
  simp only [ringCopyIn, Dev.fire, h17, hseen, Option.isNone_none, Bool.and_true]

/-! ### A copy without a good CTRL_CRC -/

section
variable {d : Dev} {r p : Nat} {b seen : List Byte} {good : Bool} {rx tx : Nat}

theorem copyArrived_keeps (hr : r < 2) (hp : p < 2) :
    RingKeeps r (d.at_ (shiftTime rx (- (d.rep (ringRep r p)).err))) (d.copyArrived r p rx tx) :=
  ((RingKeeps.refl r _).put (o := 0x400209) (e := ringElem r p) _ (by omega) (by unfold ringElem; omega) (by decide)).countCopy hr hp
    (by decide)

/-- In state 7 a copy without a good CTRL_CRC of the ring is counted as invalid and passed on. -/
theorem ringCopyReceive_of_bad_ctrl (hr : r < 2) (hp : p < 2) (hstate : d.ringState r = 7) (hctrl : d.copyCtrl r b = false) :
    ringCopyReceive r p b seen good rx tx d =
      ([], ((d.copyArrived r p rx tx).countCopy r p 3).forwardCopy r p b good false rx tx) := by
  have hctl : (d.copyArrived r p rx tx).copyCtrl r b = false := ((copyArrived_keeps hr hp).copyCtrl b).trans hctrl
  have hhdr := copyHeader_of_not_copyCtrl hctl
  have hlive : (d.copyArrived r p rx tx).copyLive r b false = false := by
    unfold Dev.copyLive
    split <;> rfl
  rw [ringCopyReceive_eq]
  simp only [hstate, hctl, hhdr, Dev.copyOpens, hlive, Dev.copyJudged, Dev.copyTold, Dev.copyPassed, rsDisabled, rsLeader, rsColdStart,
    Bool.false_and, Bool.not_false, Bool.false_eq_true, if_false, if_true, Nat.reduceBEq, Bool.or_self, Nat.reduceEqDiff]
end

/-! ### The first copy that a listening node receives -/

section
variable {x : Dev} {r p : Nat} {b seen : List Byte} {rx tx : Nat}

/-- With no cycle under way a copy opens one. -/
theorem copyOpens_of_none (h : (x.ring r).cyc = none) : x.copyOpens r b true = x.beginCycle r b := by
  have hend : x.endCycle r 0 = x := by simp only [Dev.endCycle, h]
  simp only [Dev.copyOpens, Ring.newCycle, h, hend, Bool.not_true, Bool.false_eq_true, if_false, if_true]

/-- The cycle that a copy opens. -/
def openedCycle (b : List Byte) : RingCycle :=
  ⟨rfCycle b, rfStart b, none, none, 0, 0, rfLoop b, rfLoopValid b, false, false, false, false, false⟩

theorem beginCycle_cyc (x : Dev) (r : Nat) (b : List Byte) : ((x.beginCycle r b).ring r).cyc = some (openedCycle b) := by
  rw [Dev.beginCycle, updRing_eq, setRing_ring_same]
  rfl

theorem beginCycle_keeps (h : RingKeeps r y x) : RingKeeps r y (x.beginCycle r b) := h.updRing rfl

/-- The copy that opened a cycle is the first of it. -/
theorem beginCycle_first : (x.beginCycle r b).copyLive r b true = true ∧ (x.beginCycle r b).copyFresh r = true := by
  simp [Dev.copyLive, Dev.copyFresh, beginCycle_cyc, openedCycle]

/-- While one port's arrival is awaited the ring's clock stands. -/
theorem ringClockUse_of_awaited {c : RingCycle} (h : c.a = none ∨ c.b = none) : x.ringClockUse r c false = x := by
  unfold Dev.ringClockUse
  dsimp only
  split
  · rfl
  · rcases h with h | h
    · rw [h]
      cases c.b <;> rfl
    · rw [h]
      cases c.a <;> rfl

/-- The first arrival of a cycle is noted in it; the other port's is awaited. -/
theorem noteArrival_keeps {c : RingCycle} (hc : (x.ring r).cyc = some c) (ha : c.a = none) (hb : c.b = none) (f : Nat) :
    RingKeeps r x (x.noteArrival r p rx f) := by
  have hnoted : RingKeeps r x (x.updRing r fun x => { x with cyc := x.cyc.map fun c =>
      if p = 0 then { c with a := some rx, fa := f } else { c with b := some rx, fb := f } }) := (RingKeeps.refl r x).updRing rfl
  unfold Dev.noteArrival
  dsimp only
  split
  next c' hc' =>
    have hawait : c'.a = none ∨ c'.b = none := by
      rw [updRing_eq, setRing_ring_same, hc] at hc'
      obtain rfl := Option.some.inj hc'
      by_cases hp : p = 0
      · exact .inr (by dsimp only; rw [if_pos hp]; exact hb)
      · exact .inl (by dsimp only; rw [if_neg hp]; exact ha)
    rw [ringClockUse_of_awaited hawait]
    exact hnoted
  next => exact hnoted

theorem startUp_of_listen (hstate : x.ringState r = 1) (hprev : (x.ring r).prev = none) : x.startUp r b =
    (((((x.updRing r fun y => { y with prev := some ⟨rfLeader b, rfCycle b, rfStart b⟩, leaderSa := srcMac b }).updRing r fun y =>
      { y with prop := none }).put 0x400108 r 0).ringGo r rsIntegrating).put 0x400102 r (rfLeader b)) := by
  simp only [Dev.startUp, hstate, hprev, rsListen, rsLeader, rsColdStart, Nat.reduceBNe, Bool.and_self, true_or, if_true]

theorem ringGo_integrating (x : Dev) (r : Nat) : x.ringGo r rsIntegrating =
    ((x.put 0x400101 r 4).updRing r fun y => { y with prop := none, good := 0 }).put 0x400108 r 0 := by
  simp only [Dev.ringGo, rsListen, rsIntegrating, or_true, if_true, Nat.reduceEqDiff, if_false]

/-- A node that integrates reads a proposal without a change of its state. -/
theorem readProposal_keeps (hr : r < 2) (hstate : x.ringState r = 4) : RingKeeps r x (x.readProposal r b) := by
  unfold Dev.readProposal
  simp only [hstate, rsLeader, rsColdStart, Nat.reduceEqDiff, or_self, if_false]
  by_cases h0 : rfProposal b = 0
  · rw [if_pos h0]
    split
    · exact RingKeeps.refl r x
    · exact (RingKeeps.refl r x).put _ (by omega) (by omega) (by decide)
  · rw [if_neg h0]
    exact ((RingKeeps.refl r x).updRing rfl).put _ (by omega) (by omega) (by decide)

/-- A node that does not follow passes a copy on as it came. -/
theorem forwardCopy_of_integrating (hstate : x.ringState r = 4) (hown : (beAt b 12 2 == 0x88B6) = true) (hA : (x.ring r).upA = true)
    (hB : (x.ring r).upB = true) (hdr : Bool) : x.forwardCopy r p b true hdr rx tx =
      (x.inc 0x400205 (ringElem r p)).sendCopy r (1 - p) (rfCopyA b == (p == 0)) b true tx := by
  simp only [Dev.forwardCopy, hstate, hown, hA, hB, rsFollower, Nat.reduceBEq, Bool.false_and, Bool.false_eq_true, if_false, ite_self,
    Bool.not_true, Bool.true_or, Bool.and_self, Bool.not_false, if_true]

/-- A copy sent is emitted. -/
theorem sendCopy_of_not_wrapped (x : Dev) (r p : Nat) (b : List Byte) (good : Bool) (t : Nat) : x.sendCopy r p false b good t =
    (x.updRing r fun y => if p = 0 then { y with busyA := t + x.ringBytes r (b.length + 12) }
      else { y with busyB := t + x.ringBytes r (b.length + 12) }).emit (.ringCopy r p b good t) := by
  simp only [Dev.sendCopy, Bool.false_and, Bool.false_eq_true, if_false]
  rfl
/-- The first valid copy of a cycle is counted, and its cycle number reported. -/
theorem copyJudged_first (x : Dev) (r p : Nat) (b : List Byte) : x.copyJudged r p b true true false false true =
    ((((x.countCopy r p 1).updRing r fun y => { y with cyc := y.cyc.map fun c => { c with counted := true } }).updRing r fun y =>
      { y with lastValid := x.now }).put 0x400104 r (rfCycle b)).put 0x400106 r (rfLoop b) := by
  simp only [Dev.copyJudged, Bool.not_true, Bool.not_false, Bool.and_self, Bool.and_false, Bool.false_eq_true, if_true, if_false]
  rw [updRing_eq (x.countCopy r p 1), setRing_now, Dev.countCopy, inc_now, updRing_eq x, setRing_now]

/-- What the first valid copy makes of a listening node: it integrates to the copy's leader. -/
structure Integrates (r p : Nat) (b : List Byte) (tx : Nat) (x y : Dev) : Prop where
  state : y.ringState r = 4
  leader : y.get 0x400102 r = rfLeader b
  cycle : y.get 0x400104 r = rfCycle b
  lastValid : (y.ring r).lastValid = x.now
  prev : (y.ring r).prev = some ⟨rfLeader b, rfCycle b, rfStart b⟩
  out : y.out = x.out ++ [.ringCopy r (1 - p) b true tx]

/-- A listening node's part of the start-up: the state, the leader and the cycle that it takes over. -/
theorem startUp_facts {n : Dev} (hr : r < 2) (hstate : n.ringState r = 1) (hprev : (n.ring r).prev = none) {s : Dev}
    (hs : s = n.startUp r b) : s.ringState r = 4 ∧ s.get 0x400102 r = rfLeader b ∧ s.get 0x400104 r = n.get 0x400104 r ∧
      s.get 0x400103 r = n.get 0x400103 r ∧
      (s.ring r).seen = ((n.ring r).lastValid, some ⟨rfLeader b, rfCycle b, rfStart b⟩, (n.ring r).upA, (n.ring r).upB) ∧
      s.out = n.out := by
  have hr' : r < 4294967296 := by omega
  rw [startUp_of_listen hstate hprev, ringGo_integrating] at hs
  subst hs
  have hget : ∀ {x : Dev} {f : Ring → Ring} {o e : Nat}, (x.updRing r f).get o e = x.get o e := rfl
  refine ⟨?_, put_get_same _ _ _ _, ?_, ?_, ?_, ?_⟩
  · rw [Dev.ringState, put_get_obj _ _ hr' hr' (by decide), put_get_obj _ _ hr' hr' (by decide), hget]
    exact put_get_same _ _ _ _
  · rw [put_get_obj _ _ hr' hr' (by decide), put_get_obj _ _ hr' hr' (by decide), hget, put_get_obj _ _ hr' hr' (by decide),
      put_get_obj _ _ hr' hr' (by decide), hget, hget]
  · rw [put_get_obj _ _ hr' hr' (by decide), put_get_obj _ _ hr' hr' (by decide), hget, put_get_obj _ _ hr' hr' (by decide),
      put_get_obj _ _ hr' hr' (by decide), hget, hget]
  · simp only [updRing_eq, put_ring, setRing_ring_same, Ring.seen]
  · simp only [updRing_eq, put_out, setRing_out]

theorem countCopy_cyc (x : Dev) (r p k : Nat) : ((x.countCopy r p k).ring r).cyc = (x.ring r).cyc := by
  rw [Dev.countCopy, inc_ring, updRing_eq, setRing_ring_same]

/-- A copy judged as the first of its cycle: its cycle number and time are reported, and nothing else of what integration rests on. -/
theorem copyJudged_facts {x z : Dev} (hr : r < 2) (hp : p < 2) (hz : z = x.copyJudged r p b true true false false true) :
    (∀ o ∈ ringWatched, o ≠ 0x400104 → z.get o r = x.get o r) ∧ z.get 0x400104 r = rfCycle b ∧
      (z.ring r).seen = (x.now, (x.ring r).prev, (x.ring r).upA, (x.ring r).upB) ∧ z.out = x.out ∧
      (z.ring r).cyc = (x.ring r).cyc.map fun c => { c with counted := true } := by
  have hr' : r < 4294967296 := by omega
  rw [copyJudged_first] at hz
  have hw := ((RingKeeps.refl r x).countCopy hr hp (k := 1) (by decide)).updRing
    (f := fun y => { y with cyc := y.cyc.map fun c => { c with counted := true } }) rfl
  generalize hwx : ((x.countCopy r p 1).updRing r fun y => { y with cyc := y.cyc.map fun c => { c with counted := true } }) = w at hz hw
  have hcyc : (w.ring r).cyc = (x.ring r).cyc.map fun c => { c with counted := true } := by
    rw [← hwx, updRing_eq, setRing_ring_same, ← countCopy_cyc x r p 1]
  subst hz
  refine ⟨fun o ho hne => ?_, ?_, ?_, ?_, ?_⟩
  · have hloop : o ≠ 0x400106 := by
      rintro rfl
      exact absurd ho (by decide)
    rw [put_get_obj _ _ hr' hr' hloop, put_get_obj _ _ hr' hr' hne]
    exact hw.get o ho
  · rw [put_get_obj _ _ hr' hr' (by decide)]
    exact put_get_same _ _ _ _
  · rw [put_ring, put_ring, updRing_eq, setRing_ring_same, Ring.seen, hw.prev, hw.upA, hw.upB]
  · rw [put_out, put_out, updRing_eq, setRing_out]
    exact hw.out
  · rw [put_ring, put_ring, updRing_eq, setRing_ring_same]
    exact hcyc

/-- The first valid copy that a listening node receives makes it integrate to the copy's leader, and is passed on. -/
theorem ringCopyReceive_of_listen {d : Dev} (hr : r < 2) (hp : p < 2) (hstate : d.ringState r = 1) (hhdr : d.copyHeader r b = true)
    (hcyc : (d.ring r).cyc = none) (hprev : (d.ring r).prev = none) (hA : (d.ring r).upA = true) (hB : (d.ring r).upB = true)
    (hcopy : (rfCopyA b == (p == 0)) = false) (hmode : rfMode b ≠ d.get 0x400103 r) :
    ∃ y, ringCopyReceive r p b seen true rx tx d = ([], y) ∧ Integrates r p b tx (d.copyArrived r p rx tx) y := by
  have hr' : r < 4294967296 := by omega
  have harrived := copyArrived_keeps (d := d) (rx := rx) (tx := tx) hr hp
  rw [ringCopyReceive_eq]
  generalize hx : d.copyArrived r p rx tx = x at harrived
  have hxcyc : (x.ring r).cyc = none := by
    rw [← hx, Dev.copyArrived, countCopy_cyc, put_ring, at_ring]
    exact hcyc
  have hxhdr : x.copyHeader r b = true := (harrived.copyHeader b).trans hhdr
  have hxctl := copyCtrl_of_copyHeader hxhdr
  have hown : (beAt b 12 2 == 0x88B6) = true := by
    simp only [Dev.copyCtrl, Bool.and_eq_true] at hxctl
    exact hxctl.1.1
  obtain ⟨hlive, hfresh⟩ := beginCycle_first (x := x) (r := r) (b := b)
  have hbegun := beginCycle_keeps (b := b) (RingKeeps.refl r x)
  -- the copy is judged and timed, and starts the node up
  generalize hz : (x.beginCycle r b).copyJudged r p b true true false false true = z
  obtain ⟨hzget, hzcycle, hzseen, hzout, hzcyc⟩ := copyJudged_facts hr hp hz.symm
  obtain ⟨hzvalid, hzprev, hzA, hzB⟩ := Ring.seen_iff.mp hzseen
  rw [beginCycle_cyc] at hzcyc
  have hnoted := noteArrival_keeps (p := p) (rx := rx) hzcyc rfl rfl (tx - rx)
  generalize hn : z.noteArrival r p rx (tx - rx) = n at hnoted
  have hnget : ∀ o ∈ ringWatched, o ≠ 0x400104 → n.get o r = d.get o r := fun o ho hne => by
    rw [hnoted.get o ho, hzget o ho hne, hbegun.get o ho, harrived.get o ho, at_get]
  have hnprev : (n.ring r).prev = none := by
    rw [hnoted.prev, hzprev, hbegun.prev, harrived.prev, at_ring]
    exact hprev
  obtain ⟨htstate, htleader, htcycle, htmode, htseen, htout⟩ := startUp_facts (b := b) (n := n) hr
    ((hnget 0x400101 (by decide) (by decide)).trans hstate) hnprev rfl
  obtain ⟨htvalid, htprev, htA, htB⟩ := Ring.seen_iff.mp htseen
  generalize ht : n.startUp r b = t at htstate htleader htcycle htmode htout htvalid htprev htA htB
  -- the copy's proposal is read, and the copy passed on
  have hread := readProposal_keeps (b := b) hr htstate
  generalize hv : t.readProposal r b = v at hread
  have hmode' : (rfMode b == v.get 0x400103 r) = false := by
    rw [hread.get _ (by decide), htmode, hnget _ (by decide) (by decide)]
    exact beq_false_of_ne hmode
  have hread := hread.inc hr' hr' (o := 0x400305) (by decide)
  generalize hq : v.inc 0x400305 r = q at hread
  have hqA : (q.ring r).upA = true := by
    rw [hread.upA, htA, hnoted.upA, hzA, hbegun.upA, harrived.upA, at_ring]
    exact hA
  have hqB : (q.ring r).upB = true := by
    rw [hread.upB, htB, hnoted.upB, hzB, hbegun.upB, harrived.upB, at_ring]
    exact hB
  have hpass := forwardCopy_of_integrating (p := p) (b := b) (rx := rx) (tx := tx) (hread.ringState.trans htstate) hown hqA hqB true
  rw [hcopy, sendCopy_of_not_wrapped] at hpass
  have hsent := (hread.inc hr' (e := ringElem r p) (by unfold ringElem; omega) (o := 0x400205) (by decide)).updRing
    (f := fun y => if 1 - p = 0 then { y with busyA := tx + (q.inc 0x400205 (ringElem r p)).ringBytes r (b.length + 12) }
      else { y with busyB := tx + (q.inc 0x400205 (ringElem r p)).ringBytes r (b.length + 12) }) (by split <;> rfl)
  generalize hu : ((q.inc 0x400205 (ringElem r p)).updRing r fun y =>
    if 1 - p = 0 then { y with busyA := tx + (q.inc 0x400205 (ringElem r p)).ringBytes r (b.length + 12) }
      else { y with busyB := tx + (q.inc 0x400205 (ringElem r p)).ringBytes r (b.length + 12) }) = u at hpass hsent
  refine ⟨(u.emit (.ringCopy r (1 - p) b true tx)).updRing r fun x => { x with guard_ :=
      if p = 0 then { x.guard_ with prevA := some rx } else { x.guard_ with prevB := some rx } }, ?_, ?_⟩
  · simp only [hstate, hxhdr, hxctl, hcopy, copyOpens_of_none hxcyc, hlive, hfresh, hz, Dev.copyTold, hn, ht, hv, Dev.copyPassed, hmode',
      hq, hpass, rsDisabled, rsLeader, rsColdStart, Nat.reduceBEq, Nat.reduceEqDiff, Bool.and_self, Bool.not_false, Bool.or_self,
      Bool.false_eq_true, if_true, if_false, Bool.false_and, bne, Bool.and_false]
  · refine ⟨(hsent.get 0x400101 (by decide)).trans htstate, (hsent.get 0x400102 (by decide)).trans htleader, ?_, ?_, ?_, ?_⟩
    · exact (hsent.get 0x400104 (by decide)).trans (htcycle.trans ((hnoted.get 0x400104 (by decide)).trans hzcycle))
    · rw [updRing_eq, setRing_ring_same, emit_ring]
      exact hsent.lastValid.trans (htvalid.trans (hnoted.lastValid.trans (hzvalid.trans hbegun.now)))
    · rw [updRing_eq, setRing_ring_same, emit_ring]
      exact hsent.prev.trans htprev
    · rw [updRing_eq, setRing_out]
      show u.out ++ _ = _
      rw [hsent.out, htout, hnoted.out, hzout, hbegun.out]

end

/-- Settles O33: a leader's cycle and a copy's reception, each with its parts' lemmas. -/
theorem ringCopies : Obligations.RingCopies := by
  intro s r hpor
  refine ⟨?originate, ?receive⟩
  case originate =>
    intro edge hstate hsafe hprop hnew n cs start cycle d img hboth hsync0 hsync1 himg
    have h := ringCycleOriginate_of_leader (edge := edge) hstate hsafe hprop rfl hnew rfl rfl rfl rfl hboth ⟨hsync0, hsync1⟩ himg
    exact ⟨fun hguard => gives_of_exec_eq_run rfl hpor (h.trans (if_pos (congrArg (!·) hguard))),
      fun hguard => gives_of_exec_eq_run rfl hpor (h.trans (if_neg (by rw [hguard]; decide)))⟩
  case receive =>
    intro p b good rx tx h17 h16 d
    refine ⟨fun hstate hctrl => ?_, ?_⟩
    · refine gives_of_exec_eq_run (f := ringCopyIn r p b good rx tx) rfl hpor ((ringCopyIn_of_unarmed h17 h16).trans ?_)
      rw [ringCopyReceive_of_bad_ctrl r.isLt p.isLt hstate hctrl]
      rfl
    · intro hstate hhdr hgood hcyc hprev hA hB hcopy hmode
      subst hgood
      have hcopy' : (rfCopyA b == (p.val == 0)) = false := by
        refine beq_false_of_ne ?_
        fin_cases p <;> exact hcopy
      obtain ⟨y, hy, hi⟩ := ringCopyReceive_of_listen (seen := b) (rx := rx) (tx := tx) r.isLt p.isLt hstate hhdr hcyc hprev hA hB hcopy' hmode
      refine runs_of_exec_eq_run (g := ringCopyIn r p b true rx tx) rfl hpor ?_
      rw [ringCopyIn_of_unarmed h17 h16, hy]
      exact ⟨hi.state, hi.leader, hi.cycle, hi.lastValid, hi.prev, hi.out⟩

end Sys2Proof.Machine

/-! PROOFS. The signal engines: the register-form instructions and their lanes. -/
namespace Sys2Proof.Machine

/-! ### Lane operations on words -/

theorem ofInt_eq_toNat (w : Nat) (x : Int) : ofInt w x = (BitVec.ofInt w x).toNat := (BitVec.toNat_ofInt x).symm

theorem toInt_eq_toInt {w : Nat} (hw : 0 < w) (x : BitVec w) : toInt w x.toNat = x.toInt := by
  have hpow : 2 * 2 ^ (w - 1) = 2 ^ w := by
    rw [← pow_succ']
    congr 1
    omega
  have hx := x.isLt
  rw [toInt, Nat.mod_eq_of_lt hx, BitVec.toInt_eq_toNat_cond]
  split <;> split <;> first | rfl | omega

/-- An arithmetic shift is a division rounded down. -/
theorem ofInt_div_pow (w : Nat) (hw : 0 < w) (x : BitVec w) (k : Nat) :
    ofInt w (toInt w x.toNat / (2 ^ k : Nat)) = (x.sshiftRight k).toNat := by
  rw [toInt_eq_toInt hw, ofInt_eq_toNat, ← Int.shiftRight_eq_div_pow, ← BitVec.toInt_sshiftRight, BitVec.ofInt_toInt]

/-- The least and the greatest of 16 signed bits bound what saturates. -/
theorem sat16_eq (x : Int) :
    sat16 x = (BitVec.ofInt 16 (if x > 32767 then 32767 else if x < -32768 then -32768 else x)).toNat := by
  have hclamp : maxInt (-32768) (minInt 32767 x) = if x > 32767 then 32767 else if x < -32768 then -32768 else x := by
    unfold maxInt minInt
    split_ifs <;> omega
  rw [sat16, ofInt_eq_toNat, hclamp]

theorem word_lanes (a b : BitVec 32) (c : Nat) :
    laneAdd a.toNat b.toNat c = ((a + b).toNat, 0) ∧ laneSub a.toNat b.toNat c = ((a - b).toNat, 0) ∧
    laneMul a.toNat b.toNat c = ((a * b).toNat, 0) ∧ laneAnd a.toNat b.toNat c = ((a &&& b).toNat, 0) ∧
    laneOr a.toNat b.toNat c = ((a ||| b).toNat, 0) ∧ laneXor a.toNat b.toNat c = ((a ^^^ b).toNat, 0) ∧
    laneShl a.toNat b.toNat c = ((a <<< (b.toNat % 32)).toNat, 0) ∧ laneShr a.toNat b.toNat c = ((a >>> (b.toNat % 32)).toNat, 0) ∧
    laneSra a.toNat b.toNat c = ((a.sshiftRight (b.toNat % 32)).toNat, 0) := by
  refine ⟨?_, ?_, ?_, ?_, ?_, ?_, ?_, ?_, ?_⟩
  · rw [laneAdd, BitVec.toNat_add]
  · rw [laneSub, BitVec.toNat_sub, Nat.mod_eq_of_lt b.isLt, Nat.add_comm]
  · rw [laneMul, BitVec.toNat_mul]
  · rw [laneAnd, BitVec.toNat_and]
  · rw [laneOr, BitVec.toNat_or]
  · rw [laneXor, BitVec.toNat_xor]
  · rw [laneShl, BitVec.toNat_shiftLeft]
  · rw [laneShr, BitVec.toNat_ushiftRight]
  · rw [laneSra, ofInt_div_pow 32 (by decide)]

theorem packed_lanes (a b : BitVec 16) (c : Nat) :
    let sat := fun (x : Int) => (BitVec.ofInt 16 (if x > 32767 then 32767 else if x < -32768 then -32768 else x)).toNat
    packAdd a.toNat b.toNat c = (sat (a.toInt + b.toInt), 0) ∧ packSub a.toNat b.toNat c = (sat (a.toInt - b.toInt), 0) ∧
    packMul a.toNat b.toNat c = (sat (a.toInt * b.toInt / 32768), 0) ∧ packAnd a.toNat b.toNat c = ((a &&& b).toNat, 0) ∧
    packOr a.toNat b.toNat c = ((a ||| b).toNat, 0) ∧ packXor a.toNat b.toNat c = ((a ^^^ b).toNat, 0) ∧
    packShl a.toNat b.toNat c = ((a <<< (b.toNat % 16)).toNat, 0) ∧ packShr a.toNat b.toNat c = ((a >>> (b.toNat % 16)).toNat, 0) ∧
    packSra a.toNat b.toNat c = ((a.sshiftRight (b.toNat % 16)).toNat, 0) := by
  have hint := fun x : BitVec 16 => toInt_eq_toInt (by decide) x
  refine ⟨?_, ?_, ?_, ?_, ?_, ?_, ?_, ?_, ?_⟩
  · rw [packAdd, hint, hint, sat16_eq]
  · rw [packSub, hint, hint, sat16_eq]
  · rw [packMul, hint, hint, sat16_eq]
  · rw [packAnd, BitVec.toNat_and]
  · rw [packOr, BitVec.toNat_or]
  · rw [packXor, BitVec.toNat_xor]
  · rw [packShl, BitVec.toNat_shiftLeft]
  · rw [packShr, BitVec.toNat_ushiftRight]
  · rw [packSra, ofInt_div_pow 16 (by decide)]

/-! ### Lanes of a vector -/

/-- Lane `j` of a mapped operation is the operation on the operands' lanes `j`. -/
theorem laneOf_mapLanes (w : Nat) {n : Nat} (g : Lane) (a b c : Nat) {j : Nat} (hj : j < n) :
    laneOf w (mapLanes w n g a b c).1 j = (g (laneOf w a j) (laneOf w b j) (laneOf w c j)).1 % 2 ^ w := by
  simp [mapLanes, laneOf_ofLanes, hj]

/-- Flags gathered into others stay, and take in those of every lane. -/
theorem foldl_or_flags (l : List (Nat × Nat)) (x : Nat) :
    x ||| l.foldl (fun x y => x ||| y.2) x = l.foldl (fun x y => x ||| y.2) x ∧
      ∀ y ∈ l, y.2 ||| l.foldl (fun x y => x ||| y.2) x = l.foldl (fun x y => x ||| y.2) x := by
  induction l generalizing x with
  | nil => simp
  | cons z l ih =>
    obtain ⟨hx, hl⟩ := ih (x ||| z.2)
    have hmore : x ||| (x ||| z.2) = x ||| z.2 := by rw [← Nat.lor_assoc, Nat.or_self]
    have hz : z.2 ||| (x ||| z.2) = x ||| z.2 := by rw [Nat.lor_comm x, ← Nat.lor_assoc, Nat.or_self]
    rw [List.foldl_cons]
    refine ⟨?_, fun y hy => ?_⟩
    · rw [← hx, ← Nat.lor_assoc, hmore]
    · rcases List.mem_cons.mp hy with rfl | hy
      · rw [← hx, ← Nat.lor_assoc, hz]
      · exact hl y hy

theorem flags_mapLanes (w : Nat) {n : Nat} (g : Lane) (a b c : Nat) {j : Nat} (hj : j < n) :
    (g (laneOf w a j) (laneOf w b j) (laneOf w c j)).2 ||| (mapLanes w n g a b c).2 = (mapLanes w n g a b c).2 :=
  (foldl_or_flags _ 0).2 _ (List.mem_map.mpr ⟨j, List.mem_range.mpr hj, rfl⟩)

/-! ### Registers -/

theorem getS_zero (x : Engine) : x.getS 0 = 0 := if_pos rfl

theorem setS_zero (x : Engine) (v t : Nat) : x.setS 0 v t = x := if_pos rfl

theorem setS_getS_same (x : Engine) {k : Nat} (hk : k ≠ 0) (v t : Nat) : (x.setS k v t).getS k = v % 2 ^ 32 := by
  rw [Engine.setS, if_neg hk, Engine.getS, if_neg hk]
  exact tget_tput_same _ _ _ _

theorem setS_getS_ne (x : Engine) {k q : Nat} (hk : k ≠ 0) (hq : q ≠ k) (v t : Nat) : (x.setS k v t).getS q = x.getS q := by
  rw [Engine.setS, if_neg hk, Engine.getS, Engine.getS]
  split_ifs
  · rfl
  · exact tget_tput_ne _ _ _ _ hq

/-- Settles O35: the lane functions agree with the bit vectors' own, and a mapped operation is the operation lane by lane. -/
theorem engineLanes : Obligations.EngineLanes :=
  ⟨word_lanes, packed_lanes, fun w _ g a b c _ hj => ⟨laneOf_mapLanes w g a b c hj, flags_mapLanes w g a b c hj⟩,
    fun x v t _ => ⟨getS_zero x, setS_zero x v t, fun _ hk => ⟨setS_getS_same x hk v t, fun hq => setS_getS_ne x hk hq v t⟩,
      fun k => ⟨Engine.setV_getV_same x k v t, fun hq => Engine.setV_getV_ne x v t hq⟩⟩⟩

/-! ### Instructions -/

/-- A register-form instruction that issues writes its operation's value. -/
theorem gives_of_regOp {c : Fin 128 → Instr} {s : State} {f : Fin 128} {op n lat t : Nat} {src : Ins → List (Bool × Nat)}
    {lane packed : Ins → Lane} {r : Run} (hc : exec (c f) s = run s (fun d => d.regOp f op src n lat lane packed)) (hpor : s.por = false)
    (h : s.dev.issues f op src r t) :
    Gives (c f) s (s.dev.setEngine f (r.result r.i.v (r.value (lane r.i) (packed r.i)) t n lat)) :=
  gives_of_exec_eq_run hc hpor (Dev.issue_of_issues h _)

/-- An instruction that issues and goes on sets its engine. -/
theorem gives_of_issue {c : Fin 128 → Instr} {s : State} {f : Fin 128} {op t : Nat} {src : Ins → List (Bool × Nat)} {r : Run}
    {body : Run → Nat → Dev → Dev} {e : Dev} (hc : exec (c f) s = run s (fun d => d.issue f op src body)) (hpor : s.por = false)
    (h : s.dev.issues f op src r t) (he : body r t s.dev = e) : Gives (c f) s e :=
  gives_of_exec_eq_run hc hpor ((Dev.issue_of_issues h _).trans he)

/-- Settles O34: every instruction is one issue whose body writes the value that R282 gives it. -/
theorem engineRegisterInstructions : Obligations.EngineRegisterInstructions := by
  intro s f r t hpor runs a b c out both lanes imm
  have hvalue : ∀ lane packed, r.value lane packed = both lane packed := by
    intro lane packed
    simp only [both, a, b, c, Run.value]
    by_cases hv : r.i.v <;> simp [hv]
  have hresult : ∀ vec val n lat, s.dev.setEngine f (r.result vec val t n lat) = s.dev.setEngine f (out vec val n lat) :=
    fun _ _ _ _ => rfl
  have hreg : ∀ {i : Fin 128 → Instr} {op n lat : Nat} {src : Ins → List (Bool × Nat)} {lane packed : Lane} (lane' packed' : Ins → Lane),
      exec (i f) s = run s (fun d => d.regOp f op src n lat lane' packed') → lane' r.i = lane → packed' r.i = packed →
      runs i op src (out r.i.v (both lane packed) n lat) := by
    intro i op n lat src lane packed lane' packed' hc hlane hpacked h
    rw [← hlane, ← hpacked, ← hvalue]
    exact gives_of_regOp hc hpor h
  have hlane : ∀ {i : Fin 128 → Instr} {op n lat : Nat} {src : Ins → List (Bool × Nat)} {lane packed : Lane},
      exec (i f) s = run s (fun d => d.regOp f op src n lat (fun _ => lane) (fun _ => packed)) →
      runs i op src (out r.i.v (both lane packed) n lat) := fun hc => hreg _ _ hc rfl rfl
  have himm : ∀ {i : Fin 128 → Instr} {op v : Nat} (g : Ins → Nat → Nat), exec (i f) s = run s (fun d => d.immOp f op g) →
      g r.i (r.x.getS r.i.a) = v → runs i op (fun i => [(false, i.a)]) (imm v) := by
    intro i op v g hc hv h
    rw [← hv]
    exact gives_of_issue hc hpor h rfl
  refine ⟨fun h => gives_of_issue rfl hpor h rfl, hlane rfl, hlane rfl, hlane rfl, hlane rfl, hlane rfl, hlane rfl, hlane rfl, hlane rfl,
    hlane rfl, himm (fun i a => ofInt 32 ((a : Int) + i.simm)) rfl rfl, himm (fun i a => a ||| i.imm) rfl rfl,
    himm (fun i _ => i.imm * 65536) rfl rfl,
    hlane rfl, hlane rfl, hlane rfl, hlane rfl, hlane rfl, hlane rfl, hlane rfl, hlane rfl, hlane rfl,
    hreg (fun i => laneFcmp i.fn i.v) (fun i => laneFcmp i.fn i.v) rfl rfl rfl, fun h => ?fcvt, hlane rfl,
    fun h => gives_of_issue rfl hpor h (hresult _ _ _ _), fun h => gives_of_issue rfl hpor h (hresult _ _ _ _),
    fun h => gives_of_issue rfl hpor h (hresult _ _ _ _)⟩
  case fcvt =>
    have hcvt : r.value (laneFcvt r.i.fn) (laneFcvt r.i.fn) = lanes (laneFcvt r.i.fn) := hvalue _ _
    rw [← hcvt]
    exact gives_of_issue rfl hpor h rfl

end Sys2Proof.Machine

/-! PROOFS. The signal engines: data memory, moves, branches, time, update records, events and the end of an activation. -/
namespace Sys2Proof.Machine

/-! ### Data accesses -/

/-- A write must also stay out of the image's own data. -/
theorem dataOk_write_iff (l : Loaded) (addr n align : Nat) :
    dataOk l addr n align true = true ↔ addr % align = 0 ∧ addr + n ≤ ikRegion l.image ∧ ikWork l.image ≤ addr := by
  simp [dataOk, and_assoc]

/-- A data access that breaks a rule of R276 stops the slot. -/
theorem Dev.access_of_not_dataOk {l : Loaded} {addr n align : Nat} {write : Bool} (h : ¬ dataOk l addr n align write = true) (d : Dev)
    (f : Nat) (k : Dev → Dev) : d.access f l addr n align write k = d.kernelFault f 6 := if_neg h

section
variable {c : Fin 128 → Instr} {s : State} {f : Fin 128} {op t : Nat} {src : Ins → List (Bool × Nat)} {r : Run}
  {addr : Run → Nat} {n align : Nat} {write : Bool} {body : Run → Nat → Dev → Dev}
  (hc : exec (c f) s = run s (fun d => d.issue f op src fun r t d => d.access f r.l (addr r) n align write (body r t)))
  (hpor : s.por = false) (h : s.dev.issues f op src r t)
include hc hpor h

theorem gives_of_access (hok : dataOk r.l (addr r) n align write = true) : Gives (c f) s (body r t s.dev) :=
  gives_of_issue hc hpor h (Dev.access_of_dataOk hok _ _ _)

theorem gives_fault_of_access (hok : ¬ dataOk r.l (addr r) n align write = true) : Gives (c f) s (s.dev.kernelFault f 6) :=
  gives_of_issue hc hpor h (Dev.access_of_not_dataOk hok _ _ _)
end

/-! ### Moves -/

theorem max_moved (t m : Nat) : (if m > t then m else t) = max t m := by
  split <;> omega

/-- What an XFER of `n` bytes needs of its local address. -/
def Run.xferLocal (r : Run) (n : Nat) : Prop :=
  32 ≤ n ∧ n ≤ 4096 ∧ n % 32 = 0 ∧ r.x.getS r.i.a % 32 = 0 ∧ r.x.getS r.i.a + n ≤ ikRegion r.l.image ∧
    (r.i.fn = 1 → ikWork r.l.image ≤ r.x.getS r.i.a)

theorem xferLocal_iff (r : Run) (n : Nat) : r.xferLocal n ↔
    ¬ (n < 32 ∨ n > 4096 ∨ n % 32 ≠ 0) ∧ dataOk r.l (r.x.getS r.i.a) n 32 (r.i.fn == 1) = true := by
  simp only [Run.xferLocal, dataOk, Bool.and_eq_true, decide_eq_true_eq, Bool.or_eq_true, Bool.not_eq_true', beq_eq_false_iff_ne]
  by_cases hf : r.i.fn = 1 <;> simp [hf] <;> omega

section
variable {d : Dev} {f : Nat} {r : Run} {t : Nat} (h : d.issues f 0x2C (fun i => [(false, i.a), (false, i.b), (false, i.c)]) r t)
include h

/-- A fifth move waits. -/
theorem xferOp_of_full (hfull : 4 ≤ r.x.moves.length) : xferOp f d = d := by
  rw [xferOp, Dev.issue_of_issues h]
  simp only [ge_iff_le, hfull, if_true]

theorem xferOp_of_not_local (hroom : r.x.moves.length < 4) (hlocal : ¬ r.xferLocal (r.x.getS r.i.c)) : xferOp f d = d.kernelFault f 6 := by
  rw [xferOp, Dev.issue_of_issues h]
  simp only [ge_iff_le, not_le.mpr hroom, if_false]
  by_cases hn : r.x.getS r.i.c < 32 ∨ r.x.getS r.i.c > 4096 ∨ r.x.getS r.i.c % 32 ≠ 0
  · rw [if_pos hn]
  · rw [if_neg hn]
    exact Dev.access_of_not_dataOk (fun hok => hlocal ((xferLocal_iff r _).mpr ⟨hn, hok⟩)) _ _ _

/-- Past its local checks an XFER needs a place in the shared blocks. -/
theorem xferOp_of_local (hroom : r.x.moves.length < 4) (hlocal : r.xferLocal (r.x.getS r.i.c)) : xferOp f d =
    if r.x.getS r.i.b + r.x.getS r.i.c > 128 * ikShared r.l.image ∨ r.x.getS r.i.b % 32 ≠ 0 then d.kernelFault f 7
    else d.setEngine f { r.x with
      moves := r.x.moves ++ [Move.xfer (max t r.x.moved + (16 + 8 * r.x.getS r.i.c / 32)) (r.x.getS r.i.a) (r.x.getS r.i.b)
        (r.x.getS r.i.c) (r.i.fn == 1)], pc := r.x.pc + 1, cyc := max t r.x.moved + 1 } := by
  obtain ⟨hn, hok⟩ := (xferLocal_iff _ _).mp hlocal
  rw [xferOp, Dev.issue_of_issues h]
  simp only [ge_iff_le, not_le.mpr hroom, if_false, if_neg hn, Dev.access_of_dataOk hok, max_moved]
  rfl
end

section
variable {d : Dev} {f : Nat} {r : Run} {t : Nat} (h : d.issues f 0x2E (fun i => [(false, i.a), (false, i.b)]) r t)
include h

theorem sgetOp_of_full (hfull : 4 ≤ r.x.moves.length) : sgetOp f d = d := by
  rw [sgetOp, Dev.issue_of_issues h]
  simp only [ge_iff_le, hfull, if_true]

theorem sgetOp_of_room (hroom : r.x.moves.length < 4) : sgetOp f d =
    d.access f r.l (r.x.getS r.i.a) 32 32 true fun d => d.setEngine f { r.x with
      moves := r.x.moves ++ [Move.sget (max t r.x.moved + (if regionOfSig (r.x.getS r.i.b % 2 ^ 25) = f / 32 then 150 else 400))
        (r.x.getS r.i.a) (r.x.getS r.i.b % 2 ^ 25) r.i.fn], pc := r.x.pc + 1, cyc := max t r.x.moved + 1 } := by
  rw [sgetOp, Dev.issue_of_issues h]
  simp only [ge_iff_le, not_le.mpr hroom, if_false, max_moved]
  rfl
end

/-! ### Branches -/

section
variable {d : Dev} {f op t : Nat} {r : Run} {rel : Nat → Nat → Bool}
  (h : d.issues f op (fun i => [(false, i.d), (false, i.a)]) r t)
include h

theorem branch_of_holds (hrel : rel (r.x.getS r.i.d) (r.x.getS r.i.a) = true) (hto : 0 ≤ (r.x.pc : Int) + 1 + r.i.simm) :
    d.branch f op rel = d.setEngine f { r.x with pc := ((r.x.pc : Int) + 1 + r.i.simm).toNat, cyc := t + 2 } := by
  rw [Dev.branch, Dev.issue_of_issues h]
  simp only [hrel, if_true, if_neg (not_lt.mpr hto)]

theorem branch_of_not (hrel : rel (r.x.getS r.i.d) (r.x.getS r.i.a) = false) : d.branch f op rel = d.setEngine f (r.x.next t 1) := by
  rw [Dev.branch, Dev.issue_of_issues h]
  simp only [hrel, Bool.false_eq_true, if_false]
end

theorem beq_toNat (x y : BitVec 32) : (x.toNat == y.toNat) = (x == y) := by
  by_cases h : x = y
  · simp [h]
  · simp [h, BitVec.toNat_inj]

theorem slt_toInt (x y : BitVec 32) : decide (toInt 32 x.toNat < toInt 32 y.toNat) = x.slt y := by
  rw [toInt_eq_toInt (by decide), toInt_eq_toInt (by decide), BitVec.slt_eq_decide]

theorem sle_toInt (x y : BitVec 32) : decide (toInt 32 x.toNat ≤ toInt 32 y.toNat) = x.sle y := by
  rw [toInt_eq_toInt (by decide), toInt_eq_toInt (by decide), BitVec.sle_eq_decide]

/-! ### Time, events and update records -/

section
variable {d : Dev} {f t : Nat} {r : Run}

theorem timeOp_of_fresh (h : d.issues f 0x38 (fun _ => []) r t) (hfn : r.i.fn = 0) : timeOp f d =
    d.setEngine f (({ r.x.setS r.i.d (d.tapTime f r.x t / 65536 % 1000000000) (t + 2) with
      latchSec := d.tapTime f r.x t / sec 1 % 2 ^ 32, latchFrac := d.tapTime f r.x t % 65536 } : Engine).next t 1) := by
  rw [timeOp, Dev.issue_of_issues h]
  simp only [hfn, if_true]

theorem timeOp_of_latched (h : d.issues f 0x38 (fun _ => []) r t) (hfn : r.i.fn ≠ 0) : timeOp f d =
    d.setEngine f ((r.x.setS r.i.d (if r.i.fn = 1 then r.x.latchSec else r.x.latchFrac) (t + 2)).next t 1) := by
  rw [timeOp, Dev.issue_of_issues h]
  simp only [hfn, if_false]

theorem kevtOp_of_issues (h : d.issues f 0x3A (fun i => [(false, i.a)]) r t) : kevtOp f d =
    let e := d.setEngine f ({ r.x with kevts := r.x.kevts + 1 }.next t 1)
    if 4 ≤ r.x.kevts then e.inc 0x50000A (r.slot / 16) else e.raiseAt (d.tapTime f r.x t) 223 r.slot r.i.imm (r.x.getS r.i.a) := by
  rw [kevtOp, Dev.issue_of_issues h]
  rfl

theorem sputOp_of_issues (h : d.issues f 0x39 (fun i => [(false, i.a)]) r t) : sputOp f d =
    d.access f r.l (r.x.getS r.i.a) 32 32 false fun d =>
      if r.x.upd.length ≥ ikMaxUpd r.l.image then d.kernelFault f 9
      else d.setEngine f ({ r.x with upd := r.x.upd ++ [getWords r.l.data (r.x.getS r.i.a) 8] }.next t 1) := by
  rw [sputOp, Dev.issue_of_issues h]
end

theorem xwaitOp_of_moves {d : Dev} {f t : Nat} {r : Run} (h : d.issues f 0x2D (fun _ => []) r t) (hmoves : r.x.moves ≠ []) :
    xwaitOp f d = d := by
  rw [xwaitOp, Dev.issue_of_issues h, if_neg (by simpa using hmoves)]

theorem xwaitOp_of_none {d : Dev} {f t : Nat} {r : Run} (h : d.issues f 0x2D (fun _ => []) r t) (hmoves : r.x.moves = []) :
    xwaitOp f d = d.setEngine f (r.x.next (max t r.x.moved) 1) := by
  rw [xwaitOp, Dev.issue_of_issues h, if_pos (by simp [hmoves]), max_moved]

/-! ### The end of an activation -/

theorem doMove_binds (d : Dev) (f : Nat) (m : Move) : (d.doMove f m).eng.binds = d.eng.binds := by
  unfold Dev.doMove
  cases d.fetch f <;> [rfl; cases m <;> rfl]

theorem foldl_doMove_binds (d : Dev) (f : Nat) (ms : List Move) :
    (ms.foldl (fun d m => d.doMove f m) d).eng.binds = d.eng.binds := by
  induction ms generalizing d with
  | nil => rfl
  | cons m ms ih => rw [List.foldl_cons, ih, doMove_binds]

theorem endReached_tab (d : Dev) (f : Nat) (r : Run) (t : Nat) : (d.endReached f r t).tab = d.tab :=
  changesOnly_foldl_doMove d f r.x.moves .tab (by decide)

theorem endReached_binds (d : Dev) (f : Nat) (r : Run) (t : Nat) : (d.endReached f r t).eng.binds = d.eng.binds :=
  foldl_doMove_binds d f r.x.moves

section
variable (d : Dev) (flags l cycles : Nat)

theorem endCounted_tim : (d.endCounted flags l cycles).tim = d.tim := by
  unfold Dev.endCounted
  split <;> rfl

theorem endCounted_tab : (d.endCounted flags l cycles).tab = d.tab := by
  unfold Dev.endCounted
  split <;> rfl

theorem endCounted_eng : (d.endCounted flags l cycles).eng = d.eng := by
  unfold Dev.endCounted
  split <;> rfl
end

section
variable (d : Dev) (a : Act)

theorem endJudged_tim : (d.endJudged a).tim = d.tim := by
  unfold Dev.endJudged
  split <;> rfl

theorem endJudged_tab : (d.endJudged a).tab = d.tab := by
  unfold Dev.endJudged
  split <;> rfl

theorem endJudged_eng : (d.endJudged a).eng = d.eng := by
  unfold Dev.endJudged
  split <;> rfl
end

section
variable (d : Dev) (f : Nat) (x : Engine) (l : Nat)

theorem endFreed_tim : (d.endFreed f x l).tim = d.tim := rfl
theorem endFreed_tab : (d.endFreed f x l).tab = d.tab := rfl
theorem endFreed_binds : (d.endFreed f x l).eng.binds = d.eng.binds := rfl

theorem endFreed_engine : (d.endFreed f x l).engine f = { x with act := none, upd := [], moves := [], done := x.done + 1 } :=
  setEngine_engine_same d f _

theorem endFreed_get_state : (d.endFreed f x l).get 0x500001 l = 0 := put_get_same _ _ _ _
end

section
variable (d : Dev) (g : Nat) {a : Act} {upd : List (List Byte)}

theorem endHandedOver_tim : (d.endHandedOver g a upd).tim = d.tim := by
  unfold Dev.endHandedOver
  split_ifs <;> rfl

theorem endHandedOver_engine : (d.endHandedOver g a upd).engine = d.engine := by
  unfold Dev.endHandedOver
  split_ifs <;> rfl

/-- Nothing goes to the region from a WARMUP activation, nor from one without records. -/
theorem endHandedOver_tab (h : bit a.flags 1 = true ∨ upd = []) : (d.endHandedOver g a upd).tab = d.tab := by
  unfold Dev.endHandedOver
  by_cases hwarm : bit a.flags 1 = true
  · rw [if_pos hwarm]
  · rw [if_neg hwarm, if_pos (by simpa using h.resolve_left hwarm)]
    rfl

theorem endHandedOver_of_warm (h : bit a.flags 1 = true) : d.endHandedOver g a upd = d := if_pos h

theorem endHandedOver_committed (h : bit a.flags 1 = false) :
    ((d.endHandedOver g a upd).bind_ a.binding).committed = some a.time := by
  unfold Dev.endHandedOver
  rw [if_neg (by simp [h])]
  by_cases hupd : upd.isEmpty = true <;> simp [hupd]

theorem endHandedOver_region (h : bit a.flags 1 = false) (hupd : upd ≠ []) : (d.endHandedOver g a upd).region g =
    { d.region g with units := (d.region g).units ++ [⟨2 ^ 30 + a.slot, upd⟩] } := by
  unfold Dev.endHandedOver
  rw [if_neg (by simp [h]), if_neg (by simpa using hupd)]
  exact setRegion_region_same _ _ _
end

section
variable {d : Dev} {f : Nat} {r : Run} {a : Act} {t : Nat}
variable (h : d.issues f 0x3B (fun _ => []) r t) (hact : r.x.act = some a)
include h hact

theorem endOp_engine : (endOp f d).engine f = { r.x with act := none, upd := [], moves := [], done := r.x.done + 1 } := by
  rw [endOp_of_issues h hact, endHandedOver_engine, endFreed_engine]

theorem endOp_get_state : (endOp f d).get 0x500001 (a.slot / 16) = 0 := by
  rw [endOp_of_issues h hact, endHandedOver_get, endFreed_get_state]

theorem endOp_tim : (endOp f d).tim = (d.endReached f r t).tim := by
  rw [endOp_of_issues h hact, endHandedOver_tim, endFreed_tim, endJudged_tim, endCounted_tim]

theorem endOp_tab (hnone : bit a.flags 1 = true ∨ r.x.upd = []) : (endOp f d).tab = d.tab := by
  rw [endOp_of_issues h hact, endHandedOver_tab _ _ hnone, endFreed_tab, endJudged_tab, endCounted_tab, endReached_tab]

theorem endOp_binds (hwarm : bit a.flags 1 = true) : (endOp f d).eng.binds = d.eng.binds := by
  rw [endOp_of_issues h hact, endHandedOver_of_warm _ _ hwarm, endFreed_binds, endJudged_eng, endCounted_eng, endReached_binds]

theorem endOp_committed (hwarm : bit a.flags 1 = false) : ((endOp f d).bind_ a.binding).committed = some a.time := by
  rw [endOp_of_issues h hact, endHandedOver_committed _ _ hwarm]

theorem endOp_region (hwarm : bit a.flags 1 = false) (hupd : r.x.upd ≠ []) : (endOp f d).region (f / 32) =
    { d.region (f / 32) with units := (d.region (f / 32)).units ++ [⟨2 ^ 30 + a.slot, r.x.upd⟩] } := by
  rw [endOp_of_issues h hact, endHandedOver_region _ _ hwarm hupd, endFreed_region, endJudged_region, endCounted_region,
    endReached_region]
end

section
variable {c : Fin 128 → Instr} {s : State} {f : Fin 128} {r : Run} {t op : Nat} {rel : Nat → Nat → Bool} {rel' : BitVec 32 → BitVec 32 → Bool}

/-- A branch's relation on registers is one on the 32-bit words they hold. -/
theorem gives_of_branch (hc : exec (c f) s = run s (fun d => d.branch f op rel)) (hpor : s.por = false)
    (hrel : ∀ x y : BitVec 32, rel x.toNat y.toNat = rel' x y) (x y : BitVec 32)
    (h : s.dev.issues f op (fun i => [(false, i.d), (false, i.a)]) r t) (hx : r.x.getS r.i.d = x.toNat) (hy : r.x.getS r.i.a = y.toNat) :
    (rel' x y = true → 0 ≤ (r.x.pc : Int) + 1 + r.i.simm →
      Gives (c f) s (s.dev.setEngine f { r.x with pc := ((r.x.pc : Int) + 1 + r.i.simm).toNat, cyc := t + 2 })) ∧
    (rel' x y = false → Gives (c f) s (s.dev.setEngine f (r.x.next t 1))) := by
  rw [← hrel, ← hx, ← hy]
  exact ⟨fun ht hto => gives_of_exec_eq_run hc hpor (branch_of_holds h ht hto),
    fun hf => gives_of_exec_eq_run hc hpor (branch_of_not h hf)⟩
end

/-- Settles O36: within R276's rules each instruction has one result, and END is its five effects in turn. -/
theorem engineMemoryAndControl : Obligations.EngineMemoryAndControl := by
  intro s f r t hpor sa addr region goOn
  refine ⟨?ld, ?vld, ?st, ?vst, ?xfer, ?sget, fun h => ⟨fun hm => gives_of_exec_eq_run rfl hpor (xwaitOp_of_moves h hm),
    fun hm => gives_of_exec_eq_run rfl hpor (xwaitOp_of_none h hm)⟩, ⟨gives_of_branch rfl hpor beq_toNat,
    gives_of_branch rfl hpor fun x y => congrArg not (beq_toNat x y), gives_of_branch rfl hpor slt_toInt,
    gives_of_branch rfl hpor fun x y => sle_toInt y x⟩, ⟨fun h => ⟨?time0, ?time1, ?time2⟩, fun h => ⟨?kevt, ?kevt'⟩⟩, ?sput, ?end_⟩
  case ld =>
    exact fun h => ⟨fun h4 hr => gives_of_access (c := .ld) rfl hpor h ((dataOk_read_iff _ _ _ _).mpr ⟨h4, hr⟩),
      fun hn => gives_fault_of_access (c := .ld) rfl hpor h (mt (dataOk_read_iff _ _ _ _).mp hn)⟩
  case vld =>
    exact fun h => ⟨fun h4 hr => gives_of_access (c := .vld) rfl hpor h ((dataOk_read_iff _ _ _ _).mpr ⟨h4, hr⟩),
      fun hn => gives_fault_of_access (c := .vld) rfl hpor h (mt (dataOk_read_iff _ _ _ _).mp hn)⟩
  case st =>
    exact fun h => ⟨fun h4 hr hw => gives_of_access (c := .st) rfl hpor h ((dataOk_write_iff _ _ _ _).mpr ⟨h4, hr, hw⟩),
      fun hn => gives_fault_of_access (c := .st) rfl hpor h (mt (dataOk_write_iff _ _ _ _).mp hn)⟩
  case vst =>
    exact fun h => ⟨fun h4 hr hw => gives_of_access (c := .vst) rfl hpor h ((dataOk_write_iff _ _ _ _).mpr ⟨h4, hr, hw⟩),
      fun hn => gives_fault_of_access (c := .vst) rfl hpor h (mt (dataOk_write_iff _ _ _ _).mp hn)⟩
  case xfer =>
    refine fun h => ⟨fun hfull => gives_of_exec_eq_run rfl hpor (xferOp_of_full h hfull),
      fun hroom hn => gives_of_exec_eq_run rfl hpor (xferOp_of_not_local h hroom hn), fun hroom hl hs =>
      gives_of_exec_eq_run rfl hpor ((xferOp_of_local h hroom hl).trans (if_pos hs)), fun hroom hl hb hal =>
      gives_of_exec_eq_run rfl hpor ((xferOp_of_local h hroom hl).trans (if_neg (by omega)))⟩
  case sget =>
    refine fun h => ⟨fun hfull => gives_of_exec_eq_run rfl hpor (sgetOp_of_full h hfull),
      fun hroom hn => gives_of_exec_eq_run rfl hpor ((sgetOp_of_room h hroom).trans
        (Dev.access_of_not_dataOk (mt (dataOk_write_iff _ _ _ _).mp hn) _ _ _)), fun hroom hl =>
      gives_of_exec_eq_run rfl hpor ((sgetOp_of_room h hroom).trans
        (Dev.access_of_dataOk ((dataOk_write_iff _ _ _ _).mpr hl) _ _ _))⟩
  case time0 => exact fun hfn => gives_of_exec_eq_run rfl hpor (timeOp_of_fresh h hfn)
  case time1 => exact fun hfn => gives_of_exec_eq_run rfl hpor ((timeOp_of_latched h (by omega)).trans (by rw [if_pos hfn]; rfl))
  case time2 => exact fun hfn => gives_of_exec_eq_run rfl hpor ((timeOp_of_latched h (by omega)).trans (by rw [if_neg (by omega)]; rfl))
  case kevt => exact fun hk => gives_of_exec_eq_run rfl hpor ((kevtOp_of_issues h).trans (if_neg (by omega)))
  case kevt' => exact fun hk => gives_of_exec_eq_run rfl hpor ((kevtOp_of_issues h).trans (if_pos hk))
  case sput =>
    refine fun h => ⟨fun hn => gives_of_exec_eq_run rfl hpor ((sputOp_of_issues h).trans
      (Dev.access_of_not_dataOk (mt (dataOk_read_iff _ _ _ _).mp hn) _ _ _)), fun hal hr => ⟨fun hroom => ?_, fun hfull => ?_⟩⟩
    · exact gives_of_exec_eq_run rfl hpor ((sputOp_of_issues h).trans
        ((Dev.access_of_dataOk ((dataOk_read_iff _ _ _ _).mpr ⟨hal, hr⟩) _ _ _).trans (if_neg (by omega))))
    · exact gives_of_exec_eq_run rfl hpor ((sputOp_of_issues h).trans
        ((Dev.access_of_dataOk ((dataOk_read_iff _ _ _ _).mpr ⟨hal, hr⟩) _ _ _).trans (if_pos hfull)))
  case end_ =>
    intro a h hact t' d l
    have hreached : s.dev.endReached f r t = d := rfl
    refine runs_of_exec_eq_run (g := endOp f) rfl hpor ⟨endOp_engine h hact, endOp_get_state h hact, endOp_tim h hact, ?_,
      endOp_tab h hact, endOp_binds h hact, fun hw => ⟨endOp_committed h hact hw, endOp_region h hact hw⟩,
      (fr_endOp _ _ (by decide) (by decide) (by decide) (by decide) (by decide)).mpr (changesOnly_refl _ _)⟩
    rw [Dev.raises, endOp_flying h hact, ← endReached_now, hreached]

end Sys2Proof.Machine

/-! PROOFS. The signal engines: triggers, dispatch, moves, the watchdog, hardware faults, re-homing, self-tests and verification. -/
namespace Sys2Proof.Machine

/-! ### Triggers and dispatch -/

theorem timerTrigger_of_bound {d : Dev} {b t : Nat} (hkind : d.get 0x530002 b = 4) (hslot : d.get 0x530001 b ≠ 0xFFFF)
    (ht : d.timerInstant b (if (d.bind_ b).timerAt ≥ d.now then (d.bind_ b).timerAt + 1 else d.now) = t) :
    timerTrigger b d = ((d.at_ t).setBind b { d.bind_ b with timerAt := t }).raiseAct
      (((d.at_ t).setBind b { d.bind_ b with timerAt := t }).actOf b t (t / sec 1 % 2 ^ 32) 0 0) := by
  unfold timerTrigger
  rw [if_neg (by simp [hkind, hslot])]
  simp only [ht]
  rw [at_bind_]

/-- R288's order: the earlier deadline, then the lower slot, then the lower binding. -/
theorem actBefore_iff (a b : Act) : actBefore a b = true ↔ a.deadline < b.deadline ∨ a.deadline = b.deadline ∧
    (a.slot % 16 < b.slot % 16 ∨ a.slot % 16 = b.slot % 16 ∧ a.binding < b.binding) := by
  simp [actBefore]

theorem selectAct_eq_none {l : List Act} : selectAct l = none ↔ l = [] := by
  cases l with
  | nil => simp [selectAct]
  | cons x l =>
    simp only [selectAct, reduceCtorEq, iff_false]
    cases selectAct l with
    | none => simp
    | some b => simp only; split <;> simp

theorem mem_of_selectAct {l : List Act} {a : Act} (h : selectAct l = some a) : a ∈ l := by
  induction l generalizing a with
  | nil => simp [selectAct] at h
  | cons x l ih =>
    rw [selectAct] at h
    cases hl : selectAct l with
    | none => rw [hl] at h; simp_all
    | some b =>
      simp only [hl] at h
      split at h
      · exact List.mem_cons_of_mem _ (Option.some.inj h ▸ ih hl)
      · exact Option.some.inj h ▸ List.mem_cons_self

/-- Nothing pending comes before the activation selected. -/
theorem not_actBefore_of_selectAct {l : List Act} {a b : Act} (h : selectAct l = some a) (hb : b ∈ l) : ¬ actBefore b a = true := by
  induction l generalizing a b with
  | nil => simp at hb
  | cons x l ih =>
    rw [selectAct] at h
    cases hl : selectAct l with
    | none =>
      obtain rfl := selectAct_eq_none.mp hl
      simp only [hl, Option.some.injEq] at h
      obtain rfl : b = x := by simpa using hb
      subst h
      simp [actBefore_iff]
    | some y =>
      have hrest := fun {z : Act} (hz : z ∈ l) => ih hl hz
      simp only [hl] at h
      simp only [actBefore_iff] at hrest h ⊢
      rcases List.mem_cons.mp hb with rfl | hb <;> split at h <;> obtain rfl := Option.some.inj h
      · omega
      · omega
      · exact hrest hb
      · have := hrest hb
        omega

section
variable {d : Dev} {f : Nat} {a : Act} (hidle : (d.engine f).act = none) (hstate : (d.engine f).state = 0)
  (hregion : d.regionRuns (f / 32) = true) (hcluster : d.clusterStopped (f / 8) = false)
  (hsel : selectAct (d.engine f).pending = some a)
include hidle hstate hregion hcluster hsel

/-- An activation whose image is gone is dropped. -/
theorem activationDispatch_of_no_image (him : (d.kslot a.slot).at_ a.time = none) : activationDispatch f d =
    (d.setEngine f { d.engine f with pending := (d.engine f).pending.erase a, lost := (d.engine f).lost + 1 }).dropAct a := by
  simp only [activationDispatch, hidle, hstate, hregion, hcluster, hsel, him, Option.isSome_none, Bool.false_or, bne_self_eq_false,
    Bool.not_true, Bool.false_eq_true, if_false]

theorem activationDispatch_of_image {im : Loaded} (him : (d.kslot a.slot).at_ a.time = some im) : activationDispatch f d =
    let ctx := contextBytes a im (d.actGrid a) (b2n (decide (d.now > a.deadline)))
    let old := decide (a.time < (d.kslot a.slot).oldUntil) && (d.kslot a.slot).old.isSome
    let l := d.wrapRings a im
    (((d.setLoaded a.slot old { l with data := putWords l.data 0 ctx 16 }).setEngine f { d.engine f with
      pending := (d.engine f).pending.erase a, s := [], v := [], sAt := [], vAt := [], pc := ikEntry l.image, cyc := 0, act := some a,
      useOld := old, flags := 0, upd := [], kevts := 0, moves := [], moved := 0, latchSec := 0, latchFrac := 0,
      start := d.now + ns 40 }).put 0x500001 (d.logicalOf f) 1) := by
  unfold activationDispatch
  rw [if_neg (by simp [hidle, hstate, hregion, hcluster])]
  simp only [hsel, him]
  rfl
end

/-! ### Completions of moves -/

theorem max_moved' (t m : Nat) : (if t > m then t else m) = max m t := by
  split <;> omega

theorem xferComplete_of_found {d : Dev} {f early c a b n : Nat} {sh : Bool} {r : Run} (hr : d.fetch f = some r)
    (hm : (d.engine f).moves.find? (fun m => m.isXfer == true) = some (Move.xfer c a b n sh)) : xferComplete f early d =
      (d.setLoaded r.slot r.useOld (if sh then { r.l with data := tputAll 0 r.l.data (a / 4) (tgetAll 0 r.l.shared (b / 4) (n / 4)) }
        else { r.l with shared := tputAll 0 r.l.shared (b / 4) (tgetAll 0 r.l.data (a / 4) (n / 4)) })).setEngine f
        { d.engine f with
          moves := (d.engine f).moves.erase (Move.xfer c a b n sh),
          moved := max (d.engine f).moved
            (c - (if early < xferCycles n then early else xferCycles n - 1)) } := by
  simp only [xferComplete, Dev.moveDone, hm, Dev.doMove, hr, max_moved']

theorem sgetComplete_of_found {d : Dev} {f early c a sig fn : Nat} {r : Run} (hr : d.fetch f = some r)
    (hm : (d.engine f).moves.find? (fun m => m.isXfer == false) = some (Move.sget c a sig fn)) : sgetComplete f early d =
      (d.setLoaded r.slot r.useOld { r.l with
        data := putWords r.l.data a (d.view sig (if fn = 0 then d.tab.pub else d.tab.prev) fn) 8 }).setEngine f
        { d.engine f with
          moves := (d.engine f).moves.erase (Move.sget c a sig fn),
          moved := max (d.engine f).moved
            (c - (if early < 150 then early else 149)) } := by
  simp only [sgetComplete, Dev.moveDone, hm, Dev.doMove, hr, max_moved']

/-! ### Activations abandoned and slots stopped -/

/-- An activation abandoned, its engine's other fields but the count of losses stand. -/
theorem abandonAct_engine_same (d : Dev) (f : Nat) : ((d.abandonAct f).engine f).act = none ∧
    ((d.abandonAct f).engine f).pending = (d.engine f).pending ∧
    ((d.engine f).act ≠ none → ((d.abandonAct f).engine f).upd = []) := by
  unfold Dev.abandonAct
  cases h : (d.engine f).act <;> simp [h]

theorem abandonAct_engine_ne (d : Dev) {f k : Nat} (h : k ≠ f) : (d.abandonAct f).engine k = d.engine k := by
  simp only [Dev.abandonAct]
  cases (d.engine f).act with
  | none => rfl
  | some a =>
    dsimp only
    rw [setEngine_engine_ne _ _ h]
    split <;> rfl

theorem foldl_dropAct_engine (l : List Act) (d : Dev) : (l.foldl Dev.dropAct d).engine = d.engine := by
  induction l generalizing d with
  | nil => rfl
  | cons a l ih => exact (ih _).trans rfl

theorem dropPending_engine_same (d : Dev) (f : Nat) (p : Act → Bool) : (d.dropPending f p).engine f =
    { d.engine f with pending := (d.engine f).pending.filter (fun a => !p a),
                      lost := (d.engine f).lost + ((d.engine f).pending.filter p).length } := by
  simp only [Dev.dropPending, foldl_dropAct_engine, setEngine_engine_same]

theorem dropPending_engine_ne (d : Dev) {f k : Nat} (p : Act → Bool) (h : k ≠ f) : (d.dropPending f p).engine k = d.engine k := by
  simp only [Dev.dropPending, foldl_dropAct_engine, setEngine_engine_ne _ _ h]

@[simp] theorem showSlot_engine (d : Dev) (k : Nat) : (d.showSlot k).engine = d.engine := by
  simp only [Dev.showSlot]
  cases (d.kslot k).cur <;> rfl

@[simp] theorem showSlot_kslot (d : Dev) (k : Nat) : (d.showSlot k).kslot = d.kslot := by
  simp only [Dev.showSlot]
  cases (d.kslot k).cur <;> rfl

/-- A stopped slot says why. -/
theorem stopSlot_stopped (d : Dev) (k row : Nat) : ((d.stopSlot k row).kslot k).stopped = row := by
  simp [Dev.stopSlot]

theorem stopSlot_get_cause (d : Dev) (k row : Nat) : (d.stopSlot k row).get 0x50000B (k / 16) = row := put_get_same _ _ _ _

/-- The engine of a stopped slot's activation abandons it and drops those pending of that slot. -/
theorem stopSlot_engine_host {d : Dev} {k : Nat} {f : Nat} (row : Nat) {a : Act} (hhost : d.hostOf (k / 16) = f)
    (hact : (d.engine f).act = some a) (hslot : a.slot = k) : ((d.stopSlot k row).engine f).act = none ∧
    ((d.stopSlot k row).engine f).upd = [] ∧ ∀ b ∈ ((d.stopSlot k row).engine f).pending, b.slot ≠ k := by
  have habandoned := abandonAct_engine_same d f
  have hengine : (d.stopSlot k row).engine f = ((d.abandonAct f).dropPending f (fun a => a.slot == k)).engine f := by
    simp only [Dev.stopSlot, put_engine, showSlot_engine, setKslot_engine, hhost, hact, hslot, beq_self_eq_true, if_true]
  rw [hengine, dropPending_engine_same]
  exact ⟨habandoned.1, habandoned.2.2 (by simp [hact]), fun b hb => by simpa using (List.mem_filter.mp hb).2⟩

/-- Stopping a slot gives no engine an activation. -/
theorem stopSlot_act_none {d : Dev} {f : Nat} (k row : Nat) (h : (d.engine f).act = none) : ((d.stopSlot k row).engine f).act = none := by
  have hdrop : ∀ (e : Dev) (f' : Nat) (p : Act → Bool), ((e.dropPending f' p).engine f).act = (e.engine f).act := by
    intro e f' p
    by_cases hf : f = f'
    · rw [hf, dropPending_engine_same]
    · rw [dropPending_engine_ne _ _ hf]
  simp only [Dev.stopSlot, put_engine, showSlot_engine, setKslot_engine, hdrop]
  have habandon : ∀ runs : Bool, ((if runs = true then d.abandonAct (d.hostOf (k / 16)) else d).engine f).act = none := by
    intro runs
    split
    · by_cases hf : f = d.hostOf (k / 16)
      · rw [← hf]; exact (abandonAct_engine_same d f).1
      · rw [abandonAct_engine_ne _ hf, h]
    · exact h
  exact habandon _

theorem stopAll_act_none {d : Dev} {f : Nat} (l row : Nat) (h : (d.engine f).act = none) : ((d.stopAll l row).engine f).act = none := by
  unfold Dev.stopAll
  generalize List.range 16 = ks
  induction ks generalizing d with
  | nil => exact h
  | cons k ks ih =>
    rw [List.foldl_cons]
    apply ih
    split
    · exact stopSlot_act_none _ _ h
    · exact h

/-! ### The watchdog -/

theorem le_foldl_max {α : Type} (g : α → Nat) (l : List α) (m : Nat) : m ≤ l.foldl (fun m y => if g y > m then g y else m) m := by
  induction l generalizing m with
  | nil => rfl
  | cons y l ih =>
    refine le_trans ?_ (ih _)
    dsimp only
    split <;> omega

theorem watchdog_of_expired {d : Dev} {f : Nat} {a : Act} (hact : (d.engine f).act = some a) (hcyc : d.wcetOf a + 1 ≤ (d.engine f).cyc) :
    watchdog f d = ((d.at_ ((d.engine f).start + ns (d.wcetOf a + 1))).stopSlot a.slot 8).raise 215 (a.slot / 16) 0 0 := by
  simp only [watchdog, hact]
  rw [if_pos, Dev.kernelFault, at_engine, hact]
  exact le_trans hcyc (le_foldl_max _ _ _)

theorem Dev.changesOnly.mono {d e : Dev} {l m : List Part} (h : d.changesOnly l e) (hlm : l ⊆ m) : d.changesOnly m e :=
  fun p hp => h p fun hl => hp (hlm hl)

theorem changesOnly_trans {d e f : Dev} {l : List Part} (h : d.changesOnly l e) (h' : e.changesOnly l f) : d.changesOnly l f := by
  intro p hp
  have hde := h p hp
  have hef := h' p hp
  cases p <;> exact Eq.trans hef hde

theorem flying_of_changesOnly {d e : Dev} {l : List Part} (h : d.changesOnly l e) (hl : .flying ∉ l) : e.flt.flying = d.flt.flying :=
  h .flying hl

theorem tim_of_changesOnly {d e : Dev} {l : List Part} (h : d.changesOnly l e) (hl : .tim ∉ l) : e.tim = d.tim :=
  h .tim hl

theorem watchdog_flying {d : Dev} {f : Nat} {a : Act} (hact : (d.engine f).act = some a) (hcyc : d.wcetOf a + 1 ≤ (d.engine f).cyc) :
    (watchdog f d).flt.flying =
      d.flt.flying ++ [⟨215, a.slot / 16, 0, 0, (d.at_ ((d.engine f).start + ns (d.wcetOf a + 1))).now, false⟩] := by
  have hstops := (fr_stopSlot (lz := [.dict, .eng]) (d.at_ ((d.engine f).start + ns (d.wcetOf a + 1))) a.slot 8 (by decide)
    (by decide)).mpr (changesOnly_refl _ _)
  rw [watchdog_of_expired hact hcyc, raise_flying, Dev.now, Dev.now, flying_of_changesOnly hstops (by decide),
    tim_of_changesOnly hstops (by decide), at_flt]

/-! ### Hardware faults -/

/-- The checkers of R306 with no injection armed. -/
theorem engineCheck_of_unarmed {d : Dev} {f : Nat} (h : ∀ c ∈ [2, 3, 4], d.armedSlot c f 0 = none) (k : Fin 4) :
    engineCheck f k d = d.engineFault f (if k = 0 ∨ k = 1 then 2 else if k = 2 then 3 else 4) := by
  simp only [List.mem_cons, List.not_mem_nil, or_false, forall_eq_or_imp, forall_eq] at h
  obtain ⟨h2, h3, h4⟩ := h
  fin_cases k
  · exact checked_of_unarmed h2 _
  · exact checked_of_unarmed h3 _
  · exact checked_of_unarmed h4 _
  · rfl

theorem logicalOf_lt (d : Dev) {f : Nat} (hf : f < 128) : d.logicalOf f < 128 := by
  unfold Dev.logicalOf
  cases h : (List.range 32).find? (fun i => d.hostOf (f / 32 * 32 + i) == f) with
  | none => exact hf
  | some i =>
    have hi := List.mem_range.mp (List.mem_of_find?_eq_some h)
    simp only [Option.map_some, Option.getD_some]
    omega

/-- Which logical engine a physical one serves is written in object 0x5000:03 alone. -/
theorem logicalOf_put (d : Dev) {o e v f : Nat} (ho : o ≠ 0x500003) (he : e < 4294967296) (hf : f < 128) :
    (d.put o e v).logicalOf f = d.logicalOf f := by
  have hhost : ∀ i ∈ List.range 32, ((d.put o e v).hostOf (f / 32 * 32 + i) == f) = (d.hostOf (f / 32 * 32 + i) == f) := by
    intro i hi
    rw [Dev.hostOf, put_get_obj d v he (by have := List.mem_range.mp hi; omega) ho.symm, Dev.hostOf]
  have hfind : (List.range 32).find? (fun i => (d.put o e v).hostOf (f / 32 * 32 + i) == f) =
      (List.range 32).find? (fun i => d.hostOf (f / 32 * 32 + i) == f) := List.find?_congr hhost
  rw [Dev.logicalOf, hfind, Dev.logicalOf]

/-- The device with the detection of a hardware fault and its cause shown. -/
def Dev.faultShown (d : Dev) (f row : Nat) : Dev := (d.raise (207 + row) (d.logicalOf f) 0 0).put 0x50000B (d.logicalOf f) row

/-- The engine shown contained. -/
def Dev.engineContained (d : Dev) (f l : Nat) : Dev :=
  (((d.setEngine f { d.engine f with state := 3 }).put 0x500001 l 3).raise 220 l 0 0).put 0x50000B l 13

theorem engineContained_engine (d : Dev) (f l : Nat) : (d.engineContained f l).engine f = { d.engine f with state := 3 } :=
  setEngine_engine_same d f _

theorem engineContained_act (d : Dev) (f l : Nat) : ((d.engineContained f l).engine f).act = (d.engine f).act := by
  rw [engineContained_engine]

theorem engineContained_get (d : Dev) (f : Nat) {l : Nat} (hl : l < 4294967296) : (d.engineContained f l).get 0x500001 l = 3 := by
  rw [Dev.engineContained, put_get_obj _ _ hl hl (by decide), raise_get, put_get_same]

theorem engineContained_flying (d : Dev) (f l : Nat) : (d.engineContained f l).flt.flying =
    d.flt.flying ++ [⟨220, l, 0, 0, d.now, false⟩] := raise_flying _ _ _ _ _

section
variable {d : Dev} {f : Nat} (row : Nat) (hf : f < 128)
include hf

theorem faultShown_get {o e : Nat} (ho : o ≠ 0x50000B) (he : e < 4294967296) : (d.faultShown f row).get o e = d.get o e :=
  (put_get_obj _ _ ((logicalOf_lt d hf).trans (by decide)) he ho).trans rfl

theorem faultShown_logicalOf {k : Nat} (hk : k < 128) : (d.faultShown f row).logicalOf k = d.logicalOf k :=
  (logicalOf_put _ (by decide) ((logicalOf_lt d hf).trans (by decide)) hk).trans rfl

omit hf in
/-- An engine already out of work does not fail again. -/
theorem engineFault_of_out (hstate : (d.engine f).state = 3 ∨ (d.engine f).state = 4 ∨ (d.engine f).state = 5) :
    d.engineFault f row = d := if_pos hstate

/-- A fault of the spare itself only tests it. -/
theorem engineFault_of_spare (hstate : (d.engine f).state < 3) (hspare : d.get 0x500102 (f / 32) = f) : d.engineFault f row =
    ((((d.faultShown f row).selfTest f).put 0x500102 (f / 32) 0xFF).put 0x500104 (f / 32) 2).put 0x500001 (d.logicalOf f) 4 := by
  simp only [Dev.engineFault]
  rw [if_neg (by omega), if_pos]
  · rfl
  · exact (faultShown_get row hf (by decide) (by omega)).trans hspare

theorem engineFault_of_ready (hstate : (d.engine f).state < 3) (hspare : d.get 0x500102 (f / 32) ≠ f)
    (hready : d.get 0x500104 (f / 32) = 0) (hsp : d.get 0x500102 (f / 32) ≠ 0xFF) :
    d.engineFault f row = (d.faultShown f row).rehome f := by
  have h102 := faultShown_get (d := d) row hf (o := 0x500102) (e := f / 32) (by decide) (by omega)
  have h104 := faultShown_get (d := d) row hf (o := 0x500104) (e := f / 32) (by decide) (by omega)
  simp only [Dev.engineFault]
  rw [if_neg (by omega), if_neg, if_pos]
  · rfl
  · exact (congrArg₂ (fun x y => x == 0 && y != 0xFF) h104 h102).trans (by simp [hready, hsp])
  · exact fun h => hspare (h102.symm.trans h)

theorem engineFault_of_no_spare (hstate : (d.engine f).state < 3) (hspare : d.get 0x500102 (f / 32) ≠ f)
    (hready : d.get 0x500104 (f / 32) ≠ 0 ∨ d.get 0x500102 (f / 32) = 0xFF) : d.engineFault f row =
      (((d.faultShown f row).abandonAct f).stopAll (d.logicalOf f) row).engineContained f (d.logicalOf f) := by
  have h102 := faultShown_get (d := d) row hf (o := 0x500102) (e := f / 32) (by decide) (by omega)
  have h104 := faultShown_get (d := d) row hf (o := 0x500104) (e := f / 32) (by decide) (by omega)
  simp only [Dev.engineFault]
  rw [if_neg (by omega), if_neg, if_neg]
  · rfl
  · exact fun h => by
      have := (congrArg₂ (fun x y => x == 0 && y != 0xFF) h104 h102).symm.trans h
      simp at this
      omega
  · exact fun h => hspare (h102.symm.trans h)
end

/-- A fault without a ready spare contains the engine. -/
theorem engineFault_contained {d : Dev} {f : Nat} (row : Nat) (hf : f < 128) (hstate : (d.engine f).state < 3)
    (hspare : d.get 0x500102 (f / 32) ≠ f) (hready : d.get 0x500104 (f / 32) ≠ 0 ∨ d.get 0x500102 (f / 32) = 0xFF) :
    ((d.engineFault f row).engine f).state = 3 ∧ ((d.engineFault f row).engine f).act = none ∧
    (d.engineFault f row).get 0x500001 (d.logicalOf f) = 3 ∧ (d.engineFault f row).flt.flying =
      d.flt.flying ++ [⟨207 + row, d.logicalOf f, 0, 0, d.now, false⟩, ⟨220, d.logicalOf f, 0, 0, d.now, false⟩] := by
  have hl := logicalOf_lt d hf
  have hstops := (fr_stopAll (lz := [.dict, .eng]) ((d.faultShown f row).abandonAct f) (d.logicalOf f) row (by decide) (by decide)).mpr
    ((fr_abandonAct (d.faultShown f row) f (by decide) (by decide)).mpr (changesOnly_refl _ _))
  rw [engineFault_of_no_spare row hf hstate hspare hready]
  refine ⟨congrArg Engine.state (engineContained_engine _ _ _), ?_, engineContained_get _ _ (by omega), ?_⟩
  · rw [engineContained_act]
    exact stopAll_act_none _ _ (abandonAct_engine_same _ f).1
  · rw [engineContained_flying, Dev.now, flying_of_changesOnly hstops (by decide), tim_of_changesOnly hstops (by decide),
      Dev.faultShown, put_flt, raise_flying, List.append_assoc]
    rfl

/-! ### Re-homing -/

/-- The failed engine, its activation abandoned and its pending ones gone, is tested; the spare takes them. -/
def Dev.rehomeEngines (d : Dev) (f sp : Nat) : Dev :=
  let pend := (d.engine f).pending
  let d := d.abandonAct f
  let x := d.engine f
  let d := (d.setEngine f { x with pending := [], lost := x.lost + pend.length }).selfTest f
  let y := d.engine sp
  d.setEngine sp { y with state := 1, pending := y.pending ++ pend, got := y.got + pend.length, issued := y.issued + pend.length }

/-- The two logical engines change hosts. -/
def Dev.rehomeShown (d : Dev) (g f l sp ls : Nat) : Dev :=
  ((((((d.put 0x500003 l sp).put 0x500003 ls f).put 0x500001 l 0).put 0x500001 ls 4).inc 0x500103 g).put 0x500102 g 0xFF).put 0x500104 g 1

/-- A re-homing noted as under way. -/
def Dev.rehomeNoted (d : Dev) (g : Nat) (x : Rehome) : Dev :=
  (d.setEng { d.eng with rehomes := tput ⟨0, 0, 0, 0, []⟩ d.eng.rehomes g x }).raise 224 x.logical 0 0

theorem rehome_eq {d : Dev} {f sp l ls : Nat} (hsp : d.get 0x500102 (f / 32) = sp) (hl : d.logicalOf f = l) (hls : d.logicalOf sp = ls) :
    ∃ due again, d.rehome f =
      ((d.rehomeEngines f sp).rehomeShown (f / 32) f l sp ls).rehomeNoted (f / 32) ⟨l, f, sp, due, again⟩ := by
  simp only [Dev.rehome, hsp, hl, hls]
  exact ⟨_, _, rfl⟩

section
variable (d : Dev) (g : Nat) (x : Rehome)

theorem rehomeNoted_get : (d.rehomeNoted g x).get = d.get := rfl
theorem rehomeNoted_engine : (d.rehomeNoted g x).engine = d.engine := rfl
theorem rehomeNoted_flying : (d.rehomeNoted g x).flt.flying = d.flt.flying ++ [⟨224, x.logical, 0, 0, d.now, false⟩] := raise_flying _ _ _ _ _
end

section
variable (d : Dev) {g f l sp ls : Nat}

theorem rehomeShown_engine : (d.rehomeShown g f l sp ls).engine = d.engine := rfl
theorem rehomeShown_flt : (d.rehomeShown g f l sp ls).flt = d.flt := rfl
theorem rehomeShown_tim : (d.rehomeShown g f l sp ls).tim = d.tim := rfl

theorem rehomeShown_get (hg : g < 4294967296) (hl : l < 4294967296) (hls : ls < 4294967296) (hne : ls ≠ l) :
    (d.rehomeShown g f l sp ls).get 0x500003 l = sp ∧ (d.rehomeShown g f l sp ls).get 0x500003 ls = f ∧
    (d.rehomeShown g f l sp ls).get 0x500001 ls = 4 ∧ (d.rehomeShown g f l sp ls).get 0x500102 g = 0xFF ∧
    (d.rehomeShown g f l sp ls).get 0x500104 g = 1 := by
  refine ⟨?_, ?_, ?_, ?_, put_get_same _ _ _ _⟩
  · simp only [Dev.rehomeShown, put_get_obj, inc_get_obj, hg, hl, hls, ne_eq, Nat.reduceEqDiff, not_false_eq_true]
    rw [put_get_elem _ _ hls hl hne.symm, put_get_same]
  · simp only [Dev.rehomeShown, put_get_obj, inc_get_obj, hg, hl, hls, ne_eq, Nat.reduceEqDiff, not_false_eq_true, put_get_same]
  · simp only [Dev.rehomeShown, put_get_obj, inc_get_obj, hg, hls, ne_eq, Nat.reduceEqDiff, not_false_eq_true, put_get_same]
  · simp only [Dev.rehomeShown, put_get_obj, hg, ne_eq, Nat.reduceEqDiff, not_false_eq_true, put_get_same]
end

theorem rehomeEngines_failed (d : Dev) {f sp : Nat} (h : sp ≠ f) : ((d.rehomeEngines f sp).engine f).state = 4 ∧
    ((d.rehomeEngines f sp).engine f).act = none ∧ ((d.rehomeEngines f sp).engine f).pending = [] := by
  simp only [Dev.rehomeEngines, setEngine_engine_ne _ _ h.symm, Dev.selfTest, setEngine_engine_same]
  exact ⟨trivial, rfl, rfl⟩

theorem rehomeEngines_spare (d : Dev) {f sp : Nat} (h : sp ≠ f) : ((d.rehomeEngines f sp).engine sp).state = 1 ∧
    ((d.rehomeEngines f sp).engine sp).pending = (d.engine sp).pending ++ (d.engine f).pending := by
  simp only [Dev.rehomeEngines, setEngine_engine_same, Dev.selfTest, setEngine_engine_ne _ _ h, abandonAct_engine_ne _ h, and_self]

theorem rehomeEngines_changesOnly (d : Dev) (f sp : Nat) : d.changesOnly [.dict, .eng] (d.rehomeEngines f sp) := by
  simp only [Dev.rehomeEngines, fr_setEngine, fr_selfTest, fr_abandonAct, List.mem_cons, reduceCtorEq, or_true, true_or]
  exact changesOnly_refl _ _

/-! ### Re-homing complete -/

/-- One activation raised again on the spare (R308). -/
def Dev.takeAgain (logical to_ : Nat) (d : Dev) (a : Act) : Dev :=
  let y := d.engine to_
  if y.pending.length ≥ 64 then ((d.dropAct a).inc 0x500007 logical).raise 222 logical 0 0
  else d.setEngine to_ { y with pending := y.pending ++ [a], got := y.got + 1, issued := y.issued + 1 }

/-- With room for all, each activation becomes pending. -/
theorem foldl_takeAgain (logical to_ : Nat) (l : List Act) (d : Dev) (h : (d.engine to_).pending.length + l.length ≤ 64) :
    ((l.foldl (Dev.takeAgain logical to_) d).engine to_).state = (d.engine to_).state ∧
    ((l.foldl (Dev.takeAgain logical to_) d).engine to_).pending = (d.engine to_).pending ++ l ∧
    d.changesOnly [.eng] (l.foldl (Dev.takeAgain logical to_) d) := by
  induction l generalizing d with
  | nil => exact ⟨rfl, by simp, changesOnly_refl _ _⟩
  | cons a l ih =>
    rw [List.length_cons] at h
    have hstep : Dev.takeAgain logical to_ d a = d.setEngine to_ { d.engine to_ with
        pending := (d.engine to_).pending ++ [a], got := (d.engine to_).got + 1, issued := (d.engine to_).issued + 1 } :=
      if_neg (by omega)
    have hengine := (congrArg (fun e : Dev => e.engine to_) hstep).trans (setEngine_engine_same _ _ _)
    have honly : d.changesOnly [.eng] (Dev.takeAgain logical to_ d a) := by
      rw [hstep]
      exact (fr_setEngine _ _ _ (List.mem_singleton_self _)).mpr (changesOnly_refl _ _)
    obtain ⟨hst, hpend, hch⟩ := ih (Dev.takeAgain logical to_ d a) (by
      rw [hengine, List.length_append, List.length_singleton]
      omega)
    refine ⟨hst.trans (congrArg Engine.state hengine :), hpend.trans ?_, changesOnly_trans honly hch⟩
    rw [hengine, List.append_assoc, List.singleton_append]

/-- The re-homing's bookkeeping ended, its memories rebuilt, its engine at work. -/
def Dev.rehomed (d : Dev) (g : Nat) (x : Rehome) : Dev :=
  let d := d.at_ x.done
  let d := d.setEng { d.eng with rehomes := tput ⟨0, 0, 0, 0, []⟩ d.eng.rehomes g ⟨0, 0, 0, 0, []⟩ }
  let d := d.rebuildAll x.logical
  d.setEngine x.to_ { d.engine x.to_ with state := 0 }

theorem rebuildAll_engine (d : Dev) (l : Nat) : (d.rebuildAll l).engine = d.engine := by
  unfold Dev.rebuildAll
  generalize List.range 16 = ks
  induction ks generalizing d with
  | nil => rfl
  | cons k ks ih =>
    rw [List.foldl_cons, ih]
    dsimp only
    cases (d.kslot (16 * l + k)).cur <;> rfl

theorem rehomed_engine (d : Dev) (g : Nat) (x : Rehome) : (d.rehomed g x).engine x.to_ = { d.engine x.to_ with state := 0 } := by
  simp only [Dev.rehomed, setEngine_engine_same, rebuildAll_engine]
  rfl

/-- But for time, a re-homing that ends is the engines' own affair. -/
theorem rehomed_changesOnly (d : Dev) (g : Nat) (x : Rehome) : (d.at_ x.done).changesOnly [.eng] (d.rehomed g x) := by
  simp only [Dev.rehomed, fr_setEngine, fr_rebuildAll, fr_setEng, List.mem_singleton_self]
  exact changesOnly_refl _ _

theorem tab_of_changesOnly {d e : Dev} {l : List Part} (h : d.changesOnly l e) (hl : .tab ∉ l) : e.tab = d.tab :=
  h .tab hl

/-- The activations raised again, but those of epochs closed since. -/
def Dev.raiseAgain (d : Dev) (x : Rehome) : Dev :=
  (x.again.filter (fun a => decide (a.epoch > d.tab.closed))).foldl (Dev.takeAgain x.logical x.to_) d

theorem rehomeComplete_eq (d : Dev) (g : Nat) : rehomeComplete g d =
    if (tget ⟨0, 0, 0, 0, []⟩ d.eng.rehomes g).done = 0 then d
    else (d.rehomed g (tget ⟨0, 0, 0, 0, []⟩ d.eng.rehomes g)).raiseAgain (tget ⟨0, 0, 0, 0, []⟩ d.eng.rehomes g) := rfl

theorem rehomeComplete_of_due {d : Dev} {g : Nat} {x : Rehome} (hx : tget ⟨0, 0, 0, 0, []⟩ d.eng.rehomes g = x) (hdone : x.done ≠ 0) :
    rehomeComplete g d =
      (x.again.filter (fun a => decide (a.epoch > d.tab.closed))).foldl (Dev.takeAgain x.logical x.to_) (d.rehomed g x) := by
  have htab : (d.rehomed g x).tab = d.tab :=
    (tab_of_changesOnly (rehomed_changesOnly d g x) (by decide)).trans (at_tab d x.done)
  rw [rehomeComplete_eq, hx, if_neg hdone, Dev.raiseAgain, htab]

/-! ### Verification of images -/

section
variable {d : Dev} {i : Nat} (hstate : d.get 0x502003 i = 2)
include hstate

theorem imageVerifyComplete_of_bad (h : d.imageReason (d.getB 0x502001 i) ≠ 0) : imageVerifyComplete i d =
    ((d.setEng { d.eng with verifying := d.eng.verifying.filter (· != i) }).put 0x502003 i 4).put 0x502004 i
      (d.imageReason (d.getB 0x502001 i)) := by
  simp only [imageVerifyComplete, hstate, h, ne_eq, not_true, if_false]

theorem imageVerifyComplete_of_good (h : d.imageReason (d.getB 0x502001 i) = 0) : imageVerifyComplete i d =
    let b := d.getB 0x502001 i
    (((((((d.setEng { d.eng with verifying := d.eng.verifying.filter (· != i) }).put 0x502003 i 3).put 0x502004 i 0).put 0x502005 i
      (ikKernel b)).put 0x502006 i (ikVersion b)).put 0x502007 i (ikWcet b)).put 0x502008 i (byteAt b (ikSigOff b))) := by
  simp only [imageVerifyComplete, hstate, h, ne_eq, not_true, if_false, if_true]
end

/-- Settles O37: each event's guard holds, and its effect is the one stated. -/
theorem engineEvents : Obligations.EngineEvents := by
  intro s hpor
  refine ⟨fun b hkind hslot => gives_of_exec_eq_run rfl hpor (timerTrigger_of_bound hkind hslot rfl), fun l a hsel =>
    ⟨mem_of_selectAct hsel, fun b hb => ?order⟩, fun f _ => ⟨fun a hidle hstate hregion hcluster hsel => ⟨fun him =>
      gives_of_exec_eq_run rfl hpor (activationDispatch_of_no_image hidle hstate hregion hcluster hsel him), fun im him =>
      gives_of_exec_eq_run rfl hpor (activationDispatch_of_image hidle hstate hregion hcluster hsel him)⟩,
    fun early c a b n sh r hr hm => gives_of_exec_eq_run rfl hpor (xferComplete_of_found hr hm),
    fun early c a sig fn r hr hm => gives_of_exec_eq_run rfl hpor (sgetComplete_of_found hr hm), fun a hact hcyc => ?watchdog,
    fun k harmed => ?fault, fun hstate => ⟨?pass, ?fail⟩⟩, fun g x hx hdone => ?rehomed, fun i hstate => ⟨fun hbad =>
      gives_of_exec_eq_run rfl hpor (imageVerifyComplete_of_bad hstate hbad), fun hgood =>
      gives_of_exec_eq_run rfl hpor (imageVerifyComplete_of_good hstate hgood)⟩⟩
  case order =>
    have := not_actBefore_of_selectAct hsel hb
    rw [actBefore_iff] at this
    omega
  case watchdog =>
    have hexpired := watchdog_of_expired hact hcyc
    refine runs_of_exec_eq_run (g := watchdog f) rfl hpor ⟨?_, ?_, watchdog_flying hact hcyc, fun hhost => ?_,
      (fr_watchdog _ _ (by decide) (by decide) (by decide) (by decide)).mpr (changesOnly_refl _ _)⟩
    · rw [hexpired, raise_kslot, stopSlot_stopped]
    · rw [hexpired, raise_get, stopSlot_get_cause]
    · rw [hexpired, raise_engine]
      exact stopSlot_engine_host _ hhost hact rfl
  case fault =>
    intro row sp
    have hf : f.val < 128 := f.isLt
    have hl := logicalOf_lt s.dev hf
    have hcheck : engineCheck f k s.dev = s.dev.engineFault f row := engineCheck_of_unarmed harmed k
    refine ⟨fun hout => gives_of_exec_eq_run rfl hpor (hcheck.trans (engineFault_of_out _ hout)), fun hstate hspare =>
      gives_of_exec_eq_run rfl hpor (hcheck.trans (engineFault_of_spare row hf hstate hspare)), fun hstate hspare hready hsp hls => ?ready,
      fun hstate hspare hready => ?contained⟩
    case contained =>
      obtain ⟨hst, hact, hshown, hflying⟩ := engineFault_contained row hf hstate hspare hready
      refine runs_of_exec_eq_run (g := engineCheck f k) rfl hpor ?_
      rw [hcheck]
      exact ⟨hst, hact, hshown, hflying, (fr_engineFault _ _ _ (by decide) (by decide) (by decide)).mpr (changesOnly_refl _ _)⟩
    case ready =>
      obtain ⟨hst, hact, hpend⟩ := rehomeEngines_failed (s.dev.faultShown f row) hspare
      obtain ⟨hspst, hsppend⟩ := rehomeEngines_spare (s.dev.faultShown f row) hspare
      have hengines := rehomeEngines_changesOnly (s.dev.faultShown f row) f sp
      obtain ⟨h3l, h3ls, h1, h102, h104⟩ := rehomeShown_get ((s.dev.faultShown f row).rehomeEngines f sp) (f := f) (sp := sp)
        (g := f / 32) (l := s.dev.logicalOf f) (ls := s.dev.logicalOf sp) (by omega) (by omega)
        (by have := logicalOf_lt s.dev hsp; omega) hls
      obtain ⟨due, again, hrehome⟩ := rehome_eq (d := s.dev.faultShown f row) (f := f) (sp := sp) (l := s.dev.logicalOf f)
        (ls := s.dev.logicalOf sp) (faultShown_get row hf (by decide) (by omega)) (faultShown_logicalOf row hf hf)
        (faultShown_logicalOf row hf hsp)
      have hready' := engineFault_of_ready row hf hstate hspare hready (by omega)
      refine runs_of_exec_eq_run (g := engineCheck f k) rfl hpor ?_
      have hframe : s.dev.changesOnly [.dict, .flying, .eng] (s.dev.engineFault f row) :=
        (fr_engineFault _ _ _ (by decide) (by decide) (by decide)).mpr (changesOnly_refl _ _)
      rw [hcheck]
      refine ⟨?_, ?_, ?_, ?_, ?_, ?_, ?_, ?_, ?_, ?_, ?_, hframe⟩ <;> rw [hready', hrehome]
      · rw [rehomeNoted_get, h3l]
      · rw [rehomeNoted_get, h3ls]
      · rw [rehomeNoted_engine, rehomeShown_engine, hst]
      · rw [rehomeNoted_engine, rehomeShown_engine, hact]
      · rw [rehomeNoted_engine, rehomeShown_engine, hpend]
      · rw [rehomeNoted_engine, rehomeShown_engine, hspst]
      · rw [rehomeNoted_engine, rehomeShown_engine, hsppend]
        rfl
      · rw [rehomeNoted_get, h1]
      · rw [rehomeNoted_get, h102]
      · rw [rehomeNoted_get, h104]
      · rw [Dev.raises, rehomeNoted_flying, rehomeShown_flt, Dev.now, rehomeShown_tim, flying_of_changesOnly hengines (by decide),
          tim_of_changesOnly hengines (by decide), Dev.faultShown, put_flt, raise_flying, List.append_assoc]
        rfl
  case pass => exact gives_of_exec_eq_run rfl hpor (if_neg (not_not.mpr hstate))
  case fail => exact gives_of_exec_eq_run rfl hpor (if_neg (not_not.mpr hstate))
  case rehomed =>
    intro live hroom
    have honly := rehomed_changesOnly s.dev g x
    have hengine := rehomed_engine s.dev g x
    obtain ⟨hst, hpend, hlive⟩ := foldl_takeAgain x.logical x.to_ live (s.dev.rehomed g x) (by rw [hengine]; exact hroom)
    refine runs_of_exec_eq_run (g := rehomeComplete g) rfl hpor ?_
    rw [rehomeComplete_of_due hx hdone]
    refine ⟨(tim_of_changesOnly hlive (by decide)).trans (tim_of_changesOnly honly (by decide)), hst.trans (by rw [hengine]),
      hpend.trans (by rw [hengine]), changesOnly_trans (changesOnly_trans
        ((fr_at_ _ _ (by decide)).mpr (changesOnly_refl _ _)) (honly.mono (by decide))) (hlive.mono (by decide))⟩

end Sys2Proof.Machine

/-! PROOFS. Ingest: window entries, the cutoff, silent streams, updates accepted and PMU frames. -/
namespace Sys2Proof.Machine

theorem windowEntryCommit_of_landing {d : Dev} {x : Landing} {l : List Landing} (h : d.ing.landing = x :: l) : windowEntryCommit d =
    let e := d.setIng { d.ing with landing := l }
    if d.regionRuns x.region then e.commitEntries x.grid x.entries else e := by
  simp only [windowEntryCommit, h]
  rfl

theorem ingestCutoff_of_running {d : Dev} (h : d.tab.running = true) : ingestCutoff d =
    let n := d.tab.cut + 1
    let d := d.at_ (d.cutoffAt n)
    let d := Dev.commitAll d.ing.landing.length d
    let d := d.channels.foldl (fun d c => d.add 0x613004 c (d.missingOf c n)) d
    ((d.setTab { d.tab with cut := n }).cutoffCompletions n).epochActs n := if_neg (by simp [h])

theorem streamSilent_of_last {d e : Dev} {kind n t : Nat} (hlast : (d.stream kind n).last = some t)
    (he : d.at_ (t + 3 * d.frameInterval kind n) = e) : streamSilent kind n d =
      if kind = 0 ∧ d.on 0x610001 n = true then (e.updStream kind n fun x => { x with last := none }).put 0x610017 n 3
      else e.updStream kind n fun x => { x with last := none } := by
  have hon : e.on 0x610001 n = d.on 0x610001 n := by rw [← he, Dev.on, at_get, Dev.on]
  have hupd : (e.updStream kind n fun x => { x with last := none }).on 0x610001 n = d.on 0x610001 n := hon
  simp only [streamSilent, hlast, he]
  rw [hupd]
  simp only [Bool.and_eq_true, decide_eq_true_eq]

/-! ### Updates accepted -/

theorem setRegion_regionRuns (d : Dev) {g : Nat} {x : Region} (h : x.up = (d.region g).up) :
    (d.setRegion g x).regionRuns g = d.regionRuns g := by
  simp only [Dev.regionRuns, setRegion_region_same, h]
  rfl

section
variable {d : Dev} {g : Nat} {u : Unit_} {rest : List Unit_} (hunits : (d.region g).units = u :: rest) (hruns : d.regionRuns g = true)
include hunits hruns

theorem updateAccept_of_full (hfull : 65536 < (d.region g).journal d.now + u.records.length) : updateAccept g d =
    (u.records.foldl (fun d _ =>
      ((d.countRegion g fun l => { l with accepted := l.accepted + 1, rejected := l.rejected + 1 }).inc 0x600101 g).inc 0x600104 g)
      (d.setRegion g { d.region g with units := rest })).raise 258 g 0 0 := by
  simp only [updateAccept, hunits]
  rw [if_neg (by rw [setRegion_regionRuns]; simp [hruns]; rfl), if_pos (by exact hfull)]

theorem updateAccept_of_room (hroom : (d.region g).journal d.now + u.records.length ≤ 65536)
    (hmax : (d.region g).journal d.now + u.records.length ≤ d.get 0x600108 g) : updateAccept g d =
    let e := d.setRegion g { d.region g with units := rest }
    u.records.foldl (fun d b => d.record g u.source b)
      (e.setRegion g { e.region g with fill := (d.region g).journal d.now + u.records.length, fillAt := e.now }) := by
  simp only [updateAccept, hunits]
  rw [if_neg (by rw [setRegion_regionRuns]; simp [hruns]; rfl), if_neg (by exact not_lt.mpr hroom), if_neg (by exact not_lt.mpr hmax)]
  rfl
end

section
variable {d : Dev} {g : Nat} {b : List Byte} (source : Nat) (hbad : d.recordBad g b = false) (hgrid : leAt b 0 4 / 2 ^ 30 ≠ 1)
  (hrunning : d.tab.running = true)
include hbad hgrid hrunning

/-- An update is of an epoch closed, one of the two open ones, or one too far ahead. -/
theorem record_of_update : d.record g source b =
    let e := d.epochOf (updTime d.now b)
    if d.tab.closed + 3 ≤ e then d.rejectRecord g source
    else if e ≤ d.tab.closed then d.lateUpd g source b
    else d.acceptUpd g source e b := by
  simp only [Dev.record, hbad, Bool.false_eq_true, if_false, if_neg hgrid, hrunning, Bool.not_true, Bool.false_or, decide_eq_true_eq,
    ge_iff_le]
end

/-! ### PMU frames -/

theorem takeFree_get (d : Dev) : d.takeFree.2.get = d.get := rfl

theorem pmuFrameBuild_of_port {d d0 : Dev} {s rate : Nat} (hrate : (cfgDataRate (d.getB 0x650002 s)).toNat = rate)
    (hd0 : d.at_ (d.pmuNext s rate * sec 1 / rate + us (d.get 0x65000D s)) = d0) (hon : d.on 0x650001 s = true) (h0 : rate ≠ 0)
    (hcfg : (cfgParse (d.getB 0x650002 s)).isSome = true) (hport : 8192 ≤ d0.get 0x650004 s) : pmuFrameBuild s d =
      let g := d.pmuNext s rate
      let d := d0.takeFree.2.setPmu s { d0.pmu s with last := some g }
      let f := d.pmuFrame s g d0.takeFree.1 false
      let e := d.add 0x650010 s f.2
      let port := d0.get 0x650005 s
      if e.safe port then e
      else (e.enqueue port ⟨udpFrame (d.getB 0x650006 s) (macOf port) (d.get 0x65000B s) (d.getB 0x650009 s) (d.getB 0x650007 s)
        (d.get 0x65000A s) (d.get 0x650008 s) d0.takeFree.1 f.1, d.get 0x65000C s, .own, none, false, false, none, 0, 0⟩).inc
          0x65000F s := by
  have hcfg' : (cfgParse (d.getB 0x650002 s)).isNone = false := by simpa using hcfg
  have hrate' : (rate == 0) = false := by simpa using h0
  have hfn : ¬ (d0.takeFree.2.setPmu s { d0.pmu s with last := some (d.pmuNext s rate) }).get 0x650004 s < 8192 := by
    rw [setPmu_get, takeFree_get]
    omega
  have hp : (d0.takeFree.2.setPmu s { d0.pmu s with last := some (d.pmuNext s rate) }).get 0x650005 s = d0.get 0x650005 s := by
    rw [setPmu_get, takeFree_get]
  simp only [pmuFrameBuild, hrate, hon, hrate', hcfg', Bool.not_true, Bool.or_self, Bool.false_eq_true, if_false, hd0]
  simp only [hfn, if_false, hp]

/-- Settles O38: each event's guard holds, and its effect is the one stated. -/
theorem ingestEvents : Obligations.IngestEvents := by
  intro s hpor
  refine ⟨fun x l hl => ⟨fun hr => gives_of_exec_eq_run rfl hpor ((windowEntryCommit_of_landing hl).trans (if_pos hr)), fun hr =>
    gives_of_exec_eq_run rfl hpor ((windowEntryCommit_of_landing hl).trans (if_neg (by simp [hr])))⟩, fun hrunning =>
    gives_of_exec_eq_run rfl hpor (ingestCutoff_of_running hrunning), fun kind n t hlast => ⟨fun hk hon => ?silent, fun hk => ?other⟩,
    fun g u rest hunits hruns => ⟨fun hfull => gives_of_exec_eq_run rfl hpor (updateAccept_of_full hunits hruns hfull), fun hroom hmax =>
      gives_of_exec_eq_run rfl hpor (updateAccept_of_room hunits hruns hroom hmax)⟩, fun d g source b hbad hgrid hrunning => ?record,
    ?pmu⟩
  case silent =>
    exact gives_of_exec_eq_run rfl hpor ((streamSilent_of_last hlast rfl).trans (if_pos ⟨by simp [hk], hon⟩))
  case other =>
    exact gives_of_exec_eq_run rfl hpor ((streamSilent_of_last hlast rfl).trans (if_neg fun h => hk (Fin.ext h.1)))
  case record =>
    have hrecord := record_of_update source hbad hgrid hrunning
    refine ⟨fun he => ?_, fun hlo hhi => ?_, fun he => ?_⟩
    · exact hrecord.trans ((if_neg (by omega)).trans (if_pos he))
    · exact hrecord.trans ((if_neg (by omega)).trans (if_neg (by omega)))
    · exact hrecord.trans (if_pos he)
  case pmu =>
    intro stream rate hon h0 hcfg hport g d0 free d f e port
    have hget : ∀ o, d0.get o stream = s.dev.get o stream := fun o => congrFun (congrFun (at_get s.dev _) o) stream
    have hop := pmuFrameBuild_of_port (d0 := d0) rfl rfl hon h0 hcfg (by rw [hget]; exact hport)
    simp only [hget] at hop
    exact ⟨fun hsafe => gives_of_exec_eq_run rfl hpor (hop.trans (if_pos hsafe)), fun hsafe =>
      gives_of_exec_eq_run rfl hpor (hop.trans (if_neg (by simpa using hsafe)))⟩

end Sys2Proof.Machine

/-! PROOFS. Epochs: the first start, a close, a region's report, a publication, and the lapse of a pin. -/
namespace Sys2Proof.Machine

theorem epochStart_of_up {d : Dev} {t : Nat} (hup : d.tab.upSince = some t) (hrunning : d.tab.running = false) (hpower : d.power = 2) :
    epochStart d =
      let a := anchorFrom (t + us 200) (d.get 0x600001 0) (d.get 0x600002 0) (d.get 0x600003 0)
      let d := d.at_ (a.2.bound a.1)
      d.setTab { d.tab with
        segs := [a.2], running := true, first := true, closed := a.1 - 1, cut := a.1 - 1, closing := [], pub := none, prev := none } := by
  simp only [epochStart, hup, hrunning, hpower, Bool.false_or, bne_self_eq_false, Bool.false_eq_true, if_false]

/-! ### The close -/

theorem epochClose_of_cut {d : Dev} (hrunning : d.tab.running = true) (hcut : d.tab.closed + 1 ≤ d.tab.cut) : epochClose d =
    let n := d.tab.closed + 1
    let x := d.closeAt n
    let step := decide (d.tim.stepFrom < x) && decide (x ≤ d.tim.stepTo)
    let d := d.at_ x
    let able := (List.range 4).foldl (fun m g => m + b2n (d.regionAble n g) * 2 ^ g) 0
    let totals := (List.range 4).map (fun g => let l := (d.region g).ledger; (⟨g, l.written, l.late, l.rejected⟩ : Totals))
    let c : Closing := ⟨n, if d.now < x then x else d.now, able, 0, totals, d.imbalances able, step⟩
    let d := (((d.setTab { d.tab with closed := n, closing := d.tab.closing ++ [c] }).newLedgers).expireActs n).retireImages
    ({ d with obj := { d.obj with old := d.obj.old.filter (fun o => decide (o.boundary > d.epochEnd n)) } } : Dev) := by
  simp only [epochClose, hrunning, Bool.not_true, Bool.false_eq_true, if_false, if_neg (not_lt.mpr hcut)]

theorem epochCloseAll_of_running {d : Dev} (h : d.tab.running = true) :
    epochCloseAll d = (epochClose d).retireBanks (d.epochEnd (d.tab.closed + 1)) := if_neg (by simp [h])

/-! ### The reports -/

theorem at_regionRuns (d : Dev) (t : Nat) : (d.at_ t).regionRuns = d.regionRuns := rfl

theorem regionCloseReport_of_due {d : Dev} {g : Nat} {c : Closing}
    (hc : d.tab.closing.find? (fun c => bit c.able g && !bit c.reported g) = some c)
    (hnow : (d.at_ (c.at_ + us 1)).now ≤ c.at_ + ns 1500) (hruns : d.regionRuns g = true) : regionCloseReport g d =
      let d := d.at_ (c.at_ + us 1)
      d.setTab { d.tab with
        closing := d.tab.closing.map (fun y => if y.n = c.n then { y with reported := setBit y.reported g true } else y) } := by
  simp only [regionCloseReport, hc]
  exact if_neg (by rw [at_regionRuns, hruns]; simpa using hnow)

/-! ### The publication -/

theorem at_of_le {d : Dev} {t : Nat} (h : t ≤ d.now) : d.at_ t = d := by
  have hadvance : d.tim.advance t = d.tim := if_pos h
  rw [Dev.at_, hadvance]

/-- With no pin taken none lapses at a publication. -/
theorem pubLapse_of_unpinned {d : Dev} (h : d.tab.pin = none) : d.pubLapse = d := by
  simp only [Dev.pubLapse, h]

theorem epochPublish_of_closed {d d0 : Dev} {c : Closing} {rest : List Closing} (hclosing : d.tab.closing = c :: rest)
    (hsides : c.sides = []) (hpin : d.tab.pin = none) (hd0 : d.at_ (c.at_ + us 2) = d0) (htab : d0.tab = d.tab)
    (hlast : d0.at_ (d.tab.lastPub + us 2) = d0) : epochPublish d =
      let p : PubEpoch := ⟨c.n, c.reported, true⟩
      let rec1 := if d.tab.pub.isSome then d0.getB 0x600201 0 else zeros 64
      let d1 := ((d0.put 0x600004 0 c.n).putB 0x600201 0 (d0.epochRecord p c)).putB 0x600201 1 rec1
      let d2 := (d1.setTab { d1.tab with
        pub := some p, prev := d1.tab.pub, closing := rest, first := false, lastPub := d1.now,
        segs := trimSegs (c.n - 1) d1.tab.segs }).releaseUpdates c.n
      let d3 := (List.range 4).foldl (fun d g => (if bit c.reported g then d else d.raise 259 g 0 0).freePoison g) d2
      (d3.host.queues.foldl (fun d q => d.overrunQueue q.1) d3).exportEpoch p := by
  have hpin0 : d0.tab.pin = none := by rw [htab, hpin]
  have hunpinned : ∀ n bs bs', (((d0.put 0x600004 0 n).putB 0x600201 0 bs).putB 0x600201 1 bs').pubLapse =
      ((d0.put 0x600004 0 n).putB 0x600201 0 bs).putB 0x600201 1 bs' := fun n bs bs' => pubLapse_of_unpinned hpin0
  simp only [epochPublish, hclosing, hd0, htab, hlast, ite_self, hsides, List.filter_nil, List.isEmpty_nil, List.foldl_nil, hunpinned]

/-! ### Pins -/

theorem pinLapse_of_pin {d : Dev} {p : Pin} (h : d.tab.pin = some p) : pinLapse d =
    (d.at_ p.until_).setTab { (d.at_ p.until_).tab with
      pin := none, pinStale := true, pinLapsed := true, pinLapses := ((d.at_ p.until_).tab.pinLapses + 1) % 2 ^ 32 } := by
  have hat : (d.at_ p.until_).tab.pin = some p := by rw [at_tab, h]
  simp only [pinLapse, h, Dev.lapsePin, hat]

/-- Settles O39: each event's guard holds, and its effect is the one stated. -/
theorem epochEvents : Obligations.EpochEvents := by
  intro s hpor
  refine ⟨fun t hup hrunning hpower => gives_of_exec_eq_run rfl hpor (epochStart_of_up hup hrunning hpower), fun hrunning hcut => ?close,
    fun g c hc => ?report, fun c rest hclosing hsides hpin => ?publish, fun p hp => gives_of_exec_eq_run rfl hpor (pinLapse_of_pin hp)⟩
  case close =>
    intro n x d able totals c e
    refine gives_of_exec_eq_run rfl hpor ?_
    rw [epochCloseAll_of_running hrunning, epochClose_of_cut hrunning hcut]
  case report =>
    intro d hnow hruns
    exact gives_of_exec_eq_run rfl hpor (regionCloseReport_of_due hc hnow hruns)
  case publish =>
    intro d0 hlast p rec1 d1 d2 d3
    exact gives_of_exec_eq_run rfl hpor
      (epochPublish_of_closed (d0 := d0) hclosing hsides hpin rfl (at_tab _ _) (at_of_le hlast))

end Sys2Proof.Machine

/-! PROOFS. Travelling waves: re-arming, captures, snippets, arrivals handed over, and single-ended location. -/
namespace Sys2Proof.Machine

theorem frontRearm_of_below {d : Dev} {c t : Nat} (hdis : (d.wchan c).disarmed = true) (hbelow : (d.wchan c).belowSince = some t) :
    frontRearm c d =
      (d.at_ (t + us (d.get 0xA01005 c))).setWchan c { d.wchan c with disarmed := false, belowSince := none } := by
  simp only [frontRearm, hdis, hbelow]

theorem captureComplete_of_open {d : Dev} {e : Nat} (h : d.capState e = 1) : captureComplete e d =
    (((d.at_ ((d.capture e).end_ + us (d.get 0xA02003 0))).put 0xA02104 e 2).showCapture e).raise 289 e 0 0 :=
  if_neg (not_not.mpr h)

/-! ### Snippets -/

section
variable {d : Dev} {g : Nat} {x : Snippet} (hnext : d.snippetNext g = some x) (hlast : (d.wsampleAt x.chan (x.grid + 31)).isSome = true)
include hnext hlast

/-- A snippet of a region without a front kernel is dropped. -/
theorem snippetComplete_of_no_kernel (hk : d.get 0xA03001 g = 0xFFFF) : snippetComplete g d =
    (d.setWave { d.wave with snippets := d.wave.snippets.erase x }).inc 0xA03003 g := by
  simp only [snippetComplete, hnext, hlast, if_true, setWave_get, hk]

theorem snippetComplete_of_kernel {l : Loaded} (hk : d.get 0xA03001 g ≠ 0xFFFF) (hl : (d.kslot (d.get 0xA03001 g)).cur = some l) :
    snippetComplete g d =
      let e := d.setWave { d.wave with snippets := d.wave.snippets.erase x }
      let k := d.get 0xA03001 g
      let w := tget 0 l.shared 0
      if 512 ≤ (w + 2 ^ 32 - tget 0 l.shared 1) % 2 ^ 32 then e.inc 0xA03003 g
      else (e.setKslot k { d.kslot k with cur := some { l with
        shared := tput 0 (putWords l.shared (128 + 256 * (w % 512)) (e.snippetBytes x) 64) 0 ((w + 1) % 2 ^ 32) } }).inc 0xA03002 g := by
  simp only [snippetComplete, hnext, hlast, if_true, setWave_get, hk, if_false, setWave_kslot, hl, ge_iff_le]
end

/-! ### Events of a line -/

section
variable {d : Dev} {l : Nat} {ev : LineEv} (hev : (d.line l).ev = some ev)
include hev

theorem remoteWaitTimeout_of_unheard (hremote : ev.remote = none) : remoteWaitTimeout l d =
    (d.at_ (ev.heard + ms (d.get 0xA1000E l))).setLine l { d.line l with ev := some { ev with waitOver := true } } := by
  simp only [remoteWaitTimeout, hev, hremote, Option.isSome_none, Bool.false_eq_true, if_false]
end

/-- The reflection model's best candidate with its score (R390). -/
def Dev.singleBest (d : Dev) (l : Nat) (ev : LineEv) (t1 : Nat) : Option (Q × Nat) :=
  let ss := sectionsOf (d.getB 0xA10002 l)
  let tau := travelTime ss
  let tol : Q := ⟨d.get 0xA1000B l, 1⟩
  let endB := d.get 0xA10005 l == 1
  let tb := d.getB 0xA10003 l
  let taps := (List.range (tb.length / 16)).map (fun i =>
    let t := timeTo ss (unpack64 (leAt tb (16 * i) 8)).q
    if endB then tau.sub t else t)
  let later := ev.later.map (fun a => qTime (arTime d.now a) t1)
  let cand := later.map (fun a => a.mul ⟨1, 2⟩) ++ later.map (fun a => tau.sub (a.mul ⟨1, 2⟩))
  let score := scoreOf tau tol later taps
  cand.foldl (fun (b : Option (Q × Nat)) th => match b with
    | none => some (th, score th)
    | some (x, n) => if score th > n ∨ (score th = n ∧ th.lt x = true) then some (th, score th) else b) none

/-- The location logged for the candidate with two reflections or more. -/
def Dev.singleLogged (d : Dev) (l : Nat) (ev : LineEv) (t1 : Nat) (th : Q) (n : Nat) : Dev :=
  let ss := sectionsOf (d.getB 0xA10002 l)
  let tau := travelTime ss
  let tol : Q := ⟨d.get 0xA1000B l, 1⟩
  let endB := d.get 0xA10005 l == 1
  let tb := d.getB 0xA10003 l
  let taps := (List.range (tb.length / 16)).map (fun i =>
    let t := timeTo ss (unpack64 (leAt tb (16 * i) 8)).q
    if endB then tau.sub t else t)
  let later := ev.later.map (fun a => qTime (arTime d.now a) t1)
  let cand := later.map (fun a => a.mul ⟨1, 2⟩) ++ later.map (fun a => tau.sub (a.mul ⟨1, 2⟩))
  let score := scoreOf tau tol later taps
  let amb := cand.any (fun x => score x == n && (tol.mul ⟨2, 1⟩).lt (x.sub th).abs)
  let fromA := if endB then tau.sub th else th
  let fromA := if fromA.lt ⟨0, 1⟩ then ⟨0, 1⟩ else if tau.lt fromA then tau else fromA
  let w := walk ss fromA
  let unc := ((w.2.mul ⟨40, 2⟩).add (unpack (d.get 0xA10010 l)).q).f32
  d.logLocation l 2 (b2n amb + 4 * b2n (bit (arFlags ev.first) 0)) w.1.f64 t1 0 n unc (arEvent ev.first)

def Dev.singleLocated (d : Dev) (l : Nat) (ev : LineEv) (t1 : Nat) : Dev :=
  match d.singleBest l ev t1 with
  | none => d
  | some (th, n) => if n < 2 then d else d.singleLogged l ev t1 th n

/-- The line's event marked as located from one end. -/
def Dev.singleDone (d : Dev) (l : Nat) (ev : LineEv) : Dev :=
  (d.at_ (arTime d.now ev.first + d.lineSpan l)).setLine l
    { (d.at_ (arTime d.now ev.first + d.lineSpan l)).line l with ev := some { ev with single := true } }

theorem singleEndedLocation_eq (l : Nat) (d : Dev) : singleEndedLocation l d = match (d.line l).ev with
    | none => d
    | some ev =>
      if ev.single then d
      else if !bit ((d.singleDone l ev).get 0xA10004 l) 1 then d.singleDone l ev
      else (d.singleDone l ev).singleLocated l ev (arTime d.now ev.first) := rfl

theorem singleDone_eq (d : Dev) (l : Nat) (ev : LineEv) : d.singleDone l ev =
    (d.at_ (arTime d.now ev.first + d.lineSpan l)).setLine l { d.line l with ev := some { ev with single := true } } := by
  rw [Dev.singleDone, at_line]

theorem singleDone_get (d : Dev) (l : Nat) (ev : LineEv) : (d.singleDone l ev).get = d.get := by
  rw [Dev.singleDone, setLine_get, at_get]

theorem singleDone_getB (d : Dev) (l : Nat) (ev : LineEv) : (d.singleDone l ev).getB = d.getB := by
  rw [Dev.singleDone, setLine_getB, at_getB]

section
variable {d : Dev} {l : Nat} {ev : LineEv} (hev : (d.line l).ev = some ev) (hsingle : ev.single = false)
include hev hsingle

theorem singleEndedLocation_of_unasked (hask : bit (d.get 0xA10004 l) 1 = false) : singleEndedLocation l d = d.singleDone l ev := by
  simp only [singleEndedLocation_eq, hev, hsingle, singleDone_get, hask, Bool.not_false, Bool.false_eq_true, if_false, if_true]

theorem singleEndedLocation_of_asked (hask : bit (d.get 0xA10004 l) 1 = true) : singleEndedLocation l d =
    (d.singleDone l ev).singleLocated l ev (arTime d.now ev.first) := by
  simp only [singleEndedLocation_eq, hev, hsingle, singleDone_get, hask, Bool.not_true, Bool.false_eq_true, if_false]
end

/-- Settles O41: each event's guard holds, and its effect is the one stated. -/
theorem wavefrontEvents : Obligations.WavefrontEvents := by
  intro s hpor
  refine ⟨fun c t hdis hbelow => gives_of_exec_eq_run rfl hpor (frontRearm_of_below hdis hbelow), fun e he =>
    gives_of_exec_eq_run rfl hpor (captureComplete_of_open he), fun g x hnext hlast => ⟨fun hk =>
      gives_of_exec_eq_run rfl hpor (snippetComplete_of_no_kernel hnext hlast hk), fun l hk hl => ⟨fun hfull =>
        gives_of_exec_eq_run rfl hpor ((snippetComplete_of_kernel hnext hlast hk hl).trans (if_pos hfull)), fun hroom =>
        gives_of_exec_eq_run rfl hpor ((snippetComplete_of_kernel hnext hlast hk hl).trans (if_neg (by omega)))⟩⟩,
    fun g u hfind hchan => ?arrival, fun l ev hev => ⟨fun hremote => gives_of_exec_eq_run rfl hpor (remoteWaitTimeout_of_unheard hev hremote),
      fun hsingle hask => ?unasked, fun hsingle hask => ?asked⟩⟩
  case arrival =>
    intro d amp b
    refine gives_of_exec_eq_run rfl hpor ?_
    have hno : ¬ leAt u 24 4 % 65536 < 512 := by omega
    simp only [arrivalHandoff, hfind, hno, if_false]
    rfl
  case unasked =>
    exact gives_of_exec_eq_run rfl hpor ((singleEndedLocation_of_unasked hev hsingle hask).trans (singleDone_eq _ _ _))
  case asked =>
    intro t1 d ss tau tol endB tb taps later cand score best
    have hd : s.dev.singleDone l ev = d := singleDone_eq _ _ _
    have hop : singleEndedLocation l s.dev = d.singleLocated l ev t1 := by
      rw [singleEndedLocation_of_asked hev hsingle hask, hd]
    have hget : d.get = s.dev.get := by rw [← hd, singleDone_get]
    have hgetB : d.getB = s.dev.getB := by rw [← hd, singleDone_getB]
    clear_value d t1
    have hbest : d.singleBest l ev t1 = best := by
      simp only [Dev.singleBest, hget, hgetB]
      rfl
    refine ⟨fun hnone => gives_of_exec_eq_run rfl hpor (hop.trans ?_), fun th n hsome => ⟨fun hn =>
      gives_of_exec_eq_run rfl hpor (hop.trans ?_), fun hn => gives_of_exec_eq_run rfl hpor (hop.trans ?_)⟩⟩
    · rw [Dev.singleLocated, hbest, hnone]
    · rw [Dev.singleLocated, hbest, hsome]
      exact if_pos hn
    · rw [Dev.singleLocated, hbest, hsome]
      simp only [if_neg (not_lt.mpr hn), Dev.singleLogged, hget, hgetB]
      rfl

end Sys2Proof.Machine

/-! PROOFS. Wavefront messages: arrivals sent, repeated, received, acknowledged and queried. -/
namespace Sys2Proof.Machine

theorem arrivalsSend_of_unsent {d : Dev} {l : Nat} {ev : LineEv} (hev : (d.line l).ev = some ev) (hunsent : ev.unsent ≠ [])
    (hpeer : d.peerIp l ≠ 0) : arrivalsSend l d =
      let t := d.takeTxid
      let m : WMsg := ⟨l, t.1, arrivalsData (ev.unsent.take 44), 1, d.now⟩
      let d := t.2.setLine l { d.line l with ev := some { ev with unsent := ev.unsent.drop 44 } }
      (d.setWave { d.wave with msgs := d.wave.msgs ++ [m] }).sendArrivals m := by
  simp only [arrivalsSend, hev]
  exact if_neg (by simp [hunsent, hpeer])

theorem arrivalsRepeat_of_found {d d0 : Dev} {txid : Nat} {m : WMsg} (hm : d.wave.msgs.find? (fun m => m.txid == txid) = some m)
    (hd0 : d.at_ (m.last + ms 10) = d0) (hwave : d0.wave = d.wave) : arrivalsRepeat txid d =
      if m.sent < 6 then
        let m' := { m with sent := m.sent + 1, last := d0.now }
        (d0.setWave { d0.wave with msgs := d.wave.msgs.erase m ++ [m'] }).sendArrivals m'
      else ((d0.setWave { d0.wave with msgs := d.wave.msgs.erase m }).inc 0xA00105 0).raise 292 m.line 0 0 := by
  simp only [arrivalsRepeat, hm, hd0, hwave]

/-! ### Messages received -/

/-- A KMP request new to its path is answered with what its handler gives. -/
theorem kmpAnswer_of_new {d : Dev} {p : Path} {via ip udp role : Nat} {q : Req} {kind : Nat → Nat}
    {f : Dev → (Nat × List Byte) × Dev} {a : Nat} {data : List Byte} {e : Dev} (hid : q.txid ≠ 0) (happly : d.replayed p q = .apply)
    (hr : f (d.remember p q) = ((a, data), e)) : d.kmpAnswer p via ip udp role q kind f =
      (e.kmpSend via ip udp (kmpOf (kind a) q.txid role a data)).rememberSent p q ⟨a, data, 0⟩ := by
  simp only [Dev.kmpAnswer, hid, happly, if_false, hr]
  rfl

section
variable {role : Role}

theorem waveRole_of_le (h : 1 ≤ role.num) : waveRole role = true := decide_eq_true h
theorem waveRole_of_zero (h : role.num = 0) : waveRole role = false := by simp [waveRole, h]

variable {d : Dev} {via : Fin 17} {b : List Byte} {ip udp txid : Nat}

theorem arrivals_of_new {l : List (List Byte)} (hrole : 1 ≤ role.num) (hread : arrivalsRead b 1 = some l) (hid : txid ≠ 0)
    (happly : d.replayed (.kmp ip udp role via) (reqOf 0x20 txid b) = .apply) : arrivals ip udp role via txid b d =
      let r := (d.remember (.kmp ip udp role via) (reqOf 0x20 txid b)).takeArrivals ip l
      (r.2.kmpSend via ip udp (kmpOf 0x21 txid role.num r.1 [])).rememberSent (.kmp ip udp role via) (reqOf 0x20 txid b) ⟨r.1, [], 0⟩ := by
  simp only [arrivals, waveRole_of_le hrole, hread, Bool.not_true, Bool.false_eq_true, if_false]
  exact kmpAnswer_of_new (q := reqOf 0x20 txid b) hid happly rfl

theorem arrivalsAck_of_role (hrole : 1 ≤ role.num) : arrivalsAck ip role txid d =
    d.setWave { d.wave with msgs := d.wave.msgs.filter (fun m => !(m.txid == txid && d.peerIp m.line == ip)) } :=
  if_neg (by simp [waveRole_of_le hrole])

theorem query_of_line (hrole : 1 ≤ role.num) (hlen : b.length = 20) (hid : txid ≠ 0)
    (happly : d.replayed (.kmp ip udp role via) (reqOf 0x22 txid b) = .apply) (hl : byteAt b 0 < 64)
    (hon : (d.remember (.kmp ip udp role via) (reqOf 0x22 txid b)).on 0xA10001 (byteAt b 0) = true) : query ip udp role via txid b d =
      let e := d.remember (.kmp ip udp role via) (reqOf 0x22 txid b)
      let data := arrivalsData (e.queryRecords (byteAt b 0) (timeOfTs64 e.now (leAt b 4 8)) (timeOfTs64 e.now (leAt b 12 8)))
      (e.kmpSend via ip udp (kmpOf 0x23 txid role.num 0 data)).rememberSent (.kmp ip udp role via) (reqOf 0x22 txid b) ⟨0, data, 0⟩ := by
  simp only [query, waveRole_of_le hrole, hlen, Bool.not_true, Bool.false_eq_true, ne_eq, not_true, if_false]
  exact kmpAnswer_of_new (q := reqOf 0x22 txid b) hid happly (if_pos ⟨hl, hon⟩)

theorem queryReply_of_read {l : List (List Byte)} (hrole : 1 ≤ role.num) (hread : arrivalsRead b 0 = some l) :
    queryReply ip role b d = (d.takeArrivals ip l).2 := by
  simp only [queryReply, waveRole_of_le hrole, hread, Bool.not_true, Bool.false_eq_true, if_false]

variable (hrole : role.num = 0)
include hrole

theorem arrivals_of_monitor : arrivals ip udp role via txid b d = d.inc 0x110007 0 := if_pos (by simp [waveRole_of_zero hrole])
theorem arrivalsAck_of_monitor : arrivalsAck ip role txid d = d.inc 0x110007 0 := if_pos (by simp [waveRole_of_zero hrole])
theorem query_of_monitor : query ip udp role via txid b d = d.inc 0x110007 0 := if_pos (by simp [waveRole_of_zero hrole])
theorem queryReply_of_monitor : queryReply ip role b d = d.inc 0x110007 0 := if_pos (by simp [waveRole_of_zero hrole])
end

theorem enterRemote_of_no_line {d : Dev} {ip : Nat} {b : List Byte} (h : d.lineOf ip (arLine b) = none) : d.enterRemote ip b = d := by
  simp only [Dev.enterRemote, h]

theorem enterRemote_of_logged {d : Dev} {ip l : Nat} {b : List Byte} (h : d.lineOf ip (arLine b) = some l)
    (hlog : d.inLog ip (arId b) = true) : d.enterRemote ip b = d.inc 0xA00104 0 := by
  simp only [Dev.enterRemote, h, hlog, if_true]

theorem remember_on (d : Dev) (p : Path) (q : Req) : (d.remember p q).on = d.on := rfl

/-- Settles O42: each message is handled by its role and its first copy. -/
theorem wavefrontMessages : Obligations.WavefrontMessages := by
  intro s hpor
  refine ⟨fun l ev hev hunsent hpeer => gives_of_exec_eq_run rfl hpor (arrivalsSend_of_unsent hev hunsent hpeer), fun txid m hm => ?rep,
    fun ip udp role via txid b => ?received, fun d ip b => ⟨enterRemote_of_no_line, fun l => enterRemote_of_logged⟩⟩
  case rep =>
    intro d m'
    have hop := arrivalsRepeat_of_found (d0 := d) hm rfl (at_wave _ _)
    exact ⟨fun hs => gives_of_exec_eq_run rfl hpor (hop.trans (if_pos hs)), fun hs =>
      gives_of_exec_eq_run rfl hpor (hop.trans (if_neg (not_lt.mpr hs)))⟩
  case received =>
    intro path hreach
    refine ⟨fun hrole => ⟨fun l hread hid happly => ?_, ?_, fun hlen hid happly hl hon => ?_, fun l hread => ?_⟩,
      fun hrole => ⟨?_, ?_, ?_, ?_⟩⟩
    · exact gives_of_onKmp rfl hpor hreach (arrivals_of_new hrole hread hid happly)
    · exact gives_of_onKmp rfl hpor hreach (arrivalsAck_of_role hrole)
    · exact gives_of_onKmp rfl hpor hreach (query_of_line hrole hlen hid happly hl (by rw [remember_on]; exact hon))
    · exact gives_of_onKmp rfl hpor hreach (queryReply_of_read hrole hread)
    · exact gives_of_onKmp rfl hpor hreach (arrivals_of_monitor hrole)
    · exact gives_of_onKmp rfl hpor hreach (arrivalsAck_of_monitor hrole)
    · exact gives_of_onKmp rfl hpor hreach (query_of_monitor hrole)
    · exact gives_of_onKmp rfl hpor hreach (queryReply_of_monitor hrole)

end Sys2Proof.Machine

/-! PROOFS. The PCI Express link: training, L0s and L1, freezes, PERST_N and the endpoint's readiness. -/
namespace Sys2Proof.Machine

/-! ### Training and low power -/

theorem linkTrained_of_width {d : Dev} {speed width : Nat} (hperst : d.host.pcie.perst = false) (hspeed : 1 ≤ speed) (hspeed' : speed ≤ 5)
    (hwidth : width = 16 ∨ width = 8 ∨ width = 4) : linkTrained speed width d =
      let e := d.setPcie { d.host.pcie with linkUp := true, speed := speed, width := width, l0s := false, l1 := false }
      if speed ≤ 2 ∨ width ≠ 16 then ((e.raise 321 0 0 0).setLive 321 0 true).showEndpoint
      else (e.setLive 321 0 false).showEndpoint := by
  have hw : (width == 16 || width == 8 || width == 4) = true := by simpa [or_assoc] using hwidth
  have hs : (decide (1 ≤ speed) && decide (speed ≤ 5)) = true := by simp [hspeed, hspeed']
  simp only [linkTrained, hperst, hw, hs, Bool.not_true, Bool.or_self, Bool.false_eq_true, if_false]
  by_cases hslow : speed ≤ 2 ∨ width ≠ 16
  · have hslow' : (decide (speed ≤ 2) || width != 16) = true := by simpa using hslow
    simp only [hslow', if_true, if_pos hslow]
  · have hslow' : (decide (speed ≤ 2) || width != 16) = false := by simpa using hslow
    simp only [hslow', Bool.false_eq_true, if_false, if_neg hslow]

theorem l0sEntry_of_allowed {d : Dev} (hup : d.host.pcie.linkUp = true) (hctl : bit d.host.pcie.linkCtl 0 = true)
    (hinhibit : d.aspmInhibit = false) : l0sEntry d = d.setPcie { d.host.pcie with l0s := true } :=
  if_pos (by simp [hup, hctl, hinhibit])

theorem l1Entry_of_allowed {d : Dev} (hup : d.host.pcie.linkUp = true) (hctl : bit d.host.pcie.linkCtl 1 = true)
    (hinhibit : d.aspmInhibit = false) (hreads : d.host.pcie.reads = []) (hheld : d.host.pcie.held = []) :
    l1Entry d = d.setPcie { d.host.pcie with l1 := true } :=
  if_pos (by simp [hup, hctl, hinhibit, hreads, hheld])

/-! ### Freezes -/

/-- What a freeze latches (R415). -/
def PcieSt.frozenBy (x : PcieSt) (cause now : Nat) : PcieSt :=
  { x with
    frozen := true, cause := cause, freezes := (x.freezes + 1) % 2 ^ 32, frNs := bits (ts64Of now) 0 32, frSec := bits (ts64Of now) 32 32,
    reads := [], waiting := [], quarantine := x.quarantine ++ x.reads.map (fun r => (r.tag, now + x.cplTimeout)),
    reqs := x.reqs.map (fun r => { r with lost := true, got := [] }) }

theorem freeze_of_inert {d : Dev} (cause : Nat) (h : d.host.pcie.frozen = true ∨ d.host.pcie.perst = true) : d.freeze cause = d :=
  if_pos (by simpa using h)

section
variable {d : Dev} (cause : Nat)

theorem freeze_of_running (hfrozen : d.host.pcie.frozen = false) (hperst : d.host.pcie.perst = false) : d.freeze cause =
    let e := ((d.setPcie (d.host.pcie.frozenBy cause d.now)).raise 320 0 cause 0).setLive 320 0 true
    (e.put 0x700007 0 e.host.pcie.freezes).showEndpoint := if_neg (by simp [hfrozen, hperst])

@[simp] theorem showEndpoint_host : d.showEndpoint.host = d.host := rfl
@[simp] theorem showEndpoint_flt : d.showEndpoint.flt = d.flt := rfl
@[simp] theorem showEndpoint_queue : d.showEndpoint.queue = d.queue := rfl

theorem fr_showEndpoint_dict {dz : Dev} {l : List Part} (h : .dict ∈ l) : dz.changesOnly l d.showEndpoint ↔ dz.changesOnly l d := by
  simp only [Dev.showEndpoint, fr_put, h]

variable (hfrozen : d.host.pcie.frozen = false) (hperst : d.host.pcie.perst = false)
include hfrozen hperst

theorem freeze_host : (d.freeze cause).host = { d.host with pcie := d.host.pcie.frozenBy cause d.now } := by
  rw [freeze_of_running cause hfrozen hperst]
  simp only [showEndpoint_host, put_host, setLive_host, raise_host]
  rfl

theorem freeze_flying : (d.freeze cause).flt.flying = d.flt.flying ++ [⟨320, 0, cause, 0, d.now, false⟩] := by
  rw [freeze_of_running cause hfrozen hperst]
  exact raise_flying _ _ _ _ _

theorem freeze_live : (320, 0) ∈ (d.freeze cause).flt.live := by
  rw [freeze_of_running cause hfrozen hperst]
  simp [Dev.setLive]

theorem freeze_changesOnly : d.changesOnly [.dict, .flying, .live, .host] (d.freeze cause) := by
  rw [freeze_of_running cause hfrozen hperst]
  simp only [fr_showEndpoint_dict, fr_put, fr_setLive, fr_raise, fr_setPcie, List.mem_cons, reduceCtorEq, true_or, or_true]
  exact changesOnly_refl _ _
end

theorem high_low_bits (t : Nat) : bits t 32 32 * 2 ^ 32 + bits t 0 32 = t % 2 ^ 64 := by
  rw [bits_eq_div_mod, bits_eq_div_mod]
  omega

/-! ### PERST_N -/

theorem setQueue_queue (d : Dev) (q k : Nat) (x : Queue) : (d.setQueue q x).queue k = if k = q then x else d.queue k := by
  split_ifs with h
  · rw [h, setQueue_queue_same]
  · exact tget_tput_ne _ _ _ _ h

/-- An update that keeps a queue's state keeps the state of every queue. -/
theorem setQueue_state {d : Dev} {q : Nat} {x : Queue} (hx : x.state = (d.queue q).state) (k : Nat) :
    ((d.setQueue q x).queue k).state = (d.queue k).state := by
  rw [setQueue_queue]
  split_ifs with h
  · rw [hx, h]
  · rfl

theorem countDrop_state (d : Dev) (q k : Nat) : ((d.countDrop q).queue k).state = (d.queue k).state := by
  rw [Dev.countDrop, inc_queue, setQueue_state]
  rfl

theorem foldl_state {α : Type} {f : Dev → α → Dev} {k : Nat} (hf : ∀ d x, ((f d x).queue k).state = (d.queue k).state) (l : List α)
    (d : Dev) : ((l.foldl f d).queue k).state = (d.queue k).state := by
  induction l generalizing d with
  | nil => rfl
  | cons x l ih => rw [List.foldl_cons, ih, hf]

theorem dropWaiting_state (d : Dev) (q k : Nat) : ((d.dropWaiting q).queue k).state = (d.queue k).state := by
  simp only [Dev.dropWaiting]
  rw [setQueue_state, foldl_state fun d _ => countDrop_state d q k, foldl_state fun d w => countDrop_state (d.freeCells _ _) q k]
  rfl

theorem abandonBlock_queue (d : Dev) (b : Block) : (d.abandonBlock b).queue = d.queue := by
  unfold Dev.abandonBlock
  split <;> rfl

theorem abandonBlocks_state (d : Dev) (q k : Nat) : ((d.abandonBlocks q).queue k).state = (d.queue k).state := by
  simp only [Dev.abandonBlocks]
  rw [foldl_state fun d b => by rw [abandonBlock_queue], setQueue_state]
  rfl

theorem showDemand_queue (d : Dev) : d.showDemand.queue = d.queue := by
  unfold Dev.showDemand
  simp only [apply_ite Dev.queue, setLive_queue, raise_queue, ite_self]
  rfl

/-- A reset detaches its queue and no other. -/
theorem resetCore_state (d : Dev) (q k : Nat) : ((d.resetCore q).queue k).state = if k = q then 0 else (d.queue k).state := by
  unfold Dev.resetCore
  by_cases hdet : (d.queue q).state = qDetached
  · simp only [hdet, if_true]
    split_ifs with hk
    · rw [hk, hdet]; rfl
    · rfl
  · simp only [hdet, if_false, showDemand_queue, setLive_queue, setPcie_queue, add_queue, setQueue_queue]
    split_ifs with hk
    · rfl
    · rw [abandonBlocks_state, dropWaiting_state]

theorem foldl_resetCore_state (l : List Nat) (d : Dev) (k : Nat) (h : k ∈ l ∨ (d.queue k).state = 0) :
    ((l.foldl (fun d q => d.resetCore q) d).queue k).state = 0 := by
  induction l generalizing d with
  | nil => simpa using h
  | cons q l ih =>
    rw [List.foldl_cons]
    apply ih
    rw [resetCore_state]
    split_ifs with hk
    · exact .inr rfl
    · simpa [hk] using h

theorem foldl_detach_state (l : List Nat) (d : Dev) (k : Nat) (h : (d.queue k).state = 0) :
    ((l.foldl (fun d q => d.setQueue q queue0) d).queue k).state = 0 := by
  induction l generalizing d with
  | nil => exact h
  | cons q l ih =>
    rw [List.foldl_cons]
    apply ih
    rw [setQueue_queue]
    split_ifs
    · rfl
    · exact h

theorem tget_of_not_listed {α : Type} (d : α) {t : Tab α} {n : Nat} (h : n ∉ t.map (·.1)) : tget d t n = d := by
  induction t with
  | nil => rfl
  | cons p t ih =>
    rw [List.map_cons, List.mem_cons, not_or] at h
    rw [tget, if_neg h.1, ih h.2]

/-- No queue stays attached. -/
theorem detachAll_state (d : Dev) (k : Nat) : (d.detachAll.queue k).state = 0 := by
  simp only [Dev.detachAll, showDemand_queue]
  apply foldl_detach_state
  apply foldl_resetCore_state
  by_cases hk : k ∈ d.host.queues.map (·.1)
  · exact .inl hk
  · exact .inr (by rw [Dev.queue, tget_of_not_listed _ hk]; rfl)

/-- The queues purged and detached. -/
def Dev.unqueued (d : Dev) : Dev := ((d.host.queues.map (·.1)).foldl (fun d q => d.purgeQueue q) d).detachAll

/-- The endpoint in reset, its registers at their reset values. -/
def Dev.endpointReset (d : Dev) : Dev :=
  ((d.setPcie (pcieReset (d.get 0x700001 0) (d.get 0x700002 0) true)).setLive 320 0 false).showEndpoint

/-- BOOT_LEN cleared; a start that waited for the host's image waits anew. -/
def Dev.bootCleared (d : Dev) : Dev :=
  let d := d.setPow { d.pow with len := 0 }
  if d.pow.phase = 1 then d.setPow { d.pow with window := [], waitFrom := none } else d

theorem perstAssert_eq (d : Dev) : perstAssert d = d.unqueued.endpointReset.bootCleared := rfl

theorem bootCleared_of_phase {d : Dev} (h : d.pow.phase ≠ 1) : d.bootCleared = d.setPow { d.pow with len := 0 } := if_neg h

theorem endpointReset_unqueued_pow (d : Dev) : d.unqueued.endpointReset.pow = d.pow := by
  have honly : d.changesOnly [.out, .dict, .flying, .live, .net, .host, .lan] d.unqueued.endpointReset := by
    simp only [Dev.endpointReset, Dev.unqueued, fr_showEndpoint_dict, fr_setLive, fr_setPcie, fr_detachAll, fr_foldl, fr_purgeQueue,
      List.mem_cons, reduceCtorEq, true_or, or_true, implies_true]
    exact changesOnly_refl _ _
  exact honly .pow (by decide)

theorem endpointReset_pcie (d : Dev) :
    d.endpointReset.host.pcie = pcieReset (d.endpointReset.get 0x700001 0) (d.endpointReset.get 0x700002 0) true := by
  have hget : ∀ o, o = 0x700001 ∨ o = 0x700002 → d.endpointReset.get o 0 = d.get o 0 := by
    intro o ho
    have h : o ≠ 0x700006 ∧ o ≠ 0x700005 ∧ o ≠ 0x700009 ∧ o ≠ 0x801006 := by omega
    obtain ⟨h6, h5, h9, hl⟩ := h
    rw [Dev.endpointReset, Dev.showEndpoint, put_get_obj _ _ (by decide) (by decide) h9, put_get_obj _ _ (by decide) (by decide) h5,
      put_get_obj _ _ (by decide) (by decide) h6, setLive_get_obj _ _ _ _ (by decide) (by decide) hl, setPcie_get]
  rw [hget _ (.inl rfl), hget _ (.inr rfl)]
  rfl

theorem endpointReset_queue (d : Dev) : d.endpointReset.queue = d.queue := by
  rw [Dev.endpointReset, showEndpoint_queue, setLive_queue, setPcie_queue]

theorem endpointReset_live (d : Dev) : (320, 0) ∉ d.endpointReset.flt.live := by
  simp [Dev.endpointReset, Dev.setLive]

theorem perstRelease_of_low {d : Dev} (h : d.host.pcie.perst = true) :
    perstRelease d = (d.setPcie { d.host.pcie with perst := false }).showEndpoint := if_pos h

theorem endpointReady_of_running {d : Dev} (hperst : d.host.pcie.perst = false) (hpor : d.pow.mainPor = false) (hrst : d.pow.rst = none)
    (hphase : d.pow.phase ≠ 1) : endpointReady d = d.setPcie { d.host.pcie with ready := true } := by
  simp only [endpointReady, hperst, hpor, hrst, Option.isSome_none, Bool.or_self, Bool.false_eq_true, if_false]
  exact if_neg fun h => hphase h.1

/-- Settles O43: each event's guard holds, and a freeze latches its cause and time once. -/
theorem linkStates : Obligations.LinkStates := by
  intro s hpor x
  refine ⟨fun speed width hperst hspeed hwidth => ?trained, fun hup hctl hinhibit =>
    gives_of_exec_eq_run rfl hpor (l0sEntry_of_allowed hup hctl hinhibit), fun hup hctl hinhibit hreads hheld =>
    gives_of_exec_eq_run rfl hpor (l1Entry_of_allowed hup hctl hinhibit hreads hheld), gives_of_exec_eq_run (f := dlDown) rfl hpor rfl,
    gives_of_exec_eq_run (f := hotReset) rfl hpor rfl, fun d c => ⟨freeze_of_inert c, fun hf hp => ?freeze⟩, fun hphase => ?assert,
    fun hperst => ?release, fun hperst hmain hrst hphase =>
    gives_of_exec_eq_run rfl hpor (endpointReady_of_running hperst hmain hrst hphase)⟩
  case trained =>
    intro d
    have hop := linkTrained_of_width (d := s.dev) hperst hspeed (by omega) hwidth
    exact ⟨fun h => gives_of_exec_eq_run rfl hpor (hop.trans (if_pos h)), fun h h' =>
      gives_of_exec_eq_run rfl hpor (hop.trans (if_neg (by omega)))⟩
  case freeze =>
    intro e
    have hhost : e.host = { d.host with pcie := d.host.pcie.frozenBy c d.now } := freeze_host c hf hp
    rw [hhost]
    exact ⟨rfl, rfl, rfl, high_low_bits _, rfl, rfl, rfl, rfl, rfl, freeze_flying c hf hp, freeze_live c hf hp,
      freeze_changesOnly c hf hp⟩
  case assert =>
    refine ⟨perstAssert s.dev, runPin_on hpor _ _, ?_⟩
    have hpow := endpointReset_unqueued_pow s.dev
    rw [perstAssert_eq, bootCleared_of_phase (by rw [hpow]; exact hphase)]
    simp only [setPow_host, setPow_get, setPow_queue, setPow_flt, endpointReset_queue, hpow]
    exact ⟨endpointReset_pcie _, detachAll_state _, rfl, endpointReset_live _⟩
  case release =>
    exact (runPin_on hpor _ _).trans (by rw [perstRelease_of_low hperst])

end Sys2Proof.Machine

/-! PROOFS. Configuration requests, the containment controls, unsupported requests and internal errors. -/
namespace Sys2Proof.Machine

/-! ### Configuration requests -/

/-- Queues resume only where the host's memory becomes reachable. -/
theorem resumed_of_hostUp_eq {d e : Dev} (h : e.hostUp = d.hostUp) : d.resumed e = e := by
  rw [Dev.resumed, h]
  cases d.hostUp <;> rfl

theorem resumed_of_hostUp_false {d e : Dev} (h : e.hostUp = false) : d.resumed e = e := by
  simp [Dev.resumed, h]

theorem emit_hostUp (d : Dev) (o : Out) : (d.emit o).hostUp = d.hostUp := rfl

theorem setPcie_frLatch_hostUp (d : Dev) (v : Nat) : (d.setPcie { d.host.pcie with frLatch := v }).hostUp = d.hostUp := rfl

theorem cfgRead_freezeTime (d : Dev) : d.cfgRead 0x238 = d.host.pcie.frNs := by
  simp only [Dev.cfgRead, OfNat.ofNat_ne_zero, if_false, Nat.reduceEqDiff, Nat.reduceLeDiff, Nat.reduceLT, false_and, and_false, if_true]

section
variable {d : Dev} {off value be : Nat} (hperst : d.host.pcie.perst = false) (hup : d.host.pcie.linkUp = true)
include hperst hup

theorem configCommand_of_not_ready {write : Bool} (hready : d.host.pcie.ready = false) :
    configCommand write off value be d = d.emit (.completion 2 []) := by
  have hop : configRequest write off value be d = d.emit (.completion 2 []) := by
    simp [configRequest, hperst, hup, hready]
  rw [configCommand, hop, resumed_of_hostUp_eq (emit_hostUp _ _)]

variable (hready : d.host.pcie.ready = true)
include hready

theorem configCommand_read (hoff : off / 4 * 4 ≠ 0x238) :
    configCommand false off value be d = d.emit (.config (d.cfgRead (off / 4 * 4))) := by
  have hop : configRequest false off value be d = d.emit (.config (d.cfgRead (off / 4 * 4))) := by
    simp [configRequest, hperst, hup, hready, hoff]
  rw [configCommand, hop, resumed_of_hostUp_eq (emit_hostUp _ _)]

/-- The freeze time's low half latches the high half. -/
theorem configCommand_freezeTime (hoff : off / 4 * 4 = 0x238) : configCommand false off value be d =
    (d.setPcie { d.host.pcie with frLatch := d.host.pcie.frSec }).emit (.config d.host.pcie.frNs) := by
  have hop : configRequest false off value be d =
      (d.setPcie { d.host.pcie with frLatch := d.host.pcie.frSec }).emit (.config d.host.pcie.frNs) := by
    simp only [configRequest, hperst, hup, hready, hoff, Bool.not_true, Bool.or_self, Bool.false_eq_true, if_false, if_true,
      cfgRead_freezeTime]
    rfl
  rw [configCommand, hop, resumed_of_hostUp_eq ((emit_hostUp _ _).trans (setPcie_frLatch_hostUp _ _))]

theorem configCommand_write : configCommand true off value be d =
    d.resumed ((d.cfgWrite (off / 4 * 4) value be).emit (.completion 0 [])) := by
  simp [configCommand, configRequest, hperst, hup, hready]
end

/-! ### The containment controls -/

theorem cfgWrite_control (d : Dev) (v be : Nat) : d.cfgWrite 0x22C v be =
    if bit (mergeBe 0 v be) 30 then testFreeze (if bit (mergeBe 0 v be) 31 then contRelease d else d)
    else if bit (mergeBe 0 v be) 31 then contRelease d else d := by
  simp only [Dev.cfgWrite, Nat.reduceEqDiff, if_false, if_true]

/-- A freeze leaves the host's memory out of reach, or as it was. -/
theorem freeze_hostUp (d : Dev) (c : Nat) : (d.freeze c).hostUp = false ∨ d.freeze c = d := by
  by_cases h : d.host.pcie.frozen = true ∨ d.host.pcie.perst = true
  · exact .inr (freeze_of_inert c h)
  · simp only [not_or, Bool.not_eq_true] at h
    refine .inl ?_
    have hhost := freeze_host c h.1 h.2
    simp [Dev.hostUp, hhost, PcieSt.frozenBy]

section
variable {d : Dev} (hperst : d.host.pcie.perst = false) (hup : d.host.pcie.linkUp = true) (hready : d.host.pcie.ready = true)
include hperst hup hready

theorem testFreezeCommand_of_ready : testFreezeCommand d = (d.freeze 5).emit (.completion 0 []) := by
  have hop : d.cfgWrite (0x22C / 4 * 4) 0x40000000 15 = d.freeze 5 := by
    rw [cfgWrite_control d 0x40000000 15, if_pos (by decide), if_neg (by decide)]
    rfl
  rw [testFreezeCommand, configCommand_write hperst hup hready, hop]
  rcases freeze_hostUp d 5 with h | h
  · exact resumed_of_hostUp_false h
  · exact resumed_of_hostUp_eq (by rw [emit_hostUp, h])

theorem contReleaseCommand_of_ready : contReleaseCommand d = d.resumed ((contRelease d).emit (.completion 0 [])) := by
  have hop : d.cfgWrite (0x22C / 4 * 4) 0x80000000 15 = contRelease d := by
    rw [cfgWrite_control d 0x80000000 15, if_neg (by decide), if_pos (by decide)]
  rw [contReleaseCommand, configCommand_write hperst hup hready, hop]
end

/-! ### Errors the endpoint finds -/

theorem unsupportedRequest_eq (d : Dev) (memory : Bool) : unsupportedRequest memory d =
    ((d.setPcie { d.host.pcie with
      ur := (d.host.pcie.ur + 1) % 2 ^ 32,
      refused := if d.host.pcie.frozen = true ∧ memory = true then (d.host.pcie.refused + 1) % 2 ^ 32 else d.host.pcie.refused }).inc
        0x700008 0).logUnc 20 := by
  simp only [unsupportedRequest, Bool.and_eq_true]

section
variable {d : Dev} (hperst : d.host.pcie.perst = false)
include hperst

theorem endpointError_uncorrectable {b : Fin 32} (hb : b.val ∈ [4, 12, 13, 17, 18, 19]) : endpointError (.uncorrectable b) d = d.logUnc b := by
  have hne : b ≠ 22 := by rintro rfl; exact absurd hb (by decide)
  have hin : [4, 12, 13, 17, 18, 19].contains b.val = true := by simpa using hb
  simp only [endpointError, hperst, Bool.false_eq_true, if_false, if_neg hne, hin, if_true]
  rfl

theorem endpointError_internal (harmed : d.armedSlot 0x12 0 0 = none) : endpointError (.uncorrectable 22) d = d.logUnc 22 := by
  simp only [endpointError, hperst, Bool.false_eq_true, if_false, if_true]
  exact checked_of_unarmed harmed _

theorem endpointError_correctable {b : Fin 32} (hb : b.val ∈ [0, 6, 7, 8, 12, 13, 14, 15]) : endpointError (.correctable b) d = d.logCor b := by
  have hin : [0, 6, 7, 8, 12, 13, 14, 15].contains b.val = true := by simpa using hb
  simp only [endpointError, hperst, Bool.false_eq_true, if_false, hin, if_true]
end

/-- Settles O44: each request and error goes to the branch of its guard. -/
theorem configurationAccess : Obligations.ConfigurationAccess := by
  intro s hpor x
  refine ⟨fun hperst hup write off value be => ?config, fun hperst hup hready => ?cont, fun memory => ?ur, fun hperst => ?errors,
    fun d b => ?logged⟩
  case config =>
    exact ⟨fun h => gives_of_exec_eq_run rfl hpor (configCommand_of_not_ready hperst hup h), fun h ho =>
      gives_of_exec_eq_run rfl hpor (configCommand_read hperst hup h ho), fun h ho =>
      gives_of_exec_eq_run rfl hpor (configCommand_freezeTime hperst hup h ho), fun h =>
      gives_of_exec_eq_run rfl hpor (configCommand_write hperst hup h)⟩
  case cont =>
    refine ⟨gives_of_exec_eq_run rfl hpor (testFreezeCommand_of_ready hperst hup hready), fun hrel => ?_, fun hrel => ?_⟩
    · refine gives_of_exec_eq_run rfl hpor ((contReleaseCommand_of_ready hperst hup hready).trans ?_)
      rw [contRelease, if_pos hrel]
    · refine gives_of_exec_eq_run rfl hpor ((contReleaseCommand_of_ready hperst hup hready).trans ?_)
      rw [contRelease, if_neg (by simp [hrel]), resumed_of_hostUp_eq (emit_hostUp _ _)]
  case ur => exact gives_of_exec_eq_run rfl hpor (unsupportedRequest_eq s.dev memory)
  case errors =>
    exact ⟨fun b hb => gives_of_exec_eq_run rfl hpor (endpointError_uncorrectable hperst hb), fun harmed =>
      gives_of_exec_eq_run rfl hpor (endpointError_internal hperst harmed), fun b hb =>
      gives_of_exec_eq_run rfl hpor (endpointError_correctable hperst hb)⟩
  case logged =>
    intro y e
    refine ⟨fun hb => if_pos hb, fun hb hsev hmask => ?_, fun hb h => ?_⟩
    · have hfatal : y.fatalBit b = true := by rw [PcieSt.fatalBit, hsev, hmask]; rfl
      exact (if_neg hb).trans (if_pos hfatal)
    · have hmild : y.fatalBit b = false := by rcases h with h | h <;> simp [PcieSt.fatalBit, h]
      exact (if_neg hb).trans (if_neg (by rw [hmild]; exact Bool.false_ne_true))

end Sys2Proof.Machine

/-! PROOFS. Read completions and their time-outs, moderated and masked vectors, quarantined tags. -/
namespace Sys2Proof.Machine

@[simp] theorem setPcie_setPcie (d : Dev) (x y : PcieSt) : (d.setPcie x).setPcie y = d.setPcie y := rfl
@[simp] theorem setPcie_pcie (d : Dev) (x : PcieSt) : (d.setPcie x).host.pcie = x := rfl

/-! ### Completions -/

section
variable {d : Dev} {tag : Nat} (hperst : d.host.pcie.perst = false) (hup : d.host.pcie.linkUp = true)
include hperst hup

theorem readCompletion_of_unexpected (c : CplStatus) (h : d.takePart tag = none) : readCompletion tag c d = d.logUnc 16 := by
  simp only [readCompletion, hperst, hup, h, Bool.not_true, Bool.or_self, Bool.false_eq_true, if_false]

variable {p : HostRead} (h : d.takePart tag = some p)
include h

theorem readCompletion_success (bs : List Byte) : readCompletion tag (.success bs) d = (d.partData p bs).issueReads := by
  simp only [readCompletion, hperst, hup, h, Bool.not_true, Bool.or_self, Bool.false_eq_true, if_false]

theorem readCompletion_unsupported : readCompletion tag .unsupported d = ((d.setPcie { d.host.pcie with
    reads := d.host.pcie.reads.erase p, statusErr := d.host.pcie.statusErr ||| 0x2000 }).readFails p.req).issueReads := by
  simp only [readCompletion, hperst, hup, h, Bool.not_true, Bool.or_self, Bool.false_eq_true, if_false, setPcie_setPcie, setPcie_pcie]

theorem readCompletion_abort : readCompletion tag .abort_ d = ((d.setPcie { d.host.pcie with
    reads := d.host.pcie.reads.erase p, statusErr := d.host.pcie.statusErr ||| 0x1000 }).readFails p.req).issueReads := by
  simp only [readCompletion, hperst, hup, h, Bool.not_true, Bool.or_self, Bool.false_eq_true, if_false, setPcie_setPcie, setPcie_pcie]

theorem readCompletion_poisoned : readCompletion tag .poisoned d =
    (((d.setPcie { d.host.pcie with reads := d.host.pcie.reads.erase p }).readFails p.req).logUnc 12).issueReads := by
  simp only [readCompletion, hperst, hup, h, Bool.not_true, Bool.or_self, Bool.false_eq_true, if_false]
end

theorem completionTimeout_of_part {d : Dev} {tag : Nat} {p : HostRead} (h : d.takePart tag = some p) : completionTimeout tag d =
    (((d.setPcie { d.host.pcie with reads := d.host.pcie.reads.erase p }).readFails p.req).logUnc 14).issueReads := by
  simp only [completionTimeout, h]

/-! ### Moderation and quarantine -/

section
variable {d d0 : Dev} {v : Nat} {m : Moderation} (hm : tget moderation0 d.host.pcie.mods v = m) (huntil : 0 < m.until_)
  (hd0 : d.at_ m.until_ = d0) (hhost : d0.host = d.host)
include hm huntil hd0 hhost

theorem moderationEnd_of_merged (hmerged : m.merged = true) : moderationEnd v d = (d0.setPcie { d.host.pcie with
    mods := tput moderation0 d.host.pcie.mods v ⟨d0.now + ns (d0.get 0x700101 v), false⟩ }).sendMessage v := by
  simp only [moderationEnd, hm, gt_iff_lt, huntil, if_true, hd0, hhost, hmerged]

theorem moderationEnd_of_none (hmerged : m.merged = false) : moderationEnd v d =
    d0.setPcie { d.host.pcie with mods := tput moderation0 d.host.pcie.mods v moderation0 } := by
  simp only [moderationEnd, hm, gt_iff_lt, huntil, if_true, hd0, hhost, hmerged, Bool.false_eq_true, if_false]
end

theorem vectorUnmask_of_msix {d : Dev} {v : Nat} (h : d.host.pcie.intMode = 3) : vectorUnmask v d = (d.setPcie { d.host.pcie with
    msixTab := tput (msixDflt (4 * v + 3)) d.host.pcie.msixTab (4 * v + 3) (setBit (d.host.pcie.msix (4 * v + 3)) 0 false) }).flushPending := by
  simp only [vectorUnmask, h, if_true]

theorem vectorUnmask_of_msi {d : Dev} {v : Nat} (h : d.host.pcie.intMode = 2) : vectorUnmask v d =
    (d.setPcie { d.host.pcie with msiMask := setBit d.host.pcie.msiMask (v % 32) false }).flushPending := by
  simp [vectorUnmask, h]

theorem tagQuarantineEnd_of_first {d d0 : Dev} {tag t : Nat} {l : List (Nat × Nat)} (h : d.host.pcie.quarantine = (tag, t) :: l)
    (hd0 : d.at_ t = d0) (hhost : d0.host = d.host) : tagQuarantineEnd d =
      (d0.setPcie { d.host.pcie with quarantine := ((tag, t) :: l).filter (fun y => decide (d0.now < y.2)) }).issueReads := by
  simp only [tagQuarantineEnd, h, hd0, hhost]

/-! ### The parts of a read -/

section
variable {d : Dev} {p : HostRead} {r : ReadReq} {bs : List Byte} (hlen : bs.length = p.len)
  (hr : d.host.pcie.reqs.find? (fun r => r.id == p.req) = some r)
include hlen hr

theorem partData_of_last {w : List Byte} (hw : ({ r with got := r.got ++ [(p.off, bs)] } : ReadReq).whole = some w) : d.partData p bs =
    (d.setPcie { d.host.pcie with reads := d.host.pcie.reads.erase p, reqs := d.host.pcie.reqs.erase r }).readDone r.what w := by
  have htake : bs.take p.len = bs := hlen ▸ List.take_length
  simp only [Dev.partData, htake, hlen, if_true, hr, hw]

theorem partData_of_more (hw : ({ r with got := r.got ++ [(p.off, bs)] } : ReadReq).whole = none) : d.partData p bs =
    d.setPcie { d.host.pcie with
      reads := d.host.pcie.reads.erase p,
      reqs := d.host.pcie.reqs.map (fun y => if y = r then { r with got := r.got ++ [(p.off, bs)] } else y) } := by
  have htake : bs.take p.len = bs := hlen ▸ List.take_length
  simp only [Dev.partData, htake, hlen, if_true, hr, hw]
end

/-- Settles O45: each completion and time-out goes to the branch of its guard. -/
theorem hostReadsAndInterrupts : Obligations.HostReadsAndInterrupts := by
  intro s hpor x
  refine ⟨fun tag hperst hup => ⟨fun c h => gives_of_exec_eq_run rfl hpor (readCompletion_of_unexpected hperst hup c h), ?success,
    fun p h => ⟨gives_of_exec_eq_run rfl hpor (readCompletion_unsupported hperst hup h), gives_of_exec_eq_run rfl hpor
      (readCompletion_abort hperst hup h), gives_of_exec_eq_run rfl hpor (readCompletion_poisoned hperst hup h)⟩⟩,
    fun tag p h => gives_of_exec_eq_run rfl hpor (completionTimeout_of_part h), ?moderation, fun v =>
    ⟨fun h => gives_of_exec_eq_run rfl hpor (vectorUnmask_of_msix h), fun h => gives_of_exec_eq_run rfl hpor (vectorUnmask_of_msi h)⟩,
    ?quarantine⟩
  case success =>
    intro p r bs h hlen hr r'
    refine ⟨fun w hw => gives_of_exec_eq_run rfl hpor ?_, fun hw => gives_of_exec_eq_run rfl hpor ?_⟩
    · rw [readCompletion_success hperst hup h, partData_of_last hlen hr hw]
    · rw [readCompletion_success hperst hup h, partData_of_more hlen hr hw]
  case moderation =>
    intro v m hm huntil d
    have hget : d.get = s.dev.get := at_get _ _
    refine ⟨fun h => gives_of_exec_eq_run rfl hpor ?_, fun h => gives_of_exec_eq_run rfl hpor
      (moderationEnd_of_none (d0 := d) hm huntil rfl (at_host _ _) h)⟩
    rw [moderationEnd_of_merged (d0 := d) hm huntil rfl (at_host _ _) h, hget]
  case quarantine =>
    intro tag t l h d
    exact gives_of_exec_eq_run rfl hpor (tagQuarantineEnd_of_first (d0 := d) h rfl (at_host _ _))

end Sys2Proof.Machine

/-! PROOFS. The fault collector: the order of detections, what one records, how it reacts, the first-error record. -/
namespace Sys2Proof.Machine

/-! ### The order -/

/-- A detection's place by its class: F, then E, then the rest (R452). -/
def Detection.rank (x : Detection) : Nat := if srcClass x.src = clsF then 0 else if srcClass x.src = clsE then 1 else 2

theorem before_iff (a b : Detection) : a.before b = true ↔
    a.rank < b.rank ∨ a.rank = b.rank ∧ (a.src < b.src ∨ a.src = b.src ∧ a.unit < b.unit) := by
  simp [Detection.before, Detection.rank]

theorem before_eq_false_iff (a b : Detection) : a.before b = false ↔
    ¬ (a.rank < b.rank ∨ a.rank = b.rank ∧ (a.src < b.src ∨ a.src = b.src ∧ a.unit < b.unit)) := by
  rw [← before_iff, Bool.not_eq_true]

theorem insertDet_perm (x : Detection) (l : List Detection) : (insertDet x l).Perm (x :: l) := by
  induction l with
  | nil => exact List.Perm.refl _
  | cons y t ih =>
    rw [insertDet]
    split_ifs
    · exact List.Perm.refl _
    · exact (ih.cons y).trans (List.Perm.swap x y t)

theorem insertDet_ordered (x : Detection) (l : List Detection) (h : l.Pairwise (fun a b => b.before a = false)) :
    (insertDet x l).Pairwise (fun a b => b.before a = false) := by
  induction l with
  | nil => exact List.pairwise_singleton _ _
  | cons y t ih =>
    obtain ⟨hy, ht⟩ := List.pairwise_cons.mp h
    rw [insertDet]
    split_ifs with hxy
    · refine List.pairwise_cons.mpr ⟨fun z hz => ?_, h⟩
      have hzy : z = y ∨ z.before y = false := (List.mem_cons.mp hz).imp id (hy z)
      rw [before_iff] at hxy
      rcases hzy with rfl | hzy
      · rw [before_eq_false_iff]
        omega
      · rw [before_eq_false_iff] at hzy ⊢
        omega
    · refine List.pairwise_cons.mpr ⟨fun z hz => ?_, ih ht⟩
      rcases List.mem_cons.mp ((insertDet_perm x t).mem_iff.mp hz) with rfl | hz
      · exact Bool.not_eq_true _ |>.mp hxy
      · exact hy z hz

theorem foldl_insertDet (l acc : List Detection) (h : acc.Pairwise (fun a b => b.before a = false)) :
    (l.foldl (fun acc x => insertDet x acc) acc).Perm (l ++ acc) ∧
    (l.foldl (fun acc x => insertDet x acc) acc).Pairwise (fun a b => b.before a = false) := by
  induction l generalizing acc with
  | nil => exact ⟨List.Perm.refl _, h⟩
  | cons x l ih =>
    obtain ⟨hperm, hordered⟩ := ih (insertDet x acc) (insertDet_ordered x acc h)
    exact ⟨hperm.trans (((insertDet_perm x acc).append_left l).trans List.perm_middle), hordered⟩

theorem sortDets_perm (l : List Detection) : (sortDets l).Perm l := by
  have hperm := (foldl_insertDet l [] List.Pairwise.nil).1
  rwa [List.append_nil] at hperm

theorem sortDets_ordered (l : List Detection) : (sortDets l).Pairwise (fun a b => b.before a = false) :=
  (foldl_insertDet l [] List.Pairwise.nil).2

/-! ### Detections of one cycle -/

theorem injectedDet_of_unchecked {d : Dev} {x : Detection} (h : checkerOf x.src x.unit = none) : d.injectedDet x = (x, d) := by
  simp only [Dev.injectedDet, h]

/-- The conditions that ended and those that began. -/
def Dev.conditions (d : Dev) (began ended : List (Nat × Nat)) : Dev :=
  began.foldl (fun d x => d.setLive x.1 x.2 true) (ended.foldl (fun d x => d.setLive x.1 x.2 false) d)

theorem faultDetection_nil (began ended : List (Nat × Nat)) (d : Dev) : faultDetection [] began ended d =
    (sortDets (d.conditions began ended).flt.flying).foldl Dev.handle
      ((d.conditions began ended).setFlt { (d.conditions began ended).flt with flying := [] }) := by
  simp only [faultDetection, List.foldl_nil, List.append_nil]
  rfl

theorem faultDetection_singleton {x : Detection} (began ended : List (Nat × Nat)) {d : Dev} (h : checkerOf x.src x.unit = none) :
    faultDetection [x] began ended d = (sortDets ((d.conditions began ended).flt.flying ++ [x])).foldl Dev.handle
      ((d.conditions began ended).setFlt { (d.conditions began ended).flt with flying := [] }) := by
  simp only [faultDetection, List.foldl_cons, List.foldl_nil, injectedDet_of_unchecked h, List.nil_append]
  rfl

/-! ### What a detection records, and its reaction -/

/-- A detection recorded: its sticky bit, its counts, the first-error record and its event. -/
def Dev.recorded (d : Dev) (x : Detection) : Dev :=
  let c := d.consequential x
  let a := ((d.setFlt { d.flt with sticky := setBit d.flt.sticky x.src true }).inc 0x801004 x.src)
  let b := if c then a.inc 0x801005 x.src else a
  (b.noteFirst x c).eventDeliver ⟨x.src, x.unit % 2 ^ 32, x.code % 2 ^ 16, x.det, x.time, d.detUnsync x.src x.unit, c⟩

/-- The reaction to a detection that no other caused: the ladder's next step where a watch window is open, else its object's. -/
def Dev.reacted (d : Dev) (x : Detection) : Dev :=
  match d.watching x with
  | some r => d.ladderStep r
  | none => d.react x.src x.unit

theorem reacted_of_watched {d : Dev} {x : Detection} {r : Reaction} (h : d.watching x = some r) : d.reacted x = d.ladderStep r := by
  rw [Dev.reacted, h]

theorem reacted_of_unwatched {d : Dev} {x : Detection} (h : d.watching x = none) : d.reacted x = d.react x.src x.unit := by
  rw [Dev.reacted, h]

section
variable {d : Dev} {x : Detection} (hnamed : srcNamed x.src = true)
include hnamed

theorem handle_of_consequential (hc : d.consequential x = true) : d.handle x = d.recorded x := by
  simp only [Dev.handle, hnamed, hc, Bool.not_true, Bool.false_eq_true, if_false, if_true, Dev.recorded]

theorem handle_of_primary (hc : d.consequential x = false) : d.handle x = (d.recorded x).reacted x := by
  unfold Dev.handle
  rw [if_neg (by simp [hnamed])]
  exact if_neg (by simp [hc])
end

theorem react_eq (d : Dev) (src unit : Nat) : d.react src unit =
    if d.get 0x801003 src = 1 then d.containBlock src unit
    else if d.get 0x801003 src = 2 then (d.escalate src unit).containBlock src unit
    else if d.get 0x801003 src = 3 then (d.containBlock src unit).enterSafe (safeScope src unit) src unit
    else d := rfl

/-! ### The first-error record -/

section
variable {d : Dev} {x : Detection} {c : Bool} (hclass : srcClass x.src = clsE ∨ srcClass x.src = clsF)
include hclass

theorem noteFirst_of_first (hc : c = false) (hvalid : d.flt.feValid = false) : (d.noteFirst x c).flt = { d.flt with
    feValid := true, feInjected := x.injected, feClass := srcClass x.src, feSource := x.src, feUnit := x.unit % 2 ^ 32,
    feNs := bits (ts64Of x.time) 0 32, feSec := bits (ts64Of x.time) 32 32, feSynd := x.det } := by
  simp only [Dev.noteFirst]
  rw [if_neg (by tauto), if_neg (by simp [hc, hvalid])]
  rfl

theorem noteFirst_of_later (h : c = true ∨ d.flt.feValid = true) : (d.noteFirst x c).flt = { d.flt with feOverflow := true } := by
  simp only [Dev.noteFirst]
  rw [if_neg (by tauto), if_pos (by simpa using h)]
  rfl
end

/-- Settles O47: detections are handled in R452's order, each recorded and then met by its reaction. -/
theorem faultCollection : Obligations.FaultCollection := by
  refine ⟨fun s began ended hpor => ⟨gives_of_exec_eq_run rfl hpor (faultDetection_nil _ _ _), fun x hx =>
    gives_of_exec_eq_run rfl hpor (faultDetection_singleton _ _ hx)⟩, fun l => ⟨sortDets_perm l, sortDets_ordered l⟩, fun d x hnamed => ?handled,
    fun d x c hclass => ⟨fun hc hvalid => ?first, fun h => ?later, ?frame⟩⟩
  case handled =>
    intro c a b e
    refine ⟨handle_of_consequential hnamed, fun hc r hr => ?_, fun hc hnone => ?_⟩
    · exact (handle_of_primary hnamed hc).trans (reacted_of_watched hr)
    · have hreact : d.handle x = e.react x.src x.unit := (handle_of_primary hnamed hc).trans (reacted_of_unwatched hnone)
      rw [hreact, react_eq]
      refine ⟨fun h => ?_, fun h => ?_, fun h => ?_, fun h => ?_⟩ <;> simp [h]
  case first =>
    rw [noteFirst_of_first hclass hc hvalid]
    exact ⟨rfl, rfl, rfl, rfl, rfl⟩
  case later =>
    rw [noteFirst_of_later hclass h]
    exact ⟨rfl, rfl, rfl⟩
  case frame =>
    exact (fr_noteFirst _ _ _ (by decide) (by decide)).mpr (changesOnly_refl _ _)

end Sys2Proof.Machine

/-! PROOFS. The escalation ladder's windows and resets, the patrol scrubber, and demand errors of the HBM. -/
namespace Sys2Proof.Machine

/-! ### The ladder -/

theorem escalate_of_new {d : Dev} {src unit : Nat} (h : ∀ r ∈ d.flt.reactions, r.src ≠ src ∨ r.unit ≠ unit) : d.escalate src unit =
    let x : Reaction := ⟨src, unit, 0, .window (d.now + us (d.get 0x800001 0)), none⟩
    let e := d.setReactions (d.flt.reactions ++ [x])
    if 256 ≤ d.flt.reactions.length then (e.inc 0x800005 0).ladderStep x else e := by
  have hnone : d.flt.reactions.any (fun r => r.src == src && r.unit == unit) = false := by
    rw [List.any_eq_false]
    intro r hr
    have := h r hr
    simp only [Bool.and_eq_true, beq_iff_eq]
    omega
  simp only [Dev.escalate, hnone, Bool.false_eq_true, if_false, decide_eq_true_eq]

section
variable {d : Dev} {src unit : Nat} {x : Reaction} (h : d.flt.reactions.find? (fun r => r.src == src && r.unit == unit) = some x)
include h

theorem softwareWindowEnd_of_window {t : Nat} (hphase : x.phase = .window t) : softwareWindowEnd src unit d = (d.at_ t).ladderStep x := by
  simp only [softwareWindowEnd, h, hphase]

theorem watchWindowEnd_of_watch {a t : Nat} (hphase : x.phase = .watch a t) :
    watchWindowEnd src unit d = (d.at_ t).endReaction src unit := by
  simp only [watchWindowEnd, h, hphase]

theorem resetComplete_of_resetting {sc : Scope} (hphase : x.phase = .resetting) (hscope : x.scope = some sc) : resetComplete src unit d =
    let e := d.endReset sc
    e.setReactions (e.flt.reactions.map (fun r =>
      if r.phase == .resetting && r.scope == some sc then
        { r with phase := .watch e.now (e.now + us (e.get 0x800001 0)) } else r)) := by
  simp only [resetComplete, h, hphase, hscope]
end

theorem ladderStep_of_step {d : Dev} {x : Reaction} {sc : Scope} (h : (ladder x.src x.unit)[x.step]? = some sc) : d.ladderStep x =
    let r := (d.putReaction { x with step := x.step + 1, phase := .resetting, scope := some sc }).beginReset sc
    r.2.putReaction { x with step := x.step + 1, phase := .resetting, scope := some r.1 } := by
  simp only [Dev.ladderStep, h]

theorem ladderStep_of_past {d : Dev} {x : Reaction} (h : (ladder x.src x.unit)[x.step]? = none) :
    d.ladderStep x = (d.endReaction x.src x.unit).enterSafe 19 x.src x.unit := by
  simp only [Dev.ladderStep, h]

/-! ### The HBM -/

/-- With no injection armed for its stack and address a word's check is made as it is. -/
theorem hbmWord_of_unarmed {d : Dev} {stack addr : Nat} (h : d.armedSlot 1 stack addr = none) (v : EccCheck) (w : HbmWord) :
    d.hbmWord stack addr v w = d.hbmCheck stack addr v w := by
  simp [Dev.hbmWord, Dev.fire, h, injectedCheck]

section
variable {d d0 : Dev} {stack addr : Nat} {w : HbmWord} (hpower : d.power = 2) (haddr : addr < 17179869184)
  (hd0 : d.at_ (d.flt.passStart + addr * sec (d.get 0x830001 0) / 17179869184) = d0)
  (harmed : d0.armedSlot 1 stack addr = none) (hsig : w.sig = none)
include hpower haddr hd0 harmed hsig

theorem scrubRead_of_unarmed (v : EccCheck) : scrubRead stack addr v w d =
    if 17179869184 ≤ addr + 32 then (d0.hbmCheck stack addr v w).passEnd stack else d0.hbmCheck stack addr v w := by
  have hin : ¬ (d.power ≠ 2 ∨ stackBytes ≤ addr) := by
    rw [stackBytes]
    omega
  have hat : d.at_ (d.flt.passStart + addr * sec (d.get 0x830001 0) / stackBytes) = d0 := by rw [stackBytes, hd0]
  simp only [scrubRead, if_neg hin, hat, hbmWord_of_unarmed harmed, hsig, ge_iff_le]
  rw [stackBytes]
end

section
variable {d : Dev} {stack addr : Nat} {w : HbmWord}

theorem hbmCheck_good : d.hbmCheck stack addr .good w = d := by simp [Dev.hbmCheck]

variable (hon : d.on 0x830002 0 = true)
include hon

theorem hbmCheck_corrected : d.hbmCheck stack addr .corrected w = (d.inc 0x830003 0).raise 387 stack 0 addr := by
  simp [Dev.hbmCheck, hon]
theorem hbmCheck_uncorrectable :
    d.hbmCheck stack addr .uncorrectable w = ((d.inc 0x830004 0).raise 388 stack 0 addr).hbmBad w := by
  simp [Dev.hbmCheck, hon]
end

/-- Settles O48: each window's end takes the step of its phase, and each word's check its own course. -/
theorem escalationAndScrub : Obligations.EscalationAndScrub := by
  intro s hpor
  refine ⟨fun d src unit h => ?escalate, fun src unit x h => ⟨fun t ht => gives_of_exec_eq_run rfl hpor (softwareWindowEnd_of_window h ht),
    fun sc hphase hscope => gives_of_exec_eq_run rfl hpor (resetComplete_of_resetting h hphase hscope), fun a t ht =>
    gives_of_exec_eq_run rfl hpor (watchWindowEnd_of_watch h ht)⟩, fun d x sc h => ladderStep_of_step h, fun d x h => ladderStep_of_past h,
    fun hpower stack addr v w harmed hon hsig => ?hbm⟩
  case escalate =>
    exact ⟨fun hlen => (escalate_of_new h).trans (if_neg (not_le.mpr hlen)), fun hlen => (escalate_of_new h).trans (if_pos hlen)⟩
  case hbm =>
    intro d
    have hat : d.armedSlot 1 stack addr.toNat = none := (at_armedSlot _ _ _ _ _).trans harmed
    have hon' : d.on 0x830002 0 = true := by rw [Dev.on, at_get]; exact hon
    have hop := fun (haddr : addr.toNat < 17179869184) => scrubRead_of_unarmed (d0 := d) hpower haddr rfl hat hsig
    refine ⟨fun hin => ?_, fun hlast hin => ?_, ?_⟩
    · have hop' := fun v => (hop (by omega) v).trans (if_neg (not_le.mpr hin))
      exact ⟨gives_of_exec_eq_run rfl hpor ((hop' _).trans (hbmCheck_good)), gives_of_exec_eq_run rfl hpor
        ((hop' _).trans (hbmCheck_corrected hon')), gives_of_exec_eq_run rfl hpor ((hop' _).trans (hbmCheck_uncorrectable hon'))⟩
    · refine gives_of_exec_eq_run rfl hpor (((hop hin _).trans (if_pos hlast)).trans ?_)
      rw [hbmCheck_good]
    · refine gives_of_exec_eq_run (f := hbmUncorrectable stack addr.toNat w) rfl hpor ?_
      rw [hbmUncorrectable, if_pos hpower, hbmWord_of_unarmed harmed, hbmCheck_uncorrectable hon]

end Sys2Proof.Machine

/-! PROOFS. Supplies and the Ballast domain: what its reset clears and starts, and why the supply events are not as stated. -/
namespace Sys2Proof.Machine

/-! ### A rail's undervoltage -/

/-- What a command that runs is known to do, its effect on the device does. -/
theorem of_runs {c : Instr} {s : State} {f : Dev → Dev} {P : Dev → Prop} (h : Runs c s P) (hc : exec c s = run s f) (hpor : s.por = false) :
    P (f s.dev) := by
  obtain ⟨e, he, hP⟩ := h
  rw [hc, run_on hpor] at he
  have hdev : f s.dev = e := by
    injection he with hs
    exact congrArg State.dev hs
  rwa [hdev]

/-- A powered device whose PTP reference follows a port, and whose object 0x2100:02 names no instance: the number is so large that
element `i` of 0x2110:0C has the key of 0x9000:04. -/
def outsideInstance : Dev :=
  { (dev0.put 0x210002 0 ((0x900004 - 0x21100C) * 4294967296)).put 0x900004 0 5 with
    net := { dev0.net with slave := some 1 }, pow := { dev0.pow with mainPor := false } }

theorem outsideInstance_entries : (railUndervoltage 0 0 outsideInstance).get 0x900004 0 = 2 ∧ outsideInstance.get 0x900004 0 = 5 := by
  decide

/-- Refutes O49: main power-on reset makes the PTP reference invalid, which writes 1 over the count of entries to DOZE in
`outsideInstance`; the count is then 2 and not 6. -/
theorem not_supplyCommands : ¬ Obligations.SupplyCommands := by
  intro h
  have hrail := ((h ⟨[], false, outsideInstance⟩ rfl).1 0 0 rfl rfl).2.1 (by decide)
  obtain ⟨_, _, _, _, _, hcount⟩ := of_runs hrail (f := railUndervoltage 0 0) rfl rfl
  rw [outsideInstance_entries.1, outsideInstance_entries.2] at hcount
  exact absurd hcount (by decide)

/-! ### The Ballast domain -/

/-- While Ballast power-on reset is asserted a command has no effect but on the levels of pins, or takes the device to OFF. -/
def InertBut (c : Instr) (s : State) : Prop :=
  Runs c s fun e => ∃ perst test wake : Bool,
    e = { s.dev with host := { s.dev.host with pcie := { s.dev.host.pcie with perst := perst } },
                     pow := { s.dev.pow with testEn := test, wakeN := wake } } ∨ e = s.dev.off

theorem inertBut_of_run {c : Instr} {s : State} {f : Dev → Dev} (hc : exec c s = run s f) (hpor : s.por = true) : InertBut c s :=
  ⟨s.dev, hc.trans (run_off hpor f), s.dev.host.pcie.perst, s.dev.pow.testEn, s.dev.pow.wakeN, .inl rfl⟩

theorem inertBut_of_runPin {c : Instr} {s : State} {level f : Dev → Dev} (hc : exec c s = runPin s level f) (hpor : s.por = true)
    {perst test wake : Bool} (hl : level s.dev = { s.dev with
      host := { s.dev.host with pcie := { s.dev.host.pcie with perst := perst } },
      pow := { s.dev.pow with testEn := test, wakeN := wake } }) : InertBut c s :=
  ⟨level s.dev, hc.trans (by rw [runPin, if_pos hpor]), perst, test, wake, .inl hl⟩

theorem inertBut_of_por {s : State} (hpor : s.por = true) (c : Instr) (h : ∀ sel a b, c ≠ .ballastPorRelease sel a b) : InertBut c s := by
  cases c
  case ballastPorRelease sel a b => exact absurd rfl (h sel a b)
  case ballastPorAssert => exact ⟨s.dev.off, by rw [exec, execBallastPorAssert, powerOff, ← hpor], true, true, true, .inr rfl⟩
  case perstNAssert => exact inertBut_of_runPin (level := Dev.perstLevel true) rfl hpor rfl
  case perstNRelease => exact inertBut_of_runPin (level := Dev.perstLevel false) rfl hpor rfl
  case wakeN low => exact inertBut_of_runPin (level := Dev.wakeLevel low) rfl hpor rfl
  case testEnChange high => exact inertBut_of_runPin (level := Dev.testLevel high) rfl hpor rfl
  case flitCrcError l k => exact inertBut_of_run (f := fun d => d.checked_ 9 (2 * l.val + k.val) (flitCrcError l.val k.val)) rfl hpor
  case orrerySramError p => exact inertBut_of_run (f := fun d => d.checked_ 13 p.val (orrerySramError p.val)) rfl hpor
  all_goals exact inertBut_of_run rfl hpor

theorem ballastPorRelease_of_feeds {sel a b : Nat} (ha : 2900 ≤ a) (hb : 2900 ≤ b) (d : Dev) : ballastPorRelease sel a b d =
    (((((d.setPow { d.pow with tkfSel := sel, offSince := some d.now }).loadMirror.put 0x900101 0 0).showFeed 0x900104 a 0).showFeed
      0x900105 b 1).acquire .a 0) := by
  have hsource : b2n (decide (a < 2900) && decide (2900 ≤ b)) = 0 := by simp [not_lt.mpr ha, b2n]
  simp only [ballastPorRelease, hsource, if_neg (not_lt.mpr ha), if_neg (not_lt.mpr hb)]

/-! ### The newest mirror record -/

theorem loadMirror_of_none {d : Dev} (h : d.pow.flash.newest = none) : d.loadMirror = d.setPow { d.pow with lost := true } := by
  simp only [Dev.loadMirror, h]

theorem loadMirror_of_closed {d : Dev} {r : MirrorRec} (h : d.pow.flash.newest = some r) (hopen : r.isOpen = false) : d.loadMirror =
    (((d.put 0x130201 0 r.fails).put 0x130202 0 r.next).put 0x130203 0 r.n).put 0x130204 0 r.attempt := by
  simp only [Dev.loadMirror, h, hopen, Bool.false_eq_true, if_false]

theorem railsAbsentTimeout_of_por {d : Dev} {t : Nat} (hoff : d.pow.offSince = some t) (hpor : d.pow.mainPor = true)
    (hpower : d.power ≠ 3) : railsAbsentTimeout d =
      let d := d.at_ (t + ms 100)
      ((((d.mgtSpeed true).setPow { d.pow with railLoss := true }).powerTo 3 8).inc 0x900004 0) := by
  simp only [railsAbsentTimeout, hoff, hpor, hpower, Bool.not_true, Bool.false_or, decide_false, Bool.false_eq_true, if_false]

/-- Settles O50: the release's own course, and for every other command its way of running while the reset is asserted. -/
theorem ballastDomain : Obligations.BallastDomain := by
  intro s
  refine ⟨⟨rfl, rfl, rfl⟩, fun sel a b => ⟨fun hpor => ?inert, fun hpor ha hb => ?release⟩, fun d => loadMirror_of_none,
    fun d r hr hopen => ?mirror, fun hpor c hc => inertBut_of_por hpor c hc, fun hpor t hoff hmain hpower =>
    gives_of_exec_eq_run rfl hpor (railsAbsentTimeout_of_por hoff hmain hpower)⟩
  case inert =>
    rw [exec, execBallastPorRelease, powerOn, hpor]
    rfl
  case release =>
    intro d
    rw [exec, execBallastPorRelease, powerOn, if_pos hpor, ballastPorRelease_of_feeds ha hb]
  case mirror =>
    rw [loadMirror_of_closed hr hopen]
    refine ⟨?_, ?_, ?_, put_get_same _ _ _ _, ?_⟩
    · rw [put_get_obj _ _ (by decide) (by decide) (by decide), put_get_obj _ _ (by decide) (by decide) (by decide),
        put_get_obj _ _ (by decide) (by decide) (by decide), put_get_same]
    · rw [put_get_obj _ _ (by decide) (by decide) (by decide), put_get_obj _ _ (by decide) (by decide) (by decide), put_get_same]
    · rw [put_get_obj _ _ (by decide) (by decide) (by decide), put_get_same]
    · simp only [fr_put, List.mem_singleton_self]
      exact changesOnly_refl _ _

end Sys2Proof.Machine

/-! PROOFS. What a reset of the main domain keeps; the stages of the entry to DOZE, thermal shutdown, and the wake. -/
namespace Sys2Proof.Machine

/-! ### The clocks -/

/-- What the present time and the timekeepers' times are read from. -/
def Dev.clock (d : Dev) : Nat × Nat × Option TkId × TkId × Int :=
  (d.tim.a.count, d.tim.b.count, d.tim.holder, d.tim.drive, d.tim.hOffset)

theorem clock_of_tim {d e : Dev} (h : e.tim = d.tim) : e.clock = d.clock := by rw [Dev.clock, h, Dev.clock]

section
variable {d e : Dev} (h : e.clock = d.clock)
include h

theorem time_of_clock : e.tim.a.time = d.tim.a.time ∧ e.tim.b.time = d.tim.b.time ∧ e.tim.holder = d.tim.holder := by
  obtain ⟨ha, hb, hholder, -, -⟩ : _ ∧ _ ∧ _ ∧ _ ∧ _ := by simpa [Dev.clock, Prod.ext_iff] using h
  exact ⟨by rw [Tk.time, ha, Tk.time], by rw [Tk.time, hb, Tk.time], hholder⟩

theorem now_of_clock : e.now = d.now := by
  obtain ⟨ha, hb, hholder⟩ := time_of_clock h
  obtain ⟨-, -, -, hdrive, hoff⟩ : _ ∧ _ ∧ _ ∧ _ ∧ _ := by simpa [Dev.clock, Prod.ext_iff] using h
  have htk : (e.tim.tk e.tim.drive).time = (d.tim.tk d.tim.drive).time := by
    rw [hdrive]
    cases d.tim.drive
    · exact ha
    · exact hb
  rw [Dev.now, Dev.now, TimeSt.now, TimeSt.now, htk, hoff]
end

theorem enterHoldover_clock (d : Dev) (k : TkId) : (d.enterHoldover k).clock = d.clock := by
  unfold Dev.enterHoldover
  split_ifs
  · cases k <;> rfl
  · rfl

theorem checkHoldover_clock (d : Dev) : d.checkHoldover.clock = d.clock := by
  unfold Dev.checkHoldover
  split_ifs
  · rfl
  · rw [enterHoldover_clock, enterHoldover_clock]

/-- A reference that becomes invalid leaves the clocks running. -/
theorem ptpInvalid_clock (d : Dev) : d.ptpInvalid.clock = d.clock := by
  have htail : ∀ x : Dev, (x.checkHoldover.resolveUtc.showPtpRef).clock = x.clock := fun x => checkHoldover_clock x
  unfold Dev.ptpInvalid
  dsimp only
  rw [htail]
  split_ifs <;> rfl

theorem foldl_clock {α : Type} {f : Dev → α → Dev} (hf : ∀ d x, (f d x).clock = d.clock) (l : List α) (d : Dev) :
    (l.foldl f d).clock = d.clock := by
  induction l generalizing d with
  | nil => rfl
  | cons x l ih => rw [List.foldl_cons, ih, hf]

theorem put_clock (d : Dev) (o e v : Nat) : (d.put o e v).clock = d.clock := rfl

/-- The port states of an instance as the best master comparison shows them. -/
def Dev.bmcaShown (d : Dev) (i : Nat) : Dev := (List.range 17).foldl (fun d p => d.put 0x212008 (ptpElem i p) (d.bmcaState i p)) d

/-- The reference follows another slave port, or none. -/
def Dev.newSlave (d : Dev) (slave : Option Nat) : Dev :=
  (d.setNet { d.net with slave := slave, delaySeen := false }).showPtpRef

theorem bmca_eq (d : Dev) (i : Nat) : d.bmca i =
    let e := d.bmcaShown i
    let slave := (List.range 17).find? (fun p => e.ptpState i p == 9)
    if i = e.get 0x210002 0 ∧ slave ≠ e.net.slave then e.ptpInvalid.newSlave slave else e := rfl

theorem newSlave_clock (d : Dev) (slave : Option Nat) : (d.newSlave slave).clock = d.clock := rfl

theorem bmca_clock (d : Dev) (i : Nat) : (d.bmca i).clock = d.clock := by
  have hshown : (d.bmcaShown i).clock = d.clock := foldl_clock (fun _ _ => put_clock _ _ _ _) _ _
  rw [bmca_eq]
  dsimp only
  split
  · rw [newSlave_clock, ptpInvalid_clock, hshown]
  · exact hshown

theorem setNet_clock (d : Dev) (x : NetSt) : (d.setNet x).clock = d.clock := rfl
theorem setPtp_clock (d : Dev) (i p : Nat) (x : PtpPort) : (d.setPtp i p x).clock = d.clock := rfl

theorem linkGone_clock (d : Dev) (p : Nat) : (d.linkGone p).clock = d.clock := by
  unfold Dev.linkGone
  dsimp only
  split_ifs
  · rfl
  · rw [foldl_clock, setNet_clock]
    intro d i
    split_ifs
    · rw [bmca_clock, ptpInvalid_clock, setPtp_clock]
    · rw [bmca_clock, setPtp_clock]
    · rfl

theorem mgtSpeed_clock (d : Dev) (doze : Bool) : (d.mgtSpeed doze).clock = d.clock := by
  unfold Dev.mgtSpeed Dev.linkOff
  dsimp only
  split_ifs
  · rfl
  · exact (linkGone_clock _ _).trans rfl
  · rfl

/-! ### A reset of the main domain -/

/-- The PTP reference is lost with its port's link, but for one on MGT. -/
def Dev.refReset (d : Dev) : Dev := if d.net.slave.isSome && !(d.net.slave == some 16) then d.ptpInvalid else d

/-- What a reset of the main domain leaves (R480): the Ballast domain's own. -/
def Dev.mainKept (d : Dev) (sv sd : Nat) (onMgt : Bool) : Dev :=
  { dev0 with
    fresh := d.fresh, out := d.out,
    obj := { dev0.obj with
      dict := d.obj.dict.kept, cache := d.obj.cache.filter (fun c => keptClient c.client),
      flights := keptFlights d.obj.flights },
    tim := { d.tim with confirmed := false, trigIn := [], trigOut := [], ppsOut := [] },
    arch := { dev0.arch with reps := d.arch.reps.filter (fun p => p.1 == 16) },
    flt := { fltReset with
      flying := d.flt.flying.filter (fun x => ballastSource x.src), sticky := d.flt.sticky, feValid := d.flt.feValid,
      feOverflow := d.flt.feOverflow, feInjected := d.flt.feInjected, feClass := d.flt.feClass,
      feSource := d.flt.feSource, feUnit := d.flt.feUnit, feNs := d.flt.feNs, feSec := d.flt.feSec,
      feSynd := d.flt.feSynd, live := d.flt.live.filter (fun x => ballastSource x.1) },
    net := { dev0.net with
      ptp := d.net.ptp.filter (fun p => p.1 % 17 == 16), links := d.net.links.filter (fun p => p.1 == 16),
      slave := if onMgt then d.net.slave else none, offsets := if onMgt then d.net.offsets else [],
      delaySeen := onMgt && d.net.delaySeen },
    host := { dev0.host with pcie := pcieReset sv sd d.host.pcie.perst },
    pow := { d.pow with
      phase := 0, reason := 0, len := 0, due := none, waitFrom := none, deadline := none, window := [], programming := false,
      restart := false, verifying := [], broken := [] },
    spi := d.spi }

/-- The objects that say so. -/
def Dev.mainShown (d : Dev) (live : List (Nat × Nat)) : Dev :=
  let d := live.foldl (fun x p => x.put 0x801006 p.1 1) d
  let d := (List.range 20).foldl (fun x e => (x.put 0x802001 e 0).put 0x802002 e 0) d
  ((d.put 0x800004 0 0).put 0x130208 0 0).put 0x130209 0 0

theorem mainReset_eq (d : Dev) : d.mainReset =
    (d.refReset.mainKept (d.get 0x700001 0) (d.get 0x700002 0) (d.net.slave == some 16)).mainShown
      (d.refReset.flt.live.filter (fun x => ballastSource x.1)) := rfl

/-- What each step of a fold leaves alone, the fold leaves alone. -/
theorem foldl_proj {α β : Type} {proj : Dev → β} {f : Dev → α → Dev} (h : ∀ d x, proj (f d x) = proj d) (l : List α) (d : Dev) :
    proj (l.foldl f d) = proj d := by
  induction l generalizing d with
  | nil => rfl
  | cons x l ih => exact (ih (f d x)).trans (h d x)

/-- Whatever a write of an object leaves alone, showing them leaves alone. -/
theorem mainShown_proj {α : Type} {proj : Dev → α} (h : ∀ d o e v, proj (Dev.put d o e v) = proj d) (d : Dev) (live : List (Nat × Nat)) :
    proj (d.mainShown live) = proj d := by
  simp only [Dev.mainShown, h]
  rw [foldl_proj (proj := proj) fun d e => by rw [h, h], foldl_proj (proj := proj) fun d p => by rw [h]]

theorem refReset_changesOnly (d : Dev) : d.changesOnly [.dict, .tim, .flying, .net] d.refReset := by
  unfold Dev.refReset
  split_ifs
  · exact (fr_ptpInvalid _ (by decide) (by decide) (by decide) (by decide)).mpr (changesOnly_refl _ _)
  · exact changesOnly_refl _ _

theorem refReset_clock (d : Dev) : d.refReset.clock = d.clock := by
  unfold Dev.refReset
  split_ifs
  · exact ptpInvalid_clock d
  · rfl

section
variable (d : Dev)

theorem mainReset_clock : d.mainReset.clock = d.clock := by
  rw [mainReset_eq, mainShown_proj (proj := Dev.clock) put_clock]
  exact refReset_clock d

theorem mainReset_out : d.mainReset.out = d.out := by
  rw [mainReset_eq, mainShown_proj (proj := Dev.out) put_out]
  exact refReset_changesOnly d .out (by decide)

theorem mainReset_spi : d.mainReset.spi = d.spi := by
  rw [mainReset_eq, mainShown_proj (proj := Dev.spi) put_spi]
  exact refReset_changesOnly d .spi (by decide)

/-- The power state's fields that no reset of the main domain touches. -/
theorem mainReset_pow : d.mainReset.pow = { d.pow with
    phase := 0, reason := 0, len := 0, due := none, waitFrom := none, deadline := none, window := [], programming := false,
    restart := false, verifying := [], broken := [] } := by
  have hpow : d.refReset.pow = d.pow := refReset_changesOnly d .pow (by decide)
  rw [mainReset_eq, mainShown_proj (proj := Dev.pow) put_pow, Dev.mainKept, hpow]

/-- The collector's records stay; its reactions and resets end. -/
theorem mainReset_flt : d.mainReset.flt.feValid = d.flt.feValid ∧ d.mainReset.flt.sticky = d.flt.sticky ∧
    d.mainReset.flt.feSource = d.flt.feSource ∧ d.mainReset.flt.feUnit = d.flt.feUnit ∧ d.mainReset.flt.resets = [] ∧
    d.mainReset.flt.reactions = [] := by
  have hfaults : d.refReset.faultsPart = d.faultsPart := refReset_changesOnly d .faults (by decide)
  rw [mainReset_eq, mainShown_proj (proj := Dev.flt) put_flt]
  exact ⟨(congrArg FaultSt.feValid hfaults :), (congrArg FaultSt.sticky hfaults :), (congrArg FaultSt.feSource hfaults :),
    (congrArg FaultSt.feUnit hfaults :), rfl, rfl⟩

/-- The main domain's own parts are as before a start. -/
theorem mainReset_cleared : d.mainReset.lan = dev0.lan ∧ d.mainReset.ecl = dev0.ecl ∧ d.mainReset.rings = [] ∧ d.mainReset.ing = dev0.ing ∧
    d.mainReset.tab = dev0.tab ∧ d.mainReset.eng = dev0.eng ∧ d.mainReset.wave = dev0.wave := by
  rw [mainReset_eq, mainShown_proj (proj := Dev.lan) put_lan, mainShown_proj (proj := Dev.ecl) put_ecl,
    mainShown_proj (proj := Dev.rings) put_rings, mainShown_proj (proj := Dev.ing) put_ing, mainShown_proj (proj := Dev.tab) put_tab,
    mainShown_proj (proj := Dev.eng) put_eng, mainShown_proj (proj := Dev.wave) put_wave]
  exact ⟨rfl, rfl, rfl, rfl, rfl, rfl, rfl⟩
end

/-! ### Main power-on reset -/

theorem interruptAttempt_changesOnly (d : Dev) (reason : Nat) : d.changesOnly [.dict, .pow] (d.interruptAttempt reason) :=
  (fr_interruptAttempt _ _ (by decide) (by decide)).mpr (changesOnly_refl _ _)

theorem interruptAttempt_of_closed {d : Dev} (h : d.pow.isOpen = false) (reason : Nat) : d.interruptAttempt reason = d :=
  if_neg (by simp [h])

/-- An interrupted attempt closes its record and changes nothing else of the power state but the mirror. -/
theorem interruptAttempt_pow (d : Dev) (reason : Nat) : (d.interruptAttempt reason).pow.enLow = d.pow.enLow ∧
    (d.interruptAttempt reason).pow.wakeCause = d.pow.wakeCause := by
  unfold Dev.interruptAttempt
  split_ifs
  · exact ⟨rfl, rfl⟩
  · exact ⟨rfl, rfl⟩

theorem assertMainPor_eq (d : Dev) : d.assertMainPor =
    (d.interruptAttempt 0x41).mainReset.setPow { (d.interruptAttempt 0x41).mainReset.pow with mainPor := true } := rfl

theorem setPow_clock (d : Dev) (x : PowerSt) : (d.setPow x).clock = d.clock := rfl
theorem setPow_pow (d : Dev) (x : PowerSt) : (d.setPow x).pow = x := rfl

section
variable (d : Dev)

theorem assertMainPor_pow : d.assertMainPor.pow.mainPor = true ∧ d.assertMainPor.pow.enLow = d.pow.enLow ∧
    d.assertMainPor.pow.wakeCause = d.pow.wakeCause := by
  obtain ⟨hen, hwake⟩ := interruptAttempt_pow d 0x41
  rw [assertMainPor_eq, setPow_pow, mainReset_pow]
  exact ⟨rfl, hen, hwake⟩

theorem assertMainPor_clock : d.assertMainPor.clock = d.clock := by
  rw [assertMainPor_eq, setPow_clock, mainReset_clock, clock_of_tim (tim_of_changesOnly (interruptAttempt_changesOnly d 0x41) (by decide))]

theorem assertMainPor_out : d.assertMainPor.out = d.out := by
  rw [assertMainPor_eq, setPow_out, mainReset_out]
  exact interruptAttempt_changesOnly d 0x41 .out (by decide)

theorem assertMainPor_spi : d.assertMainPor.spi = d.spi := by
  rw [assertMainPor_eq, setPow_spi, mainReset_spi]
  exact interruptAttempt_changesOnly d 0x41 .spi (by decide)

theorem assertMainPor_cleared : d.assertMainPor.lan = dev0.lan ∧ d.assertMainPor.ecl = dev0.ecl ∧ d.assertMainPor.rings = [] ∧
    d.assertMainPor.tab = dev0.tab ∧ d.assertMainPor.eng = dev0.eng ∧ d.assertMainPor.wave = dev0.wave := by
  obtain ⟨hlan, hecl, hrings, -, htab, heng, hwave⟩ := mainReset_cleared (d.interruptAttempt 0x41)
  rw [assertMainPor_eq, setPow_lan, setPow_ecl, setPow_rings, setPow_tab, setPow_eng, setPow_wave]
  exact ⟨hlan, hecl, hrings, htab, heng, hwave⟩
end

/-! ### The entry to DOZE -/

/-- A ring whose relay was let go is cleared. -/
def Dev.ringSettled (d : Dev) (r : Nat) : Dev :=
  match (d.ring r).relay with
  | .removing _ => (d.setRing r { ring0 with guard_ := (d.ring r).guard_ }).put 0x400101 r rsDisabled
  | _ => d

/-- The four stages (R483): ports off and rings let go; relays settled; the host's link and PWR_MAIN_EN down; main power-on reset. -/
def Dev.dozePorts (d : Dev) : Dev :=
  let d := [0, 1].foldl (fun d r => ringRemove r d) d.portsOff
  d.setPow { d.pow with dozeStage := 2 }

def Dev.dozeSettled (d : Dev) : Dev :=
  let d := [0, 1].foldl Dev.ringSettled d
  d.setPow { d.pow with dozeStage := 3 }

def Dev.dozeEnable (d : Dev) : Dev :=
  let d := (d.setPcie { d.host.pcie with linkUp := false }).showEndpoint
  let d := (d.mgtSpeed true).emit (.pin "PWR_MAIN_EN" 0 false d.now)
  d.setPow { d.pow with dozeStage := 4, enLow := true }

def Dev.dozeOff (d : Dev) : Dev :=
  let d := (d.assertMainPor.setPower 3).inc 0x900004 0
  let w := d.pow.wakeCause
  let d := d.setPow { d.pow with dozeStage := 0, railLoss := false, wakeCause := none }
  match w with
  | some c => d.wake c
  | none => d

theorem dozeEntryStage_eq (d : Dev) : dozeEntryStage d =
    if d.power ≠ 6 then d
    else if d.pow.dozeStage = 1 then (d.at_ (d.pow.dozeAt + us 10)).dozePorts
    else if d.pow.dozeStage = 2 then (d.at_ (d.pow.dozeAt + d.settleTime)).dozeSettled
    else if d.pow.dozeStage = 3 then (d.at_ (d.pow.dozeAt + d.settleTime + us 100)).dozeEnable
    else (d.at_ (d.pow.dozeAt + d.settleTime + us 200)).dozeOff := rfl

section
variable {d : Dev} (hpower : d.power = 6)
include hpower

theorem dozeEntryStage_first (hstage : d.pow.dozeStage = 1) : dozeEntryStage d = (d.at_ (d.pow.dozeAt + us 10)).dozePorts := by
  rw [dozeEntryStage_eq, if_neg (not_not.mpr hpower), if_pos hstage]

theorem dozeEntryStage_second (hstage : d.pow.dozeStage = 2) : dozeEntryStage d = (d.at_ (d.pow.dozeAt + d.settleTime)).dozeSettled := by
  rw [dozeEntryStage_eq, if_neg (not_not.mpr hpower), if_neg (by omega), if_pos hstage]

theorem dozeEntryStage_third (hstage : d.pow.dozeStage = 3) :
    dozeEntryStage d = (d.at_ (d.pow.dozeAt + d.settleTime + us 100)).dozeEnable := by
  rw [dozeEntryStage_eq, if_neg (not_not.mpr hpower), if_neg (by omega), if_neg (by omega), if_pos hstage]

theorem dozeEntryStage_last (hstage : d.pow.dozeStage = 4) :
    dozeEntryStage d = (d.at_ (d.pow.dozeAt + d.settleTime + us 200)).dozeOff := by
  rw [dozeEntryStage_eq, if_neg (not_not.mpr hpower), if_neg (by omega), if_neg (by omega), if_neg (by omega)]
end

/-- With no wake noted the device stays in DOZE. -/
theorem dozeOff_of_unwoken {d : Dev} (h : d.pow.wakeCause = none) : d.dozeOff =
    let e := (d.assertMainPor.setPower 3).inc 0x900004 0
    e.setPow { e.pow with dozeStage := 0, railLoss := false, wakeCause := none } := by
  have hcause : ((d.assertMainPor.setPower 3).inc 0x900004 0).pow.wakeCause = none := by
    rw [inc_pow, Dev.setPower, put_pow, (assertMainPor_pow _).2.2, h]
  simp only [Dev.dozeOff, hcause]

section
variable (d : Dev) (r : Nat)

theorem ringSettled_clock : (d.ringSettled r).clock = d.clock := by
  unfold Dev.ringSettled
  split <;> rfl

theorem ringSettled_ring {k : Nat} (h : k ≠ r) : (d.ringSettled r).ring k = d.ring k := by
  unfold Dev.ringSettled
  split
  · exact tget_tput_ne _ _ _ _ h
  · rfl

theorem ringSettled_get_same {t : Nat} (h : (d.ring r).relay = .removing t) : (d.ringSettled r).get 0x400101 r = 0 := by
  rw [Dev.ringSettled, h]
  exact put_get_same _ _ _ _

theorem ringSettled_get_ne {k : Nat} (hr : r < 4294967296) (hk : k < 4294967296) (h : k ≠ r) :
    (d.ringSettled r).get 0x400101 k = d.get 0x400101 k := by
  unfold Dev.ringSettled
  split
  · rw [put_get_elem _ _ hr hk h, setRing_get]
  · rfl
end

section
variable (d : Dev)

theorem dozeSettled_clock : d.dozeSettled.clock = d.clock :=
  (ringSettled_clock _ 1).trans (ringSettled_clock d 0)

/-- A ring whose relay was let go is shown disabled. -/
theorem dozeSettled_get {r t : Nat} (hr : r < 2) (h : (d.ring r).relay = .removing t) : d.dozeSettled.get 0x400101 r = 0 := by
  have hget : d.dozeSettled.get = ((d.ringSettled 0).ringSettled 1).get := rfl
  obtain rfl | rfl : r = 0 ∨ r = 1 := by omega
  · rw [hget, ringSettled_get_ne _ _ (by decide) (by decide) (by decide), ringSettled_get_same _ _ h]
  · rw [hget, ringSettled_get_same _ _ (t := t) (by rw [ringSettled_ring _ _ (by decide), h])]

theorem dozeEnable_out : d.dozeEnable.out =
    ((((d.setPcie { d.host.pcie with linkUp := false }).showEndpoint).mgtSpeed true).emit (.pin "PWR_MAIN_EN" 0 false d.now)).out := rfl

theorem dozeEnable_clock : d.dozeEnable.clock = d.clock :=
  (mgtSpeed_clock ((d.setPcie { d.host.pcie with linkUp := false }).showEndpoint) true).trans rfl
end

theorem thermalShutdown_of_running {d : Dev} (hpower : d.power = 1 ∨ d.power = 2) (hpor : d.pow.mainPor = false) :
    thermalShutdown d = d.dozeBegin 5 := if_pos ⟨hpower, by simp [hpor]⟩

theorem dozeBegin_power (d : Dev) (c : Nat) : (d.dozeBegin c).power = 6 := by
  rw [Dev.power, Dev.dozeBegin, Dev.powerTo, put_get_obj _ _ (by decide) (by decide) (by decide), Dev.setPower, put_get_same]

/-! ### The wake -/

section
variable {d : Dev} (cause : Nat)

theorem wake_of_doze (hpower : d.power = 3) (hrst : d.pow.rst = none) (hwaking : d.pow.waking = none) : d.wake cause =
    (d.setPow { d.pow with enLow := false, waking := some d.now, wakeCause := some cause }).emit (.pin "PWR_MAIN_EN" 0 true d.now) := by
  simp [Dev.wake, hpower, hrst, hwaking]

theorem wake_of_later (h : d.power = 6 ∨ d.power = 3 ∧ d.pow.rst ≠ none ∧ d.pow.waking = none) :
    d.wake cause = d.setPow { d.pow with wakeCause := some cause } := by
  rcases h with hpower | ⟨hpower, hrst, hwaking⟩
  · simp [Dev.wake, hpower]
  · simp [Dev.wake, hpower, hwaking, Option.isSome_iff_ne_none.mpr hrst]

theorem wake_of_waking {t : Nat} (hpower : d.power = 3) (hwaking : d.pow.waking = some t) : d.wake cause = d := by
  simp [Dev.wake, hpower, hwaking]
end

theorem wakeTimeout_of_waking {d : Dev} {t : Nat} (hwaking : d.pow.waking = some t) (hpower : d.power = 3) : wakeTimeout d =
    let d := d.at_ (t + sec 1)
    (((d.setPow { d.pow with enLow := true, waking := none, wakeCause := none, railLoss := false }).put 0x900003 0 9).emit
      (.pin "PWR_MAIN_EN" 0 false d.now)) := by
  simp only [wakeTimeout, hwaking, hpower, ne_eq, not_true, if_false]

/-- A pin's command does its effect on a powered device. -/
theorem gives_of_runPin {c : Instr} {s : State} {level f : Dev → Dev} {e : Dev} (hc : exec c s = runPin s level f) (hpor : s.por = false)
    (h : f s.dev = e) : Gives c s e := by
  rw [Gives, hc, runPin_on hpor, h]

/-- Settles O51: each stage's own effect; a wake by its guard; what main power-on reset clears. -/
theorem dozeEntryAndWake : Obligations.DozeEntryAndWake := by
  intro s hpor
  refine ⟨fun hpower hstage => gives_of_exec_eq_run rfl hpor (dozeEntryStage_first hpower hstage), fun hpower hstage => ?second,
    fun hpower hstage => ?third, fun hpower hstage hwake => ?last, fun d => ?por, fun hpower hmain => ?thermal, fun hpower hrst hwaking => ?wake,
    fun h => ?later, fun t hpower hwaking => ?waking, gives_of_runPin (f := wakePin false) rfl hpor rfl, fun t hwaking hpower =>
    gives_of_exec_eq_run rfl hpor (wakeTimeout_of_waking hwaking hpower)⟩
  case second =>
    refine runs_of_exec_eq_run (g := dozeEntryStage) rfl hpor ?_
    rw [dozeEntryStage_second hpower hstage]
    exact ⟨rfl, now_of_clock (dozeSettled_clock _), fun r t hr h => dozeSettled_get _ hr (by rw [at_ring]; exact h)⟩
  case third =>
    intro d e
    refine runs_of_exec_eq_run (g := dozeEntryStage) rfl hpor ?_
    rw [dozeEntryStage_third hpower hstage]
    exact ⟨rfl, rfl, dozeEnable_out d, now_of_clock (dozeEnable_clock d)⟩
  case last =>
    intro d
    refine gives_of_exec_eq_run rfl hpor ((dozeEntryStage_last hpower hstage).trans (dozeOff_of_unwoken ?_))
    rw [at_pow, hwake]
  case por =>
    obtain ⟨hlan, hecl, hrings, htab, heng, hwave⟩ := assertMainPor_cleared d
    exact ⟨(assertMainPor_pow d).1, now_of_clock (assertMainPor_clock d), hlan, hecl, hrings, htab, heng, hwave, assertMainPor_spi d,
      assertMainPor_out d⟩
  case thermal =>
    refine ⟨gives_of_exec_eq_run rfl hpor (thermalShutdown_of_running hpower hmain), dozeBegin_power _ _, rfl, rfl, rfl, ?_, ?_⟩
    · simp only [Dev.dozeBegin, Dev.powerTo, Dev.setPower, fr_put, fr_setPow, fr_setTab, List.mem_cons, reduceCtorEq, true_or, or_true]
      exact changesOnly_refl _ _
    · exact objectsBut_put (objectsBut_put (objectsBut_of_dict (objectsBut_refl _ _) rfl) _ _ _ (by decide) (by decide)) _ _ _ (by decide)
        (by decide)
  case wake =>
    exact gives_of_runPin (f := wakePin true) rfl hpor
      (wake_of_doze (d := s.dev.setPow { s.dev.pow with wakeN := true }) 2 hpower hrst hwaking)
  case later =>
    exact gives_of_runPin (f := wakePin true) rfl hpor (wake_of_later (d := s.dev.setPow { s.dev.pow with wakeN := true }) 2 h)
  case waking =>
    exact gives_of_runPin (f := wakePin true) rfl hpor
      (wake_of_waking (d := s.dev.setPow { s.dev.pow with wakeN := true }) 2 hpower hwaking)

end Sys2Proof.Machine

/-! PROOFS. The pins RST_N and TEST_EN. -/
namespace Sys2Proof.Machine

section
variable {d : Dev} (hrst : d.pow.rst = none)
include hrst

theorem rstRecognised_of_doze (hpower : d.power = 3) : rstRecognised d =
    (d.inc 0x901002 0).setPow { (d.inc 0x901002 0).pow with rst := some (d.inc 0x901002 0).now, dozeStage := 0 } := by
  have hpow : (d.inc 0x901002 0).power = 3 := by rw [Dev.power, inc_get_obj _ (by decide) (by decide) (by decide)]; exact hpower
  simp only [rstRecognised, hrst, hpow, Option.isSome_none, Bool.false_eq_true, if_false, if_true]

theorem rstRecognised_of_running (hpower : d.power ≠ 3) (hopen : d.pow.isOpen = false) (hen : d.pow.enLow = false) : rstRecognised d =
    let e := ((d.inc 0x901002 0).mainReset).setPower 1
    e.setPow { e.pow with rst := some e.now, dozeStage := 0 } := by
  have hpow : (d.inc 0x901002 0).power ≠ 3 := by rw [Dev.power, inc_get_obj _ (by decide) (by decide) (by decide)]; exact hpower
  have hint : (d.inc 0x901002 0).interruptAttempt 0x40 = d.inc 0x901002 0 := interruptAttempt_of_closed (by rw [inc_pow]; exact hopen) _
  have hrelease : (((d.inc 0x901002 0).mainReset).setPower 1).releaseEnable = ((d.inc 0x901002 0).mainReset).setPower 1 := by
    rw [Dev.releaseEnable, if_neg]
    rw [Dev.setPower, put_pow, mainReset_pow, inc_pow, hen]
    decide
  simp only [rstRecognised, hrst, hpow, hint, hrelease, Option.isSome_none, Bool.false_eq_true, if_false]
end

theorem rstRelease_of_running {d d0 : Dev} {t : Nat} (hrst : d.pow.rst = some t) (hd0 : d.at_ (t + us 10) = d0) (hpower : d0.power = 1)
    (hmain : d0.pow.mainPor = false) : rstRelease d = d0.setPow { d0.pow with rst := none, due := some d0.now, cause := 3 } := by
  simp only [rstRelease, hrst, hd0, hpower, OfNat.one_ne_ofNat, if_false]
  exact if_neg (by simp [hmain, Dev.setPow])

theorem resetHeld_of_running {d : Dev} {t : Nat} (hrst : d.pow.rst = some t) (hpower : d.power ≠ 3) :
    resetHeld d = ((d.at_ (t + sec 5)).setPower 5).put 0x901003 0 1 := by
  simp only [resetHeld, hrst, hpower, if_false]

theorem testEnChange_high {d : Dev} (hmain : d.pow.mainPor = false) (hen : d.pow.enLow = false) : testEnChange true d =
    ((d.setPow { d.pow with testEn := true }).assertMainPor).setPower 1 := by
  have hrelease : (((d.setPow { d.pow with testEn := true }).assertMainPor).setPower 1).releaseEnable =
      ((d.setPow { d.pow with testEn := true }).assertMainPor).setPower 1 := by
    rw [Dev.releaseEnable, if_neg]
    rw [Dev.setPower, put_pow, (assertMainPor_pow _).2.1, setPow_pow, hen]
    decide
  have hgo : (true && !(d.setPow { d.pow with testEn := true }).pow.mainPor) = true := by rw [setPow_pow, hmain]; rfl
  rw [testEnChange]
  dsimp only
  rw [if_pos hgo, hrelease]

/-- Settles O52: RST_N's and TEST_EN's own courses, and what the reset of the main domain keeps, part by part. -/
theorem resetPins : Obligations.ResetPins := by
  intro s hpor
  refine ⟨fun hrst => ⟨fun hpower => gives_of_exec_eq_run rfl hpor (rstRecognised_of_doze hrst hpower), fun hpower hopen hen =>
    gives_of_exec_eq_run rfl hpor (rstRecognised_of_running hrst hpower hopen hen)⟩, gives_of_exec_eq_run (f := rstPulseIgnored) rfl hpor rfl,
    fun t hrst hpower hmain => ?release, fun t hrst hpower => gives_of_exec_eq_run rfl hpor (resetHeld_of_running hrst hpower),
    fun hmain hen => gives_of_runPin rfl hpor (testEnChange_high hmain hen), gives_of_runPin (f := testEnChange false) rfl hpor rfl,
    fun d => ?keeps⟩
  case release =>
    exact gives_of_exec_eq_run rfl hpor (rstRelease_of_running hrst rfl (by rw [at_power]; exact hpower) (by rw [at_pow]; exact hmain))
  case keeps =>
    intro e
    have hclock := mainReset_clock d
    obtain ⟨hvalid, hsticky, hsource, hunit, hresets, hreactions⟩ := mainReset_flt d
    obtain ⟨ha, hb, hholder⟩ := time_of_clock hclock
    obtain ⟨hlan, hecl, hrings, hing, htab, heng, hwave⟩ := mainReset_cleared d
    have hpow := mainReset_pow d
    exact ⟨hvalid, hsticky, hsource, hunit, (congrArg PowerSt.flash hpow :), (congrArg PowerSt.mainPor hpow :), mainReset_spi d,
      mainReset_out d, now_of_clock hclock, ha, hb, hholder, hlan, hecl, hrings, hing, htab, heng, hwave, hresets, hreactions⟩

end Sys2Proof.Machine

/-! PROOFS. Start attempts: their begin, verification, self-test, confirmation and failure. -/
namespace Sys2Proof.Machine

/-! ### The begin -/

theorem pushRecord_get (d : Dev) (b : List Byte) : (d.pushRecord b).get = d.get := by
  rw [Dev.pushRecord, putB_get]
  exact foldl_proj (proj := Dev.get) (fun _ _ => putB_get _ _ _ _) _ _

theorem pushRecord_changesOnly (d : Dev) (b : List Byte) : d.changesOnly [.dict] (d.pushRecord b) :=
  (fr_pushRecord _ _ (by decide)).mpr (changesOnly_refl _ _)

/-- The straps as sampled, and the last reason. -/
def Dev.attemptShown (d : Dev) (sel : Nat) : Dev :=
  let d := (d.put 0x901001 0 d.pow.cause).put 0x130205 0 sel
  d.setPow { d.pow with due := none, reason := d.lastReason }

/-- The attempt numbered and recorded (R491). -/
def Dev.attemptNumbered (d : Dev) (sel : Nat) : Dev :=
  let d := d.add 0x130204 0 1
  d.pushRecord (leBytes 4 (d.get 0x130204 0) ++ [byte (d.nextSource sel), 0, byte (sel + (if d.pow.lost then 8 else 0)), 0] ++
    leBytes 8 (ts64Of d.now) ++ zeros 8)

/-- The attempt opened with its source. -/
def Dev.attemptFrom (d : Dev) (src : Nat) : Dev :=
  d.setPow { d.pow with
    isOpen := true, lost := false, source := src, phase := if src = 2 then 1 else 2, window := [], len := 0,
    waitFrom := if src = 2 ∧ d.host.pcie.ready then some d.now else none }

/-- A mirror record where the newest is not that of an open attempt. -/
def Dev.attemptMirrored (d : Dev) : Dev :=
  match d.pow.flash.newest with
  | some r => if r.isOpen then d else d.mirror
  | none => d.mirror

def Dev.attemptBegun (d : Dev) (sel : Nat) : Dev :=
  ((d.attemptNumbered sel).attemptFrom ((d.add 0x130204 0 1).nextSource sel)).attemptMirrored

theorem startAttempt_eq (sel : Nat) (d : Dev) : startAttempt sel d =
    match d.pow.due with
    | none => d
    | some t =>
      if d.pow.mainPor || d.pow.rst.isSome then d
      else if sel = 3 then ((d.at_ t).attemptShown sel).lantern 7
      else if ((d.at_ t).attemptShown sel).get 0x130203 0 ≤ ((d.at_ t).attemptShown sel).get 0x130201 0 then
        ((d.at_ t).attemptShown sel).lantern 6
      else ((d.at_ t).attemptShown sel).attemptBegun sel := rfl

theorem attemptMirrored_or (d : Dev) : d.attemptMirrored = d ∨ d.attemptMirrored = d.mirror := by
  unfold Dev.attemptMirrored
  split
  · split_ifs
    · exact .inl rfl
    · exact .inr rfl
  · exact .inr rfl

/-- The mirror is programmed with what the device shows, which stands. -/
theorem attemptMirrored_keeps (d : Dev) : d.attemptMirrored.get = d.get ∧ d.attemptMirrored.tim = d.tim ∧
    d.attemptMirrored.pow.isOpen = d.pow.isOpen ∧ d.attemptMirrored.pow.lost = d.pow.lost ∧
    d.attemptMirrored.pow.source = d.pow.source ∧ d.attemptMirrored.pow.phase = d.pow.phase := by
  rcases attemptMirrored_or d with h | h
  · rw [h]
    exact ⟨rfl, rfl, rfl, rfl, rfl, rfl⟩
  · rw [h]
    exact ⟨rfl, rfl, rfl, rfl, rfl, rfl⟩

theorem nextSource_one (d : Dev) : d.nextSource 1 = 2 := if_pos (.inl rfl)

theorem nextSource_zero (d : Dev) : d.nextSource 0 = d.get 0x130202 0 := if_neg (by simp)

theorem attemptShown_get (d : Dev) (sel : Nat) {o : Nat} (h : o ≠ 0x901001) (h' : o ≠ 0x130205) :
    (d.attemptShown sel).get o 0 = d.get o 0 := by
  rw [Dev.attemptShown, setPow_get, put_get_obj _ _ (by decide) (by decide) h', put_get_obj _ _ (by decide) (by decide) h]

theorem objBits_attempt : objBits 0x130204 = 32 ∧ objBits 0x130201 = 8 := by decide

theorem attemptNumbered_get (d : Dev) (sel : Nat) : (d.attemptNumbered sel).get 0x130204 0 = (d.get 0x130204 0 + 1) % 2 ^ 32 := by
  rw [Dev.attemptNumbered, pushRecord_get, add_get_same, objBits_attempt.1]

theorem attemptNumbered_tim (d : Dev) (sel : Nat) : (d.attemptNumbered sel).tim = d.tim := by
  rw [Dev.attemptNumbered, tim_of_changesOnly (pushRecord_changesOnly _ _) (by decide), add_tim]

theorem attemptBegun_spec (d : Dev) (sel : Nat) : (d.attemptBegun sel).get 0x130204 0 = (d.get 0x130204 0 + 1) % 2 ^ 32 ∧
    (d.attemptBegun sel).pow.isOpen = true ∧ (d.attemptBegun sel).pow.lost = false ∧ (d.attemptBegun sel).tim = d.tim ∧
    (d.attemptBegun sel).pow.source = (d.add 0x130204 0 1).nextSource sel ∧
    (d.attemptBegun sel).pow.phase = if (d.add 0x130204 0 1).nextSource sel = 2 then 1 else 2 := by
  obtain ⟨hget, htim, hopen, hlost, hsource, hphase⟩ :=
    attemptMirrored_keeps ((d.attemptNumbered sel).attemptFrom ((d.add 0x130204 0 1).nextSource sel))
  rw [Dev.attemptBegun, hget, htim, hopen, hlost, hsource, hphase]
  exact ⟨attemptNumbered_get d sel, rfl, rfl, attemptNumbered_tim d sel, rfl, rfl⟩

/-! ### Verification and the host's image -/

theorem firmwareVerifyComplete_of_verifying {d : Dev} (readOk : Bool) (hphase : d.pow.phase = 2) (hprog : d.pow.programming = false) :
    firmwareVerifyComplete readOk d = if d.sourceCode d.pow.source readOk = 0 then d.setPow { d.pow with phase := 3, failedSlots := [] }
      else d.failAttempt (d.sourceCode d.pow.source readOk) 0 := if_neg (by simp [hphase, hprog])

theorem hostImageTimeout_of_waiting {d : Dev} {t : Nat} (hwait : d.pow.waitFrom = some t) (hphase : d.pow.phase = 1) :
    hostImageTimeout d = (d.at_ (t + sec (d.get 0x130206 0))).failAttempt 0x13 0 := by
  simp only [hostImageTimeout, hwait, hphase, ne_eq, not_true, if_false]

theorem confirmationDeadline_of_running {d : Dev} {t : Nat} (hdl : d.pow.deadline = some t) (hphase : d.pow.phase = 4) :
    confirmationDeadline d = (d.at_ t).failAttempt 0x30 0 := by
  simp only [confirmationDeadline, hdl, hphase, if_true]

/-! ### The self-test -/

theorem startSelfTest_of_failure {d : Dev} (hphase : d.pow.phase = 3) {detail : Nat} (h : detail ≠ 0) (failed : List (Nat × Nat)) :
    startSelfTest detail failed d = d.failAttempt 0x20 detail := by
  simp only [startSelfTest, hphase, h, ne_eq, not_true, not_false_eq_true, if_false, if_true]

/-- RUN begins, unconfirmed. -/
def Dev.runBegun (d : Dev) (failed : List (Nat × Nat)) : Dev :=
  let d := d.setPow { d.pow with phase := 4, deadline := some (d.now + sec 30), broken := failed }
  let d := ((d.setPower 2).put 0x130208 0 (d.pow.source + 1)).put 0x130209 0 (leAt (d.imageBytes d.pow.source 12 4) 0 4)
  let d := d.setTab { d.tab with upSince := some d.now }
  let d := { d with flt := { d.flt with passStart := d.now } }
  d.setPow { d.pow with window := [] }

theorem startSelfTest_eq (detail : Nat) (failed : List (Nat × Nat)) (d : Dev) : startSelfTest detail failed d =
    if d.pow.phase ≠ 3 then d else if detail ≠ 0 then d.failAttempt 0x20 detail
    else failed.foldl (fun d x => d.startFailed x.1 x.2) (d.runBegun failed) := rfl

theorem startSelfTest_of_pass {d : Dev} (hphase : d.pow.phase = 3) : startSelfTest 0 [] d = d.runBegun [] := by
  rw [startSelfTest_eq, if_neg (not_not.mpr hphase), if_neg (not_not.mpr rfl), List.foldl_nil]

theorem runBegun_changesOnly (d : Dev) (failed : List (Nat × Nat)) : d.changesOnly [.dict, .faults, .tab, .pow] (d.runBegun failed) := by
  simp only [Dev.runBegun, fr_setPow, fr_rec_flt, fr_setTab, fr_put, fr_setPower, List.mem_cons, reduceCtorEq, true_or, or_true]
  exact changesOnly_refl _ _

theorem runBegun_spec (d : Dev) (failed : List (Nat × Nat)) : (d.runBegun failed).power = 2 ∧ (d.runBegun failed).pow.phase = 4 ∧
    (d.runBegun failed).pow.deadline = some (d.now + sec 30) ∧ (d.runBegun failed).tab.upSince = some d.now ∧
    (d.runBegun failed).get 0x130208 0 = d.pow.source + 1 := by
  have hget : ∀ o, (d.runBegun failed).get o 0 = (((d.setPower 2).put 0x130208 0 (d.pow.source + 1)).put 0x130209 0
      (leAt (d.imageBytes d.pow.source 12 4) 0 4)).get o 0 := fun _ => rfl
  refine ⟨?_, rfl, rfl, rfl, ?_⟩
  · rw [Dev.power, hget, put_get_obj _ _ (by decide) (by decide) (by decide), put_get_obj _ _ (by decide) (by decide) (by decide),
      Dev.setPower, put_get_same]
  · rw [hget, put_get_obj _ _ (by decide) (by decide) (by decide), put_get_same]

/-! ### Failures and the mirror -/

/-- A counted failure (R499): FAILS and next_slot as shown, the attempt closed, a mirror record begun. -/
theorem failAttempt_get (d : Dev) (code detail : Nat) : (d.failAttempt code detail).get =
    ((d.add 0x130201 0 1).put 0x130202 0 (1 - d.get 0x130202 0)).get := rfl

theorem failAttempt_pow (d : Dev) (code detail : Nat) : (d.failAttempt code detail).pow.isOpen = false ∧
    (d.failAttempt code detail).pow.reason = code ∧ (d.failAttempt code detail).pow.phase = 0 ∧
    (d.failAttempt code detail).pow.programming = true ∧ (d.failAttempt code detail).pow.restart = true ∧
    (d.failAttempt code detail).pow.deadline = none := ⟨rfl, rfl, rfl, rfl, rfl, rfl⟩

theorem mirrorProgramComplete_of_programming {d : Dev} (h : d.pow.programming = true) : mirrorProgramComplete d =
    if d.pow.restart then (d.setPow { d.pow with programming := false, restart := false }).startReset
    else d.setPow { d.pow with programming := false, restart := false } := by
  simp only [mirrorProgramComplete, h, Bool.not_true, Bool.false_eq_true, if_false]

/-- The start due at an instant, by a reset. -/
def Dev.startDue (d : Dev) (t : Nat) : Dev := d.setPow { d.pow with due := some t, cause := 4 }

theorem startReset_eq (d : Dev) : d.startReset = (d.mainReset.setPower 1).startDue ((d.mainReset.setPower 1).now + us 10) := rfl

theorem startDue_spec (d : Dev) (t : Nat) : (d.startDue t).get = d.get ∧ (d.startDue t).pow.due = some t ∧ (d.startDue t).pow.cause = 4 ∧
    (d.startDue t).pow.programming = d.pow.programming ∧ (d.startDue t).pow.phase = d.pow.phase := ⟨rfl, rfl, rfl, rfl, rfl⟩

theorem mainReset_setPower_now (d : Dev) : (d.mainReset.setPower 1).now = d.now :=
  now_of_clock ((put_clock _ _ _ _).trans (mainReset_clock d))

theorem startReset_spec (d : Dev) : d.startReset.power = 1 ∧ d.startReset.pow.due = some (d.now + us 10) ∧ d.startReset.pow.cause = 4 ∧
    d.startReset.pow.programming = false ∧ d.startReset.pow.phase = 0 := by
  obtain ⟨hget, hdue, hcause, hprog, hphase⟩ := startDue_spec (d.mainReset.setPower 1) (d.now + us 10)
  have hpow : (d.mainReset.setPower 1).pow = d.mainReset.pow := put_pow _ _ _ _
  rw [startReset_eq, mainReset_setPower_now, Dev.power, hget, hdue, hcause, hprog, hphase, hpow, mainReset_pow, Dev.setPower, put_get_same]
  exact ⟨rfl, rfl, rfl, rfl, rfl⟩

theorem slotVerifyComplete_of_verifying {d : Dev} {slot : Nat} (readOk : Bool) (h : d.pow.verifying.contains slot = true) :
    slotVerifyComplete slot readOk d =
      let e := d.setPow { d.pow with verifying := d.pow.verifying.filter (· != slot) }
      (e.put 0x131102 slot (if d.sourceCode slot readOk = 0 then 3 else 4)).put 0x131103 slot (d.sourceCode slot readOk) :=
  if_neg (by simpa using h)

/-- Settles O53: the attempt's begin, its verification, self-test and deadline, and what a counted failure leaves. -/
theorem startAttempts : Obligations.StartAttempts := by
  intro s hpor
  refine ⟨fun sel t hdue hmain hrst => ?begin_, fun readOk hphase hprog => ⟨fun hc => gives_of_exec_eq_run rfl hpor
    ((firmwareVerifyComplete_of_verifying readOk hphase hprog).trans (if_pos hc)), fun hc => gives_of_exec_eq_run rfl hpor
    ((firmwareVerifyComplete_of_verifying readOk hphase hprog).trans (if_neg hc))⟩, fun t hwait hphase =>
    gives_of_exec_eq_run rfl hpor (hostImageTimeout_of_waiting hwait hphase), fun hphase => ⟨fun detail failed hd => ?failed, ?passed⟩,
    fun t hdl hphase => gives_of_exec_eq_run rfl hpor (confirmationDeadline_of_running hdl hphase), fun d code detail => ?failure,
    fun hprog => ⟨fun h => gives_of_exec_eq_run rfl hpor ((mirrorProgramComplete_of_programming hprog).trans (if_neg (by simp [h]))),
      fun h => ?restarted⟩, fun slot readOk h => gives_of_exec_eq_run rfl hpor (slotVerifyComplete_of_verifying readOk h)⟩
  case begin_ =>
    intro d0 d1 d
    have hop : startAttempt sel s.dev = if sel.val = 3 then d.lantern 7
        else if d.get 0x130203 0 ≤ d.get 0x130201 0 then d.lantern 6 else d.attemptBegun sel := by
      rw [startAttempt_eq]
      simp only [hdue, hmain, hrst, Option.isSome_none, Bool.or_self, Bool.false_eq_true, if_false]
      rfl
    refine ⟨fun h => ?_, fun h hf => ?_, fun h hf => ?_⟩
    · exact gives_of_exec_eq_run rfl hpor (hop.trans (if_pos (by simp [h])))
    · exact gives_of_exec_eq_run rfl hpor (hop.trans ((if_neg fun h' : sel.val = 3 => h (Fin.ext h')).trans (if_pos hf)))
    · refine runs_of_exec_eq_run (g := startAttempt sel) rfl hpor ?_
      rw [hop, if_neg fun h' : sel.val = 3 => h (Fin.ext h'), if_neg (not_le.mpr hf)]
      obtain ⟨hnum, hopen, hlost, htim, hsource, hphase⟩ := attemptBegun_spec d sel
      have hcount : d.get 0x130204 0 = s.dev.get 0x130204 0 := attemptShown_get (s.dev.at_ t) sel (by decide) (by decide)
      have hslot : d.get 0x130202 0 = s.dev.get 0x130202 0 := attemptShown_get (s.dev.at_ t) sel (by decide) (by decide)
      refine ⟨by rw [hnum, hcount], hopen, hlost, by rw [Dev.now, htim, Dev.now], fun h => ?_, fun h => ?_, fun h => ?_, fun h => ?_⟩
      · rw [hsource, h]
        exact nextSource_one _
      · rw [hsource, h, ← hslot]
        exact (nextSource_zero _).trans (add_get_obj _ _ (by decide) (by decide) (by decide))
      · rw [hphase, if_pos (hsource.symm.trans h)]
      · rw [hphase, if_neg fun h' => h (hsource.trans h')]
  case failed =>
    exact gives_of_exec_eq_run rfl hpor (startSelfTest_of_failure hphase (fun h => hd (Fin.ext h)) _)
  case passed =>
    refine runs_of_exec_eq_run (g := startSelfTest 0 []) rfl hpor ?_
    rw [startSelfTest_of_pass hphase]
    obtain ⟨hpower, hph, hdl, hup, hslot⟩ := runBegun_spec s.dev []
    exact ⟨hpower, hph, hdl, hup, hslot, runBegun_changesOnly _ _⟩
  case failure =>
    intro e
    obtain ⟨hopen, hreason, hphase, hprog, hrestart, hdl⟩ := failAttempt_pow d code detail
    refine ⟨?_, ?_, hopen, hreason, hphase, hprog, hrestart, hdl, (fr_failAttempt _ _ _ (by decide) (by decide)).mpr (changesOnly_refl _ _)⟩
    · rw [failAttempt_get, put_get_obj _ _ (by decide) (by decide) (by decide), add_get_same, objBits_attempt.2]
    · rw [failAttempt_get, put_get_same]
  case restarted =>
    refine runs_of_exec_eq_run (g := mirrorProgramComplete) rfl hpor ?_
    rw [mirrorProgramComplete_of_programming hprog, if_pos h]
    exact startReset_spec _

end Sys2Proof.Machine

/-! PROOFS. Frames of the sideband SPI: committed, fetched, cleared and discarded. -/
namespace Sys2Proof.Machine

theorem map_toNat_mod (words : List Word) : (words.map BitVec.toNat).map (· % 4294967296) = words.map BitVec.toNat := by
  rw [List.map_map]
  exact List.map_congr_left fun w _ => Nat.mod_eq_of_lt w.isLt

/-- A frame of a number of edges that is at least one word, its MISO words sent. -/
def Dev.spiTaken (d : Dev) (ws : List Nat) (n e : Nat) : Dev :=
  if e < 32 * n ∧ e % 32 ≠ 0 then d.sbDiscard sbFraming
  else if e < 32 * n then d.sbDiscard sbShort
  else if (spiFrame.padTo4 ws n).getLast? ≠ some (spiCrc (ws.take (n - 1))) then d.sbDiscard sbCrcErr
  else if bits (ws.getD 0 0) 28 4 = 1 ∧ d.spi.busy then d.sbDiscard sbRefused
  else (if 32 * n < e then d.sbFlag sbExtra else d).spiCommit ws

section
variable {words : List Word} {ws : List Nat} {n e : Nat} (d : Dev)

/-- A command word that names a length decides by the edges, the CRC word and BUSY (R521, R524). -/
theorem spiFrame_of_spiLen (hws : words.map BitVec.toNat = ws) (hlen : spiLen (ws.getD 0 0) = some n) (he : 32 ≤ e) :
    spiFrame ws e d = (d.emit (.miso (d.miso ws e))).spiTaken ws n e := by
  have hmod : ws.map (· % 4294967296) = ws := hws ▸ map_toNat_mod words
  have hzero : ¬ (e == 0) = true := by simp; omega
  rw [spiFrame, if_neg hzero]
  simp only [hmod, if_neg (show ¬ e < 32 by omega), hlen]
  rfl

theorem padTo4_of_length (h : ws.length = n) : spiFrame.padTo4 ws n = ws := by
  rw [spiFrame.padTo4, List.take_of_length_le h.le, h, Nat.sub_self, List.replicate_zero, List.append_nil]

theorem spiTaken_of_fewer (he : e < 32 * n) : d.spiTaken ws n e = if e % 32 = 0 then d.sbDiscard sbShort else d.sbDiscard sbFraming := by
  by_cases h : e % 32 = 0
  · rw [Dev.spiTaken, if_neg fun h' => h'.2 h, if_pos he, if_pos h]
  · rw [Dev.spiTaken, if_pos ⟨he, h⟩, if_neg h]

/-- A frame of exactly the edges of its length. -/
theorem spiTaken_exact (hn : ws.length = n) : d.spiTaken ws n (32 * n) =
    if ws.getLast? ≠ some (spiCrc (ws.take (n - 1))) then d.sbDiscard sbCrcErr
    else if bits (ws.getD 0 0) 28 4 = 1 ∧ d.spi.busy then d.sbDiscard sbRefused
    else d.spiCommit ws := by
  rw [Dev.spiTaken, if_neg fun h => lt_irrefl _ h.1, if_neg (lt_irrefl _), padTo4_of_length hn]
  simp only [if_neg (lt_irrefl (32 * n))]

theorem spiCommit_of_fetch (h : bits (ws.getD 0 0) 28 4 = 2) : d.spiCommit ws = d := by
  simp only [Dev.spiCommit, h]

theorem spiCommit_of_request (h : bits (ws.getD 0 0) 28 4 = 1) : d.spiCommit ws = d.submit .spi (spiReq ws) := by
  simp only [Dev.spiCommit, h]

theorem spiCommit_of_clear (h : bits (ws.getD 0 0) 28 4 = 3) : d.spiCommit ws =
    { d with spi := { d.spi with flags := clearBits d.spi.flags (bits (ws.getD 0 0) 0 6) } } := by
  simp only [Dev.spiCommit, h]

end

/-- Settles O54: a frame whose command word names its length is judged by its edges, its CRC word and BUSY, in that order. -/
theorem spiFrames : Obligations.SpiFrames := by
  intro s words n hpor ws d hlen hwords hn
  have hexact : spiFrame ws (32 * n) s.dev = _ := (spiFrame_of_spiLen (words := words) s.dev rfl hlen (by omega)).trans
    (spiTaken_exact d (by rw [List.length_map, hwords]))
  have hrun : ∀ {c : Instr} {e : Dev}, exec c s = run s (spiFrame ws (32 * n)) → _ = e → Gives c s e :=
    fun hc h => gives_of_exec_eq_run hc hpor (hexact.trans h)
  refine ⟨fun hcrc => ?committed, fun hcrc => ?crc, fun e he hfew => ?fewer, fun _ => rfl⟩
  case committed =>
    have hfound : ¬ ws.getLast? ≠ some (spiCrc (ws.take (n - 1))) := not_not.mpr hcrc
    refine ⟨fun hop hbusy => ?_, fun hop hbusy => ?_, fun hop => ?_, fun hop => ?_⟩
    · have hidle : ¬ (bits (ws.getD 0 0) 28 4 = 1 ∧ d.spi.busy = true) := fun h => absurd (hbusy.symm.trans h.2) (by decide)
      exact hrun rfl ((if_neg hfound).trans ((if_neg hidle).trans (spiCommit_of_request d hop)))
    · exact hrun rfl ((if_neg hfound).trans (if_pos ⟨hop, hbusy⟩))
    · have hfetch : ¬ (bits (ws.getD 0 0) 28 4 = 1 ∧ d.spi.busy = true) := fun h => absurd (hop.symm.trans h.1) (by decide)
      exact hrun rfl ((if_neg hfound).trans ((if_neg hfetch).trans (spiCommit_of_fetch d hop)))
    · have hclear : ¬ (bits (ws.getD 0 0) 28 4 = 1 ∧ d.spi.busy = true) := fun h => absurd (hop.symm.trans h.1) (by decide)
      exact hrun rfl ((if_neg hfound).trans ((if_neg hclear).trans (spiCommit_of_clear d hop)))
  case crc => exact ⟨hrun rfl (if_pos hcrc), hrun rfl (if_pos hcrc), hrun rfl (if_pos hcrc)⟩
  case fewer =>
    exact gives_of_exec_eq_run rfl hpor ((spiFrame_of_spiLen (words := words) s.dev rfl hlen he).trans (spiTaken_of_fewer _ hfew))

end Sys2Proof.Machine
